-- ==== Sys2Proof/Word.lean ====
section
/-! DEFINITION. The word types of the HZ7192: 32-bit registers and moves, 8-bit bytes. -/
namespace Sys2Proof

/-- A register word (R7: register width 32 bits). -/
abbrev Word := BitVec 32

/-- A byte. -/
abbrev Byte := BitVec 8

/-- A port number P000–P191 (R7). -/
abbrev PortId := Fin 192

/-- A tile number T0–T7 (R7). -/
abbrev TileId := Fin 8

/-- A policy core M0–M3 (R7). -/
abbrev CoreId := Fin 4

end Sys2Proof
end

