-- ==== Sys2Proof/Types.lean ====
section
/-! DEFINITION. The closed sets of names, the operand records and the ring-entry records of the HZ7192, each with
the rule of spec/ that lists it. -/
namespace Sys2Proof.Machine

/-- Line code of one CC line in one watch sample (R33). -/
inductive LineCode | opn | rd | ra | driven
deriving DecidableEq, Repr, Inhabited

/-- Partner type code (R35). -/
inductive Partner | none | sink | sinkPoweredCable | cableOnly | debugAcc | audioAcc | ccDriven | bootSink
deriving DecidableEq, Repr, Inhabited

/-- Attach state of PP_CC_STATUS (R57). -/
inductive CcState | disabled | watch | rpHold | attachWait | attached | bootRd | bootSink | ccHoldOff | detaching | lockedOut
deriving DecidableEq, Repr, Inhabited

/-- Rp level in force (R43, PP_CC_STATUS.RP_LEVEL). -/
inductive RpLevel | off | dflt | a15 | a30
deriving DecidableEq, Repr, Inhabited

/-- SOP* of a frame (R61); the two debug types are recognised only to be ignored. -/
inductive Sop | sop | sopP | sopPP | sopPDbg | sopPPDbg
deriving DecidableEq, Repr, Inhabited

/-- Which message table a port runs (R84, R85, PP_PD_STATUS.TABLE). -/
inductive MtTable | rom | ram | hold
deriving DecidableEq, Repr, Inhabited

/-- Policy state (R97). -/
inductive PolState | detached | startup | sendCaps | negotiate | transition | ready | readyEpr | softReset | hardReset | errorRecovery | typecOnly | vconnSwap | held
deriving DecidableEq, Repr, Inhabited

/-- Contract kind (R87, PP_CONTRACT.KIND). -/
inductive CKind | none | fixed | pps | avs
deriving DecidableEq, Repr, Inhabited

/-- Cable class (R136). -/
inductive CableClass | unknown | noEmarker | silent | vpd | cable3A | cable5A | cableEpr | malformed
deriving DecidableEq, Repr, Inhabited

/-- Contract-mirror window (R165). -/
inductive Window | off | steady | span
deriving DecidableEq, Repr, Inhabited

/-- Step-table signal codes (R163). -/
inductive Signal | vsafe5vOk | transitionDone | transitionFail | vsafe0vOk | retryQualified | retryFailed | limitSet | vconnReady | vconnFail | vconnOff | rpSet | refused
deriving DecidableEq, Repr, Inhabited

/-- Trip causes (R177). -/
inductive TripCause | none | fast | breaker | overvolt | reverse | undervolt | stepTimeout | interlock | vconnOc
deriving DecidableEq, Repr, Inhabited

/-- Lockout causes of PP_RETRY.LOCK (R481). -/
inductive LockCause | none | retryExhausted | cmpStuck | dacFault | stuckSwitch
deriving DecidableEq, Repr, Inhabited

/-- CONTRACT_LOST causes (R118). -/
inductive LostCause | hardResetSent | hardResetReceived | errorRecovery | ppsTimeout | eprKeepalive | holdExpired | portDisabled | shedDisconnect | trip | profileChange | ccOvervolt | lockout
deriving DecidableEq, Repr, Inhabited

/-- ATTACH outcome (R179). -/
inductive AttachOutcome | vsafe5v | failed | lockedOut
deriving DecidableEq, Repr, Inhabited

/-- Allocation state (R215). -/
inductive SbState | disabled | idle | unfunded | funded | decreasing | shed | tripped
deriving DecidableEq, Repr, Inhabited

/-- Feed state (R187). -/
inductive FeedState | disabled | waitWindow | insertDelay | standby | inrush | active | opening | backoff
deriving DecidableEq, Repr, Inhabited

/-- Feed cause (R195). -/
inductive FeedCause | none | fast | breaker | overvolt | undervolt | reverse | inrushTimeout | unseated | hostDisable | priorityReturn | stuckBank
deriving DecidableEq, Repr, Inhabited

/-- The two feeds (R185). -/
inductive FeedId | fda | fdb
deriving DecidableEq, Repr, Inhabited

/-- Huddle state (R357). -/
inductive HuddleState | empty | staged | checked | armed | committed
deriving DecidableEq, Repr, Inhabited

/-- Kickoff source (R363; HD_STAT.SOURCE). -/
inductive KickSource | nextBoundary | atTime | kick
deriving DecidableEq, Repr, Inhabited

/-- Ring state (R353 HL_RINGn_STATE). -/
inductive RingState | disabled | running | phaseWait | waitDoorbell | draining | full
deriving DecidableEq, Repr, Inhabited

/-- Completion codes (R339). -/
inductive CplCode | ok | abortedDisabled | cancelled | badField | unknownOp | notPermitted | busy | timeout | huddleFail | partnerReject | partnerWait | notSupportedByPartner | fenced | chainIncomplete | safetyBlock | resource
deriving DecidableEq, Repr, Inhabited

/-- NOT_PERMITTED reasons (R340); `none` stands for the value 0 of the detail byte. -/
inductive NpReason | none | noSession | level | notUnlocked | lockedOut | passwordChangeDue | proofFail | state
deriving DecidableEq, Repr, Inhabited

/-- Event classes of a port's queue (R300). -/
inductive QClass | fault | timer | message | host | housekeeping
deriving DecidableEq, Repr, Inhabited

/-- Session level (R351, R443). -/
inductive Level | none | view | tech | factory
deriving DecidableEq, Repr, Inhabited

/-- Tile-link state (R484 TL_LINK_STATn). -/
inductive LinkState | down | training | up | lost | reloading
deriving DecidableEq, Repr, Inhabited

/-- Device state (R400); DEEP is never reported. -/
inductive DevState | deep | idle | run
deriving DecidableEq, Repr, Inhabited

/-- Core state (R295 PC_CORE_STATn). -/
inductive CoreState | off | idle | run | stall
deriving DecidableEq, Repr, Inhabited

/-- Context-fault cause (R292). -/
inductive CtxCause | illegal | port | seg | overrun | trap | ecc
deriving DecidableEq, Repr, Inhabited

/-- UPDATE_STATE codes (R467). -/
inductive UpdState | none | downloading | staged | scheduled | activating | trial | confirmed | reverted | failed | recovery | floorAdvanced | cancelled
deriving DecidableEq, Repr, Inhabited

/-- Image slot (R454). -/
inductive Slot | a | b
deriving DecidableEq, Repr, Inhabited

/-- Fuse result codes (R435). -/
inductive FuseResult | none | ok | notPermitted | locked | integrity | verifyFail | env | bad
deriving DecidableEq, Repr, Inhabited

/-- LANE_DRIFT causes (R263). -/
inductive DriftCause | vbus | current | calFail | verifyFail | subFault | adcFault | recalibrated
deriving DecidableEq, Repr, Inhabited

/-- LANE_DRIFT outcomes (R263). -/
inductive DriftOutcome | none | corrected | limited
deriving DecidableEq, Repr, Inhabited

/-- Substitute-lane phase (R266 MS_ROT_STATn.PHASE). -/
inductive LanePhase | compare | cal | verify | self
deriving DecidableEq, Repr, Inhabited

/-- ALLOC_CHANGE kinds (R239). -/
inductive AllocKind | increase | decreaseDecided | decreaseConfirmed | decreaseCancelled
deriving DecidableEq, Repr, Inhabited

/-- SHED causes (R239). -/
inductive ShedCause | vsafe5v | emergency | noFeed
deriving DecidableEq, Repr, Inhabited

/-- NAK codes of the service port (R442). -/
inductive Nak | noSession | level | unknown | badField | busy | lockedOut | proofFail | passwordChangeDue | notUnlocked | state | sequence | image
deriving DecidableEq, Repr, Inhabited

/-- Reply given in hold (R86, MSG.RXINFO.HOLD_REPLY). -/
inductive HoldReply | none | acceptPsRdy | keepAliveAck | acceptSoftReset | wait
deriving DecidableEq, Repr, Inhabited

/-- Command types of a structured VDM answer (R134). -/
inductive VdmAnswer | ack | nak | busy
deriving DecidableEq, Repr, Inhabited

/-- Emergency / thermal causes of THERMAL_DERATE (R342). -/
inductive DerateCause | model | ntcFault
deriving DecidableEq, Repr, Inhabited

/-- Fall-back mode (R419, R468). -/
inductive Fallback | autoFallback | romRecovery | both
deriving DecidableEq, Repr, Inhabited

/-- Capture trigger (R249). -/
inductive CapTrigger | immediate | trip | vbAbove | vbBelow | ibAbove | tableStart | kickoff
deriving DecidableEq, Repr, Inhabited

/-- A trip's or a lockout's step purpose posted to the power-path sequencer (R167). -/
inductive Purpose | attach | fixed | prog | hardReset | errRec | probe | limit | vconnOn | vconnOff | rpLevel | disc
deriving DecidableEq, Repr, Inhabited

/-- What holds a tile's safe wire SAFE_Tn asserted (R379, R383, R387, R514). -/
inductive WireCause | selfTest | digestLost | supply | romTile | port | clock
deriving DecidableEq, Repr, Inhabited

/-- How a fuse operation or a host wait ended is in `CplCode`; this is what a waiting descriptor waits for (R332, R336). -/
inductive WaitFor | vsafe0v | vsafe5v | txOk | reply | vdmReply | swap | cable | kickoff | capture | feedReady (f : FeedId) | feedOff (f : FeedId) | pages | staged | applied | snapshot | ctxOut | tlm
deriving DecidableEq, Repr, Inhabited

/-- PD message kinds by the name the spec gives them (R125 and its neighbours). -/
inductive MsgKind
  | goodCrc | accept | reject | wait | notSupported | psRdy | ping | gotoMin | softReset
  | getSourceCap | getSinkCap | getSourceCapExt | getStatus | getPpsStatus | getSourceInfo | getRevision
  | getManufacturerInfo | getCountry | getBatteryCap | getBatteryStatus | getSinkCapExt
  | sourceCaps | request | bist | sinkCaps | batteryStatus | alert | enterUsb | eprRequest | eprMode | sourceInfo | revision
  | vdm | sourceCapExt | status | batteryCap | manufacturerInfo | securityRequest | firmwareUpdate | ppsStatus
  | countryInfo | sinkCapExt | extendedControl | eprGetSourceCap | eprGetSinkCap | eprKeepAlive | eprKeepAliveAck
  | eprSourceCaps | eprSinkCaps | vconnSwap | prSwap | drSwap | frSwap | dataReset | dataResetComplete | other
deriving DecidableEq, Repr, Inhabited

/-- Payload of an event-ring entry (R342), one constructor per event code. Voltages are in the units of R342. -/
inductive EvtBody
  | attach (partner : Partner) (cc2 : Bool) (outcome : AttachOutcome)
  | detach (mid : Bool) (partner : Partner)
  | contract (pos : Nat) (kind : CKind) (rev3 epr : Bool) (mv20 ma10 power : Nat)
  | contractLost (cause : LostCause)
  | trip (cause : TripCause) (seg : Nat) (peak5 : Int)
  | retry (f : Nat) (cause : TripCause) (secs : Nat)
  | lockout (cause : LockCause) (index : Nat)
  | stuckSwitch (mv20 : Nat)
  | overvolt (ccLine : Option Nat) (mv20 : Nat)
  | reverse (ma5 : Nat)
  | allocChange (kind : AllocKind) (step old new : Nat)
  | shed (cause : ShedCause) (stage cls : Nat)
  | laneDrift (cause : DriftCause) (outcome : DriftOutcome) (dv di : Int)
  | ctxFault (cause : CtxCause) (sub core offset : Nat) (word : BitVec 32) (trap : BitVec 16)
  | summary (map : BitVec 192) (dev : Bool)
  | hostlinkStall (ring : Nat) (idx : BitVec 16)
  | settingsDefaulted (stored expects : BitVec 32)
  | fuseWeak (region bit flags : Nat)
  | feedChange (feed : FeedId) (cause : FeedCause) (st : FeedState) (active : Option FeedId) (v10 : Nat)
  | kickoffDone (src : KickSource) (tag : BitVec 16)
  | huddleFail (code : Nat) (loc : BitVec 32)
  | vdm (sub : Nat) (sop : Sop) (hdr : BitVec 32)
  | cableIdentified (cls : CableClass) (vid pid : BitVec 16) (vdo : BitVec 32)
  | thermalDerate (cause : DerateCause) (row : Nat) (t16 : Int) (cap : Nat)
  | updateState (st : UpdState) (ver : BitVec 32)
  /-- The eight words of a record that firmware posts (R289). -/
  | firmware (words : List (BitVec 32))
deriving DecidableEq, Repr, Inhabited

/-- One event as it stands in the EVT ring or the backlog (R341). -/
structure Evt where
  /-- Port, or `none` for the device (0xFFFF). -/
  port : Option (Fin 192)
  body : EvtBody
  /-- Time of the happening, in 32.768 kHz cycles of the RTC (R340). -/
  time : Nat
  /-- Sequence number given when written (R341). -/
  seq : BitVec 16 := 0
  backlog : Bool := false
  reserved : Bool := false
deriving DecidableEq, Repr, Inhabited

/-- A completion entry (R338). -/
structure Cpl where
  op : BitVec 8
  chain : Bool
  tag : BitVec 16
  port : BitVec 16
  code : CplCode
  detail : BitVec 8
  ring : Nat
  idx : BitVec 16
  /-- Result data, bytes 16 on. -/
  data : List (BitVec 8)
deriving DecidableEq, Repr, Inhabited

/-- A telemetry entry (R346): 16 samples of voltage and current in the units of R346. -/
structure TlmRec where
  port : Fin 192
  gap : Bool
  decim : Nat
  rate : Nat
  sub : BitVec 16
  peak5 : Int
  time : Nat
  samples : List (Nat × Int)
deriving DecidableEq, Repr, Inhabited

/-- An entry of the MSI-X table (R320): message address and data, and the mask bit of its vector control. -/
structure MsixEntry where
  addr : BitVec 64
  data : BitVec 32
  mask : Bool
deriving DecidableEq, Repr, Inhabited

/-- A record in the telemetry buffer (R347): the slot of 64 bytes it lies in, and its ring, 0 to 3. -/
structure TlmCell where
  slot : Nat
  ring : Nat
  record : TlmRec
deriving DecidableEq, Repr, Inhabited

/-- A capture entry (R348). -/
structure CapRec where
  port : Fin 192
  number : Nat
  gap : Bool
  trigger : Option Nat
  last : Bool
  rate : Nat
  chans : Nat
  time : Nat
  readings : List Int
deriving DecidableEq, Repr, Inhabited

/-- A message-ring entry (R337): kind REPLY when `tag` is given, PASSTHRU otherwise. -/
structure RxRec where
  port : Fin 192
  tag : Option (BitVec 16)
  lost : Bool
  sop : Sop
  hold : HoldReply
  time : Nat
  hdr : BitVec 16
  data : List (BitVec 8)
deriving DecidableEq, Repr, Inhabited

/-- What the device has written into a device ring and the host has not yet freed (R322). -/
inductive OutEntry
  | cpl (c : Cpl)
  | evt (e : Evt)
  | tlm (r : TlmRec)
  | cap (r : CapRec)
  | rx (r : RxRec)
  /-- The eight words of a completion record that firmware posts (R289). -/
  | record (words : List (BitVec 32))
deriving DecidableEq, Repr, Inhabited

/-- A command or message descriptor as the DMA reads it (R331, R335): the common header's fields and the bytes from byte 8 on. A byte not given reads 0. -/
structure Desc where
  /-- Host ring it lies in (0, 1, 9 or 10). -/
  ring : Nat
  /-- Its ring index. -/
  idx : BitVec 16
  op : BitVec 8
  flags : BitVec 8
  tag : BitVec 16
  port : BitVec 16
  rsv : BitVec 16
  body : List (BitVec 8)
deriving DecidableEq, Repr, Inhabited

/-- A PD message (R60 on): its SOP*, its kind, the message header, and the bytes that follow the header. -/
structure Msg where
  sop : Sop
  kind : MsgKind
  hdr : BitVec 16
  data : List (BitVec 8)
deriving DecidableEq, Repr, Inhabited

/-- A request posted to the power-path sequencer (R167). -/
structure Post where
  purpose : Purpose
  /-- Posted target, mV. -/
  mv : Nat
  /-- Posted current, mA. -/
  ma : Nat
  kind : CKind
  /-- Rp level, for ST09. -/
  rp : RpLevel
  /-- Lowest voltage PPS regulation may fold to (R173), mV. -/
  minMv : Nat
deriving DecidableEq, Repr, Inhabited

/-- One event of a port's queue (R300). -/
structure QEv where
  cls : QClass
  code : Nat
  tag : BitVec 16
  data : BitVec 32
  /-- Message-store cells the event holds (R303). -/
  cells : Nat
  /-- The cells it holds: the port's own, numbered as the port, and shared ones from 192 on (R303). -/
  store : List Nat
  /-- Promotions under AGE_PROMOTE so far (R304). -/
  aged : Nat
  /-- Number of its arrival among the events of the device (R304). -/
  since : Nat
  /-- AON cycle in which it was queued (R304). -/
  born : Nat
  /-- The received message of an RX event. -/
  msg : Option Msg
  /-- The descriptor of a HOST event. -/
  desc : Option Desc
deriving DecidableEq, Repr, Inhabited

/-- A counter with its OVF bit (R474). -/
structure Cnt where
  n : Nat
  ovf : Bool
deriving DecidableEq, Repr, Inhabited

/-- What the policy waits for after one of its own messages (R116, R121, R134). -/
inductive Expect
  | none | request | acceptSoft | sinkCaps | status | swapReply | swapPsRdy | vdm | hostReply
  /-- Accept of a Request; Accept of a repeat Request; Accept of a Soft_Reset; Accept of a swap; Reject of a Request; an offer
that answers and starts no negotiation. -/
  | acceptReq | acceptRepeat | acceptSoftRx | acceptSwap | rejectReq | offered
  /-- Enter Acknowledged, Enter Succeeded and Exit of EPR_Mode; PS_RDY of a negotiation and of a swap; a PD_SEND with no reply asked. -/
  | enterAck | enterOk | exitSent | psRdyReq | psRdySwap | hostOk
deriving DecidableEq, Repr, Inhabited

/-- The frame a port's transmitter last sent or is sending (R77). -/
inductive FrameOut | none | buffer | goodCrc | chunk (n : Nat) | chunkReq (n : Nat) | hardReset
deriving DecidableEq, Repr, Inhabited

/-- A message handed to the protocol sequencer for sending (R68, R87): flags AMS_START and AMS_END, and the contract kind that a PS_RDY carries. -/
structure TxMsg where
  sop : Sop
  kind : MsgKind
  /-- Extended message (its data is chunked by 26 bytes, R73). -/
  ext : Bool
  data : List (BitVec 8)
  amsStart : Bool
  amsEnd : Bool
  ckind : CKind
  /-- What the policy expects after its GoodCRC. -/
  expect : Expect
  /-- Message header as given, for a raw message (R290, R335). -/
  raw : Option (BitVec 16)
  /-- Extended header as given, for a raw extended message. -/
  rawExt : Option (BitVec 16) := none
deriving DecidableEq, Repr, Inhabited

/-- An assembly of a chunked message in the receive buffer (R74). -/
structure Assembly where
  msg : Msg
  /-- Data Size of the extended header. -/
  size : Nat
  /-- Number of the next chunk due. -/
  next : Nat
deriving DecidableEq, Repr, Inhabited

/-- The policy's step of SOP discovery (R140). -/
inductive SopStep | idle | waitCable | identity | svids (n : Nat) | modes | enter | ended
deriving DecidableEq, Repr, Inhabited

/-- A structured VDM request of the device that awaits its answer (R134). -/
inductive VdmReq | none | cableIdentity | cableEprCheck | sopIdentity | sopSvids | sopModes | sopEnter | sopExit | notice | curtail | restore | hostVdm
deriving DecidableEq, Repr, Inhabited

/-- A partner's answer to a raw message of the host (R127, R336). -/
inductive ReplyKind | ok | reject | wait | notSupported
deriving DecidableEq, Repr, Inhabited

/-- A RAM step table ST16–ST31, held alike in all eight tiles (R158, R170). -/
structure StepTable where
  entries : List (BitVec 64)
  crc : BitVec 32
  valid : Bool
deriving DecidableEq, Repr, Inhabited

/-- A chain open on a host ring (R333, R334). -/
structure Chain where
  /-- Host ring it came on. -/
  ring : Nat
  op : BitVec 8
  tag : BitVec 16
  head : BitVec 16
  irq : Bool
  port : BitVec 16
  /-- Bytes 8, 10–13 and 16–19 that every descriptor must repeat: table or mask, total entries, CRC. -/
  target : Nat
  total : Nat
  crc : BitVec 32
  entries : List (BitVec 64)
  /-- BUSY was decided at the head (R83, R170, R333). -/
  busy : Bool
  /-- AON cycle in which the head was fetched (R334). -/
  since : Nat
deriving DecidableEq, Repr, Inhabited

/-- One of the 14 rings (R322–R329, R353). -/
structure Ring where
  baseLo : BitVec 32
  baseHi : BitVec 32
  enable : Bool
  size : Nat
  vector : Nat
  irqTime : Nat
  irqCount : Nat
  hostIdx : BitVec 16
  devIdx : BitVec 16
  state : RingState
  stallIdx : BitVec 16
  /-- AON cycle in which fetching stopped there (R329). -/
  stallAt : Nat
  chain : Option Chain
  /-- Tag of a chain discarded on this ring whose later descriptors complete BAD_FIELD (R334). -/
  badTag : Option (BitVec 16)
  /-- Entries written since the last MSI-X message (R345). -/
  unsig : Nat
  /-- Entries written by the device and not yet freed by the host, oldest first, each with its PHASE (R325). -/
  out : List (Bool × OutEntry)
  /-- Parity of the passes of the 16-bit device index (R325); it decides the PHASE of a ring of 2^16 entries. -/
  wraps : Bool
deriving DecidableEq, Repr, Inhabited

/-- A descriptor whose completion waits (R330). -/
structure Waiting where
  op : BitVec 8
  ring : Nat
  idx : BitVec 16
  tag : BitVec 16
  portField : BitVec 16
  irq : Bool
  /-- Port whose happening ends it. -/
  port : Option (Fin 192)
  what : WaitFor
  /-- Further ports whose happenings it still awaits (R332, port 0xFFFF). -/
  also : List (Fin 192)
  /-- Code and result data it completes with where every happening has been good. -/
  code : CplCode
  data : List (BitVec 8)
  /-- AON cycle at which it started. -/
  since : Nat
deriving DecidableEq, Repr, Inhabited

/-- A write staged in the huddle (R355): BAR0 offset and value. -/
structure Staged where
  offset : Nat
  value : BitVec 32
deriving DecidableEq, Repr, Inhabited

/-- A BMC frame as it ends on a port's active line (R63, R64). -/
structure FrameIn where
  sop : Sop
  /-- Every symbol decoded. -/
  codeOk : Bool
  /-- The EOP is present. -/
  eop : Bool
  hdr : BitVec 16
  /-- Bytes after the message header and before the CRC. -/
  data : List (BitVec 8)
  crc : BitVec 32
  /-- Mean of the two peak averages in mV, when training had its 16 transitions before bit 40 (R63). -/
  mean : Option Nat
  /-- How many changes of SLICER_MODE have been taken up since its first transition (R94). -/
  early : Nat
deriving DecidableEq, Repr, Inhabited

/-- Conversion coefficients of a lane (R245, R258): gain in V per code at the divider output or amplifier input, and zero code, for voltage and current. -/
structure Coef where
  gv : Rat
  zv : Int
  gi : Rat
  zi : Int
deriving DecidableEq, Repr, Inhabited

/-- Where a capture stands (R250). -/
inductive CapPhase | armed | running | writing
deriving DecidableEq, Repr, Inhabited

/-- A capture armed on a tile (R249, R250). -/
structure Capture where
  port : Fin 192
  chans : Nat
  rate : Nat
  len : Nat
  trigger : CapTrigger
  pre : Nat
  thresh : Nat
  phase : CapPhase
  /-- Records not yet written to the CAP ring, oldest first. -/
  left : List CapRec
  /-- Records written. -/
  written : Nat
  /-- Snapshots latched in capture mode since the trigger, and before it (R252). -/
  snaps : Nat
  snapsPre : Nat
deriving DecidableEq, Repr, Inhabited

/-- A region of the fuse array, by code (R416). -/
inductive FuseRegion | factory | ident | keyhash | unitkey | patch | floor | oem | locks
deriving DecidableEq, Repr, Inhabited

/-- A fuse operation (R421). -/
inductive FuseOp | program | integrity | lock | forceLock | readLock | reinforce | audit | floorAdvance
deriving DecidableEq, Repr, Inhabited

/-- Status of a region (R426). -/
inductive RegionStatus | blank | checked | locked | lockedIncomplete | alarm
deriving DecidableEq, Repr, Inhabited

/-- How a logical bit's two copies read at margin-low, normal and margin-high reference (R427). -/
structure FuseRead where
  bit : Fin 8192
  aLow : Bool
  aNorm : Bool
  aHigh : Bool
  bLow : Bool
  bNorm : Bool
  bHigh : Bool
deriving DecidableEq, Repr, Inhabited

/-- A copy that still fails verification after its repeat pulses (R422), and how it then reads at margin-low and normal reference. -/
structure FuseFail where
  bit : Fin 8192
  copyB : Bool
  low : Bool
  norm : Bool
deriving DecidableEq, Repr, Inhabited

/-- An operation of the fuse controller that runs or is held behind an audit (R421, R436). -/
structure FuseJob where
  op : FuseOp
  /-- Region code as written, 0–15. -/
  region : Fin 16
  addr : BitVec 8
  data : BitVec 32
  /-- Logical bits still to program, in the order of R422. -/
  todo : List (Fin 8192)
  /-- Started by the update agent (R463). -/
  agent : Bool
  /-- Started by a service command, with its sequence number (R443). -/
  svc : Option (BitVec 8)
deriving DecidableEq, Repr, Inhabited

/-- A port timer that runs (R288): its unit, its length, and the hub time base as it stood when it was started. -/
structure PortTimer where
  ms : Bool
  count : Nat
  start : Nat
deriving DecidableEq, Repr, Inhabited

/-- An access path to BAR0 (R477). -/
inductive Path6 | host | svc | core (k : Fin 4)
deriving DecidableEq, Repr, Inhabited

/-- A latched high word of a 64-bit value (R477): path, offset of the low register, high word. -/
structure Latch where
  path : Path6
  low : Nat
  high : BitVec 32
deriving DecidableEq, Repr, Inhabited

/-- How an activation is armed (R464). -/
inductive ArmSource | now | atTime | kick
deriving DecidableEq, Repr, Inhabited

/-- One copy of the boot record (R455); `valid` stands for its CRC-32. -/
structure BootRec where
  active : Slot
  trial : Bool
  tries : Nat
  floorPending : Bool
  seq : Nat
  valid : Bool
deriving DecidableEq, Repr, Inhabited

/-- An image slot of the flash (R454): the head page (empty once erased) and the blocks written. -/
structure FlashSlot where
  head : List (BitVec 8)
  blocks : List (List (BitVec 8))
deriving DecidableEq, Repr, Inhabited

/-- A settings record (R459): format version, parameters that differ from their defaults, UP_CFG. -/
structure Settings where
  fmt : BitVec 32
  params : List (Nat × BitVec 32)
  cfg : BitVec 32
deriving DecidableEq, Repr, Inhabited

/-- A download in progress (R456). -/
structure Download where
  slot : Slot
  token : BitVec 32
  next : Nat
deriving DecidableEq, Repr, Inhabited

/-- A log record (R467): an update state, its version and the time. -/
structure LogRec where
  st : UpdState
  ver : BitVec 32
  time : Nat
deriving DecidableEq, Repr, Inhabited

/-- A check of the mutual clock monitor and of AON (R383). -/
inductive ClkMon | pll | rc | aon
deriving DecidableEq, Repr, Inhabited

/-- What causes a device reset (R406). -/
inductive ResetCause | resetN | ctrl | supply
deriving DecidableEq, Repr, Inhabited

/-- A supply of the hub that the referee watches (R383). -/
inductive HubRail | vhub | vio | vaux
deriving DecidableEq, Repr, Inhabited

/-- What one digest carries of a port (R380): tick-mean main-lane VBUS in mV; the gate and discharge commands; the states of the
upper-bound, vSafe0V, reverse-current and fast-trip comparators; the contract-mirror window in force, with its bounds in mV; and the lane
that carries the port, the substitute lane or its main lane. -/
structure DigPort where
  mv : Nat
  gate : Bool
  dis : Bool
  upper : Bool
  v0low : Bool
  reverse : Bool
  fast : Bool
  window : Window
  winHi : Nat
  winLo : Nat
  sub : Bool
deriving DecidableEq, Repr, Inhabited

/-- A service frame that has passed R441: its session number, its sequence number and its payload (R440). -/
structure SvcFrame where
  sess : BitVec 8
  seq : BitVec 8
  payload : List (BitVec 8)
deriving DecidableEq, Repr, Inhabited

/-- Where a fuse operation comes from (R421): a write of FU_CMD by the host, or a service FUSE_OP with its FU_WDATA (R443). -/
inductive FuseSrc | host | svc (f : SvcFrame)
deriving DecidableEq, Repr, Inhabited

/-- A tile-link packet that waits to be sent (R17, R18): its priority and sequence number, and whether it arrives whole. -/
structure LinkPkt where
  pri : Nat
  seq : Nat
  good : Bool
deriving DecidableEq, Repr, Inhabited

/-- The settings a tile runs on that has not taken the last kickoff (R22, R366): those of the watch, the slicer, ST_OVR, the
breaker sets, MT_SEL, and fast-trip threshold and slew rate of each of its ports. -/
structure TileHeld where
  filtM : Nat
  filtN : Nat
  tick : Nat
  slicer : Nat
  stOvr : BitVec 16
  b2 : List (Nat × Nat)
  b3 : List (Nat × Nat)
  mtSel : Bool
  paths : List (Nat × Nat)
deriving DecidableEq, Repr, Inhabited

/-- What a comparator or the breaker of a port shows in one tile cycle (R171, R174, R176): fast trip with its current in mA, breaker,
over-voltage and under-voltage with VBUS in mV, reverse current in mA. -/
inductive Tripping | fast (ma : Nat) | breaker | overvolt (mv : Nat) | reverse (ma : Nat) | undervolt (mv : Nat)
deriving DecidableEq, Repr, Inhabited

/-- What a protection of a feed shows in one tick (R194): fast trip with its shunt voltage in mV, breaker, reverse current in mA,
over-voltage and under-voltage with FDx_V in mV. -/
inductive FeedTripping | fast (mv : Nat) | breaker | reverse (ma : Nat) | overvolt (mv : Nat) | undervolt (mv : Nat)
deriving DecidableEq, Repr, Inhabited

/-- What the wait of a step-table entry sees in one turn (R161): the latest VBUS readings in mV, latest first, whether the vSafe0V
comparator reads low, the mean current of the breaker tick in mA, and the VCONN line in mV. -/
structure WaitView where
  vb : List Nat
  vs0 : Bool
  ib : Int
  vc : Nat
deriving DecidableEq, Repr, Inhabited

/-- The settings of a feed as the feed controller uses them, taken up at a breaker tick (R209, R366): OV_TRIP, UV_QUAL and UV_TRIP in
100 mV, RATED, SHUNT, FT_MV, the breaker curve selected, INS_DELAY and RETURN_DELAY. -/
structure FeedUse where
  ov : Nat
  uvq : Nat
  uvt : Nat
  rated : Nat
  shunt : Nat
  ftmv : Nat
  curve : List (Nat × Nat)
  ins : Nat
  ret : Nat
deriving DecidableEq, Repr, Inhabited

/-- The settings of PP_SB_CFG as a kickoff has put them in force (R214, R239): CLASS, WEIGHT, FLOOR, CEILING. -/
structure SbSet where
  cls : Nat
  weight : Nat
  floor : Nat
  ceil : Nat
deriving DecidableEq, Repr, Inhabited

end Sys2Proof.Machine
end

