-- ==== Sys2Proof/Syntax.lean ====
section
/-! DEFINITION. The commands of the block: one constructor of `Instr` per row of spec/opcode_table.json, with the
row's operands. A command stands for the happening its row names; a measured value is an operand. -/
namespace Sys2Proof

open Machine

/-- A command to the HZ7192. -/
inductive Instr
  /-- TILE_LINK_PACKET (R16): A tile-link packet arrives at the hub or a tile; a packet whose CRC fails is discarded and negatively acknowledged, and a valid one is acknowledged and acted on. Tile and direction, the header, the payload words and the CRC as they arrive. -/
  | tileLinkPacket (t : Fin 8) (toHub : Bool) (header : BitVec 32) (payload : List (BitVec 32)) (crc : BitVec 32)
  /-- TILE_LINK_RESEND_TIMEOUT (R17): A packet unacknowledged for 4 µs is resent, and the eighth unacknowledged send declares link loss. Tile, direction and sequence number of the packet. -/
  | tileLinkResendTimeout (t : Fin 8) (toHub : Bool) (seq : Nat)
  /-- TILE_LINK_IDLE (R19): A sender with no traffic sends an idle packet at least every 1 µs. Tile and direction. -/
  | tileLinkIdle (t : Fin 8) (toHub : Bool)
  /-- LINK_LOSS (R20): No valid packet arrives for 20 µs, so the tile and the hub declare link loss. The tile. -/
  | linkLoss (t : Fin 8)
  /-- SAFE_WIRE_RELEASE (R514): The referee releases SAFE_Tn once its release condition has held for its time, and the hub begins the tile reload. The tile and the cause whose release condition has held. -/
  | safeWireRelease (t : Fin 8) (cause : WireCause)
  /-- TILE_LINK_TRAIN_RETRY (R24): The hub retries link training of a lost tile every 10 ms. The tile. -/
  | tileLinkTrainRetry (t : Fin 8)
  /-- TILE_LINK_TRAINED (R24): A lost tile link completes training, and the hub starts reloading the tile's configuration and RAM tables. The tile. -/
  | tileLinkTrained (t : Fin 8)
  /-- TILE_RELOAD_DONE (R23): The hub finishes reloading the tile and verifying its checksums. The tile. -/
  | tileReloadDone (t : Fin 8)
  /-- TILE_SAFE_EXIT (R23): Once the wire is released, the link is up, the reload is done and 40 ms have passed, the tile leaves the tile safe state and restarts its ports unattached. The tile, 40 ms after it entered the tile safe state. -/
  | tileSafeExit (t : Fin 8)
  /-- WATCH_SAMPLE (R31): At a port's sample instant in a watch tick, the watch island samples both CC lines, records the line codes and updates the majority filter. The port and the line codes of CC1 and CC2. -/
  | watchSample (p : Fin 192) (l1 l2 : LineCode)
  /-- RP_HOLD_TIMEOUT (R40): 100 ms pass without an attaching sample, and the port returns to pulsed watch. -/
  | rpHoldTimeout (p : Fin 192)
  /-- ATTACH_WAIT_SAMPLE (R41): A 244.1 µs attach-wait sample is taken; four non-attaching samples return the port to watch, and four differing ones restart tCCDebounce. The port and the line codes of CC1 and CC2. -/
  | attachWaitSample (p : Fin 192) (l1 l2 : LineCode)
  /-- CC_DEBOUNCE_DONE (R41): tCCDebounce ends; with VBUS at or below 0.8 V the port attaches and ST00 starts, otherwise it waits in attach-wait. The port, the line codes of the sample at which it ends, VBUS by the main converter in mV, and whether the window comparator reads at or below 0.8 V. -/
  | ccDebounceDone (p : Fin 192) (l1 l2 : LineCode) (vb : Nat) (vs0 : Bool)
  /-- ATTACH_VBUS_CLEARED (R41): VBUS falls to 0.8 V or below on a port waiting after tCCDebounce, and the port attaches. The port, VBUS by the main converter in mV, and whether the window comparator reads at or below 0.8 V. -/
  | attachVbusCleared (p : Fin 192) (vb : Nat) (vs0 : Bool)
  /-- DETACH_SAMPLE (R43): A 244.1 µs sample of an attached port is compared with the detach threshold. The port, the voltages of CC1 and CC2 in mV, whether the sample falls outside the 50 µs after an Rp change, and what the comparators of the port show in the same tile cycle. -/
  | detachSample (p : Fin 192) (mv1 mv2 : Nat) (counted : Bool) (also_ : List Tripping)
  /-- CC_OVERVOLT (R46): A CC line rises above 5.5 V; Rp and VCONN are removed, the port goes safe and OVERVOLT CC_LINE is posted. The port, the line (false CC1) and its voltage. -/
  | ccOvervolt (p : Fin 192) (line2 : Bool) (mv : Nat)
  /-- CC_HOLD_OFF_END (R46): The line has stayed below 5.5 V for 1 s, and the port returns to pulsed watch. -/
  | ccHoldOffEnd (p : Fin 192)
  /-- CC_COMPARATOR_TEST (R58): The 500 ms comparator test exercises each CC threshold, and a second consecutive failure declares the comparator stuck. The port, the comparator in the order of R260, and the outcome. -/
  | ccComparatorTest (p : Fin 192) (idx : Nat) (pass : Bool)
  /-- BOOT_SINK_ATTACH (R53): VBUS is at least 3.67 V and the partner's Rp has been seen for tCCDebounce, so the bootstrap port becomes a BOOT_SINK. The port, its active line and the voltage of that line in mV. -/
  | bootSinkAttach (p : Fin 192) (line2 : Bool) (mv : Nat)
  /-- BOOT_RD_RELEASE (R53): VBUS has stayed at or below 0.8 V for 150 ms after tile release, so Rd is removed and the bootstrap port begins source watch. -/
  | bootRdRelease (p : Fin 192)
  /-- BOOT_SINK_DETACH (R55): VBUS has stayed below 3.67 V for 15 ms, so the BOOT_SINK detaches and DETACH is posted. -/
  | bootSinkDetach (p : Fin 192)
  /-- FRAME_RECEIVED (R64): A BMC frame ends with its EOP and is checked; a valid reception is presented to the message table, and any other is counted and discarded. The port and the frame. -/
  | frameReceived (p : Fin 192) (f : FrameIn)
  /-- RX_ABORT (R65): No transition occurs for 20 µs after an SOP*, so the frame is discarded and RX_TRUNC is counted. The port, the mean of the peak averages in mV where the frame trained the slicer, and how many changes of SLICER_MODE have been taken up since the frame began. -/
  | rxAbort (p : Fin 192) (mean : Option Nat) (early : Nat)
  /-- HARD_RESET_RX (R67): Hard_Reset signalling is received; the sequencer abandons its entry, clears the TX buffer and MessageIDs, reports HARD_RESET_RX and restarts at 0x00. -/
  | hardResetRx (p : Fin 192)
  /-- CABLE_RESET_RX (R67): Cable_Reset signalling received on a port is ignored. -/
  | cableResetRx (p : Fin 192)
  /-- MT_NOP (R77): A message-table NOP entry executes and starts its wait, changing tables at an IDLE_POINT where one is pending. -/
  | mtNop (p : Fin 192)
  /-- MT_TX (R77): A message-table TX entry transmits the TX buffer, a GoodCRC, a chunk, a Chunk Request or Hard_Reset signalling. -/
  | mtTx (p : Fin 192)
  /-- MT_DELIVER (R77): A DELIVER entry passes the received message to the event queue or discards it. -/
  | mtDeliver (p : Fin 192)
  /-- MT_MATCH (R79): A MATCH entry compares a selected field with OPERAND and branches. -/
  | mtMatch (p : Fin 192)
  /-- MT_COUNT (R77): A COUNT entry clears or increments the retry counter, or advances, stores or resets MessageID state. -/
  | mtCount (p : Fin 192)
  /-- MT_SET_RP (R69): A SET_RP entry changes Rp between SinkTxNG and SinkTxOk while an explicit 3.x contract stands. -/
  | mtSetRp (p : Fin 192)
  /-- MT_REPORT (R77): A REPORT entry reports TX_OK, TX_FAIL, TX_DISCARDED, CHUNK_FAIL or HOLD_ANSWERED and frees the TX buffer where applicable. -/
  | mtReport (p : Fin 192)
  /-- MT_COMPOSE (R77): A COMPOSE entry writes Accept, PS_RDY, Wait or EPR_KeepAlive_Ack into the TX buffer. -/
  | mtCompose (p : Fin 192)
  /-- MSG_WAIT_TIMEOUT (R78): The TIMEOUT of a message-table wait elapses, and the entry takes its alternate or success branch as its WAIT defines. -/
  | msgWaitTimeout (p : Fin 192)
  /-- MSG_LINE_IDLE (R78): The line becomes idle during a LINE_IDLE wait, and the entry proceeds on success. -/
  | msgLineIdle (p : Fin 192)
  /-- TX_DONE (R78): The last EOP bit of a transmission is sent, which ends a TX_DONE wait. -/
  | txDone (p : Fin 192)
  /-- HOLD_EXPIRED (R88): A port has been in hold for 800 ms unresumed, so the hold table sends Hard_Reset and CONTRACT_LOST HOLD_EXPIRED follows. -/
  | holdExpired (p : Fin 192)
  /-- TX_OK (R110): The hub receives TX_OK for a message; the policy advances, and posts CONTRACT for an acknowledged PS_RDY. -/
  | txOk (p : Fin 192)
  /-- TX_FAIL (R116): The hub receives TX_FAIL, and the policy escalates to Soft_Reset or Hard_Reset, or treats a failed VDM as NAK. -/
  | txFail (p : Fin 192)
  /-- TX_DISCARDED (R124): The hub receives TX_DISCARDED, and the policy re-evaluates its own message after the partner's sequence. -/
  | txDiscarded (p : Fin 192)
  /-- CHUNK_FAIL (R74): The hub receives CHUNK_FAIL for an abandoned chunked assembly or send. -/
  | chunkFail (p : Fin 192)
  /-- HOLD_ANSWERED (R86): A reply given in hold is reported, and the message is queued for the policy with its reply. -/
  | holdAnswered (p : Fin 192)
  /-- REQUEST (R107): A Request or EPR_Request is judged against the acknowledged offer and answered Accept or Reject. The port, whether it is an EPR_Request, the RDO, the copied PDO of an EPR_Request, and whether its header names revision 3.x. -/
  | request (p : Fin 192) (epr : Bool) (rdo pdo : BitVec 32) (rev3 : Bool)
  /-- GET_SOURCE_CAP (R125): Get_Source_Cap is answered with Source_Capabilities, or EPR_Source_Capabilities in EPR mode. -/
  | getSourceCap (p : Fin 192)
  /-- EPR_GET_SOURCE_CAP (R125): EPR_Get_Source_Cap is answered with EPR_Source_Capabilities when the profile has EPR objects, and otherwise Not_Supported. -/
  | eprGetSourceCap (p : Fin 192)
  /-- GET_SOURCE_CAP_EXTENDED (R125): Get_Source_Cap_Extended is answered with Source_Capabilities_Extended. -/
  | getSourceCapExtended (p : Fin 192)
  /-- GET_SOURCE_INFO (R125): Get_Source_Info is answered with Source_Info carrying profile power, allocation and last offer power. -/
  | getSourceInfo (p : Fin 192)
  /-- GET_STATUS (R125): Get_Status is answered with Status carrying the model temperature and the OCP, OVP and OTP flags, which are then cleared. -/
  | getStatus (p : Fin 192)
  /-- GET_PPS_STATUS (R125): Get_PPS_Status is answered from telemetry under a PPS contract, and otherwise Not_Supported. -/
  | getPpsStatus (p : Fin 192)
  /-- GET_REVISION (R125): Get_Revision is answered with Revision 3.2. -/
  | getRevision (p : Fin 192)
  /-- GET_MANUFACTURER_INFO (R125): Get_Manufacturer_Info is answered from parameter group IDENTITY. -/
  | getManufacturerInfo (p : Fin 192)
  /-- SOFT_RESET (R125): A received Soft_Reset is answered Accept and leads to SEND_CAPS, or to Hard_Reset in TRANSITION. -/
  | softReset (p : Fin 192)
  /-- VCONN_SWAP (R120): A received VCONN_Swap is answered Accept, Wait or Reject according to who sources VCONN and the tile budget. -/
  | vconnSwap (p : Fin 192)
  /-- PR_SWAP (R119): A received PR_Swap is answered with Reject. -/
  | prSwap (p : Fin 192)
  /-- DR_SWAP (R119): A received DR_Swap is answered with Reject. -/
  | drSwap (p : Fin 192)
  /-- FR_SWAP (R119): A received FR_Swap is answered with Not_Supported. -/
  | frSwap (p : Fin 192)
  /-- EPR_MODE_ENTER (R111): EPR_Mode (Enter) is acknowledged, the entry checks are applied, and Enter Succeeded or Enter Failed follows within 200 ms. The port and the Operational PDP in W. -/
  | eprModeEnter (p : Fin 192) (watts : Nat)
  /-- EPR_MODE_EXIT (R113): EPR_Mode (Exit) is accepted under an SPR contract with new Source_Capabilities, and is a protocol error under an EPR contract. -/
  | eprModeExit (p : Fin 192)
  /-- EPR_KEEPALIVE (R113): EPR_KeepAlive is answered with EPR_KeepAlive_Ack in EPR mode, and with Not_Supported outside it. -/
  | eprKeepalive (p : Fin 192)
  /-- SINK_CAPABILITIES (R106): Sink_Capabilities or EPR_Sink_Capabilities sets the demand reported to the scoreboard and is passed to the host. The port, the message header received, whether it is EPR_Sink_Capabilities, and its data objects. -/
  | sinkCapabilities (p : Fin 192) (h : BitVec 16) (epr : Bool) (objs : List (BitVec 32))
  /-- ALERT (R125): A received Alert causes Get_Status to be sent, and Alert and Status are passed to the host. The port, the message header received and the Alert Data Object. -/
  | alert (p : Fin 192) (h : BitVec 16) (ado : BitVec 32)
  /-- INFORMATION_MESSAGE (R125): Battery_Status, Battery_Capabilities, Status, Manufacturer_Info, Sink_Capabilities_Extended, Revision or Not_Supported is recorded and passed. The port and the message. -/
  | informationMessage (p : Fin 192) (m : Msg)
  /-- UNSUPPORTED_REQUEST (R125): Get_Sink_Cap, Data_Reset, Enter_USB and the other listed requests are answered Not_Supported, or ignored at revision 2.0. -/
  | unsupportedRequest (p : Fin 192)
  /-- BIST_REQUEST (R125): BIST Carrier Mode or Test Data is honoured at vSafe5V and otherwise ignored. The port, and whether the mode is BIST Carrier Mode, otherwise BIST Test Data. -/
  | bistRequest (p : Fin 192) (carrier : Bool)
  /-- UNEXPECTED_MESSAGE (R125): Ping or an unexpected Source_Capabilities, PS_RDY or Accept is a protocol error leading to Soft_Reset, or Hard_Reset in TRANSITION. -/
  | unexpectedMessage (p : Fin 192)
  /-- UNCHUNKED_EXTENDED (R75): An extended message with Chunked = 0 and more than 26 bytes of data is answered Not_Supported. -/
  | unchunkedExtended (p : Fin 192)
  /-- UNRECOGNISED_MESSAGE (R126): An unrecognised or reserved message type is answered Not_Supported at 3.x, and ignored after GoodCRC at 2.0. -/
  | unrecognisedMessage (p : Fin 192)
  /-- SRC_TRANSITION_EXPIRY (R109): tSrcTransition ends after an acknowledged Accept, and the policy posts the transition to the power-path sequencer. -/
  | srcTransitionExpiry (p : Fin 192)
  /-- SENDER_RESPONSE_EXPIRY (R116): No expected response arrives within tSenderResponse, so the policy sends Soft_Reset, or Hard_Reset when its Soft_Reset goes unanswered. -/
  | senderResponseExpiry (p : Fin 192)
  /-- SOURCE_CAP_RESEND (R116): tTypeCSendSourceCap passes without GoodCRC; Source_Capabilities is resent, and after nCapsCount sends with no PD message the port enters TYPEC_ONLY. -/
  | sourceCapResend (p : Fin 192)
  /-- NO_RESPONSE_EXPIRY (R117): tNoResponse passes after a Hard_Reset without an acknowledged offer, so a further Hard_Reset or ErrorRecovery is due. -/
  | noResponseExpiry (p : Fin 192)
  /-- PPS_KEEPALIVE_EXPIRY (R115): No Request arrives within tPPSTimeout under a PPS contract, so Hard_Reset is sent. -/
  | ppsKeepaliveExpiry (p : Fin 192)
  /-- EPR_KEEPALIVE_EXPIRY (R113): No message from the partner arrives within 0.875 s in EPR mode, so Hard_Reset is sent. -/
  | eprKeepaliveExpiry (p : Fin 192)
  /-- VCONN_SOURCE_EXPIRY (R122): No PS_RDY arrives within tVCONNSourceTimeout after a give-away Accept, so the device keeps VCONN and sends Hard_Reset. -/
  | vconnSourceExpiry (p : Fin 192)
  /-- VCONN_SWAP_RETRY (R121): 100 ms after a Wait to the device's own VCONN_Swap, the swap is retried, at most three times. -/
  | vconnSwapRetry (p : Fin 192)
  /-- FEED_OBJECT_WITHDRAW (R102): The feed has stayed below an object's threshold for 1 s, so the object is withdrawn and a new offer follows. The port and the object's place in its profile. -/
  | feedObjectWithdraw (p : Fin 192) (obj : Fin 11)
  /-- FEED_OBJECT_RESTORE (R102): The feed has stayed at or above an object's threshold for 10 s, so the object is restored and a new offer follows. The port and the object's place in its profile. -/
  | feedObjectRestore (p : Fin 192) (obj : Fin 11)
  /-- EPR_CAPS_SEND (R112): At the first scoreboard boundary after Enter Succeeded, EPR_Source_Capabilities is sent. -/
  | eprCapsSend (p : Fin 192)
  /-- VDM_REQUEST (R141): A structured VDM REQ from the partner on SOP is answered within tVDMReceiverResponse. The port, the VDM header and the VDOs of a structured REQ on SOP. -/
  | vdmRequest (p : Fin 192) (hdr : BitVec 32) (vdos : List (BitVec 32))
  /-- UNSTRUCTURED_VDM (R132): A received unstructured VDM is answered Not_Supported at 3.x, and ignored at 2.0. The port, the message header received, the VDM header and the VDOs. -/
  | unstructuredVdm (p : Fin 192) (h : BitVec 16) (hdr : BitVec 32) (vdos : List (BitVec 32))
  /-- VDM_RESPONSE (R134): An ACK, NAK or BUSY answers a VDM request of the device, advancing cable or SOP discovery, Rally mode or a VDM_SEND. The port, the message header received, the SOP*, the command type, the VDM header and the VDOs. -/
  | vdmResponse (p : Fin 192) (h : BitVec 16) (sop : Sop) (ans : VdmAnswer) (hdr : BitVec 32) (vdos : List (BitVec 32))
  /-- VDM_RESPONSE_TIMEOUT (R134): A VDM request draws no response within its timer and is treated as NAK. -/
  | vdmResponseTimeout (p : Fin 192)
  /-- VDM_BUSY_RETRY (R134): tVDMBusy after a BUSY, the request is retried, and it is abandoned after the third BUSY. -/
  | vdmBusyRetry (p : Fin 192)
  /-- DISCOVER_IDENTITY_ATTEMPT (R135): tDiscoverIdentity after the last attempt, Discover Identity is sent again to SOP'. -/
  | discoverIdentityAttempt (p : Fin 192)
  /-- ATTENTION (R152): An Attention with SVID 0x3C5D from a Rally load with ATTN set replaces the pledge, and is otherwise passed to the host. The port, the message header received, the VDM header and the Pledge VDO (0 where none is carried). -/
  | attention (p : Fin 192) (h : BitVec 16) (hdr vdo : BitVec 32)
  /-- RALLY_NOTICE_DUE (R150): A NOTICE falls due on a state, allocation or credit change or after PERIOD seconds, and is sent. -/
  | rallyNoticeDue (p : Fin 192)
  /-- CURTAIL_CONFIRM (R153): Eight consecutive 1 kHz current samples lie below TARGET over the contract voltage, so the curtailment confirms the decrease. -/
  | curtailConfirm (p : Fin 192)
  /-- CURTAIL_REACTION_EXPIRY (R154): The reaction bound passes without confirmation, so the pledge is broken, PLEDGE_BROKEN is posted and the ladder proceeds. -/
  | curtailReactionExpiry (p : Fin 192)
  /-- CURTAIL_HOLD_EXPIRY (R153): A curtailment reaches HOLD and is ended by RESTORE, or by the ladder if the allocation does not permit RESTORE. -/
  | curtailHoldExpiry (p : Fin 192)
  /-- BROKEN_HOLDOFF_EXPIRY (R154): BROKEN_HOLDOFF ends, and the pledge may again be credited. -/
  | brokenHoldoffExpiry (p : Fin 192)
  /-- POWER_PATH_POST (R167): A posted request reaches the tile, and its purpose starts a table, is queued, or is refused with REFUSED. The port and the request. -/
  | powerPathPost (p : Fin 192) (r : Post)
  /-- QUEUED_POST_START (R167): The running table ends, and the queued post starts its table. -/
  | queuedPostStart (p : Fin 192)
  /-- ST_NOP (R160): A step-table NOP entry executes and starts its wait. -/
  | stNop (p : Fin 192)
  /-- ST_SET_GATE (R164): SET_GATE opens the gate, or closes it only if the interlock conditions hold, and a refused close counts as a timeout. The port, its main-lane reading of VB in mV taken within the last 1 ms, whether the vSafe0V comparator has read at or below 0.80 V within the last 1 ms and nothing higher since, and whether another actor commands the gate open in the same tile cycle. -/
  | stSetGate (p : Fin 192) (vb : Nat) (vs0 rival : Bool)
  /-- ST_SET_DIS (R160): SET_DIS switches the discharge sink on or off. The port, and whether another actor commands the discharge on in the same tile cycle. -/
  | stSetDis (p : Fin 192) (rival : Bool)
  /-- ST_SET_TARGET (R160): SET_TARGET sets the feedback target slewed or at once. The port, and whether another actor commands the target to 5 V at once in the same tile cycle. -/
  | stSetTarget (p : Fin 192) (rival : Bool)
  /-- ST_SET_RP (R160): A step-table SET_RP sets Rp off, to a level, or to the posted level. The port, and whether another actor commands Rp off in the same tile cycle. -/
  | stSetRp (p : Fin 192) (rival : Bool)
  /-- ST_SET_VCONN (R160): SET_VCONN switches VCONN off or on a line, subject to the tile's VCONN budget. The port, and whether another actor commands VCONN off in the same tile cycle. -/
  | stSetVconn (p : Fin 192) (rival : Bool)
  /-- ST_SIGNAL (R163): SIGNAL sends a signal code to the hub. -/
  | stSignal (p : Fin 192)
  /-- ST_ARM_LIMIT (R173): ARM_LIMIT selects a breaker set and sets ILIM, with regulation under PPS where selected. -/
  | stArmLimit (p : Fin 192)
  /-- ST_LOAD_WINDOW (R165): LOAD_WINDOW writes the contract mirror with the STEADY, SPAN or OFF window. -/
  | stLoadWindow (p : Fin 192)
  /-- STEP_WAIT_SUCCESS (R161): The condition of a step-table wait is met, and the port proceeds at NEXT_OK. The port and what its wait sees. -/
  | stepWaitSuccess (p : Fin 192) (w : WaitView)
  /-- STEP_WAIT_TIMEOUT (R162): A step-table wait times out, and the port proceeds at NEXT_TO, or trips STEP_TIMEOUT with FAULT_ON_TIMEOUT. -/
  | stepWaitTimeout (p : Fin 192)
  /-- VSAFE5V_OK (R163): VSAFE5V_OK reaches the hub, so ATTACH or the end of a hard reset is reported and the port becomes a newcomer. -/
  | vsafe5vOk (p : Fin 192)
  /-- TRANSITION_DONE (R109): TRANSITION_DONE reaches the hub, and the policy sends PS_RDY. -/
  | transitionDone (p : Fin 192)
  /-- TRANSITION_FAIL (R109): TRANSITION_FAIL reaches the hub, and the policy sends Hard_Reset. -/
  | transitionFail (p : Fin 192)
  /-- VSAFE0V_OK (R215): VSAFE0V_OK reaches the hub, releasing the allocation and completing disables, error recovery and shedding steps. -/
  | vsafe0vOk (p : Fin 192)
  /-- RETRY_QUALIFIED (R178): RETRY_QUALIFIED reaches the hub, so the policy restarts from STARTUP and the port is a newcomer. -/
  | retryQualified (p : Fin 192)
  /-- RETRY_FAILED (R178): RETRY_FAILED reaches the hub, so f advances and RETRY, or LOCKOUT RETRY_EXHAUSTED at 16, is posted. -/
  | retryFailed (p : Fin 192)
  /-- LIMIT_SET (R222): LIMIT_SET reaches the hub and confirms a hard-limit or shedding decrease. -/
  | limitSet (p : Fin 192)
  /-- VCONN_READY (R120): VCONN_READY reaches the hub, and the policy sends PS_RDY for the swap. -/
  | vconnReady (p : Fin 192)
  /-- VCONN_FAIL (R120): VCONN_FAIL reaches the hub, and the policy leaves VCONN off and sends Hard_Reset. -/
  | vconnFail (p : Fin 192)
  /-- VCONN_OFF (R120): VCONN_OFF reaches the hub after a give-away or forced VCONN removal. -/
  | vconnOff (p : Fin 192)
  /-- RP_SET (R223): RP_SET reaches the hub after an Rp advertisement change. -/
  | rpSet (p : Fin 192)
  /-- REFUSED (R167): The sequencer refuses or discards a post, and the policy treats REFUSED of a transition as a protocol error. -/
  | refused (p : Fin 192)
  /-- UNDERVOLT_TRIP (R171): VBUS has stayed below the STEADY lower bound for 10 ms with no table running, so the port trips UNDERVOLT. The port, VBUS in mV, and what else its comparators show in the same tile cycle. -/
  | undervoltTrip (p : Fin 192) (mv : Nat) (also_ : List Tripping)
  /-- BREAKER_TICK (R174): Each 50 µs tick updates the breaker accumulators, PPS regulation and the energy accumulator. The port, the tick-mean current in mA and the VBUS reading in mV. -/
  | breakerTick (p : Fin 192) (ma : Int) (mv : Nat)
  /-- BREAKER_TRIP (R174): An accumulator reaches 8 × tk, and the port trips with cause BREAKER. The port, and what its comparators show in the same tile cycle. -/
  | breakerTrip (p : Fin 192) (also_ : List Tripping)
  /-- FAST_TRIP (R176): The port current exceeds the fast-trip threshold, so gate pull-down begins within 2 µs and the port trips FAST. The port, its current in mA, and what else its comparators show in the same tile cycle. -/
  | fastTrip (p : Fin 192) (ma : Nat) (also_ : List Tripping)
  /-- VBUS_OVERVOLT (R176): VBUS exceeds the window's upper bound with the gate closed, so the port trips and OVERVOLT VBUS is posted. The port, VBUS in mV, and what else its comparators show in the same tile cycle. -/
  | vbusOvervolt (p : Fin 192) (mv : Nat) (also_ : List Tripping)
  /-- REVERSE_CURRENT (R176): Reverse current exceeds IREV, so the port trips and REVERSE is posted. The port, the current into it in mA, and what else its comparators show in the same tile cycle. -/
  | reverseCurrent (p : Fin 192) (ma : Nat) (also_ : List Tripping)
  /-- VCONN_OVERCURRENT (R176): VCONN current has exceeded 250 mA for 1 ms, so VCONN is switched off and TRIP VCONN_OC is posted. The port and its VCONN current in mA. -/
  | vconnOvercurrent (p : Fin 192) (ma : Nat)
  /-- TRIP_DISCHARGE_DONE (R177): After a trip, VBUS reaches 0.80 V and the discharge is switched off. -/
  | tripDischargeDone (p : Fin 192)
  /-- RETRY_PROBE_DUE (R178): The retry due time arrives with a partner attached, so ST05 is run. -/
  | retryProbeDue (p : Fin 192)
  /-- RETRY_QUALIFY_CLEAR (R178): 60 s pass after RETRY_QUALIFIED without a trip, so f is cleared. -/
  | retryQualifyClear (p : Fin 192)
  /-- RETRY_HOLD_EXPIRY (R179): 10 s pass after detach without an attach, so f, the due time and a RETRY_EXHAUSTED lockout are cleared. -/
  | retryHoldExpiry (p : Fin 192)
  /-- OPEN_PORT_VBUS (R180): An open port shows VBUS above 0.80 V, so the discharge is switched on and the 20 ms stuck-switch timer starts. -/
  | openPortVbus (p : Fin 192)
  /-- STUCK_SWITCH (R181): VBUS stays above 0.80 V for 20 ms with the gate open and discharge on, so the port is locked out, STUCK_SWITCH is posted and FAULT_N goes low. The port and VBUS in mV. -/
  | stuckSwitch (p : Fin 192) (mv : Nat)
  /-- STUCK_DISCHARGE_END (R181): The discharge of a stuck switch is switched off after 1 s. -/
  | stuckDischargeEnd (p : Fin 192)
  /-- DETACH_DISCHARGE_DONE (R183): After detach, both VBUS paths read 0.80 V or below, so the discharge ends, DETACH is posted and the allocation is released. -/
  | detachDischargeDone (p : Fin 192)
  /-- SEAT_QUALIFIED (R189): SEAT_N has been low for 10 ms, so the board counts as seated. -/
  | seatQualified
  /-- SEAT_RELEASED (R189): SEAT_N has been high for 100 µs, so both banks are pulled down with cause UNSEATED. -/
  | seatReleased
  /-- FEED_WINDOW_CHANGE (R188): A feed that is not connected enters or leaves its voltage window, moving it to or from WAIT_WINDOW. The feed and FDx_V in mV. -/
  | feedWindowChange (f : FeedId) (mv : Nat)
  /-- INSERT_DELAY_EXPIRY (R190): The conditions have held for INS_DELAY, so the feed becomes STANDBY and is connected if R191 says so. The feed, and whether the other feed's delay ends in the same tile cycle. -/
  | insertDelayExpiry (f : FeedId) (both : Bool)
  /-- PRIORITY_RETURN (R191): FDA has been STANDBY for RETURN_DELAY while FDB is ACTIVE, so a changeover to FDA starts. What shows on FDB in the same tick. -/
  | priorityReturn (also_ : List FeedTripping)
  /-- INRUSH_COMPLETE (R192): The gate drive reaches 9 V and the feed matches the bus within 1 V, so the feed becomes ACTIVE. The feed, its VGD - VGS, FDx_V and VBUSC in mV. -/
  | inrushComplete (f : FeedId) (vgs mv vbusc : Nat)
  /-- INRUSH_TIMEOUT (R192): INRUSH does not complete within 20 ms, so the feed trips INRUSH_TIMEOUT. -/
  | inrushTimeout (f : FeedId)
  /-- FEED_BREAKER_TICK (R193): Each tick updates the feed accumulators and evaluates PG. The feed, FDx_V in mV, its tick-mean current in mA (negative: bus to feed) and VBUSC in mV. -/
  | feedBreakerTick (f : FeedId) (mv : Nat) (ma : Int) (vbusc : Nat)
  /-- FEED_BREAKER_TRIP (R194): A feed accumulator reaches its trip value, so the bank is pulled down and FEED_CHANGE BREAKER is posted. The feed, and what else shows on it in the same tick. -/
  | feedBreakerTrip (f : FeedId) (also_ : List FeedTripping)
  /-- FEED_FAST_TRIP (R194): The feed shunt voltage exceeds FT_MV, so the bank is pulled down with cause FAST. The feed, its shunt voltage in mV, and what else shows on it in the same tick. -/
  | feedFastTrip (f : FeedId) (mv : Nat) (also_ : List FeedTripping)
  /-- FEED_REVERSE (R194): Bus-to-feed current has exceeded RATED/16 for 10 µs, so the bank opens with cause REVERSE. The feed, its bus-to-feed current in mA over 10 µs, and what else shows on it in the same tick. -/
  | feedReverse (f : FeedId) (ma : Nat) (also_ : List FeedTripping)
  /-- FEED_OVERVOLT (R194): FDx_V exceeds OV_TRIP, so the bank opens within 50 µs with cause OVERVOLT and no retry. The feed, FDx_V in mV, and what else shows on it in the same tick. -/
  | feedOvervolt (f : FeedId) (mv : Nat) (also_ : List FeedTripping)
  /-- FEED_UNDERVOLT (R194): FDx_V has stayed below UV_TRIP for 1 ms, so the feed disconnects with cause UNDERVOLT. The feed, the greatest FDx_V of the last 1 ms in mV, and what else shows on it in the same tick. -/
  | feedUndervolt (f : FeedId) (mv : Nat) (also_ : List FeedTripping)
  /-- OFF_CONFIRMED (R197): The opening bank's gate drive and current fall below their thresholds, so off is confirmed and the accumulators are cleared. The feed, VGD − VGS of its bank in mV and its current in mA. -/
  | offConfirmed (f : FeedId) (vgs : Nat) (ma : Int)
  /-- DEAD_TIME_END (R197): 10 µs after off confirmation, the incoming feed enters INRUSH. -/
  | deadTimeEnd
  /-- STUCK_BANK (R198): Off is not confirmed within 500 µs, so the feed becomes DISABLED with cause STUCK_BANK and FAULT_N goes low. -/
  | stuckBank (f : FeedId)
  /-- FEED_RETRY_DUE (R202): A BACKOFF feed's due time arrives, and it goes to INRUSH, STANDBY or WAIT_WINDOW. -/
  | feedRetryDue (f : FeedId)
  /-- FEED_RETRY_CLEAR (R202): A feed has stayed ACTIVE for 60 s without a trip, so its retry count is cleared. -/
  | feedRetryClear (f : FeedId)
  /-- FEED_RESEAT_HOLD_EXPIRY (R203): 10 s pass after SEAT_N release without a reseat, so the feed retry counts and due times are cleared. -/
  | feedReseatHoldExpiry
  /-- SCOREBOARD_BOUNDARY (R221): At each 10 ms boundary, the scoreboard confirms decreases, computes targets, decides phase-1 decreases and grants phase-2 increases. -/
  | scoreboardBoundary
  /-- GRACE_EXPIRY (R223): GRACE after a decision the decrease is unconfirmed, so ST06 arms the hard limit, or Hard_Reset is sent for a reserve allocation. -/
  | graceExpiry (p : Fin 192)
  /-- NEWCOMER_GRACE_EXPIRY (R226): A newcomer is still unfunded GRACE after its report, so ST06 is armed at 1.1 × RESERVE / 5 V. -/
  | newcomerGraceExpiry (p : Fin 192)
  /-- DECREASE_SAMPLE_CONFIRM (R222): Eight consecutive 1 kHz power samples of a non-PD sink lie at or below the new allocation, so the decrease is confirmed. -/
  | decreaseSampleConfirm (p : Fin 192)
  /-- USAGE_CAP_RELEASE (R228): 100 consecutive samples at or above 95 % of the allocation release the usage cap. -/
  | usageCapRelease (p : Fin 192)
  /-- EMERGENCY_SHED_START (R235): Feed power exceeds 102 % of the budget for 20 consecutive 1 ms means, so stage 1 of emergency shedding starts. -/
  | emergencyShedStart
  /-- EMERGENCY_SHED_STAGE (R236): The excess persists for 20 further means, so the next shedding stage acts on its class. -/
  | emergencyShedStage
  /-- EMERGENCY_SHED_END (R237): Feed power stays at or below 98 % for 1 s, so shedding ends and phase 2 resumes. -/
  | emergencyShedEnd
  /-- VCONN_CHARGE_SETTLE (R233): 1 s after VCONN is switched on, its charge changes from 1 W to the measured figure. -/
  | vconnChargeSettle (p : Fin 192)
  /-- VCONN_BUDGET_EXCESS (R234): A tile's VCONN charges have exceeded VC_BUDGET for 100 ms, so ST08 is posted to candidates and VC_FORCED is set. -/
  | vconnBudgetExcess (t : Fin 8)
  /-- ADC_FAULT (R243): A converter self-check fails in 16 consecutive frames, so the tile changes to the single-converter frame and LANE_DRIFT ADC_FAULT is posted. The tile, the converter (false A, true B), and the self-check codes of its last frames, oldest first: internal zero, whether the reference was REF_HI, and the reference. -/
  | adcFault (t : Fin 8) (b : Bool) (frames : List (Nat × Bool × Nat))
  /-- MEAS_SAMPLE (R246): Every 1 ms, the tile forms each port's voltage, current and power sample and updates PP_MEAS. The port, the current and voltage codes of the millisecond's paired readings, and its peak VCONN power over the last second in 10 mW. -/
  | measSample (p : Fin 192) (codes : List (Nat × Nat)) (vc : Nat)
  /-- TELEMETRY_RECORD (R248): A port's 16 telemetry samples are complete, and the record goes to its TLM ring or to the buffer. The port, the samples the substitute lane carried, the peak current in mA, the time of sample 0 in RTC cycles, and the 16 samples in mV and mA. -/
  | telemetryRecord (p : Fin 192) (lanes : BitVec 16) (peak : Int) (time : Nat) (samples : List (Nat × Int))
  /-- TLM_DECIMATION_HALVE (R347): The telemetry buffer has stayed below a quarter full for 100 ms, so the decimation factor halves. -/
  | tlmDecimationHalve
  /-- CAPTURE_TRIGGER (R250): The armed capture's trigger occurs, and the remaining readings are taken. The tile, and the captured port's reading in mV and mA. -/
  | captureTrigger (t : Fin 8) (mv : Nat) (ma : Int)
  /-- CAPTURE_READINGS_DONE (R250): The last capture reading is taken, the tile leaves capture mode, and the records are written to the CAP ring. The tile, the readings in 20 mV or 5 mA, the number of readings held at the trigger, the indices at which snapshots have left gaps, and the time of reading 0 in RTC cycles. -/
  | captureReadingsDone (t : Fin 8) (readings : List Int) (held : Nat) (gaps : List Nat) (time : Nat)
  /-- SNAPSHOT_WRITTEN (R252): The snapshot conversions arrive and PP_SNAP and MS_SNAP_STAT are written. The latched values of P000 on, in mV and mA. -/
  | snapshotWritten (vals : List (Nat × Int))
  /-- SUBLANE_SLOT_START (R255): At a slot start, the substitute lane is connected in parallel with the due port and COMPARE begins. The tile and the local index whose slot starts. -/
  | sublaneSlotStart (t : Fin 8) (l : Fin 24)
  /-- QUIET_TEST (R256): At 40 ms, drift is evaluated and, if the port is quiet, handover and CAL start, otherwise calibration is deferred. The tile, the mean differences of COMPARE in mV and mA, the main-lane means, and the local indices whose line carries a BMC frame. -/
  | quietTest (t : Fin 8) (dv di : Int) (mv : Nat) (ma : Int) (frames : BitVec 24)
  /-- CAL_RECONNECT (R258): At 80 ms, the calibration coefficients are judged and the main lane is reconnected for VERIFY. The tile and the codes of zero, REF_LO and REF_HI for voltage and for current. -/
  | calReconnect (t : Fin 8) (vz vl vh iz il ih : Nat)
  /-- VERIFY_HANDBACK (R258): At 90 ms, VERIFY is judged, the port is handed back, and LANE_DRIFT or the limit follows. The tile, the mean paired differences of VERIFY in mV and mA, and the readings they are judged against. -/
  | verifyHandback (t : Fin 8) (dv di : Int) (mv : Nat) (ma : Int)
  /-- SUBLANE_SELF_CAL (R259): The substitute lane's self-calibration ends, and two consecutive failures declare SUB_FAULT. The tile, and the lane's own codes for zero, REF_LO and REF_HI, voltage then current. -/
  | sublaneSelfCal (t : Fin 8) (vz vl vh iz il ih : Nat)
  /-- CAL_PENDING_SKIP (R256): A calibration pending for 1 s is skipped and counted in MS_ROT_SKIPn. -/
  | calPendingSkip (p : Fin 192)
  /-- DAC_READBACK (R260): A threshold DAC is read back, and two consecutive out-of-tolerance readings lock the port out with DAC_FAULT. The port, the DAC in the order of R260, its threshold as read in mV or mA, and whether its setting changed during the frame. -/
  | dacReadback (p : Fin 192) (dac : Fin 12) (v : Nat) (changed : Bool)
  /-- NTC_MEAN (R265): The 10 ms NTC mean is converted and written to MS_NTCn. The tile, and what slot 27 of its two converters gives over 10 ms: the mean resistance of its NTC in mOhm and the mean of VTn in mV. -/
  | ntcMean (t : Fin 8) (r vt : Nat)
  /-- NTC_FAULT_FLAG (R265): The NTC reading has been out of range for 1 s, so it is flagged faulty and the tile's ports are capped at FLOOR. -/
  | ntcFaultFlag (t : Fin 8)
  /-- NTC_FAULT_CLEAR (R265): The NTC reading has been in range for 10 s, so the flag clears and THERMAL_DERATE MODEL is posted. -/
  | ntcFaultClear (t : Fin 8)
  /-- MOVE (R275): A move to an operand, register or guard port reads its source and writes its destination. The core that issues the move. -/
  | moveRow (k : Fin 4)
  /-- ALU_ADD_T (R285): ALU.ADD.T sets R = A + B and the flags. The core that issues the move. -/
  | aluAddT (k : Fin 4)
  /-- ALU_SUB_T (R285): ALU.SUB.T sets R = A − B and the flags. The core that issues the move. -/
  | aluSubT (k : Fin 4)
  /-- ALU_AND_T (R285): ALU.AND.T sets R = A AND B. The core that issues the move. -/
  | aluAndT (k : Fin 4)
  /-- ALU_OR_T (R285): ALU.OR.T sets R = A OR B. The core that issues the move. -/
  | aluOrT (k : Fin 4)
  /-- ALU_XOR_T (R285): ALU.XOR.T sets R = A XOR B. The core that issues the move. -/
  | aluXorT (k : Fin 4)
  /-- ALU_SHL_T (R285): ALU.SHL.T shifts A left by B[4:0]. The core that issues the move. -/
  | aluShlT (k : Fin 4)
  /-- ALU_SHR_T (R285): ALU.SHR.T shifts A right by B[4:0] with zero fill. The core that issues the move. -/
  | aluShrT (k : Fin 4)
  /-- ALU_SAR_T (R285): ALU.SAR.T shifts A right by B[4:0] with sign fill. The core that issues the move. -/
  | aluSarT (k : Fin 4)
  /-- ALU_EQ_T (R285): ALU.EQ.T sets R = 1 if A = B. The core that issues the move. -/
  | aluEqT (k : Fin 4)
  /-- ALU_LTU_T (R285): ALU.LTU.T sets R = 1 if A < B unsigned. The core that issues the move. -/
  | aluLtuT (k : Fin 4)
  /-- ALU_LTS_T (R285): ALU.LTS.T sets R = 1 if A < B signed. The core that issues the move. -/
  | aluLtsT (k : Fin 4)
  /-- ALU_MINU_T (R285): ALU.MINU.T sets R to the lesser of A and B unsigned. The core that issues the move. -/
  | aluMinuT (k : Fin 4)
  /-- ALU_MAXU_T (R285): ALU.MAXU.T sets R to the greater of A and B unsigned. The core that issues the move. -/
  | aluMaxuT (k : Fin 4)
  /-- ALU_PASS_T (R285): ALU.PASS.T sets R = B. The core that issues the move. -/
  | aluPassT (k : Fin 4)
  /-- MUL_MULU_T (R286): MUL.MULU.T forms the unsigned 64-bit product in MUL.LO and MUL.HI. The core that issues the move. -/
  | mulMuluT (k : Fin 4)
  /-- MUL_MULS_T (R286): MUL.MULS.T forms the signed 64-bit product. The core that issues the move. -/
  | mulMulsT (k : Fin 4)
  /-- MUL_DIVU_T (R286): MUL.DIVU.T divides unsigned, with the defined result for B = 0. The core that issues the move. -/
  | mulDivuT (k : Fin 4)
  /-- MUL_DIVS_T (R286): MUL.DIVS.T divides signed, truncating towards zero, with the defined results for B = 0 and overflow. The core that issues the move. -/
  | mulDivsT (k : Fin 4)
  /-- LSU_LD32_T (R283): LSU.LD32.T loads 32 bits at offset B from the selected segment after the segment checks. The core that issues the move. -/
  | lsuLd32T (k : Fin 4)
  /-- LSU_LD16_T (R283): LSU.LD16.T loads 16 bits, zero-extended. The core that issues the move. -/
  | lsuLd16T (k : Fin 4)
  /-- LSU_LD16S_T (R283): LSU.LD16S.T loads 16 bits, sign-extended. The core that issues the move. -/
  | lsuLd16sT (k : Fin 4)
  /-- LSU_LD8_T (R283): LSU.LD8.T loads 8 bits, zero-extended. The core that issues the move. -/
  | lsuLd8T (k : Fin 4)
  /-- LSU_LD8S_T (R283): LSU.LD8S.T loads 8 bits, sign-extended. The core that issues the move. -/
  | lsuLd8sT (k : Fin 4)
  /-- LSU_ST32_T (R283): LSU.ST32.T stores D at offset B. The core that issues the move. -/
  | lsuSt32T (k : Fin 4)
  /-- LSU_ST16_T (R283): LSU.ST16.T stores D[15:0]. The core that issues the move. -/
  | lsuSt16T (k : Fin 4)
  /-- LSU_ST8_T (R283): LSU.ST8.T stores D[7:0]. The core that issues the move. -/
  | lsuSt8T (k : Fin 4)
  /-- LSU_AADD_T (R287): LSU.AADD.T atomically adds D to a word of S4 and returns the old word. The core that issues the move. -/
  | lsuAaddT (k : Fin 4)
  /-- BR_JMP_T (R281): BR.JMP.T continues at offset B in S0 after the alignment and limit checks. The core that issues the move. -/
  | brJmpT (k : Fin 4)
  /-- BR_REL_T (R281): BR.REL.T continues at PC + 4 × B. The core that issues the move. -/
  | brRelT (k : Fin 4)
  /-- BR_CALL_T (R281): BR.CALL.T pushes the return offset on the stack and jumps. The core that issues the move. -/
  | brCallT (k : Fin 4)
  /-- BR_RET_T (R281): BR.RET.T pops the return offset and jumps to it. The core that issues the move. -/
  | brRetT (k : Fin 4)
  /-- TMR_US_T (R288): TMR.US.T starts the selected timer in µs, or stops it for 0. The core that issues the move. -/
  | tmrUsT (k : Fin 4)
  /-- TMR_MS_T (R288): TMR.MS.T starts the selected timer in ms, or stops it for 0. The core that issues the move. -/
  | tmrMsT (k : Fin 4)
  /-- TMR_STOP_T (R288): TMR.STOP.T stops the selected timer and withdraws its queued expiry. The core that issues the move. -/
  | tmrStopT (k : Fin 4)
  /-- EVT_WAIT_T (R280): EVT.WAIT.T ends the dispatch, with a RETAIN hint, and takes any deep transfer request. The core that issues the move. -/
  | evtWaitT (k : Fin 4)
  /-- EVT_POST_T (R289): EVT.POST.T posts a housekeeping event to port EVT.TO, or returns BAD or BUSY. The core that issues the move. -/
  | evtPostT (k : Fin 4)
  /-- EVT_HEVT_T (R289): EVT.HEVT.T posts HW0–HW7 as an event record. The core that issues the move. -/
  | evtHevtT (k : Fin 4)
  /-- EVT_HCPL_T (R289): EVT.HCPL.T posts HW0–HW7 as a completion record, or returns FENCED. The core that issues the move. -/
  | evtHcplT (k : Fin 4)
  /-- MSG_SEND_T (R290): MSG.SEND.T copies the TX area and flags into the TX buffer for sending, or returns BUSY, REFUSED, BAD or FENCED. The core that issues the move. -/
  | msgSendT (k : Fin 4)
  /-- MSG_POST_T (R290): MSG.POST.T posts a power-path request to the tile. The core that issues the move. -/
  | msgPostT (k : Fin 4)
  /-- MSG_HRST_T (R290): MSG.HRST.T makes the sequencer send Hard_Reset signalling, and ST03 starts. The core that issues the move. -/
  | msgHrstT (k : Fin 4)
  /-- CRC_INIT_T (R291): CRC.INIT.T restarts the CRC. The core that issues the move. -/
  | crcInitT (k : Fin 4)
  /-- CRC_B8_T (R291): CRC.B8.T feeds one byte. The core that issues the move. -/
  | crcB8T (k : Fin 4)
  /-- CRC_W32_T (R291): CRC.W32.T feeds four bytes, least significant first. The core that issues the move. -/
  | crcW32T (k : Fin 4)
  /-- SYS_TRAP_T (R292): SYS.TRAP.T raises a TRAP fault with its code. The core that issues the move. -/
  | sysTrapT (k : Fin 4)
  /-- TIMER_EXPIRED (R288): A port timer expires and posts an EXPIRED event to its port's queue. The port and its timer. -/
  | timerExpired (p : Fin 192) (t : Fin 8)
  /-- OVERRUN (R311): SYS.MOVES reaches 50,000, so the dispatch is force-yielded, CTX_FAULT OVERRUN is posted and OVERRUN is queued. The core. -/
  | overrun (k : Fin 4)
  /-- SCHEDULER_DECISION (R305): Every 50 ns, the scheduler assigns the highest-ranked ready port to a core, reserves it, or leaves it ready. Ports and how long each has waited, in µs (one not listed has waited longer than any AFFINITY_WAIT), and the latency in µs of a dispatch that starts. -/
  | schedulerDecision (waited : List (Nat × Nat)) (lat : Nat)
  /-- PAGE_IN_DONE (R307): A context page-in, write-back or bench move completes, and a waiting dispatch can start. The core whose bench the context reaches, and the latency in µs of a dispatch that starts. -/
  | pageInDone (k : Fin 4) (lat : Nat)
  /-- AGE_PROMOTION (R304): An event has waited AGE_PROMOTE, so its port ranks one class higher. The port, and the place of the event in its queue. -/
  | agePromotion (p : Fin 192) (idx : Fin 16)
  /-- DEEP_TRANSFER_DONE (R314): A deep-roster transfer ends, OUTCOME is written, DEEP_DONE is queued and the port is ready again. The port, whether the transfer completed in time, and the block read. -/
  | deepTransferDone (p : Fin 192) (good : Bool) (data : List Byte)
  /-- DOORBELL (R326): A doorbell write moves a ring's host index, making the device fetch descriptors or freeing device-ring slots. Offset in BAR2, the word written, whether the write is one 32-bit write, and the descriptors the device reads from host memory in consequence. -/
  | doorbell (off : Fin 4096) (v : BitVec 32) (full : Bool) (slots : List Desc)
  /-- PHASE_REREAD (R329): Every 100 µs, a slot with the wrong phase is re-read. Ring, and the descriptors read. -/
  | phaseReread (n : Fin 14) (slots : List Desc)
  /-- HOSTLINK_STALL (R329): A slot keeps the wrong phase for 10 ms, so HOSTLINK_STALL is posted and the ring waits for a doorbell. -/
  | hostlinkStall (n : Fin 14)
  /-- CHAIN_TIMEOUT (R334): CHAIN_END is not fetched within CHAIN_TIMEOUT, so the chain is discarded and its head completes CHAIN_INCOMPLETE. -/
  | chainTimeout (n : Fin 14)
  /-- DESCRIPTOR_START_TIMEOUT (R127): A descriptor cannot start within 100 ms and completes BUSY. The fetched descriptor. -/
  | descriptorStartTimeout (d : Desc)
  /-- PD_SEND_REPLY_TIMEOUT (R336): A PD_SEND with EXPECT_REPLY draws no reply within 27 ms and completes TIMEOUT. -/
  | pdSendReplyTimeout (p : Fin 192)
  /-- MSIX_TIME_TRIGGER (R345): TIME µs pass since the first unsignalled entry, so the ring's MSI-X vector is raised. -/
  | msixTimeTrigger (n : Fin 14)
  /-- UNKNOWN_OPCODE (R331): A fetched descriptor with an undefined opcode completes UNKNOWN_OP with no side effect. The fetched descriptor. -/
  | unknownOpcode (d : Desc)
  /-- NOP (R332): NOP completes OK at once. The fetched descriptor. -/
  | nop (d : Desc)
  /-- PORT_ENABLE (R332): PORT_ENABLE enables a port, clears retry, quarantine and lifting lockouts, or completes RESOURCE or SAFETY_BLOCK. The fetched descriptor. -/
  | portEnable (d : Desc)
  /-- PORT_DISABLE (R332): PORT_DISABLE runs ST04 with ERROR_RECOVERY, or records the disable for a bootstrap port, and completes at VSAFE0V_OK. The fetched descriptor. -/
  | portDisable (d : Desc)
  /-- PORT_PROFILE (R98): PORT_PROFILE records a port profile, and a new offer follows. The fetched descriptor. -/
  | portProfile (d : Desc)
  /-- PORT_PDO_SET (R99): PORT_PDO_SET stores a custom PDO set that satisfies R99, or completes BAD_FIELD. The fetched descriptor. -/
  | portPdoSet (d : Desc)
  /-- PORT_ERROR_RECOVERY (R131): PORT_ERROR_RECOVERY puts the port into ERROR_RECOVERY with ST04 and completes at VSAFE0V_OK. The fetched descriptor. -/
  | portErrorRecovery (d : Desc)
  /-- PORT_HARD_RESET (R332): PORT_HARD_RESET sends a counted Hard_Reset and completes at ST03's VSAFE5V_OK. The fetched descriptor. -/
  | portHardReset (d : Desc)
  /-- PD_SEND (R336): PD_SEND sends a raw PD message from an MSGTX ring and completes on TX_OK or the reply. The fetched descriptor. -/
  | pdSend (d : Desc)
  /-- VDM_SEND (R144): VDM_SEND sends one structured VDM and completes on the response. The fetched descriptor. -/
  | vdmSend (d : Desc)
  /-- VCONN_SWAP_REQUEST (R332): VCONN_SWAP_REQUEST takes or gives VCONN by a swap. The fetched descriptor. -/
  | vconnSwapRequest (d : Desc)
  /-- CABLE_DISCOVER (R138): CABLE_DISCOVER clears the cable class and reruns discovery. The fetched descriptor. -/
  | cableDiscover (d : Desc)
  /-- BUDGET_STAGE (R239): BUDGET_STAGE stages the FDA and FDB budgets in the huddle. The fetched descriptor. -/
  | budgetStage (d : Desc)
  /-- CLASS_STAGE (R239): CLASS_STAGE stages a port's class, weight, floor or ceiling. The fetched descriptor. -/
  | classStage (d : Desc)
  /-- HUDDLE_CHECK (R360): HUDDLE_CHECK runs the consistency check and completes OK or HUDDLE_FAIL. The fetched descriptor. -/
  | huddleCheck (d : Desc)
  /-- KICKOFF_ARM (R363): KICKOFF_ARM checks the huddle if needed, copies shadows to the tiles and arms a kickoff at NEXT_BOUNDARY, AT_TIME or KICK. The fetched descriptor. -/
  | kickoffArm (d : Desc)
  /-- HUDDLE_DISCARD (R372): HUDDLE_DISCARD empties the huddle and cancels staged and armed descriptors, unless the commit point has passed. The fetched descriptor. -/
  | huddleDiscard (d : Desc)
  /-- SNAPSHOT (R254): SNAPSHOT latches a snapshot at once, or arms it for the next kickoff. The fetched descriptor. -/
  | snapshot (d : Desc)
  /-- CAPTURE_ARM (R249): CAPTURE_ARM arms a burst capture on a port, or disarms every capture for port 0xFFFF. The fetched descriptor. -/
  | captureArm (d : Desc)
  /-- TLM_CONFIG (R248): TLM_CONFIG sets a port's telemetry rate and ring. The fetched descriptor. -/
  | tlmConfig (d : Desc)
  /-- STEP_TABLE_LOAD (R170): A STEP_TABLE_LOAD chain writes a RAM step table into all tiles for checking at the next HUDDLE_CHECK. Ring on which the chain ended. -/
  | stepTableLoad (n : Fin 14)
  /-- BREAKER_CURVE_STAGE (R175): BREAKER_CURVE_STAGE stages B2, B3 or a feed's FB2. The fetched descriptor. -/
  | breakerCurveStage (d : Desc)
  /-- MSG_TABLE_LOAD (R82): A MSG_TABLE_LOAD chain writes a RAM message table into the named tiles for checking. Ring on which the chain ended. -/
  | msgTableLoad (n : Fin 14)
  /-- PARAM_SET (R352): PARAM_SET writes a policy parameter within its range and queues PARAM_CHANGE. The fetched descriptor. -/
  | paramSet (d : Desc)
  /-- PARAM_GET (R352): PARAM_GET returns a policy parameter. The fetched descriptor. -/
  | paramGet (d : Desc)
  /-- CTX_EXPORT (R332): CTX_EXPORT writes a port's authoritative 4 KiB context page to host memory. The fetched descriptor. -/
  | ctxExport (d : Desc)
  /-- HOST_PAGES_BIND (R312): HOST_PAGES BIND binds host pages to deep-roster indices. The fetched descriptor. -/
  | hostPagesBind (d : Desc)
  /-- HOST_PAGES_WITHDRAW (R312): HOST_PAGES WITHDRAW unbinds deep-roster indices after their outstanding transfers. The fetched descriptor. -/
  | hostPagesWithdraw (d : Desc)
  /-- SESSION_OPEN (R351): A host SESSION_OPEN opens a session and returns a challenge and salt, or completes BUSY or LOCKED_OUT. The fetched descriptor. -/
  | sessionOpen (d : Desc)
  /-- SESSION_PROVE (R351): A host SESSION_PROVE grants the level on a matching proof, and otherwise closes the session and advances the lockout. The fetched descriptor. -/
  | sessionProve (d : Desc)
  /-- SESSION_CLOSE (R351): A host SESSION_CLOSE closes the open host session. The fetched descriptor. -/
  | sessionClose (d : Desc)
  /-- EXPERT_UNLOCK (R351): A host EXPERT_UNLOCK with 0x01 unlocks expert items for a proven TECH or FACTORY session. The fetched descriptor. -/
  | expertUnlock (d : Desc)
  /-- EXPERT_RELOCK (R351): A host EXPERT_UNLOCK with 0x00 relocks expert items for the session. The fetched descriptor. -/
  | expertRelock (d : Desc)
  /-- FEED_ENABLE (R205): FEED_CONTROL ENABLE enables a feed and completes when it reaches STANDBY or ACTIVE. The fetched descriptor. -/
  | feedEnable (d : Desc)
  /-- FEED_DISABLE (R206): FEED_CONTROL DISABLE disables a feed, by a changeover when it is ACTIVE, or completes SAFETY_BLOCK. The fetched descriptor. -/
  | feedDisable (d : Desc)
  /-- FEED_CLEAR_RETRY (R205): FEED_CONTROL CLEAR_RETRY clears a feed's retry count and due time. The fetched descriptor. -/
  | feedClearRetry (d : Desc)
  /-- RTC_SET (R332): RTC_SET sets the RTC, or completes BUSY while an AT_TIME activation is scheduled. The fetched descriptor. -/
  | rtcSet (d : Desc)
  /-- HOST_SESSION_TIMEOUT (R351): The host session closes after 15 min without an expert or session descriptor. -/
  | hostSessionTimeout
  /-- TILES_READY (R364): Every unfenced tile acknowledges its shadow, so the armed kickoff is ready. -/
  | tilesReady
  /-- KICKOFF_COMMIT (R365): 10 µs before the apply boundary the kickoff is committed and can no longer be withdrawn. -/
  | kickoffCommit
  /-- KICKOFF_APPLY (R366): At the apply instant, the strobe is sent, staged values come into force, the huddle empties and KICKOFF_DONE is posted. Tiles that see the strobe on neither lane (R366). -/
  | kickoffApply (missed : BitVec 8)
  /-- APPLY_PACKET (R366): A tile that missed the strobe applies the shadow on receipt of the APPLY packet and is marked late. The tile that receives the APPLY packet. -/
  | applyPacket (t : Fin 8)
  /-- KICK_FIRE (R368): KICK rises and stays above threshold after having been low, so the barrier fires and the kickoff and any activation apply. Tiles that do not see the kickoff strobe. -/
  | kickFire (missed : BitVec 8)
  /-- KICK_TIMEOUT (R369): A KICK arm reaches TIMEOUT with the line low, so it disarms and KICKOFF_ARM completes TIMEOUT. Whether KICK reads low. -/
  | kickTimeout (low : Bool)
  /-- DIGEST_RECEIVED (R380): The referee evaluates a tile digest for OV_UNACTED, CROSSCHECK and stuck-switch conditions. The tile, the tick number, whether the packet CRC holds, what it carries of L00 on, and the ports, by local index, on which comparators or the breaker show something in the same tile cycle. -/
  | digestReceived (t : Fin 8) (tick : Fin 64) (valid : Bool) (ports : List DigPort) (also_ : List (Fin 24 × List Tripping))
  /-- DIGEST_LOST (R383): No valid digest arrives for 150 µs, or three are out of sequence, so SAFE_Tn is asserted. -/
  | digestLost (t : Fin 8)
  /-- CLOCK_MONITOR_WINDOW (R383): A mutual clock monitor window ends, and four failed windows declare PLL_CLOCK or RC_CLOCK. Which check, the deviation in 0.1 %, and whether the clock is absent. -/
  | clockMonitorWindow (m : ClkMon) (dev : Int) (absent : Bool)
  /-- CORE_HANG (R385): A core has made no heartbeat report for 10 ms, so the core restart begins, or a repeat enters the device safe state. -/
  | coreHang (k : Fin 4)
  /-- CORE_RESTART (R385): Once the other dispatches end, slots are written back, CORES is reset, the hung port recovers, and RESUME goes to ports in hold. -/
  | coreRestart
  /-- ALLOCATION_MIRROR_CHECK (R381): The referee checks the arriving allocation mirror with its own adder, and a failure declares OVERCOMMIT. Whether the test vector summed as expected. -/
  | allocationMirrorCheck (vectorOk : Bool)
  /-- MIRROR_LATE (R383): The mirror has not arrived 2 ms after a boundary, so the device safe state is entered. -/
  | mirrorLate
  /-- ROM_HUB_CHECK (R383): The hourly boot-ROM CRC check fails, so the device safe state is entered. Whether the CRC matches. -/
  | romHubCheck (good : Bool)
  /-- ROM_TILE_CHECK (R383): The hourly tile-ROM CRC check fails, so SAFE_Tn is asserted. The tile and whether its CRC matches. -/
  | romTileCheck (t : Fin 8) (good : Bool)
  /-- SUPPLY_HUB (R383): VHUB, VIO or VAUX stays out of range for 10 µs, so the device safe state is entered. The rail and the value it has had for 10 µs, mV. -/
  | supplyHub (rail : HubRail) (mv : Nat)
  /-- SUPPLY_TILE (R383): VTn stays out of 4.50–5.50 V for 10 µs, so SAFE_Tn is asserted. The tile and the value its VTn has had for 10 µs, mV. -/
  | supplyTile (t : Fin 8) (mv : Nat)
  /-- PORT_REACTION_TIMEOUT (R383): A tile does not confirm a referee port command within 100 µs, so SAFE_Tn is asserted. -/
  | portReactionTimeout (p : Fin 192)
  /-- SRAM_SCRUB (R386): The hourly scrub corrects single-bit errors and marks uncorrectable words as poisoned. Single-bit errors corrected beside those known, the words in which single-bit errors arise behind the scrub, and the words found uncorrectable, each by its memory's code and its byte offset. -/
  | sramScrub (corrected : Nat) (soft bad : List (Nat × Nat))
  /-- IDLE_ENTRY (R401): No activity for 20 µs, so the device enters IDLE and gates the core, pager and ring clocks. -/
  | idleEntry
  /-- DEEP_ENTRY (R403): The DEEP conditions have held for DEEP_DWELL, so the device saves state to the retention store and switches off the domains. The step of the entry during which wake sources arrive, and which, by their bits in PW_WAKE; none where none arrives. -/
  | deepEntry (cut : Option (Fin 5 × BitVec 8))
  /-- WAKE (R405): A wake request reaches AON, so SAFE and HUB power up and the wake sequence begins. Whether SVC_RX has fallen since the entry to DEEP, the fuse copies whose readings differ from before, and VPP in mV. -/
  | wake (svcRx : Bool) (reads : List FuseRead) (vpp : Nat)
  /-- PLL_LOCKED (R396): The hub PLL locks, the hub changes to it, and tile staging can begin. -/
  | pllLocked
  /-- PLL_LOCK_TIMEOUT (R396): The PLL has not locked 5 ms after enable, so PLL_CLOCK is declared and the tiles stay in reset. -/
  | pllLockTimeout
  /-- TILE_RELEASE (R408): At its staging slot, a tile is released, or kept in reset under SUPPLY_TILE. The tile and its VTn, mV. -/
  | tileRelease (t : Fin 8) (mv : Nat)
  /-- TILE_SUPPLY_RECOVER (R408): A late tile's VTn recovers, and the tile is restarted on its own. The tile and its VTn, mV. -/
  | tileSupplyRecover (t : Fin 8) (mv : Nat)
  /-- BOOT_IMAGE_LOADED (R460): The boot ROM finishes loading and checking the chosen image, the contexts are rebuilt and the cores start. -/
  | bootImageLoaded
  /-- POWER_ON_RESET (R406): VAUX rises through 2.90 V or falls below 2.80 V for 10 µs, so every domain, AON included, is reset. -/
  | powerOnReset
  /-- DEVICE_RESET (R406): RESET_N low, PW_CTRL.RESET or an absent supply resets all switched domains. What resets the device: RESET_N low, PW_CTRL.RESET, or the AON supervisor for an absent supply. -/
  | deviceReset (why : ResetCause)
  /-- DOMAIN_RELEASE (R407): RESET_N is high and supplies are in range for 1 ms, so domains are released, the self-test and fuse read run, BOOTSEL is sampled and the boot ROM chooses an image. BOOTSEL, TESTMODE, the fuse copies whose readings differ from before, and VPP in mV. -/
  | domainRelease (bootsel testmode : Bool) (reads : List FuseRead) (vpp : Nat)
  /-- REFEREE_SELFTEST_DONE (R387): The referee self-test ends; on a pass with FACTORY verified, tile staging may begin, and on a failure SELFTEST is latched. -/
  | refereeSelftestDone (pass : Bool)
  /-- XA_CRYSTAL_FAIL (R397): No crystal edge arrives for 4 ms, so AON changes to its backup RC and sets XA_FAIL. -/
  | xaCrystalFail
  /-- XA_CRYSTAL_RECOVER (R397): 1,024 good crystal edges arrive, so AON changes back and XA_FAIL clears. -/
  | xaCrystalRecover
  /-- PERST_N_FALL (R406): PERST_N falls, HOST is reset and the host link is fenced. -/
  | perstNFall
  /-- PERST_N_RISE (R405): PERST_N rises, HOST is released or the device wakes, and link training begins. -/
  | perstNRise
  /-- FUNCTION_LEVEL_RESET (R321): A Function Level Reset resets HOST and fences the host link. -/
  | functionLevelReset
  /-- D3HOT_ENTRY (R406): A transition to D3hot fences the host link without a reset. -/
  | d3hotEntry
  /-- D0_RETURN (R406): A return to D0 lifts the host fence. Speed and width of the link. -/
  | d0Return (speed width : Fin 16)
  /-- PCIE_LINK_TRAINED (R409): The PCIe link trains, and the HOST fence lifts. Negotiated speed and width. -/
  | pcieLinkTrained (speed width : Fin 16)
  /-- PROGRAM_WORD (R422): PROGRAM_WORD programs the 1 bits of FU_WDATA into a fuse word in ascending order, or is refused. Who asks, the word address, and VPP at the start in mV; the data are FU_WDATA. -/
  | programWord (src : FuseSrc) (addr : BitVec 8) (vpp : Nat)
  /-- INTEGRITY (R421): INTEGRITY computes and programs a region's integrity word, IV last. Who asks, the region code, and VPP at the start in mV. -/
  | integrity (src : FuseSrc) (region : Fin 16) (vpp : Nat)
  /-- LOCK (R424): LOCK programs a region's WL only if IV is set and the integrity matches. Who asks, the region code, and VPP at the start in mV. -/
  | lock (src : FuseSrc) (region : Fin 16) (vpp : Nat)
  /-- FORCE_LOCK (R425): FORCE_LOCK programs FORCE and WL, leaving the region LOCKED_INCOMPLETE. Who asks, the region code, and VPP at the start in mV. -/
  | forceLock (src : FuseSrc) (region : Fin 16) (vpp : Nat)
  /-- READ_LOCK (R421): READ_LOCK programs RL of PATCH or OEM. Who asks, the region code, and VPP at the start in mV. -/
  | readLock (src : FuseSrc) (region : Fin 16) (vpp : Nat)
  /-- REINFORCE (R429): REINFORCE pulses weak copies of programmed bits and then audits the region. Who asks, the region code, and VPP at the start in mV. -/
  | reinforce (src : FuseSrc) (region : Fin 16) (vpp : Nat)
  /-- AUDIT (R427): AUDIT reads a region or the array at three references and posts FUSE_WEAK for weak bits. Who asks, the region code, and the copies that read otherwise than before. -/
  | audit (src : FuseSrc) (region : Fin 16) (reads : List FuseRead)
  /-- FLOOR_ADVANCE (R428): FLOOR_ADVANCE programs FLOOR bits up to a value, or completes BAD. Who asks, and VPP at the start in mV; the value is FU_WDATA bits 7 to 0. -/
  | floorAdvance (src : FuseSrc) (vpp : Nat)
  /-- FUSE_RESERVED_OP (R421): A reserved FU_CMD operation does nothing and sets RESULT BAD. Who asks, the operation (0 for 0x0, k for 0x8 + k), and the region code. -/
  | fuseReservedOp (src : FuseSrc) (op : Fin 8) (region : Fin 16)
  /-- FUSE_AUDIT_PERIODIC (R427): The 24 h audit of the whole array runs. The copies that read otherwise than before. -/
  | fuseAuditPeriodic (reads : List FuseRead)
  /-- FUSE_HELD_OP_START (R436): An operation held behind an audit starts when the audit ends. VPP in mV. -/
  | fuseHeldOpStart (vpp : Nat)
  /-- FU_RADDR_WRITE (R420): A write to FU_RADDR makes FU_RDATA return that fuse word, or 0 for a read-locked region. -/
  | fuRaddrWrite (addr : BitVec 8)
  /-- SVC_FRAME_DISCARD (R441): A service frame with a bad length or CRC is discarded without reply, and SV_ERR advances. The bytes received after the sync byte. -/
  | svcFrameDiscard (raw : List (BitVec 8))
  /-- SVC_FRAME_GAP (R441): Two bytes of a service frame are more than 2 ms apart, so the frame is discarded. The time between two of its bytes, µs. -/
  | svcFrameGap (us : Nat)
  /-- AUTOBAUD_LOCK (R438): After 1 s idle, the start pulse of a sync byte is measured and the bit rate is locked. The rate measured, bit/s. -/
  | autobaudLock (rate : Nat)
  /-- SVC_LINE_IDLE (R438): The service line has been idle for 1 s, so the locked rate is released. -/
  | svcLineIdle
  /-- HELLO (R443): HELLO returns the unit's identity, versions, floor and update state. -/
  | hello (f : SvcFrame)
  /-- SVC_SESSION_OPEN (R444): A service SESSION_OPEN closes any old session and returns a session number, challenge and salt. -/
  | svcSessionOpen (f : SvcFrame)
  /-- SVC_SESSION_PROVE (R446): A service SESSION_PROVE grants the level on a matching proof, and otherwise closes the session and advances the lockout. -/
  | svcSessionProve (f : SvcFrame)
  /-- SVC_SESSION_CLOSE (R444): A service SESSION_CLOSE closes the service session. -/
  | svcSessionClose (f : SvcFrame)
  /-- PASSWORD_SET (R448): PASSWORD_SET stores a new VIEW or TECH key from the masked hash. -/
  | passwordSet (f : SvcFrame)
  /-- SVC_EXPERT_UNLOCK (R449): A service EXPERT_UNLOCK with 0x01 unlocks expert items for the service session. -/
  | svcExpertUnlock (f : SvcFrame)
  /-- SVC_EXPERT_RELOCK (R449): A service EXPERT_UNLOCK with 0x00 relocks expert items. -/
  | svcExpertRelock (f : SvcFrame)
  /-- REG_READ (R443): REG_READ returns BAR0 words as a host read would. -/
  | regRead (f : SvcFrame)
  /-- REG_WRITE (R443): REG_WRITE writes one BAR0 word as a host write would. The frame, VPP in mV, and the descriptors the device still reads from a ring it drains. -/
  | regWrite (f : SvcFrame) (vpp : Nat) (slots : List Desc)
  /-- SVC_HUDDLE_CHECK (R443): The service HUDDLE CHECK runs the consistency check. -/
  | svcHuddleCheck (f : SvcFrame)
  /-- SVC_HUDDLE_ARM_NEXT_BOUNDARY (R443): The service HUDDLE ARM NEXT_BOUNDARY arms a kickoff and answers once it has applied. -/
  | svcHuddleArmNextBoundary (f : SvcFrame)
  /-- SVC_HUDDLE_ARM_KICK (R443): The service HUDDLE ARM KICK arms a KICK kickoff and answers once it applies or times out. -/
  | svcHuddleArmKick (f : SvcFrame)
  /-- SVC_HUDDLE_DISCARD (R443): The service HUDDLE DISCARD empties the huddle. -/
  | svcHuddleDiscard (f : SvcFrame)
  /-- LOG_READ (R443): LOG_READ returns log records. -/
  | logRead (f : SvcFrame)
  /-- SETTINGS_SAVE (R459): SETTINGS_SAVE writes the running slot's settings record. -/
  | settingsSave (f : SvcFrame)
  /-- IMAGE_BEGIN (R456): IMAGE_BEGIN checks the head page, writes it to the idle slot and returns a resume token. The frame, and whether the head page was written and reads back. -/
  | imageBegin (f : SvcFrame) (good : Bool)
  /-- IMAGE_BLOCK (R456): IMAGE_BLOCK writes the next expected block after its CRC check, or is refused with SEQUENCE or IMAGE. The frame, and whether the block was written and reads back. -/
  | imageBlock (f : SvcFrame) (good : Bool)
  /-- IMAGE_RESUME (R456): IMAGE_RESUME returns the next expected block index. -/
  | imageResume (f : SvcFrame)
  /-- IMAGE_END (R456): IMAGE_END re-reads the slot and posts STAGED, or invalidates it and posts FAILED. The frame, and whether the slot reads back. -/
  | imageEnd (f : SvcFrame) (good : Bool)
  /-- ACTIVATE_NOW (R464): ACTIVATE NOW arms activation at the next 1 ms kickoff boundary. -/
  | activateNow (f : SvcFrame)
  /-- ACTIVATE_AT_TIME (R464): ACTIVATE AT_TIME arms activation at a given RTC second. -/
  | activateAtTime (f : SvcFrame)
  /-- ACTIVATE_KICK (R464): ACTIVATE KICK arms activation on the KICK barrier. -/
  | activateKick (f : SvcFrame)
  /-- CONFIRM (R462): CONFIRM confirms the trial if the health conditions hold, and advances the floor under R463. The frame, and VPP in mV. -/
  | confirm (f : SvcFrame) (vpp : Nat)
  /-- CANCEL (R457): CANCEL ends a download, invalidating its slot, or disarms an activation. -/
  | cancel (f : SvcFrame)
  /-- SVC_UNKNOWN_COMMAND (R443): An unlisted service command is answered NAK UNKNOWN. The frame and its command. -/
  | svcUnknownCommand (f : SvcFrame) (cmd : BitVec 8)
  /-- SVC_SESSION_TIMEOUT (R444): 15 min pass without a valid frame of the session, so the service session closes. -/
  | svcSessionTimeout
  /-- SESSION_LOCKOUT_END (R447): The lockout after failed proofs ends, and SESSION_OPEN is accepted again. -/
  | sessionLockoutEnd
  /-- TRIAL_WINDOW_EXPIRY (R462): The trial window ends, and the trial is auto-confirmed if allowed and healthy, otherwise a device reset fails the trial. VPP in mV, for a floor advance. -/
  | trialWindowExpiry (vpp : Nat)
  /-- ACTIVATION_INSTANT (R465): At the activation instant, hold is requested, dispatching stops, CORES is reset, the boot record is written and the new image load begins. -/
  | activationInstant
  /-- ACTIVATION_LOAD_DONE (R465): The new image is loaded and checked, settings are chosen, the cores start and RESUME is queued, or the previous slot is reloaded and FAILED posted. -/
  | activationLoadDone
  /-- REGISTER_WRITE (R355): A write to a register with no row of its own applies RW fields at once, stages RWS fields in the huddle, clears W1C bits and ignores the rest. BAR0 offset, the byte enables, and the word written by the host. -/
  | registerWrite (off : Fin 65536) (be : BitVec 4) (v : BitVec 32)
  /-- EVENT_COUNTER_OVF_CLEAR (R475): A write of 1 to an event counter's OVF bit clears the bit and the counter. BAR0 offset and the word written by the host. -/
  | eventCounterOvfClear (off : Fin 65536) (v : BitVec 32)
  /-- ERROR_COUNTER_READ (R474): A host or service read of an error-counter register returns its counters and clears them with their OVF bits. The path that reads, and the BAR0 offset. -/
  | errorCounterRead (a : Path6) (off : Fin 65536)
  /-- SC_STORE_READ (R317): A read of SC_STORE returns MIN_FREE and sets it to FREE. The path that reads. -/
  | scStoreRead (a : Path6)
  /-- SC_LAT_READ (R317): A read of SC_LAT returns and clears the worst latencies. The path that reads. -/
  | scLatRead (a : Path6)
  /-- WIDE_VALUE_LOW_READ (R477): A read of a 64-bit value's low register latches its high word for that access path. The path that reads, and the BAR0 offset. -/
  | wideValueLowRead (a : Path6) (off : Fin 65536)
  /-- UP_ACTIVATE_AT_WRITE (R478): A low-register write to UP_ACTIVATE_AT is held, and the high-register write applies both words. Which word, and its value. -/
  | upActivateAtWrite (high : Bool) (v : BitVec 32)
  /-- PATH_CTRL_WRITE (R168): A write to PP_PATH_CTRL starts the named step table directly, or is refused with REFUSED. Port and value. -/
  | pathCtrlWrite (p : Fin 192) (v : BitVec 32)
  /-- REF_CFG_WRITE (R394): A write to REF_CFG crosses into SAFE and sets FAULT_TEST or the referee interrupt selection within 1 µs. The value. -/
  | refCfgWrite (v : BitVec 32)
  /-- PW_CTRL_RESET (R413): A write of 1 to PW_CTRL.RESET starts a device reset 100 µs later. -/
  | pwCtrlReset
  /-- UP_CTRL_ARM (R464): A write to UP_CTRL.ARM arms activation at AT_TIME, KICK or NOW. Code of ARM. -/
  | upCtrlArm (src : Fin 4)
  /-- UP_CTRL_CANCEL (R464): A write of 1 to UP_CTRL.CANCEL disarms an activation or ends a download. -/
  | upCtrlCancel
  /-- UP_CTRL_SAVE (R459): A write of 1 to UP_CTRL.SAVE writes the settings record. -/
  | upCtrlSave
  /-- UP_CTRL_CONFIRM (R462): A write of 1 to UP_CTRL.CONFIRM confirms the trial if the health conditions hold. VPP in mV. -/
  | upCtrlConfirm (vpp : Nat)
  /-- RING_ENABLE (R323): Setting ENABLE in HL_RINGn_CFG enables a ring with zeroed indices, or is refused. The ring and the value written to HL_RINGn_CFG. -/
  | ringEnable (n : Fin 14) (v : BitVec 32)
  /-- RING_DISABLE (R349): Clearing ENABLE drains a host ring, cancelling unstarted descriptors, or disables a device ring at once. The ring, the value written to HL_RINGn_CFG, and the descriptors the device still reads from the ring. -/
  | ringDisable (n : Fin 14) (v : BitVec 32) (slots : List Desc)
  /-- KICK_JOIN_WRITE (R367): A write to HD_KICK_CFG.JOIN makes the unit join or leave the KICK barrier, and is ignored while armed on KICK. The word written to HD_KICK_CFG. -/
  | kickJoinWrite (v : BitVec 32)
  /-- ILLEGAL_MOVE (R271): A policy core meets a move of form 0b11, a form-0b00 move with non-zero bits [25:24], or a move naming an unimplemented port or a port of the wrong kind, and raises an ILLEGAL or PORT context fault with quarantine. The core that issues the move. -/
  | illegalMove (k : Fin 4)
  /-- KICK_LINE_LOW (R368): The KICK line is pulled low by another unit while this unit is armed, which records that the line has been seen low so that a later rise can fire the barrier. -/
  | kickLineLow
  /-- FUSE_OPERATION_DONE (R436): A fuse programming, lock, reinforce or advance operation finishes its last copy, sets RESULT, clears BUSY, and starts any audit that fell due during it. The copy that failed verification, if one did. -/
  | fuseOperationDone (fail : Option FuseFail)
  /-- FUSE_SUPPLY_LOST (R422): During a fuse operation VPP leaves 6.2–6.8 V, or VAUX falls below 3.135 V, so the operation stops after the copy in progress with RESULT ENV. VPP and VAUX, mV, and how many copies have been dealt with by the end of the copy in progress. -/
  | fuseSupplyLost (vpp vaux : Nat) (copies : Nat)
  /-- TRIPLICATED_REGISTER_DISAGREE (R383): Two of the three copies of a triplicated referee register disagree, so the referee declares SELFTEST and enters the device safe state. -/
  | triplicatedRegisterDisagree
deriving DecidableEq, Repr

end Sys2Proof
end

