-- ==== Sys2Proof/Machine/Memory.lean ====
section
/-! DEFINITION. Byte memories as sorted lists of cells (code RAM, roster and benches): the canonical form, reading,
writing and copying blocks. A byte that no cell lists reads 0 (DESIGN CHOICE, log entry 2). -/
namespace Sys2Proof.Machine

/-- A byte memory: addresses strictly rising, no cell holding 0. -/
abbrev Memory := List Host.Cell

/-- Every address of the memory lies above `b`, they rise strictly, and no cell holds 0. -/
def Memory.above : Option Nat → Memory → Bool
  | _, [] => true
  | b, c :: r => (match b with | some a => decide (a < c.1) | none => true) && c.2 != 0#8 && Memory.above (some c.1) r
/-- The canonical form of a memory. -/
def Memory.wf (m : Memory) : Bool := Memory.above none m

/-- What a byte reads as. -/
def Memory.read : Memory → Nat → Byte
  | [], _ => 0#8
  | c :: r, a => if c.1 == a then c.2 else Memory.read r a

/-- A byte is written; writing 0 removes its cell. -/
def Memory.write : Memory → Nat → Byte → Memory
  | [], a, v => if v == 0#8 then [] else [(a, v)]
  | c :: r, a, v =>
    if a < c.1 then (if v == 0#8 then c :: r else (a, v) :: c :: r)
    else if a = c.1 then (if v == 0#8 then r else (a, v) :: r)
    else c :: Memory.write r a v

/-- Bytes are written from an address on. -/
def Memory.writes (m : Memory) (a : Nat) : List Byte → Memory
  | [] => m
  | b :: r => Memory.writes (m.write a b) (a + 1) r

/-- The cells of bytes that stand from an address on. -/
def Memory.ofBytes (a : Nat) : List Byte → Memory
  | [] => []
  | b :: r => if b == 0#8 then Memory.ofBytes (a + 1) r else (a, b) :: Memory.ofBytes (a + 1) r

/-- `n` bytes from an address on. -/
def Memory.reads (m : Memory) (a n : Nat) : List Byte := (List.range n).map fun k => m.read (a + k)

/-- Every byte of `[a, a + n)` becomes 0. -/
def Memory.clear (m : Memory) (a n : Nat) : Memory := m.filter fun c => decide (c.1 < a) || decide (a + n ≤ c.1)

/-- The `n` bytes from `src` of memory `o` are copied to `dst` of `m`. -/
def Memory.copy (m : Memory) (dst : Nat) (o : Memory) (src n : Nat) : Memory :=
  (m.filter fun c => decide (c.1 < dst)) ++
    ((o.filter fun c => decide (src ≤ c.1) && decide (c.1 < src + n)).map fun c => (c.1 - src + dst, c.2)) ++
    (m.filter fun c => decide (dst + n ≤ c.1))

end Sys2Proof.Machine
end

