-- ==== Sys2Proof/Machine/Crypto.lean ====
section
/-! DEFINITION. SHA-256, HMAC-SHA-256 and ECDSA P-256 verification, which the manual names and takes from their
standards (PRESUMED, log entry 10). -/
namespace Sys2Proof.Machine

/-! ### SHA-256 -/

def rotr (x : BitVec 32) (n : Nat) : BitVec 32 := (x >>> n) ||| (x <<< (32 - n))
/-- Round constants: the first 32 bits of the fractions of the cube roots of the first 64 primes. -/
def shaK : List (BitVec 32) :=
  [0x428A2F98#32, 0x71374491#32, 0xB5C0FBCF#32, 0xE9B5DBA5#32, 0x3956C25B#32, 0x59F111F1#32, 0x923F82A4#32, 0xAB1C5ED5#32] ++
  [0xD807AA98#32, 0x12835B01#32, 0x243185BE#32, 0x550C7DC3#32, 0x72BE5D74#32, 0x80DEB1FE#32, 0x9BDC06A7#32, 0xC19BF174#32] ++
  [0xE49B69C1#32, 0xEFBE4786#32, 0x0FC19DC6#32, 0x240CA1CC#32, 0x2DE92C6F#32, 0x4A7484AA#32, 0x5CB0A9DC#32, 0x76F988DA#32] ++
  [0x983E5152#32, 0xA831C66D#32, 0xB00327C8#32, 0xBF597FC7#32, 0xC6E00BF3#32, 0xD5A79147#32, 0x06CA6351#32, 0x14292967#32] ++
  [0x27B70A85#32, 0x2E1B2138#32, 0x4D2C6DFC#32, 0x53380D13#32, 0x650A7354#32, 0x766A0ABB#32, 0x81C2C92E#32, 0x92722C85#32] ++
  [0xA2BFE8A1#32, 0xA81A664B#32, 0xC24B8B70#32, 0xC76C51A3#32, 0xD192E819#32, 0xD6990624#32, 0xF40E3585#32, 0x106AA070#32] ++
  [0x19A4C116#32, 0x1E376C08#32, 0x2748774C#32, 0x34B0BCB5#32, 0x391C0CB3#32, 0x4ED8AA4A#32, 0x5B9CCA4F#32, 0x682E6FF3#32] ++
  [0x748F82EE#32, 0x78A5636F#32, 0x84C87814#32, 0x8CC70208#32, 0x90BEFFFA#32, 0xA4506CEB#32, 0xBEF9A3F7#32, 0xC67178F2#32]
/-- Initial hash value: the first 32 bits of the fractions of the square roots of the first 8 primes. -/
def shaH0 : List (BitVec 32) :=
  [0x6A09E667#32, 0xBB67AE85#32, 0x3C6EF372#32, 0xA54FF53A#32, 0x510E527F#32, 0x9B05688C#32, 0x1F83D9AB#32, 0x5BE0CD19#32]

def wordBE (l : List (BitVec 8)) : BitVec 32 := BitVec.ofNat 32 (l.foldl (fun a b => a * 256 + b.toNat) 0)
def bytesBE (n v : Nat) : List (BitVec 8) := ((List.range n).map fun k => BitVec.ofNat 8 (v / 256 ^ k)).reverse
def natBE (l : List (BitVec 8)) : Nat := l.foldl (fun a b => a * 256 + b.toNat) 0

/-- The message schedule of one block. -/
def shaSchedule (ws : List (BitVec 32)) : List (BitVec 32) :=
  (List.range 48).foldl (fun w i =>
    let g := fun k => (w[k]?).getD 0#32
    let a := g (i + 1)
    let b := g (i + 14)
    let s0 := rotr a 7 ^^^ rotr a 18 ^^^ (a >>> 3)
    let s1 := rotr b 17 ^^^ rotr b 19 ^^^ (b >>> 10)
    w ++ [g i + s0 + g (i + 9) + s1]) ws

structure ShaState where
  a : BitVec 32
  b : BitVec 32
  c : BitVec 32
  d : BitVec 32
  e : BitVec 32
  f : BitVec 32
  g : BitVec 32
  h : BitVec 32

def shaRound (s : ShaState) (kw : BitVec 32 × BitVec 32) : ShaState :=
  let s1 := rotr s.e 6 ^^^ rotr s.e 11 ^^^ rotr s.e 25
  let ch := (s.e &&& s.f) ^^^ (~~~ s.e &&& s.g)
  let t1 := s.h + s1 + ch + kw.1 + kw.2
  let s0 := rotr s.a 2 ^^^ rotr s.a 13 ^^^ rotr s.a 22
  let mj := (s.a &&& s.b) ^^^ (s.a &&& s.c) ^^^ (s.b &&& s.c)
  ⟨t1 + s0 + mj, s.a, s.b, s.c, s.d + t1, s.e, s.f, s.g⟩

def shaBlock (h : ShaState) (blk : List (BitVec 8)) : ShaState :=
  let ws := (List.range 16).map fun k => wordBE ((blk.drop (4 * k)).take 4)
  let r := (shaK.zip (shaSchedule ws)).foldl shaRound h
  ⟨h.a + r.a, h.b + r.b, h.c + r.c, h.d + r.d, h.e + r.e, h.f + r.f, h.g + r.g, h.h + r.h⟩

/-- SHA-256 of a byte string. -/
def sha256 (m : List (BitVec 8)) : List (BitVec 8) :=
  let n := m.length
  let pad := m ++ [0x80#8] ++ List.replicate ((119 - n % 64) % 64) 0#8 ++ bytesBE 8 (8 * n)
  let i := fun k => (shaH0[k]?).getD 0#32
  let r := (List.range (pad.length / 64)).foldl (fun h k => shaBlock h ((pad.drop (64 * k)).take 64))
    ⟨i 0, i 1, i 2, i 3, i 4, i 5, i 6, i 7⟩
  [r.a, r.b, r.c, r.d, r.e, r.f, r.g, r.h].flatMap fun w => bytesBE 4 w.toNat

/-- HMAC-SHA-256. -/
def hmac (key msg : List (BitVec 8)) : List (BitVec 8) :=
  let k0 := if key.length > 64 then sha256 key else key
  let k := k0 ++ List.replicate (64 - k0.length) 0#8
  sha256 (k.map (· ^^^ 0x5C#8) ++ sha256 (k.map (· ^^^ 0x36#8) ++ msg))

/-- The bytes of an ASCII text. -/
def ascii (t : String) : List (BitVec 8) := t.toList.map fun c => BitVec.ofNat 8 c.toNat

/-! ### ECDSA P-256 -/

def p256p : Nat := 2 ^ 256 - 2 ^ 224 + 2 ^ 192 + 2 ^ 96 - 1
def p256n : Nat := 0xFFFFFFFF00000000FFFFFFFFFFFFFFFFBCE6FAADA7179E84F3B9CAC2FC632551
def p256b : Nat := 0x5AC635D8AA3A93E7B3EBBD55769886BC651D06B0CC53B0F63BCE3C3E27D2604B
def p256g : Nat × Nat :=
  (0x6B17D1F2E12C4247F8BCE6E563A440F277037D812DEB33A0F4A13945D898C296,
   0x4FE342E2FE1A7F9B8EE7EB4A7C0F9E162BCE33576B315ECECBB6406837BF51F5)

/-- b ^ e mod m, by the 256 bits of e from the highest. -/
def powMod (b e m : Nat) : Nat :=
  (List.range 256).foldl (fun r i => let q := r * r % m; if e / 2 ^ (255 - i) % 2 == 1 then q * b % m else q) 1
def invMod (a m : Nat) : Nat := powMod (a % m) (m - 2) m
def subMod (a b m : Nat) : Nat := (a + m - b % m) % m

/-- A point of the curve as (X, Y, Z) with x = X / Z², y = Y / Z³; Z = 0 at infinity. -/
abbrev EcPoint := Nat × Nat × Nat
def ecInf : EcPoint := (1, 1, 0)
def ecDouble (u : EcPoint) : EcPoint :=
  let (x, y, z) := u
  let p := p256p
  let yy := y * y % p
  let s := 4 * x * yy % p
  let m := 3 * subMod x (z * z) p * (x + z * z) % p
  let x' := subMod (m * m) (2 * s) p
  (x', subMod (m * subMod s x' p) (8 * yy * yy) p, 2 * y * z % p)
def ecAdd (u v : EcPoint) : EcPoint :=
  let (x1, y1, z1) := u
  let (x2, y2, z2) := v
  let p := p256p
  if z1 == 0 then v
  else if z2 == 0 then u
  else
    let u1 := x1 * (z2 * z2 % p) % p
    let s1 := y1 * (z2 * z2 * z2 % p) % p
    let h := subMod (x2 * (z1 * z1 % p)) u1 p
    let r := subMod (y2 * (z1 * z1 * z1 % p)) s1 p
    if h == 0 then (if r == 0 then ecDouble u else ecInf)
    else
      let hh := h * h % p
      let c := u1 * hh % p
      let x := subMod (r * r) (h * hh + 2 * c) p
      (x, subMod (r * subMod c x p) (s1 * (h * hh % p)) p, h * z1 * z2 % p)
def ecMul (k : Nat) (u : EcPoint) : EcPoint :=
  (List.range 256).foldl (fun r i => let d := ecDouble r; if k / 2 ^ (255 - i) % 2 == 1 then ecAdd d u else d) ecInf

/-- ECDSA P-256 verification: public key X then Y and signature r then s, 32 bytes each, big-endian, over SHA-256. -/
def ecdsaOk (pub sig msg : List (BitVec 8)) : Bool :=
  let x := natBE (pub.take 32)
  let y := natBE (pub.drop 32)
  let r := natBE (sig.take 32)
  let s := natBE (sig.drop 32)
  let z := natBE (sha256 msg)
  let on := decide (x < p256p) && decide (y < p256p) && (y * y) % p256p == (x * x * x + subMod p256b (3 * x) p256p) % p256p
  on && decide (0 < r) && decide (r < p256n) && decide (0 < s) && decide (s < p256n) &&
    (let w := invMod s p256n
     let (a, _, c) := ecAdd (ecMul (z * w % p256n) (p256g.1, p256g.2, 1)) (ecMul (r * w % p256n) (x, y, 1))
     c != 0 && a * invMod (c * c) p256p % p256p % p256n == r)

end Sys2Proof.Machine
end

