-- ==== Sys2Proof/Config.lean ====
section
/-! DEFINITION. What one unit fixes and the spec leaves open, as constants without a body: nothing can evaluate them, so
a claim holds whatever they are. Each one's log entry is named. -/
namespace Sys2Proof.Config

/-- A free 32-bit value, a fresh one for each count of `State.freeCtr` (log entry 9). -/
opaque freeWord : Nat → BitVec 32

/-- First TECH password of a unit, from its UNITKEY; the derivation is not published (R448, log entry 10). -/
opaque techPassword : List (BitVec 8) → List (BitVec 8)

/-- FACTORY key of a unit, from its UNITKEY; the derivation is not published (R445, log entry 10). -/
opaque factoryKey : List (BitVec 8) → List (BitVec 8)

/-- Boot ROM byte at an address; the manual does not give the ROM's contents (R282 S7, R432, log entry 9). -/
opaque romByte : Nat → BitVec 8

/-- Base of the ROM constant area of S7 (R282, log entry 9). -/
opaque romBase : Nat

/-- Limit of the ROM constant area of S7 in bytes (R282, log entry 9). -/
opaque romLimit : Nat

/-- The 64 bytes of a log record; the manual gives their number and not their layout (R443, R454, log entry 9). -/
opaque logRecord : Machine.LogRec → List (BitVec 8)

/-- Lane coefficients of the FACTORY trims, ports 0 to 191 and the substitute lane of tile t at 192 + t; the region's layout is not
published (R245, log entry 65). -/
opaque factoryCoef : Nat → Machine.Coef

/-- Divider ratio of a port's voltage channel, trimmed in the FACTORY region (R245, log entry 65). -/
opaque dividerRatio : Nat → Rat

/-- Trimmed self-check codes of a tile's converter, false A and true B: zero, REF_LO, REF_HI (R243, log entry 65). -/
opaque adcTrim : Nat → Bool → Int × Int × Int

/-- What MS_NTCn shows of a resistance, an r25 and a b for which the Beta equation gives no temperature, 1/16 °C (R265, log entry 65). -/
opaque ntcNoTemp : Nat → Nat → Nat → Int

end Sys2Proof.Config
end

