-- ==== Sys2Proof/Machine/State.lean ====
section
/-! DEFINITION. The state of the HZ7192 as plain data, the faults and refusals, and the state right after a power-on
reset. Each field names its width and the rule of spec/ that gives it; fields marked in INVENTORY.md as DESIGN CHOICE
have no reset value in the spec. -/
namespace Sys2Proof.Machine

/-- Reasons for which the block stops with a fault. No rule of the spec makes the block stop, so no meaning raises one. -/
inductive Fault
  /-- Raised by nothing: the spec gives every happening an effect. Safe. -/
  | none
deriving DecidableEq, Repr

/-- Reasons for which a command is refused. -/
inductive Refusal
  /-- Raised by the dispatch for a row that has no meaning yet. Safe: no next state is claimed. -/
  | notModelled (mnemonic : String)
deriving DecidableEq, Repr


/-- A counter at zero with its OVF bit clear (R474). -/
def cntZero : Cnt := ⟨0, false⟩

/-- The request a port shows before any was posted: nothing running, 5 V (reset of PP_PATH_CTRL.TARGET, R481). -/
def postNone : Post := ⟨.attach, 5000, 0, .none, .dflt, 0⟩

/-- Breaker set B0 of R175: thresholds in 1/16 of ILIM, times in 50 µs ticks. -/
def breakerB0 : List (Nat × Nat) :=
  [(18, 20000), (20, 10000), (24, 2000), (28, 800), (32, 200), (40, 40), (48, 10), (56, 2)]

/-- Feed breaker set FB0 of R193. -/
def feedFB0 : List (Nat × Nat) :=
  [(18, 60000), (20, 30000), (24, 10000), (32, 2000), (40, 500), (48, 100), (56, 20), (64, 4)]

/-- A ring at reset (R353). -/
def ringReset : Ring :=
  ⟨0#32, 0#32, false, 4, 0, 0, 1, 0#16, 0#16, .disabled, 0#16, 0, none, none, 0, [], false⟩

/-- Fuse contents the model takes at power-on (log entry 13): FACTORY, IDENT, KEYHASH and UNITKEY write-locked over their
integrity words, UNITKEY read-locked, GRADE HZ7192-SG, everything else unprogrammed (R416, R417, R419). -/
def fuseShipped : BitVec 8192 :=
  BitVec.ofNat 8192 (0x10000 * 2 ^ (32 * 0x24) + 0xC2A8FA9D * 2 ^ (32 * 0xEC) + 0x8405B4DB * 2 ^ (32 * 0xED)
    + 0xBAF465AE * 2 ^ (32 * 0xEE) + 0x190A55AD * 2 ^ (32 * 0xEF) + 0xB999 * 2 ^ (32 * 0xF3))

/-- Attach watch and CC state of one port, held in the watch island and the tile (R30-R60, R513). -/
structure Cc where
  /-- Attach state. Width 4; R57, R481 (02, 18). -/
  state : CcState
  /-- Partner type shown. Width 4; R35, R481 (02, 18). -/
  partner : Partner
  /-- ORIENT: false CC1, true CC2. Width 1; R38, R481 (02, 18). -/
  cc2 : Bool
  /-- Rp hold in progress. Width 1; R40, R481 (02, 18). -/
  rpHold : Bool
  /-- Rp level in force; off also stands for pulsed. Width 2; R43, R481 (02, 18). -/
  rp : RpLevel
  /-- Rp lowered to SinkTxNG by collision avoidance. Width 1; R69 (03). -/
  rpNg : Bool
  /-- When a CC line was last found above 5.5 V. Width AON cycle; R46 (02). -/
  ovAt : Nat
  /-- CC1 above 5.5 V. Width 1; R46, R481 (02, 18). -/
  ov1 : Bool
  /-- CC2 above 5.5 V. Width 1; R46, R481 (02, 18). -/
  ov2 : Bool
  /-- Line code of CC1 in the latest sample. Width 2; R33, R481 (02, 18). -/
  line1 : LineCode
  /-- Line code of CC2 in the latest sample. Width 2; R33, R481 (02, 18). -/
  line2 : LineCode
  /-- Last 8 pairings, latest first. Width 8 x 4; R56, R481 (02, 18). -/
  hist : List (LineCode × LineCode)
  /-- Filter history of the last FILT_M samples, latest first. Width up to 8 pairings; R39 (02). -/
  filt : List (Partner × Bool)
  /-- Pairing and orientation latched by the filter. Width pairing or none; R39, R41 (02). -/
  latched : Option (Partner × Bool)
  /-- Consecutive attach-wait samples with a non-attaching pairing. Width 2; R41 (02). -/
  nonAttach : Nat
  /-- Consecutive attach-wait samples with a different attaching pairing. Width 2; R41 (02). -/
  differ : Nat
  /-- tCCDebounce is complete. Width 1; R41 (02). -/
  debounced : Bool
  /-- VBUS has been at or below 0.8 V since: only a driven line or a tile that is not up puts the attach off. Width 1; R41, R47 (02). -/
  attachDue : Bool
  /-- Consecutive attach-wait samples that meet the detach condition of R43 for the latched pairing. Width 2; R43, R48 (02). -/
  openRun : Nat
  /-- Consecutive counted samples at or above the detach threshold. Width 2; R43 (02). -/
  detachRun : Nat
  /-- Comparators whose last test failed once. Width comparators; R58 (02). -/
  cmpFails : List Nat
  /-- Comparators declared stuck whose lifting test is still owed. Width comparators; R60 (02). -/
  cmpStuck : List Nat
  /-- A PORT_ENABLE has asked for the lifting test of R60. Width 1; R60 (02). -/
  cmpRetest : Bool
  /-- A disable recorded for a bootstrap port. Width 1; R55 (02). -/
  disablePend : Bool
  /-- Attached within the retry hold and waiting for the due time of ST05. Width 1; R179 (06). -/
  awaitDue : Bool
  /-- ATTACH waits for the outcome of the attach table. Width 1; R42 (02). -/
  attachPend : Bool
deriving DecidableEq, Repr

/-- Reset values of `Cc`: those of the field tables, and the values the assumption log names. -/
def Cc.reset (boot : Bool) : Cc where
  state := if boot then .bootRd else .watch
  partner := .none
  cc2 := false
  rpHold := false
  rp := .off
  rpNg := false
  ovAt := 0
  ov1 := false
  ov2 := false
  line1 := .opn
  line2 := .opn
  hist := List.replicate 8 (.opn, .opn)
  filt := []
  latched := none
  nonAttach := 0
  differ := 0
  debounced := false
  attachDue := false
  openRun := 0
  detachRun := 0
  cmpFails := []
  cmpStuck := []
  cmpRetest := false
  disablePend := false
  awaitDue := false
  attachPend := false

/-- Power path of one port: sequencer, mirror, breaker, gate, VCONN (R158-R184). -/
structure Path where
  /-- A table is running. Width 1; R481 PP_PATH_STAT (18). -/
  run : Bool
  /-- Running table, or the last one. Width 5; R481 PP_PATH_STAT (18). -/
  table : Nat
  /-- Current or last entry. Width 6; R481 PP_PATH_STAT (18). -/
  entry : Nat
  /-- The entry's action is done and its wait runs. Width 1; R158 (06). -/
  waiting : Bool
  /-- Posted request of the running or last table. Width record; R167 (06). -/
  post : Post
  /-- The one-deep post queue. Width record; R167 (06). -/
  queued : Option Post
  /-- Gate commanded closed. Width 1; R481 PP_PATH_STAT (18). -/
  gate : Bool
  /-- Discharge on. Width 1; R481 PP_PATH_STAT (18). -/
  dis : Bool
  /-- Window in the contract mirror. Width 2; R165, R481 PP_PATH_STAT (18). -/
  window : Window
  /-- Upper bound in the contract mirror; 0 with window OFF. Width mV; R165 (06). -/
  winHi : Nat
  /-- Lower bound in the contract mirror; 0 when not enforced. Width mV; R165 (06). -/
  winLo : Nat
  /-- Breaker set B0-B3 in force. Width 2; R160, R481 PP_PATH_STAT (18). -/
  bset : Nat
  /-- ILIM in force. Width mA; R173, R481 PP_PATH_VAL (18). -/
  ilim : Nat
  /-- PPS regulation armed. Width 1; R173 (06). -/
  regulate : Bool
  /-- Minimum of the APDO that regulation never folds below. Width mV; R173 (06). -/
  regMin : Nat
  /-- Feedback target in force. Width mV; R481 PP_PATH_VAL (18). -/
  target : Nat
  /-- End value of a slew in progress. Width mV; R160 (06). -/
  slewTo : Option Nat
  /-- How far PPS regulation has folded the target back. Width mV; R173 (06). -/
  fold : Nat
  /-- Safe-held. Width 1; R162, R481 PP_PATH_STAT (18). -/
  safeHeld : Bool
  /-- Last signal; none (0xF) since reset. Width 4; R163, R481 PP_PATH_STAT (18). -/
  lastSignal : Option Signal
  /-- Breaker accumulators A0-A7, units of 1/8 tick. Width 8 accumulators; R174 (06). -/
  acc : List Nat
  /-- Peak tick-mean current. Width mA; R177 (06). -/
  peak : Int
  /-- Hard limit armed by the scoreboard. Width mA; R173, R223 (06, 08). -/
  hardLimit : Option Nat
  /-- Fast-trip threshold, 0.5 A units. Width 8; R481 PP_PATH_CFG (18). -/
  ift : Nat
  /-- Slew rate, 0.1 V/ms units. Width 5; R481 PP_PATH_CFG (18). -/
  slew : Nat
  /-- Last value written to PP_PATH_CTRL. Width 32; R481 PP_PATH_CTRL (18). -/
  ctrl : Word
  /-- VCONN line: 0 off, 1 CC1, 2 CC2 (ON and LINE). Width 2; R481 PP_VCONN (18). -/
  vconn : Nat
  /-- The VCONN charge is still the first second's 1 W. Width 1; R233 (08). -/
  vcFresh : Bool
  /-- Peak from which the charge was last renewed. Width 10 mW; R233 (08). -/
  vcBase : Nat
  /-- Peak VCONN power over the last second. Width 10 mW; R233, R481 PP_VCONN (18). -/
  vcPeak : Nat
  /-- VCONN kept off until detach after VCONN_OC. Width 1; R176 (06). -/
  vcLocked : Bool
  /-- The 20 ms of R180 run. Width 1; R180 (06). -/
  stuckTimer : Bool
  /-- The discharge of a declared stuck switch runs. Width 1; R181 (06). -/
  stuckDis : Bool
  /-- SET_TARGET of ST01 or ST02 done, final SIGNAL not yet. Width 1; R183 (06). -/
  moved : Bool
  /-- Discharge on until VBUS is at or below 0.80 V. Width 1; R177, R21 (06, 01). -/
  disTrip : Bool
  /-- Detach declared, DETACH not yet posted; its MID_TRANSITION. Width 1; R183 (06). -/
  detachMid : Option Bool
deriving DecidableEq, Repr

/-- Reset values of `Path`: those of the field tables, and the values the assumption log names. -/
def Path.reset : Path where
  run := false
  table := 0
  entry := 0
  waiting := false
  post := postNone
  queued := none
  gate := false
  dis := false
  window := .off
  winHi := 0
  winLo := 0
  bset := 0
  ilim := 0
  regulate := false
  regMin := 3300
  target := 5000
  slewTo := none
  fold := 0
  safeHeld := false
  lastSignal := none
  acc := List.replicate 8 0
  peak := 0
  hardLimit := none
  ift := 0x24
  slew := 5
  ctrl := 0x0FA00000#32
  vconn := 0
  vcFresh := false
  vcBase := 0
  vcPeak := 0
  vcLocked := false
  stuckTimer := false
  stuckDis := false
  moved := false
  disTrip := false
  detachMid := none

/-- Retry state of one port, kept in AON (R178, R179, R481 PP_RETRY). -/
structure Retry where
  /-- Failure count 0-16. Width 5; R178, R481 (06, 18). -/
  f : Nat
  /-- Last trip cause. Width 8; R177, R481 (06, 18). -/
  last : TripCause
  /-- Lockout cause. Width 4; R481 (18). -/
  lock : LockCause
  /-- Retry hold running. Width 1; R179, R481 (06, 18). -/
  hold : Bool
  /-- AON cycle of the next probe; DUE shows the seconds left. Width AON cycle; R178, R481 DUE (06, 18). -/
  due : Option Nat
  /-- A probe (ST05) runs. Width 1; R178 (06). -/
  probing : Bool
  /-- Within 60 s of RETRY_QUALIFIED. Width 1; R178 (06). -/
  qualified : Bool
deriving DecidableEq, Repr

/-- Reset values of `Retry`: those of the field tables, and the values the assumption log names. -/
def Retry.reset : Retry where
  f := 0
  last := .none
  lock := .none
  hold := false
  due := none
  probing := false
  qualified := false

/-- Protocol sequencer state of one port (R61-R94). -/
structure Pd where
  /-- Message table the port runs. Width 2; R481 PP_PD_STATUS (18). -/
  table : MtTable
  /-- Current entry. Width 8; R481 PP_PD_STATUS (18). -/
  entry : Nat
  /-- The entry's action is done and its wait runs. Width 1; R78 (03). -/
  waiting : Bool
  /-- Retry counter. Width 2; R77 (03). -/
  retry : Nat
  /-- Transmit MessageID for SOP. Width 3; R77, R81 (03). -/
  txId0 : Nat
  /-- Transmit MessageID for SOP'. Width 3; R77, R81 (03). -/
  txId1 : Nat
  /-- Transmit MessageID for SOP''. Width 3; R77, R81 (03). -/
  txId2 : Nat
  /-- MessageID stored for SOP. Width 3 or none; R79 (03). -/
  rxId0 : Option Nat
  /-- MessageID stored for SOP'. Width 3 or none; R79 (03). -/
  rxId1 : Option Nat
  /-- MessageID stored for SOP''. Width 3 or none; R79 (03). -/
  rxId2 : Option Nat
  /-- The TX buffer. Width 264 bytes and flags; R68 (03). -/
  tx : Option TxMsg
  /-- The message of the TX buffer has been started. Width 1; R85 (03). -/
  txStarted : Bool
  /-- AMS_END and AMS_START of the message last put into the TX buffer. Width 2; R68, R79 (03). -/
  txFlags : Nat
  /-- Chunk named by the last accepted Chunk Request, or last sent. Width 4; R77 (03). -/
  txChunk : Nat
  /-- Last frame sent. Width tag; R77 (03). -/
  last : FrameOut
  /-- Bytes of the last frame sent, message header first and without its CRC. Width up to 30 bytes; R70, R290 (03, 10). -/
  frame : List (BitVec 8)
  /-- SOP* of the last frame sent from the buffer, a chunk or a Chunk Request. Width 2; R77 (03). -/
  lastSop : Sop
  /-- A transmission other than a GoodCRC is on the line, or follows the GoodCRC. Width 1; R78 (03). -/
  txActive : Bool
  /-- A GoodCRC of the port is on the line. Width 1; R44, R78 (02, 03). -/
  gcActive : Bool
  /-- The last reception presented. Width 264 bytes; R64 (03). -/
  rx : Option Msg
  /-- A reception held for the next wait that takes one. Width 264 bytes; R78 (03). -/
  rxHeld : Option Msg
  /-- Chunked assembly in progress. Width record; R74 (03). -/
  asm : Option Assembly
  /-- The most recent wait ended on a valid reception. Width 1; R79 (03). -/
  byRx : Bool
  /-- The tile's MT_SEL has changed and the port has not yet changed table. Width 1; R84 (03). -/
  tableReq : Bool
  /-- Hold requested, port not yet at an IDLE_POINT wait. Width 1; R85 (03). -/
  holdReq : Bool
  /-- The policy has resumed the port; it leaves hold at its next IDLE_POINT wait. Width 1; R89 (03). -/
  resume : Bool
  /-- Reply given to the last reception answered in hold. Width 3; R86 (03). -/
  holdReply : HoldReply
  /-- PS_RDY is due in hold once Accept is acknowledged. Width 1; R86 (03). -/
  holdPsRdy : Bool
  /-- Trained slicer threshold, (vTH - 0.30 V) / 10 mV. Width 6; R63, R481 PP_PD_STATUS (03, 18). -/
  vth : Nat
  /-- Revision in force: true 3.x. Width 1; R70, R481 PP_PD_STATUS (03, 18). -/
  rev3 : Bool
  /-- RX_CRC counter. Width 16+OVF; R90, R481 (03, 18). -/
  rxCrc : Cnt
  /-- RX_TRUNC counter. Width 16+OVF; R90, R481 (03, 18). -/
  rxTrunc : Cnt
  /-- RX_CODE counter. Width 16+OVF; R90, R481 (03, 18). -/
  rxCode : Cnt
  /-- TX_FAIL counter. Width 16+OVF; R90, R481 (03, 18). -/
  txFail : Cnt
  /-- TX_DISCARD counter. Width 16+OVF; R90, R481 (03, 18). -/
  txDiscard : Cnt
  /-- RX_DUP counter. Width 16+OVF; R90, R481 (03, 18). -/
  rxDup : Cnt
deriving DecidableEq, Repr

/-- Reset values of `Pd`: those of the field tables, and the values the assumption log names. -/
def Pd.reset : Pd where
  table := .rom
  entry := 0
  waiting := false
  retry := 0
  txId0 := 0
  txId1 := 0
  txId2 := 0
  rxId0 := none
  rxId1 := none
  rxId2 := none
  tx := none
  txStarted := false
  txFlags := 0
  txChunk := 0
  last := .none
  frame := []
  lastSop := .sop
  txActive := false
  gcActive := false
  rx := none
  rxHeld := none
  asm := none
  byRx := false
  tableReq := false
  holdReq := false
  resume := false
  holdReply := .none
  holdPsRdy := false
  vth := 25
  rev3 := true
  rxCrc := cntZero
  rxTrunc := cntZero
  rxCode := cntZero
  txFail := cntZero
  txDiscard := cntZero
  rxDup := cntZero

/-- Policy state of one port (R95-R131, R135-R140). -/
structure Pol where
  /-- Port enabled. Width 1; R481 PP_PORT.ENABLED (18). -/
  enabled : Bool
  /-- Profile in force. Width 4; R98, R481 PP_PORT.PROFILE (04, 18). -/
  profile : Nat
  /-- Object set given by PORT_PDO_SET; none until accepted. Width 11 words; R99 (04). -/
  custom : Option (List Word)
  /-- Policy state. Width 4; R97, R481 PP_CONTRACT.STATE (04, 18). -/
  state : PolState
  /-- READY state left for a swap. Width 4; R97 (04). -/
  back : PolState
  /-- Contract kind. Width 2; R481 PP_CONTRACT.KIND (18). -/
  kind : CKind
  /-- EPR mode. Width 1; R481 PP_CONTRACT.EPR (18). -/
  epr : Bool
  /-- Revision of the contract. Width 1; R481 PP_CONTRACT.REV (18). -/
  cRev3 : Bool
  /-- Object position of the contract. Width 4; R481 PP_CONTRACT.POSITION (18). -/
  pos : Nat
  /-- Contract voltage. Width mV (20 mV units shown); R481 PP_CONTRACT.VOLTAGE (18). -/
  mv : Nat
  /-- Operating current of the contract. Width mA; R110 (04). -/
  ma : Nat
  /-- Current limit of the contract: offered current (fixed) or operating current. Width mA; R173 (06). -/
  limitMa : Nat
  /-- Contract kind of the standing RDO, as its PS_RDY carried it. Width 2; R87 (03). -/
  stKind : CKind
  /-- Standing RDO; 0 when none. Width 32; R87, R481 PP_RDO (03, 18). -/
  rdo : Word
  /-- RDO of the last accepted Request, awaiting PS_RDY. Width 32; R87 (03). -/
  req : Word
  /-- PDO copied in the last accepted EPR_Request. Width 32; R86, R107 (03, 04). -/
  reqPdo : Word
  /-- Copied PDO of the standing contract. Width 32; R86 (03). -/
  stPdo : Word
  /-- A Request has been received since the port attached or became a newcomer. Width 1; R217, R226 (08). -/
  reqSeen : Bool
  /-- A Hard_Reset has been sent or received and no Source_Capabilities acknowledged since: tNoResponse runs. Width 1; R117 (04). -/
  noResp : Bool
  /-- The accepted Request repeats the standing RDO of a PPS contract. Width 1; R115 (04). -/
  repeat_ : Bool
  /-- Capability Mismatch of the last Request. Width 1; R106 (04). -/
  mismatch : Bool
  /-- Greatest power of any PDO of the partner's sink capabilities. Width 0.25 W; R106 (04). -/
  sinkMax : Option Nat
  /-- Greatest power of any PDO of the partner's EPR sink capabilities. Width 0.25 W; R106 (04). -/
  sinkEpr : Option Nat
  /-- Operational PDP of EPR_Mode (Enter). Width 0.25 W; R106 (04). -/
  eprPdp : Option Nat
  /-- Objects of the last offer sent. Width up to 11 words; R103 (04). -/
  sent : List Word
  /-- Objects of the offer most recently acknowledged. Width up to 11 words; R107 (04). -/
  acked : List Word
  /-- The acknowledged offer was EPR_Source_Capabilities. Width 1; R107 (04). -/
  ackEpr : Bool
  /-- Objects in the last offer sent. Width 4; R481 PP_OFFER.NOBJ (18). -/
  offN : Nat
  /-- The last offer was EPR_Source_Capabilities. Width 1; R481 PP_OFFER.EPR_CAPS (18). -/
  offEpr : Bool
  /-- Objects of the profile withheld from the last offer. Width 11; R101, R481 PP_OFFER (04, 18). -/
  withheld : BitVec 11
  /-- Power of the last offer. Width 10, 0.25 W; R481 PP_OFFER.PDP (18). -/
  offPdp : Nat
  /-- Cable limit that the last offer was built with. Width mA; R100, R137 (04, 05). -/
  offLimit : Nat
  /-- Objects of the profile withdrawn for the feed voltage. Width up to 11 words; R102 (04). -/
  withdrawn : List Word
  /-- Objects of the profile that the feed voltage let the last offer carry. Width up to 11 words; R101, R102 (04). -/
  live : List Word
  /-- A new offer is due. Width 1; R97, R102, R137 (04, 05). -/
  newOffer : Bool
  /-- The offer due or sent follows a profile change. Width 1; R118 (04). -/
  profChange : Bool
  /-- Cable class. Width 4; R136, R481 PP_PORT.CABLE (05, 18). -/
  cable : CableClass
  /-- VID of the cable. Width 16; R137 (05). -/
  cableVid : BitVec 16
  /-- PID of the cable. Width 16; R137 (05). -/
  cablePid : BitVec 16
  /-- Raw Cable VDO. Width 32; R137 (05). -/
  cableVdo : Word
  /-- Cable discovery is running (paused counts as running). Width 1; R135 (05). -/
  discRun : Bool
  /-- Discover Identity attempts to SOP' so far. Width 5; R135 (05). -/
  discTries : Nat
  /-- Attempts of the EPR entry check. Width 2; R139 (05). -/
  eprTries : Nat
  /-- Hard-reset count. Width 2; R117 (04). -/
  hardResets : Nat
  /-- Unacknowledged sends of Source_Capabilities. Width 6; R116 (04). -/
  capsSends : Nat
  /-- A PD message has been received in this attach. Width 1; R116, R117 (04). -/
  pdSeen : Bool
  /-- The first explicit contract of the attach has been made. Width 1; R106 (04). -/
  firstDone : Bool
  /-- EPR_Get_Sink_Cap has been sent in this attach. Width 1; R106 (04). -/
  eprDone : Bool
  /-- Response awaited. Width tag; R116 (04). -/
  expect : Expect
  /-- Message handed to the protocol sequencer and not yet reported. Width message; R68, R127 (03, 04). -/
  flight : Option TxMsg
  /-- Specification Revision of the last accepted Request: true 3.x. Width 1; R70 (03). -/
  reqRev3 : Bool
  /-- Messages queued behind the sequence in progress, replies first. Width messages; R127 (04). -/
  outq : List TxMsg
  /-- EPR entry: 0 none; 1 Enter Acknowledged sent; 2 waiting for VCONN; 3 waiting for the cable; 4 Enter Succeeded sent. Width 3; R111 (04). -/
  eprEntry : Nat
  /-- Exit of EPR mode under way on the device's initiative. Width 1; R114 (04). -/
  eprExit : Bool
  /-- The swap under way makes the device VCONN source. Width 1; R120 (04). -/
  swapTake : Bool
  /-- Retries of the device's own VCONN_Swap after Wait. Width 2; R121 (04). -/
  swapTries : Nat
  /-- The device's own VCONN_Swap gave way to the partner's sequence; the need is looked at again after it. Width 1; R124 (04). -/
  swapDue : Bool
  /-- The swap was asked for by VCONN_SWAP_REQUEST. Width 1; R332 (12). -/
  swapHost : Bool
  /-- Partner marked VCONN-incapable for this attach. Width 1; R121 (04). -/
  vcIncapable : Bool
  /-- The partner's request last answered Wait, and when. Width kind, AON cycle; R124 (04). -/
  waited : Option (MsgKind × Nat)
  /-- OCP event flag. Width 1; R125 (04). -/
  ocp : Bool
  /-- OVP event flag. Width 1; R125 (04). -/
  ovp : Bool
  /-- OTP event flag. Width 1; R125 (04). -/
  otp : Bool
  /-- BIST mode honoured and in progress. Width 1; R125 (04). -/
  bist : Bool
  /-- Last information message recorded. Width message; R125 (04). -/
  lastInfo : Option Msg
  /-- The offer that is due answers EPR_Get_Source_Cap. Width 1; R125 (04). -/
  eprDue : Bool
  /-- Messages answered in hold and delivered to the policy, oldest first, each with the reply given. Width up to 16 messages; R89, R337 (03, 12). -/
  answered : List (Msg × HoldReply)
deriving DecidableEq, Repr

/-- Reset values of `Pol`: those of the field tables, and the values the assumption log names. -/
def Pol.reset : Pol where
  enabled := true
  profile := 5
  custom := none
  state := .detached
  back := .ready
  kind := .none
  epr := false
  cRev3 := false
  pos := 0
  mv := 0
  ma := 0
  limitMa := 0
  stKind := .none
  rdo := 0#32
  req := 0#32
  reqPdo := 0#32
  stPdo := 0#32
  reqSeen := false
  noResp := false
  repeat_ := false
  mismatch := false
  sinkMax := none
  sinkEpr := none
  eprPdp := none
  sent := []
  acked := []
  ackEpr := false
  offN := 0
  offEpr := false
  withheld := 0#11
  offPdp := 0
  offLimit := 3000
  withdrawn := []
  live := []
  newOffer := false
  profChange := false
  cable := .unknown
  cableVid := 0#16
  cablePid := 0#16
  cableVdo := 0#32
  discRun := false
  discTries := 0
  eprTries := 0
  hardResets := 0
  capsSends := 0
  pdSeen := false
  firstDone := false
  eprDone := false
  expect := .none
  flight := none
  reqRev3 := true
  outq := []
  eprEntry := 0
  eprExit := false
  swapTake := false
  swapTries := 0
  swapDue := false
  swapHost := false
  vcIncapable := false
  waited := none
  ocp := false
  ovp := false
  otp := false
  bist := false
  lastInfo := none
  eprDue := false
  answered := []

/-- Structured VDM and Rally state of one port (R132-R157). -/
structure Rally where
  /-- Port in Rally mode. Width 1; R140, R481 PP_PORT.RALLY (05, 18). -/
  active : Bool
  /-- Partner VID. Width 16; R140, R481 PP_PARTNER (05, 18). -/
  vid : BitVec 16
  /-- Partner PID. Width 16; R140, R481 PP_PARTNER (05, 18). -/
  pid : BitVec 16
  /-- Step of SOP discovery. Width tag; R140 (05). -/
  step : SopStep
  /-- SVIDs recorded. Width up to 24; R140 (05). -/
  svids : List (BitVec 16)
  /-- VDM request outstanding. Width tag; R134 (05). -/
  req : VdmReq
  /-- VDM header of the request outstanding. Width 32; R134 (05). -/
  reqHdr : Word
  /-- VDOs of the request outstanding. Width up to 6; R134 (05). -/
  reqVdos : List Word
  /-- SOP* of the request outstanding. Width 2; R134 (05). -/
  reqSop : Sop
  /-- Request that waits out tVDMBusy. Width tag; R134 (05). -/
  busyReq : VdmReq
  /-- BUSY answers so far. Width 2; R134 (05). -/
  busyN : Nat
  /-- Object position of the Rally mode. Width 3; R145 (05). -/
  objPos : Nat
  /-- Reaction class of the Rally Mode VDO. Width 2; R149 (05). -/
  react : Nat
  /-- ATTN of the Rally Mode VDO. Width 1; R146 (05). -/
  attn : Bool
  /-- MAX_PLEDGE, at most 960. Width 10; R146 (05). -/
  maxPledge : Nat
  /-- Pledge in effect, 0.25 W. Width 10; R150 (05). -/
  pledge : Nat
  /-- PLEDGE, REACT and HOLD of the Pledge VDO that takes effect at the next boundary. Width 10+2+10; R150, R152, R156 (05). -/
  pledgeNext : Option (Nat × Nat × Nat)
  /-- The message that carried the Pledge VDO that takes effect at the next boundary. Width message; R143 (05). -/
  pledgeMsg : Option Msg
  /-- Reaction class of the last Pledge VDO. Width 2; R146 (05). -/
  pledgeReact : Nat
  /-- HOLD minutes of the last Pledge VDO. Width 10; R146 (05). -/
  holdMin : Nat
  /-- SEQ of the last NOTICE or CURTAIL. Width 4; R146 (05). -/
  seq : Nat
  /-- Consecutive NOTICEs treated as NAK or abandoned. Width 2; R151 (05). -/
  nakRun : Nat
  /-- STATE of the last NOTICE. Width 2; R150 (05). -/
  noticeState : Nat
  /-- ALLOC of the last NOTICE. Width 10; R150 (05). -/
  noticeAlloc : Nat
  /-- CREDIT of the last NOTICE. Width 10; R150 (05). -/
  noticeCredit : Nat
  /-- A NOTICE is due. Width 1; R150 (05). -/
  noticeDue : Bool
  /-- TARGET of a curtailment that stands. Width 0.25 W; R153 (05). -/
  curtail : Option Nat
  /-- The standing curtailment has been confirmed. Width 1; R153 (05). -/
  curtConf : Bool
  /-- Allocation held before the curtailment. Width 10; R153 (05). -/
  preAlloc : Nat
  /-- BROKEN_HOLDOFF running. Width 1; R154 (05). -/
  heldOff : Bool
  /-- Mode VDOs of the last Discover Modes answer that were not accepted. Width up to 6 x 32; R148 (05). -/
  modesBad : List Word
  /-- SVID 0x3C5D has been listed in this discovery. Width 1; R140 (05). -/
  sawRally : Bool
  /-- When the last NOTICE of this Rally mode was sent. Width AON cycle; R150 (05). -/
  noticeAt : Option Nat
  /-- When the curtailment that stands began. Width AON cycle; R153 (05). -/
  curtAt : Nat
  /-- HOLD minutes of the pledge in effect when the curtailment that stands began. Width 10; R153 (05). -/
  curtHold : Nat
  /-- CURTAIL or RESTORE that waits for the exchange outstanding. Width tag; R127, R153, R156 (04, 05). -/
  owed : VdmReq
  /-- The ladder runs for an allocation whose curtailment has outlasted HOLD. Width 1; R153 (05). -/
  ladder : Bool
deriving DecidableEq, Repr

/-- Reset values of `Rally`: those of the field tables, and the values the assumption log names. -/
def Rally.reset : Rally where
  active := false
  vid := 0#16
  pid := 0#16
  step := .idle
  svids := []
  req := .none
  reqHdr := 0#32
  reqVdos := []
  reqSop := .sop
  busyReq := .none
  busyN := 0
  objPos := 0
  react := 0
  attn := false
  maxPledge := 0
  pledge := 0
  pledgeNext := none
  pledgeMsg := none
  pledgeReact := 0
  holdMin := 0
  seq := 0
  nakRun := 0
  noticeState := 0
  noticeAlloc := 0
  noticeCredit := 0
  noticeDue := false
  curtail := none
  curtConf := false
  preAlloc := 0
  heldOff := false
  modesBad := []
  sawRally := false
  noticeAt := none
  curtAt := 0
  curtHold := 0
  owed := .none
  ladder := false

/-- Scoreboard state of one port (R210-R241). -/
structure Sb where
  /-- CLASS, WEIGHT, FLOOR and CEILING in force. Width 30; R214, R481 PP_SB_CFG (08, 18). -/
  set : SbSet
  /-- CLASS the scoreboard uses since its last boundary: 0 ESSENTIAL, 1 PRIORITY, 2 STANDARD, 3 DEFERRABLE. Width 2; R214, R239, R241 (08). -/
  cls : Nat
  /-- WEIGHT it uses, 1/16 units. Width 8; R214, R239, R241 (08). -/
  weight : Nat
  /-- FLOOR it uses, 0.25 W units. Width 10; R214, R239, R241 (08). -/
  floor : Nat
  /-- CEILING it uses, 0.25 W units. Width 10; R214, R239, R241 (08). -/
  ceil : Nat
  /-- A newcomer's report has come: UNFUNDED from the next boundary. Width 1; R215, R226 (08). -/
  newc : Bool
  /-- The tile link was lost: the reserve is counted from the next boundary. Width 1; R241 (08). -/
  lost : Bool
  /-- Allocation state. Width 4; R215, R481 PP_SB_STAT (08, 18). -/
  state : SbState
  /-- Ladder step reached. Width 3; R223, R481 PP_SB_STAT (08, 18). -/
  step : Nat
  /-- A usage cap stands. Width 1; R228, R481 PP_SB_STAT (08, 18). -/
  usage : Bool
  /-- The usage cap that stands, 0.25 W. Width 10; R227 (08). -/
  usageCap : Nat
  /-- VC_FORCED. Width 1; R234, R481 PP_SB_STAT (08, 18). -/
  vcForced : Bool
  /-- Target of the last boundary, 0.25 W. Width 10; R219, R481 PP_SB_STAT (08, 18). -/
  target : Nat
  /-- Counted allocation, 0.25 W. Width 10; R210, R481 PP_SB_STAT (08, 18). -/
  alloc : Nat
  /-- Decided value of a decrease. Width 10; R221 (08). -/
  decided : Option Nat
  /-- The decrease has been confirmed since the last boundary. Width 1; R221, R222 (08). -/
  confirmed : Bool
  /-- ST10 posted by shedding; reserve counted from VSAFE0V_OK. Width 1; R236 (08). -/
  disconnecting : Bool
  /-- ST06 of a FLOOR stage posted; allocation becomes FLOOR at LIMIT_SET. Width 1; R236 (08). -/
  floorLim : Bool
  /-- Admission order number. Width order; R218 (08). -/
  admOrd : Option Nat
  /-- Order number of the arrival of the port's last report or re-grant request. Width order; R218 (08). -/
  arrOrd : Option Nat
  /-- A SHED port asks to be granted again. Width 1; R237 (08). -/
  regrant : Bool
  /-- Demand of R217 before caps. Width 10; R217, R481 PP_SB_DEMAND (08, 18). -/
  demand : Nat
  /-- Credited pledge. Width 10; R153, R481 PP_SB_DEMAND (08, 18). -/
  credit : Nat
  /-- P_PEAK rounded up to a quantum. Width 10; R227, R481 PP_SB_DEMAND (08, 18). -/
  peak : Nat
  /-- Highest 1 kHz power of each of the last boundaries of USAGE_WIN, latest first. Width mW maxima; R227 (08). -/
  peaks : List Nat
  /-- Highest 1 kHz power sample of the current cycle. Width mW; R227 (08). -/
  cycPeak : Nat
  /-- Boundaries for which the counted allocation has been unchanged. Width boundaries; R227 (08). -/
  same : Nat
  /-- Boundaries since attach or the last release of a usage cap. Width boundaries; R227 (08). -/
  sinceRel : Nat
  /-- Consecutive samples at or above 95 % of the allocation. Width 7; R228 (08). -/
  hiRun : Nat
  /-- Consecutive samples at or below the decided allocation. Width 4; R222, R153 (08, 05). -/
  loRun : Nat
  /-- Model temperature, degrees C; set to ta at the first boundary. Width exact; R230, R481 PP_SB_THERM.T (08, 18). -/
  temp : Rat
  /-- The first boundary has set the model temperature. Width 1; R230 (08). -/
  tempSet : Bool
  /-- Row of R231. Width 2; R231, R481 PP_SB_THERM.ROW (08, 18). -/
  row : Nat
  /-- Thermal cap, 0.25 W; 0 with row 0. Width 10; R231, R481 PP_SB_THERM.CAP (08, 18). -/
  cap : Nat
  /-- Consecutive current samples below TARGET over the contract voltage. Width 4; R153 (05). -/
  curRun : Nat
  /-- Current samples of the current cycle. Width mA samples; R230 (08). -/
  cycI : List Int
  /-- The port waits for VCONN. Width 1; R234 (08). -/
  vcWait : Bool
  /-- Rp level last posted by ST09. Width 2; R223, R225 (08). -/
  rpReq : RpLevel
  /-- ST09 has been posted and has not ended. Width 1; R222 (08). -/
  rpWait : Bool
  /-- Step 4 has returned the port to its reserve: its offers are built from it. Width 1; R224 (08). -/
  resvOffer : Bool
deriving DecidableEq, Repr

/-- Reset values of `Sb`: those of the field tables, and the values the assumption log names. -/
def Sb.reset : Sb where
  set := ⟨2, 16, 60, 960⟩
  cls := 2
  weight := 16
  floor := 60
  ceil := 960
  newc := false
  lost := false
  state := .idle
  step := 0
  usage := false
  usageCap := 0
  vcForced := false
  target := 18
  alloc := 18
  decided := none
  confirmed := false
  disconnecting := false
  floorLim := false
  admOrd := none
  arrOrd := none
  regrant := false
  demand := 0
  credit := 0
  peak := 0
  peaks := []
  cycPeak := 0
  same := 0
  sinceRel := 0
  hiRun := 0
  loRun := 0
  temp := 0
  tempSet := false
  row := 0
  cap := 0
  curRun := 0
  cycI := []
  vcWait := false
  rpReq := .dflt
  rpWait := false
  resvOffer := false

/-- Scheduling state of one port (R297-R318). -/
structure Sched where
  /-- Event queue, in order of arrival. Width 16 x 8 bytes; R300 (11). -/
  q : List QEv
  /-- Coalesced FAULT codes. Width 16; R302 (11). -/
  faultMask : BitVec 16
  /-- Timer expiries that found no entry. Width 16; R302 (11). -/
  timerMask : BitVec 16
  /-- Receptions and reports dropped and not yet told by RX_DROPPED. Width count; R302 (11). -/
  drops : Nat
  /-- CONTRACT_LOST that waits until the port's event queue can accept an event. Width 8; R88 (03). -/
  lostPend : Option LostCause
  /-- Housekeeping events that found no entry. Width code, data; R302 (11). -/
  hkPend : List (Nat × Word)
  /-- Bench that holds the context; none shows 7. Width 3; R307, R481 PP_SC_STAT.CORE (11, 18). -/
  bench : Option (Fin 4)
  /-- Core on which the port is in a dispatch. Width core; R304 (11). -/
  running : Option (Fin 4)
  /-- Core on which the port is reserved. Width core; R305 (11). -/
  resv : Option (Fin 4)
  /-- Deep transfer outstanding. Width 1; R314, R481 PP_SC_STAT.DEEP (11, 18). -/
  deep : Bool
  /-- Quarantined. Width 1; R294, R481 PP_SC_STAT.QUAR (10, 18). -/
  quar : Bool
  /-- Slot retained. Width 1; R308, R481 PP_SC_STAT.RETAIN (11, 18). -/
  retain : Bool
  /-- Pinned. Width 1; R309, R481 PP_SC_STAT.PIN (11, 18). -/
  pin : Bool
  /-- Core a pinned port is placed on. Width core; R309 (11). -/
  pinCore : Option (Fin 4)
  /-- The context has been dispatched on its pinned core since the kickoff and stays on that bench. Width 1; R309 (11). -/
  pinHeld : Bool
  /-- The slot is dirty. Width 1; R307 (11). -/
  dirty : Bool
  /-- Order of last use of the slot. Width order; R308 (11). -/
  used : Nat
  /-- Port timers, none when stopped. Width 8 timers; R288 (10). -/
  timers : List (Option PortTimer)
  /-- Slot of the bench that holds the context. Width 4; R307 (11). -/
  slot : Nat
deriving DecidableEq, Repr

/-- Reset values of `Sched`: those of the field tables, and the values the assumption log names. -/
def Sched.reset : Sched where
  q := []
  faultMask := 0#16
  timerMask := 0#16
  drops := 0
  lostPend := none
  hkPend := []
  bench := none
  running := none
  resv := none
  deep := false
  quar := false
  retain := false
  pin := false
  pinCore := none
  pinHeld := false
  dirty := false
  used := 0
  timers := List.replicate 8 none
  slot := 0

/-- Event counters of one port (R474, R481). -/
structure Cnts where
  /-- TRIP events posted. Width 32+OVF; R481 PP_TRIP_CNT (18). -/
  trip : Cnt
  /-- ATTACH events posted. Width 32+OVF; R481 PP_ATTACH_CNT (18). -/
  attach : Cnt
  /-- Hard_Reset sent or received. Width 32+OVF; R481 PP_HRST_CNT (18). -/
  hrst : Cnt
  /-- Whole seconds with the gate commanded closed. Width 32+OVF; R481 PP_ON_SECONDS (18). -/
  onSec : Cnt
  /-- Breaker ticks carried towards the next second. Width ticks; R481 (18). -/
  onRem : Nat
deriving DecidableEq, Repr

/-- Reset values of `Cnts`: those of the field tables, and the values the assumption log names. -/
def Cnts.reset : Cnts where
  trip := cntZero
  attach := cntZero
  hrst := cntZero
  onSec := cntZero
  onRem := 0

/-- Measurement, calibration and telemetry state of one port (R242-R266). -/
structure Smp where
  /-- Latest 1 kHz voltage sample. Width 16 mV; R246, R481 PP_MEAS (09, 18). -/
  mv : Nat
  /-- Latest 1 kHz current sample. Width 16 mA; R246, R481 PP_MEAS (09, 18). -/
  ma : Int
  /-- Snapshot voltage. Width 16 mV; R253, R481 PP_SNAP (09, 18). -/
  snapMv : Nat
  /-- Snapshot current. Width 15 mA; R253, R481 PP_SNAP (09, 18). -/
  snapMa : Int
  /-- Substitute lane latched. Width 1; R253, R481 PP_SNAP (09, 18). -/
  snapLane : Bool
  /-- Port limited to vSafe5V. Width 1; R264, R481 PP_CAL (09, 18). -/
  limited : Bool
  /-- Calibration pending. Width 1; R256, R481 PP_CAL (09, 18). -/
  calPend : Bool
  /-- When the calibration became pending. Width AON cycle; R256 (09). -/
  pendAt : Nat
  /-- Coefficients of the main lane in force; none stands for the FACTORY trims. Width coefficients; R245 (09). -/
  coef : Option Coef
  /-- Coefficients before the calibration of the current slot. Width coefficients; R258 (09). -/
  coefOld : Option Coef
  /-- AON cycle of the last passing VERIFY; none shows 0x3F. Width AON cycle; R481 PP_CAL.VERIFY_AGE (18). -/
  verified : Option Nat
  /-- Last COMPARE voltage difference. Width 12 mV; R481 PP_CAL (18). -/
  dv : Int
  /-- Last COMPARE current difference. Width 12 mA; R481 PP_CAL (18). -/
  di : Int
  /-- PP_ENERGY, modulo 2^64. Width 64 mJ; R247, R474 (09, 18). -/
  energy : Nat
  /-- Part of a millijoule carried. Width 50 pJ; R247 (09). -/
  energyRem : Nat
  /-- Consecutive out-of-tolerance read-backs per DAC. Width index, count; R260 (09). -/
  dacFails : List (Nat × Nat)
  /-- The slot whose read-back can lift the lockout runs. Width 1; R260 (09). -/
  dacTest : Bool
  /-- DACs that have passed in that slot. Width 12; R260 (09). -/
  dacPass : BitVec 12
  /-- A PORT_ENABLE has asked for a passing read-back. Width 1; R260 (09). -/
  dacRetest : Bool
  /-- Telemetry rate code; 1 kHz at reset. Width 4; R248 (09). -/
  tlmRate : Nat
  /-- The substitute lane has taken or given back the port since the last record. Width 1; R248, R255 (09). -/
  laneMoved : Bool
  /-- Telemetry ring 0-3. Width 2; R248 (09). -/
  tlmRing : Nat
  /-- Rate and ring that take effect at the next record boundary. Width rate, ring; R248 (09). -/
  tlmNext : Option (Nat × Nat)
  /-- The next record carries GAP. Width 1; R347 (12). -/
  tlmGap : Bool
deriving DecidableEq, Repr

/-- Reset values of `Smp`: those of the field tables, and the values the assumption log names. -/
def Smp.reset : Smp where
  mv := 0
  ma := 0
  snapMv := 0
  snapMa := 0
  snapLane := false
  limited := false
  calPend := false
  pendAt := 0
  coef := none
  coefOld := none
  verified := none
  dv := 0
  di := 0
  energy := 0
  energyRem := 0
  dacFails := []
  dacTest := false
  dacPass := 0#12
  dacRetest := false
  tlmRate := 2
  laneMoved := false
  tlmRing := 0
  tlmNext := none
  tlmGap := false

/-- One feed, FDA or FDB (R185-R209). -/
structure Feed where
  /-- Feed state. Width 4; R187, R208 (07). -/
  state : FeedState
  /-- Last cause. Width 4; R195, R208 (07). -/
  cause : FeedCause
  /-- Feed enabled by FEED_CONTROL. Width 1; R187, R205 (07). -/
  enabled : Bool
  /-- State the feed goes to once off is confirmed. Width 4; R194, R202, R206 (07). -/
  after : FeedState
  /-- RETRY_CNT, sticks at 0xFF. Width 8; R202, R208, R474 (07, 18). -/
  retryCnt : Nat
  /-- Due time of the next attempt. Width AON cycle; R202, R203 (07). -/
  due : Option Nat
  /-- FDx_V, last 1 ms mean. Width mV; R208 FDx_MEAS (07). -/
  mv : Nat
  /-- Feed current, last 1 ms mean. Width mA; R208 FDx_MEAS (07). -/
  ma : Int
  /-- OV_TRIP, 100 mV. Width 10; R208 FDx_WIN (07). -/
  ov : Nat
  /-- UV_QUAL, 100 mV. Width 10; R208 FDx_WIN (07). -/
  uvq : Nat
  /-- UV_TRIP, 100 mV. Width 10; R208 FDx_WIN (07). -/
  uvt : Nat
  /-- RATED, 0.25 A. Width 12; R208 FDx_RATE (07). -/
  rated : Nat
  /-- SHUNT, 5 uOhm. Width 8; R208 FDx_RATE (07). -/
  shunt : Nat
  /-- FT_MV. Width 8; R208 FDx_RATE (07). -/
  ftmv : Nat
  /-- IG. Width 4; R208 FDx_RATE (07). -/
  ig : Nat
  /-- FDx_ENERGY, mJ, modulo 2^64. Width 64; R208, R474 (07, 18). -/
  energy : Nat
  /-- Part of a millijoule carried. Width 50 pJ; R208 (07). -/
  energyRem : Nat
  /-- Breaker accumulators. Width 8 accumulators; R193 (07). -/
  acc : List Nat
  /-- The feed is inside its window. Width 1; R188 (07). -/
  inWin : Bool
  /-- Since when the feed has been inside its window and seated without interruption. Width AON cycle; R202 (07). -/
  qualAt : Option Nat
  /-- The bank's gate is driven. Width 1; R192, R197 (07). -/
  gate : Bool
  /-- Off confirmation holds. Width 1; R197, R198 (07). -/
  offOk : Bool
  /-- The breaker runs on FB1. Width 1; R192 (07). -/
  fb1 : Bool
  /-- ACTIVE since the last trip, 60 s not yet passed. Width 1; R202 (07). -/
  activeRun : Bool
  /-- FB2 curve, (Ik in 1/16, tk in ticks); resets to a copy of FB0. Width 8 segments; R193 (07). -/
  fb2 : List (Nat × Nat)
  /-- Window, rating, curve and delays the feed controller uses since its last breaker tick. Width settings; R209, R366 (07, 13). -/
  use : FeedUse
deriving DecidableEq, Repr

/-- Reset values of `Feed`: those of the field tables, and the values the assumption log names. -/
def Feed.reset : Feed where
  state := .disabled
  cause := .none
  enabled := false
  after := .disabled
  retryCnt := 0
  due := none
  mv := 0
  ma := 0
  ov := 0x267
  uvq := 0x1E0
  uvt := 0x1B8
  rated := 0
  shunt := 0
  ftmv := 0x78
  ig := 5
  energy := 0
  energyRem := 0
  acc := List.replicate 8 0
  inWin := false
  qualAt := none
  gate := false
  offOk := true
  fb1 := false
  activeRun := false
  fb2 := feedFB0
  use := ⟨0x267, 0x1E0, 0x1B8, 0, 0, 0x78, feedFB0, 0x19, 0x0A⟩

/-- Everything held for one port. -/
structure Port where
  cc : Cc
  pd : Pd
  pol : Pol
  rally : Rally
  path : Path
  retry : Retry
  sb : Sb
  sc : Sched
  cnt : Cnts
  smp : Smp
deriving DecidableEq, Repr

/-- A port at reset; `boot` for a bootstrap port (R8, R52). -/
def Port.reset (boot : Bool) : Port where
  cc := Cc.reset boot
  pd := Pd.reset
  pol := Pol.reset
  rally := Rally.reset
  path := Path.reset
  retry := Retry.reset
  sb := Sb.reset
  sc := Sched.reset
  cnt := Cnts.reset
  smp := Smp.reset

/-- One tile's state outside its ports (R12-R25, R158, R242-R266, R484). -/
structure Tile where
  /-- Tile-link state. Width 4; R484 TL_LINK_STAT (18). -/
  link : LinkState
  /-- Hub packets unacknowledged: sequence number and times sent. Width up to 8; R17 (01). -/
  hubUn : List (Nat × Nat)
  /-- Tile packets unacknowledged. Width up to 8; R17 (01). -/
  tileUn : List (Nat × Nat)
  /-- Hub packets that wait for the window, in the order of R18. Width queue; R17, R18 (01). -/
  hubWait : List LinkPkt
  /-- Tile packets that wait for the window. Width queue; R17, R18 (01). -/
  tileWait : List LinkPkt
  /-- Sequence number the hub gave last. Width 6; R16 (01). -/
  hubSeq : Nat
  /-- Sequence number the tile gave last. Width 6; R16 (01). -/
  tileSeq : Nat
  /-- Last packet the hub answered and whether it acknowledged it. Width 6+1; R16 (01). -/
  hubAck : Option (Nat × Bool)
  /-- Last packet the tile answered and whether it acknowledged it. Width 6+1; R16 (01). -/
  tileAck : Option (Nat × Bool)
  /-- Packets that failed CRC. Width 16+OVF; R484 TL_LINK_CRC (18). -/
  crcErr : Cnt
  /-- Packets resent. Width 32+OVF; R484 TL_LINK_RESEND (18). -/
  resend : Cnt
  /-- Losses declared. Width 32+OVF; R484 TL_LINK_LOSS (18). -/
  loss : Cnt
  /-- TAn released from reset. Width 1; R408 (15). -/
  released : Bool
  /-- Kept in reset at its staging slot under SUPPLY_TILE. Width 1; R408 (15). -/
  late : Bool
  /-- The tile leaves the tile safe state by a tile restart: it lost its link or its supply. Width 1; R393, R406 (15). -/
  restart : Bool
  /-- When the tile entered the tile safe state. Width AON cycle; R23 (01). -/
  safeAt : Nat
  /-- Settings of a tile that has not taken the last kickoff; none otherwise. Width settings; R22, R366 (01, 13). -/
  held : Option TileHeld
  /-- Tile safe state. Width 1; R21, R172 TL_PATH_STAT.SAFE_TILE (01, 06). -/
  safe : Bool
  /-- Treated as lost by the hub until it leaves the tile safe state. Width 1; R20, R514 (01). -/
  lost : Bool
  /-- What asserts SAFE_Tn; REF_STAT.SAFE_WIRE shows whether it is empty. Width causes; R379, R387, R391 SAFE_WIRE (14). -/
  wires : List WireCause
  /-- Configuration and RAM tables reloaded and verified. Width 1; R23 (01). -/
  reloaded : Bool
  /-- 10 ms mean of VTn. Width 16 mV; R484 TL_VT (18). -/
  vt : Nat
  /-- When VTn was last found out of range, or a restart found it back in range. Width AON cycle; R514 (01). -/
  vtAt : Nat
  /-- VTn out of range. Width 1; R484 TL_VT.OUT (18). -/
  vtOut : Bool
  /-- NTC reading. Width 1/16 C; R265, R266 MS_NTC (09). -/
  ntc16 : Int
  /-- NTC reading flagged faulty. Width 1; R265, R266 MS_NTC (09). -/
  ntcFault : Bool
  /-- The last NTC mean was out of range. Width 1; R265 (09). -/
  ntcOut : Bool
  /-- 10 ms means in a row that stand as NTC_OUT says, in range or out of it. Width count; R265 (09). -/
  ntcRun : Nat
  /-- MS_ROT_STATn as the tile last delivered it, shown while it is fenced. Width 32; R473, R266 MS_ROT_STAT (18, 09). -/
  rotKept : Word
  /-- Local index the substitute lane attends; 24 is its own self-calibration slot. Width 5; R255, R266 MS_ROT_STAT (09). -/
  lanePort : Nat
  /-- Phase of the slot. Width 2; R266 MS_ROT_STAT.PHASE (09). -/
  phase : LanePhase
  /-- The substitute lane carries the port. Width 1; R255 (09). -/
  laneOn : Bool
  /-- Local index whose slot runs. Width 5; R255 (09). -/
  slot : Nat
  /-- Local index whose slot comes next. Width 5; R255, R259 (09). -/
  slotNext : Nat
  /-- Drift declared in this slot. Width cause; R262 (09). -/
  drift : Option DriftCause
  /-- Mean voltage difference of the drift. Width mV; R262, R263 (09). -/
  slotDv : Int
  /-- Mean current difference of the drift. Width mA; R262, R263 (09). -/
  slotDi : Int
  /-- The coefficients of this slot failed. Width 1; R258 (09). -/
  calFail : Bool
  /-- VERIFY of this slot has passed. Width 1; R258 (09). -/
  calOk : Bool
  /-- The capture armed, running or being written. Width record; R249, R250, R266 CAPTURE (09). -/
  cap : Option Capture
  /-- Coefficients of the substitute lane in force; none stands for the FACTORY trims. Width coefficients; R245, R259 (09). -/
  subCoef : Option Coef
  /-- Consecutive failed self-calibrations. Width 2; R259 (09). -/
  subFails : Nat
  /-- SUB_FAULT. Width 1; R259, R266 (09). -/
  subFault : Bool
  /-- Converter A faulty. Width 1; R243, R266 (09). -/
  adcFaultA : Bool
  /-- Converter B faulty. Width 1; R243, R266 (09). -/
  adcFaultB : Bool
  /-- Calibrations skipped. Width 32+OVF; R266 MS_ROT_SKIP (09). -/
  skip : Cnt
  /-- Tile ROM check good. Width 1; R383 (14). -/
  romOk : Bool
  /-- RAM message table entries. Width up to 256 x 64; R82 (03). -/
  mtRam : List (BitVec 64)
  /-- CRC carried by the chain that loaded it. Width 32; R82, R333 (03, 12). -/
  mtCrc : Word
  /-- RAM message table has passed R82. Width 1; R93 RAM_VALID (03). -/
  mtValid : Bool
  /-- MT_ACT as it stood when MT_SEL last changed. Width 1; R84, R93 (03). -/
  mtWas : Bool
  /-- SLICER_MODE before each of its last changes, latest first. Width up to 16 x 2; R92, R94 (03). -/
  slicerWas : List Nat
  /-- RAM message table selected. Width 1; R91 MT_SEL (03). -/
  mtSel : Bool
  /-- Tick number of the last digest. Width 6; R380, R383 (14). -/
  digTick : Option Nat
  /-- Consecutive digests out of tick sequence. Width 2; R383 (14). -/
  digBad : Nat
  /-- Consecutive valid digests in sequence since DIGEST_LOST. Width ticks; R514 (01). -/
  digGood : Nat
  /-- The tile has acknowledged its shadow. Width 1; R364 (13). -/
  shadow : Bool
  /-- The tile missed the strobe. Width 1; R366 (13). -/
  missed : Bool
deriving DecidableEq, Repr

/-- Reset values of `Tile`: those of the field tables, and the values the assumption log names. -/
def Tile.reset : Tile where
  link := .down
  hubUn := []
  tileUn := []
  hubWait := []
  tileWait := []
  hubSeq := 0
  tileSeq := 0
  hubAck := none
  tileAck := none
  crcErr := cntZero
  resend := cntZero
  loss := cntZero
  released := false
  late := false
  restart := false
  safeAt := 0
  held := none
  safe := false
  lost := false
  wires := [.selfTest]
  reloaded := false
  vt := 0
  vtAt := 0
  vtOut := false
  ntc16 := 0
  ntcFault := false
  ntcOut := false
  ntcRun := 0
  rotKept := 0#32
  lanePort := 0
  phase := .compare
  laneOn := false
  slot := 0
  slotNext := 0
  drift := none
  slotDv := 0
  slotDi := 0
  calFail := false
  calOk := false
  cap := none
  subCoef := none
  subFails := 0
  subFault := false
  adcFaultA := false
  adcFaultB := false
  skip := cntZero
  romOk := true
  mtRam := []
  mtCrc := 0#32
  mtValid := false
  mtWas := false
  slicerWas := []
  mtSel := false
  digTick := none
  digBad := 0
  digGood := 0
  shadow := false
  missed := false

/-- Global settings in force (registers marked RW or RWS). -/
structure Cfg where
  /-- FILT_M. Width 4; R49 TL_WATCH_CFG (02). -/
  filtM : Nat
  /-- FILT_N. Width 4; R49 TL_WATCH_CFG (02). -/
  filtN : Nat
  /-- TICK. Width 3; R49 TL_WATCH_CFG (02). -/
  tick : Nat
  /-- SLICER_MODE. Width 2; R91 TL_PD_CFG (03). -/
  slicer : Nat
  /-- ST_OVR. Width 16; R172 TL_PATH_CFG (06). -/
  stOvr : BitVec 16
  /-- Budget while FDA is ACTIVE, 0.25 W. Width 20; R240 SB_BUDGET (08). -/
  budget : Nat
  /-- Budget while FDB is ACTIVE. Width 20; R240 SB_BUDGET_FDB (08). -/
  budgetB : Nat
  /-- RESERVE. Width 6; R240 SB_CFG (08). -/
  reserve : Nat
  /-- GRACE, 100 ms. Width 6; R240 SB_CFG (08). -/
  grace : Nat
  /-- USAGE_WIN, s. Width 6; R240 SB_CFG (08). -/
  usageWin : Nat
  /-- USAGE_MARGIN, 5 %. Width 4; R240 SB_CFG (08). -/
  usageMargin : Nat
  /-- VC_BUDGET, 0.5 W. Width 4; R240 SB_CFG (08). -/
  vcBudget : Nat
  /-- RC, 0.5 mOhm. Width 8; R240 SB_THERM0 (08). -/
  rc : Nat
  /-- RTH, K/W. Width 8; R240 SB_THERM0 (08). -/
  rth : Nat
  /-- CTH, 0.1 J/K. Width 8; R240 SB_THERM0 (08). -/
  cth : Nat
  /-- T_LIM, C. Width 8; R240 SB_THERM1 (08). -/
  tLim : Nat
  /-- BAND, K. Width 8; R240 SB_THERM1 (08). -/
  band : Nat
  /-- AMB_OFS, K. Width 8; R240 SB_THERM1 (08). -/
  ambOfs : Int
  /-- INS_DELAY, 10 ms. Width 8; R208 FD_CFG (07). -/
  insDelay : Nat
  /-- RETURN_DELAY, s. Width 8; R208 FD_CFG (07). -/
  returnDelay : Nat
  /-- FDA_CURVE. Width 1; R208 FD_CFG (07). -/
  fdaCurve : Bool
  /-- FDB_CURVE. Width 1; R208 FD_CFG (07). -/
  fdbCurve : Bool
  /-- Pinned ports in force. Width 192; R317 SC_PIN (11). -/
  pins : BitVec 192
  /-- Breaker set B2; resets to a copy of B0. Width 8 segments; R175 (06). -/
  b2 : List (Nat × Nat)
  /-- Breaker set B3; resets to a copy of B0. Width 8 segments; R175 (06). -/
  b3 : List (Nat × Nat)
  /-- RAM step tables ST16-ST31; ST_VALID resets to 0. Width 16 tables; R158, R172 (06). -/
  stRam : List StepTable
  /-- Policy parameters that differ from their defaults, numbers rising. Width 704 x 32; R129 (04). -/
  params : List (Nat × Word)
deriving DecidableEq, Repr

/-- Reset values of `Cfg`: those of the field tables, and the values the assumption log names. -/
def Cfg.reset : Cfg where
  filtM := 5
  filtN := 3
  tick := 2
  slicer := 0
  stOvr := 0#16
  budget := 0xD80
  budgetB := 0
  reserve := 0x12
  grace := 0x14
  usageWin := 0x3C
  usageMargin := 3
  vcBudget := 0xC
  rc := 0x28
  rth := 0x3C
  cth := 0x32
  tLim := 0x55
  band := 0x0A
  ambOfs := 5
  insDelay := 0x19
  returnDelay := 0x0A
  fdaCurve := false
  fdbCurve := false
  pins := 0#192
  b2 := breakerB0
  b3 := breakerB0
  stRam := List.replicate 16 ⟨[], 0#32, false⟩
  params := []

/-- Scoreboard and feed controller state of the device (R185-R241). -/
structure Board where
  /-- B_EFF. Width 20; R240 SB_STAT (08). -/
  bEff : Nat
  /-- Budget in force (SB_BUDGET's reset value). Width 20; R211 (08). -/
  budgetNow : Nat
  /-- Sum of counted allocations of the last boundary. Width 20; R240 SB_SUM (08). -/
  sum : Nat
  /-- Counted allocations per class of the last boundary. Width 4 x 20; R240 SB_CLASS_SUM (08). -/
  classSum : List Nat
  /-- UNFUNDED ports per class of the last boundary. Width 4 x 8; R240 SB_CLASS_SUM (08). -/
  classUnf : List Nat
  /-- Measured feed power, latest 1 ms mean, 0.25 W. Width 20; R240 SB_FEED (08). -/
  feedP : Nat
  /-- Feed power of the ticks of the current millisecond. Width uW; R235 (08). -/
  feedSum : Nat
  /-- Ticks of the current millisecond. Width 5; R235 (08). -/
  feedN : Nat
  /-- Consecutive 1 ms means above 102 % of the budget, since the last stage. Width 5; R235, R236 (08). -/
  feedHi : Nat
  /-- Consecutive 1 ms means at or below 98 % of the budget. Width 10; R237 (08). -/
  feedLo : Nat
  /-- FDx_V of the active feed, summed since the last boundary. Width mV; R229 (08). -/
  vSum : Nat
  /-- Ticks in that sum. Width 8; R229 (08). -/
  vN : Nat
  /-- V_FEED. Width mV; R229, R240 SB_FEED (08). -/
  vFeed : Nat
  /-- Stage of emergency shedding. Width 4; R240 SB_STAT (08). -/
  emerg : Nat
  /-- Next admission order number. Width order; R218 (08). -/
  admitNext : Nat
  /-- RESERVE the scoreboard uses since its last boundary. Width 6; R213, R239, R241 (08). -/
  reserve : Nat
  /-- VC_BUDGET it uses, 0.5 W. Width 4; R233, R239, R241 (08). -/
  vcBudget : Nat
  /-- FEED_CHANGE is owed to the ports with the next V_FEED. Width 1; R229, R300 (08, 11). -/
  feedNews : Bool
  /-- R210 suspended: no feed ACTIVE and no changeover. Width 1; R211 (08). -/
  suspended : Bool
  /-- PG has asserted since feeds were lost; re-grants allowed. Width 1; R196 (07). -/
  regrantPg : Bool
  /-- Cabinet bus voltage. Width mV; R208 FD_STAT (07). -/
  vbusc : Nat
  /-- State of the PG output. Width 1; R201, R208 FD_STAT (07). -/
  pg : Bool
  /-- Breaker ticks for which an asserted PG still holds high, from 20 (1 ms). Width 5; R201 (07). -/
  pgHold : Nat
  /-- Consecutive breaker ticks with VBUSC outside UV_TRIP to OV_TRIP. Width 2; R201 (07). -/
  pgOut : Nat
  /-- Controller board seated. Width 1; R189, R208 FD_STAT (07). -/
  seated : Bool
  /-- Changeover in progress: incoming feed and cause. Width feed, cause; R197, R208 FD_STAT (07). -/
  changeover : Option (FeedId × FeedCause)
  /-- RETURN_DELAY of FDA running. Width 1; R191 (07). -/
  returnRun : Bool
deriving DecidableEq, Repr

/-- Reset values of `Board`: those of the field tables, and the values the assumption log names. -/
def Board.reset : Board where
  bEff := 0xD80
  budgetNow := 0xD80
  sum := 0
  classSum := [0, 0, 0, 0]
  classUnf := [0, 0, 0, 0]
  feedP := 0
  feedSum := 0
  feedN := 0
  feedHi := 0
  feedLo := 0
  vSum := 0
  vN := 0
  vFeed := 0
  emerg := 0
  admitNext := 0
  reserve := 0x12
  vcBudget := 0xC
  feedNews := false
  suspended := true
  regrantPg := false
  vbusc := 0
  pg := false
  pgHold := 0
  pgOut := 0
  seated := false
  changeover := none
  returnRun := false

/-- Host link (R319-R353) outside the rings. -/
structure Link where
  /-- Negotiated speed; 0 while not trained. Width 4; R353 HL_LINK (12). -/
  speed : Nat
  /-- Negotiated lanes. Width 4; R353 HL_LINK (12). -/
  width : Nat
  /-- FENCE_SEEN. Width 1; R353 HL_LINK (12). -/
  fenceSeen : Bool
  /-- PERST_N high. Width 1; R405, R406 (15). -/
  perst : Bool
  /-- Function in D3hot. Width 1; R406 (15). -/
  d3 : Bool
  /-- Link trained since the last device reset. Width 1; R402 (15). -/
  trained : Bool
  /-- Status block address and ENABLE. Width 32; R353 HL_SB_LO (12). -/
  sbLo : Word
  /-- Status block address, high word. Width 32; R353 HL_SB_HI (12). -/
  sbHi : Word
  /-- Doorbells ignored. Width 16+OVF; R353 HL_DB_ERR (12). -/
  dbErr : Cnt
  /-- Passthrough entries dropped. Width 32+OVF; R353 HL_MSGRX_DROP (12). -/
  rxDrop : Cnt
  /-- Telemetry records not formed. Width 32+OVF; R353 HL_TLM_GAP (12). -/
  tlmGap : Cnt
  /-- The next passthrough entry carries LOST. Width 1; R337 (12). -/
  rxLost : Bool
  /-- Event backlog (HL_EVT_STAT.BACKLOG). Width up to 64; R344 (12). -/
  backlog : List Evt
  /-- Pending-summary map (SUMMARY_PENDING). Width 192; R343 (12). -/
  sumMap : BitVec 192
  /-- Device bit of the pending-summary map. Width 1; R343 (12). -/
  sumDev : Bool
  /-- Sequence number of the next event written. Width 16; R341 (12). -/
  evSeq : BitVec 16
  /-- log2 of the decimation factor. Width 4; R347, R353 HL_TLM_STAT (12). -/
  decim : Nat
  /-- Telemetry buffer, oldest record first. Width 2 MiB; R347, R353 HL_TLM_STAT.BUF_KIB (12). -/
  tlmBuf : List TlmCell
  /-- MSI-X vectors whose message has been sent. Width 32; R345 (12). -/
  raised : BitVec 32
  /-- MSI-X table at BAR2 0x800. Width 32 x 128; R320, R345 (12). -/
  msix : List MsixEntry
  /-- MSI-X pending bits at BAR2 0xC00. Width 32; R320, R345 (12). -/
  pba : BitVec 32
  /-- Descriptors fetched and not started. Width up to 256; R328 (12). -/
  fetched : List Desc
  /-- When each descriptor not yet started was fetched. Width ring, index, AON cycle; R127, R328 (04, 12). -/
  fetchAt : List (Nat × Nat × Nat)
  /-- Chains whose CHAIN_END has been fetched and that are not yet written into their tables. Width chains; R333 (12). -/
  loads : List Chain
  /-- Descriptors started whose completion waits. Width records; R330 (12). -/
  waiting : List Waiting
  /-- Open host session number; 0 none. Width 8; R351, R353 HL_SESSION (12). -/
  sess : Nat
  /-- Level asked for by SESSION_OPEN. Width 2; R351 (12). -/
  sessReq : Level
  /-- Proven level. Width 2; R353 HL_SESSION (12). -/
  level : Level
  /-- EXPERT_UNLOCK in force. Width 1; R353 HL_SESSION (12). -/
  unlocked : Bool
  /-- Challenge of the open session. Width 128; R351 (12). -/
  challenge : BitVec 128
  /-- Next host session number. Width 8; R351 (12). -/
  nextSess : Nat
  /-- Time of the host SESSION_OPEN. Width AON cycle; R446 (17). -/
  openAt : Nat
  /-- Last descriptor marked X or session descriptor of the host session. Width AON cycle; R351 (12). -/
  sessAt : Nat
  /-- Last write to host memory outside the rings: a challenge and salt, or an exported context. Width address, bytes; R332 (12). -/
  dma : Option (BitVec 64 × List (BitVec 8))
  /-- Deep-roster indices bound, and the host address of each, indices rising. Width up to 3072; R312, SC_DEEP.BOUND (11). -/
  pages : List (Nat × BitVec 64)
deriving DecidableEq, Repr

/-- Reset values of `Link`: those of the field tables, and the values the assumption log names. -/
def Link.reset : Link where
  speed := 0
  width := 0
  fenceSeen := false
  perst := false
  d3 := false
  trained := false
  sbLo := 0#32
  sbHi := 0#32
  dbErr := cntZero
  rxDrop := cntZero
  tlmGap := cntZero
  rxLost := false
  backlog := []
  sumMap := 0#192
  sumDev := false
  evSeq := 0#16
  decim := 0
  tlmBuf := []
  raised := 0#32
  msix := List.replicate 32 ⟨0#64, 0#32, true⟩
  pba := 0#32
  fetched := []
  fetchAt := []
  loads := []
  waiting := []
  sess := 0
  sessReq := .none
  level := .none
  unlocked := false
  challenge := 0#128
  nextSess := 1
  openAt := 0
  sessAt := 0
  dma := none
  pages := []

/-- Referee (R374-R394). -/
structure Ref where
  /-- Device safe state. Width 1; R391 REF_STAT.SAFE (14). -/
  safe : Bool
  /-- Self-test passed. Width 1; R391 REF_STAT.SELFTEST_OK (14). -/
  selfOk : Bool
  /-- FACTORY region verified since the last release. Width 1; R377 (14). -/
  factoryOk : Bool
  /-- Core restarts, sticks at 0xFF. Width 8; R391 REF_STAT.RESTARTS (14). -/
  restarts : Nat
  /-- Causes that have occurred. Width 24; R391 REF_FAULT (14). -/
  fault : BitVec 24
  /-- First cause. Width 8; R391 REF_FIRST (14). -/
  firstCause : Nat
  /-- Its tile, 0xFF none. Width 8; R391 REF_FIRST (14). -/
  firstTile : Nat
  /-- Its port, 0xFF none. Width 8; R391 REF_FIRST (14). -/
  firstPort : Nat
  /-- FAULT_TEST. Width 1; R391 REF_CFG (14). -/
  faultTest : Bool
  /-- FAULT_TEST was set by the service session. Width 1; R394 (15). -/
  testBySvc : Bool
  /-- IRQ_EN. Width 1; R391 REF_CFG (14). -/
  irqEn : Bool
  /-- VECTOR. Width 5; R391 REF_CFG (14). -/
  vector : Nat
  /-- The referee's own sum. Width 20; R391 REF_ALLOC (14). -/
  allocSum : Nat
  /-- Previous boundary's B_EFF. Width 20; R381 (14). -/
  prevBeff : Nat
  /-- Allocation mirror. Width 192 x 10; R238, R381 (08, 14). -/
  mirror : List Nat
  /-- B_EFF of the mirror. Width 20; R238 (08). -/
  mirrorBeff : Nat
  /-- RC against 32.768 kHz, 0.1 %. Width 16; R391 REF_CLK (14). -/
  rcDev : Int
  /-- Hub PLL against RC, 0.1 %. Width 16; R391 REF_CLK (14). -/
  pllDev : Int
  /-- Consecutive failed PLL windows. Width 3; R383 (14). -/
  pllBad : Nat
  /-- Consecutive failed RC windows. Width 3; R383 (14). -/
  rcBad : Nat
  /-- Corrected errors. Width 32+OVF; R391 REF_ECC_CE (14). -/
  eccCe : Cnt
  /-- Uncorrectable errors. Width 16+OVF; R391 REF_ECC_UE (14). -/
  eccUe : Cnt
  /-- Memory of the last uncorrectable error. Width 4; R391 REF_ECC_ADDR (14). -/
  eccMem : Nat
  /-- Its byte offset. Width 22; R391 REF_ECC_ADDR (14). -/
  eccOff : Nat
  /-- AON cycle of each core's last heartbeat; AGE shows the ms since. Width AON cycles; R391 REF_HB (14). -/
  hb : List Nat
  /-- When CORE_HANG was last declared. Width AON cycle; R383 (14). -/
  lastHang : Option Nat
  /-- Core restart under way, for the hang of this core. Width core; R385 (14). -/
  restarting : Option (Fin 4)
  /-- Ports whose last digest showed the condition of OV_UNACTED. Width ports; R383 (14). -/
  ovRun : List Nat
  /-- Consecutive digests of CROSSCHECK per port. Width port, count; R383 (14). -/
  ccRun : List (Nat × Nat)
  /-- VBUS of each port's last digest. Width port, mV; R383 (14). -/
  digV : List (Nat × Nat)
  /-- Ports whose tile has still to confirm a port command of the referee. Width ports; R383 (14). -/
  cmdDue : List Nat
  /-- Consecutive digests with the condition of R180 per port. Width port, count; R383 (14). -/
  swRun : List (Nat × Nat)
  /-- Words marked as poisoned. Width memory, offset; R386 (14). -/
  poison : List (Nat × Nat)
  /-- Words that hold a single-bit error not yet found. Width memory, offset; R386 (14). -/
  soft : List (Nat × Nat)
  /-- The mirror of the last boundary has not arrived. Width 1; R381, R383 MIRROR_LATE (14). -/
  mirrorDue : Bool
deriving DecidableEq, Repr

/-- Reset values of `Ref`: those of the field tables, and the values the assumption log names. -/
def Ref.reset : Ref where
  safe := false
  selfOk := false
  factoryOk := false
  restarts := 0
  fault := 0#24
  firstCause := 0
  firstTile := 0xFF
  firstPort := 0xFF
  faultTest := false
  testBySvc := false
  irqEn := false
  vector := 0
  allocSum := 0
  prevBeff := 0xD80
  mirror := []
  mirrorBeff := 0xD80
  rcDev := 0
  pllDev := 0
  pllBad := 0
  rcBad := 0
  eccCe := cntZero
  eccUe := cntZero
  eccMem := 0
  eccOff := 0
  hb := [0, 0, 0, 0]
  lastHang := none
  restarting := none
  ovRun := []
  ccRun := []
  digV := []
  cmdDue := []
  swRun := []
  poison := []
  soft := []
  mirrorDue := false

/-- Clocks, power and reset (R393-R414, R484). -/
structure Pwr where
  /-- REF_SEL. Width 1; R413 CK_CFG (15). -/
  refSel : Bool
  /-- PLL_LOCK. Width 1; R413 CK_STAT (15). -/
  pllLock : Bool
  /-- The hub PLL has locked since it was enabled. Width 1; R396, R407 (15). -/
  pllRun : Bool
  /-- It had not locked 5 ms after it was enabled. Width 1; R396 (15). -/
  pllLate : Bool
  /-- REF_ACT. Width 1; R413 CK_STAT (15). -/
  refAct : Bool
  /-- XA_FAIL. Width 1; R413 CK_STAT (15). -/
  xaFail : Bool
  /-- XA_FAIL_SEEN. Width 1; R413 CK_STAT (15). -/
  xaSeen : Bool
  /-- DEEP_DWELL, s. Width 8; R413 PW_CFG (15). -/
  deepDwell : Nat
  /-- NO_HOST. Width 1; R413 PW_CFG (15). -/
  noHost : Bool
  /-- DEEP_EN. Width 1; R413 PW_CFG (15). -/
  deepEn : Bool
  /-- Device state. Width 2; R400, R413 PW_STAT (15). -/
  dev : DevState
  /-- Domains powered. Width 14; R413 PW_STAT (15). -/
  powered : BitVec 14
  /-- DEEP entries. Width 32+OVF; R413 PW_DEEP_CNT (15). -/
  deepCnt : Cnt
  /-- Sources of the last wake. Width 16; R413 PW_WAKE (15). -/
  wake : BitVec 16
  /-- Domains fenced. Width 14; R413 PW_FENCE (15). -/
  fenced : BitVec 14
  /-- WRITE_DROP. Width 1; R413 PW_FENCE (15). -/
  writeDrop : Bool
  /-- Reset causes. Width 6; R413 PW_RESET_CAUSE (15). -/
  cause : BitVec 6
  /-- Scratch. Width 32; R484 PW_AON_SCRATCH0 (18). -/
  scratch0 : Word
  /-- Scratch. Width 32; R484 PW_AON_SCRATCH1 (18). -/
  scratch1 : Word
  /-- SAFE and HUB released since the last device reset. Width 1; R407 (15). -/
  domUp : Bool
  /-- FEED and SVC wait for the reload of the tiles that a wake begins with. Width 1; R405 (15). -/
  woke : Bool
  /-- Since when every condition of R402 has held. Width AON cycle; R402 (15). -/
  deepSince : Option Nat
  /-- FAULT_N as it was driven at the entry to DEEP. Width 1; R492 (19). -/
  deepFault : Bool
  /-- Cores started. Width 1; R407 (15). -/
  coresUp : Bool
  /-- A reset asked for through PW_CTRL. Width 1; R413 PW_CTRL (15). -/
  ctrlReset : Bool
  /-- TESTMODE read high at the release from a device reset with FACTORY LOCKED. Width 1; R493 (19). -/
  testHold : Bool
  /-- BOOTSEL as sampled at the last release. Width 1; R406, R460 (15, 17). -/
  bootsel : Bool
deriving DecidableEq, Repr

/-- Reset values of `Pwr`: those of the field tables, and the values the assumption log names. -/
def Pwr.reset : Pwr where
  refSel := false
  pllLock := false
  pllRun := false
  pllLate := false
  refAct := false
  xaFail := false
  xaSeen := false
  deepDwell := 0x0A
  noHost := false
  deepEn := false
  dev := .run
  powered := 0x3FFF#14
  deepCnt := cntZero
  wake := 0#16
  fenced := 0#14
  writeDrop := false
  cause := 1#6
  scratch0 := 0#32
  scratch1 := 0#32
  domUp := false
  woke := false
  deepSince := none
  deepFault := false
  coresUp := false
  ctrlReset := false
  testHold := false
  bootsel := false

/-- Scheduler and pager of the device (R297-R318). -/
structure Cores where
  /-- Dispatches per core. Width 4 x 32+OVF; R317 SC_DISP (11). -/
  disp : List Cnt
  /-- Page-ins. Width 32+OVF; R317 SC_PAGEIN (11). -/
  pageIn : Cnt
  /-- Write-backs. Width 32+OVF; R317 SC_WBACK (11). -/
  wback : Cnt
  /-- Forced yields. Width 32+OVF; R317 SC_OVERRUN (11). -/
  overrun : Cnt
  /-- Dropped receptions. Width 32+OVF; R317 SC_DROP (11). -/
  drop : Cnt
  /-- Fewest free cells since the last read. Width 11; R317 SC_STORE (11). -/
  minFree : Nat
  /-- Worst FAULT latency, us. Width 16; R317 SC_LAT (11). -/
  latFault : Nat
  /-- Worst MESSAGE latency, us. Width 16; R317 SC_LAT (11). -/
  latMsg : Nat
  /-- Next order-of-use number. Width order; R308 (11). -/
  useNext : Nat
  /-- Number of the next event to be queued. Width order; R304 (11). -/
  evNext : Nat
  /-- CTX_FAULT events. Width 32+OVF; R295 PC_FAULT_CNT (10). -/
  faultCnt : Cnt
  /-- Cause of the last context fault. Width 4; R295 PC_FAULT_LAST0.CAUSE (10). -/
  fCause : Nat
  /-- Its sub-cause. Width 4; R295 PC_FAULT_LAST0.SUB (10). -/
  fSub : Nat
  /-- Core that faulted. Width 2; R295 PC_FAULT_LAST0.CORE (10). -/
  fCore : Nat
  /-- Port of the faulting dispatch. Width 8; R295 PC_FAULT_LAST0.PORT (10). -/
  fPort : Nat
  /-- Code offset of the faulting move. Width 32; R295 PC_FAULT_LAST1 (10). -/
  fOff : Nat
  /-- Its move word. Width 32; R295 PC_FAULT_LAST2 (10). -/
  fWord : Word
  /-- Code RAM, bytes other than 0 in rising address order. Width 512 KiB; R450, R282 (17, 10). -/
  code : List Host.Cell
  /-- Roster: contexts and S4, bytes other than 0 in rising address order. Width 1 MiB; R297 (11). -/
  roster : List Host.Cell
  /-- Benches, core k at k x 0x10000, slot n at n x 0x1000, bytes other than 0 in rising address order. Width 4 x 64 KiB; R307 (11). -/
  bench : List Host.Cell
  /-- Initial context of the running image. Width 3,072 bytes; R299, R450 (11, 17). -/
  ictx : List (BitVec 8)
deriving DecidableEq, Repr

/-- Reset values of `Cores`: those of the field tables, and the values the assumption log names. -/
def Cores.reset : Cores where
  disp := List.replicate 4 cntZero
  pageIn := cntZero
  wback := cntZero
  overrun := cntZero
  drop := cntZero
  minFree := 0x500
  latFault := 0
  latMsg := 0
  useNext := 0
  evNext := 0
  faultCnt := cntZero
  fCause := 0
  fSub := 0
  fCore := 0
  fPort := 0
  fOff := 0
  fWord := 0#32
  code := []
  roster := []
  bench := []
  ictx := []

/-- One Miloir core (R268-R296). -/
structure Core where
  /-- Core state. Width 2; R295 PC_CORE_STATn.STATE (10). -/
  state : CoreState
  /-- Port dispatched; none shows 0xFF. Width 8; R295 PC_CORE_STATn.PORT (10). -/
  port : Option (Fin 192)
  /-- SYS.MOVES of the dispatch in progress. Width 16; R277, R295 PC_CORE_STATn.MOVES (10). -/
  moves : Nat
  /-- Port assigned whose page-in or move is not complete. Width port; R305, R307 (11). -/
  assign : Option (Fin 192)
  /-- Port reserved on the core. Width port; R305, R306 (11). -/
  resv : Option (Fin 192)
  /-- Code offset of the next move. Width 32; R279, R281 (10). -/
  pc : Nat
  /-- Stack pointer, an offset within S2. Width 32; R273 BR.SP (10). -/
  sp : Nat
  /-- Code offset of the last move executed. Width 32; R300 OVERRUN, R311 (11). -/
  lastPc : Nat
  /-- Word of the last move executed. Width 32; R311 (11). -/
  lastWord : Word
  /-- General registers X0-X31. Width 32 x 32; R273 XRF (10). -/
  x : List Word
  /-- Guards G7-G0; G0 reads 1. Width 8; R273 GRD (10). -/
  g : BitVec 8
  /-- Operand A of the ALU. Width 32; R273 ALU.A (10). -/
  aluA : Word
  /-- Result of the ALU. Width 32; R273 ALU.R (10). -/
  aluR : Word
  /-- Flags V, C, N, Z of the last trigger. Width 4; R273 ALU.F (10). -/
  aluF : BitVec 4
  /-- Operand A of the multiplier. Width 32; R273 MUL.A (10). -/
  mulA : Word
  /-- Low product word or quotient. Width 32; R273 MUL.LO (10). -/
  mulLo : Word
  /-- High product word or remainder. Width 32; R273 MUL.HI (10). -/
  mulHi : Word
  /-- Segment of the next access. Width 3; R273 LSU.SEG, R279 (10). -/
  seg : Nat
  /-- Store data or addend. Width 32; R273 LSU.D (10). -/
  lsuD : Word
  /-- Loaded value. Width 32; R273 LSU.R (10). -/
  lsuR : Word
  /-- Timer selected. Width 3; R273 TMR.SEL (10). -/
  tmrSel : Nat
  /-- RTC high word latched by a read of TMR.RTC_LO. Width 31; R273 TMR.RTC_HI (10). -/
  rtcHi : Word
  /-- Destination of EVT.POST.T. Width 32; R273 EVT.TO (10). -/
  evTo : Word
  /-- Status of the last EVT trigger. Width 32; R289 EVT.S (10). -/
  evS : Word
  /-- Words of a host record. Width 8 x 32; R273 EVT.HW0-7 (10). -/
  hw : List Word
  /-- Flags of the next MSG.SEND.T. Width 32; R290 MSG.TXFLAGS (10). -/
  txFlags : Word
  /-- Status of the last MSG trigger. Width 32; R289 MSG.S (10). -/
  msgS : Word
  /-- CRC accumulator, as after CRC.INIT.T. Width 32; R291 (10). -/
  crc : Word
  /-- Class, code and tag of the event dispatched. Width 32; R280 EVT.CODE (10). -/
  evCode : Word
  /-- Data word of the event dispatched. Width 32; R273 EVT.DATA (10). -/
  evData : Word
  /-- Received message of the dispatch. Width 32; R290 MSG.RXINFO (10). -/
  rxInfo : Word
deriving DecidableEq, Repr

/-- Reset values of `Core`: those of the field tables, and the values the assumption log names. -/
def Core.reset : Core where
  state := .off
  port := none
  moves := 0
  assign := none
  resv := none
  pc := 0
  sp := 0
  lastPc := 0
  lastWord := 0#32
  x := List.replicate 32 0#32
  g := 1#8
  aluA := 0#32
  aluR := 0#32
  aluF := 0#4
  mulA := 0#32
  mulLo := 0#32
  mulHi := 0#32
  seg := 1
  lsuD := 0#32
  lsuR := 0#32
  tmrSel := 0
  rtcHi := 0#32
  evTo := 0#32
  evS := 0#32
  hw := List.replicate 8 0#32
  txFlags := 0#32
  msgS := 0#32
  crc := 0xFFFFFFFF#32
  evCode := 0#32
  evData := 0#32
  rxInfo := 0#32

/-- Firmware slots, boot and update state (R450-R468). -/
structure Upd where
  /-- Slot that runs; none shows 0. Width slot; R468 UP_STAT.RUNNING (17). -/
  run : Option Slot
  /-- Head page of the running image; empty with none running. Width 4096 bytes; R450, R468 UP_VER_RUN, UP_SECVER (17). -/
  runHead : List (BitVec 8)
  /-- Last UPDATE_STATE. Width 4; R468 UP_STAT.STATE (17). -/
  state : UpdState
  /-- A trial runs. Width 1; R468 UP_STAT.TRIAL (17). -/
  trial : Bool
  /-- End of the trial window. Width AON cycle; R462, R468 WINDOW_LEFT (17). -/
  trialEnd : Option Nat
  /-- CORE_HANG or a CTX_FAULT other than OVERRUN in the trial. Width 1; R462 (17). -/
  bad : Bool
  /-- Cores that have dispatched in the trial. Width 4; R462 (17). -/
  seen : BitVec 4
  /-- Trial window, s. Width 11; R468 UP_CFG.WINDOW (17). -/
  window : Nat
  /-- Fall-back mode of the settings. Width 2; R468 UP_CFG.FALLBACK (17). -/
  fallback : Nat
  /-- Confirm at the end of the window. Width 1; R468 UP_CFG.AUTO_CONFIRM (17). -/
  autoConfirm : Bool
  /-- Quad reads at activation. Width 1; R468 UP_CFG.QUAD (17). -/
  quad : Bool
  /-- RTC seconds for AT_TIME. Width 48; R468 UP_ACTIVATE_AT (17). -/
  actAt : Nat
  /-- Low word held until the high word is written. Width 32; R478 (18). -/
  atLow : Option Word
  /-- Activation armed. Width source; R464 (17). -/
  armed : Option ArmSource
  /-- The staged head page has been re-read for KICK. Width 1; R464 (17). -/
  kickReady : Bool
  /-- An activation is between its instant and the end of its load. Width 1; R465 (17). -/
  activating : Bool
  /-- Recovery runs. Width 1; R461 (17). -/
  recovery : Bool
  /-- Slot that holds a staged image. Width slot; R456, R464 (17). -/
  staged : Option Slot
  /-- Download in progress. Width record; R456 (17). -/
  dl : Option Download
  /-- Slot A of the flash. Width 3 MiB; R454 (17). -/
  slotA : FlashSlot
  /-- Slot B of the flash. Width 3 MiB; R454 (17). -/
  slotB : FlashSlot
  /-- First copy of the boot record. Width record; R455 (17). -/
  boot0 : BootRec
  /-- Second copy of the boot record. Width record; R455 (17). -/
  boot1 : BootRec
  /-- Settings record of slot A. Width 224 KiB; R459 (17). -/
  setA : Option Settings
  /-- Settings record of slot B. Width 224 KiB; R459 (17). -/
  setB : Option Settings
  /-- Log, oldest first. Width 1,472 KiB; R454, R467 (17). -/
  log : List LogRec
  /-- Slot that the boot ROM loads. Width 1; R460 (17_service_update.md). -/
  loading : Option Slot
  /-- The load is the fall-back. Width 1; R460 (17_service_update.md). -/
  reverting : Bool
  /-- The load is the first start of a newly activated image. Width 1; R459 (17_service_update.md). -/
  fresh : Bool
  /-- The load is part of a wake from DEEP. Width 1; R405 (15_clocks_power_reset.md). -/
  waking : Bool
deriving DecidableEq, Repr

/-- Reset values of `Upd`: those of the field tables, and the values the assumption log names. -/
def Upd.reset : Upd where
  run := none
  runHead := []
  state := .none
  trial := false
  trialEnd := none
  bad := false
  seen := 0#4
  window := 0x78
  fallback := 1
  autoConfirm := false
  quad := false
  actAt := 0
  atLow := none
  armed := none
  kickReady := false
  activating := false
  recovery := false
  staged := none
  dl := none
  slotA := ⟨[], []⟩
  slotB := ⟨[], []⟩
  boot0 := ⟨.a, false, 0, false, 0, false⟩
  boot1 := ⟨.a, false, 0, false, 0, false⟩
  setA := none
  setB := none
  log := []
  loading := none
  reverting := false
  fresh := false
  waking := false

/-- Measurement of the device (R242-R266). -/
structure Meas where
  /-- NTC_B, K. Width 16; R266 MS_CFG (09). -/
  ntcB : Nat
  /-- NTC_R25, 100 Ohm. Width 8; R266 MS_CFG (09). -/
  ntcR25 : Nat
  /-- A snapshot is latched and not yet written. Width 1; R266 MS_SNAP_STAT (09). -/
  snapBusy : Bool
  /-- A mode-1 snapshot awaits kickoff. Width 1; R266 MS_SNAP_STAT (09). -/
  snapArmed : Bool
  /-- Tiles fenced at the last snapshot. Width 8; R266 MS_SNAP_STAT (09). -/
  snapMissing : BitVec 8
  /-- Number of the last snapshot. Width 16; R266 MS_SNAP_STAT (09). -/
  snapSeq : BitVec 16
  /-- RTC cycles at the latch of the last snapshot written. Width 63; R266 MS_SNAP_TIME (09). -/
  snapTime : Nat
  /-- RTC cycles at the latch of the snapshot being converted. Width 63; R252 (09). -/
  latchTime : Nat
  /-- Ports whose latch took the substitute lane. Width 192; R253 (09). -/
  latchLanes : BitVec 192
  /-- Tiles fenced at the latch. Width 8; R254 (09). -/
  latchMissing : BitVec 8
deriving DecidableEq, Repr

/-- Reset values of `Meas`: those of the field tables, and the values the assumption log names. -/
def Meas.reset : Meas where
  ntcB := 0xD6B
  ntcR25 := 0x64
  snapBusy := false
  snapArmed := false
  snapMissing := 0#8
  snapSeq := 0#16
  snapTime := 0
  latchTime := 0
  latchLanes := 0#192
  latchMissing := 0#8

/-- Fuse memory and its controller (R415-R436). -/
structure Fuse where
  /-- Copy A of every logical bit, as read at margin-low reference. Width 8,192; R415, R427 (16). -/
  aLow : BitVec 8192
  /-- Copy A as read at normal reference. Width 8,192; R415, R427 (16). -/
  aNorm : BitVec 8192
  /-- Copy A as read at margin-high reference. Width 8,192; R415, R427 (16). -/
  aHigh : BitVec 8192
  /-- Copy B as read at margin-low reference. Width 8,192; R415, R427 (16). -/
  bLow : BitVec 8192
  /-- Copy B as read at normal reference. Width 8,192; R415, R427 (16). -/
  bNorm : BitVec 8192
  /-- Copy B as read at margin-high reference. Width 8,192; R415, R427 (16). -/
  bHigh : BitVec 8192
  /-- The array has been read since the release. Width 1; R433, R435 reset values (16). -/
  read : Bool
  /-- OP, REGION and ADDR last written. Width 32; R435 FU_CMD (16). -/
  cmd : Word
  /-- Data to program. Width 32; R435 FU_WDATA (16). -/
  wdata : Word
  /-- Word address to read. Width 8; R435 FU_RADDR (16). -/
  raddr : BitVec 8
  /-- Word read. Width 32; R435 FU_RDATA (16). -/
  rdata : Word
  /-- Operation that runs. Width record; R421, R436 (16). -/
  job : Option FuseJob
  /-- Operation held behind an audit. Width record; R435, R436 (16). -/
  held : Option FuseJob
  /-- An audit runs. Width 1; R435 FU_STAT.AUDITING (16). -/
  auditing : Bool
  /-- The 24 h audit fell due during an operation. Width 1; R436 (16). -/
  auditDue : Bool
  /-- When the next audit of the 24 h series falls due. Width AON cycle; R427 (16). -/
  periodAt : Nat
  /-- Time of the last whole-array audit; AUDIT_AGE shows the hours since. Width AON cycle; R435 FU_STAT.AUDIT_AGE (16). -/
  auditAt : Nat
  /-- Source of the last programming: true VPP. Width 1; R435 FU_STAT.SOURCE (16). -/
  source : Bool
  /-- A region was ALARM or LOCKED_INCOMPLETE at boot. Width 1; R435 FU_STAT.BOOT_ALARM (16). -/
  bootAlarm : Bool
  /-- More than 16 weak bits in one audit. Width 1; R435 FU_STAT.WEAK_MORE (16). -/
  weakMore : Bool
  /-- Weak bits found. Width 32+OVF; R435 FU_WEAK_CNT, WEAK_OVF (16). -/
  weak : Cnt
  /-- Result of the last operation. Width 4; R435 FU_STAT.RESULT (16). -/
  result : FuseResult
  /-- Status of each region at the last boot. Width 7 x 3; R434 (16). -/
  boot : List RegionStatus
  /-- Patch bank: boot ROM word address and replacement word, in entry order. Width 64 entries; R432 (16). -/
  bank : List (Nat × Word)
  /-- Entries taken. Width 8; R435 FU_PATCH_STAT.TAKEN (16). -/
  taken : Nat
  /-- Entries revoked. Width 8; R435 FU_PATCH_STAT.REVOKED (16). -/
  revoked : Nat
  /-- Entries set aside. Width 8; R435 FU_PATCH_STAT.BAD (16). -/
  bad : Nat
deriving DecidableEq, Repr

/-- Reset values of `Fuse`: those of the field tables, and the values the assumption log names. -/
def Fuse.reset : Fuse where
  aLow := fuseShipped
  aNorm := fuseShipped
  aHigh := fuseShipped
  bLow := fuseShipped
  bNorm := fuseShipped
  bHigh := fuseShipped
  read := false
  cmd := 0#32
  wdata := 0#32
  raddr := 0#8
  rdata := 0#32
  job := none
  held := none
  auditing := false
  auditDue := false
  periodAt := 0
  auditAt := 0
  source := false
  bootAlarm := false
  weakMore := false
  weak := cntZero
  result := .none
  boot := [.blank, .blank, .blank, .blank, .blank, .blank, .blank]
  bank := []
  taken := 0
  revoked := 0
  bad := 0

/-- Huddle and kickoff (R355-R373). -/
structure Huddle where
  /-- Huddle state. Width 4; R357, R373 HD_STAT.STATE (13). -/
  state : HuddleState
  /-- Armed source; none shows 0xF. Width 4; R373 HD_STAT.SOURCE (13). -/
  source : Option KickSource
  /-- A write to a sealed huddle was ignored. Width 1; R373 HD_STAT.SEALED_WRITE (13). -/
  sealedWrite : Bool
  /-- KICK as sampled. Width 1; R373 HD_STAT.KICK_IN (13). -/
  kickIn : Bool
  /-- Tiles that took the last kickoff late. Width 8; R373 HD_STAT.LATE_TILES (13). -/
  late : BitVec 8
  /-- Staged copies, in ascending offset. Width one per register; R355 (13). -/
  staged : List Staged
  /-- Staged breaker sets, in ascending target code. Width 4 sets; R175, R193, R355 (06, 07, 13). -/
  curves : List (Nat × List (Nat × Nat))
  /-- RAM step tables loaded since they were last checked. Width 16 tables; R170, R360 (06, 13). -/
  newSteps : List Nat
  /-- Tiles whose RAM message table was loaded since it was last checked. Width 8 tiles; R82, R360 (03, 13). -/
  newMsgs : List Nat
  /-- Code of the last failed check. Width 8; R373 HD_ERR (13). -/
  err : Nat
  /-- Its locator. Width 32; R373 HD_ERR_LOC (13). -/
  errLoc : Word
  /-- TIMEOUT, 100 ms. Width 8; R373 HD_KICK_CFG.TIMEOUT (13). -/
  timeout : Nat
  /-- JOIN. Width 1; R373 HD_KICK_CFG.JOIN (13). -/
  join : Bool
  /-- Kickoffs applied. Width 32+OVF; R373 HD_APPLY_CNT (13). -/
  applyCnt : Cnt
  /-- Kickoffs by KICK. Width 32+OVF; R373 HD_KICK_CNT (13). -/
  kickCnt : Cnt
  /-- RTC at the apply instant of the last kickoff. Width 63; R373 HD_APPLY_TIME (13). -/
  applyTime : Nat
  /-- The tiles have acknowledged their shadows. Width 1; R364 (13). -/
  ready : Bool
  /-- When the tiles became ready. Width AON cycle; R363, R364 (13). -/
  readyAt : Nat
  /-- Deadline of an AT_TIME kickoff on the hub time base. Width AON cycle; R363, R364 (13). -/
  dueAt : Nat
  /-- When the unit armed on KICK. Width AON cycle; R369 (13). -/
  kickAt : Nat
  /-- KICK has been seen low since the unit armed. Width 1; R368 (13). -/
  seenLow : Bool
  /-- Host tag of the KICKOFF_ARM; none when the service port armed. Width 16; R342 KICKOFF_DONE (12). -/
  armTag : Option (BitVec 16)
  /-- Session and sequence number of the service HUDDLE ARM that waits for its answer. Width 16; R443 (17). -/
  svcSeq : Option (BitVec 8 × BitVec 8)
deriving DecidableEq, Repr

/-- Reset values of `Huddle`: those of the field tables, and the values the assumption log names. -/
def Huddle.reset : Huddle where
  state := .empty
  source := none
  sealedWrite := false
  kickIn := false
  late := 0#8
  staged := []
  curves := []
  newSteps := []
  newMsgs := []
  err := 0
  errLoc := 0#32
  timeout := 0x64
  join := false
  applyCnt := cntZero
  kickCnt := cntZero
  applyTime := 0
  ready := false
  readyAt := 0
  dueAt := 0
  kickAt := 0
  seenLow := false
  armTag := none
  svcSeq := none

/-- Service port, sessions and credentials (R437-R449, R458). -/
structure Svc where
  /-- Locked rate, bit/s. Width 24; R468 SV_LINK.BAUD (17). -/
  baud : Nat
  /-- Frames discarded. Width 16+OVF; R468 SV_ERR (17). -/
  err : Cnt
  /-- Last frame sent; empty since reset. Width 4,114 bytes; R440 (17). -/
  reply : List (BitVec 8)
  /-- Open service session. Width 8; R468 SV_STAT.SESSION (17). -/
  sess : Nat
  /-- Level asked for by SESSION_OPEN. Width 2; R443 (17). -/
  sessReq : Level
  /-- Proven level. Width 2; R468 SV_STAT.LEVEL (17). -/
  level : Level
  /-- EXPERT_UNLOCK in force. Width 1; R468 SV_STAT.UNLOCKED (17). -/
  unlocked : Bool
  /-- Challenge of the open session. Width 128; R445 (17). -/
  challenge : BitVec 128
  /-- Time of its SESSION_OPEN. Width AON cycle; R446 (17). -/
  openAt : Nat
  /-- Time of the last valid frame that carried the number of the open session. Width AON cycle; R444 (17). -/
  usedAt : Nat
  /-- Next service session number. Width 8; R444 (17). -/
  nextSess : Nat
  /-- New TECH key that takes effect at the next SESSION_OPEN. Width 32 bytes; R448 (17). -/
  pwNext : Option (List (BitVec 8))
  /-- New VIEW key that takes effect at the next SESSION_OPEN. Width 32 bytes; R448 (17). -/
  pwNextView : Option (List (BitVec 8))
  /-- Consecutive failed proofs, in AON. Width 8; R447 (17). -/
  lockN : Nat
  /-- End of the lockout, in AON. Width AON cycle; R447, R468 LOCKOUT_S (17). -/
  lockEnd : Option Nat
  /-- Count and seconds remaining as copied to the credential record. Width record; R447, R458 (17). -/
  lockMirror : Nat × Nat
  /-- VIEW key of the credential record; none is the first one. Width 32 bytes; R458 (17). -/
  viewKey : Option (List (BitVec 8))
  /-- TECH key of the credential record; none is the first one. Width 32 bytes; R458 (17). -/
  techKey : Option (List (BitVec 8))
deriving DecidableEq, Repr

/-- Reset values of `Svc`: those of the field tables, and the values the assumption log names. -/
def Svc.reset : Svc where
  baud := 0
  err := cntZero
  reply := []
  sess := 0
  sessReq := .none
  level := .none
  unlocked := false
  challenge := 0#128
  openAt := 0
  usedAt := 0
  nextSess := 1
  pwNext := none
  pwNextView := none
  lockN := 0
  lockEnd := none
  lockMirror := (0, 0)
  viewKey := none
  techKey := none

/-- Latches of BAR0 reads (R477). -/
structure Bus where
  /-- Latched high words, one per path and value. Width 6 paths; R477 (18). -/
  latches : List Latch
  /-- Word that the last counted read of BAR0 returned on PCIe or on a core's bus. Width 32; R471 (18). -/
  readData : Word
deriving DecidableEq, Repr

/-- Reset values of `Bus`: those of the field tables, and the values the assumption log names. -/
def Bus.reset : Bus where
  latches := []
  readData := 0#32

/-- The state of the HZ7192: every register, queue, counter, mode and pin the spec gives it, and the queue of the commands that wait. -/
structure State where
  /-- The 192 ports. -/
  ports : Vector Port 192
  /-- The eight tiles. -/
  tiles : Vector Tile 8
  /-- Feed FDA. -/
  feedA : Feed
  /-- Feed FDB. -/
  feedB : Feed
  /-- Global settings in force. -/
  cfg : Cfg
  /-- Scoreboard and feed controller. -/
  board : Board
  /-- Host link. -/
  link : Link
  /-- The 14 rings. -/
  rings : Vector Ring 14
  /-- Referee. -/
  ref : Ref
  /-- Clocks, power and reset. -/
  pwr : Pwr
  /-- Huddle and kickoff. -/
  hud : Huddle
  /-- Measurement of the device. -/
  meas : Meas
  /-- Scheduler and pager of the device. -/
  cores : Cores
  /-- Fuse memory and its controller. -/
  fuse : Fuse
  /-- Service port. -/
  svc : Svc
  /-- Firmware update. -/
  upd : Upd
  /-- BAR0 read latches. -/
  bus : Bus
  /-- The four policy cores. -/
  core : Vector Core 4
  /-- RTC in 32.768 kHz cycles: seconds in bits [62:15], sub-seconds in [14:0] (R399). -/
  rtc : Nat
  /-- AON cycles counted since power-on reset, not moved by RTC_SET (R396, R399). -/
  aon : Nat
  /-- The hub time base, in 1/512 us, 15625 of them in an AON cycle (R288, R396). -/
  hub : Nat
  /-- The model's own counter of free values taken (DESIGN CHOICE, log entry 9). -/
  freeCtr : Nat
  /-- Commands waiting, first in, first out. -/
  pending : List Instr
deriving DecidableEq, Repr

/-- The machine right after a power-on reset: every field at the value the spec states for reset or the assumption log names, the queue empty. -/
def State.reset : State where
  ports := Vector.ofFn fun i => Port.reset (i.val % 24 == 0)
  tiles := Vector.replicate 8 Tile.reset
  feedA := Feed.reset
  feedB := Feed.reset
  cfg := Cfg.reset
  board := Board.reset
  link := Link.reset
  rings := Vector.replicate 14 ringReset
  ref := Ref.reset
  pwr := Pwr.reset
  hud := Huddle.reset
  meas := Meas.reset
  cores := Cores.reset
  fuse := Fuse.reset
  svc := Svc.reset
  upd := Upd.reset
  bus := Bus.reset
  core := Vector.replicate 4 Core.reset
  rtc := 0
  aon := 0
  hub := 0
  freeCtr := 0
  pending := []
end Sys2Proof.Machine
end

