-- ==== Sys2Proof/Machine/Ops.lean ====
section
/-! DEFINITION. The named operations over the state that the meanings share: access to a port, a tile and a core's
records; counters; event posting; the port event queues; completions; the fence; the referee's record. -/
namespace Sys2Proof.Machine

/-- What a meaning answers. -/
abbrev Out := Host.Outcome State Fault Refusal

/-! ### Access -/

def State.port (s : State) (p : PortId) : Port := s.ports[p.val]
def State.tile (s : State) (t : TileId) : Tile := s.tiles[t.val]

def State.modPort (s : State) (p : PortId) (f : Port → Port) : State :=
  { s with ports := s.ports.set p.val (f (s.port p)) }
def State.modTile (s : State) (t : TileId) (f : Tile → Tile) : State :=
  { s with tiles := s.tiles.set t.val (f (s.tile t)) }
def State.modCc (s : State) (p : PortId) (f : Cc → Cc) : State := s.modPort p fun q => { q with cc := f q.cc }
def State.modPd (s : State) (p : PortId) (f : Pd → Pd) : State := s.modPort p fun q => { q with pd := f q.pd }
def State.modPol (s : State) (p : PortId) (f : Pol → Pol) : State := s.modPort p fun q => { q with pol := f q.pol }
def State.modRally (s : State) (p : PortId) (f : Rally → Rally) : State := s.modPort p fun q => { q with rally := f q.rally }
def State.modPath (s : State) (p : PortId) (f : Path → Path) : State := s.modPort p fun q => { q with path := f q.path }
def State.modRetry (s : State) (p : PortId) (f : Retry → Retry) : State := s.modPort p fun q => { q with retry := f q.retry }
def State.modSb (s : State) (p : PortId) (f : Sb → Sb) : State := s.modPort p fun q => { q with sb := f q.sb }
def State.modSc (s : State) (p : PortId) (f : Sched → Sched) : State := s.modPort p fun q => { q with sc := f q.sc }
def State.modCnt (s : State) (p : PortId) (f : Cnts → Cnts) : State := s.modPort p fun q => { q with cnt := f q.cnt }
def State.modCfg (s : State) (f : Cfg → Cfg) : State := { s with cfg := f s.cfg }
def State.modBoard (s : State) (f : Board → Board) : State := { s with board := f s.board }
def State.modLink (s : State) (f : Link → Link) : State := { s with link := f s.link }
def State.modRef (s : State) (f : Ref → Ref) : State := { s with ref := f s.ref }
def State.modPwr (s : State) (f : Pwr → Pwr) : State := { s with pwr := f s.pwr }
def State.modCores (s : State) (f : Cores → Cores) : State := { s with cores := f s.cores }
def State.coreAt (s : State) (k : CoreId) : Core := s.core[k.val]
def State.modCore (s : State) (k : CoreId) (f : Core → Core) : State := { s with core := s.core.set k.val (f s.core[k.val]) }
def State.ring (s : State) (n : Nat) : Ring := s.rings[n]?.getD ringReset
def State.modRing (s : State) (n : Nat) (f : Ring → Ring) : State :=
  if h : n < 14 then { s with rings := s.rings.set n (f s.rings[n]) } else s

/-- Every port, in port order. -/
def allPorts : List PortId := List.finRange 192
/-- Every tile, in tile order. -/
def allTiles : List TileId := List.finRange 8
/-- The tile a port belongs to (R8). -/
def tileOf (p : PortId) : TileId := ⟨p.val / 24, by have := p.isLt; omega⟩
/-- The local index of a port (R8). -/
def localIdx (p : PortId) : Nat := p.val % 24
/-- The port at a local index of a tile (R8). -/
def portAt (t : TileId) (l : Fin 24) : PortId := ⟨t.val * 24 + l.val, by have := t.isLt; have := l.isLt; omega⟩
/-- The ports of a tile (R8). -/
def portsOf (t : TileId) : List PortId := (List.finRange 24).map (portAt t)
/-- Local index L00 of each tile is a bootstrap port (R8). -/
def isBoot (p : PortId) : Bool := localIdx p == 0

/-! ### Bits -/

/-- The field of `n` bits of `w` from bit `lo`. -/
def bits (w : Word) (lo n : Nat) : Nat := w.toNat / 2 ^ lo % 2 ^ n
def bit (w : Word) (k : Nat) : Bool := w.getLsbD k
/-- A word from fields given as (value, lowest bit, width). -/
def packWord (fs : List (Nat × Nat × Nat)) : Word :=
  BitVec.ofNat 32 (fs.foldl (fun a f => a + f.1 % 2 ^ f.2.2 * 2 ^ f.2.1) 0)
/-- Two's complement of a signed value in `n` bits, as a natural number. -/
def twos (n : Nat) (i : Int) : Nat := (i % (2 ^ n : Nat)).toNat
/-- A signed value held in `n` bits, saturating. -/
def satInt (n : Nat) (i : Int) : Int := max (-(2 ^ (n - 1) : Nat)) (min i ((2 ^ (n - 1) : Nat) - 1))
/-- The signed value of an `n`-bit two's complement field. -/
def signed (n v : Nat) : Int := if v < 2 ^ (n - 1) then v else (v : Int) - (2 ^ n : Nat)
def b2n (b : Bool) : Nat := if b then 1 else 0
/-- Replace element `k` of a list; nothing when out of range. -/
def setAt {α : Type} (l : List α) (k : Nat) (v : α) : List α := l.set k v
/-- The bytes of a word, least significant first (R7). -/
def bytesLE (n v : Nat) : List Byte := (List.range n).map fun k => BitVec.ofNat 8 (v / 256 ^ k)
/-- The value of bytes, least significant first (R7). -/
def valLE (l : List Byte) : Nat := l.foldr (fun b a => b.toNat + 256 * a) 0

/-! ### Counters (R474) -/

def Cnt.inc (c : Cnt) (limit : Nat) : Cnt := if c.n + 1 ≥ limit then ⟨limit, true⟩ else ⟨c.n + 1, c.ovf⟩
/-- An event counter counts one (R474): at 0xFFFF_FFFF it sticks and sets OVF. -/
def Cnt.inc32 (c : Cnt) : Cnt := c.inc 0xFFFFFFFF
/-- An error counter counts one (R474). -/
def Cnt.inc16 (c : Cnt) : Cnt := c.inc 0xFFFF
/-- An event counter counts `n` events. -/
def Cnt.add32 (c : Cnt) (n : Nat) : Cnt := (List.range n).foldl (fun c _ => c.inc32) c
def incs32 (l : List Cnt) (k : Nat) : List Cnt := l.modify k Cnt.inc32

/-! ### CRC-32

The polynomial of USB PD's CRC-32 (R16); its value is PRESUMED from the standard (log entry 8). -/

def crcBit (c : BitVec 32) : BitVec 32 := if c.getLsbD 0 then (c >>> 1) ^^^ 0xEDB88320#32 else c >>> 1
def crcByte (c : BitVec 32) (b : Byte) : BitVec 32 :=
  (List.range 8).foldl (fun c _ => crcBit c) (c ^^^ b.setWidth 32)
def crcBytes (c : BitVec 32) (l : List Byte) : BitVec 32 := l.foldl crcByte c
def crc32 (l : List Byte) : BitVec 32 := ~~~ (crcBytes 0xFFFFFFFF#32 l)

/-! ### Power domains and the fence (R409, R410) -/

/-- Bit of a domain in the order of PW_STAT.POWERED (R413): SAFE 0, HUB 1, CORES 2, HOST 3, SVC 4, FEED 5, TAn 6 + n. -/
def domHost : Nat := 3
def domCores : Nat := 2
def domSvc : Nat := 4
def domFeed : Nat := 5
def domTile (t : TileId) : Nat := 6 + t.val
def State.domFenced (s : State) (k : Nat) : Bool := s.pwr.fenced.getLsbD k
def State.tileFenced (s : State) (t : TileId) : Bool := s.domFenced (domTile t)
def State.portFenced (s : State) (p : PortId) : Bool := s.tileFenced (tileOf p)
def State.hostFenced (s : State) : Bool := s.domFenced domHost
/-- A domain works: SAFE and HUB are released, and it is powered and not fenced (R393, R407, R409). -/
def State.domOn (s : State) (k : Nat) : Bool := s.pwr.dev != .deep && s.pwr.domUp && s.pwr.powered.getLsbD k && ! s.domFenced k
def setBit {w : Nat} (v : BitVec w) (k : Nat) (b : Bool) : BitVec w :=
  if b then v ||| BitVec.ofNat w (2 ^ k) else v &&& ~~~ (BitVec.ofNat w (2 ^ k))
def State.setFence (s : State) (k : Nat) (b : Bool) : State :=
  s.modPwr fun q => { q with fenced := setBit q.fenced k b }
def State.setPowered (s : State) (k : Nat) (b : Bool) : State := s.modPwr fun w => { w with powered := setBit w.powered k b }
/-- The feed controller works; from DEEP until it does, the feed keeper holds the gate (R204, R393, R405). -/
def State.feedUp (s : State) : Bool := s.domOn domFeed

/-! ### Parameters (R129) -/

/-- Value of a policy parameter that differs from its default, if any. -/
def State.paramOv (s : State) (n : Nat) : Option Word := (s.cfg.params.find? fun e => e.1 == n).map Prod.snd
def insertParam (l : List (Nat × Word)) (n : Nat) (v : Word) : List (Nat × Word) :=
  match l with
  | [] => [(n, v)]
  | e :: r => if n < e.1 then (n, v) :: e :: r else if n == e.1 then (n, v) :: r else e :: insertParam r n v

/-! ### Interrupts and rings (R322–R329, R345) -/

/-- A vector of the MSI-X table is masked (R320). -/
def Link.masked (l : Link) (v : Nat) : Bool := (l.msix[v]?).any (·.mask)
/-- An MSI-X vector is raised towards the host: its message is sent, or held pending while its table entry masks it (R320, R345); lost
while the host link is fenced (R392). -/
def State.raise (s : State) (v : Nat) : State :=
  if s.hostFenced then s
  else if s.link.masked v then s.modLink fun l => { l with pba := setBit l.pba v true }
  else s.modLink fun l => { l with raised := setBit l.raised v true }

/-- Entries of a device ring that the host has not freed (R324). -/
def Ring.occ (r : Ring) : Nat := (r.devIdx - r.hostIdx).toNat
def Ring.cap (r : Ring) : Nat := 2 ^ r.size
/-- A producer never has more than size − 1 entries outstanding (R324). -/
def Ring.room (r : Ring) : Bool := r.enable && decide (r.occ < r.cap - 1)

/-- The PHASE an entry at the ring's device index carries (R325): 1 on an even pass over the slots. -/
def Ring.phase (r : Ring) : Bool :=
  if r.size ≥ 16 then ! r.wraps else decide (r.devIdx.toNat / r.cap % 2 = 0)
/-- The device index moves one on. -/
def Ring.advance (r : Ring) : Ring := { r with devIdx := r.devIdx + 1#16, wraps := r.wraps != (r.devIdx == 0xFFFF#16) }

/-- A device ring takes one entry (R324); `now` forces its vector (R345). -/
def State.ringWrite (s : State) (n : Nat) (e : OutEntry) (now : Bool) : State :=
  let r := s.ring n
  let unsig := r.unsig + 1
  let fire := now || (r.irqCount == 0 && r.irqTime == 0) || (r.irqCount != 0 && decide (unsig ≥ r.irqCount))
  let r1 : Ring := { r.advance with out := r.out ++ [(r.phase, e)], unsig := if fire then 0 else unsig }
  let r2 := if r1.occ ≥ r1.cap - 1 then { r1 with state := .full } else r1
  let s1 := s.modRing n fun _ => r2
  if fire then s1.raise r.vector else s1

/-! ### Events (R341–R344) -/

def EvtBody.code : EvtBody → Nat
  | .attach .. => 0x01 | .detach .. => 0x02 | .contract .. => 0x03 | .contractLost .. => 0x04
  | .trip .. => 0x05 | .retry .. => 0x06 | .lockout .. => 0x07 | .stuckSwitch .. => 0x08
  | .overvolt .. => 0x09 | .reverse .. => 0x0A | .allocChange .. => 0x0B | .shed .. => 0x0C
  | .laneDrift .. => 0x0D | .ctxFault .. => 0x0E | .summary .. => 0x0F | .hostlinkStall .. => 0x10
  | .settingsDefaulted .. => 0x11 | .fuseWeak .. => 0x12 | .feedChange .. => 0x13 | .kickoffDone .. => 0x14
  | .huddleFail .. => 0x15 | .vdm .. => 0x16 | .cableIdentified .. => 0x17 | .thermalDerate .. => 0x18
  | .updateState .. => 0x19
  | .firmware ws => ((ws[0]?).getD 0#32).toNat % 256

/-- The safety events of R344. -/
def EvtBody.safety : EvtBody → Bool
  | .trip .. | .lockout .. | .stuckSwitch .. | .overvolt .. | .reverse .. | .ctxFault .. | .shed .. | .feedChange ..
  | .fuseWeak .. => true
  | .firmware ws => [0x05, 0x07, 0x08, 0x09, 0x0A, 0x0C, 0x0E, 0x12, 0x13].contains (((ws[0]?).getD 0#32).toNat % 256)
  | _ => false

/-- EVT_ENABLE of R352: safety events, SUMMARY and HOSTLINK_STALL cannot be disabled. -/
def State.evtOn (s : State) (b : EvtBody) : Bool :=
  b.safety || b.code == 0x0F || b.code == 0x10 || bit ((s.paramOv 0xA006).getD 0x03FFFFFE#32) b.code

/-- A coalesced event sets its port's bit, or the device bit (R343). -/
def State.markSummary (s : State) (p : Option PortId) : State :=
  s.modLink fun l => match p with
    | some q => { l with sumMap := setBit l.sumMap q.val true }
    | none => { l with sumDev := true }
def State.summaryPending (s : State) : Bool := s.link.sumDev || s.link.sumMap != 0#192

/-- An event is written into the EVT ring (R341). -/
def State.writeEvt (s : State) (e : Evt) : State :=
  let r := s.ring 4
  let resvd := decide (r.occ ≥ r.cap - 9)
  let e1 := { e with seq := s.link.evSeq, reserved := e.body.safety && resvd }
  let s1 := s.modLink fun l => { l with evSeq := l.evSeq + 1#16 }
  s1.ringWrite 4 (.evt e1) (e1.reserved || e.body.code == 0x0F || e.body.code == 0x10)

/-- Room for an ordinary event (R344). -/
def State.evtRoom (s : State) : Bool := let r := s.ring 4; r.enable && decide (r.occ + 9 < r.cap)
def State.evtRoomSafety (s : State) : Bool := (s.ring 4).room

/-- The backlog with one more event: a safety event waits ahead of the other events (R344, R354). -/
def backlogPut (l : List Evt) (e : Evt) : List Evt :=
  if e.body.safety then l.filter (·.body.safety) ++ e :: l.filter (! ·.body.safety) else l ++ [e]
/-- An event that cannot be written goes to the backlog, or to the summary map when that is full (R344). -/
def State.holdEvt (s : State) (e : Evt) : State :=
  if s.link.backlog.length < 64 then s.modLink fun l => { l with backlog := backlogPut l.backlog { e with backlog := true } }
  else s.markSummary e.port

/-- An event is posted (R341–R344). -/
def State.postEvt (s : State) (p : Option PortId) (b : EvtBody) : State :=
  if ! s.evtOn b then s
  else
    let e : Evt := { port := p, body := b, time := s.rtc }
    if b.safety then
      if s.evtRoomSafety && s.link.backlog.all (fun x => ! x.body.safety) then s.writeEvt e else s.holdEvt e
    else if s.summaryPending then s.markSummary p
    else if s.link.backlog.isEmpty && s.evtRoom then s.writeEvt e
    else s.holdEvt e

/-- As room appears the backlog is written in order, and SUMMARY once it has drained (R343, R344). -/
def State.drainBacklog (s : State) : Nat → State
  | 0 => s
  | k + 1 =>
    match s.link.backlog with
    | e :: rest =>
      if s.evtRoom || (e.body.safety && s.evtRoomSafety) then
        ((s.modLink fun l => { l with backlog := rest }).writeEvt e).drainBacklog k
      else s
    | [] =>
      if s.summaryPending && s.evtRoom then
        let b := EvtBody.summary s.link.sumMap s.link.sumDev
        (s.modLink fun l => { l with sumMap := 0#192, sumDev := false }).writeEvt { port := none, body := b, time := s.rtc }
      else s

/-! ### The referee's record (R383, R384, R391) -/

/-- Causes whose reaction is DEVICE (R383). -/
def refDevice (c : Nat) : Bool := [0x01, 0x02, 0x04, 0x05, 0x06, 0x12, 0x14, 0x15, 0x17].contains c

/-- A failure declared or recorded sets its bit, latches REF_FIRST when none was set, and raises the vector (R384, R391, R394). -/
def State.refRecord (s : State) (c : Nat) (tile : Option TileId) (port : Option PortId) : State :=
  let was := s.ref.fault.getLsbD c
  let s1 := s.modRef fun r =>
    let r1 := if r.fault == 0#24 then
        { r with firstCause := c, firstTile := (tile.map (·.val)).getD 0xFF, firstPort := (port.map (·.val)).getD 0xFF } else r
    { r1 with fault := setBit r1.fault c true }
  if ! was && s.ref.irqEn then s1.raise s.ref.vector else s1

/-! ### Errors of the hub SRAMs (R382, R386, R391) -/

/-- The word of an error lies in a range of a memory, named by its code in REF_ECC_ADDR. -/
def eccHit (mem lo n : Nat) (e : Nat × Nat) : Bool := e.1 == mem && decide (e.2 / 4 * 4 < lo + n) && decide (lo < e.2 / 4 * 4 + 4)
/-- An uncorrectable error at an access is counted and latched, and SRAM_UE recorded (R386, R391). -/
def State.eccError (s : State) (mem off : Nat) : State :=
  (s.modRef fun r => { r with eccUe := r.eccUe.inc16, eccMem := mem, eccOff := off }).refRecord 0x11 none none
/-- A poisoned word in a range of a memory. -/
def State.poisonIn (s : State) (mem lo n : Nat) : Option Nat := (s.ref.poison.find? (eccHit mem lo n)).map Prod.snd
/-- A range written over holds no error any more. -/
def State.unpoison (s : State) (mem lo n : Nat) : State :=
  if s.ref.poison.isEmpty && s.ref.soft.isEmpty then s
  else s.modRef fun r => { r with poison := r.poison.filter fun e => ! eccHit mem lo n e, soft := r.soft.filter fun e => ! eccHit mem lo n e }
/-- An access to a range corrects the single-bit errors in it, each of which is counted (R296, R386). -/
def State.softFix (s : State) (mem lo n : Nat) : State :=
  let hits := s.ref.soft.countP (eccHit mem lo n)
  if hits == 0 then s
  else s.modRef fun r => { r with eccCe := r.eccCe.add32 hits, soft := r.soft.filter fun e => ! eccHit mem lo n e }

/-! ### Port event queues (R300–R303) -/

def faultCount (q : List QEv) : Nat := q.countP fun e => e.cls == .fault
/-- An entry an event of this class may use is free (R302): four entries are reserved for FAULT. -/
def entryFree (q : List QEv) (c : QClass) : Bool :=
  if c == .fault then decide (q.length < 16)
  else decide ((q.length - faultCount q) + (faultCount q - 4) < 12)
def cellsOf (q : List QEv) : Nat := (q.map (·.cells)).sum
/-- Cells of the message store in use. -/
def State.storeUsed (s : State) : List Nat := s.ports.toList.flatMap fun q => q.sc.q.flatMap (·.store)
/-- The cells that an event of a port takes, as many of `n` as are free: the port's own one first, then shared ones (R303). -/
def State.storeFor (s : State) (p : PortId) (n : Nat) : List Nat :=
  if n == 0 then []
  else ((p.val :: (List.range 1088).map (· + 192)).filter fun c => ! s.storeUsed.contains c).take n
def State.freeCells (s : State) : Nat := 1280 - (s.ports.toList.map fun q => cellsOf q.sc.q).sum
/-- The cells an event needs are free (R303). -/
def State.cellsFree (s : State) (p : PortId) (n : Nat) : Bool := (s.storeFor p n).length == n
def mkEv (s : State) (c : QClass) (code : Nat) (data : Word) : QEv :=
  ⟨c, code, 0#16, data, 0, [], 0, s.cores.evNext, s.aon, none, none⟩

/-- Any queued event, doorbell, BAR0 access, service frame or kickoff takes the device out of IDLE (R401). -/
def State.toRun (s : State) : State := if s.pwr.dev == .idle then s.modPwr fun w => { w with dev := .run } else s
/-- One more event has arrived: the next one is younger (R304), and a device in IDLE returns to RUN (R401). -/
def State.arrive (s : State) : State := (s.modCores fun c => { c with evNext := c.evNext + 1 }).toRun

/-- Offset within the message store and event queue memory of an entry of a port's queue and of a cell (log entry 43). -/
def entryAt (p : PortId) (n : Nat) : Nat := p.val * 128 + n * 8
def cellAt (c : Nat) : Nat := 0x6000 + 32 * c
/-- An event is written into the next entry of a port's queue and into the cells it takes (R301, R303). -/
def State.enqueue (s : State) (p : PortId) (e : QEv) : State :=
  let l := s.storeFor p e.cells
  let s1 := (s.modSc p fun c => { c with q := c.q ++ [{ e with store := l }] }).unpoison 8 (entryAt p (s.port p).sc.q.length) 8
  l.foldl (fun s c => s.unpoison 8 (cellAt c) 32) s1

/-- A FAULT event is queued, or its bit set in the fault mask (R302). -/
def State.queueFault (s : State) (p : PortId) (code : Nat) (data : Word) : State :=
  let c := (s.port p).sc
  (if c.quar then s
   else if entryFree c.q .fault then s.enqueue p (mkEv s .fault code data)
   else s.modSc p fun c => { c with faultMask := setBit c.faultMask code true }).arrive

/-- A reception or report that finds no entry is dropped, counted and told by RX_DROPPED (R302). -/
def State.dropReport (s : State) (p : PortId) : State :=
  let n := (s.port p).sc.drops + 1
  let s1 := s.modCores fun c => { c with drop := c.drop.inc32 }
  if entryFree (s.port p).sc.q .fault then
    (s1.modSc p fun c => { c with drops := 0 }).queueFault p 0x0A (BitVec.ofNat 32 n)
  else (s1.modSc p fun c => { c with drops := n }).queueFault p 0x0A (BitVec.ofNat 32 n)

/-- An event of any class is queued to a port as R302 and R303 state. -/
def State.queueEv (s0 : State) (p : PortId) (e : QEv) : State :=
  let s := s0.arrive
  let c := (s.port p).sc
  if c.quar then s
  else match e.cls with
    | .fault => s.queueFault p e.code e.data
    | .timer =>
      if entryFree c.q .timer then s.enqueue p e
      else s.modSc p fun c => { c with timerMask := setBit c.timerMask e.data.toNat true }
    | .message =>
      if entryFree c.q .message && s.cellsFree p e.cells then
        let s1 := s.enqueue p e
        s1.modCores fun g => { g with minFree := min g.minFree s1.freeCells }
      else s.dropReport p
    | .host =>
      if entryFree c.q .host && s.cellsFree p e.cells then
        let s1 := s.enqueue p e
        s1.modCores fun g => { g with minFree := min g.minFree s1.freeCells }
      else s
    | .housekeeping =>
      if c.q.any (fun x => x.cls == .housekeeping && x.code == e.code && e.code != 1) && ! entryFree c.q .housekeeping then
        s.modSc p fun c => { c with q := c.q.map fun x =>
          if x.cls == .housekeeping && x.code == e.code then { x with data := e.data } else x }
      else if entryFree c.q .housekeeping then s.enqueue p e
      else s.modSc p fun c => { c with hkPend := c.hkPend.filter (fun x => x.1 != e.code) ++ [(e.code, e.data)] }

def State.queueMsg (s : State) (p : PortId) (code : Nat) (data : Word) : State :=
  s.queueEv p (mkEv s .message code data)
def State.queueHk (s : State) (p : PortId) (code : Nat) (data : Word) : State :=
  s.queueEv p (mkEv s .housekeeping code data)

/-- When an entry frees, what R302 held back is queued: FAULT_SUMMARY, then timers, then housekeeping. -/
def State.refillQueue (s : State) (p : PortId) : State :=
  let c := (s.port p).sc
  let s1 := if c.faultMask != 0#16 && entryFree c.q .fault then
      (s.modSc p fun c => { c with faultMask := 0#16 }).queueFault p 0x0B (c.faultMask.setWidth 32) else s
  let c1 := (s1.port p).sc
  let s2 := match (List.range 16).find? (fun k => c1.timerMask.getLsbD k) with
    | some k => if entryFree c1.q .timer then
        (s1.modSc p fun c => { c with timerMask := setBit c.timerMask k false }).queueEv p (mkEv s .timer 1 (BitVec.ofNat 32 k)) else s1
    | none => s1
  let c2 := (s2.port p).sc
  let s3 := match c2.hkPend with
    | (k, d) :: rest => if entryFree c2.q .housekeeping then
        (s2.modSc p fun c => { c with hkPend := rest }).queueHk p k d else s2
    | [] => s2
  -- a CONTRACT_LOST of R88 is posted when the queue can accept an event
  match (s3.port p).sc.lostPend with
  | some k => if entryFree (s3.port p).sc.q .message then
      (s3.modSc p fun c => { c with lostPend := none }).postEvt (some p) (.contractLost k) else s3
  | none => s3

/-! ### Completions (R338, R339) -/

def CplCode.num : CplCode → Nat
  | .ok => 0 | .abortedDisabled => 1 | .cancelled => 2 | .badField => 3 | .unknownOp => 4 | .notPermitted => 5
  | .busy => 6 | .timeout => 7 | .huddleFail => 8 | .partnerReject => 9 | .partnerWait => 10
  | .notSupportedByPartner => 11 | .fenced => 12 | .chainIncomplete => 13 | .safetyBlock => 14 | .resource => 15
def NpReason.num : NpReason → Nat
  | .none => 0 | .noSession => 1 | .level => 2 | .notUnlocked => 3 | .lockedOut => 4 | .passwordChangeDue => 5
  | .proofFail => 6 | .state => 7
/-- The CPL ring that a host ring completes into (R322). -/
def cplRing (ring : Nat) : Nat := if ring == 1 || ring == 10 then 3 else 2

/-- Completions that a host ring's descriptors still owe (R328, R349). -/
def State.owedBy (s : State) (n : Nat) : Nat :=
  s.link.fetched.countP (·.ring == n) + s.link.waiting.countP (·.ring == n) + s.link.loads.countP (·.ring == n) +
    b2n (s.ring n).chain.isSome
/-- A DRAINING ring becomes DISABLED once its last completion is written (R349). -/
def State.drained (s : State) (n : Nat) : State :=
  if (s.ring n).state == .draining && s.owedBy n == 0 && (s.ring n).devIdx == (s.ring n).hostIdx then s.modRing n fun r => { r with state := .disabled } else s

/-- A completion is written; while the host link is fenced it is discarded (R350). -/
def State.complete (s : State) (c : Cpl) (irq : Bool) : State :=
  (if s.hostFenced || ! (s.ring (cplRing c.ring)).enable then s
   else s.ringWrite (cplRing c.ring) (.cpl c) irq).drained c.ring

/-- Flag bits of a descriptor (R331). -/
def Desc.chain (d : Desc) : Bool := d.flags.getLsbD 0
def Desc.chainEnd (d : Desc) : Bool := d.flags.getLsbD 1
def Desc.irq (d : Desc) : Bool := d.flags.getLsbD 2
def Desc.phase (d : Desc) : Bool := d.flags.getLsbD 7

def Desc.opn (d : Desc) : Nat := d.op.toNat
/-- The port of a per-port descriptor. -/
def Desc.portId (d : Desc) : Option PortId := if h : d.port.toNat < 192 then some ⟨d.port.toNat, h⟩ else none
/-- A descriptor has started, or ends without a start. -/
def State.dropFetched (s : State) (d : Desc) : State :=
  s.modLink fun l =>
    { l with fetched := l.fetched.erase d, fetchAt := l.fetchAt.filter fun e => ! (e.1 == d.ring && e.2.1 == d.idx.toNat) }
def State.cplDesc (s : State) (d : Desc) (op : Nat) (code : CplCode) (detail : Nat) (data : List Byte) : State :=
  s.complete { op := BitVec.ofNat 8 op, chain := false, tag := d.tag, port := d.port, code := code,
               detail := BitVec.ofNat 8 detail, ring := d.ring, idx := d.idx, data := data } d.irq
def State.cplOk (s : State) (d : Desc) (op : Nat) : State := s.cplDesc d op .ok 0 []

def Waiting.cpl (w : Waiting) (code : CplCode) (detail : Nat) (data : List Byte) : Cpl :=
  { op := w.op, chain := false, tag := w.tag, port := w.portField, code := code, detail := BitVec.ofNat 8 detail,
    ring := w.ring, idx := w.idx, data := data }

/-- The waiting descriptors that `f` selects complete with the code given, in their order. -/
def State.finish (s : State) (f : Waiting → Bool) (code : CplCode) (detail : Nat) (data : List Byte) : State :=
  let hit := s.link.waiting.filter f
  let s1 := s.modLink fun l => { l with waiting := l.waiting.filter fun w => ! f w }
  hit.foldl (fun s w =>
    if code == .ok && w.code != .ok then s.complete (w.cpl w.code 0 w.data) w.irq else s.complete (w.cpl code detail data) w.irq) s1
/-- A descriptor that awaits several ports goes on to the next of them (R332). -/
def Waiting.next (w : Waiting) (p : PortId) : Waiting :=
  if w.port == some p then
    match w.also with
    | q :: r => { w with port := some q, also := r }
    | [] => w
  else { w with also := w.also.filter (· != p) }
/-- What waits for this happening of the port completes, once no further port is awaited. -/
def State.finishPort (s : State) (p : PortId) (k : WaitFor) (code : CplCode) (data : List Byte) : State :=
  let s1 := s.finish (fun w => w.port == some p && w.what == k && w.also.isEmpty) code 0 data
  s1.modLink fun l => { l with waiting := l.waiting.map fun w => if w.what == k then w.next p else w }

def State.waitingOf (s : State) (d : Desc) (op : Nat) (port : Option PortId) (k : WaitFor) : Waiting :=
  { op := BitVec.ofNat 8 op, ring := d.ring, idx := d.idx, tag := d.tag, portField := d.port, irq := d.irq, port := port, what := k,
    also := [], code := .ok, data := [], since := s.aon }
def State.wait (s : State) (d : Desc) (op : Nat) (port : Option PortId) (k : WaitFor) : State :=
  s.modLink fun l => { l with waiting := l.waiting ++ [s.waitingOf d op port k] }

/-- Whether a descriptor waits for the sequencer, the swap or the partner of a port (R131). -/
def WaitFor.ofPort : WaitFor → Bool
  | .vsafe5v | .txOk | .reply | .vdmReply | .swap => true
  | _ => false

/-! ### Outputs and free values -/

/-- FAULT_N is driven low (R377, R493); in DEEP it is held as before entry (R492). -/
def State.faultLow (s : State) : Bool :=
  if s.pwr.dev == .deep then s.pwr.deepFault else
  ! (s.ref.selfOk && s.ref.factoryOk) || s.ref.safe || s.ref.faultTest || s.pwr.testHold
    || s.ports.toList.any (fun q => q.retry.lock == .stuckSwitch)
    || (s.feedA.state == .disabled && s.feedA.cause == .stuckBank)
    || (s.feedB.state == .disabled && s.feedB.cause == .stuckBank)

/-- A fresh free value (log entry 9): the counter advances, so the next one is another. -/
def State.freeWord (s : State) : Word × State := (Config.freeWord s.freeCtr, { s with freeCtr := s.freeCtr + 1 })

/-- Version word of the running image; 0 while none runs (R468 UP_VER_RUN). -/
def State.runVersion (s : State) : Word :=
  BitVec.ofNat 32 (valLE ((s.upd.runHead.drop 8).take 4))

/-- A whole answer of a meaning. -/
def ok (s : State) : Out := .next s

end Sys2Proof.Machine
end

