-- ==== Sys2Proof/Machine/PathOps.lean ====
section
/-! DEFINITION. Power-path operations the meanings share: step tables and their entries, posting, abandoning and ending
a table, the contract mirror, the VCONN budget, the port safe state and the retry schedule (R158–R184). -/
namespace Sys2Proof.Machine

def Signal.num : Signal → Nat
  | .vsafe5vOk => 0 | .transitionDone => 1 | .transitionFail => 2 | .vsafe0vOk => 3 | .retryQualified => 4
  | .retryFailed => 5 | .limitSet => 6 | .vconnReady => 7 | .vconnFail => 8 | .vconnOff => 9 | .rpSet => 10
  | .refused => 11
def signalOf : Nat → Option Signal
  | 0 => some .vsafe5vOk | 1 => some .transitionDone | 2 => some .transitionFail | 3 => some .vsafe0vOk
  | 4 => some .retryQualified | 5 => some .retryFailed | 6 => some .limitSet | 7 => some .vconnReady
  | 8 => some .vconnFail | 9 => some .vconnOff | 10 => some .rpSet | _ => none
def TripCause.num : TripCause → Nat
  | .none => 0 | .fast => 1 | .breaker => 2 | .overvolt => 3 | .reverse => 4 | .undervolt => 5 | .stepTimeout => 6
  | .interlock => 7 | .vconnOc => 8
def LockCause.num : LockCause → Nat
  | .none => 0 | .retryExhausted => 1 | .cmpStuck => 2 | .dacFault => 3 | .stuckSwitch => 4
/-- The ROM table that a purpose starts (R167). -/
def Purpose.table : Purpose → Nat
  | .attach => 0 | .fixed => 1 | .prog => 2 | .hardReset => 3 | .errRec => 4 | .probe => 5 | .limit => 6
  | .vconnOn => 7 | .vconnOff => 8 | .rpLevel => 9 | .disc => 10

/-! ### Step-table entries (R159) -/

/-- An entry from its fields: action, arg, wait, threshold, timeout, next on success, next on timeout, flags. -/
def stepEntry (act arg wait thr tmo nok nto flags : Nat) : BitVec 64 :=
  BitVec.ofNat 64 (((((((act * 16 + arg) * 16 + wait) * 4096 + thr) * 65536 + tmo) * 256 + nok) * 256 + nto) * 256 + flags)
def seField (e : BitVec 64) (lo n : Nat) : Nat := e.toNat / 2 ^ lo % 2 ^ n
def seAct (e : BitVec 64) : Nat := seField e 60 4
def seArg (e : BitVec 64) : Nat := seField e 56 4
def seWait (e : BitVec 64) : Nat := seField e 52 4
def seThr (e : BitVec 64) : Nat := seField e 40 12
def seTmo (e : BitVec 64) : Nat := seField e 24 16
def seOk (e : BitVec 64) : Nat := seField e 16 8
def seTo (e : BitVec 64) : Nat := seField e 8 8
def seHold (e : BitVec 64) : Bool := e.getLsbD 2
def seFault (e : BitVec 64) : Bool := e.getLsbD 1
def seEnd (e : BitVec 64) : Bool := e.getLsbD 0

/-- Nodes reachable from a list in a finite graph: one round adds the successors of what is reached. -/
def reachStep (succ : Nat → List Nat) (l : List Nat) : List Nat :=
  l.foldl (fun a k => (succ k).foldl (fun a j => if a.contains j then a else a ++ [j]) a) l
def reach (succ : Nat → List Nat) (from_ : List Nat) : Nat → List Nat
  | 0 => from_
  | k + 1 => let l := reachStep succ from_; if l.length == from_.length then from_ else reach succ l k
/-- NEXT_TO can be taken: a wait that times out, or a SET_GATE close that is refused, without FAULT_ON_TIMEOUT (R160–R162). -/
def seToTaken (e : BitVec 64) : Bool :=
  ! seFault e && ((seWait e != 0 && seWait e != 5) || (seAct e == 1 && seArg e == 1))
def seSucc (t : List (BitVec 64)) (k : Nat) : List Nat :=
  match t[k]? with
  | none => []
  | some e => if seEnd e then [] else seOk e :: (if seToTaken e then [seTo e] else [])

/-- ST00 of R169. -/
def st00 : List (BitVec 64) :=
  [ stepEntry 8 2 0 0 0 1 0 0, stepEntry 5 3 0 0 0 2 0 0, stepEntry 3 3 5 0 20 3 0 0, stepEntry 7 5 0 600 0 4 0 0,
    stepEntry 8 1 0 0 0 5 0 0, stepEntry 1 1 0 0 0 6 0 2, stepEntry 0 0 2 225 160 7 0 2, stepEntry 8 0 0 0 0 8 0 0,
    stepEntry 7 2 0 0 0 9 0 0, stepEntry 6 0 0 0 0 0 0 1 ]
/-- ST01 of R169; ST02 differs in entries 01 and 02. -/
def st01 (armArg slewTmo : Nat) : List (BitVec 64) :=
  [ stepEntry 8 1 0 0 0 1 0 0, stepEntry 7 armArg 0 0 0 2 0 0, stepEntry 3 0 8 0 slewTmo 3 10 0, stepEntry 0 0 3 0 100 5 4 0,
    stepEntry 2 1 3 0 2000 5 9 0, stepEntry 2 0 0 0 0 6 0 0, stepEntry 8 0 0 0 0 7 0 0, stepEntry 7 2 0 0 0 8 0 0,
    stepEntry 6 1 0 0 0 0 0 1, stepEntry 2 0 0 0 0 10 0 0, stepEntry 6 2 0 0 0 0 0 1 ]
/-- ST03 of R169. -/
def st03 : List (BitVec 64) :=
  [ stepEntry 0 0 5 0 600 1 0 0, stepEntry 5 0 0 0 0 2 0 0, stepEntry 8 2 0 0 0 3 0 0, stepEntry 1 0 0 0 0 4 0 0,
    stepEntry 3 3 0 0 0 5 0 0, stepEntry 2 1 1 40 12400 6 0 2, stepEntry 2 0 5 0 16000 7 0 0, stepEntry 6 3 0 0 0 8 0 0,
    stepEntry 7 5 0 600 0 9 0 0, stepEntry 8 1 0 0 0 10 0 0, stepEntry 1 1 0 0 0 11 0 2, stepEntry 0 0 2 225 160 12 0 2,
    stepEntry 8 0 0 0 0 13 0 0, stepEntry 7 2 0 0 0 14 0 0, stepEntry 5 3 0 0 0 15 0 0, stepEntry 6 0 0 0 0 0 0 1 ]
/-- ST04 of R169. -/
def st04 : List (BitVec 64) :=
  [ stepEntry 4 0 0 0 0 1 0 0, stepEntry 5 0 0 0 0 2 0 0, stepEntry 8 2 0 0 0 3 0 0, stepEntry 1 0 0 0 0 4 0 0,
    stepEntry 3 3 0 0 0 5 0 0, stepEntry 2 1 5 0 800 6 0 0, stepEntry 0 0 1 40 12200 7 0 2, stepEntry 2 0 0 0 0 8 0 0,
    stepEntry 6 3 0 0 0 0 0 5 ]
/-- ST05 of R169. -/
def st05 : List (BitVec 64) :=
  [ stepEntry 8 2 0 0 0 1 0 0, stepEntry 3 3 5 0 20 2 0 0, stepEntry 7 5 0 600 0 3 0 0, stepEntry 8 1 0 0 0 4 0 0,
    stepEntry 1 1 0 0 0 5 0 2, stepEntry 0 0 2 225 80 6 11 0, stepEntry 0 0 5 0 20 7 0 0, stepEntry 8 0 0 0 0 8 0 0,
    stepEntry 7 2 0 0 0 9 0 0, stepEntry 5 3 0 0 0 10 0 0, stepEntry 6 4 0 0 0 0 0 1, stepEntry 1 0 0 0 0 12 0 0,
    stepEntry 2 1 1 40 400 13 0 2, stepEntry 2 0 0 0 0 14 0 0, stepEntry 6 5 0 0 0 0 0 5 ]
/-- ST06 to ST10 of R169. -/
def st06 : List (BitVec 64) := [ stepEntry 7 3 0 0 0 1 0 0, stepEntry 6 6 0 0 0 0 0 1 ]
def st07 : List (BitVec 64) :=
  [ stepEntry 5 3 6 2 200 1 2 0, stepEntry 6 7 0 0 0 0 0 1, stepEntry 5 0 0 0 0 3 0 0, stepEntry 6 8 0 0 0 0 0 1 ]
def st08 : List (BitVec 64) := [ stepEntry 5 0 5 0 20 1 0 0, stepEntry 6 9 0 0 0 0 0 1 ]
def st09 : List (BitVec 64) := [ stepEntry 4 4 0 0 0 1 0 0, stepEntry 6 10 0 0 0 0 0 1 ]
def st10 : List (BitVec 64) :=
  [ stepEntry 8 2 0 0 0 1 0 0, stepEntry 5 0 0 0 0 2 0 0, stepEntry 1 0 0 0 0 3 0 0, stepEntry 3 3 0 0 0 4 0 0,
    stepEntry 2 1 1 40 13000 5 0 2, stepEntry 2 0 0 0 0 6 0 0, stepEntry 6 3 0 0 0 0 0 5 ]
/-- ST00–ST15 (R169); ST11–ST15 hold one NOP with END. -/
def romStep (n : Nat) : List (BitVec 64) :=
  match n with
  | 0 => st00 | 1 => st01 4 4000 | 2 => st01 7 2000 | 3 => st03 | 4 => st04 | 5 => st05 | 6 => st06 | 7 => st07
  | 8 => st08 | 9 => st09 | 10 => st10 | _ => [stepEntry 0 0 0 0 0 0 0 1]

/-- A step table by number (R158), as it is held now: a RAM table that a port runs and that is neither in force through ST_OVR nor staged
may be loaded again, and the port goes on in the new entries (R170; DESIGN CHOICE, log entry 67). -/
def State.stepTable (s : State) (n : Nat) : List (BitVec 64) :=
  if n < 16 then romStep n else ((s.cfg.stRam[n - 16]?).map (·.entries)).getD []
def State.stValid (s : State) (k : Nat) : Bool := ((s.cfg.stRam[k]?).map (·.valid)).getD false
/-! ### Settings a tile runs on (R22, R364, R366) -/

/-- The tile-bound settings in force in the hub, as tile `t` takes them over. -/
def State.tileNow (s : State) (t : TileId) : TileHeld :=
  { filtM := s.cfg.filtM, filtN := s.cfg.filtN, tick := s.cfg.tick, slicer := s.cfg.slicer, stOvr := s.cfg.stOvr, b2 := s.cfg.b2,
    b3 := s.cfg.b3, mtSel := (s.tile t).mtSel, paths := (portsOf t).map fun p => ((s.port p).path.ift, (s.port p).path.slew) }
/-- The settings a tile runs on: those in force, or the earlier ones while it has not taken a kickoff (R366). -/
def State.tileCfg (s : State) (t : TileId) : TileHeld := (s.tile t).held.getD (s.tileNow t)
/-- Fast-trip threshold (0.5 A) and slew rate (0.1 V/ms) that a port's tile runs on. -/
def State.pathCfg (s : State) (p : PortId) : Nat × Nat :=
  match (s.tile (tileOf p)).held with
  | none => ((s.port p).path.ift, (s.port p).path.slew)
  | some h => (h.paths[localIdx p]?).getD ((s.port p).path.ift, (s.port p).path.slew)
/-- A tile keeps the settings it runs on when others come into force without it (R366). -/
def State.holdTile (s : State) (t : TileId) : State := s.modTile t fun q => { q with held := some (s.tileCfg t) }

/-- The message table that MT_SEL gives a port's tile. -/
def State.selTable (s : State) (p : PortId) : MtTable := if (s.tileCfg (tileOf p)).mtSel then .ram else .rom

/-- The table a purpose starts on a port, with ST_OVR (R167). -/
def State.tableFor (s : State) (p : PortId) (u : Purpose) : Nat :=
  if (s.tileCfg (tileOf p)).stOvr.getLsbD u.table then 16 + u.table else u.table
/-- The entry a port's sequencer stands at. -/
def State.stepEntryOf (s : State) (p : PortId) : BitVec 64 :=
  let q := (s.port p).path
  ((s.stepTable q.table)[q.entry]?).getD (stepEntry 0 0 0 0 0 0 0 1)

/-! ### Signals, posts and tables -/

/-- SIGNAL: the code is sent to the hub and shown in PP_PATH_STAT (R163). -/
def State.sigSend (s : State) (p : PortId) (g : Signal) : State :=
  (s.modPath p fun q => { q with lastSignal := some g }).queueMsg p 6 (BitVec.ofNat 32 g.num)

/-- The tile takes no post and runs no table while it is in reset, lost, safe or fenced (R22, R184, R494). -/
def State.tileDeaf (s : State) (p : PortId) : Bool :=
  let t := s.tile (tileOf p)
  ! t.released || t.safe || t.lost || s.portFenced p
/-- A port whose power path no step table may enter: a BOOT_SINK, and one that still presents Rd, for every table; an attached
accessory for every table but ST04, which removes its Rp (R36, R54, R513; the exception for ST04 is DEDUCED, log entry 19). -/
def Cc.noTable (c : Cc) (n : Nat) : Bool :=
  match c.state with
  | .bootSink | .bootRd => true
  | .attached => (c.partner == .debugAcc || c.partner == .audioAcc) && n != 4 && n != 20
  | _ => false

/-- A running table is abandoned; the queued post is discarded with REFUSED (R167). -/
def State.abandonTable (s : State) (p : PortId) : State :=
  let q := (s.port p).path
  let s1 := s.modPath p fun q => { q with run := false, waiting := false, queued := none, moved := false }
  if q.queued.isSome then s1.sigSend p .refused else s1

/-- A table start, trip, detach or forced sequence during CAL hands the port back with the old coefficients (R257). -/
def State.calAbort (s : State) (p : PortId) : State :=
  let t := s.tile (tileOf p)
  if t.laneOn && t.lanePort == localIdx p && t.phase == .cal then
    (s.modTile (tileOf p) fun t => { t with laneOn := false, phase := .compare }).modPort p fun q =>
      { q with smp := { q.smp with calPend := true, laneMoved := true, pendAt := if q.smp.calPend then q.smp.pendAt else s.aon } }
  else s

/-- The trigger of a capture armed on the port occurs (R250). -/
def State.capFire (s : State) (p : PortId) (k : CapTrigger) : State :=
  s.modTile (tileOf p) fun t =>
    { t with cap := t.cap.map fun c => if c.port == p && c.phase == .armed && c.trigger == k then { c with phase := .running } else c }

/-- Table `n` starts on a port with a posted request (R167, R168). The safe-held state of R162 ends at the start of any table that may
start, a direct start included (DESIGN CHOICE, log entry 67). -/
def State.startTable (s : State) (p : PortId) (n : Nat) (r : Post) : State :=
  let s1 := ((s.calAbort p).capFire p .tableStart).modPath p fun q =>
    { q with run := true, table := n, entry := 0, waiting := false, post := r, moved := false, safeHeld := false }
  s1.modRetry p fun q => { q with probing := n == s.tableFor p .probe }

/-- A request posted to a port's sequencer (R167). -/
def State.post (s : State) (p : PortId) (r : Post) : State :=
  let q := (s.port p).path
  if s.tileDeaf p then s
  else if (q.safeHeld && ! [Purpose.attach, .errRec, .probe].contains r.purpose) || r.mv < 3300 || r.mv > 50000 ||
      (s.port p).cc.noTable (s.tableFor p r.purpose) then s.sigSend p .refused
  else if [Purpose.hardReset, .errRec, .disc].contains r.purpose then
    (s.abandonTable p).startTable p (s.tableFor p r.purpose) r
  else if q.queued.isSome then s.sigSend p .refused
  else if q.run then s.modPath p fun q => { q with queued := some r }
  else s.startTable p (s.tableFor p r.purpose) r

/-- A post that names no target and no current of its own. -/
def plainPost (u : Purpose) : Post := { purpose := u, mv := 5000, ma := 3000, kind := .fixed, rp := .dflt, minMv := 3300 }

/-! ### Windows (R165) -/

/-- m of R165: the greater of 5 % of the target and 0.5 V. -/
def margin (mv : Nat) : Nat := max (mv / 20) 500
def Path.withWindow (q : Path) (w : Window) : Path :=
  match w with
  | .off => { q with window := .off, winHi := 0, winLo := 0 }
  | .steady => { q with window := .steady, winHi := q.target + margin q.target, winLo := q.target - margin q.target }
  | .span => let t := max q.target q.post.mv
    { q with window := .span, winHi := t + margin t, winLo := 0 }

/-! ### The IDAC and the breaker (R174, R175, R502) -/

/-- The signed 12-bit IDAC code of a target in mV (R502): v0 = 0.800 V × (1 + 402/12.4), 12.5625 mV a step, to the nearest. -/
def idacCode (mv : Nat) : Int := max (-2048) (min 2047 (((4 / 5 * (1 + 402 / (62 / 5)) * 1000 - (mv : Rat)) / (201 / 16) + 1 / 2).floor))
/-- The code that drives a port's feedback. -/
def Path.idac (q : Path) : Int := idacCode q.target

/-- Breaker set in force in a tile (R175). -/
def State.breakerSet (s : State) (t : TileId) (n : Nat) : List (Nat × Nat) :=
  match n with
  | 0 => breakerB0
  | 1 => [(18, 20000), (20, 10000), (24, 4000), (32, 1000), (40, 400), (48, 100), (56, 20), (62, 4)]
  | 2 => (s.tileCfg t).b2
  | _ => (s.tileCfg t).b3
/-- One tick of the accumulators: up by 8 above the threshold, down by 1 otherwise (R174). -/
def accTick (curve : List (Nat × Nat)) (ref : Nat) (ma : Int) (acc : List Nat) : List Nat :=
  (acc.zip curve).map fun e => if ma * 16 > (e.2.1 * ref : Nat) then e.1 + 8 else e.1 - 1
/-- The first segment whose accumulator has reached 8 × tk (R174). -/
def accTripped (curve : List (Nat × Nat)) (acc : List Nat) : Option Nat :=
  ((acc.zip curve).zipIdx.find? fun e => decide (e.1.1 ≥ 8 * e.1.2.2)).map Prod.snd
/-- The segment on which a port's breaker trips. -/
def State.breakerHit (s : State) (p : PortId) : Option Nat :=
  accTripped (s.breakerSet (tileOf p) (s.port p).path.bset) (s.port p).path.acc

/-! ### VCONN budget (R233) -/

/-- Charge of a port against its tile's VCONN budget, 0.25 W units (R233). -/
def vcCharge (q : Path) : Nat :=
  if q.vconn == 0 then 0 else if q.vcFresh then 4 else max 1 ((3 * q.vcBase + 49) / 50)
def State.tileCharge (s : State) (t : TileId) : Nat := ((portsOf t).map fun p => vcCharge (s.port p).path).sum
/-- The tile's budget admits another 1 W (R233). -/
def State.vcAdmits (s : State) (t : TileId) : Bool := decide (s.tileCharge t + 4 ≤ s.board.vcBudget * 2)
/-- The line that is not the active line (R38): 1 CC1, 2 CC2. -/
def vconnLine (c : Cc) : Nat := if c.cc2 then 1 else 2

/-! ### The port safe state and forced sequences (R15, R177, R183) -/

/-- Gate open, VCONN off, target 5 V at once, discharge on until VBUS is at or below 0.80 V, in one cycle. -/
def Path.safe (q : Path) : Path :=
  { q with gate := false, vconn := 0, target := 5000, slewTo := none, fold := 0, dis := true, disTrip := true, regulate := false }
/-- The same with window OFF. -/
def Path.forceSafe (q : Path) : Path := { q.safe with window := .off, winHi := 0, winLo := 0 }
/-- The port safe state: what runs is abandoned and the path made safe; the contract mirror keeps its window (R15, R165, R376). -/
def State.portSafe (s : State) (p : PortId) : State :=
  ((s.calAbort p).abandonTable p).modPath p Path.safe
/-- A forced sequence: a trip, a detach or the tile safe state sets the window OFF as well (R21, R165, R177, R183). -/
def State.portForce (s : State) (p : PortId) : State :=
  ((s.calAbort p).abandonTable p).modPath p Path.forceSafe

/-! ### The retry schedule (R178, R179) -/

/-- AON cycles of a number of seconds. -/
def secCycles (n : Nat) : Nat := n * 32768
/-- AON cycles of a number of milliseconds, rounded up. -/
def msCycles (n : Nat) : Nat := (n * 32768 + 999) / 1000

/-- A failure of a probe: f advances, and RETRY or LOCKOUT is posted (R178). -/
def State.retryFail (s : State) (p : PortId) : State :=
  let r := (s.port p).retry
  let f := min 16 (r.f + 1)
  if f < 16 then
    let secs := min (2 ^ (f + 1)) 64
    (s.modRetry p fun r => { r with f := f, due := some (s.aon + secCycles secs), probing := false, qualified := false }).postEvt
      (some p) (.retry f r.last secs)
  else
    let lock := if r.lock == .none then LockCause.retryExhausted else r.lock
    ((s.modRetry p fun r => { r with f := 16, due := none, probing := false, qualified := false, lock := lock }).postEvt
      (some p) (.lockout .retryExhausted 0)).queueFault p 4 1#32

/-- A trip enters the retry schedule (R178). -/
def State.retryTrip (s : State) (p : PortId) (c : TripCause) : State :=
  let s1 := s.modRetry p fun r => { r with last := c }
  let r := (s1.port p).retry
  if r.f == 0 && ! r.probing && ! r.qualified then
    s1.modRetry p fun r => { r with due := some (s.aon + secCycles 2), probing := false }
  else s1.retryFail p

/-- The retry state is cleared: failure count, due time and a RETRY_EXHAUSTED lockout (R179). -/
def Retry.clear (r : Retry) : Retry :=
  { r with f := 0, due := none, hold := false, probing := false,
           lock := if r.lock == .retryExhausted then .none else r.lock }

end Sys2Proof.Machine
end

