-- ==== Sys2Proof/Machine/PolicyOps.lean ====
section
/-! DEFINITION. Policy operations the meanings share: PD objects and messages, offers, sending, the contract's end,
Hard_Reset, Soft_Reset and ErrorRecovery (R95–R131). The PDO, RDO and message-type encodings are those of the USB PD
standard the spec names (PRESUMED, log entry 7). -/
namespace Sys2Proof.Machine

/-! ### Message types (PRESUMED from the standard, log entry 7) -/

/-- (Extended, has data objects, Message Type) of a kind. -/
def MsgKind.type : MsgKind → Bool × Bool × Nat
  | .goodCrc => (false, false, 1) | .gotoMin => (false, false, 2) | .accept => (false, false, 3) | .reject => (false, false, 4)
  | .ping => (false, false, 5) | .psRdy => (false, false, 6) | .getSourceCap => (false, false, 7) | .getSinkCap => (false, false, 8)
  | .drSwap => (false, false, 9) | .prSwap => (false, false, 10) | .vconnSwap => (false, false, 11) | .wait => (false, false, 12)
  | .softReset => (false, false, 13) | .dataReset => (false, false, 14) | .dataResetComplete => (false, false, 15)
  | .notSupported => (false, false, 16) | .getSourceCapExt => (false, false, 17) | .getStatus => (false, false, 18)
  | .frSwap => (false, false, 19) | .getPpsStatus => (false, false, 20) | .getCountry => (false, false, 21)
  | .getSinkCapExt => (false, false, 22) | .getSourceInfo => (false, false, 23) | .getRevision => (false, false, 24)
  | .sourceCaps => (false, true, 1) | .request => (false, true, 2) | .bist => (false, true, 3) | .sinkCaps => (false, true, 4)
  | .batteryStatus => (false, true, 5) | .alert => (false, true, 6) | .enterUsb => (false, true, 8) | .eprRequest => (false, true, 9)
  | .eprMode => (false, true, 10) | .sourceInfo => (false, true, 11) | .revision => (false, true, 12) | .vdm => (false, true, 15)
  | .sourceCapExt => (true, true, 1) | .status => (true, true, 2) | .getBatteryCap => (true, true, 3)
  | .getBatteryStatus => (true, true, 4) | .batteryCap => (true, true, 5) | .getManufacturerInfo => (true, true, 6)
  | .manufacturerInfo => (true, true, 7) | .securityRequest => (true, true, 8) | .firmwareUpdate => (true, true, 10)
  | .ppsStatus => (true, true, 12) | .countryInfo => (true, true, 13) | .sinkCapExt => (true, true, 15)
  | .extendedControl | .eprGetSourceCap | .eprGetSinkCap | .eprKeepAlive | .eprKeepAliveAck => (true, true, 16)
  | .eprSourceCaps => (true, true, 17) | .eprSinkCaps => (true, true, 18) | .other => (false, false, 31)

/-- A message header: type, DFP, revision, source, MessageID, object count, Extended. -/
def msgHeader (k : MsgKind) (rev3 : Bool) (id nobj : Nat) : BitVec 16 :=
  let t := k.type
  BitVec.ofNat 16 (t.2.2 + 32 + (if rev3 then 128 else 64) + 256 + id % 8 * 512 + nobj % 8 * 4096 + b2n t.1 * 32768)
def hdrId (h : BitVec 16) : Nat := h.toNat / 512 % 8
def hdrObjs (h : BitVec 16) : Nat := h.toNat / 4096 % 8
def hdrExt (h : BitVec 16) : Bool := h.getLsbD 15
def hdrType (h : BitVec 16) : Nat := h.toNat % 32
/-- The 32-bit data objects of a message's bytes. -/
def wordsLE (l : List Byte) : List Word :=
  (List.range (l.length / 4)).map fun k => BitVec.ofNat 32 (valLE ((l.drop (4 * k)).take 4))
def wordBytes (ws : List Word) : List Byte := ws.flatMap fun w => bytesLE 4 w.toNat
/-- The extended header and data of a single-chunk extended message. -/
def extBytes (data : List Byte) : List Byte := bytesLE 2 (data.length % 512 + 32768) ++ data

def ctlMsg (k : MsgKind) (e : Expect) : TxMsg :=
  { sop := .sop, kind := k, ext := false, data := [], amsStart := false, amsEnd := false, ckind := .none, expect := e, raw := none }
def objMsg (k : MsgKind) (ws : List Word) (e : Expect) : TxMsg := { ctlMsg k e with data := wordBytes ws }
def extMsg (k : MsgKind) (data : List Byte) (e : Expect) : TxMsg := { ctlMsg k e with ext := true, data := data }
def TxMsg.ams (m : TxMsg) : TxMsg := { m with amsStart := true }
def TxMsg.amsLast (m : TxMsg) : TxMsg := { m with amsEnd := true }

/-! ### PD objects (PRESUMED encodings, log entry 7) -/

/-- A source object of an offer. -/
inductive PdObj
  | fixed (mv ma : Nat)
  | pps (lo hi ma : Nat)
  | avs (lo hi pdp : Nat)
  | other
deriving DecidableEq, Repr

def fixedPdo (mv ma : Nat) : Word := packWord [(mv / 50, 10, 10), (ma / 10, 0, 10)]
def ppsPdo (lo hi ma : Nat) (limited : Bool) : Word :=
  packWord [(3, 30, 2), (b2n limited, 27, 1), (hi / 100, 17, 8), (lo / 100, 8, 8), (ma / 50, 0, 7)]
def avsPdo (lo hi pdp : Nat) : Word :=
  packWord [(3, 30, 2), (1, 28, 2), (hi / 100, 17, 9), (lo / 100, 8, 8), (pdp, 0, 8)]
def decodePdo (w : Word) : PdObj :=
  if bits w 30 2 == 0 then .fixed (bits w 10 10 * 50) (bits w 0 10 * 10)
  else if bits w 30 2 == 3 && bits w 28 2 == 0 then .pps (bits w 8 8 * 100) (bits w 17 8 * 100) (bits w 0 7 * 50)
  else if bits w 30 2 == 3 && bits w 28 2 == 1 then .avs (bits w 8 8 * 100) (bits w 17 9 * 100) (bits w 0 8)
  else .other
/-- EPR objects are fixed above 20 V and AVS (R96, R98). -/
def PdObj.isEpr : PdObj → Bool
  | .fixed mv _ => decide (mv > 20000)
  | .avs .. => true
  | _ => false
/-- Greatest power of an object, in units of 1 µW. -/
def PdObj.power : PdObj → Nat
  | .fixed mv ma => mv * ma
  | .pps _ hi ma => hi * ma
  | .avs _ _ pdp => pdp * 1000000
  | .other => 0
/-- Power in µW as 0.25 W quanta, rounded down. -/
def quanta (uw : Nat) : Nat := uw / 250000

/-- The default objects of a profile, in the order of R98; profile 0xF offers 5 V 3 A until a set has been accepted. -/
def profileDefault (n : Nat) : List Word :=
  let f := fixedPdo
  let s3 := [f 5000 3000, f 9000 3000, f 15000 3000]
  let s5 := s3 ++ [f 20000 5000]
  let s9 := s5 ++ [ppsPdo 3300 21000 5000 false]
  let e3 := [f 28000 5000, f 36000 5000, f 48000 5000]
  match n with
  | 0 => [f 5000 3000] | 1 => [] | 2 => s3.take 2 | 3 => s3 | 4 => s3 ++ [f 20000 3000] | 5 => s5
  | 6 => s3.take 2 ++ [ppsPdo 3300 11000 3000 false] | 7 => s3 ++ [ppsPdo 3300 16000 3000 false]
  | 8 => s3 ++ [f 20000 3250, ppsPdo 3300 21000 3000 false] | 9 => s9
  | 10 => s5 ++ e3.take 1 | 11 => s5 ++ e3.take 2 | 12 => s5 ++ e3 | 13 => s9 ++ e3
  | 14 => s9 ++ e3 ++ [avsPdo 15000 48000 240] | _ => [f 5000 3000]
/-- Default profile power of R98, W. -/
def profileWatts (n : Nat) : Nat :=
  ([15, 15, 27, 45, 60, 100, 27, 45, 65, 100, 140, 180, 240, 240, 240, 15][n]?).getD 15

/-! ### Parameters of chapters 4 and 5 (R129, R130, R157) and their defaults -/

/-- Default value of a parameter that a table of the manual lists; `none` for a reserved index. -/
def paramDefault (n : Nat) : Option Nat :=
  let g := n / 4096
  let i := n % 4096
  match g with
  | 0 => if i % 16 < 11 then some (((profileDefault (i / 16))[i % 16]?).getD 0#32).toNat
         else if i % 16 == 11 then some (profileWatts (i / 16) * 4) else none
  | 1 => [500, 3500, 3000, 1000, 10000][i]?
  | 2 => [27, 30, 150, 5000][i]?
  | 3 => [50, 2][i]?
  | 4 => [13500, 875][i]?
  | 5 => [1, 100][i]?
  | 6 => [0x1D7B, 0x7192][i]?
  | 7 => [1, 20, 45][i]?
  | 8 => [1, 0x01C00000 + 0x1D7B, 0][i]?
  | 9 => if i < 6 then some 0xFFFFFFFF else [10, 90, 600][i - 6]?
  | 10 => if i < 6 then some 0 else [0x03FFFFFE, 50, 100, 10, 64][i - 6]?
  | 11 => [20, 5, 1, 1, 50000, 100][i]?
  | _ => none
/-- Value in force of a parameter; 0 for a reserved one (R129). -/
def State.param (s : State) (n : Nat) : Nat := ((s.paramOv n).map (·.toNat)).getD ((paramDefault n).getD 0)

/-- Voltage of a fixed object, mV; 0 for another. -/
def fixedMv (w : Word) : Nat := match decodePdo w with | .fixed mv _ => mv | _ => 0
/-- A word takes its place in ascending order of fixed voltage, behind its equals. -/
def pdoInsert (w : Word) : List Word → List Word
  | [] => [w]
  | x :: r => if fixedMv w < fixedMv x then w :: x :: r else x :: pdoInsert w r
/-- Objects in the order an offer carries them: fixed SPR by voltage, PPS, at most seven; fixed EPR by voltage, AVS, at most four (R99,
R103; words beyond the seventh and the fourth are left out: DESIGN CHOICE, log entry 66). -/
def offerOrder (ws : List Word) : List Word :=
  let take := fun (f : PdObj → Bool) => ws.filter fun w => f (decodePdo w)
  let fixed := fun (epr : Bool) => (take fun o => match o with | .fixed .. => o.isEpr == epr | _ => false).foldr pdoInsert []
  (fixed false ++ take fun o => match o with | .pps .. => true | _ => false).take 7 ++
    (fixed true ++ take fun o => match o with | .avs .. => true | _ => false).take 4

/-- The profile's objects, in the order of an offer: the custom set for 0xF, those of profile 0x0 while limited by R264 (R98, R103). The
PROFILE words of 0xF are not read: R98 gives that profile the port's own set (DESIGN CHOICE, log entry 66). -/
def State.profileWords (s : State) (p : PortId) : List Word :=
  let q := (s.port p).pol
  let n := if (s.port p).smp.limited && q.profile != 1 then 0 else q.profile
  if n == 15 then q.custom.getD [fixedPdo 5000 3000]
  else offerOrder (((List.range 11).map fun i => BitVec.ofNat 32 (s.param (n * 16 + i))).filter (· != 0#32))
/-- Profile power, 0.25 W units (R98). -/
def State.profilePower (s : State) (p : PortId) : Nat :=
  let q := (s.port p).pol
  if q.profile == 15 then
    match q.custom with
    | none => 60
    | some ws => min 960 ((ws.map fun w => quanta (decodePdo w).power).foldl max 0)
  else s.param (q.profile * 16 + 11)

/-! ### Offers (R100–R105) -/

def cableLimit (c : CableClass) : Nat := if c == .cable5A || c == .cableEpr then 5000 else 3000
def cableEprOk (c : CableClass) : Bool := c == .cableEpr

/-- One object as offered: the word, whether withheld, whether it is an EPR object. -/
structure OfferObj where
  word : Word
  held : Bool
  epr : Bool
  /-- Power it carries, µW. -/
  power : Nat
deriving DecidableEq, Repr

/-- The clipped maximum an APDO carries (R101). -/
def clipApdo (hi feed headroom threshold : Nat) : Nat := min hi (max threshold ((feed - headroom) / 100 * 100))

/-- An object as offered from an allocation (none: leaving the allocation aside, R217). -/
def offerObj (w : Word) (alloc : Option Nat) (cable feed headroom minMa : Nat) (withdrawn : Bool) : OfferObj :=
  match decodePdo w with
  | .fixed mv ma =>
    let lim := min ma cable
    let i := (match alloc with | some a => min lim (a * 250000 / mv) | none => lim) / 10 * 10
    { word := fixedPdo mv i, held := withdrawn || (mv != 5000 && decide (i < minMa)), epr := decide (mv > 20000), power := mv * i }
  | .pps lo hi ma =>
    let top := clipApdo hi feed headroom 5900
    let lim := min ma cable
    let raw := match alloc with | some a => min lim (a * 250000 / top) | none => lim
    let i := raw / 50 * 50
    { word := ppsPdo lo top i (decide (raw < lim)), held := withdrawn || decide (i < minMa), epr := false, power := top * i }
  | .avs lo hi pdp =>
    let top := clipApdo hi feed headroom 20000
    let w := match alloc with | some a => min pdp (a / 4) | none => pdp
    let pw := match alloc with | some _ => w * 1000000 | none => min (w * 1000000) (top * cable)
    { word := avsPdo lo top w, held := withdrawn || decide (w * 1000000 / top < minMa), epr := true, power := pw }
  | .other => { word := w, held := true, epr := false, power := 0 }

/-- The active feed is below the threshold of an object: a fixed one needs V + 3.5 V, an APDO a clipped maximum of 5.9 V or 20.0 V (R101). -/
def State.feedShort (s : State) (w : Word) : Bool :=
  let top := fun hi => min hi ((s.board.vFeed - s.param 0x1002) / 100 * 100)
  match decodePdo w with
  | .fixed mv _ => decide (s.board.vFeed < mv + s.param 0x1001)
  | .pps _ hi _ => decide (top hi < 5900)
  | .avs _ hi _ => decide (top hi < 20000)
  | .other => false
/-- The feed voltage keeps an object out of the next offer: it has been withdrawn and not restored, or the last offer did not carry it
and the feed is below its threshold (R101, R102). -/
def State.feedHeld (s : State) (p : PortId) (w : Word) : Bool :=
  let q := (s.port p).pol
  q.withdrawn.contains w || (s.feedShort w && ! q.live.contains w)
/-- The objects of a port's offer (R100–R102). -/
def State.offerObjs (s : State) (p : PortId) (alloc : Option Nat) : List OfferObj :=
  let q := (s.port p).pol
  (s.profileWords p).map fun w =>
    offerObj w alloc (cableLimit q.cable) s.board.vFeed (s.param 0x1002) (s.param 0x1000) (s.feedHeld p w)

/-- Greatest power any object could carry, the allocation aside, 0.25 W (R217). -/
def State.offerable (s : State) (p : PortId) : Nat :=
  if (s.profileWords p).isEmpty then s.profilePower p
  else ((s.offerObjs p none).map fun o => if o.held then 0 else quanta o.power).foldl max 0

/-- The allocation an offer is built from: the decided value while decreasing, the earlier one under a curtailment (R153, R223). -/
def State.offerAlloc (s : State) (p : PortId) : Nat :=
  let b := (s.port p).sb
  if (s.port p).rally.curtail.isSome then (s.port p).rally.preAlloc else b.decided.getD b.alloc

/-- Source_Capabilities words, EPR words, withheld mask and EPR Mode Capable of the offer due now (R103–R105). -/
structure Offer where
  spr : List Word
  epr : List Word
  held : BitVec 11
  eprCap : Bool
deriving DecidableEq, Repr

def padTo (n : Nat) (l : List Word) : List Word := l ++ List.replicate (n - l.length) 0#32

def State.buildOffer (s : State) (p : PortId) : Offer :=
  let rev3 := (s.port p).pd.rev3
  let objs := s.offerObjs p (some (s.offerAlloc p))
  let held := (objs.zipIdx.filter fun e => e.1.held).foldl (fun m e => setBit m e.2 true) (0#11)
  let eprCap := objs.any fun o => o.epr && ! o.held
  let isPps := fun o : OfferObj => bits o.word 30 2 == 3
  -- the fixed PDOs, then the PPS APDO (R103, R104)
  let spr0 := ((objs.filter fun o => ! o.epr && ! o.held && ! isPps o)
    ++ (objs.filter fun o => rev3 && ! o.held && ! o.epr && isPps o)).map (·.word)
  let spr := match spr0 with
    | [] => []
    | w :: r => (if eprCap then w ||| (BitVec.ofNat 32 (2 ^ 23)) else w) :: r
  let eprObjs := if (s.port p).pol.eprExit then List.replicate ((s.port p).pol.acked.length - 7) 0#32
    else (objs.filter fun o => o.epr).map fun o => if o.held then 0#32 else o.word
  { spr := spr, epr := padTo 7 spr ++ eprObjs, held := held, eprCap := eprCap }
/-- Power of an offer: the greatest of the objects it carries, 0.25 W (R125, R481). -/
def offerPower (ws : List Word) : Nat := (ws.map fun w => quanta (decodePdo w).power).foldl max 0

/-! ### Sending -/

/-- The TX buffer takes a message (R68); the policy keeps it until it is reported. -/
def State.toTx (s : State) (p : PortId) (m : TxMsg) : State :=
  s.modPort p fun q =>
    { q with pd := { q.pd with tx := some m, txStarted := false, txChunk := 0, txFlags := b2n m.amsStart + 2 * b2n m.amsEnd },
             pol := { q.pol with flight := some m } }
/-- The TX buffer is free and no report is outstanding. -/
def Port.txFree (q : Port) : Bool := q.pd.tx.isNone && q.pol.flight.isNone
/-- Responses whose wait is a sequence of the device's own in progress (R116, R127). -/
def Expect.open : Expect → Bool
  | .request | .acceptSoft | .sinkCaps | .status | .swapReply | .swapPsRdy | .hostReply => true
  | _ => false
/-- A sequence is in progress behind which a message that starts one of the device's own waits (R127). Soft_Reset ends whatever
runs; a VDM's own request, and the swap and the discovery of an EPR entry, belong to what runs. -/
def State.seqBusy (s : State) (p : PortId) (m : TxMsg) : Bool :=
  let q := (s.port p).pol
  m.kind != .softReset
    && ((q.eprEntry != 0 && m.kind != .vconnSwap && m.sop == .sop) || ((s.port p).rally.req != .none && m.kind != .vdm)
      || q.expect.open || [PolState.transition, .vconnSwap, .softReset, .hardReset].contains q.state)
/-- The message may go to a free TX buffer now: a reply always, one that starts a sequence when none is in progress. -/
def State.mayStart (s : State) (p : PortId) (m : TxMsg) : Bool := ! m.amsStart || ! s.seqBusy p m
/-- The policy hands a message to the sequencer; one that starts a sequence of the device's own is queued behind any sequence in
progress, a reply goes before those; in hold it is queued until the port is resumed (R68, R85, R127). -/
def State.send (s : State) (p : PortId) (m : TxMsg) : State :=
  if s.tileDeaf p then s
  else if (s.port p).pd.table != .hold && (s.port p).txFree && s.mayStart p m && (s.port p).pol.outq.all (fun x => x.amsStart && ! m.amsStart) then s.toTx p m
  else s.modPol p fun q =>
    { q with outq := if m.amsStart then q.outq ++ [m] else q.outq.filter (fun x => ! x.amsStart) ++ m :: q.outq.filter fun x => x.amsStart }
/-- The TX buffer is free: the first queued message that may start goes in. -/
def State.sendNext (s : State) (p : PortId) : State :=
  if ! (s.port p).txFree || (s.port p).pd.table == .hold then s
  else match (s.port p).pol.outq.find? (s.mayStart p) with
    | some m => (s.modPol p fun q => { q with outq := q.outq.erase m }).toTx p m
    | none => s
def State.sendCtl (s : State) (p : PortId) (k : MsgKind) (e : Expect) : State := s.send p (ctlMsg k e)

/-! ### The contract and its end -/

def Pol.hasContract (q : Pol) : Bool := q.kind != .none
def Pol.clearContract (q : Pol) : Pol :=
  { q with kind := .none, stKind := .none, epr := false, cRev3 := false, pos := 0, mv := 0, ma := 0, limitMa := 0, rdo := 0#32, req := 0#32,
           reqPdo := 0#32, stPdo := 0#32, repeat_ := false, eprEntry := 0, eprExit := false }
/-- A contract that stands ends, and CONTRACT_LOST is posted with its cause (R118); HOLD_EXPIRED as soon as the port's event queue can
accept an event (R88). -/
def State.endContract (s : State) (p : PortId) (c : LostCause) : State :=
  let had := (s.port p).pol.hasContract
  let s1 := s.modPol p Pol.clearContract
  if ! had then s1
  else if c == .holdExpired && ! entryFree (s.port p).sc.q .message then s1.modSc p fun q => { q with lostPend := some c }
  else s1.postEvt (some p) (.contractLost c)

/-- Rally mode ends; RALLY_EXITED is posted unless by detach (R143, R151). A curtailment that stands is dropped with it: no RESTORE, offer
or limit follows on its account (DESIGN CHOICE, log entry 66). -/
def State.rallyEnd (s : State) (p : PortId) (post : Bool) : State :=
  let was := (s.port p).rally.active
  let s1 := s.modRally p fun r =>
    { r with active := false, pledge := 0, pledgeNext := none, pledgeMsg := none, curtail := none, curtConf := false,
             noticeDue := false, ladder := false, owed := .none, req := .none, busyReq := .none, busyN := 0, nakRun := 0, heldOff := false }
  if was && post then s1.postEvt (some p) (.vdm 4 .sop 0#32) else s1

def HoldReply.num : HoldReply → Nat
  | .none => 0 | .acceptPsRdy => 1 | .keepAliveAck => 2 | .acceptSoftReset => 3 | .wait => 4
/-- A message answered in hold is queued for the policy with the reply given (R86, R89). -/
def State.reportHold (s : State) (p : PortId) : State :=
  let q := (s.port p).pd
  match q.rx with
  | some m =>
    if q.holdReply == .none then s
    else (s.modPort p fun r =>
      { r with pd := { r.pd with holdReply := .none }, pol := { r.pol with answered := (r.pol.answered ++ [(m, q.holdReply)]).take 16 } }).queueEv p
      { mkEv s .message 1 0#32 with
        cells := min 9 ((m.data.length + 2 + 2 + 31) / 32), msg := some m, tag := BitVec.ofNat 16 q.holdReply.num }
  | none => s

/-- The sequencer stops at once: reception discarded, TX buffer cleared with TX_DISCARDED, restart at 0x00 (R94). What was answered in
hold is queued first (R86), and a port in hold then runs the message table that MT_SEL gives (DESIGN CHOICE, log entry 11). -/
def State.pdStop (s : State) (p : PortId) : State :=
  let had := (s.port p).pd.tx.isSome
  let s1 := (s.reportHold p).modPd p fun q =>
    { q with entry := 0, waiting := false, retry := 0, tx := none, txStarted := false, txActive := false, gcActive := false, rx := none,
             rxHeld := none, asm := none, byRx := false, holdPsRdy := false, txFlags := 0, resume := false,
             table := if q.table == .hold then s.selTable p else q.table, tableReq := q.tableReq && q.table != .hold,
             txDiscard := if had then q.txDiscard.inc16 else q.txDiscard }
  if had then s1.queueMsg p 4 0#32 else s1
/-- All MessageID state is reset (R67). -/
def Pd.resetIds (q : Pd) : Pd := { q with txId0 := 0, txId1 := 0, txId2 := 0, rxId0 := none, rxId1 := none, rxId2 := none }

/-- A port returns to pulsed watch; to DISABLED when it has been disabled (R30, R513). -/
def Port.toWatch (q : Port) : Port :=
  { q with cc := { q.cc with state := if q.pol.enabled then .watch else .disabled, partner := .none, rp := .off, rpHold := false,
                             filt := [], latched := none, nonAttach := 0, differ := 0, debounced := false, attachDue := false, openRun := 0, detachRun := 0,
                             awaitDue := false, attachPend := false, disablePend := false } }

/-- Pending descriptors of a port end ABORTED_DISABLED (R131): those of the partner and the sequencer, and the others that `extra` selects. -/
def State.abortDescs (s : State) (p : PortId) (extra : WaitFor → Bool) : State :=
  s.finish (fun w => w.port == some p && (w.what.ofPort || extra w.what)) .abortedDisabled 0 []

/-- The policy of a port whose attach has ended: DETACHED, everything known of the partner forgotten (R97, R106, R117, R138). -/
def Pol.afterDetach (q : Pol) : Pol :=
  { q.clearContract with
    state := .detached, mismatch := false, sinkMax := none, eprPdp := none, sent := [], acked := [], ackEpr := false,
    newOffer := false, profChange := false, cable := .unknown, cableVid := 0#16, cablePid := 0#16, cableVdo := 0#32,
    discRun := false, discTries := 0, eprTries := 0, hardResets := 0, capsSends := 0, pdSeen := false, firstDone := false,
    eprDone := false, expect := .none, outq := [], flight := none, noResp := false, swapTake := false, swapDue := false, swapTries := 0, swapHost := false, eprDue := false, answered := [],
    sinkEpr := none, offLimit := 3000, reqSeen := false, withdrawn := [], live := [], vcIncapable := false, waited := none, ocp := false, ovp := false, otp := false, bist := false, lastInfo := none }
def Rally.afterDetach (r : Rally) : Rally :=
  { r with active := false, vid := 0#16, pid := 0#16, step := .idle, svids := [], sawRally := false, modesBad := [], req := .none,
           busyReq := .none, busyN := 0, pledge := 0, pledgeNext := none, pledgeMsg := none, maxPledge := 0, curtail := none, owed := .none,
           curtConf := false, noticeDue := false, noticeAt := none, nakRun := 0, heldOff := false, ladder := false, seq := 0, holdMin := 0, curtHold := 0 }

/-- The attach of a port ends: the policy is abandoned, the sequencer stops, the port's descriptors end (R94, R131, R513). -/
def State.attachEnds (s : State) (p : PortId) : State :=
  let s1 := (s.rallyEnd p false).pdStop p
  let s2 := s1.modPort p fun q =>
    { q with pol := q.pol.afterDetach, rally := q.rally.afterDetach,
             pd := { q.pd.resetIds with vth := 25, rev3 := true },
             sb := { q.sb with usage := false, vcForced := false, vcWait := false, decided := none, step := 0, confirmed := false,
                               peaks := [], same := 0, sinceRel := 0, floorLim := false, credit := 0, newc := false },
             path := { q.path with vcLocked := false, hardLimit := none } }
  s2.abortDescs p fun k => k == .cable

/-- A pending decrease and a report that the scoreboard has not yet used are void (R241). -/
def Sb.voidDecrease (b : Sb) : Sb := { b with decided := none, step := 0, confirmed := false, floorLim := false, newc := false }

/-! ### ErrorRecovery, Hard_Reset and Soft_Reset (R116, R117, R131) -/

/-- ErrorRecovery: the contract ends with the cause given, ST04 is posted (R97, R131, R169). -/
def State.errorRecovery (s : State) (p : PortId) (c : LostCause) : State :=
  let s1 := (s.endContract p c).rallyEnd p true
  let s2 := (s1.pdStop p).abortDescs p fun k => k == .cable
  let s3 := s2.modPol p fun q =>
    { q with state := .errorRecovery, hardResets := 0, cable := .unknown, discRun := false, discTries := 0, outq := [], flight := none,
             expect := .none, noResp := false, newOffer := false, eprDue := false, swapTake := false, swapDue := false, swapTries := 0, swapHost := false }
  (s3.modSb p Sb.voidDecrease).post p (plainPost .errRec)

/-- A Hard_Reset has been sent or received: contract, MessageIDs and Rally mode end, the TX buffer is cleared, a port in hold returns to
its message table, and the policy waits for ST03 (R67, R86, R117). A hold not yet entered stays requested (R85). -/
def State.hardResetDone (s : State) (p : PortId) (c : LostCause) : State :=
  let s1 := ((s.reportHold p).endContract p c).rallyEnd p true
  let s2 := s1.modPort p fun q =>
    { q with pd := { q.pd.resetIds with entry := 0, waiting := false, retry := 0, tx := none, txStarted := false, txActive := false, gcActive := false,
                                        rx := none, rxHeld := none, asm := none, byRx := false, holdPsRdy := false, vth := 25, txFlags := 0,
                                        table := if q.pd.table == .hold then s.selTable p else q.pd.table,
                                        tableReq := q.pd.tableReq && q.pd.table != .hold, resume := false },
             pol := { q.pol with state := .hardReset, outq := [], flight := none, expect := .none, capsSends := 0, noResp := true, swapTake := false,
                                 swapDue := false, swapTries := 0, bist := false },
             rally := { q.rally with step := .idle, svids := [], sawRally := false },
             cnt := { q.cnt with hrst := q.cnt.hrst.inc32 } }
  s2.post p (plainPost .hardReset)

/-- A Hard_Reset is sent: it counts, the transmitter drives the line, and the port's pending descriptors end, but for the
PORT_HARD_RESET that asked for it where `keep` says so (R44, R117, R131). -/
def State.hardResetSent (s : State) (p : PortId) (c : LostCause) (keep : Bool) : State :=
  let s1 := s.finish (fun w => w.port == some p && w.what.ofPort && ! (keep && w.what == .vsafe5v)) .abortedDisabled 0 []
  ((s1.modPol p fun q => { q with hardResets := q.hardResets + 1 }).hardResetDone p c).modPd p fun q =>
    { q with last := .hardReset, txActive := true }
/-- The policy sends Hard_Reset, or enters ERROR_RECOVERY when the count stands at 2 (R116, R117). -/
def State.hardReset (s : State) (p : PortId) (c : LostCause) (keep : Bool) : State :=
  if (s.port p).pol.hardResets ≥ s.param 0x3001 then s.errorRecovery p .errorRecovery else s.hardResetSent p c keep

/-- What the TX buffer holds is no longer the policy's: its report leads to nothing (R68). -/
def Pol.moot (q : Pol) : Pol :=
  { q with flight := q.flight.map fun m => { m with kind := .other, expect := .none, amsStart := false, ckind := .none } }
/-- The policy leaves every sequence in progress for a Soft_Reset sent or received; EPR entry ends, and a message in the TX buffer stays
until the table reports it (R68, R111, R116). -/
def State.softLeave (s : State) (p : PortId) : State :=
  s.modPort p fun q =>
    { q with pol := { q.pol.moot with state := .softReset, outq := [], expect := .none, eprEntry := 0, swapDue := false },
             rally := { q.rally with req := if q.rally.req == .hostVdm then .hostVdm else .none,
                                     busyReq := if q.rally.busyReq == .hostVdm then .hostVdm else .none } }
/-- The policy sends Soft_Reset, as a sequence of its own, and waits for its Accept (R116, R123). -/
def State.softReset (s : State) (p : PortId) : State :=
  ((s.softLeave p).modPd p fun q => { q with txId0 := 0, rxId0 := none }).send p (ctlMsg .softReset .acceptSoft).ams

/-- A protocol error: Soft_Reset, or Hard_Reset in TRANSITION (R116, R125). -/
def State.protocolError (s : State) (p : PortId) : State :=
  if (s.port p).pol.state == .transition then s.hardReset p .hardResetSent false else s.softReset p

/-- A port that holds an allocation may send an offer (R97, R128), and one that step 4 has returned to its reserve (R224). -/
def Port.holdsAlloc (q : Port) : Bool := q.sb.state == .funded || q.sb.state == .decreasing || q.sb.resvOffer
/-- An offer goes out, and is remembered as sent (R101, R103, R107): `m` is the message that carries it. -/
def State.offerGoes (s : State) (p : PortId) (o : Offer) (epr : Bool) (m : TxMsg) : State :=
  let ws := if epr then o.epr else o.spr
  let words := s.profileWords p
  (s.modPol p fun q =>
    { q with sent := ws, offN := ws.length, offLimit := cableLimit q.cable, offEpr := epr, withheld := o.held, offPdp := offerPower ws,
             newOffer := false, eprDue := false, withdrawn := words.filter (s.feedHeld p), live := words.filter fun w => ! s.feedHeld p w }).send p m
/-- The message of an offer: Source_Capabilities, or EPR_Source_Capabilities (R103). -/
def Offer.msg (o : Offer) (epr : Bool) (e : Expect) : TxMsg :=
  if epr then extMsg .eprSourceCaps (wordBytes o.epr) e else objMsg .sourceCaps o.spr e
/-- An offer is sent: Source_Capabilities, or EPR_Source_Capabilities in EPR mode (R97, R103). A port without an allocation waits for
one in STARTUP (R128). Profile 0x1 has none to send: a standing contract ends by R108, and the port is a non-PD sink. `reply`: it
answers the partner and starts no sequence of the device's own (R123). On a port in hold the policy waits to be resumed (R85, R131). -/
def State.sendOffer (s : State) (p : PortId) (epr reply : Bool) : State :=
  let o := s.buildOffer p
  let epr := epr || (s.port p).pol.eprDue
  if (s.port p).pd.table == .hold then s.modPol p fun q => { q with state := .held, expect := .none }
  else if o.spr.isEmpty && (s.port p).pol.hasContract then
    s.hardReset p (if (s.port p).pol.profChange then .profileChange else .hardResetSent) false
  else if ! (s.port p).holdsAlloc && ! (s.port p).pol.hasContract then s.modPol p fun q => { q with state := .startup, expect := .none }
  else if o.spr.isEmpty then s.modPol p fun q => { q with state := .typecOnly, newOffer := false, expect := .none, acked := [] }
  else
    let m := o.msg epr .request
    (s.modPol p fun q => { q with state := .sendCaps, expect := .none }).offerGoes p o epr (if reply then m else m.ams)

/-- The READY state of the port's mode. -/
def Pol.readyState (q : Pol) : PolState := if q.epr then .readyEpr else .ready
def Pol.isReady (q : Pol) : Bool := q.state == .ready || q.state == .readyEpr

/-- Demand reported to the scoreboard, 0.25 W (R106, R217): the FLOOR until a Request has been received (R226). -/
def State.demandOf (s : State) (p : PortId) : Nat :=
  let q := (s.port p).pol
  let cap := s.profilePower p
  let known := match q.sinkMax, q.sinkEpr with
    | some a, some b => some (max a b)
    | a, none => a
    | none, b => b
  if q.state == .typecOnly then 60
  else if ! q.reqSeen then (s.port p).sb.floor
  else match known, q.eprPdp with
    | some a, some b => min cap (max a b)
    | some a, none => min cap a
    | none, some b => min cap b
    | none, none => if q.mismatch then cap else if q.hasContract then min cap (quanta (q.mv * q.ma)) else (s.port p).sb.floor

/-- A power negotiation abandons a VDM exchange of the device's discovery or Rally mode; one that the host asked for stands (R156). -/
def State.abandonVdm (s : State) (p : PortId) : State :=
  if (s.port p).rally.req == .hostVdm || (s.port p).rally.busyReq == .hostVdm then s
  else s.modPort p fun q =>
    { q with rally := { q.rally with req := .none, busyReq := .none }, pol := { q.pol with outq := q.pol.outq.filter fun m => m.kind != .vdm } }

/-- A usage cap is released (R228). -/
def Sb.releaseUsage (b : Sb) : Sb := if b.usage then { b with usage := false, sinceRel := 0, hiRun := 0 } else b
/-- A demand that has risen releases the usage cap (R228). -/
def State.demandRose (s : State) (p : PortId) (was : Nat) : State := if s.demandOf p > was then s.modSb p Sb.releaseUsage else s

/-! ### Trips (R177) -/

/-- A port trips: the path is forced safe in one cycle, TRIP is posted and the contract ends; every cause enters the
retry schedule (R177, R178). Rally mode ends with RALLY_EXITED, and the discovery of R140 stays where it ended: it is not run again after
the retry (DESIGN CHOICE, log entry 66). -/
def State.portTrip (s : State) (p : PortId) (c : TripCause) (seg : Nat) : State :=
  let s1 := (s.capFire p .trip).portForce p
  let peak := (s.port p).path.peak
  let s2 := (s1.postEvt (some p) (.trip c seg (peak / 5))).modPort p fun q =>
    { q with cnt := { q.cnt with trip := q.cnt.trip.inc32 },
             pol := { q.pol with ocp := q.pol.ocp || c == .fast || c == .breaker, ovp := q.pol.ovp || c == .overvolt } }
  let s3 := s2.queueFault p 1 (BitVec.ofNat 32 (seg * 256 + c.num))
  let s4 := ((s3.endContract p .trip).rallyEnd p true).pdStop p
  let s5 := (s4.modPol p fun q => { q with state := .detached, outq := [], flight := none, expect := .none }).modSb p Sb.voidDecrease
  -- an attach table that ends in a trip has the outcome FAILED (R42, R179)
  let a := (s.port p).cc
  let s6 := if a.attachPend then
      ((s5.postEvt (some p) (.attach a.partner a.cc2 .failed)).modCnt p fun c => { c with attach := c.attach.inc32 }).modCc p
        fun c => { c with attachPend := false } else s5
  (s6.abortDescs p fun _ => false).retryTrip p c

/-- A showing is one that its limits let trip the port (R166, R171, R174, R176): a comparator's threshold with its greatest error
below nominal, the breaker's accumulators, the lower bound outside tables and fold-back. -/
def State.shows (s : State) (p : PortId) (x : Tripping) : Bool :=
  let q := (s.port p).path
  match x with
  | .fast ma => decide (ma * 100 ≥ 500 * (s.pathCfg p).1 * 95)
  | .breaker => (s.breakerHit p).isSome
  | .overvolt mv => q.gate && q.window != .off && decide (mv * 100 ≥ q.winHi * 99)
  | .reverse ma => decide (200 ≤ ma)
  | .undervolt mv => q.window == .steady && ! q.run && ! (q.regulate && q.fold != 0) && decide (mv < q.winLo)
/-- Which of several showings of one tile cycle gives the TRIP its cause: FAST before BREAKER and OVERVOLT before REVERSE (R184);
otherwise the order of the causes' codes, UNDERVOLT last (DESIGN CHOICE, log entry 61). -/
def Tripping.cause : Tripping → TripCause
  | .fast _ => .fast | .breaker => .breaker | .overvolt _ => .overvolt | .reverse _ => .reverse | .undervolt _ => .undervolt
/-- The port's comparators and breaker trip it: not a BOOT_SINK's, whose switch is open and whose current comes in (R54), and not once more
while the discharge that a trip has forced still runs (DEDUCED, log entry 20). -/
def Port.mayTrip (q : Port) : Bool := q.cc.state != .bootSink && (q.path.gate || ! q.path.disTrip)
/-- What a port's comparators and breaker show in one tile cycle trips it once; OVERVOLT and REVERSE are posted with the TRIP, and REVERSE
also where the port has tripped already (R166, R176, R184). -/
def State.tripCycle (s : State) (p : PortId) (xs : List Tripping) : State :=
  let ys := xs.filter (s.shows p)
  let cause := [TripCause.fast, .breaker, .overvolt, .reverse, .undervolt].find? fun c => ys.any fun y => y.cause == c
  match cause with
  | none => s
  | some c =>
    let s1 := ys.foldl (fun s y => match y with
      | .overvolt mv => s.postEvt (some p) (.overvolt none (mv / 20))
      | .reverse ma => s.postEvt (some p) (.reverse (ma / 5))
      | _ => s) s
    if (s.port p).mayTrip then s1.portTrip p c (if c == .breaker then (s.breakerHit p).getD 0xFF else 0xFF)
    else if (s.port p).cc.state == .bootSink then s
    else s1

end Sys2Proof.Machine
end

