-- ==== Sys2Proof/Machine/Replies.lean ====
section
/-! DEFINITION. Policy operations that carry a sequence on: passing messages to the host, structured VDMs of the device,
cable and SOP discovery, VCONN swaps, EPR entry, and the partner's replies to what the device sent (R110–R157). -/
namespace Sys2Proof.Machine

/-! ### Messages to the host (R125, R127, R336, R337) -/

/-- Passthrough is enabled for the port in parameter group REPORT (R352). -/
def State.passOn (s : State) (p : PortId) : Bool := (BitVec.ofNat 32 (s.param (0xA000 + p.val / 32))).getLsbD (p.val % 32)
def rxRec (s : State) (p : PortId) (m : Msg) (tag : Option (BitVec 16)) (lost : Bool) (h : HoldReply) : OutEntry :=
  .rx { port := p, tag := tag, lost := lost, sop := m.sop, hold := h, time := s.rtc, hdr := m.hdr, data := m.data }
/-- The reply that hold gave to a message delivered after it (R89, R337). -/
def Pol.heldReply (q : Pol) (m : Msg) : HoldReply := ((q.answered.find? (·.1 == m)).map (·.2)).getD .none
/-- A message is passed to MSGRX0 with the reply given in hold, or dropped and counted when that ring has no free slot (R337). -/
def State.passMsg (s : State) (p : PortId) (m : Msg) : State :=
  let h := (s.port p).pol.heldReply m
  let s1 := s.modPol p fun q => { q with answered := q.answered.eraseP (·.1 == m) }
  if ! s.passOn p then s1
  else if (s.ring 11).room then
    (s1.ringWrite 11 (rxRec s p m none s.link.rxLost h) false).modLink fun l => { l with rxLost := false }
  else s1.modLink fun l => { l with rxDrop := l.rxDrop.inc32, rxLost := true }

/-- The MSGRX ring of the same number as the MSGTX ring (R336). -/
def rxRing (ring : Nat) : Nat := if ring == 10 then 12 else 11
/-- A descriptor that waits for a reply ends OK with the reply in its MSGRX ring, or RESOURCE when that has no free slot (R336). -/
def State.replyToHost (s : State) (p : PortId) (k : WaitFor) (m : Msg) : State :=
  match s.link.waiting.find? (fun w => w.port == some p && w.what == k) with
  | none => s
  | some w =>
    if (s.ring (rxRing w.ring)).room then
      (s.ringWrite (rxRing w.ring) (rxRec s p m (some w.tag) false .none) false).finishPort p k .ok []
    else s.finishPort p k .resource []

/-! ### Structured VDMs of the device (R132–R134, R145, R146) -/

/-- A VDM header: structured, Version 2.1 at revision 3.x and 1.0 at 2.0 (R132). -/
def vdmHeader (svid : Nat) (rev3 : Bool) (pos typ cmd : Nat) : Word :=
  packWord [(svid, 16, 16), (1, 15, 1), (if rev3 then 5 else 0, 11, 4), (pos, 8, 3), (typ, 6, 2), (cmd, 0, 5)]
def vdmSvid (h : Word) : Nat := bits h 16 16
def vdmCmd (h : Word) : Nat := bits h 0 5
def vdmType (h : Word) : Nat := bits h 6 2
def vdmStructured (h : Word) : Bool := bit h 15
def rallySvid : Nat := 0x3C5D

def vdmMsg (sop : Sop) (h : Word) (vdos : List Word) (e : Expect) : TxMsg := { objMsg .vdm (h :: vdos) e with sop := sop }
/-- A structured VDM request of the device goes out and is outstanding (R134). -/
def State.sendVdm (s : State) (p : PortId) (sop : Sop) (r : VdmReq) (h : Word) (vdos : List Word) : State :=
  (s.modRally p fun q => { q with req := r, reqHdr := h, reqVdos := vdos, reqSop := sop, busyReq := .none, busyN := if q.busyReq == r then q.busyN else 0 }).send p
    { vdmMsg sop h vdos .vdm with amsStart := true, amsEnd := true }
def State.vdmReqHdr (s : State) (p : PortId) (svid pos cmd : Nat) : Word := vdmHeader svid (s.port p).pd.rev3 pos 0 cmd

/-! ### Discovery (R135–R140) -/

/-- Rally is enabled for the port (R157). -/
def State.rallyOn (s : State) (p : PortId) : Bool := (BitVec.ofNat 32 (s.param (0x9000 + p.val / 32))).getLsbD (p.val % 32)

/-- The next request of SOP discovery is sent: only in READY or READY_EPR at revision 3.x with nothing outstanding (R140). -/
def State.sopNext (s : State) (p : PortId) : State :=
  let q := s.port p
  if ! q.pol.isReady || ! q.pd.rev3 || s.param 0x8000 != 1 || q.rally.req != .none || q.rally.busyReq != .none then s
  else match q.rally.step with
    | .waitCable | .identity =>
      if q.pol.cable == .unknown then s
      else (s.modRally p fun r => { r with step := .identity }).sendVdm p .sop .sopIdentity (s.vdmReqHdr p 0xFF00 0 1) []
    | .svids _ => s.sendVdm p .sop .sopSvids (s.vdmReqHdr p 0xFF00 0 2) []
    | .modes => s.sendVdm p .sop .sopModes (s.vdmReqHdr p rallySvid 0 3) []
    | .enter =>
      if s.rallyOn p then s.sendVdm p .sop .sopEnter (s.vdmReqHdr p rallySvid q.rally.objPos 4) []
      else s.modRally p fun r => { r with step := .ended }
    | _ => s

/-- A Discover Identity attempt to SOP' (R135, R139): in READY or READY_EPR, while the device sources VCONN. It counts once sent,
and nDiscoverIdentityCount of them are sent at most. -/
def State.discAttempt (s : State) (p : PortId) : State :=
  let q := s.port p
  if q.pol.discRun && (q.pol.isReady || q.pol.eprEntry == 3) && q.path.vconn != 0 && q.rally.req == .none
      && decide (q.pol.discTries < s.param 0x7001) then
    s.sendVdm p .sopP .cableIdentity (s.vdmReqHdr p 0xFF00 0 1) []
  else s

/-! ### VCONN_Swap of the device (R121, R127) -/

/-- A VCONN_Swap of the device or the partner is under way, or waits to be sent. -/
def Pol.swapBusy (q : Pol) : Bool :=
  q.state == .vconnSwap || q.expect == .swapReply || q.expect == .swapPsRdy || q.swapDue
    || (q.flight.toList ++ q.outq).any (·.kind == .vconnSwap)
/-- VCONN_Swap is sent: to take VCONN, or to give it away. -/
def State.swapSend (s : State) (p : PortId) (take host : Bool) : State :=
  (s.modPol p fun q => { q with swapTake := take, swapHost := host, swapDue := false }).send p (ctlMsg .vconnSwap .swapReply).ams

/-! ### EPR entry (R111) -/

def eprModeWord (action data : Nat) : Word := packWord [(action, 24, 8), (data, 16, 8)]
/-- Enter Failed with the reason of the standard (PRESUMED numbers, log entry 7). -/
def State.eprFail (s : State) (p : PortId) (reason : Nat) : State :=
  (s.modPol p fun q => { q with eprEntry := 0 }).send p (objMsg .eprMode [eprModeWord 4 reason] .none)
/-- The entry checks in their order; the first that fails decides the reply (R111, R139). -/
def State.eprCheck (s : State) (p : PortId) : State :=
  let q := s.port p
  if ! q.pol.rdo.getLsbD 22 then s.eprFail p 3
  else if ! (s.buildOffer p).eprCap then s.eprFail p 4
  else if q.path.vconn == 0 then
    if q.pol.eprEntry == 2 then s.eprFail p 2
    else (s.modPol p fun r => { r with eprEntry := 2 }).swapSend p true false
  else match q.pol.cable with
    | .cableEpr => (s.modPol p fun r => { r with eprEntry := 4 }).send p (objMsg .eprMode [eprModeWord 3 0] .enterOk)
    | .unknown =>
      if q.pol.eprEntry == 3 then s
      else (s.modPol p fun r => { r with eprEntry := 3, eprTries := 0, discTries := if r.discRun then r.discTries else 0, discRun := true }).discAttempt p
    | _ => s.eprFail p 1

/-! ### READY -/

/-- An offer that is due is sent in READY, in SEND_CAPS, or in NEGOTIATE with no contract and nothing awaited, once no sequence is in
progress (R97, R102, R108, R127). -/
def State.offerDue (s : State) (p : PortId) : State :=
  let q := s.port p
  if q.pol.newOffer && q.txFree && ! s.seqBusy p (ctlMsg .sourceCaps .request) && (q.pol.isReady || q.pol.state == .sendCaps || (q.pol.state == .negotiate && ! q.pol.hasContract && q.pol.expect == .none)) then
    s.sendOffer p q.pol.epr false
  else s
/-- A new offer falls due and is sent at the next dispatch (R102, R131, R137, R223). -/
def State.offerChange (s : State) (p : PortId) : State :=
  let st := (s.port p).pol.state
  if st == .detached || st == .errorRecovery then s
  else (s.modPol p fun q => { q with newOffer := true }).offerDue p

/-! ### Notices and curtailments (R150–R155) -/

/-- A VDM event is posted with the header of the VDM concerned, and that VDM is passed; where no VDM of the partner is concerned it
carries `h`, the header of the device's own (R143). -/
def State.vdmTell (s : State) (p : PortId) (sub : Nat) (m : Option Msg) (h : Word) : State :=
  match m with
  | some x => (s.postEvt (some p) (.vdm sub x.sop ((wordsLE x.data).headD 0#32))).passMsg p x
  | none => s.postEvt (some p) (.vdm sub .sop h)

/-- Exit Mode is sent and Rally mode ends (R151). -/
def State.rallyExit (s : State) (p : PortId) : State :=
  if (s.port p).rally.active then
    (s.rallyEnd p true).sendVdm p .sop .sopExit (s.vdmReqHdr p rallySvid (s.port p).rally.objPos 5) []
  else s

/-- Sum of the counted allocations of every port (R210). -/
def State.allocSum (s : State) : Nat := (s.ports.toList.map fun q => q.sb.alloc).sum
/-- STATE of R150: 0 OPEN, 1 TIGHT, 2 SHED. -/
def State.rallyState (s : State) : Nat :=
  if s.board.emerg != 0 then 2 else if s.allocSum * 100 ≥ s.param 0x9007 * s.board.budgetNow then 1 else 0
def noticeVdo (st seq period alloc credit : Nat) : Word :=
  packWord [(st, 30, 2), (seq, 26, 4), (period, 20, 6), (alloc, 10, 10), (credit, 0, 10)]
def curtailVdo (st seq target : Nat) : Word := packWord [(st, 30, 2), (seq, 26, 4), (target, 10, 10)]

/-- Nothing of the device's VDMs is outstanding on the port. -/
def Rally.idle (r : Rally) : Bool := r.req == .none && r.busyReq == .none

/-- The NOTICE differs from the last one: STATE, ALLOC by 4 units or more, or CREDIT has changed (R150). -/
def State.noticeCheck (s : State) (p : PortId) : State :=
  let q := s.port p
  if q.rally.active && (s.rallyState != q.rally.noticeState || q.sb.credit != q.rally.noticeCredit
      || q.sb.alloc + 4 ≤ q.rally.noticeAlloc || q.rally.noticeAlloc + 4 ≤ q.sb.alloc) then
    s.modRally p fun r => { r with noticeDue := true }
  else s
/-- No two NOTICEs go less than 1 s apart, but a change of STATE to SHED is sent at once (R150). -/
def State.noticeMay (s : State) (p : PortId) : Bool :=
  let r := (s.port p).rally
  r.noticeAt.all (fun t => decide (t + secCycles 1 ≤ s.aon)) || (s.rallyState == 2 && r.noticeState != 2)
/-- A NOTICE that is due is sent once no exchange is outstanding (R150, R156); where Rally has been disabled for the port, Rally mode is
left instead (R151, R157). -/
def State.noticeNext (s : State) (p : PortId) : State :=
  let q := s.port p
  if q.rally.active && q.rally.noticeDue && q.rally.idle && q.pol.isReady && s.noticeMay p then
    if ! s.rallyOn p then s.rallyExit p
    else
      let seq := (q.rally.seq + 1) % 16
      let st := s.rallyState
      (s.modRally p fun r =>
        { r with seq := seq, noticeDue := false, noticeAt := some s.aon, noticeState := st, noticeAlloc := q.sb.alloc, noticeCredit := q.sb.credit }).sendVdm
          p .sop .notice (s.vdmReqHdr p rallySvid q.rally.objPos 0x10) [noticeVdo st seq (s.param 0x9006) q.sb.alloc q.sb.credit]
  else s
/-- CURTAIL or RESTORE goes out once no exchange of the port is outstanding (R127, R153, R156). -/
def State.owedNext (s : State) (p : PortId) : State :=
  let r := (s.port p).rally
  if ! r.idle then s
  else match r.owed, r.curtail with
    | .curtail, some target =>
      let seq := (r.seq + 1) % 16
      (s.modRally p fun r => { r with seq := seq, owed := .none }).sendVdm p .sop .curtail (s.vdmReqHdr p rallySvid r.objPos 0x11)
        [curtailVdo s.rallyState seq target]
    | .restore, _ => (s.modRally p fun r => { r with owed := .none }).sendVdm p .sop .restore (s.vdmReqHdr p rallySvid r.objPos 0x12) []
    | _, _ => s
/-- CURTAIL with a target; a curtailment that already stands keeps the allocation from before it, and its HOLD runs on from its beginning,
by the pledge then in effect (R153, R155; a pledge that changes HOLD under a curtailment: DESIGN CHOICE, log entry 66). -/
def State.curtailSend (s : State) (p : PortId) (target pre : Nat) : State :=
  (s.modPort p fun q =>
    let r := q.rally
    let r1 := if r.curtail.isSome then r else { r with curtAt := s.aon, curtHold := r.holdMin, preAlloc := pre }
    { q with rally := { r1 with curtail := some target, curtConf := false, ladder := false, owed := .curtail },
             sb := { q.sb with curRun := 0 } }).owedNext p
/-- RESTORE ends a curtailment (R153). -/
def State.restoreSend (s : State) (p : PortId) : State :=
  (s.modRally p fun r => { r with curtail := none, curtConf := false, ladder := false, owed := .restore }).owedNext p

/-! ### Discovery and what goes on in READY -/

/-- Cable discovery ends with a class (R137): CABLE_IDENTIFIED, a new offer where the cable limit is not the one that the last offer was built with, the waiting
descriptor and the EPR entry checks. -/
def State.cableEnd (s : State) (p : PortId) (c : CableClass) (vid pid : BitVec 16) (vdo : Word) : State :=
  let s1 := (s.modPol p fun q => { q with cable := c, cableVid := vid, cablePid := pid, cableVdo := vdo, discRun := false }).postEvt
    (some p) (.cableIdentified c vid pid vdo)
  let s2 := s1.finishPort p .cable .ok (bytesLE 1 c.ctorIdx)
  let s3 := if (s2.port p).pol.eprEntry == 3 then s2.eprCheck p else s2
  (if (s.port p).pol.offLimit != cableLimit c then s3.offerChange p else s3).sopNext p

/-- Cable discovery begins, once the device sources VCONN, or its class is given at once (R135, R157). -/
def State.startCable (s : State) (p : PortId) : State :=
  let q := s.port p
  if q.pol.cable != .unknown || q.pol.discRun || ! q.pol.isReady then s
  else match q.cc.partner with
    | .sink => s.cableEnd p .noEmarker 0#16 0#16 0#32
    | .sinkPoweredCable =>
      if s.param 0x7000 == 0 then s.cableEnd p .silent 0#16 0#16 0#32
      else if q.path.vconn == 0 then s
      else (s.modPol p fun r => { r with discRun := true, discTries := 0 }).discAttempt p
    | _ => s

/-- The device's own VCONN_Swap that gave way to a sequence of the partner is looked at again after it: it goes out while the need for it
lasts; otherwise the EPR entry that waited for VCONN goes on, and a host's request is complete (R111, R124; the completion: DESIGN
CHOICE, log entry 66). -/
def State.swapAgain (s : State) (p : PortId) : State :=
  let q := s.port p
  if ! q.pol.swapDue || ! q.pol.isReady then s
  else if q.pol.swapTake == (q.path.vconn == 0) then s.swapSend p q.pol.swapTake q.pol.swapHost
  else
    let s1 := (s.modPol p fun q => { q with swapDue := false, swapTake := false, swapHost := false, swapTries := 0 }).finishPort p .swap .ok []
    if q.pol.eprEntry == 2 then s1.eprCheck p else s1
/-- A sequence or a message has been dealt with: what the policy has waiting goes on, as far as its state lets it (R97, R102, R124, R127,
R135, R140, R150, R156). -/
def State.goNext (s : State) (p : PortId) : State :=
  let s1 := ((s.swapAgain p).sendNext p).offerDue p
  (((s1.startCable p).owedNext p).sopNext p).noticeNext p
/-- The policy is in READY or READY_EPR again: what waits for that goes on (R97, R127, R135, R140). -/
def State.enterReady (s : State) (p : PortId) : State :=
  (s.modPol p fun q => { q with state := q.readyState, expect := .none }).goNext p
/-- A sequence of the device's own has ended and moves the policy to no other state (R97, R127). -/
def State.seqEnds (s : State) (p : PortId) : State := (s.modPol p fun q => { q with expect := .none }).goNext p
/-- The reply Not_Supported; at revision 2.0 nothing is sent, and what waited goes on (R126, R156). -/
def State.notSupported (s : State) (p : PortId) : State :=
  if (s.port p).pd.rev3 then s.sendCtl p .notSupported .none else s.goNext p

/-- The swap under way ends: back to the READY state it left; its descriptor completes; EPR entry goes on (R97, R111, R120). -/
def State.swapDone (s : State) (p : PortId) (c : CplCode) : State :=
  let q := (s.port p).pol
  let s1 := (s.modPol p fun q => { q with state := if q.state == .vconnSwap then q.back else q.state, swapTake := false,
                                          swapHost := false, swapTries := 0, expect := .none }).finishPort p .swap c []
  let s2 := if q.eprEntry == 2 then (if c == .ok then s1.eprCheck p else s1.eprFail p 2) else s1
  if (s2.port p).pol.isReady then s2.goNext p else s2

/-- The ladder goes on from its first step for an allocation that a curtailment no longer enforces: a new offer, and GRACE later the hard
limit (R153, R154). -/
def State.ladderOn (s : State) (p : PortId) : State :=
  (s.modRally p fun r => { r with curtail := none, curtConf := false, owed := if r.owed == .curtail then .none else r.owed, ladder := (s.port p).sb.decided.isNone }).offerChange p

/-- A pledge is broken (R154): credit 0 for BROKEN_HOLDOFF, PLEDGE_BROKEN, and the ladder from its first step. -/
def State.pledgeBroken (s : State) (p : PortId) (m : Option Msg) : State :=
  ((s.modPort p fun q => { q with rally := { q.rally with heldOff := true, noticeDue := true }, sb := { q.sb with credit := 0 } }).vdmTell
    p 6 m (s.vdmReqHdr p rallySvid (s.port p).rally.objPos 0x11)).ladderOn p

/-- A NOTICE is treated as NAK: the pledge falls to 0, and the third in a row ends Rally mode; `m` is the NAK or the ACK with a void
pledge, which the PLEDGE event concerns (R143, R147, R151). -/
def State.noticeNak (s : State) (p : PortId) (counts : Bool) (m : Option Msg) : State :=
  let r := (s.port p).rally
  let s1 := s.modRally p fun r => { r with pledgeNext := some (0, 0, 0), pledgeMsg := m, nakRun := if counts then r.nakRun + 1 else 0 }
  if counts && r.nakRun + 1 ≥ 3 then s1.rallyExit p else s1

/-- Step 3 of SOP discovery ends: on to Discover Modes where SVID 0x3C5D has been listed and Rally is enabled (R140, R143). After a NAK
what the responses before it listed counts (DEDUCED, log entry 66). -/
def State.svidsEnd (s : State) (p : PortId) (m : Option Msg) : State :=
  (s.modRally p fun x => { x with step := if x.sawRally && s.rallyOn p then .modes else .ended }).vdmTell p 2 m (s.port p).rally.reqHdr

/-- What a request of the device that is treated as NAK leads to (R134–R140, R147, R151, R154): `m` is the NAK, none where no response
came. -/
def State.vdmNak (s : State) (p : PortId) (r : VdmReq) (m : Option Msg) : State :=
  let q := (s.port p).pol
  match r with
  | .cableIdentity =>
    if m.isSome then s.cableEnd p .silent 0#16 0#16 0#32
    else
      let s1 := if q.eprEntry == 3 && q.eprTries ≥ 3 then s.eprFail p 1 else s
      if q.discTries ≥ s.param 0x7001 then s1.cableEnd p .silent 0#16 0#16 0#32 else s1
  | .sopSvids => s.svidsEnd p m
  | .sopIdentity | .sopModes | .sopEnter => s.modRally p fun q => { q with step := .ended }
  | .notice => s.noticeNak p m.isNone m
  | .curtail => s.pledgeBroken p m
  | .hostVdm => s.finishPort p .vdmReply (if m.isNone then .timeout else .partnerReject) []
  | _ => s

/-! ### The partner's replies to what the device sent (R107–R127, R336) -/

def replyCode : MsgKind → Option CplCode
  | .reject => some .partnerReject | .wait => some .partnerWait | .notSupported => some .notSupportedByPartner | _ => none

/-- A reply the policy awaits; `none` when the message answers nothing (R116, R121, R124, R127, R336). -/
def State.policyReply (s : State) (p : PortId) (m : Msg) : State :=
  let q := (s.port p).pol
  let done := s.modPol p fun q => { q with expect := .none }
  if m.kind == .notSupported && (s.port p).rally.req == .hostVdm && m.sop == (s.port p).rally.reqSop && q.flight.isNone then
    ((s.modRally p fun r => { r with req := .none, busyN := 0 }).finishPort p .vdmReply .notSupportedByPartner []).goNext p
  else match q.expect with
  | .acceptSoft => if m.kind == .accept && m.sop == .sop then done.sendOffer p q.epr false else s
  | .hostReply =>
    match replyCode m.kind with
    | some c => (done.finishPort p .reply c []).goNext p
    | none => (done.replyToHost p .reply m).goNext p
  | .swapReply =>
    if m.sop != .sop then s
    else match m.kind with
      | .accept =>
        let s1 := done.modPol p fun r => { r with back := r.readyState, state := .vconnSwap, expect := if r.swapTake then .none else .swapPsRdy }
        if q.swapTake then s1.post p (plainPost .vconnOn) else s1
      | .wait =>
        if q.swapHost || q.eprEntry == 2 || q.swapTries ≥ 3 then done.swapDone p .partnerWait
        else done.modPol p fun r => { r with swapTries := r.swapTries + 1 }
      | .reject => (done.modPol p fun r => { r with vcIncapable := r.vcIncapable || ! r.swapTake }).swapDone p .partnerReject
      | .notSupported => (done.modPol p fun r => { r with vcIncapable := r.vcIncapable || ! r.swapTake }).swapDone p .notSupportedByPartner
      | _ => s
  | .swapPsRdy => if m.kind == .psRdy && m.sop == .sop then done.post p (plainPost .vconnOff) else s
  | .sinkCaps | .status =>
    if m.sop == .sop && (replyCode m.kind).isSome then done.goNext p else s
  | _ => s

end Sys2Proof.Machine
end

