-- ==== Sys2Proof/Machine/Watch.lean ====
section
/-! DEFINITION. Attach watch, orientation, attach and detach, driven lines, bootstrap ports and the comparator test
(R30–R60, R513). -/
namespace Sys2Proof.Machine

/-- The pairing of two line codes, with its orientation: true when CC2 is the active line (R34, R38). -/
def pairing (a b : LineCode) : Partner × Bool :=
  match a, b with
  | .driven, _ => (.ccDriven, false) | _, .driven => (.ccDriven, false)
  | .rd, .opn => (.sink, false) | .opn, .rd => (.sink, true)
  | .rd, .ra => (.sinkPoweredCable, false) | .ra, .rd => (.sinkPoweredCable, true)
  | .ra, .opn => (.cableOnly, false) | .opn, .ra => (.cableOnly, false)
  | .rd, .rd => (.debugAcc, false) | .ra, .ra => (.audioAcc, false)
  | .opn, .opn => (.none, false)
/-- The pairings that attach (R34). -/
def Partner.attaches : Partner → Bool
  | .sink | .sinkPoweredCable | .debugAcc | .audioAcc => true
  | _ => false
def Partner.isSink : Partner → Bool
  | .sink | .sinkPoweredCable => true
  | _ => false
def Partner.accessory : Partner → Bool
  | .debugAcc | .audioAcc => true
  | _ => false
def LineCode.open : LineCode → Bool
  | .opn | .driven => true
  | _ => false

/-- The sample is shown in PP_CC_STATUS and PP_CC_HIST (R56). -/
def Cc.record (c : Cc) (l1 l2 : LineCode) : Cc :=
  { c with line1 := l1, line2 := l2, hist := ((l1, l2) :: c.hist).take 8 }

/-- A wake source is recorded in DEEP; the request of a filter that has latched takes an IDLE device to RUN (R56, R401, R404). -/
def State.wakeReq (s : State) (k : Nat) : State :=
  match s.pwr.dev with
  | .deep => s.modPwr fun w => { w with wake := setBit w.wake k true }
  | .idle => if k == 0 then s.toRun else s
  | .run => s

/-- The attach of an accessory or a sink after tCCDebounce with VBUS cleared (R36, R41, R42, R179). -/
def State.attach (s : State) (p : PortId) : State :=
  match (s.port p).cc.latched with
  | none => s
  | some (k, o) =>
    if s.tileDeaf p then s
    else
      let s1 := s.modPort p fun q =>
        { q with cc := { q.cc with state := .attached, partner := k, cc2 := o, rpHold := false, rp := .dflt, debounced := false,
                                   attachDue := false, detachRun := 0, filt := [], latched := none, attachPend := false, awaitDue := false },
                 pd := { q.pd with vth := 25 } }
      if k.accessory then
        (s1.postEvt (some p) (.attach k o .vsafe5v)).modCnt p fun c => { c with attach := c.attach.inc32 }
      else
        let r := (s.port p).retry
        let s2 := s1.modRetry p fun r => { r with hold := false }
        if r.lock != .none then
          (s2.postEvt (some p) (.attach k o .lockedOut)).modCnt p fun c => { c with attach := c.attach.inc32 }
        else if r.due.isSome then s2.modCc p fun c => { c with awaitDue := true, attachPend := true }
        else (s2.modCc p fun c => { c with attachPend := true }).post p (plainPost .attach)

/-- The retry hold of R179 starts as a retry state stands at the end of an attach. -/
def Retry.holdNow (r : Retry) : Retry := { r with hold := r.f != 0 || r.due.isSome || r.lock == .retryExhausted, probing := false }
/-- A transition of ST01 or ST02 is between its SET_TARGET and its final SIGNAL (R183). -/
def Path.midMove (q : Path) : Bool := q.run && q.moved
/-- Detach is declared: table abandoned, path forced safe, policy abandoned; DETACH waits for vSafe0V and tells whether a transition was
under way (R43, R183, R513). -/
def State.detach (s : State) (p : PortId) (mid : Bool) : State :=
  ((s.portForce p).attachEnds p).modPort p fun q =>
    { q with cc := { q.cc with state := .detaching, rp := .off, detachRun := 0, awaitDue := false, attachPend := false },
             path := { q.path with safeHeld := false, detachMid := some mid }, retry := q.retry.holdNow }

/-- A comparator is declared stuck: port safe with Rp removed, LOCKOUT posted, referee told (R60, R513). The cause replaces that of a
lockout already standing (DESIGN CHOICE, log entry 19). -/
def State.cmpStuck (s : State) (p : PortId) (idx : Nat) : State :=
  let s1 := ((s.portSafe p).endContract p .lockout).attachEnds p
  let s2 := s1.modPort p fun q =>
    { q with cc := { q.cc with state := .lockedOut, rp := .off, rpHold := false, filt := [], latched := none, cmpRetest := false,
                               cmpStuck := q.cc.cmpStuck.filter (· != idx) ++ [idx], cmpFails := q.cc.cmpFails.filter (· != idx) },
             retry := { q.retry with lock := .cmpStuck, due := none, probing := false } }
  (((s2.postEvt (some p) (.lockout .cmpStuck idx)).queueFault p 4 2#32).refRecord 0x0D (some (tileOf p)) (some p))

/-! ### The rows -/

/-- The filter takes one pairing and latches at N of M, which ends Rp hold (R39, R40). -/
def State.watchPairing (s : State) (p : PortId) (l1 l2 : LineCode) : State :=
  let k := pairing l1 l2
  let g := s.tileCfg (tileOf p)
  let s1 := s.modCc p fun c =>
    { c.record l1 l2 with partner := k.1, cc2 := if k.1.attaches then k.2 else c.cc2, filt := (k :: c.filt).take g.filtM }
  if k.1.attaches then
    let s2 := s1.modCc p fun c => { c with state := .rpHold, rpHold := true, rp := .dflt }
    if (s2.port p).cc.filt.count k ≥ g.filtN then
      (s2.modCc p fun c => { c with state := .attachWait, rpHold := false, latched := some k, nonAttach := 0, differ := 0, openRun := 0,
                                    debounced := false, attachDue := false }).wakeReq 0
    else s2
  else s1

/-- WATCH_SAMPLE (R31, R39, R40, R45): one watch sample of a port that is watched; a port whose attach has ended and whose
VBUS is down returns to watch at this tick. -/
def execWatchSample (p : Fin 192) (l1 l2 : LineCode) (s : State) : Out :=
  let q := s.port p
  match q.cc.state with
  | .watch | .rpHold => if q.pol.enabled then ok (s.watchPairing p l1 l2) else ok s
  | .detaching =>
    if q.path.detachMid.isNone && ! q.path.dis && ! q.path.run then
      let s1 := s.modPort p Port.toWatch
      if q.pol.enabled then ok (s1.watchPairing p l1 l2) else ok s1
    else ok s
  | .lockedOut =>
    if q.retry.lock == .none then
      let s1 := s.modPort p Port.toWatch
      if q.pol.enabled then ok (s1.watchPairing p l1 l2) else ok s1
    else ok s
  | .attached =>
    if s.pwr.dev == .deep && q.cc.partner.accessory then
      let n := if l1.open || l2.open then q.cc.detachRun + 1 else 0
      let s1 := s.modCc p fun c => { c.record l1 l2 with detachRun := n }
      if n ≥ 2 then ok (s1.detach p (s.port p).path.midMove) else ok s1
    else ok s
  | _ => ok s

/-- RP_HOLD_TIMEOUT (R40). -/
def execRpHoldTimeout (p : Fin 192) (s : State) : Out :=
  if (s.port p).cc.state == .rpHold then ok (s.modCc p fun c => { c with state := .watch, rpHold := false, rp := .off }) else ok s

/-- A sample meets the detach condition of R43 for the pairing that an attach-wait has latched (R48). -/
def Cc.opens (c : Cc) (l1 l2 : LineCode) : Bool :=
  match c.latched with
  | some (k, o) => if k.accessory then l1.open || l2.open else if o then l2.open else l1.open
  | none => false
/-- One sample in attach-wait: four consecutive samples of one kind end it or restart it, and PARTNER shows what the sample reads
(R37, R41, R47, R56). -/
def State.waitSample (s : State) (p : PortId) (l1 l2 : LineCode) : State :=
  let c := (s.port p).cc
  let k := pairing l1 l2
  let s1 := s.modCc p fun c =>
    { c.record l1 l2 with partner := k.1, cc2 := if k.1.attaches then k.2 else c.cc2, openRun := if c.opens l1 l2 then c.openRun + 1 else 0 }
  if some k == c.latched then s1.modCc p fun c => { c with nonAttach := 0, differ := 0 }
  else if k.1.attaches then
    let n := if pairing c.line1 c.line2 == k then c.differ + 1 else 1
    if n ≥ 4 then
      s1.modCc p fun c => { c with latched := some k, differ := 0, nonAttach := 0, openRun := 0, debounced := false, attachDue := false }
    else s1.modCc p fun c => { c with differ := n, nonAttach := 0 }
  else if c.nonAttach + 1 ≥ 4 then (s1.modPort p Port.toWatch).modCc p fun c => { c with partner := k.1 }
  else s1.modCc p fun c => { c with nonAttach := c.nonAttach + 1, differ := 0 }
/-- A port in attach-wait attaches once tCCDebounce is complete and VBUS down, unless its latest sample reads a driven line or its
tile is not up (R41, R47). -/
def State.attachIfDue (s : State) (p : PortId) : State :=
  let c := (s.port p).cc
  if c.state == .attachWait && c.attachDue && c.line1 != .driven && c.line2 != .driven then s.attach p else s

/-- ATTACH_WAIT_SAMPLE (R41). -/
def execAttachWaitSample (p : Fin 192) (l1 l2 : LineCode) (s : State) : Out :=
  if (s.port p).cc.state == .attachWait then ok ((s.waitSample p l1 l2).attachIfDue p) else ok s

/-- VBUS is at or below 0.8 V by the main converter and by the window comparator (R41). -/
def vbusDown (vb : Nat) (vs0 : Bool) : Bool := decide (vb ≤ 800) && vs0
/-- CC_DEBOUNCE_DONE (R41, R48): the sample at which tCCDebounce ends is taken first. The fourth in a row that meets the detach
condition takes the port to watch; a return to watch or a restart of the debounce wins too. With VBUS at or below 0.8 V the port
attaches, otherwise it stays in attach-wait. -/
def execCcDebounceDone (p : Fin 192) (l1 l2 : LineCode) (vb : Nat) (vs0 : Bool) (s : State) : Out :=
  if (s.port p).cc.state == .attachWait then
    let s1 := s.waitSample p l1 l2
    let c := (s.port p).cc
    if c.opens l1 l2 && decide (c.openRun + 1 ≥ 4) then ok ((s1.modPort p Port.toWatch).modCc p fun c => { c with partner := (pairing l1 l2).1 })
    else if (s1.port p).cc.state == .attachWait && (s1.port p).cc.latched == (s.port p).cc.latched then
      ok ((s1.modCc p fun c => { c with debounced := true, attachDue := vbusDown vb vs0 }).attachIfDue p)
    else ok s1
  else ok s

/-- ATTACH_VBUS_CLEARED (R41). -/
def execAttachVbusCleared (p : Fin 192) (vb : Nat) (vs0 : Bool) (s : State) : Out :=
  if (s.port p).cc.state == .attachWait && (s.port p).cc.debounced && vbusDown vb vs0 then
    ok ((s.modCc p fun c => { c with attachDue := true }).attachIfDue p)
  else ok s

/-- The Rp level in force on the active line: SinkTxNG is the 1.5 A level (R43, R69). -/
def Cc.rpNow (c : Cc) : RpLevel := if c.rpNg then .a15 else c.rp
/-- Detach threshold of an Rp level, mV (R43). -/
def RpLevel.openMv : RpLevel → Nat
  | .a30 => 2600
  | _ => 1600
/-- Line code of a line of an attached port: OPEN from the detach threshold of the level in force (R33, R43, R56; for 3.0 A the
threshold in place of R33's 1.6 V is DEDUCED, log entry 19). -/
def lineCode (thr mv : Nat) : LineCode := if mv ≥ thr then .opn else if mv < 200 then .ra else .rd
/-- The Rp level a partner advertises to a BOOT_SINK, by the sink thresholds on the active line (R54). -/
def sinkLevel (mv : Nat) : RpLevel := if mv ≥ 1230 then .a30 else if mv ≥ 660 then .a15 else .dflt

/-- DETACH_SAMPLE (R43, R44, R54, R184): four consecutive counted samples at or above the threshold of the Rp level in force declare
detach; a trip in the same cycle is recorded first. Of a BOOT_SINK the sample shows the partner's level. An accessory in DEEP is
monitored by watch samples alone (R36, R45). -/
def execDetachSample (p : Fin 192) (mv1 mv2 : Nat) (counted : Bool) (also_ : List Tripping) (s : State) : Out :=
  let q := s.port p
  if s.pwr.dev == .deep && q.cc.partner.accessory then ok s
  else if q.cc.state == .bootSink then ok (s.modCc p fun c => { c with rp := sinkLevel (if c.cc2 then mv2 else mv1) })
  else if q.cc.state == .attached then
    let thr := q.cc.rpNow.openMv
    let s1 := s.modCc p fun c => c.record (lineCode thr mv1) (lineCode thr mv2)
    if counted && ! q.pd.txActive && ! q.pd.gcActive then
      let isOver := if q.cc.partner.accessory then decide (mv1 ≥ thr) || decide (mv2 ≥ thr)
        else if q.cc.cc2 then decide (mv2 ≥ thr) else decide (mv1 ≥ thr)
      let n := if isOver then q.cc.detachRun + 1 else 0
      if n ≥ 4 then ok ((s1.tripCycle p also_).detach p q.path.midMove) else ok (s1.modCc p fun c => { c with detachRun := n })
    else ok s1
  else ok s

/-- CC_OVERVOLT (R46, R513): Rp and VCONN off, a port carrying power made safe, OVERVOLT CC_LINE posted, the port held
unattached; the retry hold of R179 runs as after a detach. A bootstrap state and a lockout stand (DESIGN CHOICE, log entry 19). -/
def execCcOvervolt (p : Fin 192) (line2 : Bool) (mv : Nat) (s : State) : Out :=
  if mv ≤ 5500 then ok s else
  let line := if line2 then 2 else 1
  let st := (s.port p).cc.state
  let boot := st == .bootSink || st == .bootRd
  let s0 := if (s.port p).path.gate || (s.port p).path.vconn != 0 || (s.port p).path.run then s.portSafe p else s
  let s1 := s0.postEvt (some p) (.overvolt (some line) (mv / 20))
  let s2 := ((s1.queueFault p 8 (BitVec.ofNat 32 line)).endContract p .ccOvervolt)
  let s3 := if boot then s2
    else (s2.attachEnds p).modRetry p fun r => if st == .attached then r.holdNow else r
  ok (s3.modCc p fun c =>
    { c with rp := if boot then c.rp else .off, rpHold := false, filt := [], latched := none, debounced := false, attachDue := false,
             attachPend := boot && c.attachPend, awaitDue := false, ov1 := c.ov1 || ! line2, ov2 := c.ov2 || line2, ovAt := s.aon,
             state := match c.state with
               | .bootSink => .bootSink | .bootRd => .bootRd | .lockedOut => .lockedOut | _ => .ccHoldOff })

/-- CC_HOLD_OFF_END (R46): the lines have stayed below 5.5 V for 1 s. -/
def execCcHoldOffEnd (p : Fin 192) (s : State) : Out :=
  if s.aon - (s.port p).cc.ovAt < secCycles 1 then ok s else
  let s1 := s.modCc p fun c => { c with ov1 := false, ov2 := false }
  if (s.port p).cc.state == .ccHoldOff then ok (s1.modPort p Port.toWatch) else ok s1

/-- CC_COMPARATOR_TEST (R58, R60): two consecutive failures of one comparator's test declare it stuck; the lockout lifts once every
comparator declared stuck has passed a test that a PORT_ENABLE asked for; what the referee or a read-back found of a comparator that R58
does not test is lifted by any such test (DEDUCED, log entry 33). -/
def execCcComparatorTest (p : Fin 192) (idx : Nat) (pass : Bool) (s : State) : Out :=
  let q := s.port p
  if pass then
    let owed := if q.cc.cmpRetest then q.cc.cmpStuck.filter (fun k => k != idx && decide (k < 6)) else q.cc.cmpStuck
    let lift := q.retry.lock == .cmpStuck && q.cc.cmpRetest && owed.isEmpty
    ok (s.modPort p fun q =>
      { q with cc := { q.cc with cmpFails := q.cc.cmpFails.filter (· != idx), cmpStuck := owed, cmpRetest := q.cc.cmpRetest && ! lift },
               retry := { q.retry with lock := if lift then .none else q.retry.lock } })
  else if ! q.cc.cmpFails.contains idx then ok (s.modCc p fun c => { c with cmpFails := c.cmpFails ++ [idx] })
  else if q.retry.lock == .cmpStuck && q.cc.cmpStuck.contains idx && ! q.cc.cmpRetest then ok s
  else ok (s.cmpStuck p idx)

/-- ATTACH of a BOOT_SINK is posted; no attach table runs, and the outcome byte is VSAFE5V (DESIGN CHOICE, log entry 19). -/
def State.bootAttach (s : State) (p : PortId) : State :=
  ((s.postEvt (some p) (.attach .bootSink (s.port p).cc.cc2 .vsafe5v)).modCnt p fun c => { c with attach := c.attach.inc32 }).modCc p
    fun c => { c with attachPend := false }
/-- BOOT_SINK_ATTACH (R53, R54): ATTACH is posted once the hub is running. -/
def execBootSinkAttach (p : Fin 192) (line2 : Bool) (mv : Nat) (s : State) : Out :=
  if (s.port p).cc.state == .bootRd then
    let s1 := s.modCc p fun c => { c with state := .bootSink, partner := .bootSink, cc2 := line2, rp := sinkLevel mv, attachPend := true }
    if s.pwr.domUp then ok (s1.bootAttach p) else ok s1
  else ok s

/-- BOOT_RD_RELEASE (R53, R55): once the tile has been released from reset Rd is removed and source watch begins, or a recorded disable
takes effect. -/
def execBootRdRelease (p : Fin 192) (s : State) : Out :=
  if (s.port p).cc.state == .bootRd && (s.tile (tileOf p)).released then
    let off := (s.port p).cc.disablePend
    let s1 := s.modPort p Port.toWatch
    if off then ok (s1.modSb p fun b => { b with state := .disabled, alloc := 0 }) else ok s1
  else ok s

/-- BOOT_SINK_DETACH (R55): DETACH is posted; the port returns to watch once VBUS is down (R513). The open port then shows
VBUS, so the discharge of R180 is on. -/
def execBootSinkDetach (p : Fin 192) (s : State) : Out :=
  if (s.port p).cc.state == .bootSink then
    let s1 := ((s.calAbort p).postEvt (some p) (.detach false .bootSink)).queueFault p 2 0#32
    let off := (s.port p).cc.disablePend
    let s2 := s1.modPort p fun q =>
      { q with cc := { q.cc with state := .detaching, rp := .off }, path := { q.path with dis := true, disTrip := true, stuckTimer := true } }
    if off then ok (s2.modSb p fun b => { b with state := .disabled, alloc := 0 }) else ok s2
  else ok s

end Sys2Proof.Machine
end

