-- ==== Sys2Proof/Machine/PowerPath.lean ====
section
/-! DEFINITION. The power-path sequencer entry by entry, the breaker and the comparators, trips, retry, stuck switches and
the signals that reach the hub (R158–R184). -/
namespace Sys2Proof.Machine

/-! ### One entry (R158–R162) -/

/-- A table ends after an entry with END; HOLD_SAFE leaves the port safe-held (R162). -/
def State.endTable (s : State) (p : PortId) (e : BitVec 64) : State :=
  s.modPath p fun q => { q with run := false, waiting := false, moved := false, safeHeld := q.safeHeld || seHold e }
/-- The entry succeeds: END, or on to NEXT_OK (R159). -/
def State.stepOk (s : State) (p : PortId) (e : BitVec 64) : State :=
  if seEnd e then s.endTable p e else s.modPath p fun q => { q with waiting := false, entry := seOk e % 64 }
/-- The entry times out, or its close is refused: a trip, END, or on to NEXT_TO (R162). -/
def State.stepTo (s : State) (p : PortId) (e : BitVec 64) (c : TripCause) : State :=
  if seFault e then s.portTrip p c 0xFF
  else if seEnd e then s.endTable p e
  else s.modPath p fun q => { q with waiting := false, entry := seTo e % 64 }
/-- After the action the entry's wait starts; WAIT NONE succeeds at once (R158, R161). -/
def State.stepWait (s : State) (p : PortId) (e : BitVec 64) : State :=
  if seWait e == 0 then s.stepOk p e else s.modPath p fun q => { q with waiting := true }
/-- The port's sequencer stands at an entry with this ACTION that has not yet acted. -/
def State.atAction (s : State) (p : PortId) (act : Nat) : Bool :=
  (s.port p).path.run && ! (s.port p).path.waiting && seAct (s.stepEntryOf p) == act && ! s.tileDeaf p
/-- An entry acts through `f` and its wait starts. -/
def State.stepAct (s : State) (p : PortId) (act : Nat) (f : BitVec 64 → State) : Out :=
  if s.atAction p act then let e := s.stepEntryOf p; ok ((f e).stepWait p e) else ok s

/-! ### Posts -/

/-- POWER_PATH_POST (R167). -/
def execPowerPathPost (p : Fin 192) (r : Post) (s : State) : Out := ok (s.post p r)

/-- QUEUED_POST_START (R167): the running table has ended, and the queued post starts its table. -/
def execQueuedPostStart (p : Fin 192) (s : State) : Out :=
  match (s.port p).path.queued with
  | some r =>
    if (s.port p).path.run || s.tileDeaf p then ok s
    else ok ((s.modPath p fun q => { q with queued := none }).post p r)
  | none => ok s

/-! ### Actions (R160) -/

/-- ST_NOP (R160). -/
def execStNop (p : Fin 192) (s : State) : Out := s.stepAct p 0 fun _ => s

/-- The interlock of R164. -/
def State.mayClose (s : State) (p : PortId) (vb : Nat) (vs0 : Bool) : Bool :=
  let q := s.port p
  decide (vb ≤ 800) && vs0 && q.path.target == 5000 && q.retry.lock == .none

/-! A command of a table towards the unsafe side is discarded when `rival` says that another actor commands the same output towards
its safe state in the same tile clock cycle; the entry goes on to its wait (R15). -/

/-- ST_SET_GATE (R15, R160, R164): a refused close counts as a timeout, or trips INTERLOCK; a closed gate stays closed. -/
def execStSetGate (p : Fin 192) (vb : Nat) (vs0 rival : Bool) (s : State) : Out :=
  if s.atAction p 1 then
    let e := s.stepEntryOf p
    if seArg e == 0 then ok ((s.modPath p fun q => { q with gate := false }).stepWait p e)
    else if rival || (s.port p).path.gate then ok (s.stepWait p e)
    else if s.mayClose p vb vs0 then
      ok ((s.modPath p fun q => { q with gate := true, peak := 0 }).stepWait p e)
    else ok (s.stepTo p e .interlock)
  else ok s

/-- ST_SET_DIS (R15, R160). -/
def execStSetDis (p : Fin 192) (rival : Bool) (s : State) : Out :=
  s.stepAct p 2 fun e => if rival && seArg e == 0 then s else s.modPath p fun q => { q with dis := seArg e == 1, stuckTimer := q.stuckTimer && seArg e == 1 }

/-- The table whose transitions carry MID_TRANSITION (R183): ST01, ST02 and their overrides. -/
def movesVbus (n : Nat) : Bool := n == 1 || n == 2 || n == 17 || n == 18

/-- A slew starts from the target in force; one that is already at its end is done (R160, R161). -/
def Path.startSlew (q : Path) (mv : Nat) : Path := { q with fold := 0, slewTo := if q.target == mv then none else some mv }
/-- ST_SET_TARGET (R15, R160): a rival's 5 V at once stands against a slewed target. -/
def execStSetTarget (p : Fin 192) (rival : Bool) (s : State) : Out :=
  s.stepAct p 3 fun e => s.modPath p fun q =>
    let q1 := { q with moved := q.moved || movesVbus q.table }
    if rival then q1
    else match seArg e with
      | 0 => q1.startSlew q.post.mv
      | 1 => q1.startSlew (seThr e * 20)
      | 2 => q1.startSlew 5000
      | _ => { q1 with target := 5000, slewTo := none, fold := 0 }

/-- The Rp level an ARG of SET_RP names (R160). -/
def rpArg (arg : Nat) (post : RpLevel) : RpLevel :=
  match arg with
  | 0 => .off | 1 => .dflt | 2 => .a15 | 3 => .a30 | _ => post

/-- ST_SET_RP (R15, R160): Rp off in ST04 ends the attach (R169, R513); a rival's Rp off stands against any level. -/
def execStSetRp (p : Fin 192) (rival : Bool) (s : State) : Out :=
  s.stepAct p 4 fun e =>
    let q := s.port p
    if rival && seArg e != 0 then s else
    let s1 := s.modCc p fun c => { c with rp := rpArg (seArg e) q.path.post.rp, rpNg := false }
    if seArg e == 0 && (q.path.table == 4 || q.path.table == 20) then
      match q.cc.state with
      | .attached | .attachWait | .rpHold | .watch =>
        let st := q.pol.state
        let s2 := ((s1.endContract p .errorRecovery).attachEnds p).modPol p fun r =>
          { r with state := if st == .errorRecovery then .errorRecovery else r.state }
        s2.modCc p fun c => { c with state := .detaching, rpHold := false, filt := [], latched := none, attachPend := false, awaitDue := false }
      | _ => s1
    else s1

/-- ST_SET_VCONN (R15, R160, R176, R233): 0x3 acts only for a SINK_POWERED_CABLE whose tile's budget admits another 1 W; a line
that is on already stays on. -/
def execStSetVconn (p : Fin 192) (rival : Bool) (s : State) : Out :=
  s.stepAct p 5 fun e =>
    let q := s.port p
    if rival && seArg e != 0 then s else
    match seArg e with
    | 0 => s.modPath p fun q => { q with vconn := 0, vcFresh := false, vcPeak := 0 }
    | 3 =>
      if q.cc.partner == .sinkPoweredCable && ! q.path.vcLocked && q.path.vconn != vconnLine q.cc then
        if s.vcAdmits (tileOf p) then
          (s.modPath p fun r => { r with vconn := vconnLine q.cc, vcFresh := true, vcPeak := 0 }).modSb p fun b => { b with vcWait := false }
        else s.modSb p fun b => { b with vcWait := q.path.vconn == 0 }
      else s
    | n => if q.path.vcLocked then s else s.modPath p fun r => { r with vconn := n, vcFresh := true, vcPeak := 0 }

/-- A SIGNAL entry can still be reached from the entry a port's sequencer stands at. -/
def State.moreSignals (s : State) (p : PortId) : Bool :=
  let t := s.stepTable (s.port p).path.table
  (reach (seSucc t) (seSucc t (s.port p).path.entry) 64).any fun k => t[k]?.any (seAct · == 6)
/-- ST_SIGNAL (R163); MID_TRANSITION lasts to the final SIGNAL, behind which the table reaches no other (R183). -/
def execStSignal (p : Fin 192) (s : State) : Out :=
  s.stepAct p 6 fun e =>
    let s1 := s.modPath p fun q => { q with moved := q.moved && s.moreSignals p }
    match signalOf (seArg e) with
    | some g => s1.sigSend p g
    | none => s1

/-- ST_ARM_LIMIT (R160, R173): the breaker set and ILIM; a posted current gives way to a lower hard limit; regulation under PPS. -/
def execStArmLimit (p : Fin 192) (s : State) : Out :=
  s.stepAct p 7 fun e => s.modPath p fun q =>
    let lim := fun i => match q.hardLimit with | some h => min i h | none => i
    let q1 := { q with bset := seArg e / 4 }
    match seArg e % 4 with
    | 0 => { q1 with ilim := lim q.post.ma, regulate := false, fold := 0 }
    | 1 => { q1 with ilim := seThr e * 5, regulate := false, fold := 0 }
    | 2 => q1
    | _ => { q1 with ilim := lim q.post.ma, regulate := q.post.kind == .pps, regMin := q.post.minMv, fold := if q.post.kind == .pps then q.fold else 0 }

/-- ST_LOAD_WINDOW (R165). -/
def execStLoadWindow (p : Fin 192) (s : State) : Out :=
  s.stepAct p 8 fun e => s.modPath p fun q =>
    q.withWindow (match seArg e with | 0 => .steady | 1 => .span | _ => .off)

/-! ### Waits (R161, R162) -/

/-- The condition of an entry's wait holds (R161); TIME ends only by its timeout, and MSG_EVENT when the event itself comes. -/
def State.waitMet (s : State) (p : PortId) (e : BitVec 64) (w : WaitView) : Bool :=
  let q := s.port p
  let v := (w.vb[0]?).getD 0
  let m := margin q.path.target
  match seWait e with
  | 1 => decide (v < seThr e * 20) && (seThr e != 40 || w.vs0)
  | 2 => decide (v > seThr e * 20)
  | 3 => decide (4 ≤ w.vb.length) && (w.vb.take 4).all fun x => decide (q.path.target - m ≤ x) && decide (x ≤ q.path.target + m)
  | 4 => decide (w.ib < seThr e * 5)
  | 6 =>
    if seThr e == 0 then q.cc.line1.open && q.cc.line2.open
    else if seThr e == 1 then q.cc.state == .attachWait || q.cc.state == .attached
    else q.path.vconn != 0 && decide (4750 ≤ w.vc)
  | 8 => q.path.slewTo.isNone
  | _ => false
/-- STEP_WAIT_SUCCESS (R161): the entry goes on where its wait's condition holds. A port whose switch is open and whose VBUS is seen
at or below 0.80 V by both paths is at vSafe0V, and its accumulators clear (R174). -/
def execStepWaitSuccess (p : Fin 192) (w : WaitView) (s : State) : Out :=
  let e := s.stepEntryOf p
  if (s.port p).path.run && (s.port p).path.waiting && ! s.tileDeaf p && s.waitMet p e w then
    let s1 := if seWait e == 1 && seThr e == 40 && ! (s.port p).path.gate then
        s.modPath p fun q => { q with acc := List.replicate 8 0 } else s
    ok (s1.stepOk p e)
  else ok s

/-- A table that waits on MSG_EVENT goes on when the event comes: 0x001 the post continued by firmware, 0x002 the PS_RDY acknowledged
(R161). -/
def State.msgEvent (s : State) (p : PortId) (n : Nat) : State :=
  let q := (s.port p).path
  let e := s.stepEntryOf p
  if q.run && q.waiting && seWait e == 7 && seThr e == n && ! s.tileDeaf p then s.stepOk p e else s
/-- STEP_WAIT_TIMEOUT (R161, R162): a TIME wait continues at NEXT_OK. -/
def execStepWaitTimeout (p : Fin 192) (s : State) : Out :=
  if (s.port p).path.run && (s.port p).path.waiting && ! s.tileDeaf p then
    let e := s.stepEntryOf p
    if seWait e == 5 then ok (s.stepOk p e) else ok (s.stepTo p e .stepTimeout)
  else ok s

/-! ### Breaker and comparators (R171–R176) -/

/-- UNDERVOLT_TRIP (R171): VBUS below the lower bound for 10 ms; excepted while PPS regulation folds the target back and while a
table is running. -/
def execUndervoltTrip (p : Fin 192) (mv : Nat) (also_ : List Tripping) (s : State) : Out := ok (s.tripCycle p (.undervolt mv :: also_))

/-- PPS regulation folds the target back by 20 mV a tick above ILIM, never below the APDO's minimum, and lets it rise towards the
requested voltage by 20 mV a tick below ILIM (R173). -/
def Path.regulateTick (q : Path) (ma : Int) : Path :=
  if q.regulate then
    let full := q.target + q.fold
    let f := min (if ma > (q.ilim : Int) then q.fold + 20 else if ma < (q.ilim : Int) then q.fold - 20 else q.fold) (full - q.regMin)
    { q with fold := f, target := full - f }
  else q
/-- A slewed target moves at the port's slew rate, 5 mV a tick for each 0.1 V/ms, and the slew is over at its end value (R160). -/
def Path.slewTick (q : Path) (rate : Nat) : Path :=
  match q.slewTo with
  | some v =>
    let full := q.target + q.fold
    let n := if full < v then min v (full + 5 * rate) else max v (full - 5 * rate)
    { q with target := n - q.fold, slewTo := if n == v then none else some v }
  | none => q

/-- BREAKER_TICK (R173, R174, R247, R481): accumulators, regulation, slew, energy, peak and on-seconds; in DEEP no tick is formed. -/
def execBreakerTick (p : Fin 192) (ma : Int) (mv : Nat) (s : State) : Out :=
  if s.pwr.dev == .deep then ok s
  else ok (s.modPort p fun q =>
    let path := (({ q.path with acc := accTick (s.breakerSet (tileOf p) q.path.bset) q.path.ilim ma q.path.acc,
                                peak := max q.path.peak ma }).slewTick (s.pathCfg p).2).regulateTick ma
    let e := q.smp.energyRem + mv * ma.toNat
    let on := if q.path.gate then q.cnt.onRem + 1 else q.cnt.onRem
    { q with path := path,
             smp := { q.smp with energy := (q.smp.energy + e / 20000000) % 2 ^ 64, energyRem := e % 20000000 },
             cnt := if on ≥ 20000 then { q.cnt with onRem := on - 20000, onSec := q.cnt.onSec.inc32 } else { q.cnt with onRem := on } })

/-- BREAKER_TRIP (R174, R184). -/
def execBreakerTrip (p : Fin 192) (also_ : List Tripping) (s : State) : Out := ok (s.tripCycle p (.breaker :: also_))

/-- FAST_TRIP (R176, R184). -/
def execFastTrip (p : Fin 192) (ma : Nat) (also_ : List Tripping) (s : State) : Out := ok (s.tripCycle p (.fast ma :: also_))

/-- VBUS_OVERVOLT (R166, R176): enforced only while the gate is commanded closed; OVERVOLT is posted together with the TRIP. -/
def execVbusOvervolt (p : Fin 192) (mv : Nat) (also_ : List Tripping) (s : State) : Out := ok (s.tripCycle p (.overvolt mv :: also_))

/-- REVERSE_CURRENT (R176): REVERSE is posted with the TRIP; together with an over-voltage the cause is OVERVOLT (R184). -/
def execReverseCurrent (p : Fin 192) (ma : Nat) (also_ : List Tripping) (s : State) : Out := ok (s.tripCycle p (.reverse ma :: also_))

/-- VCONN_OVERCURRENT (R176): above 250 mA for 1 ms. VCONN off until detach, TRIP VCONN_OC posted, the pass switch and the retry
untouched. -/
def execVconnOvercurrent (p : Fin 192) (ma : Nat) (s : State) : Out :=
  if (s.port p).path.vconn != 0 && decide (250 < ma) then
    let s1 := s.modPort p fun q =>
      { q with path := { q.path with vconn := 0, vcFresh := false, vcPeak := 0, vcLocked := true },
               retry := { q.retry with last := .vconnOc }, cnt := { q.cnt with trip := q.cnt.trip.inc32 } }
    ok ((s1.postEvt (some p) (.trip .vconnOc 0xFF ((s.port p).path.peak / 5))).queueFault p 1 0xFF08#32)
  else ok s

/-- Allocation released to the reserve at a vSafe0V report; a disabled port holds 0, and one that has not had its reserve yet waits for it
at a boundary (R210, R213, R215, R241). -/
def Port.release (q : Port) (reserve : Nat) (st : SbState) : Port :=
  { q with sb := { q.sb with state := if ! q.pol.enabled || q.sb.state == .disabled then .disabled else st,
                             alloc := if q.pol.enabled then min q.sb.alloc reserve else 0,
                             decided := none, step := 0, confirmed := false, admOrd := none, arrOrd := none, usage := false, floorLim := false,
                             disconnecting := false, same := 0, resvOffer := false, rpWait := false, newc := false, lost := false } }

/-- TRIP_DISCHARGE_DONE (R177): VBUS is at 0.80 V, the discharge goes off, the accumulators clear, a tripped port's
allocation falls to the reserve (R174, R215). -/
def execTripDischargeDone (p : Fin 192) (s : State) : Out :=
  let q := s.port p
  if q.path.disTrip && q.path.detachMid.isNone then
    let s1 := s.modPath p fun r => { r with dis := false, disTrip := false, stuckTimer := false, acc := List.replicate 8 0 }
    if q.cc.state == .attached && ! q.path.gate && ! q.path.run && (q.retry.due.isSome || q.retry.lock != .none) then
      ok (s1.modPort p fun r => r.release s.board.reserve .tripped)
    else ok (s1.modPort p fun r => if r.cc.state == .attached then r else r.release s.board.reserve .idle)
  else ok s

/-! ### Retry (R178, R179) -/

/-- RETRY_PROBE_DUE (R178, R179): the due time has come. A probe runs only while a partner is attached; a due retry wakes a device in DEEP (R404). -/
def execRetryProbeDue (p : Fin 192) (s : State) : Out :=
  let q := s.port p
  if ! q.retry.due.any fun d => decide (d ≤ s.aon) then ok s
  else if q.cc.state == .attached && q.cc.partner.isSink && q.retry.lock == .none && ! s.tileDeaf p && ! q.path.run then
    ok ((s.modPort p fun r => { r with retry := { r.retry with due := none, hold := false }, cc := { r.cc with awaitDue := false } }).post p (plainPost .probe))
  else ok (s.wakeReq 2)

/-- RETRY_QUALIFY_CLEAR (R178). -/
def execRetryQualifyClear (p : Fin 192) (s : State) : Out :=
  if (s.port p).retry.qualified then ok (s.modRetry p fun r => { r with f := 0, qualified := false }) else ok s

/-- RETRY_HOLD_EXPIRY (R179): the hold ends with no attach. -/
def execRetryHoldExpiry (p : Fin 192) (s : State) : Out :=
  if (s.port p).retry.hold && (s.port p).cc.state != .attached then ok (s.modRetry p Retry.clear) else ok s

/-! ### Stuck switch (R180, R181) -/

/-- OPEN_PORT_VBUS (R41, R180): the discharge goes on and the 20 ms run, an attach waits for VBUS again; in DEEP a wake is requested.
A port that is locked out as STUCK_SWITCH is discharged again too (DESIGN CHOICE, log entry 20). -/
def execOpenPortVbus (p : Fin 192) (s : State) : Out :=
  if ! (s.port p).path.gate && (s.port p).cc.state != .bootSink && (s.port p).cc.state != .bootRd then
    ok (((s.modPath p fun q => { q with dis := true, disTrip := true, stuckTimer := true }).modCc p fun c => { c with attachDue := false }).wakeReq 1)
  else ok s

/-- A stuck switch is declared (R181): a forced sequence, whose lockout replaces the retry state (R165, R184). -/
def State.stuckSwitch (s : State) (p : PortId) (mv : Nat) : State :=
  let s1 := (((((s.calAbort p).abandonTable p).endContract p .lockout)).attachEnds p)
  let s2 := s1.modPort p fun q =>
    { q with cc := { q.cc with state := .lockedOut, rp := .off, rpHold := false, filt := [], latched := none, attachPend := false },
             path := { q.path.forceSafe with disTrip := q.path.disTrip, stuckDis := true, stuckTimer := false, detachMid := none },
             retry := { q.retry with lock := .stuckSwitch, f := 0, due := none, hold := false, probing := false, qualified := false } }
  ((s2.postEvt (some p) (.stuckSwitch (mv / 20))).queueFault p 5 0#32).refRecord 0x0B (some (tileOf p)) (some p)

/-- STUCK_SWITCH (R180, R181). -/
def execStuckSwitch (p : Fin 192) (mv : Nat) (s : State) : Out :=
  let q := s.port p
  if ! q.path.gate && q.path.dis && decide (800 < mv) && q.cc.state != .bootSink && q.retry.lock != .stuckSwitch then ok (s.stuckSwitch p mv) else ok s

/-- STUCK_DISCHARGE_END (R181): the discharge goes off after 1 s. -/
def execStuckDischargeEnd (p : Fin 192) (s : State) : Out :=
  if (s.port p).path.stuckDis then ok (s.modPath p fun q => { q with dis := false, disTrip := false, stuckDis := false }) else ok s

/-- DETACH_DISCHARGE_DONE (R183): the discharge ends, DETACH is posted and the allocation is released. -/
def execDetachDischargeDone (p : Fin 192) (s : State) : Out :=
  match (s.port p).path.detachMid with
  | some mid =>
    let s1 := s.modPath p fun q => { q with dis := false, disTrip := false, stuckTimer := false, detachMid := none, acc := List.replicate 8 0 }
    let s2 := (s1.postEvt (some p) (.detach mid (s.port p).cc.partner)).queueFault p 2 (BitVec.ofNat 32 (b2n mid))
    ok (s2.modPort p fun q => q.release s.board.reserve .idle)
  | none => ok s

/-! ### Signals at the hub (R163) -/

/-- The port is a newcomer: from the next boundary it is UNFUNDED at its reserve, its FLOOR is its demand, and it is admitted in order of
arrival (R215, R218, R226). -/
def State.newcomer (s : State) (p : PortId) : State :=
  let n := s.board.admitNext
  let s1 := s.modPort p fun q =>
    { q with pol := { q.pol with reqSeen := false },
             sb := { q.sb with newc := true, admOrd := some n, arrOrd := some n, decided := none, step := 0,
                               confirmed := false, regrant := false, same := 0, sinceRel := 0, resvOffer := false } }
  s1.modBoard fun g => { g with admitNext := n + 1 }
/-- What a boundary makes of reports that have come since the last: a lost tile's ports at their reserve, newcomers UNFUNDED
(R215, R226, R241). -/
def Port.reported (reserve : Nat) (q : Port) : Port :=
  let nw := q.sb.newc
  let q1 := if q.sb.lost then q.release reserve .idle else q
  if nw && q1.pol.enabled then
    { q1 with sb := { q1.sb with newc := false, state := .unfunded, alloc := min q1.sb.alloc reserve, admOrd := q.sb.admOrd, arrOrd := q.sb.arrOrd } }
  else { q1 with sb := { q1.sb with newc := false } }

/-- A counted allocation changes: ALLOC_CHANGE is posted and the port told (R225, R239, R300). -/
def State.setAlloc (s : State) (p : PortId) (k : AllocKind) (new : Nat) : State :=
  let b := (s.port p).sb
  ((s.modSb p fun b => { b with alloc := new, same := 0 }).postEvt (some p) (.allocChange k b.step b.alloc new)).queueMsg p 7 (BitVec.ofNat 32 new)

/-- A confirmed decrease to a value; ALLOC_CHANGE where the counted allocation changes (R222, R239). -/
def State.lowerAlloc (s : State) (p : PortId) (new : Nat) : State :=
  if (s.port p).sb.alloc == new then s else s.setAlloc p .decreaseConfirmed new

/-- ATTACH is posted with the outcome of its table (R42, R179). -/
def State.attachOutcome (s : State) (p : PortId) (o : AttachOutcome) : State :=
  let c := (s.port p).cc
  if c.attachPend then
    ((s.postEvt (some p) (.attach c.partner c.cc2 o)).modPort p fun q =>
      { q with cc := { q.cc with attachPend := false }, cnt := { q.cnt with attach := q.cnt.attach.inc32 } })
  else s

/-- 1.1 × a power over a voltage as a current, rounded down to 5 mA (R223): quanta and mV. -/
def hardMa (q mv : Nat) : Nat := q * 275000 / (max mv 1) / 5 * 5
/-- ST06 is posted with the contract's current, which a lower hard limit keeps down (R173, R223, R224, R226, R236). -/
def State.armHard (s : State) (p : PortId) (q : Nat) : State :=
  let c := (s.port p).pol
  let mv := if c.hasContract then c.mv else 5000
  let i := hardMa q mv
  (s.modPath p fun r => { r with hardLimit := some i }).post p
    { purpose := .limit, mv := mv, ma := if c.hasContract then c.limitMa else 3000, kind := if c.hasContract then c.kind else .fixed,
      rp := .dflt, minMv := (s.port p).path.regMin }
/-- A hard limit is lifted by ST06 with ILIM from the posted request (R225). -/
def State.liftHard (s : State) (p : PortId) : State :=
  let q := s.port p
  if q.path.hardLimit.isSome then
    let mv := if q.pol.hasContract then q.pol.mv else 5000
    (s.modPath p fun r => { r with hardLimit := none }).post p
      { purpose := .limit, mv := mv, ma := if q.pol.hasContract then q.pol.limitMa else 3000,
        kind := if q.pol.hasContract then q.pol.kind else .fixed, rp := .dflt, minMv := q.path.regMin }
  else s

/-- A port that holds an allocation leaves STARTUP: its first offer, or TYPEC_ONLY for profile 0x1 (R97, R128). -/
def State.leaveStartup (s : State) (p : PortId) : State :=
  if (s.port p).pol.state == .startup && ((s.port p).sb.state == .funded || (s.port p).sb.state == .decreasing) then
    s.sendOffer p false false
  else s

/-- VSAFE5V_OK (R42, R97, R117, R163, R224, R226): the outcome of an attach table makes the port a newcomer in STARTUP;
from ST03 it restores vSafe5V after a hard reset. -/
def execVsafe5vOk (p : Fin 192) (s : State) : Out :=
  let q := s.port p
  if q.pol.state == .hardReset then
    let s1 := s.finishPort p .vsafe5v .ok []
    let s2 := if q.sb.step == 4 then
        let n := s.board.admitNext
        ((s1.modSb p fun b => { b with state := .unfunded, step := 0, admOrd := some n, arrOrd := some n, resvOffer := true }).modBoard
          fun g => { g with admitNext := g.admitNext + 1 }).armHard p s.board.reserve
      else s1
    ok (s2.sendOffer p false false)
  else if q.cc.state == .attached && q.cc.partner.isSink then
    let s1 := (s.attachOutcome p .vsafe5v).modPol p fun r => { r with state := .startup }
    -- a port granted again under R196 or R237 already holds its floor (R218)
    if q.sb.state == .funded || q.sb.state == .decreasing then ok (s1.leaveStartup p) else ok (s1.newcomer p)
  else ok s

/-- TRANSITION_DONE (R109): the policy sends PS_RDY, carrying the contract kind (R87). -/
def execTransitionDone (p : Fin 192) (s : State) : Out :=
  let q := (s.port p).pol
  if q.state == .transition then
    let k := match decodePdo (((q.acked[q.req.toNat / 2 ^ 28 - 1]?).getD 0#32)) with
      | .fixed .. => CKind.fixed | .pps .. => .pps | .avs .. => .avs | .other => .none
    ok (s.send p { (ctlMsg .psRdy .psRdyReq) with amsEnd := true, ckind := k })
  else ok s

/-- TRANSITION_FAIL (R109, R116). -/
def execTransitionFail (p : Fin 192) (s : State) : Out :=
  if (s.port p).pol.state == .transition then ok (s.hardReset p .hardResetSent false) else ok s

/-- VSAFE0V_OK (R97, R131, R215, R224, R236, R513): releases the allocation, completes disables and ErrorRecovery, makes a
disconnected port SHED, and confirms step 4. -/
def execVsafe0vOk (p : Fin 192) (s : State) : Out :=
  let q := s.port p
  let s1 := s
  if q.pol.state == .errorRecovery then
    let s2 := s1.modPort p fun r => { (r.release s.board.reserve .idle) with pol := { r.pol with state := .detached } }
    ok (s2.finishPort p .vsafe0v .ok [])
  else if q.sb.disconnecting then
    ok ((s1.lowerAlloc p (min q.sb.alloc s.board.reserve)).modPort p fun r => r.release s.board.reserve .shed)
  else if q.pol.state == .hardReset && q.sb.step == 4 then
    ok ((s1.lowerAlloc p (min q.sb.alloc s.board.reserve)).modSb p fun b =>
      { b with decided := none, confirmed := false, floorLim := false })
  else if q.cc.state == .attached then ok (s1.finishPort p .vsafe0v .ok [])
  else ok ((s1.modPort p fun r => r.release s.board.reserve .idle).finishPort p .vsafe0v .ok [])

/-- RETRY_QUALIFIED (R178, R179, R226): the policy restarts from STARTUP and the port is a newcomer. -/
def execRetryQualified (p : Fin 192) (s : State) : Out :=
  if (s.port p).cc.state == .attached then
    let s1 := (s.modRetry p fun r => { r with probing := false, qualified := true, due := none }).attachOutcome p .vsafe5v
    ok ((s1.modPol p fun r => { r with state := .startup }).newcomer p)
  else ok s

/-- RETRY_FAILED (R178, R179): f advances, and RETRY or LOCKOUT is posted. -/
def execRetryFailed (p : Fin 192) (s : State) : Out := ok ((s.attachOutcome p .failed).retryFail p)

/-- A decided value becomes the counted allocation; below the FLOOR the port waits, in order of its arrival, to be funded (R215, R218); an
UNFUNDED one, whose RESERVE has fallen, stays so. -/
def State.applyDecided (s : State) (p : PortId) (d : Nat) : State :=
  (s.lowerAlloc p d).modSb p fun b =>
    { b with decided := none, confirmed := false, floorLim := false, step := 0, state := if b.state != .unfunded && d ≥ b.floor then .funded else .unfunded,
             admOrd := if b.state != .unfunded && d ≥ b.floor then b.admOrd else b.arrOrd }
/-- LIMIT_SET (R222, R236): confirms a hard-limit decrease, or sets the allocation of a FLOOR stage. -/
def execLimitSet (p : Fin 192) (s : State) : Out :=
  let b := (s.port p).sb
  match b.decided with
  | some d =>
    if b.floorLim then ok (s.applyDecided p d)
    else if b.step == 3 then ok (s.modSb p fun b => { b with confirmed := true }) else ok s
  | none => ok s

/-- VCONN_READY (R120): the policy sends PS_RDY for the swap. -/
def execVconnReady (p : Fin 192) (s : State) : Out :=
  let q := (s.port p).pol
  let s1 := s.modSb p fun b => { b with vcWait := false }
  if q.state == .vconnSwap && q.swapTake then ok (s1.send p (ctlMsg .psRdy .psRdySwap).amsLast) else ok s1

/-- VCONN_FAIL (R120): VCONN stays off and Hard_Reset is sent. -/
def execVconnFail (p : Fin 192) (s : State) : Out :=
  let q := (s.port p).pol
  if q.state == .vconnSwap && q.swapTake then ok (s.hardReset p .hardResetSent false) else ok s

/-- VCONN_OFF (R120, R234): the give-away is complete. -/
def execVconnOff (p : Fin 192) (s : State) : Out :=
  let q := (s.port p).pol
  if q.state == .vconnSwap && ! q.swapTake then ok (s.swapDone p .ok) else ok s

/-- RP_SET (R222, R223): the non-PD sink has its new advertisement, and samples count from here. -/
def execRpSet (p : Fin 192) (s : State) : Out := ok (s.modSb p fun b => { b with rpWait := false, loRun := 0 })

/-- REFUSED (R109, R167): a refused transition is a protocol error. -/
def execRefused (p : Fin 192) (s : State) : Out :=
  if (s.port p).pol.state == .transition then ok (s.hardReset p .hardResetSent false) else ok s

end Sys2Proof.Machine
end

