-- ==== Sys2Proof/Machine/Protocol.lean ====
section
/-! DEFINITION. BMC reception, the message tables entry by entry, chunking and the hold tables (R61–R94). The contents of
the hold table are not in the spec; a port in hold answers as R86 states (log entry 11). -/
namespace Sys2Proof.Machine

/-! ### Message-table entries (R76) -/

def mtAct (e : BitVec 64) : Nat := seField e 60 4
def mtArg (e : BitVec 64) : Nat := seField e 56 4
def mtWait (e : BitVec 64) : Nat := seField e 52 4
def mtOperand (e : BitVec 64) : Nat := seField e 40 12
def mtOk (e : BitVec 64) : Nat := seField e 16 8
def mtAlt (e : BitVec 64) : Nat := seField e 8 8
def mtIdle (e : BitVec 64) : Bool := e.getLsbD 1
def mtEnd (e : BitVec 64) : Bool := e.getLsbD 0

/-- Receive path of the ROM message table, entries 0x00–0x15 (R81). -/
def romMsgRx : List (BitVec 64) :=
  [ stepEntry 0 0 1 0 0 0x01 0x20 2, stepEntry 3 1 0 0x001 0 0x00 0x02 0, stepEntry 3 1 0 0x00D 0 0x03 0x04 0,
    stepEntry 4 4 0 0 0 0x05 0 0, stepEntry 3 2 0 0 0 0x11 0x05 0, stepEntry 4 3 0 0 0 0x06 0 0, stepEntry 1 1 2 0 0 0x07 0 0,
    stepEntry 3 4 0 0 0 0x08 0x10 0, stepEntry 4 0 0 0 0 0x09 0 0, stepEntry 1 3 3 0 1000 0x15 0x14 0, stepEntry 4 1 0 2 0 0x09 0x0F 0,
    stepEntry 0 0 8 0 27000 0x0C 0x0F 0, stepEntry 4 3 0 0 0 0x0D 0 0, stepEntry 1 1 2 0 0 0x0E 0 0, stepEntry 3 5 0 0 0 0x10 0x08 0,
    stepEntry 6 3 0 0 0 0x13 0 0, stepEntry 2 0 0 0 0 0 0 1, stepEntry 1 1 2 0 0 0x12 0 0, stepEntry 2 1 0 0 0 0 0 1,
    stepEntry 3 8 0 0 0 0x01 0x00 0, stepEntry 3 8 0 0 0 0x0F 0x0A 0, stepEntry 4 2 0 0 0 0x0B 0 0 ]
/-- Transmit path and chunk sending, entries 0x20–0x3D (R81). -/
def romMsgTx : List (BitVec 64) :=
  [ stepEntry 3 6 0 1 0 0x21 0x24 0, stepEntry 3 3 0 1 0 0x22 0x24 0, stepEntry 5 0 0 0 0 0x23 0 0, stepEntry 0 0 4 0 18000 0x2E 0x24 0,
    stepEntry 4 0 0 0 0 0x25 0 0, stepEntry 0 0 5 0 2000 0x26 0x2E 0, stepEntry 1 0 3 0 1000 0x2B 0x27 0, stepEntry 3 8 0 0 0 0x2E 0x28 0,
    stepEntry 3 3 0 1 0 0x29 0x2A 0, stepEntry 4 1 0 2 0 0x25 0x2D 0, stepEntry 4 1 0 3 0 0x25 0x2D 0, stepEntry 4 2 0 0 0 0x2C 0 0,
    stepEntry 3 7 0 0 0 0x30 0x37 0, stepEntry 6 1 0 0 0 0x3A 0 0, stepEntry 6 2 0 0 0 0x3B 0 0, stepEntry 0 0 0 0 0 0 0 1,
    stepEntry 0 0 7 0 27000 0x31 0x39 0, stepEntry 4 0 0 0 0 0x32 0 0, stepEntry 1 2 3 0 1000 0x35 0x33 0, stepEntry 3 8 0 0 0 0x2E 0x34 0,
    stepEntry 4 1 0 2 0 0x32 0x2D 0, stepEntry 4 2 0 0 0 0x36 0 0, stepEntry 3 5 0 0 0 0x37 0x30 0, stepEntry 6 0 0 0 0 0x38 0 0,
    stepEntry 3 6 0 2 0 0x3A 0x00 0, stepEntry 3 8 0 0 0 0x2E 0x3C 0, stepEntry 5 1 0 0 0 0 0 1, stepEntry 5 1 0 0 0 0x3D 0 0,
    stepEntry 6 3 0 0 0 0x3A 0 0, stepEntry 3 8 0 0 0 0x01 0x00 0 ]
def romMsgTable : List (BitVec 64) :=
  romMsgRx ++ List.replicate 10 (stepEntry 0 0 0 0 0 0 0 1) ++ romMsgTx ++ List.replicate 66 (stepEntry 0 0 0 0 0 0 0 1)

/-- The entry a port's message table stands at. -/
def State.mtEntry (s : State) (p : PortId) : BitVec 64 :=
  let q := (s.port p).pd
  let tab := if q.table == .ram then (s.tile (tileOf p)).mtRam else romMsgTable
  (tab[q.entry]?).getD (stepEntry 0 0 0 0 0 0 0 1)

/-! ### Messages -/

def allKinds : List MsgKind :=
  [.goodCrc, .accept, .reject, .wait, .notSupported, .psRdy, .ping, .gotoMin, .softReset, .getSourceCap, .getSinkCap,
   .getSourceCapExt, .getStatus, .getPpsStatus, .getSourceInfo, .getRevision, .getCountry, .getSinkCapExt, .vconnSwap, .prSwap,
   .drSwap, .frSwap, .dataReset, .dataResetComplete, .sourceCaps, .request, .bist, .sinkCaps, .batteryStatus, .alert, .enterUsb,
   .eprRequest, .eprMode, .sourceInfo, .revision, .vdm, .sourceCapExt, .status, .getBatteryCap, .getBatteryStatus, .batteryCap,
   .getManufacturerInfo, .manufacturerInfo, .securityRequest, .firmwareUpdate, .ppsStatus, .countryInfo, .sinkCapExt,
   .eprSourceCaps, .eprSinkCaps]
/-- The kind a header and its first data bytes name. -/
def kindOf (h : BitVec 16) (data : List Byte) : MsgKind :=
  if hdrExt h && hdrType h == 16 then
    match (data.drop 2).head?.map (·.toNat) with
    | some 1 => .eprGetSourceCap | some 2 => .eprGetSinkCap | some 3 => .eprKeepAlive | some 4 => .eprKeepAliveAck
    | _ => .extendedControl
  else (allKinds.find? fun k => k.type == (hdrExt h, hdrObjs h != 0 || hdrExt h, hdrType h)).getD .other
/-- Extended header (R73, R74): Data Size, Request Chunk, chunk number, Chunked. -/
def extSize (d : List Byte) : Nat := valLE (d.take 2) % 512
def extReq (d : List Byte) : Bool := valLE (d.take 2) / 1024 % 2 == 1
def extNum (d : List Byte) : Nat := valLE (d.take 2) / 2048 % 16
def extChunked (d : List Byte) : Bool := valLE (d.take 2) / 32768 % 2 == 1
/-- A received extended message with Chunked = 1 and Data Size above 26 (R79 EXT_MULTI). -/
def Msg.multi (m : Msg) : Bool := hdrExt m.hdr && extChunked m.data && ! extReq m.data && decide (extSize m.data > 26)

def Pd.txId (q : Pd) : Sop → Nat
  | .sop => q.txId0 | .sopP => q.txId1 | .sopPP => q.txId2 | _ => 0
def Pd.rxId (q : Pd) : Sop → Option Nat
  | .sop => q.rxId0 | .sopP => q.rxId1 | .sopPP => q.rxId2 | _ => none
def Pd.setTxId (q : Pd) (k : Sop) (v : Nat) : Pd :=
  match k with
  | .sop => { q with txId0 := v } | .sopP => { q with txId1 := v } | .sopPP => { q with txId2 := v } | _ => q
def Pd.setRxId (q : Pd) (k : Sop) (v : Option Nat) : Pd :=
  match k with
  | .sop => { q with rxId0 := v } | .sopP => { q with rxId1 := v } | .sopPP => { q with rxId2 := v } | _ => q

/-! ### Frames as they are sent (R70–R74, R290)

A frame is its message header and data; the CRC follows on the line. In a header to SOP' or SOP'' the role bits 5 and 8 are 0, and an
extended message is filled up with zeros to whole data objects (PRESUMED from USB PD, log entry 12). -/

def sopHeader (k : Sop) (h : BitVec 16) : BitVec 16 := if k == .sop then h else h &&& 0xFEDF#16
def padObjects (l : List Byte) : List Byte := l ++ List.replicate ((4 - l.length % 4) % 4) 0#8
/-- The extended header and the data of chunk `c`: 26 bytes of data a chunk (R73). -/
def TxMsg.chunkBytes (t : TxMsg) (c : Nat) : List Byte :=
  let x := match t.rawExt with | some e => e.toNat | none => t.data.length % 512 + 32768
  let chunked := if t.data.length > 26 then 1 else x / 32768
  padObjects (bytesLE 2 (x % 2048 + c % 16 * 2048 + chunked * 32768) ++ (t.data.drop (26 * c)).take 26)
/-- The header of a frame of `words` data objects: of a raw message the one given, with the MessageID put in, and the number of objects
where the sequencer has cut the message into chunks (R71, R290). -/
def TxMsg.header (t : TxMsg) (rev3 : Bool) (id words : Nat) : BitVec 16 :=
  match t.raw with
  | some h =>
    let h1 := (h &&& 0xF1FF#16) ||| BitVec.ofNat 16 (id % 8 * 512)
    if t.ext && decide (t.data.length > 26) then (h1 &&& 0x8FFF#16) ||| BitVec.ofNat 16 (words % 8 * 4096) else h1
  | none => sopHeader t.sop (msgHeader t.kind rev3 id words)
/-- The frame of a message, of an extended one its chunk `c`. -/
def TxMsg.frame (t : TxMsg) (rev3 : Bool) (id c : Nat) : List Byte :=
  let body := if t.ext then t.chunkBytes c else t.data
  bytesLE 2 (t.header rev3 id (body.length / 4)).toNat ++ body
/-- The GoodCRC of a reception (R72). -/
def goodCrcFrame (m : Msg) (rev3 : Bool) : List Byte := bytesLE 2 (sopHeader m.sop (msgHeader .goodCrc rev3 (hdrId m.hdr) 0)).toNat
/-- The Chunk Request for chunk `n` of a message that comes in (R74). -/
def chunkReqFrame (m : Msg) (rev3 : Bool) (id n : Nat) : List Byte :=
  let h := sopHeader m.sop ((msgHeader .goodCrc rev3 id 1 &&& 0xFFE0#16) ||| BitVec.ofNat 16 (hdrType m.hdr + 32768))
  bytesLE 2 h.toNat ++ bytesLE 2 (n % 16 * 2048 + 1024 + 32768) ++ [0#8, 0#8]
/-- The frame that a TX of the message table sends next, by its ARG (R77). -/
def Pd.nextFrame (q : Pd) (arg : Nat) : List Byte :=
  let out := fun c : Nat => match q.tx with | some t => t.frame q.rev3 (q.txId t.sop) c | none => []
  match arg, q.rx with
  | 0, _ => out 0
  | 2, _ => out q.txChunk
  | 1, some m => goodCrcFrame m q.rev3
  | 3, some m => chunkReqFrame m q.rev3 (q.txId m.sop) ((q.asm.map (·.next)).getD 1)
  | _, _ => []

/-! ### Moving through the table (R78, R80) -/

def Pd.goto (q : Pd) (n : Nat) (byRx : Bool) : Pd := { q with entry := n, waiting := false, byRx := byRx }
/-- The entry after one whose outcome is success or the alternate: 0x00 after END (R76). -/
def mtNext (e : BitVec 64) (success : Bool) : Nat := if mtEnd e then 0 else if success then mtOk e else mtAlt e

/-- Class of a reception in hold (R86): 1 a repeat of the standing RDO under PPS or AVS, for EPR_Request with its copied PDO, 2
EPR_KeepAlive, 3 Soft_Reset, 0 another. -/
def holdClass (q : Pol) (m : Msg) : Nat :=
  let w := wordsLE m.data
  if (m.kind == .request || m.kind == .eprRequest) && (q.stKind == .pps || q.stKind == .avs)
      && (w[0]?).getD 0#32 == q.rdo && (m.kind == .request || (w[1]?).getD 0#32 == q.stPdo) then 1
  else if m.kind == .eprKeepAlive then 2 else if m.kind == .softReset then 3 else 0
/-- A resumed port leaves hold once no reply of the hold table is under way; what was answered in hold is queued first (R89). With a
contract standing the policy stays in READY, otherwise it offers again from SEND_CAPS (R131). A port whose sink is gone is DETACHED, one whose
hard reset or ErrorRecovery still runs waits for its end (R97). -/
def State.leaveHold (s : State) (p : PortId) : State :=
  let q := (s.port p).pd
  if q.table != .hold || ! q.resume || (q.tx.isSome && q.txStarted) || q.holdPsRdy then s
  else
    let s1 := (s.reportHold p).modPd p fun q => { q with table := s.selTable p, entry := 0, waiting := false, resume := false, tableReq := false, last := .none }
    let r := s1.port p
    let runs := fun b : Purpose => (r.path.run && r.path.post.purpose == b) || r.path.queued.any (·.purpose == b)
    let goes := fun x : PolState => s1.modPol p fun q => { q with state := x, expect := .none }
    if r.pol.state != .held then s1
    else if ! (r.cc.state == .attached && r.cc.partner.isSink) then goes .detached
    else if runs .errRec then goes .errorRecovery
    else if runs .hardReset then goes .hardReset
    else if r.pol.stKind != .none then goes r.pol.readyState
    else s1.sendOffer p false false
/-- The policy resumes a port: its RESUME dispatch has ended (R89, R385). -/
def State.resumeHold (s : State) (p : PortId) : State :=
  if (s.port p).pd.table == .hold then (s.modPd p fun q => { q with resume := true }).leaveHold p
  else s.modPd p fun q => { q with holdReq := false }

/-- The reply given in hold to a class, and the message that carries it (R86). -/
def holdReplyOf (cls : Nat) : HoldReply × TxMsg :=
  match cls with
  | 1 => (.acceptPsRdy, ctlMsg .accept .none)
  | 2 => (.keepAliveAck, extMsg .eprKeepAliveAck [4#8, 0#8] .none)
  | 3 => (.acceptSoftReset, ctlMsg .accept .none)
  | _ => (.wait, ctlMsg .wait .none)
/-- Replies given in hold (R71, R86). A reply that still awaits its GoodCRC gives way to the reply to a newer reception, and no TX_DISCARDED
tells of it; a message of the policy that waits in the buffer is reported TX_DISCARDED (DESIGN CHOICE, log entry 11). -/
def State.holdAnswer (s : State) (p : PortId) (m : Msg) : State :=
  let q := s.port p
  let dup := m.kind != .softReset && some (hdrId m.hdr) == q.pd.rxId m.sop
  if m.sop != .sop && m.kind != .goodCrc then s.modPd p fun q =>
    { q.setRxId m.sop (some (hdrId m.hdr)) with frame := goodCrcFrame m q.rev3, last := .goodCrc, gcActive := true }
  else if m.kind == .goodCrc then
    -- the GoodCRC of a reply: PS_RDY follows an Accept of a repeat request
    let s1 := s.modPd p fun q => { q with tx := none, txStarted := false, txActive := false, txId0 := (q.txId0 + 1) % 8, holdPsRdy := false, retry := 0 }
    if m.sop != .sop || q.pd.tx.isNone || ! q.pd.txStarted || hdrId m.hdr != q.pd.txId0 then s
    else if q.pd.holdPsRdy then s1.modPd p fun q => 
      { q with tx := some (ctlMsg .psRdy .none), txStarted := true, txActive := true, frame := (ctlMsg .psRdy .none).frame q.rev3 q.txId0 0 }
    else s1.leaveHold p
  else if dup then s.modPd p fun q => { q with frame := goodCrcFrame m q.rev3, last := .goodCrc, gcActive := true, rxDup := q.rxDup.inc16 }
  else
    let k := holdClass q.pol m
    let s1 := s.reportHold p
    let s2 := if q.pd.tx.isSome && ! q.pd.txStarted then
        (s1.modPort p fun r => { r with pd := { r.pd with txDiscard := r.pd.txDiscard.inc16 }, pol := { r.pol with flight := none } }).queueMsg p 4 0#32
      else s1
    s2.modPd p fun q =>
      let q1 := if k == 3 then { q with txId0 := 0 } else q
      { q1 with rxId0 := some (hdrId m.hdr), rx := some m, last := .goodCrc, gcActive := true, holdReply := (holdReplyOf k).1, holdPsRdy := k == 1,
                tx := some (holdReplyOf k).2, txStarted := true, txActive := true, retry := 0,
                frame := (holdReplyOf k).2.frame q1.rev3 q1.txId0 0 }

/-- The PS_RDY of a negotiation has been acknowledged and its report is still to come: the RDO stands already (R87). -/
def Port.psRdyAcked (q : Port) : Bool := q.pd.tx.isNone && q.pol.stKind != .none && q.pol.flight.any (fun m => m.expect == .psRdyReq)
/-- Hold is entered at an IDLE_POINT wait; a message not yet started is reported TX_DISCARDED, and a reception that waits is answered
(R78, R85). The policy's sequence is abandoned: EPR entry, a swap, and a VDM exchange end (R131, R156), and a host's descriptor that
waited for its end ends BUSY where its message had not been sent, TIMEOUT otherwise (DESIGN CHOICE, log entry 11). -/
def State.enterHold (s : State) (p : PortId) : State :=
  let q := (s.port p).pd
  let drop := q.tx.isSome && ! q.txStarted
  let code := if drop || ! (s.port p).pol.outq.isEmpty then CplCode.busy else .timeout
  let s0 := (((s.finishPort p .txOk code []).finishPort p .reply code []).finishPort p .swap code []).finishPort p .vdmReply code []
  let s1 := s0.modPort p fun r =>
    { r with pd := { r.pd with table := .hold, entry := 0, waiting := true, holdReq := false, resume := false, holdPsRdy := false,
                               tx := if drop then none else r.pd.tx, rxHeld := none, retry := 0, rx := none, holdReply := .none,
                               txDiscard := if drop then r.pd.txDiscard.inc16 else r.pd.txDiscard },
             pol := { r.pol with state := .held, outq := [], flight := if r.psRdyAcked then r.pol.flight else none, expect := .none,
                                 eprEntry := 0, swapTake := false, swapDue := false, swapHost := false, swapTries := 0 },
             rally := { r.rally with req := .none, busyReq := .none, busyN := 0 } }
  let s2 := if drop then s1.queueMsg p 4 0#32 else s1
  match q.rxHeld with
  | some m => s2.holdAnswer p m
  | none => s2

/-- MT_ACT of a tile (R84, R93): every port runs the RAM message table; the bit changes only when the last port has changed tables. -/
def State.ramActive (s : State) (t : TileId) : Bool :=
  let sel := (s.tileCfg t).mtSel
  let other := if sel then MtTable.rom else .ram
  if (portsOf t).any fun p => (s.port p).pd.table == other then (s.tile t).mtWas
  else sel && (portsOf t).all fun p => (s.port p).pd.table == .ram

/-- A port waiting at an IDLE_POINT entry changes tables or enters hold where one is pending (R84, R85). -/
def State.idleChange (s : State) (p : PortId) : State :=
  let q := (s.port p).pd
  if q.table != .hold && q.waiting && mtIdle (s.mtEntry p) then
    if q.holdReq then s.enterHold p
    else if q.tableReq then
      s.modPd p fun q => { q with table := s.selTable p, tableReq := false, entry := 0, waiting := false }
    else s
  else s

/-- Hold is requested on a port (R85). -/
def State.requestHold (s : State) (p : PortId) : State :=
  if (s.port p).pd.table == .hold then s else (s.modPd p fun q => { q with holdReq := true }).idleChange p

/-- The PS_RDY that completes a negotiation is acknowledged: its RDO stands, of the kind its transmit request carried (R87). -/
def Port.standRdo (q : Port) : Port :=
  match q.pd.tx with
  | some t =>
    if t.kind == .psRdy && t.ckind != .none && ! q.pol.repeat_ then
      { q with pol := { q.pol with stKind := t.ckind, rdo := q.pol.req, stPdo := q.pol.reqPdo } }
    else q
  | none => q
/-- A valid reception meets the wait of the current entry, or is held for the next one that takes a reception; one that has been held is
any other valid reception to GOODCRC, CHUNK_REQ and CHUNK_RX (R78). A chunk that ends an assembly and is itself part of a chunked message
begins a new assembly whose next chunk is number 1, whatever number it carries (DESIGN CHOICE, log entry 11). -/
def State.present (s : State) (p : PortId) (m : Msg) (held : Bool) : State :=
  let e := s.mtEntry p
  let q := (s.port p).pd
  let start : Option Assembly := if m.multi then some ⟨m, extSize m.data, 1⟩ else none
  let other := s.modPd p fun q => { (q.goto (mtNext e false) true) with rx := some m, asm := start }
  if ! q.waiting then s.modPd p fun q => { q with rxHeld := some m }
  else match mtWait e with
    | 1 | 4 => s.modPd p fun q => { (q.goto (mtNext e true) true) with rx := some m, asm := start }
    | 3 =>
      if ! held && m.kind == .goodCrc && m.sop == q.lastSop && hdrId m.hdr == q.txId q.lastSop then
        (s.modPort p fun r => if r.pd.last == .buffer && r.pd.lastSop == .sop then r.standRdo else r).modPd p
          fun q => { (q.goto (mtNext e true) true) with txActive := false }
      else other
    | 7 =>
      let same := match q.tx with | some t => m.sop == t.sop && hdrType m.hdr == t.kind.type.2.2 | none => false
      if ! held && hdrExt m.hdr && extReq m.data && same && extNum m.data == q.txChunk + 1 then
        s.modPd p fun q => { (q.goto (mtNext e true) true) with rx := some m, txChunk := extNum m.data }
      else other
    | 8 =>
      match q.asm with
      | some a =>
        if ! held && hdrExt m.hdr && extChunked m.data && ! extReq m.data && m.sop == a.msg.sop && hdrType m.hdr == hdrType a.msg.hdr
            && extNum m.data == a.next then
          s.modPd p fun q =>
            { (q.goto (mtNext e true) true) with rx := some m, asm := some ⟨{ a.msg with data := a.msg.data ++ m.data.drop 2 }, a.size, a.next + 1⟩ }
        else other
      | none => other
    | _ => s.modPd p fun q => { q with rxHeld := some m }

/-- An entry's wait starts: table changes at an IDLE_POINT, a held reception is presented, an occupied TX buffer ends
RX_OR_TX (R78, R84, R85). -/
def State.mtStart (s : State) (p : PortId) : State :=
  let s1 := (s.modPd p fun q => { q with waiting := true }).idleChange p
  let q := (s1.port p).pd
  let e := s1.mtEntry p
  let takes := [1, 3, 4, 7, 8].contains (mtWait e)
  if ! q.waiting || q.table == .hold then s1
  else match q.rxHeld with
    | some m => if takes then (s1.modPd p fun q => { q with rxHeld := none }).present p m true else s1
    | none => if mtWait e == 1 && q.tx.isSome then s1.modPd p fun q => q.goto (mtNext e false) false else s1

/-- A TX request ends the RX_OR_TX wait of a port at the next turn (R78). -/
def State.mtKick (s : State) (p : PortId) : State :=
  let q := (s.port p).pd
  let e := s.mtEntry p
  if q.table != .hold && q.waiting && mtWait e == 1 && q.tx.isSome && ! q.holdReq && ! q.tableReq then
    s.modPd p fun q => q.goto (mtNext e false) false
  else s

/-- A port's entry with this ACTION acts; `f` gives the state and whether the outcome is success. -/
def State.mtStep (s : State) (p : PortId) (act : Nat) (f : State → BitVec 64 → State × Bool) : State :=
  let s := s.mtKick p
  let q := (s.port p).pd
  let e := s.mtEntry p
  if q.table == .hold || q.waiting || mtAct e != act || s.tileDeaf p then s
  else
    let r := f s e
    if mtWait e == 0 then
      r.1.modPd p fun q => { q with entry := mtNext e r.2, waiting := false }
    else r.1.mtStart p

/-! ### New settings of a tile (R366) -/

/-- What a tile does when it takes up the settings it now runs on, from those it ran on (R48, R84, R94, R366). -/
def State.tileTakeUp (s : State) (t : TileId) (o : TileHeld) (ram : Bool) : State :=
  let c := s.tileCfg t
  -- R48: filter histories of ports not latched
  let s1 := if c.tick != o.tick || c.filtM != o.filtM || c.filtN != o.filtN then
      (portsOf t).foldl (fun s p => s.modCc p fun a => if a.latched.isNone then { a with filt := [] } else a) s else s
  -- R92, R94: a frame under way ends by the mode it began in; FIXED puts every port on the untrained threshold at once
  let s2 := if c.slicer == o.slicer then s1
    else
      let s2 := s1.modTile t fun q => { q with slicerWas := (o.slicer :: q.slicerWas).take 16 }
      if c.slicer == 1 then (portsOf t).foldl (fun s p => s.modPd p fun q => { q with vth := 25 }) s2 else s2
  -- R84: a changed MT_SEL bit
  if c.mtSel == o.mtSel then s2
  else (portsOf t).foldl (fun s p => (s.modPd p fun q => { q with tableReq := true }).idleChange p) (s2.modTile t fun q => { q with mtWas := ram })
/-- A tile takes the settings in force that it has not taken yet (R22, R366). -/
def State.tileCatchUp (s : State) (t : TileId) : State :=
  let o := s.tileCfg t
  let ram := s.ramActive t
  let s1 := s.modTile t fun q => { q with held := none }
  s1.tileTakeUp t o ram
/-! ### Reception (R63–R67) -/

/-- The slicer trains on a frame, unless SLICER_MODE fixes or freezes it (R63, R92). -/
def trainVth (mode vth : Nat) (mean : Option Nat) : Nat :=
  match mode, mean with
  | 0, some m => min 50 ((m + 5) / 10 - 30)
  | 1, _ => 25
  | _, _ => vth

/-- The slicer's threshold after a frame: a frame that began before the last `early` changes of SLICER_MODE is trained by the mode it began
in, and the mode in force applies from the next (R92, R94). -/
def State.slicerAfter (s : State) (p : PortId) (mean : Option Nat) (early : Nat) : Nat :=
  let g := (s.tileCfg (tileOf p)).slicer
  let v := (s.port p).pd.vth
  if early == 0 then trainVth g v mean
  else trainVth g (trainVth (((s.tile (tileOf p)).slicerWas[early - 1]?).getD g) v mean) none

/-- The SOP* is accepted (R61). -/
def Port.accepts (q : Port) : Sop → Bool
  | .sop => true
  | .sopP | .sopPP => q.path.vconn != 0
  | _ => false
/-- The port's receiver hears its active line (R38, R54, R62). -/
def Port.hears (q : Port) : Bool := q.cc.state == .attached && q.cc.partner.isSink && ! q.pd.txActive && ! q.pd.gcActive

/-- FRAME_RECEIVED (R61–R64, R78, R86, R90). -/
def execFrameReceived (p : Fin 192) (f : FrameIn) (s : State) : Out :=
  let q := s.port p
  if ! q.hears || s.tileDeaf p then ok s
  else
    let s1 := s.modPd p fun q => { q with vth := s.slicerAfter p f.mean f.early }
    if ! q.accepts f.sop then ok s1
    else if ! f.codeOk || ! f.eop || f.data.length + 2 > 264 then ok (s1.modPd p fun q => { q with rxCode := q.rxCode.inc16 })
    else if f.crc != crc32 (bytesLE 2 f.hdr.toNat ++ f.data) then ok (s1.modPd p fun q => { q with rxCrc := q.rxCrc.inc16 })
    else
      let m : Msg := ⟨f.sop, kindOf f.hdr f.data, f.hdr, f.data⟩
      let s2 := s1.modPol p fun r => { r with pdSeen := r.pdSeen || f.sop == .sop }
      if q.pd.table == .hold then ok (s2.holdAnswer p m) else ok (s2.present p m false)

/-- RX_ABORT (R63, R65): the frame is discarded and counted; what it trained stays in force. -/
def execRxAbort (p : Fin 192) (mean : Option Nat) (early : Nat) (s : State) : Out :=
  if (s.port p).hears && ! s.tileDeaf p then
    ok (s.modPd p fun q => { q with vth := s.slicerAfter p mean early, rxTrunc := q.rxTrunc.inc16 })
  else ok s

/-- HARD_RESET_RX (R67, R87, R117, R131): reported to the power path and the hub; the count of R117 is not advanced. -/
def execHardResetRx (p : Fin 192) (s : State) : Out :=
  if (s.port p).cc.state == .attached && (s.port p).cc.partner.isSink && ! s.tileDeaf p then
    let s1 := (s.queueFault p 3 0#32).abortDescs p fun _ => false
    ok ((s1.modPol p fun r => { r with pdSeen := true }).hardResetDone p .hardResetReceived)
  else ok s

/-- CABLE_RESET_RX (R67): ignored. -/
def execCableResetRx (_p : Fin 192) (s : State) : Out := ok s

/-! ### The actions (R77) -/

/-- MT_NOP (R77, R78, R84, R85): the NOP acts and its wait starts; a port already waiting at an IDLE_POINT makes a pending change, and one
at RX_OR_TX takes the alternate branch once the TX buffer is occupied. -/
def execMtNop (p : Fin 192) (s : State) : Out :=
  if (s.port p).pd.waiting then ok (if s.tileDeaf p then s else (s.idleChange p).mtKick p) else ok (s.mtStep p 0 fun s _ => (s, true))

/-- MT_TX (R71, R77, R117). -/
def execMtTx (p : Fin 192) (s : State) : Out :=
  ok (s.mtStep p 1 fun s e =>
    let q := (s.port p).pd
    let buf := (q.tx.map (·.sop)).getD .sop
    let rxs := (q.rx.map (·.sop)).getD .sop
    match mtArg e with
    | 0 => (s.modPd p fun q => { q with frame := q.nextFrame 0, last := .buffer, lastSop := buf, txStarted := true, txActive := true, txChunk := 0 }, true)
    | 1 => (s.modPd p fun q => { q with frame := q.nextFrame 1, last := .goodCrc, gcActive := true }, true)
    | 2 => (s.modPd p fun q => { q with frame := q.nextFrame 2, last := .chunk q.txChunk, lastSop := buf, txActive := true }, true)
    | 3 => (s.modPd p fun q => { q with frame := q.nextFrame 3, last := .chunkReq ((q.asm.map (·.next)).getD 1), lastSop := rxs, txActive := true }, true)
    -- the entry's own wait and next entry follow a Hard_Reset that the table sends
    | _ => ((s.hardResetSent p .hardResetSent false).modPd p fun r => { r with entry := q.entry, byRx := q.byRx }, true))

/-- MT_DELIVER (R77, R90, R302): the message goes to the event queue, or is discarded. -/
def execMtDeliver (p : Fin 192) (s : State) : Out :=
  ok (s.mtStep p 2 fun s e =>
    let q := (s.port p).pd
    let m := match q.asm with | some a => some a.msg | none => q.rx
    let s1 := s.modPd p fun q => { q with asm := none }
    if mtArg e == 0 then
      match m with
      | some m =>
        -- a reply the policy awaits is taken as it is delivered (log entry 12)
        ((s1.queueEv p { mkEv s1 .message 1 0#32 with cells := min 9 ((m.data.length + 2 + 2 + 31) / 32), msg := some m }).policyReply p m, true)
      | none => (s1, true)
    else
      let dup := match m with | some m => q.rxId m.sop == some (hdrId m.hdr) | none => false
      (s1.modPd p fun q => { q with rxDup := if dup then q.rxDup.inc16 else q.rxDup }, true))

/-- The field a MATCH selects, tested against OPERAND (R79). -/
def matchField (q : Port) (arg operand : Nat) : Bool :=
  let m := q.pd.rx
  let h := (m.map (·.hdr)).getD 0#16
  let d := (m.map (·.data)).getD []
  let txLen := (q.pd.tx.map (·.data.length)).getD 0
  match arg with
  | 0 => (match (m.map (·.sop)).getD .sop with | .sop => 0 | .sopP => 1 | _ => 2) == operand
  | 1 => b2n (hdrExt h) * 2048 + b2n (hdrObjs h != 0) * 1024 + hdrType h == operand
  | 2 => match m with | some m => q.pd.rxId m.sop == some (hdrId m.hdr) | none => false
  | 3 => b2n q.pd.rev3 == operand
  | 4 => hdrExt h && extChunked d && decide (extSize d > 26)
  | 5 => match q.pd.last with
    | .chunk k => decide ((k + 1) * 26 ≥ txLen)
    | .buffer => decide (26 ≥ txLen)
    | _ => match q.pd.asm with
      | some a => decide (a.msg.data.length ≥ a.size + 2)
      | none => true
  | 6 => (operand % 2 == 0 || q.pd.txFlags % 2 == 1) && (operand / 2 % 2 == 0 || q.pd.txFlags / 2 % 2 == 1)
  | 7 => match q.pd.tx with | some t => t.ext && decide (t.data.length > 26) | none => false
  | 8 => q.pd.byRx
  | _ => (match m with | some m => holdClass q.pol m | none => 0) == operand

/-- MT_MATCH (R79). -/
def execMtMatch (p : Fin 192) (s : State) : Out :=
  ok (s.mtStep p 3 fun s e => (s, matchField (s.port p) (mtArg e) (mtOperand e)))

/-- MT_COUNT (R77). -/
def execMtCount (p : Fin 192) (s : State) : Out :=
  ok (s.mtStep p 4 fun s e =>
    let q := (s.port p).pd
    let rs := (q.rx.map (·.sop)).getD .sop
    match mtArg e with
    | 0 => (s.modPd p fun q => { q with retry := 0 }, true)
    | 1 => (s.modPd p fun q => { q with retry := q.retry + 1 }, decide (q.retry + 1 ≤ mtOperand e))
    | 2 => (s.modPd p fun q => q.setTxId q.lastSop ((q.txId q.lastSop + 1) % 8), true)
    | 3 => (s.modPd p fun q => q.setRxId rs (q.rx.map fun m => hdrId m.hdr), true)
    | _ => (s.modPd p fun q => (q.setTxId rs 0).setRxId rs none, true))

/-- MT_SET_RP (R69): only while an explicit contract at 3.x is in force. -/
def execMtSetRp (p : Fin 192) (s : State) : Out :=
  ok (s.mtStep p 5 fun s e =>
    let q := s.port p
    if q.pol.hasContract && q.pd.rev3 then
      (s.modCc p fun c => { c with rpNg := mtArg e == 0, rp := if mtArg e == 0 then .a15 else .a30 }, true)
    else (s, true))

/-- MT_REPORT (R68, R74, R77, R86, R90, R300): the report goes to the port's event queue. TX_OK, TX_FAIL and TX_DISCARDED free the TX
buffer; CHUNK_FAIL frees none, and ends the assembly unless the message that overtook it has begun one of its own. -/
def execMtReport (p : Fin 192) (s : State) : Out :=
  ok (s.mtStep p 6 fun s e =>
    let free := fun s : State => s.modPd p fun q => { q with tx := none, txStarted := false, txActive := false, txChunk := 0 }
    match mtArg e with
    | 0 => ((free s).queueMsg p 2 0#32, true)
    | 1 => (((free s).modPd p fun q => { q with txFail := q.txFail.inc16 }).queueMsg p 3 0#32, true)
    | 2 => (((free s).modPd p fun q => { q with txDiscard := q.txDiscard.inc16 }).queueMsg p 4 0#32, true)
    | 3 => ((s.modPd p fun q => { q with asm := if q.byRx then q.asm else none }).queueMsg p 5 0#32, true)
    | _ => (s.reportHold p, true))

/-- MT_COMPOSE (R77). -/
def execMtCompose (p : Fin 192) (s : State) : Out :=
  ok (s.mtStep p 7 fun s e =>
    let m := match mtArg e with
      | 0 => ctlMsg .accept .none | 1 => ctlMsg .psRdy .none | 2 => ctlMsg .wait .none | _ => extMsg .eprKeepAliveAck [4#8, 0#8] .none
    (s.modPd p fun q => { q with tx := some m, txStarted := false, txChunk := 0, txFlags := 0 }, true))

/-! ### Waits (R78) -/

/-- nRetryCount (R71). -/
def Pd.retries (q : Pd) : Nat := if q.rev3 then 2 else 3
/-- MSG_WAIT_TIMEOUT (R71, R74, R78, R86): TIME succeeds; the other waits with a timeout take the alternate branch. -/
def execMsgWaitTimeout (p : Fin 192) (s : State) : Out :=
  let q := (s.port p).pd
  let e := s.mtEntry p
  if q.table == .hold then
    -- a reply in hold draws no GoodCRC: it is sent again, and after its retries TX_FAIL and no further reply (R71, R86)
    if q.tx.isSome && q.txStarted && decide (q.retry < q.retries) then ok (s.modPd p fun q => { q with retry := q.retry + 1, txActive := true })
    else if q.tx.isSome && q.txStarted then
      ok ((s.modPd p fun q => { q with tx := none, txStarted := false, txActive := false, holdPsRdy := false, txFail := q.txFail.inc16 }).queueMsg p 3 0#32 |>.leaveHold p)
    else ok s
  else if q.waiting && ! s.tileDeaf p then
    match mtWait e with
    | 6 => ok (s.modPd p fun q => q.goto (mtNext e true) false)
    | 3 | 4 | 5 | 7 | 8 => ok (s.modPd p fun q => { q.goto (mtNext e false) false with txActive := false })
    | _ => ok s
  else ok s

/-- MSG_LINE_IDLE (R78). -/
def execMsgLineIdle (p : Fin 192) (s : State) : Out :=
  let q := (s.port p).pd
  let e := s.mtEntry p
  if q.table != .hold && q.waiting && mtWait e == 5 && ! s.tileDeaf p then ok (s.modPd p fun q => q.goto (mtNext e true) false) else ok s

/-- TX_DONE (R44, R78): the last EOP bit is sent, of the GoodCRC where one is on the line. -/
def execTxDone (p : Fin 192) (s : State) : Out :=
  let q := (s.port p).pd
  let e := s.mtEntry p
  let s1 := s.modPd p fun q => if q.gcActive then { q with gcActive := false } else { q with txActive := false }
  if q.table != .hold && q.waiting && mtWait e == 2 && ! s.tileDeaf p then ok (s1.modPd p fun q => q.goto (mtNext e true) false) else ok s1

/-- HOLD_EXPIRED (R88, R117, R131): 800 ms have passed and the policy has not resumed the port, so the hold table sends Hard_Reset;
CONTRACT_LOST HOLD_EXPIRED follows. -/
def execHoldExpired (p : Fin 192) (s : State) : Out :=
  if (s.port p).pd.table == .hold && ! (s.port p).pd.resume then ok (s.hardResetSent p .holdExpired false) else ok s

end Sys2Proof.Machine
end

