-- ==== Sys2Proof/Machine/Policy.lean ====
section
/-! DEFINITION. The source policy: reports of the sequencer, requests and transitions, the messages of R125, swaps, EPR
mode, the timer ladder and the feed-voltage objects (R95–R131). -/
namespace Sys2Proof.Machine

/-- The policy of the port runs and takes messages: a sink is attached and the port is not in hold or recovery (R97). In BIST Test Data
mode it answers none (R125; PRESUMED from the standard, log entry 7). -/
def State.policyOn (s : State) (p : PortId) : Bool :=
  let q := s.port p
  q.cc.state == .attached && q.cc.partner.isSink && ! s.tileDeaf p
    && ! [PolState.detached, .hardReset, .errorRecovery, .held].contains q.pol.state && ! q.pol.bist
/-- A meaning of a policy row: `f` where the policy runs, nothing otherwise (log entry 4). -/
def State.whenPolicy (s : State) (p : PortId) (f : Out) : Out := if s.policyOn p then f else ok s

/-- A sequence of the device's own is in progress behind its first GoodCRC: a reply, an offer's Request or a VDM's answer is awaited,
a swap it asked for has not ended, or the report of its message is still to come (R124). -/
def State.ownSeq (s : State) (p : PortId) : Bool :=
  let q := s.port p
  q.pol.expect.open || q.rally.req != .none || (q.pd.tx.isNone && q.pol.flight.any (·.amsStart))
/-- A sequence of the device's own that a Request meets, its own offer's apart, which the Request answers, and its VDMs apart, which the
negotiation abandons (R124, R156). -/
def State.ownSeqReq (s : State) (p : PortId) : Bool :=
  let q := s.port p
  (q.pol.expect.open && q.pol.expect != .request)
    || (q.pd.tx.isNone && q.pol.flight.any fun m => m.amsStart && m.expect != .request && m.expect != .vdm)
/-- AON cycles of SWAP_HOLDOFF, 100 ms, rounded up (R124, R130). -/
def holdoffCycles : Nat := 3277
/-- A partner's request that meets a sequence of the device's own is answered Wait, and so is its retry within 100 ms; otherwise `f`
(R124). -/
def State.waitOr (s : State) (p : PortId) (k : MsgKind) (own : Bool) (f : Out) : Out :=
  if own || (s.port p).pol.waited.any (fun w => w.1 == k && decide (s.aon - w.2 < holdoffCycles)) then
    ok ((s.modPol p fun q => { q with waited := some (k, s.aon) }).send p (ctlMsg .wait .none).amsLast)
  else f
def State.partnerReq (s : State) (p : PortId) (k : MsgKind) (f : Out) : Out := s.whenPolicy p (s.waitOr p k (s.ownSeq p) f)

/-! ### Requests (R107, R108) -/

/-- What a Request asks of the object it names: kind, voltage in mV, operating current in mA, and the current limit (R107, R173). -/
structure Ask where
  kind : CKind
  mv : Nat
  ma : Nat
  limit : Nat
  lo : Nat
deriving DecidableEq, Repr

/-- The object at the position an RDO names judged by R107; `none` is Reject. RDO fields are those of the standard (log entry 7). -/
def judge (offered : List Word) (rdo : Word) : Option Ask :=
  let pos := bits rdo 28 4
  let w := if pos == 0 then 0#32 else (offered[pos - 1]?).getD 0#32
  if w == 0#32 then none
  else match decodePdo w with
    | .fixed mv ma =>
      let i := bits rdo 10 10 * 10
      if i > ma then none else some ⟨.fixed, mv, i, ma, mv⟩
    | .pps lo hi ma =>
      let v := bits rdo 9 12 * 20
      let i := bits rdo 0 7 * 50
      if v < lo || v > hi || i > ma then none else some ⟨.pps, v, i, i, lo⟩
    | .avs lo hi pdp =>
      let v := bits rdo 9 12 * 25
      let i := bits rdo 0 7 * 50
      if v < lo || v > hi || v % 100 != 0 || v * i > pdp * 1000000 then none else some ⟨.avs, v, i, i, lo⟩
    | .other => none
/-- The table of R107 in its order: the form of the request, the copied PDO, and the object. -/
def Pol.answer (q : Pol) (epr : Bool) (rdo pdo : Word) : Option Ask :=
  let pos := bits rdo 28 4
  if q.epr != epr || (! q.epr && decide (pos ≥ 8)) then none
  else if epr && pos != 0 && (q.acked[pos - 1]?).getD 0#32 != pdo then none
  else judge q.acked rdo
/-- An offered object can carry a contract of this kind, voltage and operating current. -/
def pdoCarries (k : CKind) (mv ma : Nat) (w : Word) : Bool :=
  match decodePdo w with
  | .fixed v i => k == .fixed && v == mv && decide (ma ≤ i)
  | .pps lo hi i => k == .pps && decide (lo ≤ mv) && decide (mv ≤ hi) && decide (ma ≤ i)
  | .avs lo hi pdp => k == .avs && decide (lo ≤ mv) && decide (mv ≤ hi) && decide (mv * ma ≤ pdp * 1000000)
  | .other => false
/-- The standing contract is still among the offered objects, wherever its object now stands (R108). -/
def Pol.stillOffered (q : Pol) : Bool := q.hasContract && q.acked.any (pdoCarries q.kind q.mv q.ma)
def Ask.microW (a : Ask) : Nat := a.mv * a.ma
def Ask.power (a : Ask) : Nat := quanta a.microW

/-- A decrease is confirmed by a power in µW at or below the decided allocation (R222). -/
def Sb.confirmBy (b : Sb) (uw : Nat) : Sb :=
  match b.decided with
  | some d => if uw ≤ d * 250000 then { b with confirmed := true } else b
  | none => b

/-- A Request carries Capability Mismatch or not: the last one received decides the demand, and a set bit releases the usage cap (R106,
R228). -/
def Port.noteMismatch (q : Port) (rdo : Word) : Port :=
  { q with pol := { q.pol with mismatch := rdo.getLsbD 26 }, sb := if rdo.getLsbD 26 then q.sb.releaseUsage else q.sb }

/-- REQUEST (R106–R108, R115, R222, R228): judged against the offer last acknowledged. In TRANSITION or SOFT_RESET a Request
is a protocol error. One that meets a sequence of the device's own is answered Wait (R124). A power negotiation abandons a VDM exchange of
the device (R156). -/
def execRequest (p : Fin 192) (epr : Bool) (rdo pdo : BitVec 32) (rev3 : Bool) (s : State) : Out :=
  s.whenPolicy p <|
    let q := (s.port p).pol
    if q.state == .transition || q.state == .softReset then ok (s.protocolError p)
    else s.waitOr p (if epr then .eprRequest else .request) (s.ownSeqReq p) <|
      let s0 := (s.abandonVdm p).modPort p fun r => { r.noteMismatch rdo with pol := { (r.noteMismatch rdo).pol with expect := .none, reqSeen := true } }
      match q.answer epr rdo pdo with
      | none => ok (s0.send p (ctlMsg .reject .rejectReq).amsLast)
      | some a =>
        let s1 := s0.modSb p fun b => if q.hasContract && a.mv == q.mv then b.confirmBy a.microW else b
        if q.kind == .pps && rdo == q.rdo && (! epr || pdo == q.stPdo) then
          ok ((s1.modPol p fun q => { q with repeat_ := true }).send p (ctlMsg .accept .acceptRepeat))
        else
          ok ((s1.modPol p fun q => { q with req := rdo, reqPdo := pdo, reqRev3 := rev3, repeat_ := false }).send p (ctlMsg .accept .acceptReq))

/-! ### Reports of the sequencer -/

/-- What follows a negotiation, or a repeat of one, in READY: an EPR exit under way goes on once an SPR object is in force (R114). -/
def State.exitOrReady (s : State) (p : PortId) : State :=
  let q := (s.port p).pol
  if q.eprExit && q.pos ≤ 7 then
    (s.modPol p fun r => { r with state := r.readyState, expect := .none }).send p { (objMsg .eprMode [eprModeWord 5 0] .exitSent).ams with amsEnd := true }
  else s.enterReady p
/-- The PS_RDY of a negotiation is acknowledged: the contract stands, of the kind that PS_RDY's transmit request carried, and CONTRACT is
posted (R70, R87, R106, R110, R117, R222, R228). A change of profile that its offer did not carry yet stays noted (R118). -/
def State.contractStands (s : State) (p : PortId) (k : CKind) : State :=
  let q := s.port p
  match judge q.pol.acked q.pol.req with
  | none => s
  | some a =>
    let rev3 := if q.pol.firstDone then q.pd.rev3 else q.pol.reqRev3
    let moved := q.pol.mv != a.mv || q.pol.kind != k
    let was := s.demandOf p
    let s1 := s.modPort p fun r =>
      { r with pd := { r.pd with rev3 := rev3 },
               pol := { r.pol with kind := k, stKind := k, cRev3 := rev3, pos := bits r.pol.req 28 4, mv := a.mv, ma := a.ma, limitMa := a.limit,
                                   rdo := r.pol.req, stPdo := r.pol.reqPdo, hardResets := 0, firstDone := true,
                                   profChange := r.pol.profChange && r.pol.newOffer },
               sb := let b := r.sb.confirmBy a.microW
                     if moved then b.releaseUsage else b,
               rally := if r.rally.step == .idle && rev3 then { r.rally with step := .waitCable } else r.rally }
    (s1.demandRose p was).postEvt (some p) (.contract (bits q.pol.req 28 4) k rev3 q.pol.epr (a.mv / 20) (a.ma / 10) a.power)
/-- The contract stands and the policy is in READY; a port in hold stays in hold (R97, R106). The sink's capabilities are asked for once an
attach, and once after the first entry into EPR mode (R106). -/
def State.contractMade (s : State) (p : PortId) (k : CKind) : State :=
  let q := s.port p
  let s1 := s.contractStands p k
  let s2 := s1.modPol p fun r => { r with state := r.readyState, expect := .none }
  if q.pd.table == .hold then s1
  else if (judge q.pol.acked q.pol.req).isNone then s1.enterReady p
  else if ! q.pol.firstDone then (s2.send p { (ctlMsg .getSinkCap .sinkCaps).ams with amsEnd := true }).exitOrReady p
  else if q.pol.epr && ! q.pol.eprDone then
    ((s2.modPol p fun r => { r with eprDone := true }).send p { (extMsg .eprGetSinkCap [2#8, 0#8] .sinkCaps).ams with amsEnd := true }).exitOrReady p
  else s1.exitOrReady p

/-- A Discover Identity attempt to SOP' has been sent: it counts (R135, R139, R156). -/
def State.discCounted (s : State) (p : PortId) : State :=
  if (s.port p).rally.req == .cableIdentity then
    s.modPol p fun r => { r with discTries := r.discTries + 1, eprTries := if r.eprEntry == 3 then r.eprTries + 1 else r.eprTries }
  else s
/-- A message that no sequence of the policy follows has been acknowledged: what waits goes on. A PS_RDY that firmware sent with a
contract kind completes the negotiation in progress (R87, R290). -/
def State.goOn (s : State) (p : PortId) (m : TxMsg) : State :=
  if m.kind == .psRdy && m.ckind != .none && (s.port p).pol.state == .transition then s.contractMade p m.ckind else s.goNext p

/-- TX_OK (R87, R97, R107–R117, R120, R161, R336): the acknowledged message decides how the policy advances; a step table that waits
for the PS_RDY's GoodCRC goes on. -/
def execTxOk (p : Fin 192) (s : State) : Out :=
  let q := (s.port p).pol
  match q.flight with
  | none => ok s
  | some m =>
    let s0 := (if m.kind == .psRdy then s.msgEvent p 2 else s).modPol p fun r => { r with flight := none, hardResets := if m.kind == .psRdy then 0 else r.hardResets }
    let ex := fun e : Expect => s0.modPol p fun r => { r with expect := e }
    match m.expect with
    | .request =>
      ok (s0.modPol p fun r => { r with acked := r.sent, ackEpr := r.offEpr, capsSends := 0, noResp := false, state := .negotiate, expect := .request })
    | .acceptSoft => ok (ex .acceptSoft)
    | .sinkCaps => ok (ex .sinkCaps)
    | .status => ok (ex .status)
    | .swapReply => ok (ex .swapReply)
    | .hostReply => ok (ex .hostReply)
    | .hostOk => ok ((s0.finishPort p .txOk .ok []).goOn p m)
    | .acceptReq => ok (s0.modPol p fun r => { r with state := .transition, expect := .acceptReq })
    | .acceptRepeat => ok (s0.send p { (ctlMsg .psRdy .psRdyReq) with amsEnd := true, ckind := .pps })
    | .acceptSoftRx => ok (s0.sendOffer p q.epr false)
    | .acceptSwap =>
      let s1 := s0.modPol p fun r => { r with back := r.readyState, state := .vconnSwap, expect := if r.swapTake then .none else .swapPsRdy }
      if q.swapTake then ok (s1.post p (plainPost .vconnOn)) else ok s1
    | .offered => ok ((s0.modPol p fun r => { r with acked := r.sent, ackEpr := r.offEpr, capsSends := 0, noResp := false }).goNext p)
    | .rejectReq =>
      if ! q.hasContract then ok (s0.seqEnds p)
      else if q.stillOffered then ok (if q.state == .negotiate || q.isReady then s0.enterReady p else s0.seqEnds p)
      else ok (s0.hardReset p (if q.profChange then .profileChange else .hardResetSent) false)
    | .enterAck => ok (s0.eprCheck p)
    | .enterOk => ok (s0.modPol p fun r => { r with epr := true, state := .readyEpr })
    | .exitSent => ok ((s0.modPol p fun r => { r with epr := false, eprExit := false, state := .ready }).sendOffer p false false)
    | .psRdyReq =>
      -- the PS_RDY of a repeat request leaves the contract as it stands (R115)
      if q.repeat_ then ok ((s0.modPol p fun r => { r with repeat_ := false }).exitOrReady p) else ok (s0.contractMade p m.ckind)
    | .psRdySwap => ok (s0.swapDone p .ok)
    | .vdm => ok ((s0.discCounted p).goOn p m)
    | .none | .swapPsRdy => ok (s0.goOn p m)

/-- TX_FAIL (R116, R134, R336). -/
def execTxFail (p : Fin 192) (s : State) : Out :=
  let q := s.port p
  match q.pol.flight with
  | none => ok s
  | some m =>
    let s0 := s.modPol p fun r => { r with flight := none }
    if m.sop != .sop then
      -- a missing response of the cable plug, never a Soft_Reset
      if m.expect == .vdm then
        let r := q.rally.req
        ok ((((s0.discCounted p).modRally p fun x => { x with req := .none }).vdmNak p r none).goNext p)
      else ok (((s0.finishPort p .txOk .timeout []).finishPort p .reply .timeout []).goNext p)
    else
      let s1 := (s0.finishPort p .txOk .timeout []).finishPort p .reply .timeout []
      let s2 := if m.expect == .vdm && q.rally.req == .hostVdm then
          (s1.modRally p fun x => { x with req := .none }).finishPort p .vdmReply .timeout [] else s1
      if q.pol.state == .transition then ok (s2.hardReset p .hardResetSent false)
      else if m.kind == .sourceCaps then
        ok (s2.modPol p fun r => { r with capsSends := r.capsSends + 1 })
      else if q.pol.state == .softReset then
        if m.expect == .acceptSoft then ok (s2.hardReset p .hardResetSent false)
        else if m.expect == .acceptSoftRx then ok (s2.softReset p) else ok (s2.sendNext p)
      else ok (((if m.kind == .vconnSwap then s2.swapDone p .timeout else s2)).softReset p)

/-- TX_DISCARDED (R97, R111, R124, R156, R336): the partner's sequence comes first. A message that started a sequence of the device's
own is sent again after it, and so is a PS_RDY, which its sequence still needs; the need for a VCONN_Swap is looked at again; an offer is
built afresh; another reply is dropped, and an EPR entry that its partner cannot follow ends. -/
def execTxDiscarded (p : Fin 192) (s : State) : Out :=
  let q := (s.port p).pol
  match q.flight with
  | none => ok s
  | some m =>
    let s0 := s.modPol p fun r => { r with flight := none }
    let again := s0.modPol p fun r => { r with outq := r.outq.filter (fun x => ! x.amsStart) ++ m :: r.outq.filter fun x => x.amsStart }
    match m.expect with
    | .hostOk => ok (s0.finishPort p .txOk .busy [])
    | .hostReply => ok (s0.finishPort p .reply .busy [])
    | .request => ok (s0.modPol p fun r => { r with newOffer := true, eprDue := r.offEpr && ! r.epr, state := .sendCaps })
    | .enterAck | .enterOk => ok (s0.modPol p fun r => { r with eprEntry := 0 })
    | .swapReply => ok (s0.modPol p fun r => { r with swapDue := true })
    | .psRdyReq | .psRdySwap => ok again
    -- a VDM whose exchange has been abandoned meanwhile is not sent again
    | _ => ok (if m.amsStart && (m.kind != .vdm || (s.port p).rally.req != .none) then again else s0)

/-- CHUNK_FAIL (R68, R74): the hub learns of it. The assembly ended with the report (MT_REPORT), and one that has begun since goes on; a
message whose send it tells of stays in the TX buffer, which only TX_OK, TX_FAIL and TX_DISCARDED free, and goes out again from its first
chunk. -/
def execChunkFail (_p : Fin 192) (s : State) : Out := ok s

/-- HOLD_ANSWERED (R86, R89): the message is queued for the policy, marked with the reply given. -/
def execHoldAnswered (p : Fin 192) (s : State) : Out := ok (s.reportHold p)

/-! ### Messages of R125 -/

/-- An offer that answers a port in STARTUP or TYPEC_ONLY, which stays there; a port without an allocation sends none (R97, R125, R128).
A Request under it is judged as under any acknowledged offer, and its Accept leads to TRANSITION (R97, R107; DEDUCED, log entry 66). -/
def State.replyCaps (s : State) (p : PortId) (epr : Bool) : State :=
  let o := s.buildOffer p
  if o.spr.isEmpty || ! (s.port p).holdsAlloc then s.goNext p else s.offerGoes p o epr (o.msg epr .offered)
/-- GET_SOURCE_CAP (R97, R108, R124, R125): answered with an offer. While a transition, a swap or a reset runs, the offer follows its
end (DEDUCED, log entry 66). -/
def execGetSourceCap (p : Fin 192) (s : State) : Out :=
  s.partnerReq p .getSourceCap <|
    match (s.port p).pol.state with
    | .startup | .typecOnly => ok (s.replyCaps p false)
    | .transition | .vconnSwap | .softReset => ok (s.modPol p fun q => { q with newOffer := true })
    | _ => ok (s.sendOffer p (s.port p).pol.epr true)

/-- EPR_GET_SOURCE_CAP (R124–R126, R128). Outside EPR mode too the EPR_Source_Capabilities that answers it is an offer, which the port's
next Request is judged against (DESIGN CHOICE, log entry 66). -/
def execEprGetSourceCap (p : Fin 192) (s : State) : Out :=
  s.partnerReq p .eprGetSourceCap <|
    if ! ((s.port p).pd.rev3 && (s.profileWords p).any (fun w => (decodePdo w).isEpr)) then ok (s.notSupported p)
    else match (s.port p).pol.state with
      | .startup | .typecOnly => ok (s.replyCaps p true)
      | .transition | .vconnSwap | .softReset => ok (s.modPol p fun q => { q with newOffer := true, eprDue := true })
      | _ => ok (s.sendOffer p true true)

/-- A row whose message carries bytes the spec does not state: free values (log entry 9). -/
def State.freeBytes (s : State) (n : Nat) : List Byte × State :=
  ((List.range n).map fun k => (Config.freeWord (s.freeCtr + k)).setWidth 8, { s with freeCtr := s.freeCtr + n })
/-- Profile power in W. -/
def State.profileW (s : State) (p : PortId) : Nat := s.profilePower p / 4

/-- GET_SOURCE_CAP_EXTENDED (R125): VID, PID and Source PDP; the block's other bytes are not stated. -/
def execGetSourceCapExtended (p : Fin 192) (s : State) : Out :=
  s.partnerReq p .getSourceCapExt <|
    let (fr, s1) := s.freeBytes 19
    let w := s.profileW p
    ok (s1.send p (extMsg .sourceCapExt
      (bytesLE 2 (s.param 0x6000) ++ bytesLE 2 (s.param 0x6001) ++ fr ++ bytesLE 1 (min w 100) ++ bytesLE 1 (if w > 100 then w else 0)) .none))

/-- GET_SOURCE_INFO (R125): Port Type managed, Maximum PDP, Present PDP and Reported PDP in W. -/
def execGetSourceInfo (p : Fin 192) (s : State) : Out :=
  s.partnerReq p .getSourceInfo <|
    ok (s.send p (objMsg .sourceInfo
      [packWord [(min 255 (s.profileW p), 16, 8), (min 255 ((s.port p).sb.alloc / 4), 8, 8), (min 255 ((s.port p).pol.offPdp / 4), 0, 8)]] .none))

/-- GET_STATUS (R125): the model temperature, external DC power and the event flags, which are then cleared. -/
def execGetStatus (p : Fin 192) (s : State) : Out :=
  s.partnerReq p .getStatus <|
    let q := s.port p
    let (fr, s1) := s.freeBytes 4
    let t := (max 1 (min 255 q.sb.temp.floor)).toNat
    let flags := 2 * b2n q.pol.ocp + 4 * b2n (q.pol.otp || q.sb.row != 0) + 8 * b2n q.pol.ovp
    let s2 := s1.modPol p fun r => { r with ocp := false, ovp := false, otp := false }
    ok (s2.send p (extMsg .status (bytesLE 1 t ++ [2#8] ++ fr.take 1 ++ bytesLE 1 flags ++ fr.drop 1) .none))

/-- GET_PPS_STATUS (R125): output voltage and current from the 1 kHz samples; its flags byte is not stated. -/
def execGetPpsStatus (p : Fin 192) (s : State) : Out :=
  s.partnerReq p .getPpsStatus <|
    let q := s.port p
    if q.pol.kind == .pps then
      let (fr, s1) := s.freeBytes 1
      ok (s1.send p (extMsg .ppsStatus (bytesLE 2 (q.smp.mv / 20) ++ bytesLE 1 (min 255 (q.smp.ma.toNat / 50)) ++ fr) .none))
    else ok (s.notSupported p)

/-- GET_REVISION (R125): Revision 3.2; the version field is not stated. -/
def execGetRevision (p : Fin 192) (s : State) : Out :=
  s.partnerReq p .getRevision <|
    let (w, s1) := s.freeWord
    ok (s1.send p (objMsg .revision [0x32000000#32 ||| (w &&& 0x00FF0000#32)] .none))

/-- GET_MANUFACTURER_INFO (R125): VID and PID of group IDENTITY. -/
def execGetManufacturerInfo (p : Fin 192) (s : State) : Out :=
  s.partnerReq p .getManufacturerInfo <| ok (s.send p (extMsg .manufacturerInfo (bytesLE 2 (s.param 0x6000) ++ bytesLE 2 (s.param 0x6001)) .none))

/-- SOFT_RESET (R68, R116, R125): Accept, then SEND_CAPS; Hard_Reset in TRANSITION. -/
def execSoftReset (p : Fin 192) (s : State) : Out :=
  s.whenPolicy p <|
    if (s.port p).pol.state == .transition then ok (s.hardReset p .hardResetSent false)
    else ok ((s.softLeave p).send p (ctlMsg .accept .acceptSoftRx))

/-- VCONN_SWAP (R120, R124, R131). While the policy is not in READY or READY_EPR, a sequence is in progress and the answer is Wait. -/
def execVconnSwap (p : Fin 192) (s : State) : Out :=
  s.partnerReq p .vconnSwap <|
    let q := s.port p
    let cable := (match q.pol.flight with | some m => m.sop != .sop | none => false)
    if ! q.pol.isReady || q.pol.eprEntry != 0 || (q.path.vconn != 0 && cable) then
      ok ((s.modPol p fun r => { r with waited := some (.vconnSwap, s.aon) }).send p (ctlMsg .wait .none).amsLast)
    else if s.param 0x5000 == 0 || (q.path.vconn == 0 && ! s.vcAdmits (tileOf p)) then ok (s.send p (ctlMsg .reject .none).amsLast)
    else ok ((s.modPol p fun r => { r with swapTake := q.path.vconn == 0, swapHost := false }).send p (ctlMsg .accept .acceptSwap))

/-- PR_SWAP (R119): Reject whatever the revision. -/
def execPrSwap (p : Fin 192) (s : State) : Out := s.whenPolicy p <| ok (s.send p (ctlMsg .reject .none).amsLast)
/-- DR_SWAP (R119): Reject whatever the revision. -/
def execDrSwap (p : Fin 192) (s : State) : Out := s.whenPolicy p <| ok (s.send p (ctlMsg .reject .none).amsLast)
/-- FR_SWAP (R119, R126). -/
def execFrSwap (p : Fin 192) (s : State) : Out := s.whenPolicy p <| ok (s.notSupported p)

/-- EPR_MODE_ENTER (R104, R106, R111, R124, R228): in READY, Enter Acknowledged; the checks follow its GoodCRC. Received outside READY it
is ignored, for which the spec gives no reply (DESIGN CHOICE, log entry 66). -/
def execEprModeEnter (p : Fin 192) (watts : Nat) (s : State) : Out :=
  s.partnerReq p .eprMode <|
    let q := s.port p
    if q.pol.state == .ready && q.pd.rev3 && q.pol.eprEntry == 0 then
      ok ((((s.modPol p fun r => { r with eprPdp := some (watts * 4), eprEntry := 1 }).demandRose p (s.demandOf p))).send p
        (objMsg .eprMode [eprModeWord 2 0] .enterAck))
    else ok (s.goNext p)

/-- EPR_MODE_EXIT (R113, R123): the offer that follows is a sequence of the device's own. Received outside EPR mode it is ignored, for which
the spec gives no reply (DESIGN CHOICE, log entry 66). -/
def execEprModeExit (p : Fin 192) (s : State) : Out :=
  s.whenPolicy p <|
    let q := (s.port p).pol
    if ! q.epr then ok (s.goNext p)
    else if q.pos ≤ 7 then ok ((s.modPol p fun r => { r with epr := false, eprExit := false, eprEntry := 0, state := .ready }).sendOffer p false false)
    else ok (s.hardReset p .hardResetSent false)

/-- EPR_KEEPALIVE (R113, R125). -/
def execEprKeepalive (p : Fin 192) (s : State) : Out :=
  s.whenPolicy p <|
    if (s.port p).pol.epr then ok (s.send p (extMsg .eprKeepAliveAck [4#8, 0#8] .none)) else ok (s.notSupported p)

/-- Power of a sink object, µW (R106): fixed, variable, battery and augmented objects of the standard (log entry 7). -/
def sinkPower (w : Word) : Nat :=
  match bits w 30 2 with
  | 1 => bits w 0 10 * 250000
  | 2 => bits w 20 10 * 50 * (bits w 0 10 * 10)
  | _ => (decodePdo w).power

/-- SINK_CAPABILITIES (R106, R125, R228): demand; passed to the host; the awaited answer. -/
def execSinkCapabilities (p : Fin 192) (h : BitVec 16) (epr : Bool) (objs : List (BitVec 32)) (s : State) : Out :=
  s.whenPolicy p <|
    let was := s.demandOf p
    let best := (objs.map fun w => quanta (sinkPower w)).foldl max 0
    let s1 := s.modPol p fun r => if epr then { r with sinkEpr := some best } else { r with sinkMax := some best }
    let s2 := s1.demandRose p was
    let s3 := s2.passMsg p ⟨.sop, if epr then .eprSinkCaps else .sinkCaps, h, wordBytes objs⟩
    if (s.port p).pol.expect == .sinkCaps then ok (s3.seqEnds p) else ok (s3.goNext p)

/-- ALERT (R125): Get_Status is sent; Alert is passed. -/
def execAlert (p : Fin 192) (h : BitVec 16) (ado : BitVec 32) (s : State) : Out :=
  s.whenPolicy p <|
    ok ((s.passMsg p ⟨.sop, .alert, h, wordBytes [ado]⟩).send p { (ctlMsg .getStatus .status).ams with amsEnd := true })

/-- INFORMATION_MESSAGE (R125): recorded and passed; a Status or Not_Supported ends the wait for it. -/
def execInformationMessage (p : Fin 192) (m : Msg) (s : State) : Out :=
  s.whenPolicy p <|
    let s1 := (s.modPol p fun r => { r with lastInfo := some m }).passMsg p m
    let e := (s.port p).pol.expect
    if (m.kind == .status && e == .status) || (m.kind == .notSupported && (e == .status || e == .sinkCaps)) then
      ok (s1.seqEnds p)
    else ok (s1.goNext p)

/-- UNSUPPORTED_REQUEST (R125, R126). -/
def execUnsupportedRequest (p : Fin 192) (s : State) : Out := s.whenPolicy p <| ok (s.notSupported p)

/-- BIST_REQUEST (R125): honoured while VBUS is at vSafe5V, otherwise ignored. In Carrier Mode the transmitter drives the line until
TX_DONE; Test Data mode lasts until a Hard_Reset or a detach (PRESUMED from the standard, log entry 7). -/
def execBistRequest (p : Fin 192) (carrier : Bool) (s : State) : Out :=
  s.whenPolicy p <|
    let q := (s.port p).path
    if q.gate && q.target == 5000 && q.slewTo.isNone then
      if carrier then ok (s.modPd p fun r => { r with txActive := true }) else ok (s.modPol p fun r => { r with bist := true })
    else ok (s.goNext p)

/-- UNEXPECTED_MESSAGE (R116, R125). -/
def execUnexpectedMessage (p : Fin 192) (s : State) : Out := s.whenPolicy p <| ok (s.protocolError p)
/-- UNCHUNKED_EXTENDED (R75, R125, R126). -/
def execUnchunkedExtended (p : Fin 192) (s : State) : Out := s.whenPolicy p <| ok (s.notSupported p)
/-- UNRECOGNISED_MESSAGE (R126). -/
def execUnrecognisedMessage (p : Fin 192) (s : State) : Out := s.whenPolicy p <| ok (s.notSupported p)

/-! ### Timers -/

/-- SRC_TRANSITION_EXPIRY (R109, R173): while tSrcTransition runs after an Accept the transition is posted, with the requested current as the limit. -/
def execSrcTransitionExpiry (p : Fin 192) (s : State) : Out :=
  let q := (s.port p).pol
  if q.state == .transition && q.expect == .acceptReq then
    match judge q.acked q.req with
    | some a => ok ((s.modPol p fun r => { r with expect := .none }).post p
        { purpose := if a.kind == .fixed then .fixed else .prog, mv := a.mv, ma := a.limit, kind := a.kind, rp := .dflt, minMv := a.lo })
    | none => ok s
  else ok s

/-- SENDER_RESPONSE_EXPIRY (R116). -/
def execSenderResponseExpiry (p : Fin 192) (s : State) : Out :=
  s.whenPolicy p <|
    match (s.port p).pol.expect with
    | .acceptSoft => ok (s.hardReset p .hardResetSent false)
    | .request | .sinkCaps | .status => ok (s.softReset p)
    | .swapReply => ok ((s.swapDone p .timeout).softReset p)
    | _ => ok s

/-- SOURCE_CAP_RESEND (R116): the offer is sent again, or after nCapsCount sends with no PD message the port is TYPEC_ONLY. -/
def execSourceCapResend (p : Fin 192) (s : State) : Out :=
  s.whenPolicy p <|
    let q := s.port p
    if q.pol.state == .sendCaps && q.txFree then
      if q.pol.capsSends ≥ s.param 0x3000 && ! q.pol.pdSeen then ok (s.modPol p fun r => { r with state := .typecOnly })
      else ok (s.sendOffer p q.pol.epr false)
    else ok s

/-- NO_RESPONSE_EXPIRY (R117): no Source_Capabilities acknowledged since a Hard_Reset; a further Hard_Reset, or ErrorRecovery. -/
def execNoResponseExpiry (p : Fin 192) (s : State) : Out :=
  let q := s.port p
  if q.cc.state == .attached && q.pol.pdSeen && q.pol.noResp && (q.pol.state == .hardReset || (q.pol.state == .sendCaps && ! q.pol.hasContract)) then
    ok (s.hardReset p .hardResetSent false)
  else ok s

/-- PPS_KEEPALIVE_EXPIRY (R115). -/
def execPpsKeepaliveExpiry (p : Fin 192) (s : State) : Out :=
  s.whenPolicy p <| if (s.port p).pol.kind == .pps then ok (s.hardReset p .ppsTimeout false) else ok s

/-- EPR_KEEPALIVE_EXPIRY (R113). -/
def execEprKeepaliveExpiry (p : Fin 192) (s : State) : Out :=
  s.whenPolicy p <| if (s.port p).pol.epr then ok (s.hardReset p .eprKeepalive false) else ok s

/-- VCONN_SOURCE_EXPIRY (R122): VCONN stays on and Hard_Reset is sent. -/
def execVconnSourceExpiry (p : Fin 192) (s : State) : Out :=
  s.whenPolicy p <|
    let q := (s.port p).pol
    if q.state == .vconnSwap && q.expect == .swapPsRdy then ok (s.hardReset p .hardResetSent false) else ok s

/-- VCONN_SWAP_RETRY (R121). -/
def execVconnSwapRetry (p : Fin 192) (s : State) : Out :=
  s.whenPolicy p <|
    let q := (s.port p).pol
    if q.isReady && q.expect == .none && ! q.swapBusy && q.swapTries != 0 && q.swapTries ≤ 3 then ok (s.swapSend p q.swapTake q.swapHost) else ok s

/-- FEED_OBJECT_WITHDRAW (R101, R102): an object of the profile whose threshold the active feed is below, as it has been for 1 s, is
withdrawn and a new offer falls due. -/
def execFeedObjectWithdraw (p : Fin 192) (obj : Fin 11) (s : State) : Out :=
  match (s.profileWords p)[obj.val]? with
  | some w =>
    if s.feedShort w && (s.port p).pol.live.contains w then
      ok ((s.modPol p fun q => { q with withdrawn := q.withdrawn ++ [w], live := q.live.filter (· != w) }).offerChange p)
    else ok s
  | none => ok s
/-- FEED_OBJECT_RESTORE (R102): a withdrawn object whose threshold the feed has been at or above for 10 s is restored. -/
def execFeedObjectRestore (p : Fin 192) (obj : Fin 11) (s : State) : Out :=
  match (s.profileWords p)[obj.val]? with
  | some w =>
    if ! s.feedShort w && (s.port p).pol.withdrawn.contains w then
      ok ((s.modPol p fun q => { q with withdrawn := q.withdrawn.filter (· != w) }).offerChange p)
    else ok s
  | none => ok s

/-- EPR_CAPS_SEND (R112, R123). -/
def execEprCapsSend (p : Fin 192) (s : State) : Out :=
  s.whenPolicy p <|
    let q := (s.port p).pol
    if q.epr && q.eprEntry == 4 then ok ((s.modPol p fun r => { r with eprEntry := 0 }).sendOffer p true false) else ok s

end Sys2Proof.Machine
end

