-- ==== Sys2Proof/Machine/Vdm.lean ====
section
/-! DEFINITION. Structured VDMs, cable and SOP discovery, and Rally mode (R132–R157). -/
namespace Sys2Proof.Machine

/-! ### Cable class (R136) -/

/-- The class a Discover Identity ACK gives, first matching row; the VDO fields are those of the standard (log entry 7). -/
def cableClass (vdos : List Word) : CableClass :=
  let typ := bits ((vdos[0]?).getD 0#32) 27 3
  if typ == 6 then .vpd
  else if typ != 3 && typ != 4 then .malformed
  else match vdos[3]? with
    | none => .malformed
    | some v =>
      match bits v 5 2 with
      | 1 => .cable3A
      | 2 => if bit v 17 && bits v 9 2 == 3 then .cableEpr else .cable5A
      | _ => .malformed

/-! ### Rally values (R146–R150) -/

def pledgeOf (vdo : Word) : Nat := bits vdo 10 10
/-- A Pledge VDO is void when its REACT is 0b11 or slower than the mode's class (R146, R149). -/
def pledgeVoid (r : Rally) (vdo : Word) : Bool := decide (bits vdo 20 2 > r.react) || bits vdo 20 2 == 3
/-- A contract stands whose power is within `alloc` quanta. -/
def Pol.drawsWithin (q : Pol) (alloc : Nat) : Bool := q.hasContract && decide (q.mv * q.ma ≤ alloc * 250000)
/-! ### Received VDMs (R132, R141, R143) -/

/-- A received VDM as the receiver records it. -/
def vdmRx (h : BitVec 16) (sop : Sop) (hdr : Word) (vdos : List Word) : Msg := ⟨sop, .vdm, h, wordBytes (hdr :: vdos)⟩
/-- A VDM event is posted, and the VDM passed when passthrough is on (R143). -/
def State.vdmEvent (s : State) (p : PortId) (sub : Nat) (m : Msg) : State := s.vdmTell p sub (some m) 0#32
/-- An answer to a REQ at the device's version (R132, R141). -/
def State.vdmAnswer (s : State) (p : PortId) (hdr : Word) (typ : Nat) (vdos : List Word) : State :=
  s.send p (vdmMsg .sop (vdmHeader (vdmSvid hdr) (s.port p).pd.rev3 (bits hdr 8 3) typ (vdmCmd hdr)) vdos .none)
/-- The ID Header of R142, with the VID of parameter 0x6000, unless PARAM_SET has written another. -/
def State.idHeader (s : State) : Word := (s.paramOv 0x8001).getD (BitVec.ofNat 32 (0x01C00000 + s.param 0x6000))

/-- VDM_REQUEST (R141, R142, R147): Discover Identity is ACKed; every other command is answered NAK. -/
def execVdmRequest (p : Fin 192) (hdr : BitVec 32) (_vdos : List (BitVec 32)) (s : State) : Out :=
  s.whenPolicy p <|
    if vdmCmd hdr == 1 then
      ok (s.vdmAnswer p hdr 1 [s.idHeader, BitVec.ofNat 32 (s.param 0x8002),
        packWord [(s.param 0x6001, 16, 16), (valLE ((s.upd.runHead.drop 0x14).take 2), 0, 16)]])
    else ok (s.vdmAnswer p hdr 2 [])

/-- UNSTRUCTURED_VDM (R132, R143): Not_Supported at revision 3.x, ignored at 2.0; R141 does not consume it, so it is UNSOLICITED. -/
def execUnstructuredVdm (p : Fin 192) (h : BitVec 16) (hdr : BitVec 32) (vdos : List (BitVec 32)) (s : State) : Out :=
  s.whenPolicy p <| ok ((s.vdmEvent p 8 (vdmRx h .sop hdr vdos)).notSupported p)

/-- An ACK to a request of the device (R136–R140, R144, R147, R148, R150). -/
def State.vdmAck (s : State) (p : PortId) (r : VdmReq) (m : Msg) (vdos : List Word) : State :=
  let q := s.port p
  match r with
  | .cableIdentity =>
    let id := (vdos[0]?).getD 0#32
    s.cableEnd p (cableClass vdos) (id.setWidth 16) (((vdos[2]?).getD 0#32 >>> 16).setWidth 16) ((vdos[3]?).getD 0#32)
  | .sopIdentity =>
    let id := (vdos[0]?).getD 0#32
    (s.modRally p fun x =>
      { x with vid := id.setWidth 16, pid := ((vdos[2]?).getD 0#32 >>> 16).setWidth 16,
               svids := [], sawRally := false, step := if bit id 26 then .svids 1 else .ended }).vdmEvent p 1 m
  | .sopSvids =>
    let l : List (BitVec 16) := vdos.flatMap fun (v : Word) => [BitVec.setWidth 16 (v >>> 16), BitVec.setWidth 16 v]
    let got := l.takeWhile (· != 0#16)
    let n := match q.rally.step with | .svids n => n | _ => 4
    let s1 := s.modRally p fun x =>
      { x with svids := (x.svids ++ got).take 24, sawRally := x.sawRally || got.contains (BitVec.ofNat 16 rallySvid) }
    if l.contains 0#16 || vdos.length < 6 || n ≥ 4 then s1.svidsEnd p (some m)
    else (s1.modRally p fun x => { x with step := .svids (n + 1) }).passMsg p m
  | .sopModes =>
    let good := fun v : Word => bits v 28 4 == 1 && bits v 18 2 != 3
    -- Mode VDOs that are not accepted are recorded, and the VDM that carries them is passed (R143, R148)
    let bad := vdos.filter (! good ·)
    let s1 := s.modRally p fun x => { x with modesBad := bad, step := .ended }
    let s2 := if bad.isEmpty then s1 else s1.vdmEvent p 8 m
    match vdos.zipIdx.find? (fun e => good e.1) with
    | some (v, k) => s2.modRally p fun x =>
        { x with step := .enter, objPos := k + 1, react := bits v 18 2, attn := bit v 17, maxPledge := min 960 (bits v 0 10) }
    | none => s2
  | .sopEnter =>
    (s.modRally p fun x => { x with active := true, step := .ended, noticeDue := true, noticeAt := none, noticeState := 0, nakRun := 0, heldOff := false }).vdmEvent p 3 m
  | .notice =>
    match vdos[0]? with
    | some v => if pledgeVoid q.rally v then s.noticeNak p false (some m) else
        s.modRally p fun x =>
          { x with pledgeNext := some (pledgeOf v, bits v 20 2, bits v 0 10), pledgeMsg := some m, nakRun := 0 }
    | none => s.noticeNak p false (some m)
  | .hostVdm => s.replyToHost p .vdmReply m
  | _ => s

/-- VDM_RESPONSE (R134, R141, R143): what answers no request of the device is ignored and passed. A CURTAIL abandoned after its third
BUSY is neither acknowledged nor refused: the curtailment stands until CURTAIL_REACTION_EXPIRY breaks the pledge (DESIGN CHOICE, log
entry 66). -/
def execVdmResponse (p : Fin 192) (h : BitVec 16) (sop : Sop) (ans : VdmAnswer) (hdr : BitVec 32) (vdos : List (BitVec 32)) (s : State) : Out :=
  s.whenPolicy p <|
    let r := (s.port p).rally
    let m := vdmRx h sop hdr vdos
    if r.req == .none || sop != r.reqSop || vdmCmd hdr != vdmCmd r.reqHdr || vdmSvid hdr != vdmSvid r.reqHdr then
      ok ((s.vdmEvent p 8 m).goNext p)
    else
      let s1 := s.modRally p fun x => { x with req := .none, busyN := if ans == .busy then x.busyN + 1 else 0 }
      match ans with
      | .ack => ok ((s1.vdmAck p r.req m vdos).goNext p)
      | .nak => ok ((s1.vdmNak p r.req (some m)).goNext p)
      | .busy =>
        if r.busyN + 1 < 3 then ok (s1.modRally p fun x => { x with busyReq := r.req })
        else
          let s2 := s1.modRally p fun x => { x with busyN := 0 }
          if r.req == .hostVdm then ok ((s2.finishPort p .vdmReply .partnerWait []).goNext p)
          else if r.req == .curtail then ok (s2.goNext p)
          else ok ((s2.vdmNak p r.req none).goNext p)

/-- VDM_RESPONSE_TIMEOUT (R134): treated as NAK. -/
def execVdmResponseTimeout (p : Fin 192) (s : State) : Out :=
  s.whenPolicy p <|
    let r := (s.port p).rally.req
    if r == .none || (s.port p).pol.flight.isSome then ok s
    else ok (((s.modRally p fun x => { x with req := .none, busyN := 0 }).vdmNak p r none).goNext p)

/-- VDM_BUSY_RETRY (R134): the request is sent again. -/
def execVdmBusyRetry (p : Fin 192) (s : State) : Out :=
  s.whenPolicy p <|
    let r := (s.port p).rally
    if r.busyReq == .none || r.req != .none || ! (s.port p).pol.isReady then ok s
    else ok (s.sendVdm p r.reqSop r.busyReq r.reqHdr r.reqVdos)

/-- DISCOVER_IDENTITY_ATTEMPT (R135, R136, R139): the next attempt, or the first one where the device has come to source VCONN; after the
last of nDiscoverIdentityCount the class is SILENT. -/
def execDiscoverIdentityAttempt (p : Fin 192) (s : State) : Out :=
  s.whenPolicy p <|
    let q := s.port p
    if ! q.pol.discRun then ok (s.startCable p)
    else if q.pol.discTries ≥ s.param 0x7001 && q.rally.req == .none && q.pol.flight.isNone && (q.pol.isReady || q.pol.eprEntry == 3) then
      ok ((s.cableEnd p .silent 0#16 0#16 0#32).goNext p)
    else ok (s.discAttempt p)

/-! ### Rally mode (R145–R156) -/

/-- ATTENTION (R141, R143, R152). -/
def execAttention (p : Fin 192) (h : BitVec 16) (hdr vdo : BitVec 32) (s : State) : Out :=
  s.whenPolicy p <|
    let r := (s.port p).rally
    if vdmSvid hdr == rallySvid && r.active && r.attn then
      let v := if pledgeVoid r vdo then (0, 0, 0) else (pledgeOf vdo, bits vdo 20 2, bits vdo 0 10)
      ok ((s.modRally p fun x => { x with pledgeNext := some v, pledgeMsg := some (vdmRx h .sop hdr [vdo]), noticeDue := true }).goNext p)
    else ok ((s.vdmEvent p 7 (vdmRx h .sop hdr [vdo])).goNext p)

/-- RALLY_NOTICE_DUE (R150, R156): a NOTICE falls due PERIOD after the last, or stands due already. -/
def execRallyNoticeDue (p : Fin 192) (s : State) : Out :=
  s.whenPolicy p <|
    let r := (s.port p).rally
    let due := r.noticeAt.all fun t => decide (t + secCycles (s.param 0x9006) ≤ s.aon)
    if r.active then ok ((s.modRally p fun r => { r with noticeDue := r.noticeDue || due }).noticeNext p) else ok s

/-- CURTAIL_CONFIRM (R153): after eight consecutive samples below TARGET over the contract voltage, the curtailment confirms a decrease
to TARGET or above. -/
def execCurtailConfirm (p : Fin 192) (s : State) : Out :=
  let q := s.port p
  match q.rally.curtail with
  | some t =>
    if ! q.rally.curtConf && q.sb.curRun ≥ 8 then
      ok (s.modPort p fun q => { q with rally := { q.rally with curtConf := true },
                                        sb := { q.sb with confirmed := q.sb.confirmed || q.sb.decided.any (t ≤ ·) } })
    else ok s
  | none => ok s

/-- CURTAIL_REACTION_EXPIRY (R149, R154): the bound runs from the answer to CURTAIL. No VDM answers it, so none is passed. -/
def execCurtailReactionExpiry (p : Fin 192) (s : State) : Out :=
  let r := (s.port p).rally
  if r.curtail.isSome && ! r.curtConf && r.owed != .curtail && r.req != .curtail then ok (s.pledgeBroken p none)
  else ok s

/-- CURTAIL_HOLD_EXPIRY (R146, R153): a curtailment that outlasts HOLD, of which 0 is without limit, ends by RESTORE where the allocation
permits it, otherwise the ladder goes on from its first step. -/
def execCurtailHoldExpiry (p : Fin 192) (s : State) : Out :=
  let q := s.port p
  if q.rally.curtail.isSome && q.rally.curtHold != 0 && decide (q.rally.curtAt + secCycles (60 * q.rally.curtHold) ≤ s.aon) then
    if q.sb.decided.isNone && q.sb.alloc ≥ q.rally.preAlloc then ok (s.restoreSend p) else ok (s.ladderOn p)
  else ok s

/-- BROKEN_HOLDOFF_EXPIRY (R154). -/
def execBrokenHoldoffExpiry (p : Fin 192) (s : State) : Out := ok (s.modRally p fun r => { r with heldOff := false })

end Sys2Proof.Machine
end

