-- ==== Sys2Proof/Machine/Feeds.lean ====
section
/-! DEFINITION. The feed controller: qualification, insertion, inrush, breaker and trips, changeover, power good and
retry (R185–R209). -/
namespace Sys2Proof.Machine

/-! ### Access -/

def State.feed (s : State) : FeedId → Feed
  | .fda => s.feedA | .fdb => s.feedB
def State.modFeed (s : State) (f : FeedId) (g : Feed → Feed) : State :=
  match f with
  | .fda => { s with feedA := g s.feedA } | .fdb => { s with feedB := g s.feedB }
def FeedId.other : FeedId → FeedId
  | .fda => .fdb | .fdb => .fda
/-- The ACTIVE feed (FD_STAT.ACTIVE). -/
def State.activeFeed (s : State) : Option FeedId :=
  if s.feedA.state == .active then some .fda else if s.feedB.state == .active then some .fdb else none
/-- Configured and enabled (R187). -/
def Feed.ready (q : Feed) : Bool := q.enabled && q.use.rated != 0 && q.use.shunt != 0
/-- A feed is stuck until an ENABLE for it is accepted (R198). -/
def State.feedStuck (s : State) : Bool :=
  (s.feedA.state == .disabled && s.feedA.cause == .stuckBank) || (s.feedB.state == .disabled && s.feedB.cause == .stuckBank)
/-- The settings in force of a feed, which it uses from its next breaker tick (R209, R366). -/
def State.feedSet (s : State) (f : FeedId) : FeedUse :=
  let q := s.feed f
  let fb2 := match f with | .fda => s.cfg.fdaCurve | .fdb => s.cfg.fdbCurve
  ⟨q.ov, q.uvq, q.uvt, q.rated, q.shunt, q.ftmv, if fb2 then q.fb2 else feedFB0, s.cfg.insDelay, s.cfg.returnDelay⟩
/-- Connected or on its way in or out. -/
def FeedState.busy : FeedState → Bool
  | .inrush | .active | .opening => true
  | _ => false

/-! ### FEED_CHANGE (R194, R126) -/

/-- Every port with a 3.x contract is sent an Alert with Source Input Change (R126); FEED_CHANGE, which carries the new V_FEED, is owed to
the attached ports from the boundary that publishes it (R229, R300; DEDUCED, log entry 61). -/
def State.feedAlert (s : State) : State :=
  allPorts.foldl (fun s p =>
    let q := s.port p
    if q.pol.hasContract && q.pol.cRev3 && s.policyOn p then
      s.send p { (objMsg .alert [0x20000000#32] .none).ams with amsEnd := true } else s) (s.modBoard fun b => { b with feedNews := true })
def State.feedEvt (s : State) (f : FeedId) (c : FeedCause) : State :=
  let s1 := s.modFeed f fun q => { q with cause := c }
  (s1.postEvt none (.feedChange f c (s1.feed f).state s1.activeFeed (s1.board.vbusc / 10))).feedAlert

/-! ### Loss of every feed (R196) -/

/-- A port's switch is opened by ST10 under shedding or R196: the contract ends with SHED_DISCONNECT (R196, R236). -/
def State.disconnectPort (s : State) (p : PortId) : State :=
  let s1 := (s.endContract p .shedDisconnect).rallyEnd p true
  let s2 := (s1.pdStop p).modPort p fun q =>
    { q with pol := { q.pol with state := .detached, outq := [], flight := none, expect := .none, newOffer := false },
             sb := { q.sb.voidDecrease with disconnecting := true, regrant := false } }
  (s2.abortDescs p fun _ => false).post p (plainPost .disc)
/-- A port whose switch is open gives back what it holds above its reserve (R211). -/
def State.giveBack (s : State) (p : PortId) : State :=
  let q := s.port p
  if q.holdsAlloc then s.modPort p fun q => q.release s.board.reserve .shed else s
/-- With no feed ACTIVE and no changeover, ST10 goes to every closed port, every allocation above the reserve is released, and PG goes low
once it has held for 1 ms (R196, R201, R211). -/
def State.noFeed (s : State) : State :=
  let shut := fun p => (s.port p).path.gate && ! (s.port p).sb.disconnecting
  if s.activeFeed.isSome || s.board.changeover.isSome || (s.board.suspended && ! s.board.regrantPg && ! allPorts.any shut) then s
  else
    let s1 := s.modBoard fun b => { b with pg := b.pg && b.pgHold != 0, suspended := true, regrantPg := false }
    let s2 := allPorts.foldl (fun s p => if shut p then s.disconnectPort p else s.giveBack p) s1
    s2.postEvt none (.shed .noFeed 0 0xFF)

/-! ### Selection and qualification (R188, R190, R191) -/

/-- A feed enters INRUSH: the gate is driven and the breaker runs on FB1 (R192). -/
def State.toInrush (s : State) (f : FeedId) : State :=
  s.modFeed f fun q => { q with state := .inrush, gate := true, offOk := false, fb1 := true, due := none, activeRun := false }
/-- A STANDBY feed is connected when none is ACTIVE: FDA first (R191, R198, R207). -/
def State.feedSelect (s : State) : State :=
  if ! s.feedUp || s.board.changeover.isSome || s.ref.safe || s.feedStuck || s.feedA.state.busy || s.feedB.state.busy then s
  else if s.feedA.state == .standby then s.toInrush .fda
  else if s.feedB.state == .standby then s.toInrush .fdb
  else s
/-- Descriptors that wait for the feed to reach STANDBY or ACTIVE complete (R205). -/
def State.feedWaits (s : State) (f : FeedId) : State :=
  let st := (s.feed f).state
  if st == .standby || st == .active then s.finish (fun w => w.what == .feedReady f) .ok 0 [] else s
/-- A voltage is inside a feed's window: UV_QUAL to OV_TRIP − 1.0 V (R188). -/
def Feed.inWindow (q : Feed) (mv : Nat) : Bool := decide (q.use.uvq * 100 ≤ mv) && decide (mv + 1000 ≤ q.use.ov * 100)
/-- The qualification of a feed (R187, R188, R190, R202): whether it is inside its window, which an ACTIVE one leaves only by R194, the
time for which it has been inside it and seated, and its state. A feed that is no longer configured and enabled is DISABLED. -/
def Feed.qualify (q0 : Feed) (seated : Bool) (now : Nat) : Feed :=
  let win := if q0.state == .active then q0.inWin else q0.inWindow q0.mv
  let q := { q0 with inWin := win, qualAt := if win && seated then some (q0.qualAt.getD now) else none }
  match q.state with
  | .disabled => if q.ready && q.cause != .stuckBank then
      { q with state := if q.inWin && seated then .insertDelay else .waitWindow } else q
  | .waitWindow | .insertDelay | .standby =>
    if ! q.ready then { q with state := .disabled, due := none }
    else if ! (q.inWin && seated) then { q with state := .waitWindow }
    else if q.state == .waitWindow then { q with state := .insertDelay } else q
  | .backoff => if ! q.ready then { q with state := .disabled, due := none } else q
  | _ => q
def State.feedQualify (s : State) (f : FeedId) : State := (s.modFeed f fun q => q.qualify s.board.seated s.aon).feedSelect

/-- FEED and SVC come up, and the feeds are qualified, once every tile has been released or is late (R407, R408), and after a wake once
every tile has been reloaded besides, or is late or lost (R405). While the tiles are kept in reset there is no staging, and neither domain
comes up (DEDUCED, log entry 71). -/
def State.releaseFeedSvc (s : State) : State :=
  let staged := s.tiles.toList.all fun q => q.released || q.late
  let loaded := s.tiles.toList.all fun q => q.reloaded || q.late || q.safe
  if s.pwr.domUp && s.domFenced domFeed && staged && (! s.pwr.woke || loaded) then
    let s1 := (((s.setPowered domFeed true).setPowered domSvc true).setFence domFeed false).setFence domSvc false
    ((s1.modPwr fun w => { w with woke := false }).feedQualify .fda).feedQualify .fdb
  else s

/-- A feed takes up its settings, and is qualified by them (R209, R366). -/
def State.feedTakeUp (s : State) (f : FeedId) : State :=
  if (s.feed f).use == s.feedSet f then s else (s.modFeed f fun q => { q with use := s.feedSet f }).feedQualify f

/-- A feed has been inside its window and seated for INS_DELAY, counted in AON cycles (R190, R202). -/
def State.feedSettled (s : State) (f : FeedId) : Bool :=
  (s.feed f).qualAt.any fun t => decide (t + ((s.feed f).use.ins * 32768 + 99) / 100 ≤ s.aon)

/-! ### Opening (R194, R197, R198, R202) -/

/-- The bank's gate is pulled down and off confirmation is pending. -/
def Feed.open (q : Feed) (after : FeedState) : Feed :=
  { q with state := .opening, gate := false, offOk := false, after := after, activeRun := false }
/-- Seconds from a failure to the next attempt (R202). -/
def feedBackoff (n : Nat) : Nat := ([5, 10, 20, 40, 80, 160][n - 1]?).getD 300
def FeedCause.retries : FeedCause → Bool
  | .fast | .breaker | .reverse | .inrushTimeout => true
  | _ => false

/-- A condition of R194 ends a connection: pull-down at once, FEED_CHANGE, a changeover to the STANDBY feed where R191 or R209
gives one, the retry schedule where R202 does. -/
def State.feedTrip (s : State) (f : FeedId) (c : FeedCause) : State :=
  let q := s.feed f
  if q.state != .inrush && q.state != .active then s
  else
    let o := f.other
    let was := q.state
    let s1 := s.modFeed f fun q =>
      if c.retries then
        let n := min 255 (q.retryCnt + 1)
        { (q.open .backoff) with retryCnt := n, due := some (s.aon + secCycles (feedBackoff n)) }
      else q.open .waitWindow
    -- the release of SEAT_N is no trip: PG keeps its 1 ms (R201)
    let s2 := s1.modBoard fun b => { b with pg := b.pg && c == .unseated && b.pgHold != 0, pgHold := if c == .unseated then b.pgHold else 0, changeover := if was == .inrush then none else b.changeover, returnRun := false }
    let s3 := if (was == .active || s.board.changeover.isSome) && (s2.feed o).state == .standby && ! s2.ref.safe && ! s2.feedStuck
          && c != .unseated then
        s2.modBoard fun b => { b with changeover := some (o, c) } else s2
    -- a changeover that its incoming feed's trip ends completes what waited for its end (R209)
    let s4 := if was == .inrush then s3.finish (fun w => w.what == .feedOff o) .ok 0 [] else s3
    (s4.feedEvt f c).noFeed

/-- The breaker sets of R193. -/
def feedFB1 : List (Nat × Nat) :=
  [(18, 60000), (20, 30000), (24, 20000), (32, 4000), (40, 1000), (48, 400), (56, 100), (64, 20)]
/-- The breaker set a feed runs on (R192, R193). -/
def State.feedCurve (s : State) (f : FeedId) : List (Nat × Nat) :=
  let q := s.feed f
  if q.fb1 then feedFB1
  else q.use.curve
/-- What a protection shows meets its condition of R194; the feed keeper acts on fast trip, reverse current and over-voltage only (R204). -/
def State.feedShows (s : State) (f : FeedId) (x : FeedTripping) : Bool :=
  let q := s.feed f
  match x with
  | .fast mv => decide (q.use.ftmv < mv)
  | .breaker => s.feedUp && (accTripped (s.feedCurve f) q.acc).isSome
  | .reverse ma => decide (q.use.rated * 250 < ma * 16)
  | .overvolt mv => decide (q.use.ov * 100 < mv)
  | .undervolt mv => s.feedUp && decide (mv < q.use.uvt * 100)
def FeedTripping.cause : FeedTripping → FeedCause
  | .fast _ => .fast | .breaker => .breaker | .reverse _ => .reverse | .overvolt _ => .overvolt | .undervolt _ => .undervolt
/-- What shows on a feed in one tick trips it once. OVERVOLT comes first (R209); the others come in the order of their causes' codes,
UNDERVOLT last (DESIGN CHOICE, log entry 61). -/
def State.feedCause (s : State) (f : FeedId) (xs : List FeedTripping) : Option FeedCause :=
  [FeedCause.overvolt, .fast, .breaker, .reverse, .undervolt].find? fun c => xs.any fun x => x.cause == c && s.feedShows f x
def State.feedTripTick (s : State) (f : FeedId) (xs : List FeedTripping) : State :=
  let s1 := xs.foldl (fun s x => match x with
    | .overvolt mv | .undervolt mv => if s.feedShows f x then s.modFeed f fun q => { q with mv := mv } else s
    | _ => s) s
  match s.feedCause f xs with
  | some c => s1.feedTrip f c
  | none => s

/-! ### Seating and window (R188–R191) -/

/-- SEAT_QUALIFIED (R189, R190, R203, R404): the feeds are qualified while the feed controller works. -/
def execSeatQualified (s : State) : Out :=
  let s1 := s.modBoard fun b => { b with seated := true }
  ok ((if s.feedUp then (s1.feedQualify .fda).feedQualify .fdb else s1).wakeReq 4)

/-- A changeover that the release of SEAT_N abandons leaves its outgoing feed, whose bank is opening, with cause UNSEATED (R194, R209). -/
def State.unseatOpening (s : State) (f : FeedId) : State :=
  if (s.feed f).state == .opening then
    (s.modFeed f fun q => { q with after := if q.after == .standby then .waitWindow else q.after }).feedEvt f .unseated
  else s
/-- SEAT_RELEASED (R189, R194, R201, R209): both banks are pulled down with cause UNSEATED. -/
def execSeatReleased (s : State) : Out :=
  let sc := match s.board.changeover with
    | some (g, _) => (s.modFeed g fun q => { q with cause := .unseated }).unseatOpening g.other
    | none => s
  let s1 := sc.modBoard fun b => { b with seated := false, pg := b.pg && b.pgHold != 0, changeover := none, returnRun := false }
  let s2 := (s1.feedTrip .fda .unseated).feedTrip .fdb .unseated
  let s3 := (s2.feedQualify .fda).feedQualify .fdb
  ok (((s3.noFeed).finish (fun w => w.what == .feedOff .fda || w.what == .feedOff .fdb) .ok 0 []).wakeReq 4)

/-- FEED_WINDOW_CHANGE (R188, R190): of a feed that is not connected; an ACTIVE one leaves its window only by R194. -/
def execFeedWindowChange (f : FeedId) (mv : Nat) (s : State) : Out :=
  if (s.feed f).state == .active || ! s.feedUp then ok s
  else ok ((s.modFeed f fun q => { q with mv := mv }).feedQualify f)

/-- INSERT_DELAY_EXPIRY (R190, R191): after INS_DELAY without interruption the feed is in STANDBY, and connected where R191 says so; RETURN_DELAY starts for FDA. Feeds whose delays end in the
same tile cycle reach STANDBY together. -/
def execInsertDelayExpiry (f : FeedId) (both : Bool) (s : State) : Out :=
  if (s.feed f).state == .insertDelay && s.feedSettled f && s.feedUp then
    let up := fun q : Feed => if q.state == .insertDelay then { q with state := .standby } else q
    let s1 := (s.modFeed f up).modBoard fun b =>
      { b with returnRun := b.returnRun || (f == .fda && s.feedB.state == .active && s.feedA.use.ret != 0) }
    let s2 := if both && s.feedSettled f.other then (s1.modFeed f.other up).feedWaits f.other else s1
    ok ((s2.feedWaits f).feedSelect)
  else ok s

/-- PRIORITY_RETURN (R191, R207): a trip of FDB in the same tick decides the changeover's cause (R209). -/
def execPriorityReturn (also_ : List FeedTripping) (s : State) : Out :=
  if s.feedUp && s.feedB.state == .active && s.feedA.state == .standby && s.board.changeover.isNone && ! s.ref.safe && ! s.feedStuck
      && s.feedA.use.ret != 0 then
    if (s.feedCause .fdb also_).isSome then ok (s.feedTripTick .fdb also_)
    else ok ((s.modFeed .fdb fun q => { q.open .standby with cause := .priorityReturn }).modBoard fun b =>
      { b with changeover := some (.fda, .priorityReturn), returnRun := false })
  else ok s

/-! ### Inrush (R192) -/

/-- The gate has its full drive and the bus stands within 1.0 V of the feed (R192). -/
def inrushMet (vgs mv vbusc : Nat) : Bool := decide (9000 ≤ vgs) && decide (mv ≤ vbusc + 1000) && decide (vbusc ≤ mv + 1000)
/-- INRUSH_COMPLETE (R191, R192, R197): the feed is ACTIVE once what is measured says so; a changeover ends; FEED_CHANGE is posted. -/
def execInrushComplete (f : FeedId) (vgs mv vbusc : Nat) (s : State) : Out :=
  if s.feedUp && (s.feed f).state == .inrush && inrushMet vgs mv vbusc then
    let c := match s.board.changeover with | some (_, c) => c | none => FeedCause.none
    let s1 := (s.modFeed f fun q => { q with state := .active, fb1 := false, activeRun := true, mv := mv }).modBoard fun b =>
      { b with vbusc := vbusc, changeover := none, returnRun := f == .fdb && s.feedA.state == .standby && s.feedA.use.ret != 0 }
    ok (((s1.feedEvt f c).feedWaits f).finish (fun w => w.what == .feedOff f.other) .ok 0 [])
  else ok s

/-- INRUSH_TIMEOUT (R192, R194). -/
def execInrushTimeout (f : FeedId) (s : State) : Out :=
  if s.feedUp && (s.feed f).state == .inrush then ok (s.feedTrip f .inrushTimeout) else ok s

/-! ### Breaker and PG (R193, R200, R201) -/

/-- The feed whose ISN pin gives VBUSC: the active one, or the one a changeover connects (R185). -/
def State.busFeed (s : State) : Option FeedId :=
  match s.board.changeover with
  | some (g, _) => some g
  | none => s.activeFeed
/-- One tick of the measured feed power, µW: each 20 ticks make a 1 ms mean, which is compared with the budget in force (R235, R237,
R240). -/
def Board.powerTick (b : Board) (uw : Nat) : Board :=
  let sum := b.feedSum + uw
  if b.feedN + 1 < 20 then { b with feedSum := sum, feedN := b.feedN + 1 }
  else
    let mean := sum / 20
    { b with feedSum := 0, feedN := 0, feedP := mean / 250000,
             feedHi := if mean * 100 > 102 * b.budgetNow * 250000 then b.feedHi + 1 else 0,
             feedLo := if mean * 100 ≤ 98 * b.budgetNow * 250000 then b.feedLo + 1 else 0 }
/-- PG that has risen lets SHED ports ask to be granted again (R196, R211). -/
def State.pgRisen (s : State) : State :=
  if s.board.suspended then
    (allPorts.foldl (fun s p =>
      if (s.port p).sb.state == .shed && (s.port p).cc.state == .attached then
        s.modSb p fun b => { b with regrant := true, admOrd := some s.board.admitNext, arrOrd := some s.board.admitNext } else s) s).modBoard
      fun b => { b with admitNext := b.admitNext + 1 }
  else s
/-- PG at the end of a tick of the feed on the bus (R200, R201): once high it holds for 20 ticks (1 ms), VBUSC out of range counts after two
(100 µs), and a changeover keeps it. -/
def State.pgTick (s : State) (f : FeedId) (before : List Nat) : State :=
  let q := s.feed f
  let b := s.board
  let curve := s.feedCurve f
  let live := q.state == .active || b.changeover.isSome
  let small := (q.acc.zip curve).all fun e => decide (e.1 ≤ e.2.2)
  let started := (before.zip q.acc).any fun e => e.1 == 0 && e.2 != 0
  let large := (q.acc.zip curve).any fun e => decide (e.1 > 4 * e.2.2)
  let out := decide (b.vbusc < q.use.uvt * 100) || decide (b.vbusc > q.use.ov * 100)
  let outN := if out then min 2 (b.pgOut + 1) else 0
  let up := q.state == .active && q.inWindow b.vbusc && small && ! started
  let pg := if b.pg then b.pgHold != 0 || (live && b.seated && ! (large || decide (outN ≥ 2))) else up
  if pg && ! b.pg then (s.modBoard fun b => { b with pg := true, pgHold := 20, pgOut := outN, regrantPg := true }).pgRisen
  else s.modBoard fun b => { b with pg := pg, pgHold := b.pgHold - 1, pgOut := outN }

/-- FEED_BREAKER_TICK (R193, R200, R201, R208, R229, R235): the accumulators of a connected feed, the energy it delivers, its measurements,
and PG at the end of the tick. Settings that a kickoff has changed are taken up first, the accumulators kept (R209, R366). In DEEP no
accumulator counts; a feed current above RATED/32 requests a wake (R204). -/
def execFeedBreakerTick (f : FeedId) (mv : Nat) (ma : Int) (vbusc : Nat) (s0 : State) : Out :=
  let s := if s0.feedUp then s0.feedTakeUp f else s0
  let q := s.feed f
  if ! s0.feedUp then ok (if ma * 32 > (q.use.rated * 250 : Nat) then s.wakeReq 3 else s)
  else
    let on := q.state == .inrush || q.state == .active
    let acc := if on then accTick (s.feedCurve f) (q.use.rated * 250) ma q.acc else q.acc
    let e := q.energyRem + (if on then mv * ma.toNat else 0)
    let s1 := s.modFeed f fun q => { q with mv := mv, ma := ma, acc := acc, energy := (q.energy + e / 20000000) % 2 ^ 64, energyRem := e % 20000000 }
    -- with no feed ACTIVE the measured power is 0, told by the tick of FDA
    let s2 := s1.modBoard fun b =>
      let b1 := { b with vbusc := if s.busFeed == some f then vbusc else b.vbusc }
      let b2 := if q.state == .active then { b1 with vSum := b.vSum + mv, vN := b.vN + 1 } else b1
      if q.state == .active then b2.powerTick (vbusc * ma.toNat)
      else if s.activeFeed.isNone && f == .fda then b2.powerTick 0 else b2
    if s.busFeed.getD .fda == f then ok (s2.pgTick f q.acc) else ok s2

/-- FEED_BREAKER_TRIP (R193, R194, R209). -/
def execFeedBreakerTrip (f : FeedId) (also_ : List FeedTripping) (s : State) : Out := ok (s.feedTripTick f (.breaker :: also_))
/-- What shows on a feed wakes a device in DEEP (R194, R204). -/
def State.feedGuard (s : State) (f : FeedId) (x : FeedTripping) (xs : List FeedTripping) : Out :=
  if s.feedShows f x then ok ((s.feedTripTick f (x :: xs)).wakeReq 3) else ok (s.feedTripTick f xs)
/-- FEED_FAST_TRIP (R194, R204). -/
def execFeedFastTrip (f : FeedId) (mv : Nat) (also_ : List FeedTripping) (s : State) : Out := s.feedGuard f (.fast mv) also_
/-- FEED_REVERSE (R194, R204). -/
def execFeedReverse (f : FeedId) (ma : Nat) (also_ : List FeedTripping) (s : State) : Out := s.feedGuard f (.reverse ma) also_
/-- FEED_OVERVOLT (R194, R204): no retry. -/
def execFeedOvervolt (f : FeedId) (mv : Nat) (also_ : List FeedTripping) (s : State) : Out := s.feedGuard f (.overvolt mv) also_
/-- FEED_UNDERVOLT (R194): no retry. -/
def execFeedUndervolt (f : FeedId) (mv : Nat) (also_ : List FeedTripping) (s : State) : Out := ok (s.feedTripTick f (.undervolt mv :: also_))

/-! ### Off confirmation and changeover (R197, R198) -/

/-- Off confirmation: VGD − VGS below VOFF, of which the typical 1.0 V is taken (DESIGN CHOICE, log entry 61), and a current below RATED/64
(R186, R197). -/
def Feed.isOff (q : Feed) (vgs : Nat) (ma : Int) : Bool := decide (vgs < 1000) && decide (ma.natAbs * 64 < max 1 (q.use.rated * 250))
/-- OFF_CONFIRMED (R193, R197, R198, R205): the accumulators clear and the feed goes where its opening sends it. Of a STUCK_BANK feed it
shows whether the confirmation holds. -/
def execOffConfirmed (f : FeedId) (vgs : Nat) (ma : Int) (s : State) : Out :=
  let q := s.feed f
  let off := q.isOff vgs ma
  if q.gate || ! s.feedUp then ok s
  else if q.state == .opening then
    if ! off then ok s
    else
      let s1 := s.modFeed f fun q =>
        { q with offOk := true, acc := List.replicate 8 0, fb1 := false, state := if q.enabled then q.after else .disabled }
      let s2 := if s1.board.changeover.isSome then s1 else s1.finish (fun w => w.what == .feedOff f) .ok 0 []
      ok (((s2.feedWaits f).feedQualify f).noFeed)
  else ok (s.modFeed f fun q => { q with offOk := off, acc := if off then List.replicate 8 0 else q.acc })

/-- DEAD_TIME_END (R197, R209): 10 µs after off confirmation the incoming feed enters INRUSH. -/
def execDeadTimeEnd (s : State) : Out :=
  match s.board.changeover with
  | some (g, _) =>
    if s.feedUp && (s.feed g.other).offOk && (s.feed g.other).state != .opening && (s.feed g).state != .inrush then
      if s.board.seated && (s.feed g).state == .standby then ok (s.toInrush g)
      else ok (((s.modBoard fun b => { b with changeover := none }).feedSelect).noFeed)
    else ok s
  | none => ok s

/-- STUCK_BANK (R198, R377, R383): DISABLED, the changeover abandoned, recorded by the referee. -/
def execStuckBank (f : FeedId) (s : State) : Out :=
  let q := s.feed f
  if s.feedUp && q.state == .opening && ! q.offOk then
    let s1 := (s.modFeed f fun q => { q with state := .disabled, enabled := false, due := none }).modBoard fun b => { b with changeover := none }
    ok ((((s1.feedEvt f .stuckBank).refRecord 0x0C none none).noFeed).finish
      (fun w => w.what == .feedOff .fda || w.what == .feedOff .fdb) .ok 0 [])
  else ok s

/-! ### Retry (R202, R203) -/

/-- FEED_RETRY_DUE (R185, R202, R207, R404): the due time of a BACKOFF feed has come; in DEEP, which it ends, it is taken up once the feed
controller works. The feed goes to STANDBY where the other feed is ACTIVE, and also
where that is INRUSH or OPENING or a changeover runs, for which R202 names no state (DESIGN CHOICE, log entry 61). -/
def execFeedRetryDue (f : FeedId) (s : State) : Out :=
  let q := s.feed f
  if q.state == .backoff && q.due.any (fun d => decide (d ≤ s.aon)) && ! s.ref.safe then
    let s1 := s.modFeed f fun q => { q with due := none }
    if ! s.feedUp then ok (s.wakeReq 2)
    else if ! (s.feedSettled f && q.inWin && s.board.seated) then ok ((s1.modFeed f fun q => { q with state := .waitWindow }).feedQualify f)
    else if s.activeFeed.isSome || s.board.changeover.isSome || s.feedStuck || (s.feed f.other).state.busy then
      ok ((s1.modFeed f fun q => { q with state := .standby }).feedWaits f)
    else ok (s1.toInrush f)
  else ok s

/-- FEED_RETRY_CLEAR (R202). -/
def execFeedRetryClear (f : FeedId) (s : State) : Out :=
  if s.feedUp && (s.feed f).state == .active && (s.feed f).activeRun then ok (s.modFeed f fun q => { q with retryCnt := 0, activeRun := false }) else ok s

/-- Count and due time cleared; a BACKOFF feed goes to WAIT_WINDOW, and so does one that is still opening for it (R203, R205). -/
def Feed.clearRetry (q : Feed) : Feed :=
  { q with retryCnt := 0, due := none, state := if q.state == .backoff then .waitWindow else q.state,
           after := if q.after == .backoff then .waitWindow else q.after }
/-- FEED_RESEAT_HOLD_EXPIRY (R203). -/
def execFeedReseatHoldExpiry (s : State) : Out :=
  if s.board.seated then ok s
  else ok ((s.modFeed .fda Feed.clearRetry).modFeed .fdb Feed.clearRetry)

end Sys2Proof.Machine
end

