-- ==== Sys2Proof/Machine/Scoreboard.lean ====
section
/-! DEFINITION. The scoreboard: targets, two-phase application, the enforcement ladder, usage tracking, the thermal model,
the VCONN budget and emergency shedding (R210–R241). -/
namespace Sys2Proof.Machine

/-! ### Inputs of a boundary -/

/-- The port draws as a non-PD sink: TYPEC_ONLY, or STARTUP and SEND_CAPS before the first Request (R223). -/
def Pol.nonPd (q : Pol) : Bool :=
  q.state == .typecOnly || (! q.hasContract && (q.state == .startup || q.state == .sendCaps))
/-- Highest Rp level whose power at 5 V is at or below a number of quanta (R223). -/
def rpFor (q : Nat) : RpLevel := if q ≥ 60 then .a30 else if q ≥ 30 then .a15 else .dflt
/-- ST09 sets the Rp level for an allocation (R223, R225). -/
def State.postRp (s : State) (p : PortId) (q : Nat) : State :=
  (s.modSb p fun b => { b with rpReq := rpFor q, rpWait := true, loRun := 0 }).post p { plainPost .rpLevel with rp := rpFor q }

/-- Ambient of a tile, 1/16 °C: its NTC reading and AMB_OFS (R230). -/
def State.ta16 (s : State) (t : TileId) : Int := (s.tile t).ntc16 + 16 * s.cfg.ambOfs
/-- The model temperature one cycle later (R230): 10 ms, RC in 0.5 mΩ, CTH in 0.1 J/K. -/
def thermStep (t ta ma : Rat) (rc rth cth : Nat) : Rat :=
  t + (1 / (10 * (cth : Rat))) * (ma * ma / 1000000 * ((rc : Rat) / 2000) - (t - ta) / rth)
/-- The mean of a cycle's samples. -/
def meanRat (l : List Int) : Rat := if l.isEmpty then 0 else (l.sum : Rat) / (l.length : Rat)
/-- The row of R231, with the 5 K below which a cap is removed. -/
def thermRow (t : Rat) (tLim band row : Nat) : Nat :=
  if t ≥ tLim then 2 else if t ≥ (tLim : Rat) - band then 1 else if row != 0 && t ≥ (tLim : Rat) - band - 5 then 1 else 0
/-- The cap of the middle row in quanta: V × sqrt((T_LIM − ta) / (Rth × Rc)), rounded down (R231). -/
def thermCap (mv tLim : Nat) (ta16 : Int) (rth rc : Nat) : Nat :=
  Nat.sqrt (mv * mv * (16 * (tLim : Int) - ta16).toNat * 2000 / (1000000 * rth * rc))
def capOf (s : State) (p : PortId) (row : Nat) : Nat :=
  let q := s.port p
  match row with
  | 0 => 0
  | 1 => thermCap (if q.pol.hasContract then q.pol.mv else 5000) s.cfg.tLim (s.ta16 (tileOf p)) s.cfg.rth s.cfg.rc
  | _ => q.sb.floor
/-- T of THERMAL_DERATE and PP_SB_THERM, 1/16 °C. -/
def temp16 (t : Rat) : Int := (t * 16).floor

/-- The connector model of one port at a boundary (R230, R231). -/
def State.thermal (s : State) (p : PortId) : State :=
  let b := (s.port p).sb
  let ta : Rat := (s.ta16 (tileOf p) : Rat) / 16
  let t0 := if b.tempSet then b.temp else ta
  let t := thermStep t0 ta (meanRat b.cycI) s.cfg.rc s.cfg.rth s.cfg.cth
  let row := thermRow t s.cfg.tLim s.cfg.band b.row
  let cap := capOf s p row
  let s1 := s.modPort p fun q =>
    { q with sb := { q.sb with temp := t, tempSet := true, row := row, cap := cap, cycI := [] },
             pol := { q.pol with otp := q.pol.otp || row != 0 } }
  if row != b.row then s1.postEvt (some p) (.thermalDerate .model row (temp16 t) cap) else s1

/-- Usage tracking of one port at a boundary (R227): P_PEAK, and a usage cap, or a lower one, where its conditions hold. -/
def State.usage (s : State) (p : PortId) : State :=
  let win := s.cfg.usageWin * 100
  s.modPort p fun q =>
    let b := q.sb
    if b.state != .funded && b.state != .decreasing then { q with sb := { b with cycPeak := 0, peaks := [], same := 0, sinceRel := b.sinceRel + 1 } }
    else
      let peaks := (b.cycPeak :: b.peaks).take win
      let pk := peaks.foldl max 0
      let b1 := { b with peaks := peaks, cycPeak := 0, same := b.same + 1, sinceRel := b.sinceRel + 1, peak := min 1023 ((pk + 249) / 250) }
      let need := pk * (100 + 5 * s.cfg.usageMargin)
      if b.state == .funded && b1.same ≥ win && b1.sinceRel ≥ win && q.pol.state != .transition && q.rally.curtail.isNone
          && need + 100000 ≤ b.alloc * 25000 then
        { q with sb := { b1 with usage := true, usageCap := max b.floor ((need + 24999) / 25000) } }
      else { q with sb := b1 }

/-- The bound of R217 before and after the caps: demand with CEILING and offerable, and `hi`. -/
def State.hiOf (s : State) (p : PortId) : Nat :=
  let q := s.port p
  let b := q.sb
  let d := min b.ceil (min (s.demandOf p) (s.offerable p))
  let d1 := if (s.tile (tileOf p)).ntcFault then min d b.floor else if b.row != 0 then min d b.cap else d
  max b.floor (if b.usage then min d1 b.usageCap else d1)

/-- The pledge of a port takes effect, and its credit is formed (R150, R152, R153, R154, R156); PLEDGE is posted where the credit changes,
with the VDM whose pledge takes effect here. -/
def State.pledge (s : State) (p : PortId) : State :=
  let q := s.port p
  if ! q.rally.active then s.modSb p fun b => { b with credit := 0 }
  else
    let wait := q.rally.curtail.isSome && ! q.rally.curtConf
    let new := if wait then none else q.rally.pledgeNext
    let pl := (new.map (·.1)).getD q.rally.pledge
    let credit := if q.rally.heldOff then 0 else min pl (min q.rally.maxPledge (s.demandOf p - q.sb.floor))
    let s1 := s.modPort p fun q =>
      { q with rally := { q.rally with pledge := pl, pledgeReact := (new.map (·.2.1)).getD q.rally.pledgeReact,
                                       holdMin := (new.map (·.2.2)).getD q.rally.holdMin,
                                       pledgeNext := if wait then q.rally.pledgeNext else none,
                                       pledgeMsg := if wait then q.rally.pledgeMsg else none },
               sb := { q.sb with credit := credit } }
    if credit != q.sb.credit then s1.vdmTell p 5 (if wait then none else q.rally.pledgeMsg) q.rally.reqHdr else s1

/-! ### Targets (R217–R220) -/

/-- One entry of a class: the port's firm entry, or its pledged one. -/
structure Entry where
  p : PortId
  firm : Bool
  cls : Nat
  order : Nat
  lo : Nat
  extra : Nat
  /-- Weight, 1/16 units. -/
  w : Nat
deriving DecidableEq, Repr

/-- The port takes part in the sharing: an attached sink, or a SHED port that asks to be granted again (R215, R218, R237). -/
def Sb.shares (b : Sb) : Bool :=
  b.state == .unfunded || b.state == .funded || b.state == .decreasing || (b.state == .shed && b.regrant)

/-- The pledged entry's demand: the credit, which the caps and CEILING reduce first (R153, R217). -/
def State.pledged (s : State) (p : PortId) : Nat :=
  let b := (s.port p).sb
  min (b.credit - (s.demandOf p - s.hiOf p)) (s.hiOf p - b.floor)
/-- The firm entry of a port as an allocation (R153). -/
def State.firmOf (s : State) (p : PortId) : Nat := s.hiOf p - s.pledged p

/-- The entries of a port (R153, R217). -/
def State.entriesOf (s : State) (p : PortId) : List Entry :=
  let q := s.port p
  let b := q.sb
  if ! b.shares then []
  else
    let c := s.pledged p
    let o := b.admOrd.getD 0
    let lo := b.floor - s.board.reserve
    if b.credit == 0 then [⟨p, true, b.cls, o, lo, s.firmOf p - b.floor, b.weight⟩]
    else
      let w := b.weight + b.weight * b.credit / ((max 1 (s.demandOf p)) * 2 ^ q.rally.pledgeReact)
      [⟨p, true, b.cls, o, lo, s.firmOf p - b.floor, w⟩, ⟨p, false, 3, o, 0, c, b.weight⟩]

def Entry.before (a b : Entry) : Bool := decide (a.order < b.order) || (a.order == b.order && decide (a.p.val ≤ b.p.val))

/-- Sum of what a level of k × 960 / 2^24 quanta per unit of weight gives, scaled by 16 × 2^24 (R219, R220). -/
def levelSum (es : List Entry) (k : Nat) : Nat := (es.map fun e => min (e.extra * 2 ^ 28) (e.w * k * 960)).sum
/-- Bisection, 24 iterations (R219): the upper end of the last bracket. -/
def bisect (es : List Entry) (left : Nat) : Nat → Nat → Nat → Nat
  | 0, _, hi => hi
  | n + 1, lo, hi =>
    let m := (lo + hi) / 2
    if levelSum es m ≤ left * 2 ^ 28 then bisect es left n m hi else bisect es left n lo m
/-- What each funded entry of a class gets above its floor (R219, R220). -/
def shareOut (es : List Entry) (left : Nat) : List (Entry × Nat) :=
  if (es.map (·.extra)).sum ≤ left then es.map fun e => (e, e.extra)
  else
    let top := bisect es left 24 0 (2 ^ 24)
    let reach := fun e : Entry => decide (e.extra * 2 ^ 28 ≤ e.w * top * 960)
    let rest := left - ((es.filter reach).map (·.extra)).sum
    let wsum := ((es.filter fun e => ! reach e).map (·.w)).sum
    es.map fun e => (e, if reach e then e.extra else min e.extra (e.w * rest / wsum))
/-- One class: the floors in admission order, then the head-room; what is left and what each funded entry gets (R219). -/
def classPass (left : Nat) (es : List Entry) : Nat × List (Entry × Nat) :=
  let r := (es.mergeSort Entry.before).foldl (fun (a : Nat × List Entry) e =>
    if a.1 ≥ e.lo then (a.1 - e.lo, a.2 ++ [e]) else a) (left, [])
  let sh := shareOut r.2 r.1
  (r.1 - (sh.map Prod.snd).sum, sh.map fun e => (e.1, e.1.lo + e.2))
def State.enabledCount (s : State) : Nat := s.ports.toList.countP fun q => q.pol.enabled || q.sb.state != .disabled
/-- What every funded entry gets, class by class (R219); no entry is funded from a budget below the reserves. -/
def State.shares (s : State) (budget : Nat) : List (Entry × Nat) :=
  let es := allPorts.flatMap s.entriesOf
  let res := s.board.reserve * s.enabledCount
  if budget < res then []
  else
    ([0, 1, 2, 3].foldl (fun (a : Nat × List (Entry × Nat)) c =>
      let r := classPass a.1 (es.filter fun e => e.cls == c)
      (r.1, a.2 ++ r.2)) (budget - res, [])).2
/-- The target of a port (R219). -/
def targetOf (reserve : Nat) (sh : List (Entry × Nat)) (b : Sb) (p : PortId) : Nat :=
  if b.state == .disabled then 0
  else
    let mine := sh.filter fun e => e.1.p == p
    if mine.any fun e => e.1.firm then reserve + (mine.map Prod.snd).sum else reserve

/-! ### The ladder (R223–R225) -/

/-- The decrease is enforced by CURTAIL in place of the ladder's first step: the load's pledge stands, and the new allocation is at or above
the firm entry (R153). -/
def State.mayCurtail (s : State) (p : PortId) (target : Nat) : Bool :=
  let q := s.port p
  q.rally.active && q.sb.credit != 0 && ! q.rally.heldOff && decide (target ≥ s.firmOf p)
/-- A decrease is decided, or its decided value follows the target down (R221, R222, R223 steps 1 and 2). A decrease below the firm entry
of a curtailed port goes on by the ladder, and its curtailment ends (DEDUCED, log entry 66). An UNFUNDED port, whose RESERVE a kickoff has
lowered, stays UNFUNDED meanwhile: it holds no allocation in the sense of R97 and R128 (DESIGN CHOICE, log entry 29). -/
def State.decideDecrease (s : State) (p : PortId) (target : Nat) : State :=
  let q := s.port p
  let at1 := q.pol.drawsWithin target
  let s1 := (s.modSb p fun b =>
    { b with decided := some target, state := if b.state == .unfunded then .unfunded else .decreasing, confirmed := at1, step := if b.decided.isSome then b.step else if at1 then 0 else 1 }).postEvt
      (some p) (.allocChange .decreaseDecided q.sb.step q.sb.alloc target)
  if at1 then s1
  else if q.sb.step == 3 && q.sb.decided.isSome then (s1.armHard p target).offerChange p
  else if q.pol.nonPd then (s1.modSb p fun b => { b with step := 2 }).postRp p target
  else if s.mayCurtail p target then s1.curtailSend p target q.sb.alloc
  else s1.ladderOn p
/-- A decrease is cancelled (R221): a curtailment is ended where the allocation is the one from before it, and otherwise goes back to the
allocation that stands (DEDUCED, log entry 66). -/
def State.cancelDecrease (s : State) (p : PortId) : State :=
  let q := s.port p
  let s1 := (s.modSb p fun b => { b with decided := none, confirmed := false, state := if b.state == .unfunded then .unfunded else .funded, step := 0 }).postEvt
    (some p) (.allocChange .decreaseCancelled q.sb.step q.sb.alloc q.sb.alloc)
  let s2 := s1.liftHard p
  if q.rally.curtail.isSome then
    (if q.sb.alloc ≥ q.rally.preAlloc then s2.restoreSend p else s2.curtailSend p q.sb.alloc q.rally.preAlloc)
  else if q.pol.nonPd then s2.postRp p q.sb.alloc else s2.offerChange p
/-- What an increase leads to at the port (R153, R225). -/
def State.raised (s : State) (p : PortId) : State :=
  let q := s.port p
  let s1 := (s.liftHard p).modRally p fun r => { r with ladder := false }
  if q.pol.nonPd then s1.postRp p q.sb.alloc
  else if q.rally.curtail.isSome then (if q.sb.alloc ≥ q.rally.preAlloc then s1.restoreSend p else s1)
  else s1.offerChange p

/-! ### The cycle (R221) -/

/-- Step 1: a confirmed decrease lowers the counted allocation. -/
def State.applyConfirmed (s : State) (p : PortId) : State :=
  let b := (s.port p).sb
  match b.decided with
  | some d =>
    if b.confirmed then s.applyDecided p d else s
  | none => s
/-- Ports whose counted allocation is the reserve itself (R213, R215). -/
def Sb.atReserve (b : Sb) : Bool := b.state == .idle || b.state == .unfunded || b.state == .tripped || b.state == .shed
/-- The port's allocation is to be released at a vSafe0V report or a boundary: it draws nothing any more (R183, R177, R236, R241). -/
def Port.releasing (q : Port) : Bool := q.path.disTrip || q.path.detachMid.isSome || q.sb.disconnecting || q.sb.lost
/-- Step 3: the decrease of one port. An open switch draws nothing, so a lowered RESERVE is confirmed at once there (R222). -/
def State.phase1 (s : State) (p : PortId) (target : Nat) : State :=
  let b := (s.port p).sb
  let s0 := s.modSb p fun b => { b with target := target, demand := s.demandOf p }
  if (s.port p).releasing then s0
  else if b.state == .funded || (b.state == .unfunded && b.decided.isNone) then
    (if target < b.alloc && (b.alloc - target ≥ 4 || target == s.board.reserve) then s0.decideDecrease p target else s0)
  else if b.state == .decreasing || b.state == .unfunded then
    (if b.floorLim || b.confirmed || b.decided.isNone then s0
     else if target ≥ b.alloc then s0.cancelDecrease p
     else if b.decided.any (target < ·) then s0.decideDecrease p target
     else s0)
  else if b.atReserve && s.board.reserve < b.alloc then s0.setAlloc p .decreaseConfirmed s.board.reserve
  else s0
/-- The slack of step 4 (R221). -/
def State.slack (s : State) : Nat := s.board.bEff - s.allocSum
/-- Every enabled port is given its reserve out of the slack, in shedding and in the device safe state too: one enabled since the last
boundary, and one whose reserve a kickoff has raised (R210, R213, R215). -/
def State.giveReserve (s : State) (p : PortId) : State :=
  let q := s.port p
  if s.board.reserve - q.sb.alloc > s.slack then s
  else if q.sb.state == .disabled && q.pol.enabled then
    (s.setAlloc p .increase s.board.reserve).modSb p fun b => { b with state := .idle }
  else if q.sb.atReserve && q.sb.alloc < s.board.reserve then s.setAlloc p .increase s.board.reserve
  else s
/-- A floor is granted to a newcomer or to a SHED port (R218, R221, R226, R237). -/
def State.grantFloor (s : State) (p : PortId) (order : Nat) : State :=
  let q := s.port p
  let s1 := (s.setAlloc p .increase q.sb.floor).modSb p fun b =>
    { b with state := .funded, admOrd := some order, regrant := false, decided := none, confirmed := false, step := 0, resvOffer := false }
  let s2 := s1.liftHard p
  if q.sb.state == .shed then s2.post p (plainPost .attach)
  else (if q.pol.nonPd then s2.postRp p q.sb.floor else s2.offerChange p).leaveStartup p
/-- Step 4: newcomers' floors where R219 funds them, then other increases, in class and admission order, out of the slack. -/
def State.phase2 (s : State) (sh : List (Entry × Nat)) (order : Nat) : State :=
  let key := fun p : PortId => let b := (s.port p).sb; (⟨p, true, b.cls, b.admOrd.getD 0, 0, 0, 0⟩ : Entry)
  let ps := ((allPorts.filter fun p => (s.port p).sb.shares).map key).mergeSort fun a b =>
    decide (a.cls < b.cls) || (a.cls == b.cls && a.before b)
  let s1 := ps.foldl (fun s e =>
    let b := (s.port e.p).sb
    if (b.state == .unfunded || b.state == .shed) && (sh.any fun x => x.1.p == e.p && x.1.firm) && b.floor - b.alloc ≤ s.slack then
      s.grantFloor e.p order
    else s) s
  ps.foldl (fun s e =>
    let b := (s.port e.p).sb
    let inc := min (b.target - b.alloc) s.slack
    if b.state == .funded && ! (s.port e.p).releasing && b.target ≥ b.alloc + 4 && inc != 0 then (s.setAlloc e.p .increase (b.alloc + inc)).raised e.p
    else s) s1

/-! ### VCONN (R233, R234) -/

/-- The ports of a tile that may be asked to give VCONN away, in the order of R234. -/
def State.vcCandidates (s : State) (t : TileId) : List PortId :=
  ((portsOf t).filter fun p =>
    let q := s.port p
    q.path.vconn != 0 && q.pol.cable != .unknown && ! q.pol.discRun && ! q.pol.vcIncapable && ! q.pol.epr && q.pol.eprEntry == 0).mergeSort
    fun a b =>
      let x := s.port a
      let y := s.port b
      decide (x.sb.cls > y.sb.cls) || (x.sb.cls == y.sb.cls && (decide (vcCharge x.path > vcCharge y.path)
        || (vcCharge x.path == vcCharge y.path && decide (a.val ≥ b.val))))
/-- One give-away per tile whose budget is spent while a port waits for VCONN, since its attach or for an EPR entry (R111, R121, R234). -/
def State.vcGiveAway (s : State) (t : TileId) : State :=
  let busy := (portsOf t).any fun p => let q := (s.port p).pol
    q.swapBusy
  let waits := (portsOf t).any fun p => (s.port p).cc.state == .attached && ((s.port p).sb.vcWait || (s.port p).pol.eprEntry == 2)
  if ! waits || busy || s.vcAdmits t then s
  else match s.vcCandidates t with
    | p :: _ =>
      let s1 := s.queueHk p 5 0#32
      if (s1.port p).pol.isReady && (s1.port p).pol.swapTries == 0 then s1.swapSend p false false else s1
    | [] => s

/-! ### The boundary -/

/-- The budget that a feed brings (R211). -/
def State.feedBudget (s : State) : Nat :=
  match s.board.changeover, s.activeFeed with
  | none, some .fda => s.cfg.budget
  | none, some .fdb => if s.cfg.budgetB == 0 then s.cfg.budget else s.cfg.budgetB
  | _, _ => s.board.budgetNow
/-- Sums per class for SB_CLASS_SUM (R240). -/
def State.classTotals (s : State) : List Nat :=
  [0, 1, 2, 3].map fun c => ((s.ports.toList.filter fun q => q.sb.cls == c).map fun q => q.sb.alloc).sum
def State.classUnfunded (s : State) : List Nat :=
  [0, 1, 2, 3].map fun c => s.ports.toList.countP fun q => q.sb.cls == c && q.sb.state == .unfunded

/-- V_FEED: the mean of FDx_V of the active feed since the last boundary (R229). -/
def Board.feedMean (b : Board) : Nat := if b.vN == 0 then b.vFeed else b.vSum / b.vN
/-- A SHED port whose switch is open asks to be granted again once no shedding is active and a feed is good (R196, R237). -/
def State.askAgain (s : State) (p : PortId) : State :=
  let b := (s.port p).sb
  if b.state == .shed && ! b.regrant && ! b.disconnecting && (s.port p).cc.state == .attached && s.board.emerg == 0 && s.board.pg then
    s.modSb p fun b => { b with regrant := true, admOrd := some s.board.admitNext, arrOrd := some s.board.admitNext }
  else s
/-- The settings that kickoffs have put in force, and the reports since the last boundary, are used from this boundary (R239, R241). -/
def State.takeSettings (s : State) : State :=
  { s with board := { s.board with reserve := s.cfg.reserve, vcBudget := s.cfg.vcBudget },
           ports := s.ports.map fun q =>
             ({ q with sb := { q.sb with cls := q.sb.set.cls, weight := q.sb.set.weight, floor := q.sb.set.floor, ceil := q.sb.set.ceil } } : Port).reported
               s.cfg.reserve }
/-- V_FEED is published; with no feed ACTIVE and no changeover it keeps its last value, as in a changeover (DESIGN CHOICE, log entry 61).
FEED_CHANGE goes to the attached ports with the first V_FEED that follows it outside a changeover (R229, R300; DEDUCED, log entry 61). -/
def State.publishFeed (s : State) : State :=
  let held := s.board.changeover.isSome || s.activeFeed.isNone
  let s1 := s.modBoard fun b => { b with vFeed := if held then b.vFeed else b.feedMean, vSum := 0, vN := 0 }
  if s1.board.feedNews && s1.board.changeover.isNone then
    (allPorts.foldl (fun s p => if (s.port p).cc.state == .attached then s.queueHk p 4 (BitVec.ofNat 32 (s.board.vFeed / 20)) else s) s1).modBoard
      fun b => { b with feedNews := false }
  else s1
/-- The inputs of a boundary: settings and reports, V_FEED, the budget in force, and each port's thermal model, usage, pledge and re-grant
request. R210 resumes at the first boundary after PG asserts (R211). -/
def State.boundaryIn (s : State) : State :=
  let s0 := s.takeSettings.publishFeed.modBoard fun b => { b with budgetNow := s.feedBudget, suspended := b.suspended && ! b.pg }
  (allPorts.foldl (fun s p => (((s.thermal p).usage p).pledge p).askAgain p) s0).modBoard fun b => { b with admitNext := b.admitNext + 1 }
/-- Steps 1 to 4 of R221. -/
def State.boundaryApply (s : State) : State :=
  let s2 := allPorts.foldl (fun s p => s.applyConfirmed p) s
  let s3 := s2.modBoard fun b => { b with bEff := max b.budgetNow s2.allocSum }
  let sh := s3.shares s3.board.budgetNow
  let s4 := allPorts.foldl (fun s p => s.giveReserve p) (if s3.board.suspended then s3 else
    allPorts.foldl (fun s p => s.phase1 p (targetOf s3.board.reserve sh (s3.port p).sb p)) s3)
  let order := s4.board.admitNext
  if s4.board.suspended || s4.board.emerg != 0 || s4.ref.safe then s4
  else (s4.phase2 sh order).modBoard fun b => { b with admitNext := order + 1 }
/-- What follows at a boundary: VCONN charges (R233), give-aways (R234), NOTICEs (R150), the sums (R240), the referee's mirror (R238). -/
def State.boundaryOut (s : State) : State :=
  let s1 := allPorts.foldl (fun s p => s.modPath p fun q => if q.vcFresh then q else { q with vcBase := q.vcPeak }) s
  let s2 := allTiles.foldl (fun s t => s.vcGiveAway t) s1
  let s3 := allPorts.foldl (fun s p => (s.noticeCheck p).noticeNext p) s2
  let s4 := s3.modBoard fun b => { b with sum := s3.allocSum, classSum := s3.classTotals, classUnf := s3.classUnfunded }
  s4.modRef fun r => { r with mirror := s4.ports.toList.map (fun q => q.sb.alloc), mirrorBeff := s4.board.bEff, mirrorDue := true }
/-- SCOREBOARD_BOUNDARY (R210–R231, R234, R238): a settings kickoff that waits for a boundary completes (R239). The scoreboard lies in HUB,
which is off in DEEP and held until the domains are released (R393, R407). -/
def execScoreboardBoundary (s : State) : Out :=
  if ! s.pwr.domUp then ok s
  else ok (s.boundaryIn.boundaryApply.boundaryOut.finish (fun w => w.what == .applied) .ok 0 [])

/-! ### Timed steps -/

/-- GRACE_EXPIRY (R223, R224): ST06 arms the hard limit, or a Hard_Reset that is not counted is sent for a reserve allocation. -/
def execGraceExpiry (p : Fin 192) (s : State) : Out :=
  let q := s.port p
  match q.sb.decided with
  | some d =>
    if q.sb.confirmed || q.sb.floorLim || q.sb.step ≥ 3 then ok s
    else if q.pol.hasContract && d == s.board.reserve then
      let s1 := (s.modSb p fun b => { b with step := 4 }).postEvt (some p) (.shed .vsafe5v 0 q.sb.cls)
      ok (((s1.modPd p fun r => { r with last := .hardReset }).abortDescs p fun _ => false).hardResetDone p .shedDisconnect)
    else ok ((s.modSb p fun b => { b with step := 3 }).armHard p d)
  | none =>
    -- the ladder of a curtailment that has outlasted HOLD limits a contract still above the allocation (R153)
    if q.rally.ladder then
      let s1 := s.modRally p fun r => { r with ladder := false }
      if q.pol.drawsWithin q.sb.alloc then ok s1 else ok (s1.armHard p q.sb.alloc)
    else ok s

/-- NEWCOMER_GRACE_EXPIRY (R226): of a newcomer that still waits in STARTUP. -/
def execNewcomerGraceExpiry (p : Fin 192) (s : State) : Out :=
  if (s.port p).sb.state == .unfunded && (s.port p).pol.state == .startup then ok (s.armHard p s.board.reserve) else ok s

/-- DECREASE_SAMPLE_CONFIRM (R222): after ST09, eight consecutive samples at or below the new allocation. -/
def execDecreaseSampleConfirm (p : Fin 192) (s : State) : Out :=
  let q := s.port p
  if q.sb.decided.isSome && q.pol.nonPd && ! q.sb.rpWait && q.sb.loRun ≥ 8 then ok (s.modSb p fun b => { b with confirmed := true }) else ok s

/-- USAGE_CAP_RELEASE (R228): 100 consecutive samples at or above 95 % of the allocation. -/
def execUsageCapRelease (p : Fin 192) (s : State) : Out :=
  if (s.port p).sb.hiRun ≥ 100 then ok (s.modSb p Sb.releaseUsage) else ok s

/-- VCONN_CHARGE_SETTLE (R233): the first second is over, and the charge is that of the peak measured in it. -/
def execVconnChargeSettle (p : Fin 192) (s : State) : Out :=
  if (s.port p).path.vconn != 0 then ok (s.modPath p fun q => { q with vcFresh := false, vcBase := q.vcPeak }) else ok s

/-- VCONN_BUDGET_EXCESS (R234): ST08 to candidates in order until the sum is within VC_BUDGET. -/
def execVconnBudgetExcess (t : Fin 8) (s : State) : Out :=
  ok ((s.vcCandidates t).foldl (fun (a : State × Nat) p =>
    if a.2 > s.board.vcBudget * 2 then
      ((a.1.modSb p fun b => { b with vcForced := true }).post p (plainPost .vconnOff), a.2 - vcCharge (s.port p).path)
    else a) (s, s.tileCharge t)).1

/-! ### Emergency shedding (R155, R235–R237) -/

/-- A port is taken to FLOOR: GotoMin, queued behind a sequence in progress, or the Rp level for FLOOR, and ST06; the lower of FLOOR and a decided value (R236, R241). -/
def State.shedFloor (s : State) (p : PortId) : State :=
  let q := s.port p
  let lvl := match q.sb.decided with | some d => min d q.sb.floor | none => q.sb.floor
  let s1 := s.modSb p fun b => { b with decided := some lvl, confirmed := false, floorLim := true, state := .decreasing }
  let s2 := if q.pol.nonPd then s1.postRp p lvl
    else if [PolState.detached, .errorRecovery, .hardReset].contains q.pol.state then s1
    else s1.send p { (ctlMsg .gotoMin .none).ams with amsEnd := true }
  (s2.postEvt (some p) (.allocChange .decreaseDecided q.sb.step q.sb.alloc lvl)).armHard p lvl
/-- The pledged entry of a port is shed with class DEFERRABLE: CURTAIL to what the firm entry holds, and ST06; the lower of that and a
decided value, which LIMIT_SET applies (R155, R236, R241). -/
def State.shedPledge (s : State) (p : PortId) : State :=
  let q := s.port p
  let firm := min (q.sb.decided.getD q.sb.alloc) (s.firmOf p)
  let s1 := (s.modSb p fun b => { b with decided := some firm, confirmed := false, floorLim := true, state := .decreasing }).postEvt
    (some p) (.allocChange .decreaseDecided q.sb.step q.sb.alloc firm)
  (s1.curtailSend p firm q.sb.alloc).armHard p firm

/-- Class of a stage, and whether it disconnects (R236). -/
def stageClass (n : Nat) : Nat := ([3, 2, 1, 3, 2, 1, 0][n - 1]?).getD 0
def stageOff (n : Nat) : Bool := n == 4 || n == 5 || n == 6
/-- A stage of emergency shedding starts (R236). -/
def State.shedStage (s : State) (n : Nat) : State :=
  let c := stageClass n
  let s1 := (s.modBoard fun b => { b with emerg := n, feedHi := 0 }).postEvt none (.shed .emergency n c)
  let s2 := allPorts.foldl (fun s p =>
    let q := s.port p
    let on := q.sb.state == .funded || q.sb.state == .decreasing
    if q.sb.cls == c then
      if stageOff n then (if on && decide (q.sb.alloc > s.board.reserve) then s.disconnectPort p else s)
      else if on && q.sb.alloc > q.sb.floor && ! (q.sb.floorLim && q.sb.decided.any (· ≤ q.sb.floor)) then s.shedFloor p else s
    else if n == 1 && on && q.rally.active && q.sb.credit != 0 && q.sb.alloc > s.firmOf p then s.shedPledge p
    else s) s1
  -- a change of STATE to SHED is sent at once (R150)
  allPorts.foldl (fun s p => (s.noticeCheck p).noticeNext p) s2

/-- EMERGENCY_SHED_START (R212, R235): 20 consecutive 1 ms means above 102 % of the budget in force. -/
def execEmergencyShedStart (s : State) : Out :=
  if s.board.emerg == 0 && s.board.feedHi ≥ 20 then ok (s.shedStage 1) else ok s
/-- EMERGENCY_SHED_STAGE (R236): a further 20 of them. -/
def execEmergencyShedStage (s : State) : Out :=
  if s.board.emerg != 0 && s.board.emerg < 7 && s.board.feedHi ≥ 20 then ok (s.shedStage (s.board.emerg + 1)) else ok s
/-- EMERGENCY_SHED_END (R237): 1 s of 1 ms means at or below 98 % of the budget. SHED with stage 0; SHED ports ask to be granted again. -/
def execEmergencyShedEnd (s : State) : Out :=
  if s.board.emerg == 0 || s.board.feedLo < 1000 then ok s
  else
    let s1 := (s.modBoard fun b => { b with emerg := 0, admitNext := b.admitNext + 1 }).postEvt none (.shed .emergency 0 0xFF)
    ok (allPorts.foldl (fun s2 p =>
      if (s2.port p).sb.state == .shed && (s2.port p).cc.state == .attached then
        s2.modSb p fun b => { b with regrant := true, admOrd := some s.board.admitNext, arrOrd := some s.board.admitNext } else s2) s1)

end Sys2Proof.Machine
end

