-- ==== Sys2Proof/Machine/Measure.lean ====
section
/-! DEFINITION. Measurement: samples, telemetry, captures, snapshots, the substitute lane, lane drift, threshold
read-back and the tile temperature (R242–R267). -/
namespace Sys2Proof.Machine

/-! ### Lane drift (R262–R264) -/

/-- LANE_DRIFT is posted, unless the tile is fenced and its events are not delivered (R267). -/
def State.driftEvt (s : State) (p : PortId) (c : DriftCause) (o : DriftOutcome) (dv di : Int) : State :=
  if s.portFenced p then s else s.postEvt (some p) (.laneDrift c o dv di)
/-- EPR mode is left when no object of the port is an EPR object any more (R114). -/
def State.eprLeave (s : State) (p : PortId) : State :=
  s.modPol p fun q => { q with eprExit := q.eprExit || (q.epr && ! (s.offerObjs p none).any (·.epr)) }
/-- A port is limited to vSafe5V, with LANE_DRIFT, LANE_LIMIT and a new offer (R263, R264). -/
def State.laneLimit (s : State) (p : PortId) (c : DriftCause) (dv di : Int) : State :=
  if (s.port p).smp.limited then s
  else
    let s1 := (s.modPort p fun q => { q with smp := { q.smp with limited := true } }).driftEvt p c .limited dv di
    ((if s.portFenced p then s1 else s1.queueFault p 7 1#32).eprLeave p).offerChange p
/-- The limit is lifted (R264). -/
def State.laneLift (s : State) (p : PortId) (dv di : Int) : State :=
  let s1 := (s.modPort p fun q => { q with smp := { q.smp with limited := false } }).driftEvt p .recalibrated .corrected dv di
  (if s.portFenced p then s1 else s1.queueFault p 7 0#32).offerChange p
/-- Whether a difference exceeds a share of a reading, in 1/1000, and an absolute bound (R258, R262). -/
def exceeds (d : Int) (reading permille bound : Nat) : Bool :=
  decide (d.natAbs * 1000 > reading * permille) && decide (d.natAbs > bound)

/-! ### Converters and samples (R243, R246) -/

/-- A converter's self-check of one frame: internal zero and one reference, each within 8 LSB of its trimmed code (R242, R243). -/
def adcOff (t : TileId) (b : Bool) (f : Nat × Bool × Nat) : Bool :=
  let trim := Config.adcTrim t.val b
  let ref := if f.2.1 then trim.2.2 else trim.2.1
  decide (8 < ((f.1 : Int) - trim.1).natAbs) || decide (8 < ((f.2.2 : Int) - ref).natAbs)
/-- ADC_FAULT (R243, R251, R263): 16 consecutive frames fail the self-check, and the other converter takes the single-converter frame
until the tile is reset; a capture in progress ends RESOURCE. -/
def execAdcFault (t : Fin 8) (b : Bool) (frames : List (Nat × Bool × Nat)) (s : State) : Out :=
  let q := s.tile t
  if (if b then q.adcFaultB else q.adcFaultA) || frames.length != 16 || ! frames.all (adcOff t b) then ok s
  else
    let s1 := s.modTile t fun r => if b then { r with adcFaultB := true } else { r with adcFaultA := true }
    let s2 := (portsOf t).foldl (fun s p => if (s.port p).smp.limited then s else s.driftEvt p .adcFault .none (s.port p).smp.dv (s.port p).smp.di) s1
    let s3 := s2.refRecord 0x10 (some t) none
    match q.cap with
    | some c =>
      if c.rate < 5 && c.phase != .writing then
        ok ((s3.modTile t fun r => { r with cap := none }).finish (fun w => w.what == .capture && w.port == some c.port) .resource 0 [])
      else ok s3
    | none => ok s3

/-- The substitute lane carries the port (R255). -/
def State.laneHolds (s : State) (p : PortId) : Bool :=
  let t := s.tile (tileOf p)
  t.laneOn && t.lanePort == localIdx p
/-- Number of the sense front end that carries the port: its main lane, or the substitute lane of its tile (R245, R255). -/
def State.frontEnd (s : State) (p : PortId) : Nat := if s.laneHolds p then 192 + (tileOf p).val else p.val
/-- Coefficients of the lane that carries a port: the substitute lane's from handover to hand-back, else its main lane's; those of the
FACTORY trims until it has been calibrated (R245, R255). -/
def State.laneCoef (s : State) (p : PortId) : Coef :=
  if s.laneHolds p then (s.tile (tileOf p)).subCoef.getD (Config.factoryCoef (s.frontEnd p))
  else (s.port p).smp.coef.getD (Config.factoryCoef (s.frontEnd p))
/-- Front-end factor of a current channel, 1 / (gain × shunt): gain 16, shunt 5 mΩ (R245). -/
def ampFactor : Rat := 1 / (16 * (5 / 1000))
/-- A pair of current and voltage codes in A and V: g × (code − cz) × k, of the lane that took them (R245). -/
def State.readPair (s : State) (p : PortId) (c : Nat × Nat) : Rat × Rat :=
  let k := s.laneCoef p
  (k.gi * ((c.1 : Int) - k.zi : Int) * ampFactor, k.gv * ((c.2 : Int) - k.zv : Int) * Config.dividerRatio (s.frontEnd p))
/-- A mean in thousandths, to the nearest (the rounding is a DESIGN CHOICE, log entry 65). -/
def meanMilli (l : List Rat) : Int := (l.sum / l.length * 1000 + 1 / 2).floor
/-- One 1 kHz sample from the paired codes of its millisecond: mean VBUS in mV, mean current in mA, and the mean of the products in mW
(R246). -/
def State.sampleOf (s : State) (p : PortId) (codes : List (Nat × Nat)) : Nat × Int × Int :=
  let r := codes.map (s.readPair p)
  ((meanMilli (r.map fun e => e.2)).toNat, meanMilli (r.map fun e => e.1), meanMilli (r.map fun e => e.1 * e.2))

/-- MEAS_SAMPLE (R222, R227, R228, R230, R233, R245, R246): PP_MEAS, and what the scoreboard keeps of the 1 kHz samples. The hub keeps the
last sample of a fenced tile, which goes on keeping its ports' VCONN powers itself (R233, R267, R473). -/
def execMeasSample (p : Fin 192) (codes : List (Nat × Nat)) (vc : Nat) (s : State) : Out :=
  if codes.isEmpty then ok s
  else
    let x := s.sampleOf p codes
    let ma := x.2.1
    let mw := x.2.2
    let s1 := s.modPath p fun q => if q.vconn == 0 then q else { q with vcPeak := vc }
    if s.portFenced p then ok s1
    else ok ((s1.modPort p fun q => { q with smp := { q.smp with mv := min x.1 0xFFFF, ma := satInt 16 ma } }).modPort p fun q =>
      let b := q.sb
      let lo := match b.decided with | some d => decide (mw ≤ d * 250) | none => false
      let hi := decide (mw * 100 ≥ b.alloc * 250 * 95)
      let cur := match q.rally.curtail with | some t => decide (ma * q.pol.mv < t * 250000) | none => false
      { q with sb := { b with cycPeak := max b.cycPeak mw.toNat, cycI := b.cycI ++ [ma],
                              loRun := if lo then b.loRun + 1 else 0, hiRun := if hi then b.hiRun + 1 else 0,
                              curRun := if cur then b.curRun + 1 else 0 } })

/-! ### Telemetry (R248, R346, R347) -/

/-- Entries the 2 MiB telemetry buffer holds (R347). -/
def tlmBufSize : Nat := 32768
/-- The oldest buffered record of a port carries GAP. -/
def markGap (p : PortId) : List TlmCell → List TlmCell
  | [] => []
  | e :: r => if e.record.port == p then { e with record := { e.record with gap := true } } :: r else e :: markGap p r
/-- The port's next record carries GAP (R346): one that is buffered, otherwise the next to be formed. -/
def State.tlmMark (s : State) (p : PortId) : State :=
  if s.link.tlmBuf.any fun e => e.record.port == p then s.modLink fun l => { l with tlmBuf := markGap p l.tlmBuf }
  else s.modPort p fun q => { q with smp := { q.smp with tlmGap := true } }
/-- A record that is not formed or is discarded (R347). -/
def State.tlmLost (s : State) (p : PortId) : State :=
  (s.modLink fun l => { l with tlmGap := l.tlmGap.inc32 }).modPort p fun q => { q with smp := { q.smp with tlmGap := true } }
/-- The lowest free slot of the buffer. -/
def Link.tlmSlot (l : Link) : Nat := ((List.range tlmBufSize).find? fun n => ! l.tlmBuf.any (·.slot == n)).getD 0
/-- A record goes to its TLM ring, or waits in the buffer behind that ring's earlier ones; while the host link is fenced every record
goes to the buffer (R347, R350). -/
def State.tlmPut (s : State) (k : Nat) (r : TlmRec) : State :=
  let g := s.ring (5 + k)
  if ! g.enable && ! s.hostFenced then s.tlmLost r.port
  else if g.room && ! s.link.tlmBuf.any (·.ring == k) then s.ringWrite (5 + k) (.tlm r) false
  else if s.link.tlmBuf.length < tlmBufSize then
    let n := s.link.tlmSlot
    (s.modLink fun l =>
      let buf := l.tlmBuf ++ [⟨n, k, r⟩]
      { l with tlmBuf := buf, decim := if buf.length == tlmBufSize then min 8 (l.decim + 1) else l.decim }).unpoison 7 (n * 64) 64
  else s.tlmLost r.port
/-- Buffered records of a ring are written as room appears, at most `n`; those of a disabled ring are discarded (R347). A record with an
uncorrectable error is discarded, and the port's next one carries GAP (R386). -/
def State.tlmDrain (s : State) (k : Nat) : Nat → State
  | 0 => s
  | n + 1 =>
    match s.link.tlmBuf.find? (·.ring == k) with
    | none => s
    | some e =>
      let s1 := s.modLink fun l => { l with tlmBuf := l.tlmBuf.erase e }
      if ! (s.ring (5 + k)).enable then (s1.tlmLost e.record.port).tlmDrain k n
      else if ! (s.ring (5 + k)).room then s
      else match s.poisonIn 7 (e.slot * 64) 64 with
        | some off => ((s1.eccError 7 off).tlmMark e.record.port).tlmDrain k n
        | none => ((s1.softFix 7 (e.slot * 64) 64).ringWrite (5 + k) (.tlm e.record) false).tlmDrain k n

/-- The flags of a record's samples: the lane that carries the port has carried it throughout, unless it has come or gone since the record
before (R248). -/
def State.laneFlags (s : State) (p : PortId) (lanes : BitVec 16) : BitVec 16 :=
  if (s.port p).smp.laneMoved then lanes else if s.laneHolds p then 0xFFFF#16 else 0#16
/-- TELEMETRY_RECORD (R248, R332, R346, R347): 16 samples, saturated to the record's units; a rate or ring that TLM_CONFIG has set then
takes effect, and the descriptor completes. -/
def execTelemetryRecord (p : Fin 192) (lanes : BitVec 16) (peak : Int) (time : Nat) (samples : List (Nat × Int)) (s : State) : Out :=
  let m := (s.port p).smp
  if m.tlmRate == 0 || s.portFenced p || samples.length != 16 then ok s
  else
    let r : TlmRec :=
      { port := p, gap := m.tlmGap, decim := s.link.decim, rate := m.tlmRate, sub := s.laneFlags p lanes, peak5 := satInt 16 (peak / 5), time := time,
        samples := samples.map fun e => (min 4095 (e.1 / 20), satInt 12 (e.2 / 5)) }
    let s1 := s.modPort p fun q =>
      { q with smp := { q.smp with tlmGap := false, laneMoved := false, tlmRate := (q.smp.tlmNext.map Prod.fst).getD q.smp.tlmRate,
                                   tlmRing := (q.smp.tlmNext.map Prod.snd).getD q.smp.tlmRing, tlmNext := none } }
    ok ((s1.tlmPut m.tlmRing r).finishPort p .tlm .ok [])

/-- TLM_DECIMATION_HALVE (R347). -/
def execTlmDecimationHalve (s : State) : Out :=
  if s.link.tlmBuf.length * 4 < tlmBufSize then ok (s.modLink fun l => { l with decim := l.decim - 1 }) else ok s

/-! ### Capture (R249–R251, R348) -/

/-- A reading of the captured port is beyond a voltage or current trigger's threshold, 20 mV or 5 mA units (R249). -/
def Capture.met (c : Capture) (mv : Nat) (ma : Int) : Bool :=
  match c.trigger with
  | .vbAbove => decide (mv > c.thresh * 20)
  | .vbBelow => decide (mv < c.thresh * 20)
  | .ibAbove => decide (ma > (c.thresh * 5 : Nat))
  | _ => false
/-- CAPTURE_TRIGGER (R249, R250): the trigger of an armed capture that waits for a reading. TRIP, TABLE_START and KICKOFF occur with
the happening itself. -/
def execCaptureTrigger (t : Fin 8) (mv : Nat) (ma : Int) (s : State) : Out :=
  ok (s.modTile t fun q =>
    { q with cap := q.cap.map fun c => if c.phase == .armed && c.met mv ma then { c with phase := .running } else c })

/-- Index of the trigger reading: the readings held at the trigger, of which the pre-trigger share of the length is kept, a circular record
(R249, R250); an IMMEDIATE capture has none before it. -/
def Capture.trigAt (c : Capture) (held : Nat) : Nat :=
  if c.trigger == .immediate then 0 else min held (c.pre * 2 ^ (c.len + 10) / 4)
/-- The records of a capture: 24 readings each; the one in which a snapshot's gap falls is flagged (R252, R348). -/
def captureRecs (c : Capture) (readings : List Int) (trig : Nat) (gaps : List Nat) (time : Nat) : List CapRec :=
  let n := (readings.length + 23) / 24
  (List.range n).map fun k =>
    { port := c.port, number := k, gap := gaps.any fun g => g / 24 == k,
      trigger := if trig / 24 == k then some (trig % 24) else none, last := k + 1 == n, rate := c.rate, chans := c.chans,
      time := time + 24 * k * 32768 * 2 ^ c.rate / 2000000, readings := (readings.drop (24 * k)).take 24 }
/-- Capture records are written while the CAP ring has room; after the last one CAPTURE_ARM completes OK (R250, R332, R348). -/
def State.capDrain (s : State) (t : TileId) : State :=
  match (s.tile t).cap with
  | none => s
  | some c =>
    if c.phase != .writing then s
    else
      let s1 := c.left.foldl (fun s r =>
        if (s.ring 13).room then
          (s.ringWrite 13 (.cap r) false).modTile t fun q =>
            { q with cap := q.cap.map fun c => { c with left := c.left.drop 1, written := c.written + 1 } }
        else s) s
      match (s1.tile t).cap with
      | some c1 =>
        if c1.left.isEmpty then
          (s1.modTile t fun q => { q with cap := none }).finish (fun w => w.what == .capture && w.port == some c1.port) .ok 0
            (bytesLE 2 c1.written)
        else s1
      | none => s1

/-- A gap for each snapshot that the converter has taken in capture mode since the trigger, and for those before it that the circular
record still holds (R250, R252). -/
def Capture.gapsFit (c : Capture) (gaps : List Nat) : Bool :=
  decide (c.snaps ≤ gaps.length) && decide (gaps.length ≤ c.snaps + c.snapsPre) && gaps.all fun g => decide (g < 2 ^ (c.len + 10))
/-- CAPTURE_READINGS_DONE (R250, R252): the tile leaves capture mode and the records are written. -/
def execCaptureReadingsDone (t : Fin 8) (readings : List Int) (held : Nat) (gaps : List Nat) (time : Nat) (s : State) : Out :=
  match (s.tile t).cap with
  | some c =>
    if c.phase == .running && readings.length == 2 ^ (c.len + 10) && c.gapsFit gaps then
      ok ((s.modTile t fun q => { q with cap := some { c with phase := .writing, left := captureRecs c readings (c.trigAt held) gaps time } }).capDrain t)
    else ok s
  | none => ok s

/-! ### Snapshot (R252–R254) -/

def State.fencedTiles (s : State) : BitVec 8 := allTiles.foldl (fun m t => setBit m t.val (s.tileFenced t)) 0#8
/-- A port's main lane is disconnected for calibration (R253). -/
def State.laneCarries (s : State) (p : PortId) : Bool :=
  s.laneHolds p && (s.tile (tileOf p)).phase == .cal
/-- A snapshot interrupts a tile in capture mode, whose converter takes the snapshot's values first (R252). -/
def Capture.snapped (c : Capture) : Capture :=
  if c.rate ≥ 5 then c
  else match c.phase with
    | .armed => { c with snapsPre := c.snapsPre + 1 }
    | .running => { c with snaps := c.snaps + 1 }
    | .writing => c
/-- All sample-and-holds latch (R252, R253). -/
def State.snapLatch (s : State) : State :=
  let s1 := allTiles.foldl (fun a t => if s.tileFenced t then a else a.modTile t fun q => { q with cap := q.cap.map Capture.snapped }) s
  { s1 with meas := { s.meas with
      snapBusy := true, snapArmed := false, latchTime := s.rtc, latchMissing := s.fencedTiles,
      latchLanes := allPorts.foldl (fun m p => setBit m p.val (s.laneCarries p)) 0#192 } }

/-- SNAPSHOT_WRITTEN (R252–R254, R332): PP_SNAP of every live tile's port, MS_SNAP_STAT and the time. -/
def execSnapshotWritten (vals : List (Nat × Int)) (s : State) : Out :=
  if ! s.meas.snapBusy then ok s
  else
    let miss := s.meas.latchMissing ||| s.fencedTiles
    let seq := s.meas.snapSeq + 1#16
    let s1 := allPorts.foldl (fun s p =>
      if miss.getLsbD (tileOf p).val then s
      else
        let v := (vals[p.val]?).getD (0, 0)
        s.modPort p fun q => { q with smp := { q.smp with
          snapMv := min v.1 0xFFFF, snapMa := satInt 15 v.2, snapLane := s.meas.latchLanes.getLsbD p.val } }) s
    let s2 := { s1 with meas := { s1.meas with snapBusy := false, snapSeq := seq, snapMissing := miss, snapTime := s1.meas.latchTime } }
    ok (s2.finish (fun w => w.what == .snapshot) (if miss == 0#8 then .ok else .fenced) 0 (bytesLE 2 seq.toNat ++ bytesLE 1 miss.toNat))

/-! ### The substitute lane (R255–R259) -/

def lanePortOf (t : TileId) (l : Nat) : PortId := ⟨t.val * 24 + l % 24, by have := t.isLt; omega⟩

/-- A drift of the slot is resolved at the slot's end (R263). -/
def State.driftEnd (s : State) (t : TileId) : State :=
  let q := s.tile t
  let p := lanePortOf t q.slot
  match q.drift with
  | none => s
  | some c =>
    let s1 := s.modTile t fun q => { q with drift := none }
    if q.calOk && q.lanePort == q.slot then s1.driftEvt p c .corrected q.slotDv q.slotDi
    else (s1.laneLimit p c q.slotDv q.slotDi).refRecord 0x0F (some t) (some p)

/-- The lane carries no port: COMPARE or its own calibration (R255). -/
def Tile.laneFree (q : Tile) : Bool := q.phase == .compare || q.phase == .self
/-- SUBLANE_SLOT_START (R255, R259, R260): the rotation comes to its next slot, after a hand-back of the one before, and COMPARE begins; a
read-back that a PORT_ENABLE asked for runs in this slot. -/
def execSublaneSlotStart (t : Fin 8) (l : Fin 24) (s0 : State) : Out :=
  if (s0.tile t).subFault || l.val != (s0.tile t).slotNext || ! (s0.tile t).laneFree then ok s0
  else
    let s := s0.driftEnd t
    let s1 := s.modTile t fun q =>
      { q with slot := l.val, slotNext := (l.val + 1) % 24, lanePort := l.val, phase := .compare, laneOn := false, drift := none, slotDv := 0, slotDi := 0, calFail := false, calOk := false }
    ok (s1.modPort (portAt t l) fun q => { q with smp := { q.smp with dacTest := q.smp.dacRetest, dacRetest := false, dacPass := 0#12 } })

/-- A port is quiet: no frame on its line and no step table running (R256). -/
def Port.quiet (q : Port) (frame : Bool) : Bool := ! frame && ! q.pd.txActive && ! q.pd.gcActive && ! q.path.run

/-- Handover: the lane carries a port and its main lane is calibrated (R255). -/
def State.handover (s : State) (t : TileId) (l : Nat) : State :=
  (s.modTile t fun q => { q with lanePort := l, laneOn := true, phase := .cal }).modPort (lanePortOf t l) fun q =>
    { q with smp := { q.smp with coefOld := q.smp.coef, laneMoved := true } }

/-- QUIET_TEST (R256, R262): drift is judged on the due port, which is calibrated when quiet; otherwise its calibration is
pending, and the lane goes to the quiet port that has been pending longest. -/
def execQuietTest (t : Fin 8) (dv di : Int) (mv : Nat) (ma : Int) (frames : BitVec 24) (s : State) : Out :=
  let q := s.tile t
  if q.subFault || q.phase != .compare || q.laneOn then ok s
  else
    let p := lanePortOf t q.slot
    let drift : Option DriftCause :=
      if (s.port p).smp.limited then none
      else if exceeds dv mv 10 50 then some .vbus
      else if exceeds di ma.natAbs 10 50 then some .current else none
    let s1 := (s.modTile t fun q => { q with drift := drift, slotDv := dv, slotDi := di }).modPort p fun q =>
      { q with smp := { q.smp with dv := satInt 12 dv, di := satInt 12 di } }
    let quiet := fun p : PortId => (s.port p).quiet (frames.getLsbD (localIdx p))
    if quiet p then ok (s1.handover t q.slot)
    else
      let s2 := s1.modPort p fun r =>
        { r with smp := { r.smp with calPend := true, pendAt := if r.smp.calPend then r.smp.pendAt else s.aon } }
      let cands := (portsOf t).filter fun o => o != p && (s.port o).smp.calPend && quiet o
      match cands.mergeSort fun a b => decide ((s.port a).smp.pendAt ≤ (s.port b).smp.pendAt) with
      | o :: _ => ok (s2.handover t (localIdx o))
      | [] => ok s2

/-- REF_LO and REF_HI at the converter in V, and 1 LSB of the ideal scale: 0.250 V and 1.750 V at the divider output; 10 mV and 100 mV
at the shunt amplifier's input, which its gain of 16 brings to 0.16 V and 1.6 V (R258; that the gain of a current channel is taken
there, as R245's factor 1 / (gain × shunt) needs, is DEDUCED, log entry 65). -/
def refV : Rat × Rat × Rat := (1/4, 7/4, 1/2000)
def refI : Rat × Rat × Rat := (4/25, 8/5, 1/2000)
/-- Gain and whether the coefficients are accepted (R258). -/
def calGain (r : Rat × Rat × Rat) (z l h : Nat) : Option Rat :=
  if h == l then none
  else
    let g := (r.2.1 - r.1) / ((h : Rat) - l)
    let e1 := g * ((l : Rat) - z) - r.1
    let e2 := g * ((h : Rat) - z) - r.2.1
    if e1.abs ≤ 2 * r.2.2 && e2.abs ≤ 2 * r.2.2 then some g else none

/-- Coefficients of a lane from its six codes, each channel judged by itself: those of a channel that fails stay. Whether both were
accepted (R258). -/
def calCoef (old : Coef) (vz vl vh iz il ih : Nat) : Coef × Bool :=
  let v := calGain refV vz vl vh
  let i := calGain refI iz il ih
  let a := match v with | some g => { old with gv := g, zv := vz } | none => old
  (match i with | some g => { a with gi := g, zi := iz } | none => a, v.isSome && i.isSome)

/-- CAL_RECONNECT (R255, R258, R263): the coefficients are judged and the main lane is reconnected in parallel. -/
def execCalReconnect (t : Fin 8) (vz vl vh iz il ih : Nat) (s : State) : Out :=
  let q := s.tile t
  if q.phase != .cal || ! q.laneOn then ok s
  else
    let p := lanePortOf t q.lanePort
    let k := calCoef ((s.port p).smp.coef.getD (Config.factoryCoef p.val)) vz vl vh iz il ih
    let s1 := (s.modTile t fun q => { q with phase := .verify, calFail := ! k.2 }).modPort p fun r => { r with smp := { r.smp with coef := some k.1 } }
    if k.2 || (q.drift.isSome && q.lanePort == q.slot) || (s.port p).smp.limited then ok s1
    else ok (s1.driftEvt p .calFail .none (s.port p).smp.dv (s.port p).smp.di)

/-- VERIFY_HANDBACK (R255, R258, R263, R264): VERIFY is judged and the main lane carries the port again. A calibration one of whose channels
has failed has failed, whatever VERIFY says (DESIGN CHOICE, log entry 65). -/
def execVerifyHandback (t : Fin 8) (dv di : Int) (mv : Nat) (ma : Int) (s : State) : Out :=
  let q := s.tile t
  let p := lanePortOf t q.lanePort
  let m := (s.port p).smp
  let s0 := (s.modTile t fun q => { q with phase := .self, laneOn := false }).modPort p fun r =>
    { r with smp := { r.smp with laneMoved := r.smp.laneMoved || q.laneOn } }
  if q.phase != .verify then (if q.subFault || q.phase == .cal then ok s else ok s0)
  else if ! exceeds dv mv 5 25 && ! exceeds di ma.natAbs 10 25 then
    let s1 := (s0.modTile t fun q => { q with calOk := ! q.calFail }).modPort p fun r =>
      { r with smp := { r.smp with calPend := false, verified := some s.aon } }
    if m.limited && q.lanePort == q.slot then ok (s1.laneLift p dv di) else ok s1
  else
    let s1 := s0.modPort p fun r => { r with smp := { r.smp with calPend := false, coef := r.smp.coefOld } }
    if (q.drift.isSome && q.lanePort == q.slot) || m.limited then ok s1 else ok (s1.driftEvt p .verifyFail .none dv di)

/-- SUB_FAULT is declared: a port that the lane carries is handed back with its previous coefficients, the rotation stops and will
begin at L00, and every port of the tile is limited (R259, R263, R267). -/
def State.subFaultDown (s : State) (t : TileId) : State :=
  let q := s.tile t
  let s1 := if q.laneOn then
      s.modPort (lanePortOf t q.lanePort) fun r =>
        { r with smp := { r.smp with coef := if q.phase == .verify then r.smp.coefOld else r.smp.coef, calPend := true, laneMoved := true,
                                     pendAt := if r.smp.calPend then r.smp.pendAt else s.aon } }
    else s
  let s2 := s1.modTile t fun q => { q with subFails := 2, subFault := true, laneOn := false, phase := .self, slotNext := 0 }
  ((portsOf t).foldl (fun s p => s.laneLimit p .subFault (s.port p).smp.dv (s.port p).smp.di) s2).refRecord 0x0F (some t) none
/-- SUBLANE_SELF_CAL (R258, R259, R263): the slot ends, and the lane recalibrates itself by its own codes; two failures in a row declare
SUB_FAULT, a pass ends it. While the lane carries a port it does not calibrate itself (R255), and only a failure that declares SUB_FAULT
acts (R267). -/
def execSublaneSelfCal (t : Fin 8) (vz vl vh iz il ih : Nat) (s : State) : Out :=
  let k := calCoef ((s.tile t).subCoef.getD (Config.factoryCoef (192 + t.val))) vz vl vh iz il ih
  if ! (s.tile t).laneFree && (k.2 || (s.tile t).subFails + 1 < 2) then ok s
  else
    let s1 := (s.driftEnd t).modTile t fun q => { q with phase := .self, subCoef := some k.1 }
    if k.2 then ok (s1.modTile t fun q => { q with subFails := 0, subFault := false })
    else if (s.tile t).subFault then ok s1
    else if (s.tile t).subFails + 1 < 2 then ok (s1.modTile t fun q => { q with subFails := q.subFails + 1 })
    else ok (s1.subFaultDown t)

/-- CAL_PENDING_SKIP (R256, R473): a calibration that has been pending for 1 s is skipped; a fenced tile delivers no count. -/
def execCalPendingSkip (p : Fin 192) (s : State) : Out :=
  let m := (s.port p).smp
  if m.calPend && decide (secCycles 1 ≤ s.aon - m.pendAt) then
    ok ((s.modPort p fun q => { q with smp := { q.smp with calPend := false } }).modTile (tileOf p) fun t =>
      { t with skip := if s.portFenced p then t.skip else t.skip.inc32 })
  else ok s

/-! ### Threshold read-back (R59, R60, R260) -/

/-- A faulty DAC other than a CC DAC: port safe with Rp removed, LOCKOUT, recorded (R260, R513). -/
def State.dacLock (s : State) (p : PortId) (idx : Nat) : State :=
  let s1 := ((s.portSafe p).endContract p .lockout).attachEnds p
  let s2 := s1.modPort p fun q =>
    { q with cc := { q.cc with state := .lockedOut, rp := .off, rpHold := false, filt := [], latched := none },
             retry := { q.retry with lock := .dacFault, due := none, probing := false },
             smp := { q.smp with dacRetest := false, dacTest := false, dacFails := [] } }
  (((s2.postEvt (some p) (.lockout .dacFault idx)).queueFault p 4 3#32).refRecord 0x0E (some (tileOf p)) (some p))

/-- Nominal threshold of a DAC and its tolerance, mV or mA, in the order of R260: CC1 lower and upper, CC2 lower and upper, CC
over-voltage of either line, upper and lower bound, vSafe0V, fast trip, reverse current, VCONN limit (R33, R43, R46, R54, R59, R176,
R260). A bound that the window leaves open has none (DESIGN CHOICE, log entry 65). -/
def State.dacNominal (s : State) (p : PortId) (dac : Nat) : Option (Nat × Nat) :=
  let q := s.port p
  let bound := fun (b : Nat) => if b == 0 then none else some (b, max (b / 100) 20)
  let sink := q.cc.state == .bootSink
  match dac with
  | 0 | 2 => some (if sink then 660 else 200, 40)
  | 1 | 3 => some (if sink then 1230 else if q.cc.state == .attached then q.cc.rpNow.openMv else 1600, 40)
  | 4 | 5 => some (5500, 40)
  | 6 => bound q.path.winHi
  | 7 => bound q.path.winLo
  | 8 => some (760, 20)
  | 9 => let i := (s.pathCfg p).1 * 500; some (i, i / 20)
  | 10 => some (250, 25)
  | _ => some (350, 25)
/-- A threshold read back within its tolerance (R59, R260). -/
def State.dacGood (s : State) (p : PortId) (dac v : Nat) : Bool :=
  match s.dacNominal p dac with
  | some (n, tol) => decide (n ≤ v + tol) && decide (v ≤ n + tol)
  | none => true

/-- DAC_READBACK (R59, R60, R260): a reading taken while the setting changed is discarded; the second failure in a row is a fault. A
read-back of all twelve DACs in the slot that a PORT_ENABLE asked for lifts the lockout. -/
def execDacReadback (p : Fin 192) (dac : Fin 12) (v : Nat) (changed : Bool) (s : State) : Out :=
  let q := s.port p
  if changed then ok s
  else if s.dacGood p dac.val v then
    let pass := setBit q.smp.dacPass dac.val true
    let lift := q.smp.dacTest && pass == 0xFFF#12 && q.retry.lock == .dacFault
    ok (s.modPort p fun q =>
      { q with smp := { q.smp with dacPass := pass, dacFails := q.smp.dacFails.filter (fun e => e.1 != dac.val),
                                   dacTest := q.smp.dacTest && ! lift },
               retry := if lift then { q.retry with lock := .none } else q.retry })
  else
    let n := ((q.smp.dacFails.find? fun e => e.1 == dac.val).map Prod.snd).getD 0 + 1
    if n < 2 then
      ok (s.modPort p fun q => { q with smp := { q.smp with dacFails := q.smp.dacFails.filter (fun e => e.1 != dac.val) ++ [(dac.val, n)] } })
    else if dac.val < 6 then
      if q.retry.lock == .cmpStuck && ! q.cc.cmpRetest then ok s else ok (s.cmpStuck p dac.val)
    else if q.retry.lock == .dacFault && ! q.smp.dacTest then ok s
    else ok (s.dacLock p dac.val)

/-! ### Tile temperature (R265, R232) -/

/-- ln of a ratio n / d from 1 to 2, scaled by 2^64: 2 × artanh((n − d) / (n + d)) in 40 terms. -/
def lnSmall (n d : Nat) : Nat :=
  let z := (n - d) * 2 ^ 64 / (n + d)
  ((List.range 40).foldl (fun (a : Nat × Nat) k => (a.1 + a.2 / (2 * k + 1), a.2 * z / 2 ^ 64 * z / 2 ^ 64)) (0, z)).1 * 2
/-- ln of a positive ratio, scaled by 2^64. -/
def lnRatio (n d : Nat) : Int :=
  let up := fun (n d : Nat) => let k := Nat.log2 (n / d); (lnSmall n (d * 2 ^ k) : Int) + k * lnSmall 2 1
  if n ≥ d then up n d else - up d n
/-- The Beta equation (R265): 1/16 °C of a resistance r in mΩ, to the nearest; `none` where it gives no temperature, and MS_NTCn shows a free value (log entry 65). -/
def ntcTemp (r r25 b : Nat) : Option Int :=
  if r == 0 then none
  else
    let inv : Rat := 20 / 5963 + (lnRatio r (r25 * 100000) : Rat) / 2 ^ 64 / b
    if inv = 0 then none else some ((((1 / inv) - 5463 / 20) * 16 + 1 / 2).floor)

/-- NTC_MEAN (R242, R265, R473, R484): MS_NTCn takes the temperature and TL_VTn the mean of VTn (that the one row carries both is a
DESIGN CHOICE, log entry 31); of a fenced tile neither is delivered. -/
def execNtcMean (t : Fin 8) (r vt : Nat) (s : State) : Out :=
  let v := ntcTemp r s.meas.ntcR25 s.meas.ntcB
  let out := match v with | some x => decide (x < -880) || decide (x > 2400) | none => true
  if s.tileFenced t then ok s
  else ok (s.modTile t fun q =>
    { q with ntc16 := satInt 16 (v.getD (Config.ntcNoTemp r s.meas.ntcR25 s.meas.ntcB)), ntcOut := out, ntcRun := if out == q.ntcOut then q.ntcRun + 1 else 1, vt := min vt 0xFFFF })

/-- NTC_FAULT_FLAG (R232, R265): the flag is set after 1 s out of range, 100 means in a row; every port of the tile is capped at FLOOR. -/
def execNtcFaultFlag (t : Fin 8) (s : State) : Out :=
  let q := s.tile t
  if q.ntcOut && ! q.ntcFault && decide (100 ≤ q.ntcRun) && ! s.tileFenced t then
    let s1 := s.modTile t fun q => { q with ntcFault := true }
    ok ((portsOf t).foldl (fun s p =>
      s.postEvt (some p) (.thermalDerate .ntcFault 2 (temp16 (s.port p).sb.temp) (s.port p).sb.floor)) s1)
  else ok s

/-- NTC_FAULT_CLEAR (R232, R265): the flag clears after 10 s in range, 1,000 means in a row; the row and cap that the model gives are posted. -/
def execNtcFaultClear (t : Fin 8) (s : State) : Out :=
  let q := s.tile t
  if q.ntcFault && ! q.ntcOut && decide (1000 ≤ q.ntcRun) && ! s.tileFenced t then
    let s1 := s.modTile t fun q => { q with ntcFault := false }
    ok ((portsOf t).foldl (fun s p =>
      let b := (s.port p).sb
      s.postEvt (some p) (.thermalDerate .model b.row (temp16 b.temp) (capOf s p b.row))) s1)
  else ok s

end Sys2Proof.Machine
end

