-- ==== Sys2Proof/Machine/TileLink.lean ====
section
/-! DEFINITION. Tile links, link loss, the tile safe state and its end (R12–R25, R514). -/
namespace Sys2Proof.Machine

/-! ### Packets (R16–R19)

R16 names the header's fields and not their places: the model takes the first named in the highest bits, type in [31:16] (DESIGN
CHOICE, log entry 17). -/

/-- Sequence number of a packet header, bits [15:10] (R16; the place is a DESIGN CHOICE, log entry 17). -/
def hdrSeq (h : BitVec 32) : Nat := bits h 10 6
/-- Payload length of a packet header in words, bits [9:4] (R16; the place is a DESIGN CHOICE, log entry 17). -/
def hdrLen (h : BitVec 32) : Nat := bits h 4 6
/-- Priority of a packet header, bits [3:0]: 0 fault and safety reports, 1 PD messages, 2 contract mirror and step tables,
3 measurement, 4 register access; the lower goes first (R16, R18; place and codes are a DESIGN CHOICE, log entry 17). -/
def hdrPri (h : BitVec 32) : Nat := bits h 0 4
/-- The CRC-32 of a packet covers header and payload (R16). -/
def packetCrc (h : BitVec 32) (payload : List (BitVec 32)) : BitVec 32 := crc32 (wordBytes (h :: payload))
/-- A packet arrives whole. One whose length field is not that of its payload, or is above 32, is taken as one whose CRC fails
(DESIGN CHOICE, log entry 17). -/
def packetGood (h : BitVec 32) (payload : List (BitVec 32)) (crc : BitVec 32) : Bool :=
  crc == packetCrc h payload && decide (payload.length ≤ 32) && hdrLen h == payload.length

/-- Times an unacknowledged packet has been sent; a packet not yet listed has been sent once. -/
def sendsOf (l : List (Nat × Nat)) (seq : Nat) : Nat := ((l.find? fun e => e.1 == seq).map Prod.snd).getD 1
/-- The packet is sent once more, and stands among the unacknowledged (R17). -/
def sendAgain (l : List (Nat × Nat)) (seq : Nat) : List (Nat × Nat) := (l.filter fun e => e.1 != seq) ++ [(seq, sendsOf l seq + 1)]
def Tile.unacked (t : Tile) (toHub : Bool) : List (Nat × Nat) := if toHub then t.tileUn else t.hubUn
def Tile.setUnacked (t : Tile) (toHub : Bool) (l : List (Nat × Nat)) : Tile :=
  if toHub then { t with tileUn := l } else { t with hubUn := l }
def Tile.waitQ (t : Tile) (toHub : Bool) : List LinkPkt := if toHub then t.tileWait else t.hubWait
def Tile.setWaitQ (t : Tile) (toHub : Bool) (l : List LinkPkt) : Tile :=
  if toHub then { t with tileWait := l } else { t with hubWait := l }
def Tile.lastSeq (t : Tile) (toHub : Bool) : Nat := if toHub then t.tileSeq else t.hubSeq
def Tile.setSeq (t : Tile) (toHub : Bool) (n : Nat) : Tile := if toHub then { t with tileSeq := n } else { t with hubSeq := n }
def Tile.setAck (t : Tile) (toHub : Bool) (a : Nat × Bool) : Tile :=
  if toHub then { t with hubAck := some a } else { t with tileAck := some a }
/-- The sequence number the next packet of a direction takes. -/
def Tile.nextSeq (t : Tile) (toHub : Bool) : Nat := (t.lastSeq toHub + 1) % 64
/-- A packet takes its place behind those of its own and of a higher priority (R18). -/
def linkInsert (x : LinkPkt) : List LinkPkt → List LinkPkt
  | [] => [x]
  | y :: r => if x.pri < y.pri then x :: y :: r else y :: linkInsert x r
/-- A packet that fails its CRC is counted (R16, R484). -/
def Tile.crcFail (t : Tile) : Tile := { t with crcErr := t.crcErr.inc16 }
/-- One send of a packet arrives: it is acknowledged and leaves the unacknowledged, or is counted, negatively acknowledged and
sent again at once, ahead of what waits (R16–R18). -/
def Tile.receive (t : Tile) (toHub good : Bool) (seq : Nat) : Tile :=
  if good then (t.setUnacked toHub ((t.unacked toHub).filter fun e => e.1 != seq)).setAck toHub (seq, true)
  else
    let t1 := ((t.setUnacked toHub (sendAgain (t.unacked toHub) seq)).setAck toHub (seq, false)).crcFail
    { t1 with resend := t1.resend.inc32 }
/-- A sender has room for another unacknowledged packet (R17). -/
def Tile.windowOpen (t : Tile) (toHub : Bool) : Bool := decide ((t.unacked toHub).length < 8)
/-- While the window is open the packets that wait are sent, in the order of R18; `n` bounds their number. -/
def Tile.drainWait (t : Tile) (toHub : Bool) : Nat → Tile
  | 0 => t
  | n + 1 =>
    match t.waitQ toHub with
    | [] => t
    | x :: r => if t.windowOpen toHub then ((t.setWaitQ toHub r).receive toHub x.good x.seq).drainWait toHub n else t
/-- Both senders of a link that is lost or retrained start anew. -/
def Tile.linkClear (t : Tile) : Tile := { t with hubUn := [], tileUn := [], hubWait := [], tileWait := [], digTick := none, digGood := 0 }
def Tile.linkOff (t : Tile) : Bool := t.link == .down || t.link == .lost

/-! ### The tile safe state (R21, R514) -/

/-- A port is unattached, with Rp removed: a lockout, a hold-off of R46 and a bootstrap state stand, a port that has been disabled
is DISABLED, every other is watched (R23, R30, R46, R513). -/
def Port.unattached (q : Port) : Port :=
  match q.cc.state with
  | .bootSink | .bootRd => q
  | .lockedOut | .ccHoldOff => { q.toWatch with cc := { q.toWatch.cc with state := q.cc.state } }
  | _ => q.toWatch

/-- One port of a tile that enters the tile safe state: TILE_LOST queued, path safe, Rp removed, contract ended; its
reserve is counted from the next boundary (R241); of a BOOT_SINK, whose switch is open and which has no contract, nothing else changes
(R21, R376, R513, R514). -/
def State.portLost (s : State) (p : PortId) : State :=
  let s1 := s.queueFault p 6 (BitVec.ofNat 32 (tileOf p).val)
  if (s.port p).cc.state == .bootSink then s1
  else ((((s1.portForce p).endContract p .errorRecovery).attachEnds p).modPort p Port.unattached).modSb p fun b => { b with lost := true }

/-- R266. -/
def LanePhase.num (x : LanePhase) : Nat := x.ctorIdx
/-- A tile is in capture mode (R250, R266). -/
def Tile.capturing (q : Tile) : Bool :=
  match q.cap with | some c => c.rate < 5 && c.phase != .writing | none => false
/-- MS_ROT_STATn but for SKIP_OVF, as the tile has it (R266). -/
def State.rotWord (s : State) (t : TileId) : Word :=
  let q := s.tile t
  packWord [(b2n q.subFault, 23, 1), (b2n q.adcFaultB, 22, 1), (b2n q.adcFaultA, 21, 1), (b2n q.capturing, 20, 1),
    ((portsOf t).countP (fun p => (s.port p).smp.calPend), 8, 5), (q.phase.num, 5, 3), (if q.lanePort < 24 then q.lanePort else 0, 0, 5)]

/-- A tile enters the tile safe state: all its ports at once, and the hub fences it (R21, R409, R514) and keeps what it last
delivered (R473). -/
def State.tileSafe (s : State) (t : TileId) : State :=
  if (s.tile t).safe then s
  else
    let s1 := (portsOf t).foldl State.portLost s
    -- a capture of the tile ends FENCED (R251)
    let s2 := s1.finish (fun w => w.what == .capture && (w.port.map tileOf) == some t) .fenced 0 []
    (s2.modTile t fun q => { q with safe := true, lost := true, reloaded := false, cap := none, safeAt := s.aon, rotKept := s.rotWord t }).setFence (domTile t) true

/-- SAFE_Tn asserts for a cause (R379, R514); a tile that leaves SUPPLY_TILE restarts (R406). -/
def State.assertWire (s : State) (t : TileId) (c : WireCause) : State :=
  ((s.modTile t fun q =>
    { q with wires := if q.wires.contains c then q.wires else q.wires ++ [c], restart := q.restart || c == .supply }).tileSafe t).releaseFeedSvc

/-- Link loss is declared by tile and hub (R20, R21, R24, R383, R406). -/
def State.linkLoss (s : State) (t : TileId) : State :=
  if (s.tile t).link == .lost || (s.tile t).link == .down then s
  else
    let s1 := s.modTile t fun q => { q.linkClear with link := .lost, loss := q.loss.inc32, reloaded := false, restart := true }
    ((s1.refRecord 0x07 (some t) none).tileSafe t).releaseFeedSvc

/-! ### The rows -/

/-- TILE_LINK_PACKET (R16–R18): a packet under the next sequence number is sent for the first time, or waits in R18's order
while eight are unacknowledged; a listed one is the resend under way; one that has been acknowledged is only answered. The
eighth send that fails is link loss. What the packet carries acts through its own row. -/
def execTileLinkPacket (t : Fin 8) (toHub : Bool) (header : BitVec 32) (payload : List (BitVec 32)) (crc : BitVec 32)
    (s : State) : Out :=
  let q := s.tile t
  let seq := hdrSeq header
  let good := packetGood header payload crc
  let un := q.unacked toHub
  if q.linkOff then ok s
  else if un.any fun e => e.1 == seq then
    if ! good && decide (sendsOf un seq ≥ 8) then ok ((s.modTile t fun q => (q.setAck toHub (seq, false)).crcFail).linkLoss t)
    else ok (s.modTile t fun q => (q.receive toHub good seq).drainWait toHub (q.waitQ toHub).length)
  else if seq == q.nextSeq toHub then
    ok (s.modTile t fun q =>
      let q1 := q.setSeq toHub seq
      if q.windowOpen toHub then q1.receive toHub good seq
      else q1.setWaitQ toHub (linkInsert ⟨hdrPri header, seq, good⟩ (q.waitQ toHub)))
  else ok (s.modTile t fun q => let q1 := q.setAck toHub (seq, good); if good then q1 else q1.crcFail)

/-- TILE_LINK_RESEND_TIMEOUT (R17): a packet unacknowledged for 4 µs is sent again, be it its first send that drew no answer; the
eighth unacknowledged send is link loss. -/
def execTileLinkResendTimeout (t : Fin 8) (toHub : Bool) (seq : Nat) (s : State) : Out :=
  let q := s.tile t
  let un := q.unacked toHub
  let listed := un.any fun e => e.1 == seq
  if q.linkOff then ok s
  else if listed && decide (sendsOf un seq ≥ 8) then ok (s.linkLoss t)
  else if listed || (seq == q.nextSeq toHub && q.windowOpen toHub) then
    ok (s.modTile t fun q =>
      { (q.setUnacked toHub (sendAgain un seq)).setSeq toHub (if listed then q.lastSeq toHub else seq) with resend := q.resend.inc32 })
  else ok s

/-- TILE_LINK_IDLE (R19): with no traffic the sender sends an idle packet, which takes the next sequence number and is
acknowledged as any other (DESIGN CHOICE, log entry 17). -/
def execTileLinkIdle (t : Fin 8) (toHub : Bool) (s : State) : Out :=
  let q := s.tile t
  if q.linkOff || ! (q.unacked toHub).isEmpty || ! (q.waitQ toHub).isEmpty then ok s
  else ok (s.modTile t fun q => (q.setSeq toHub (q.nextSeq toHub)).setAck toHub (q.nextSeq toHub, true))

/-- LINK_LOSS (R20). -/
def execLinkLoss (t : Fin 8) (s : State) : Out := ok (s.linkLoss t)

/-- SAFE_WIRE_RELEASE (R514): the cause's condition has held; a cause that only a device reset releases stays. The hub
begins the reload when the wire is released and the link is up. -/
def execSafeWireRelease (t : Fin 8) (cause : WireCause) (s : State) : Out :=
  match cause with
  | .romTile | .clock | .selfTest | .port => ok s
  | .digestLost | .supply =>
    -- DIGEST_LOST waits for 20 valid digests in sequence, 1 ms; SUPPLY_TILE for VTn in range for 100 ms (R376, R514)
    let held := if cause == .digestLost then decide ((s.tile t).digGood ≥ 20) else ! (s.tile t).late && decide (msCycles 100 ≤ s.aon - (s.tile t).vtAt)
    if (s.tile t).wires.contains cause && held then
      ok (s.modTile t fun q =>
        let w := q.wires.filter (· != cause)
        { q with wires := w, digGood := if cause == .digestLost then 0 else q.digGood, vtOut := if cause == .supply then false else q.vtOut, link := if w.isEmpty && q.link == .up then .reloading else q.link })
    else ok s

/-- TILE_LINK_TRAIN_RETRY (R24): the hub retries training of a lost tile while its TAn is powered. -/
def execTileLinkTrainRetry (t : Fin 8) (s : State) : Out :=
  if (s.tile t).link == .lost && s.pwr.powered.getLsbD (domTile t) then
    ok (s.modTile t fun q => { q with link := .training })
  else ok s

/-- TILE_LINK_TRAINED (R24): the link is up again and the reload begins, once the safe wire is released (R514). -/
def execTileLinkTrained (t : Fin 8) (s : State) : Out :=
  if (s.tile t).link == .training then
    ok (s.modTile t fun q =>
      { q.linkClear with link := if q.wires.isEmpty then .reloading else .up })
  else ok s

/-- TILE_RELOAD_DONE (R22, R23, R366): configuration and RAM tables are reloaded and their checksums verified; the tile runs on
the settings in force. -/
def execTileReloadDone (t : Fin 8) (s : State) : Out :=
  if (s.tile t).link == .reloading then
    let s1 := (s.tileCatchUp t).modTile t fun q => { q with link := .up, reloaded := true }
    -- a tile that is not in the tile safe state comes up as at release (R408, R409)
    ok ((if (s1.tile t).safe then s1 else (s1.modTile t fun q => { q with lost := false }).setFence (domTile t) false).releaseFeedSvc)
  else ok s

/-- What TAn holds of a port is reset: everything the tile shows but the watch island, its configuration, which the hub has reloaded, and
the discharge (R22, R393, R406, R480). -/
def Port.tileReset (q : Port) (table : MtTable) : Port :=
  { q with
    pd := { Pd.reset with table := table },
    path := { Path.reset with
              ift := q.path.ift, slew := q.path.slew, ctrl := q.path.ctrl, dis := q.path.dis, disTrip := q.path.disTrip,
              stuckTimer := q.path.stuckTimer, stuckDis := q.path.stuckDis },
    smp := { q.smp with limited := false, calPend := false, pendAt := 0, coef := none, coefOld := none, verified := none, dv := 0, di := 0,
                        dacFails := [], dacTest := false, dacPass := 0#12 } }
/-- What it holds of the tile itself: the rotation of the substitute lane, its coefficients and the converters' faults (R243, R255, R259). -/
def Tile.tileReset (q : Tile) : Tile :=
  { q with lanePort := 0, phase := .compare, laneOn := false, slot := 0, slotNext := 0, drift := none, slotDv := 0, slotDi := 0, calFail := false,
           calOk := false, subCoef := none, subFails := 0, subFault := false, adcFaultA := false, adcFaultB := false }
/-- A tile restart (R406). -/
def State.tileRestart (s : State) (t : TileId) : State :=
  let s1 := (portsOf t).foldl (fun s p => s.modPort p fun q => q.tileReset (s.selTable p)) s
  ((s1.modTile t Tile.tileReset).modTile t fun q => { q with restart := false }).modPwr fun w => { w with cause := setBit w.cause 5 true }
/-- TILE_SAFE_EXIT (R23, R406): wire released, link up, reload verified and 40 ms passed since the tile entered the tile safe state; all
its ports restart unattached, TAn having been reset where the link or the supply was lost, and the fence lifts. -/
def execTileSafeExit (t : Fin 8) (s : State) : Out :=
  let q := s.tile t
  if q.safe && q.wires.isEmpty && q.link == .up && q.reloaded && decide (msCycles 40 ≤ s.aon - q.safeAt) then
    let s1 := (portsOf t).foldl (fun s p => s.modPort p Port.unattached) (if q.restart then s.tileRestart t else s)
    ok ((s1.modTile t fun q => { q with safe := false, lost := false }).setFence (domTile t) false)
  else ok s

end Sys2Proof.Machine
end

