-- ==== Sys2Proof/Machine/Referee.lean ====
section
/-! DEFINITION. The referee: the device safe state, digests, the clock monitor, the allocation mirror, ROM and supply
checks and the self-test (R374–R392). -/
namespace Sys2Proof.Machine

/-! ### The device safe state (R376) -/

/-- Every tile goes to the tile safe state, the feeds are held (R207), phase 2 is suspended (R221) and FAULT_N goes low; the
policy of each port that held a contract enters ERROR_RECOVERY (R376). -/
def State.deviceSafe (s : State) : State :=
  if s.ref.safe then s
  else
    let held := allPorts.filter fun p => (s.port p).pol.hasContract
    let s1 := allTiles.foldl (fun s t => s.assertWire t .clock) (s.modRef fun r => { r with safe := true })
    held.foldl (fun s p => s.modPol p fun q => { q with state := .errorRecovery }) s1
/-- VTn is within 4.50–5.50 V (R383, R497). -/
def vtInRange (mv : Nat) : Bool := decide (4500 ≤ mv) && decide (mv ≤ 5500)
/-- A check whose reaction is DEVICE fails (R383). -/
def State.refDeviceFail (s : State) (c : Nat) : State := (s.refRecord c none none).deviceSafe
/-- A check whose reaction is TILE fails: SAFE_Tn asserts (R379, R383). -/
def State.refTileFail (s : State) (c : Nat) (t : TileId) (w : WireCause) : State :=
  (s.refRecord c (some t) none).assertWire t w

/-! ### Digests (R380, R383) -/

/-- Upper bound plus 2 %, in force while the gate is commanded closed (R166, R383). -/
def ovUnacted (d : DigPort) : Bool := d.gate && d.window != .off && ! d.upper && decide (d.mv * 100 ≥ d.winHi * 102)
/-- The comparator and the lane disagree about vSafe0V (R383). -/
def crossDiffer (d : DigPort) : Bool := (d.v0low && decide (d.mv > 1000)) || (! d.v0low && decide (d.mv < 600))
/-- The condition of R180 as a digest shows it. -/
def switchStuck (q : Port) (d : DigPort) : Bool :=
  ! d.gate && d.dis && decide (d.mv > 800) && q.cc.state != .bootSink
def countOf (l : List (Nat × Nat)) (p : Nat) : Nat := ((l.find? fun e => e.1 == p).map Prod.snd).getD 0
/-- The count of a port; a count of 0 is not listed. -/
def setCount (l : List (Nat × Nat)) (p n : Nat) : List (Nat × Nat) :=
  let r := l.filter fun e => e.1 != p
  if n == 0 then r else (p, n) :: r

/-- What a digest shows of a port (R383): the condition of OV_UNACTED, twice in a row; the count of CROSSCHECK, in which a digest
whose VBUS moved by more than 0.5 V is not counted; the count of R180's condition. -/
structure DigSeen where
  ov : Bool
  twice : Bool
  cc : Nat
  sw : Nat
def State.digSeen (s : State) (p : PortId) (d : DigPort) : DigSeen :=
  let q := s.port p
  let ov := ovUnacted d
  let moved := match s.ref.digV.find? fun e => e.1 == p.val with
    | some e => decide (((d.mv : Int) - e.2).natAbs > 500)
    | none => false
  { ov := ov, twice := ov && s.ref.ovRun.contains p.val,
    cc := if moved then countOf s.ref.ccRun p.val else if crossDiffer d then countOf s.ref.ccRun p.val + 1 else 0,
    sw := if switchStuck q d then countOf s.ref.swRun p.val + 1 else 0 }
/-- The runs of a port go on; a run that has reached its length begins anew. -/
def Ref.digNote (r : Ref) (p : PortId) (d : DigPort) (x : DigSeen) : Ref :=
  { r with ovRun := if x.ov then p.val :: r.ovRun.filter (· != p.val) else r.ovRun.filter (· != p.val),
           ccRun := setCount r.ccRun p.val (if x.cc ≥ 20 then 0 else x.cc),
           swRun := setCount r.swRun p.val (if x.sw ≥ 400 then 0 else x.sw),
           digV := (p.val, d.mv) :: r.digV.filter (fun e => e.1 != p.val) }
/-- A PORT reaction: the referee records the failure and commands the port safe, and the tile has still to confirm (R383). -/
def State.refPort (s : State) (c : Nat) (p : PortId) : State :=
  (s.refRecord c (some (tileOf p)) (some p)).modRef fun r => { r with cmdDue := p.val :: r.cmdDue.filter (· != p.val) }
/-- OV_UNACTED: TRIP with cause OVERVOLT, lockout CMP_STUCK of the upper-bound comparator, in the order of R260 (R60, R383). A port that
has tripped in the same cycle is in the port safe state and has posted its own cause (R177, R392). -/
def State.ovReact (s : State) (p : PortId) : State :=
  let s1 := s.refPort 0x09 p
  (if (s.port p).mayTrip then s1.portTrip p .overvolt 0xFF else s1).cmpStuck p 6
/-- CROSSCHECK: lockout CMP_STUCK of the vSafe0V comparator (R60, R383). -/
def State.crossReact (s : State) (p : PortId) : State := (s.refPort 0x0A p).cmpStuck p 8

/-- A comparator of a port is locked out already, which its check then finds no more. -/
def Port.locked (q : Port) (idx : Nat) : Bool := q.retry.lock == .cmpStuck && q.cc.cmpStuck.contains idx
/-- The checks of a digest on its ports. What several ports show in one digest is taken by cause, the lower code first, then in
port order, as REF_FIRST asks of one referee cycle (R391). -/
def State.digestPorts (s : State) (l : List (PortId × DigPort)) : State :=
  let seen := l.map fun e => (e.1, e.2, s.digSeen e.1 e.2)
  let s1 := s.modRef fun r => seen.foldl (fun r e => r.digNote e.1 e.2.1 e.2.2) r
  let s2 := (seen.filter fun e => e.2.2.twice && ! (s.port e.1).locked 6).foldl (fun s e => s.ovReact e.1) s1
  let s3 := (seen.filter fun e => decide (e.2.2.cc ≥ 20) && ! (s.port e.1).locked 8).foldl (fun s e => s.crossReact e.1) s2
  (seen.filter fun e => decide (e.2.2.sw ≥ 400) && (s.port e.1).retry.lock != .stuckSwitch).foldl (fun s e => s.stuckSwitch e.1 e.2.1.mv) s3

/-- No valid digest while the link is up (R383, R392): SAFE_Tn asserts. -/
def State.digestLost (s : State) (t : TileId) : State :=
  if (s.tile t).link == .up && s.pwr.domUp && ! (s.tile t).wires.contains .digestLost then
    (s.modTile t fun q => { q with digBad := 0, digGood := 0, digTick := none }).refTileFail 0x08 t .digestLost
  else s

/-- DIGEST_RECEIVED (R380, R383, R392): the tick sequence, then each port in port order. What the tile's own protections show in the same
cycle trips their ports first. -/
def execDigestReceived (t : Fin 8) (tick : Fin 64) (valid : Bool) (ports : List DigPort) (also_ : List (Fin 24 × List Tripping)) (s : State) : Out :=
  let q := s.tile t
  if ! valid || q.link != .up || ! s.pwr.domUp then ok s
  else
    let inSeq := match q.digTick with | some k => decide (tick.val = (k + 1) % 64) | none => true
    let s1 := s.modTile t fun q =>
      { q with digTick := some tick.val, digBad := if inSeq then 0 else q.digBad + 1, digGood := if inSeq then q.digGood + 1 else 0 }
    -- the digest shows the port command carried out, which confirms it (DESIGN CHOICE, log entry 33)
    let s2 := s1.modRef fun r => { r with cmdDue := r.cmdDue.filter fun n => n / 24 != t.val }
    if (s1.tile t).digBad ≥ 3 then ok (s2.digestLost t)
    else ok ((also_.foldl (fun s e => s.tripCycle (portAt t e.1) e.2) s2).digestPorts ((portsOf t).zip ports))

/-- DIGEST_LOST (R383). -/
def execDigestLost (t : Fin 8) (s : State) : Out := ok (s.digestLost t)

/-- PORT_REACTION_TIMEOUT (R383): SAFE_Tn is asserted in place of a port command that the tile has not confirmed. -/
def execPortReactionTimeout (p : Fin 192) (s : State) : Out :=
  if s.ref.cmdDue.contains p.val then
    ok ((s.modRef fun r => { r with cmdDue := r.cmdDue.filter (· != p.val) }).assertWire (tileOf p) .port)
  else ok s

/-! ### Clocks, supplies, ROMs, registers (R383) -/

/-- CLOCK_MONITOR_WINDOW (R383): more than 12.5 % off or absent in four consecutive windows; AON's one window of 1 ms is
enough. REF_CLK shows the latest deviations. -/
def execClockMonitorWindow (m : ClkMon) (dev : Int) (absent : Bool) (s : State) : Out :=
  let bad := absent || decide (dev.natAbs > 125)
  if ! s.pwr.domUp then ok s else
  match m with
  | .pll =>
    let n := if bad then s.ref.pllBad + 1 else 0
    let s1 := s.modRef fun r => { r with pllDev := satInt 16 dev, pllBad := min n 4 }
    if n ≥ 4 then ok (s1.refDeviceFail 0x01) else ok s1
  | .rc =>
    let n := if bad then s.ref.rcBad + 1 else 0
    let s1 := s.modRef fun r => { r with rcBad := min n 4 }
    if n ≥ 4 then ok (s1.refDeviceFail 0x02) else ok s1
  | .aon =>
    let s1 := s.modRef fun r => { r with rcDev := satInt 16 dev }
    if bad then ok (s1.refDeviceFail 0x02) else ok s1

/-- The checks of R381 on the mirror: the sum against B_EFF, unless R210 is suspended because no feed is ACTIVE; B_EFF
against the budget and the previous B_EFF; 240 W; SB_SUM. -/
def State.mirrorOk (s : State) : Bool :=
  let sum := s.ref.mirror.sum
  ((s.board.suspended && s.activeFeed.isNone) || decide (sum ≤ s.ref.mirrorBeff))
    && decide (s.ref.mirrorBeff ≤ max s.board.budgetNow s.ref.prevBeff)
    && s.ref.mirror.all (fun a => decide (a ≤ 960)) && sum == s.board.sum

/-- ALLOCATION_MIRROR_CHECK (R381, R383): the adder's own sum; the test vector's failure is SELFTEST. -/
def execAllocationMirrorCheck (vectorOk : Bool) (s : State) : Out :=
  if ! s.ref.mirrorDue || ! s.pwr.domUp then ok s
  else
    let good := s.mirrorOk
    let s1 := s.modRef fun r => { r with allocSum := r.mirror.sum, prevBeff := r.mirrorBeff, mirrorDue := false }
    let s2 := if good then s1 else s1.refDeviceFail 0x05
    if vectorOk then ok s2 else ok (s2.refDeviceFail 0x17)

/-- MIRROR_LATE (R383). -/
def execMirrorLate (s : State) : Out :=
  if s.ref.mirrorDue && s.pwr.domUp then ok ((s.modRef fun r => { r with mirrorDue := false }).refDeviceFail 0x06) else ok s

/-- ROM_HUB_CHECK (R383). -/
def execRomHubCheck (good : Bool) (s : State) : Out := if good || ! s.pwr.domUp then ok s else ok (s.refDeviceFail 0x12)
/-- ROM_TILE_CHECK (R383). -/
def execRomTileCheck (t : Fin 8) (good : Bool) (s : State) : Out :=
  let s1 := s.modTile t fun q => { q with romOk := good }
  if ! s.pwr.domUp then ok s else if good then ok s1 else ok (s1.refTileFail 0x13 t .romTile)
/-- Range of a rail in mV (R383). -/
def HubRail.range : HubRail → Nat × Nat
  | .vhub => (740, 860) | .vio => (1620, 1980) | .vaux => (2970, 3630)
/-- SUPPLY_HUB (R383): the rail has been outside its range for 10 µs. -/
def execSupplyHub (rail : HubRail) (mv : Nat) (s : State) : Out :=
  if s.pwr.domUp && (decide (mv < rail.range.1) || decide (mv > rail.range.2)) then ok (s.refDeviceFail 0x15) else ok s
/-- SUPPLY_TILE (R383, R484, R497): VTn has been outside 4.50–5.50 V for 10 µs. A VTn that is absent is a device reset besides, which
its own row brings and which comes second. -/
def execSupplyTile (t : Fin 8) (mv : Nat) (s : State) : Out :=
  if s.pwr.domUp && (s.tile t).released && ! vtInRange mv then
    ok ((s.modTile t fun q => { q with vtOut := true, vtAt := s.aon }).refTileFail 0x16 t .supply)
  else ok s
/-- TRIPLICATED_REGISTER_DISAGREE (R383, R386). -/
def execTriplicatedRegisterDisagree (s : State) : Out := if s.pwr.domUp then ok (s.refDeviceFail 0x17) else ok s
/-- PLL_LOCK_TIMEOUT (R396): the PLL has not locked 5 ms after it was enabled. -/
def execPllLockTimeout (s : State) : Out :=
  if s.pwr.pllRun || ! s.pwr.domUp then ok s else ok ((s.modPwr fun w => { w with pllLate := true }).refDeviceFail 0x01)

/-! ### The self-test (R387) -/

/-- REFEREE_SELFTEST_DONE (R377, R387): a pass ends the self-test's assertion of the safe wires; a failure latches SELFTEST. -/
def execRefereeSelftestDone (pass : Bool) (s : State) : Out :=
  if s.ref.selfOk || ! s.pwr.domUp then ok s
  else if pass then
    ok (allTiles.foldl (fun s t => s.modTile t fun q => { q with wires := q.wires.filter (· != .selfTest) })
      (s.modRef fun r => { r with selfOk := true }))
  else ok (s.refDeviceFail 0x17)

end Sys2Proof.Machine
end

