-- ==== Sys2Proof/Machine/Session.lean ====
section
/-! DEFINITION. What the two access paths share: fuse reading, keys and proofs, the lockout, rights of R5 and R421,
service replies, the boot and update records (R415–R418, R440–R449, R454–R458, R467). -/
namespace Sys2Proof.Machine

def State.modFuse (s : State) (f : Fuse → Fuse) : State := { s with fuse := f s.fuse }
def State.modHud (s : State) (f : Huddle → Huddle) : State := { s with hud := f s.hud }
def State.modSvc (s : State) (f : Svc → Svc) : State := { s with svc := f s.svc }
def State.modUpd (s : State) (f : Upd → Upd) : State := { s with upd := f s.upd }

/-! ### Reading the fuse array (R415–R418) -/

/-- Every logical bit at normal reference: 1 when either copy reads 1. -/
def Fuse.norm (f : Fuse) : BitVec 8192 := f.aNorm ||| f.bNorm
/-- A word of the array at normal reference (R415). -/
def Fuse.word (f : Fuse) (w : Nat) : Word := (f.norm >>> (32 * w)).setWidth 32
/-- First word and number of words of a region (R416). -/
def FuseRegion.span : FuseRegion → Nat × Nat
  | .factory => (0x00, 0x20) | .ident => (0x20, 8) | .keyhash => (0x28, 0x18) | .unitkey => (0x40, 8)
  | .patch => (0x48, 0x80) | .floor => (0xC8, 4) | .oem => (0xCC, 0x20) | .locks => (0xEC, 0x14)
def FuseRegion.code : FuseRegion → Nat
  | .factory => 0 | .ident => 1 | .keyhash => 2 | .unitkey => 3 | .patch => 4 | .floor => 5 | .oem => 6 | .locks => 7
def regionOf (n : Nat) : Option FuseRegion :=
  match n with
  | 0 => some .factory | 1 => some .ident | 2 => some .keyhash | 3 => some .unitkey | 4 => some .patch
  | 5 => some .floor | 6 => some .oem | 7 => some .locks | _ => none
/-- The seven regions with lock bits, in code order. -/
def lockRegions : List FuseRegion := [.factory, .ident, .keyhash, .unitkey, .patch, .floor, .oem]
/-- The region a word lies in. -/
def regionAt (w : Nat) : FuseRegion :=
  if w < 0x20 then .factory else if w < 0x28 then .ident else if w < 0x40 then .keyhash else if w < 0x48 then .unitkey
  else if w < 0xC8 then .patch else if w < 0xCC then .floor else if w < 0xEC then .oem else .locks
/-- The words of a region, and the region as bytes (R418). -/
def Fuse.region (f : Fuse) (r : FuseRegion) : List Word := (List.range r.span.2).map fun k => f.word (r.span.1 + k)
def Fuse.regionBytes (f : Fuse) (r : FuseRegion) : List Byte := wordBytes (f.region r)
/-- Bits of the lock table (R417). -/
def Fuse.lockBit (f : Fuse) (r : FuseRegion) (k : Nat) : Bool := bit (f.word 0xF3) (4 * r.code + k)
def Fuse.wl (f : Fuse) (r : FuseRegion) : Bool := f.lockBit r 0
def Fuse.rl (f : Fuse) (r : FuseRegion) : Bool := r != .locks && f.lockBit r 1
def Fuse.force (f : Fuse) (r : FuseRegion) : Bool := f.lockBit r 2
def Fuse.iv (f : Fuse) (r : FuseRegion) : Bool := f.lockBit r 3
/-- The integrity word of a region, and whether it matches the contents at normal reference (R418). -/
def Fuse.intWord (f : Fuse) (r : FuseRegion) : Word := f.word (0xEC + r.code)
def Fuse.intCrc (f : Fuse) (r : FuseRegion) : Word := crc32 (f.regionBytes r)
def Fuse.matches (f : Fuse) (r : FuseRegion) : Bool := f.intWord r == f.intCrc r
/-- Status of a region, derived at every read; FLOOR is always BLANK (R426). -/
def Fuse.status (f : Fuse) (r : FuseRegion) : RegionStatus :=
  if r == .floor || r == .locks then .blank
  else if f.force r then .lockedIncomplete
  else if f.iv r then (if f.matches r then (if f.wl r then .locked else .checked) else .alarm)
  else if f.wl r then .alarm else .blank
def RegionStatus.num : RegionStatus → Nat
  | .blank => 0 | .checked => 1 | .locked => 2 | .lockedIncomplete => 3 | .alarm => 4
/-- FLOOR read as a thermometer: 1 plus the index of the highest bit that reads 1 (R428). -/
def Fuse.floorBit (f : Fuse) (k : Nat) : Bool := f.norm.getLsbD (0xC8 * 32 + k)
def Fuse.floorValue (f : Fuse) : Nat :=
  (((List.range 128).filter f.floorBit).getLast?.map (· + 1)).getD 0
/-- A word that FU_RDATA, S6 and the service port do not deliver: one of a read-locked region, of UNITKEY, or UNITKEY's integrity word,
which no block but the fuse controller receives (R420; that its word of LOCKS reads 0 is DEDUCED, log entry 72). -/
def Fuse.hidden (f : Fuse) (w : Nat) : Bool :=
  let r := regionAt w
  f.rl r || r == .unitkey || w == 0xEC + FuseRegion.unitkey.code
/-- FU_RDATA for a word (R420). -/
def Fuse.readWord (f : Fuse) (w : Nat) : Word := if f.hidden w then 0#32 else f.word w

/-- How a region stood at the last boot (R434). -/
def State.bootStatus (s : State) (r : FuseRegion) : RegionStatus := (s.fuse.boot[r.code]?).getD .blank
/-- UNITKEY as the crypto engine has it: absent unless the region was LOCKED at boot (R434). -/
def State.unitKey (s : State) : Option (List Byte) :=
  if s.fuse.read && s.bootStatus .unitkey == .locked then some (s.fuse.regionBytes .unitkey) else none

/-! ### Keys and proofs (R445, R446) -/

def Level.num : Level → Nat
  | .none => 0 | .view => 1 | .tech => 2 | .factory => 3
def levelOf (n : Nat) : Option Level :=
  match n with | 1 => some .view | 2 => some .tech | 3 => some .factory | _ => none
def Level.byte (l : Level) : Byte := BitVec.ofNat 8 l.num
/-- Salt of a level. -/
def saltOf (uk : List Byte) (l : Level) : List Byte := (hmac uk (ascii "HZSALT" ++ [l.byte])).take 16
/-- Key of a level: the stored one, or that of its first password; FACTORY is computed from UNITKEY (R445, R448). -/
def State.levelKey (s : State) (uk : List Byte) (l : Level) : List Byte :=
  match l with
  | .view => s.svc.viewKey.getD (sha256 (saltOf uk .view))
  | .tech => s.svc.techKey.getD (sha256 (saltOf uk .tech ++ Config.techPassword uk))
  | .factory => Config.factoryKey uk
  | .none => []
def chalBytes (c : BitVec 128) : List Byte := bytesLE 16 c.toNat
/-- The proof of a level (R445). -/
def State.proofOk (s : State) (l : Level) (c : BitVec 128) (sess : Nat) (proof : List Byte) : Bool :=
  match s.unitKey with
  | some uk => l != .none && proof == hmac (s.levelKey uk l) (chalBytes c ++ [l.byte, BitVec.ofNat 8 sess])
  | none => false
/-- A challenge from the crypto engine's random source: a free value (R445, log entry 9). -/
def State.newChallenge (s : State) : BitVec 128 × State :=
  let (a, s1) := s.freeWord
  let (b, s2) := s1.freeWord
  let (c, s3) := s2.freeWord
  let (d, s4) := s3.freeWord
  (a ++ b ++ c ++ d, s4)
/-- A TECH key is still the first one (R448). -/
def State.pwDue (s : State) : Bool := s.svc.techKey.isNone

/-! ### The lockout (R447) -/

/-- Seconds of lockout remaining, 0–900. -/
def State.lockSecs (s : State) : Nat :=
  match s.svc.lockEnd with
  | some e => min 900 ((e - s.aon + 32767) / 32768)
  | none => 0
/-- A proof has failed: the count advances and no SESSION_OPEN is accepted for min(2^(n−1), 900) s (R446, R447). -/
def State.proofFailed (s : State) : State :=
  s.modSvc fun v =>
    let n := v.lockN + 1
    let w := min (2 ^ (n - 1)) 900
    { v with lockN := n, lockEnd := some (s.aon + secCycles w), lockMirror := (n, w) }
def State.lockClear (s : State) : State := s.modSvc fun v => { v with lockN := 0, lockMirror := (0, 0) }

/-! ### Rights (R5, R6, R421) -/

def Level.isTech : Level → Bool
  | .tech | .factory => true
  | _ => false
/-- A proven TECH or FACTORY session on the path. -/
def State.techOn (s : State) (a : Path6) : Bool :=
  match a with
  | .host => s.link.level.isTech
  | .svc => s.svc.level.isTech
  | .core _ => false
/-- The condition of R5 on the path. -/
def State.expertOn (s : State) (a : Path6) : Bool :=
  s.techOn a && (match a with | .host => s.link.unlocked | .svc => s.svc.unlocked | .core _ => false)

/-! ### Service replies (R440, R442) -/

def Nak.num : Nak → Nat
  | .noSession => 1 | .level => 2 | .unknown => 3 | .badField => 4 | .busy => 5 | .lockedOut => 6 | .proofFail => 7
  | .passwordChangeDue => 8 | .notUnlocked => 9 | .state => 0xA | .sequence => 0xB | .image => 0xC
/-- A frame as it goes on the line (R440). -/
def svcFrame (sess cmd seq : Byte) (payload : List Byte) : List Byte :=
  let body := bytesLE 2 payload.length ++ [sess, cmd, seq] ++ payload
  0x7E#8 :: body ++ bytesLE 4 (crc32 body).toNat
def State.svcReply (s : State) (f : SvcFrame) (cmd : Nat) (payload : List Byte) : State :=
  s.modSvc fun v => { v with reply := svcFrame f.sess (BitVec.ofNat 8 (cmd + 0x80)) f.seq payload }
/-- NAK with the command refused, the code and what the code adds (R442). -/
def State.svcNak (s : State) (f : SvcFrame) (cmd : Nat) (k : Nak) (more : List Byte) : State :=
  s.modSvc fun v => { v with reply := svcFrame f.sess 0xFF#8 f.seq ([BitVec.ofNat 8 cmd, BitVec.ofNat 8 k.num] ++ more) }
/-- The service port receives frames (R393, R404). -/
def State.svcUp (s : State) : Bool := s.domOn domSvc
/-- First refusal a command meets: session, level, password, unlock, recovery (R442, R443, R448, R449, R461). `own` marks
what a TECH session may do before its password is changed; `rec` what the recovery agent answers. -/
def State.svcGate (s : State) (f : SvcFrame) (need : Level) (x own rec : Bool) : Option Nak :=
  let v := s.svc
  if s.upd.recovery && ! rec then some .state
  else if need == .none then none
  else if v.sess == 0 || f.sess.toNat != v.sess || v.level == .none then some .noSession
  else if v.level.num < need.num then some .level
  else if v.level == .tech && s.pwDue && ! own then some .passwordChangeDue
  else if x && ! v.unlocked then some .notUnlocked
  else none
/-- The port has locked a rate; without one a frame is ignored (R438). -/
def State.svcHears (s : State) : Bool := s.svcUp && s.svc.baud != 0
/-- The frame carries the number of the open session. -/
def State.ofSession (s : State) (f : SvcFrame) : Bool := s.svc.sess != 0 && f.sess.toNat == s.svc.sess
/-- A valid frame that carries the number of the open session keeps it open (R444). -/
def State.svcUsed (s : State) (f : SvcFrame) : State := if s.ofSession f then s.modSvc fun v => { v with usedAt := s.aon } else s
/-- A command runs when the port hears it and nothing refuses it. -/
def State.svcRun (s : State) (f : SvcFrame) (cmd : Nat) (need : Level) (x own rec : Bool) (g : State → State) : State :=
  if ! s.svcHears then s
  else
    let s1 := s.toRun.svcUsed f
    match s1.svcGate f need x own rec with
    | some k => s1.svcNak f cmd k []
    | none => g s1

/-! ### Image heads, slots and update states (R450, R451, R454, R467) -/

def headAt (h : List Byte) (off n : Nat) : Nat := valLE ((h.drop off).take n)
def Upd.slot (u : Upd) : Slot → FlashSlot
  | .a => u.slotA | .b => u.slotB
def Upd.setSlot (u : Upd) (k : Slot) (f : FlashSlot) : Upd :=
  match k with | .a => { u with slotA := f } | .b => { u with slotB := f }
def Slot.other : Slot → Slot
  | .a => .b | .b => .a
/-- VERSION of a slot's head page. -/
def Upd.version (u : Upd) (k : Slot) : Word := BitVec.ofNat 32 (headAt (u.slot k).head 8 4)
/-- Records the log holds: 1,472 KiB of 64 bytes each (R454). -/
def logSize : Nat := 23552
/-- A record is written into the ring of the log; a full ring drops its oldest (R454). -/
def logPut (l : List LogRec) (r : LogRec) : List LogRec := (l ++ [r]).drop (l.length + 1 - logSize)
/-- UPDATE_STATE is posted, shown and logged (R467, R468). -/
def State.postUpd (s : State) (st : UpdState) (ver : Word) : State :=
  (s.modUpd fun u => { u with state := st, log := logPut u.log { st := st, ver := ver, time := s.rtc } }).postEvt none (.updateState st ver)
/-- A slot is invalidated by erasing its head page (R455). -/
def State.eraseSlot (s : State) (k : Slot) : State := s.modUpd fun u => u.setSlot k { (u.slot k) with head := [] }
/-- A download that ends early: its slot is invalidated and FAILED posted (R457). -/
def State.endDownload (s : State) : State :=
  match s.upd.dl with
  | some d => ((s.modUpd fun u => { u with dl := none }).postUpd .failed (s.upd.version d.slot)).eraseSlot d.slot
  | none => s

/-! ### Sessions end (R351, R444, R449, R457) -/

/-- The service session closes: unlock and FAULT_TEST end with it, and so does its download. -/
def State.svcClose (s : State) : State :=
  let s1 := s.modSvc fun v => { v with sess := 0, level := .none, sessReq := .none, unlocked := false, challenge := 0#128 }
  let s2 := if s1.ref.testBySvc then s1.modRef fun r => { r with faultTest := false, testBySvc := false } else s1
  s2.endDownload
/-- The host session closes (R351, R394). -/
def State.hostClose (s : State) : State :=
  let s1 := s.modLink fun l => { l with sess := 0, level := .none, sessReq := .none, unlocked := false, challenge := 0#128 }
  if s1.ref.testBySvc then s1 else s1.modRef fun r => { r with faultTest := false }

end Sys2Proof.Machine
end

