-- ==== Sys2Proof/Machine/Fuse.lean ====
section
/-! DEFINITION. The fuse controller: programming, locks, reinforcement, audits, the floor and the patch bank
(R415–R436). -/
namespace Sys2Proof.Machine

def FuseResult.num : FuseResult → Nat
  | .none => 0 | .ok => 1 | .notPermitted => 2 | .locked => 3 | .integrity => 4 | .verifyFail => 5 | .env => 6 | .bad => 7
/-- An operation runs or is held behind an audit (FU_STAT.BUSY). -/
def Fuse.busy (f : Fuse) : Bool := f.job.isSome || f.held.isSome
/-- FU_STAT (R435). Before the array has been read FLOOR shows its reset value. -/
def State.fuStat (s : State) : Word :=
  let f := s.fuse
  packWord [(b2n f.busy, 31, 1), (b2n f.source, 30, 1), (b2n f.bootAlarm, 29, 1), (b2n f.weakMore, 28, 1), (b2n f.weak.ovf, 27, 1),
    (b2n f.auditing, 26, 1), (f.result.num, 20, 4), (min 255 ((s.aon - f.auditAt) / (3600 * 32768)), 8, 8),
    (if f.read then f.floorValue else 0, 0, 8)]

/-! ### The boot record (R455) -/

/-- The copy a reader takes: valid CRC and the higher sequence number. -/
def Upd.bootRec (u : Upd) : Option BootRec :=
  match u.boot0.valid, u.boot1.valid with
  | true, true => some (if u.boot1.seq > u.boot0.seq then u.boot1 else u.boot0)
  | true, false => some u.boot0
  | false, true => some u.boot1
  | false, false => none
/-- A writer overwrites the other copy. -/
def Upd.writeBoot (u : Upd) (f : BootRec → BootRec) : Upd :=
  let cur := u.bootRec.getD ⟨.a, false, 0, false, 0, true⟩
  let new := { f cur with seq := cur.seq + 1, valid := true }
  if u.boot0.valid && (! u.boot1.valid || decide (u.boot0.seq ≥ u.boot1.seq)) then { u with boot1 := new } else { u with boot0 := new }
/-- A confirmation ends: FLOOR_PENDING goes to 0 once the floor stands, then CONFIRMED and FLOOR_ADVANCED (R463). -/
def State.confirmDone (s : State) (advanced floorOk : Bool) : State :=
  let s1 := if advanced && floorOk then s.modUpd fun u => u.writeBoot fun b => { b with floorPending := false } else s
  let s2 := s1.postUpd .confirmed s.runVersion
  if advanced && floorOk then s2.postUpd .floorAdvanced s.runVersion else s2

/-! ### Audits (R427, R430) -/

/-- New readings of copies replace the earlier ones. -/
def Fuse.take (f : Fuse) (l : List FuseRead) : Fuse :=
  l.foldl (fun f r =>
    { f with aLow := setBit f.aLow r.bit.val r.aLow, aNorm := setBit f.aNorm r.bit.val r.aNorm, aHigh := setBit f.aHigh r.bit.val r.aHigh,
             bLow := setBit f.bLow r.bit.val r.bLow, bNorm := setBit f.bNorm r.bit.val r.bNorm, bHigh := setBit f.bHigh r.bit.val r.bHigh }) f
/-- Bits whose copies disagree at a margin reference. -/
def Fuse.disagree (f : Fuse) : BitVec 8192 := (f.aLow ^^^ f.bLow) ||| (f.aHigh ^^^ f.bHigh)
/-- Bits whose OR reading differs between any two references. -/
def Fuse.changed (f : Fuse) : BitVec 8192 :=
  let l := f.aLow ||| f.bLow
  let h := f.aHigh ||| f.bHigh
  (l ^^^ f.norm) ||| (h ^^^ f.norm) ||| (l ^^^ h)
/-- FLOOR bits that read 0 below a bit that reads 1 (R428). -/
def Fuse.gaps (f : Fuse) : BitVec 8192 :=
  (List.range f.floorValue).foldl (fun m k => if f.floorBit k then m else setBit m (0xC8 * 32 + k) true) (0#8192)
/-- The set bits of a mask among the words of a range, ascending. -/
def setBits (m : BitVec 8192) (w0 n : Nat) : List Nat :=
  if m == 0#8192 then [] else (List.range (32 * n)).map (· + 32 * w0) |>.filter fun k => m.getLsbD k
/-- The FUSE_WEAK reports of an audit over words w0 to w0 + n − 1: region, bit within it and flags, in bit order. -/
def Fuse.weakList (f : Fuse) (w0 n : Nat) : List (Nat × Nat × Nat) :=
  (setBits (f.disagree ||| f.changed ||| f.gaps) w0 n).map fun k =>
    let r := regionAt (k / 32)
    (r.code, k - 32 * r.span.1, b2n (f.disagree.getLsbD k) + 2 * b2n (f.changed.getLsbD k) + 16 * b2n (f.gaps.getLsbD k))
/-- Reports of regions: INTEGRITY mismatches, and at boot LOCKED_INCOMPLETE (R427, R430). -/
def Fuse.regionReports (f : Fuse) (boot : Bool) : List (Nat × Nat × Nat) :=
  (lockRegions.filter fun r => r != .factory && r != .floor && f.iv r && ! f.matches r).map (fun r => (r.code, 0xFFFF, 4)) ++
  (if boot then (lockRegions.filter fun r => f.status r == .lockedIncomplete).map fun r => (r.code, 0xFFFF, 8) else [])
/-- An audit: FU_WEAK_CNT and at most 16 FUSE_WEAK; a FACTORY mismatch is TRIM (R427, R430, R383). -/
def State.audit (s : State) (w0 n : Nat) (boot : Bool) : State :=
  let f := s.fuse
  let bits := f.weakList w0 n
  let reps := bits ++ f.regionReports boot
  let s1 := s.modFuse fun f =>
    { f with auditing := true, weak := f.weak.add32 (bits.filter fun e => e.2.2 % 4 != 0).length,
             weakMore := f.weakMore || decide (reps.length > 16), auditAt := if n == 256 then s.aon else f.auditAt }
  let s2 := (reps.take 16).foldl (fun s e => s.postEvt none (.fuseWeak e.1 e.2.1 e.2.2)) s1
  if f.iv .factory && ! f.matches .factory then s2.refDeviceFail 0x14 else s2
/-- The words an audit or a reinforcement of a region code covers. -/
def spanOf (region : Nat) : Nat × Nat := match regionOf region with | some r => r.span | none => (0, 256)

/-! ### Programming (R422) -/

inductive FusePlan
  | refuse (r : FuseResult)
  | pulse (bits : List (Fin 8192))
def bitIdx (k : Nat) : Fin 8192 := Fin.ofNat 8192 k
/-- The 1 bits of a word, ascending. -/
def wordBits (w : Nat) (v : Word) : List (Fin 8192) :=
  ((List.range 32).filter fun k => bit v k).map fun k => bitIdx (32 * w + k)
/-- Bit k of a region's nibble in the lock table. -/
def lockIdx (r : FuseRegion) (k : Nat) : Fin 8192 := bitIdx (32 * 0xF3 + 4 * r.code + k)
/-- Bits that a PROGRAM_WORD may not set: those IDENT, PATCH and OEM do not define (R419, R431). -/
def reservedBits (w : Nat) : Word :=
  if w == 0x24 then 0xF0000000#32
  else if decide (0x25 ≤ w) && decide (w ≤ 0x27) then 0xFFFFFFFF#32
  else if decide (0x48 ≤ w) && decide (w < 0xC8) && w % 2 == 1 then 0x00000F00#32
  else if w == 0xCC then 0x0000FFFC#32
  else if w == 0xCD then 0xFFFFFFFF#32
  else 0#32
/-- What a region's status makes of PROGRAM_WORD and INTEGRITY (R426). -/
def Fuse.sealed (f : Fuse) (r : FuseRegion) : Option FuseResult :=
  if f.wl r || f.force r then some .locked else if f.status r == .alarm then some .integrity else none
def lockable (n : Nat) : Option FuseRegion :=
  match regionOf n with
  | some .floor | some .locks | none => none
  | some r => some r

/-- What an operation will do: its refusal, or the bits it pulses in order (R421, R424, R425, R428, R429). -/
def Fuse.plan (f : Fuse) (j : FuseJob) : FusePlan :=
  match j.op with
  | .program =>
    let w := j.addr.toNat
    let r := regionAt w
    if r == .floor || r == .locks || (j.data &&& reservedBits w) != 0#32 then .refuse .bad
    else match f.sealed r with
      | some e => .refuse e
      | none => .pulse (wordBits w j.data)
  | .integrity =>
    match lockable j.region.val with
    | none => .refuse .bad
    | some r =>
      if f.wl r || f.force r then .refuse .locked
      else if f.iv r then .refuse (if f.matches r then .ok else .integrity)
      else if (f.intWord r &&& ~~~ (f.intCrc r)) != 0#32 then .refuse .integrity
      else .pulse (wordBits (0xEC + r.code) (f.intCrc r) ++ [lockIdx r 3])
  | .lock =>
    match lockable j.region.val with
    | none => .refuse .bad
    | some r =>
      if f.wl r || f.force r then .refuse .locked
      else if f.iv r && f.matches r then .pulse [lockIdx r 0] else .refuse .integrity
  | .forceLock =>
    match lockable j.region.val with
    | none => .refuse .bad
    | some r => .pulse [lockIdx r 2, lockIdx r 0]
  | .readLock => if j.region.val == 4 || j.region.val == 6 then
      (match lockable j.region.val with | some r => .pulse [lockIdx r 1] | none => .refuse .bad) else .refuse .bad
  | .reinforce =>
    if decide (8 ≤ j.region.val) && j.region.val != 15 then .refuse .bad
    else
      let sp := spanOf j.region.val
      .pulse ((setBits f.norm sp.1 sp.2).map bitIdx)
  | .audit => if decide (8 ≤ j.region.val) && j.region.val != 15 then .refuse .bad else .pulse []
  | .floorAdvance =>
    let v := j.data.toNat % 256
    if v > 128 || v < f.floorValue then .refuse .bad
    else .pulse (((List.range v).filter fun k => ! f.floorBit k).map fun k => bitIdx (0xC8 * 32 + k))

/-- A copy is dealt with: one that already reads 1 at margin-high is skipped, any other is pulsed and then reads 1 at every
reference (R422). -/
def Fuse.progA (f : Fuse) (k : Fin 8192) : Fuse :=
  if f.aHigh.getLsbD k.val then f else
  { f with aLow := setBit f.aLow k.val true, aNorm := setBit f.aNorm k.val true, aHigh := setBit f.aHigh k.val true }
def Fuse.progB (f : Fuse) (k : Fin 8192) : Fuse :=
  if f.bHigh.getLsbD k.val then f else
  { f with bLow := setBit f.bLow k.val true, bNorm := setBit f.bNorm k.val true, bHigh := setBit f.bHigh k.val true }
def Fuse.prog (f : Fuse) (l : List (Fin 8192)) : Fuse := l.foldl (fun f k => (f.progA k).progB k) f
/-- The bits before the failing copy are programmed, and the failing copy reads as it was found, but never 0 where it has read 1 (R415,
R422). -/
def Fuse.progUntil (f : Fuse) (l : List (Fin 8192)) (e : FuseFail) : Fuse :=
  let g := f.prog (l.takeWhile (· != e.bit))
  let h := if e.copyB then g.progA e.bit else g
  if e.copyB then
    { h with bLow := setBit h.bLow e.bit.val (e.low || h.bLow.getLsbD e.bit.val), bNorm := setBit h.bNorm e.bit.val (e.norm || h.bNorm.getLsbD e.bit.val), bHigh := setBit h.bHigh e.bit.val false }
  else
    { h with aLow := setBit h.aLow e.bit.val (e.low || h.aLow.getLsbD e.bit.val), aNorm := setBit h.aNorm e.bit.val (e.norm || h.aNorm.getLsbD e.bit.val), aHigh := setBit h.aHigh e.bit.val false }
/-- The first n copies of an operation, A then B of each bit, a copy that already reads 1 at margin-high being skipped. -/
def Fuse.copies (f : Fuse) (l : List (Fin 8192)) : List (Fin 8192 × Bool) :=
  l.flatMap fun k => (if f.aHigh.getLsbD k.val then [] else [(k, false)]) ++ (if f.bHigh.getLsbD k.val then [] else [(k, true)])
def Fuse.progFirst (f : Fuse) (l : List (Fin 8192)) (n : Nat) : Fuse :=
  ((f.copies l).take n).foldl (fun f e => if e.2 then f.progB e.1 else f.progA e.1) f

/-! ### Running an operation (R421, R422, R436) -/

/-- An operation ends with a result; a service FUSE_OP is answered with FU_STAT, and the agent's floor advance ends the
confirmation (R443, R463). -/
def State.fuseEnd (s : State) (j : FuseJob) (r : FuseResult) : State :=
  let s1 := s.modFuse fun f => { f with job := none, result := r }
  let s2 := match j.svc with
    | some q => if s1.svcUp then s1.svcReply { sess := BitVec.ofNat 8 s1.svc.sess, seq := q, payload := [] } 0x13 (bytesLE 4 s1.fuStat.toNat) else s1
    | none => s1
  if j.agent then s2.confirmDone true (r == .ok) else s2

/-- An operation starts: refusals first, then the pulse source from VPP in mV (R421, R422). -/
def State.fuseBegin (s : State) (j : FuseJob) (vpp : Nat) : State :=
  match s.fuse.plan j with
  | .refuse r => s.fuseEnd j r
  | .pulse bits =>
    if j.op == .audit then
      let sp := spanOf j.region.val
      (s.modFuse fun f => { f with job := some j }).audit sp.1 sp.2 false
    else if vpp < 1000 || (decide (6200 ≤ vpp) && decide (vpp ≤ 6800)) then
      s.modFuse fun f => { f with job := some { j with todo := bits }, source := decide (6200 ≤ vpp) }
    else s.fuseEnd j .env

def FuseOp.num : FuseOp → Nat
  | .program => 1 | .integrity => 2 | .lock => 3 | .forceLock => 4 | .readLock => 5 | .reinforce => 6 | .audit => 7
  | .floorAdvance => 8
/-- Operations marked X (R421). -/
def FuseOp.expert : FuseOp → Bool
  | .program | .forceLock | .readLock | .floorAdvance => true
  | _ => false
/-- FU_CMD as written (R435). -/
def fuCmd (op : Nat) (region : Fin 16) (addr : BitVec 8) : Word := packWord [(op, 28, 4), (region.val, 24, 4), (addr.toNat, 0, 8)]

/-- A write of FU_CMD on an access path to BAR0 (R421, R435). -/
def State.fuseWrite (s : State) (a : Path6) (x tech : Bool) (cmd : Word) (g : State → Option (BitVec 8) → Word → State) : State :=
  if s.fuse.busy then s
  else
    let s1 := s.modFuse fun f => { f with cmd := cmd }
    if (tech && ! s1.techOn a) || (x && ! s1.expertOn a) then s1.modFuse fun f => { f with result := .notPermitted }
    else g s1 none s1.fuse.wdata
/-- A fuse command from the host's FU_CMD or a service FUSE_OP (R421, R435, R436): held behind an audit, ignored or answered BUSY while an operation runs. `g` is
what the operation does when the controller takes it. -/
def State.fuseCmd (s : State) (src : FuseSrc) (x tech : Bool) (cmd : Word) (g : State → Option (BitVec 8) → Word → State) : State :=
  if s.pwr.dev == .deep then s
  else match src with
  | .host => if s.domOn domHost then s.toRun.fuseWrite .host x tech cmd g else s
  | .svc f =>
    s.svcRun f 0x13 .tech x false false fun s1 =>
      if f.payload.length != 8 then s1.svcNak f 0x13 .badField []
      else if s1.fuse.busy then s1.svcNak f 0x13 .busy []
      else
        let w := BitVec.ofNat 32 (valLE (f.payload.take 4))
        g (s1.modFuse fun f => { f with cmd := cmd, wdata := w }) (some f.seq) w

/-- An operation is taken, or held behind the audit that runs (R436). -/
def State.fuseTake (s : State) (op : FuseOp) (region : Fin 16) (addr : BitVec 8) (vpp : Nat) (svc : Option (BitVec 8)) (data : Word) : State :=
  let j : FuseJob := { op := op, region := region, addr := addr, data := data, todo := [], agent := false, svc := svc }
  if s.fuse.auditing then s.modFuse fun f => { f with held := some j } else s.fuseBegin j vpp
def State.fuseOp (s : State) (src : FuseSrc) (op : FuseOp) (region : Fin 16) (addr : BitVec 8) (vpp : Nat) : State :=
  s.fuseCmd src op.expert (op != .audit) (fuCmd op.num region addr) fun s1 q w => s1.fuseTake op region addr vpp q w

/-- PROGRAM_WORD (R421, R422). -/
def execProgramWord (src : FuseSrc) (addr : BitVec 8) (vpp : Nat) (s : State) : Out := ok (s.fuseOp src .program 0 addr vpp)
/-- INTEGRITY (R418, R421). -/
def execIntegrity (src : FuseSrc) (region : Fin 16) (vpp : Nat) (s : State) : Out := ok (s.fuseOp src .integrity region 0 vpp)
/-- LOCK (R424). -/
def execLock (src : FuseSrc) (region : Fin 16) (vpp : Nat) (s : State) : Out := ok (s.fuseOp src .lock region 0 vpp)
/-- FORCE_LOCK (R425). -/
def execForceLock (src : FuseSrc) (region : Fin 16) (vpp : Nat) (s : State) : Out := ok (s.fuseOp src .forceLock region 0 vpp)
/-- READ_LOCK (R421). -/
def execReadLock (src : FuseSrc) (region : Fin 16) (vpp : Nat) (s : State) : Out := ok (s.fuseOp src .readLock region 0 vpp)
/-- REINFORCE (R429): no content changes, only copies of bits that read 1. -/
def execReinforce (src : FuseSrc) (region : Fin 16) (vpp : Nat) (s : State) : Out := ok (s.fuseOp src .reinforce region 0 vpp)
/-- AUDIT (R427). -/
def execAudit (src : FuseSrc) (region : Fin 16) (reads : List FuseRead) (s : State) : Out :=
  ok ((s.modFuse fun f => f.take reads).fuseOp src .audit region 0 0)
/-- FLOOR_ADVANCE (R428). -/
def execFloorAdvance (src : FuseSrc) (vpp : Nat) (s : State) : Out := ok (s.fuseOp src .floorAdvance 0 0 vpp)
/-- FUSE_RESERVED_OP (R421): nothing is done, RESULT BAD. -/
def execFuseReservedOp (src : FuseSrc) (op : Fin 8) (region : Fin 16) (s : State) : Out :=
  let n := if op.val == 0 then 0 else 8 + op.val
  ok (s.fuseCmd src false false (fuCmd n region 0) fun s1 q _ =>
    let s2 := s1.modFuse fun f => { f with result := .bad }
    match q with
    | some k => s2.svcReply { sess := BitVec.ofNat 8 s2.svc.sess, seq := k, payload := [] } 0x13 (bytesLE 4 s2.fuStat.toNat)
    | none => s2)

/-- The audit that fell due during an operation starts when it ends (R436). -/
def State.auditIfDue (s : State) : State :=
  if s.fuse.auditDue && s.fuse.job.isNone && ! s.fuse.auditing && s.fuse.held.isNone then
    (s.modFuse fun f => { f with auditDue := false }).audit 0 256 false
  else s
/-- The audit that runs ends; an AUDIT operation completes OK. -/
def State.auditEnd (s : State) : State :=
  if s.fuse.auditing then
    let s1 := s.modFuse fun f => { f with auditing := false }
    match s1.fuse.job with
    | some j => if j.op == .audit then s1.fuseEnd j .ok else s1
    | none => s1
  else s

/-- AON cycles of the audit's period, 24 h (R427). -/
def auditPeriod : Nat := secCycles 86400
/-- FUSE_AUDIT_PERIODIC (R427, R436): every 24 h after the boot audit, the audit of the whole array, or its wait for the operation
that runs. -/
def execFuseAuditPeriodic (reads : List FuseRead) (s : State) : Out :=
  if s.pwr.dev == .deep || ! s.fuse.read || decide (s.aon < s.fuse.periodAt) then ok s
  else
    let s1 := s.modFuse fun f => { (f.take reads) with periodAt := f.periodAt + auditPeriod }
    if s1.fuse.busy || s1.fuse.auditing then ok (s1.modFuse fun f => { f with auditDue := true }) else ok (s1.audit 0 256 false)

/-- FUSE_HELD_OP_START (R435, R436): the audit ends and the operation held behind it starts. -/
def execFuseHeldOpStart (vpp : Nat) (s : State) : Out :=
  let s1 := s.auditEnd
  if s1.fuse.job.isSome then ok s1
  else match s1.fuse.held with
    | some j => ok (((s1.modFuse fun f => { f with held := none }).fuseBegin j vpp).auditIfDue)
    | none => ok s1.auditIfDue

/-- FUSE_OPERATION_DONE (R422, R429, R436): the bits are programmed, up to a copy that fails; REINFORCE then audits its
region; an audit that fell due starts. -/
def execFuseOperationDone (fail : Option FuseFail) (s : State) : Out :=
  match s.fuse.job with
  | none => ok s
  | some j =>
    if j.op == .audit then ok (s.auditEnd.auditIfDue)
    else
      let bad := match fail with
        | some e => j.todo.contains e.bit && ! (if e.copyB then s.fuse.bHigh else s.fuse.aHigh).getLsbD e.bit.val
        | none => false
      let s1 := s.modFuse fun f => match fail with
        | some e => if bad then f.progUntil j.todo e else f.prog j.todo
        | none => f.prog j.todo
      let r := if bad then FuseResult.verifyFail else .ok
      let s2 := if j.op == .reinforce then
          let sp := spanOf j.region.val
          (s1.audit sp.1 sp.2 false).modFuse fun f => { f with auditing := false }
        else s1
      ok ((s2.fuseEnd j r).auditIfDue)

/-- A supply a running operation needs is lost: VPP outside 6.2–6.8 V where it is the source, or VAUX below 3.135 V (R422). -/
def Fuse.starved (f : Fuse) (vpp vaux : Nat) : Bool := (f.source && (decide (vpp < 6200) || decide (6800 < vpp))) || decide (vaux < 3135)
/-- FUSE_SUPPLY_LOST (R422): the operation stops after the copy in progress, RESULT ENV. -/
def execFuseSupplyLost (vpp vaux : Nat) (copies : Nat) (s : State) : Out :=
  match s.fuse.job with
  | none => ok s
  | some j =>
    if j.op == .audit || ! s.fuse.starved vpp vaux then ok s
    else ok (((s.modFuse fun f => f.progFirst j.todo copies).fuseEnd j .env).auditIfDue)

/-- FU_RADDR_WRITE (R420). -/
def execFuRaddrWrite (addr : BitVec 8) (s : State) : Out :=
  if s.pwr.dev == .deep || ! s.pwr.domUp then ok s
  else ok (s.toRun.modFuse fun f => { f with raddr := addr, rdata := f.readWord addr.toNat })

/-! ### Boot (R431–R434) -/

/-- CRC-8 of a patch entry: x⁸ + x² + x + 1, initial value 0, no reflection and no inversion (R431). -/
def crc8 (l : List Byte) : Byte :=
  l.foldl (fun c b => (List.range 8).foldl (fun c _ => if c.getLsbD 7 then (c <<< 1) ^^^ 0x07#8 else c <<< 1) (c ^^^ b)) 0#8
/-- An entry of the PATCH region, as 64 bits. -/
def Fuse.patch (f : Fuse) (e : Nat) : BitVec 64 := f.word (0x49 + 2 * e) ++ f.word (0x48 + 2 * e)
def patchAddr (v : BitVec 64) : Nat := v.toNat / 2 ^ 44 % 2 ^ 18
def patchTaken (v : BitVec 64) : Bool :=
  v.getLsbD 63 && ! v.getLsbD 62 && v.toNat / 2 ^ 40 % 16 == 0
    && crc8 (bytesLE 3 (patchAddr v) ++ bytesLE 4 v.toNat) == BitVec.ofNat 8 (v.toNat / 2 ^ 32)
    && decide (0x400 ≤ patchAddr v) && decide (patchAddr v ≤ 0xFFFF)
/-- The patch bank is loaded, unless PATCH is ALARM or LOCKED_INCOMPLETE (R431, R432, R434). -/
def Fuse.loadBank (f : Fuse) : Fuse :=
  let es := (List.range 64).map f.patch
  let ok := match f.status .patch with | .alarm | .lockedIncomplete => false | _ => true
  let rev := (es.filter fun v => v.getLsbD 62).length
  let tk := if ok then es.filter patchTaken else []
  { f with bank := tk.map fun v => (patchAddr v, v.setWidth 32), taken := tk.length, revoked := rev,
           bad := (es.filter fun v => v != 0#64 && ! v.getLsbD 62 && ! patchTaken v).length }
/-- A boot ROM word as it reads through the bank: the highest-numbered taken entry applies (R432). -/
def Fuse.romWord (f : Fuse) (a : Nat) : Word :=
  match (f.bank.reverse.find? fun e => e.1 == a) with
  | some e => e.2
  | none => BitVec.ofNat 32 (valLE ((List.range 4).map fun k => Config.romByte (4 * a + k)))

/-- The boot read: statuses, patch bank, BOOT_ALARM, then the margin references (R427, R432, R433). FACTORY verifies when it
is LOCKED; any other status is TRIM (R434). -/
def State.fuseBoot (s : State) (reads : List FuseRead) : State :=
  let s1 := s.modFuse fun f0 =>
    let f := { (f0.take reads).loadBank with read := true }
    let st := lockRegions.map f.status
    { f with boot := st, bootAlarm := st.any (fun x => x == .alarm || x == .lockedIncomplete), periodAt := s.aon + auditPeriod }
  let good := s1.bootStatus .factory == .locked
  let s2 := (s1.modRef fun r => { r with factoryOk := good }).audit 0 256 true
  if good then s2 else s2.refDeviceFail 0x14

end Sys2Proof.Machine
end

