-- ==== Sys2Proof/Machine/Huddle.lean ====
section
/-! DEFINITION. The huddle and the kickoff: staged registers and breaker sets, the consistency check, arming, the commit
point and the apply instant (R355–R373). -/
namespace Sys2Proof.Machine

/-! ### Staged registers (R355) -/

/-- Offset of a per-port register (R479). -/
def ppOff (p r : Nat) : Nat := 0x8000 + p * 0x80 + r
/-- The port and the offset within its block. -/
def ppPort (off : Nat) : Option (PortId × Nat) :=
  if h : 0x8000 ≤ off ∧ off < 0xE000 then some (⟨(off - 0x8000) / 0x80, by omega⟩, (off - 0x8000) % 0x80) else none
/-- RWS bits of a register and the expert-only ones among them; none for a register without RWS fields. -/
def rwsMask (off : Nat) : Word × Word :=
  match ppPort off with
  | some (_, 0x30) => (0x0000FF1F#32, 0x0000FF1F#32)
  | some (_, 0x44) => (0xFFFFFCFF#32, 0#32)
  | some _ => (0#32, 0#32)
  | none =>
    if off == 0x4800 then (0x0000FF07#32, 0x0000FF00#32)
    else if off == 0x4804 then (0x00FF0003#32, 0x00FF0003#32)
    else if off == 0x480C then (0xFFFF0000#32, 0xFFFF0000#32)
    else if off == 0x6000 || off == 0x6020 then (0x3FFFFFFF#32, 0#32)
    else if off == 0x6004 || off == 0x6024 then (0xFFFFFFFF#32, 0x00000FFF#32)
    else if off == 0x6040 then (0x00FFFF03#32, 0x00000003#32)
    else if off == 0x1000 || off == 0x1004 then (0x000FFFFF#32, 0#32)
    else if off == 0x1008 then (0x03FFFFFF#32, 0x000FC00F#32)
    else if off == 0x100C then (0xFFFFFF00#32, 0xFFFFFF00#32)
    else if off == 0x1010 then (0x00FFFFFF#32, 0#32)
    else if off == 0x4000 then (0xFFFF00FF#32, 0#32)
    else if 0x5180 ≤ off && off < 0x5198 && off % 4 == 0 then (0xFFFFFFFF#32, 0xFFFFFFFF#32)
    else (0#32, 0#32)

def sbCfgWord (b : SbSet) : Word := packWord [(b.cls, 30, 2), (b.ceil, 20, 10), (b.floor, 10, 10), (b.weight, 0, 8)]
def State.mtSelMask (s : State) : Nat := ((allTiles.filter fun t => (s.tile t).mtSel).map fun t => 2 ^ t.val).sum
def feedWin (q : Feed) : Word := packWord [(q.ov, 20, 10), (q.uvq, 10, 10), (q.uvt, 0, 10)]
def feedRate (q : Feed) : Word := packWord [(q.rated, 20, 12), (q.shunt, 12, 8), (q.ftmv, 4, 8), (q.ig, 0, 4)]
/-- The value in force of a register's RWS fields (R10). -/
def State.rwsRead (s : State) (off : Nat) : Word :=
  let c := s.cfg
  match ppPort off with
  | some (p, 0x30) => packWord [((s.port p).path.ift, 8, 8), ((s.port p).path.slew, 0, 5)]
  | some (p, 0x44) => sbCfgWord (s.port p).sb.set
  | some _ => 0#32
  | none =>
    if off == 0x4800 then packWord [(c.filtM, 12, 4), (c.filtN, 8, 4), (c.tick, 0, 3)]
    else if off == 0x4804 then packWord [(s.mtSelMask, 16, 8), (c.slicer, 0, 2)]
    else if off == 0x480C then packWord [(c.stOvr.toNat, 16, 16)]
    else if off == 0x6000 then feedWin s.feedA
    else if off == 0x6020 then feedWin s.feedB
    else if off == 0x6004 then feedRate s.feedA
    else if off == 0x6024 then feedRate s.feedB
    else if off == 0x6040 then packWord [(c.insDelay, 16, 8), (c.returnDelay, 8, 8), (b2n c.fdbCurve, 1, 1), (b2n c.fdaCurve, 0, 1)]
    else if off == 0x1000 then packWord [(c.budget, 0, 20)]
    else if off == 0x1004 then packWord [(c.budgetB, 0, 20)]
    else if off == 0x1008 then
      packWord [(c.reserve, 20, 6), (c.grace, 14, 6), (c.usageWin, 8, 6), (c.usageMargin, 4, 4), (c.vcBudget, 0, 4)]
    else if off == 0x100C then packWord [(c.rc, 24, 8), (c.rth, 16, 8), (c.cth, 8, 8)]
    else if off == 0x1010 then packWord [(c.tLim, 16, 8), (c.band, 8, 8), (twos 8 c.ambOfs, 0, 8)]
    else if off == 0x4000 then packWord [(s.meas.ntcB, 16, 16), (s.meas.ntcR25, 0, 8)]
    else if 0x5180 ≤ off && off < 0x5198 && off % 4 == 0 then (c.pins >>> (32 * ((off - 0x5180) / 4))).setWidth 32
    else 0#32

def State.setFeedWin (s : State) (f : FeedId) (v : Word) : State :=
  let g := fun q : Feed => { q with ov := bits v 20 10, uvq := bits v 10 10, uvt := bits v 0 10 }
  match f with | .fda => { s with feedA := g s.feedA } | .fdb => { s with feedB := g s.feedB }
def State.setFeedRate (s : State) (f : FeedId) (v : Word) : State :=
  let g := fun q : Feed => { q with rated := bits v 20 12, shunt := bits v 12 8, ftmv := bits v 4 8, ig := bits v 0 4 }
  match f with | .fda => { s with feedA := g s.feedA } | .fdb => { s with feedB := g s.feedB }
/-- A staged value comes into force in a register's RWS fields. -/
def State.rwsPut (s : State) (e : Staged) : State :=
  let v := e.value
  let off := e.offset
  match ppPort off with
  | some (p, 0x30) => s.modPath p fun q => { q with ift := bits v 8 8, slew := bits v 0 5 }
  | some (p, 0x44) => s.modSb p fun b =>
    { b with set := { cls := bits v 30 2, ceil := bits v 20 10, floor := bits v 10 10, weight := bits v 0 8 } }
  | some _ => s
  | none =>
    if off == 0x4800 then s.modCfg fun c => { c with filtM := bits v 12 4, filtN := bits v 8 4, tick := bits v 0 3 }
    else if off == 0x4804 then
      allTiles.foldl (fun s t => s.modTile t fun q => { q with mtSel := bit v (16 + t.val) }) (s.modCfg fun c => { c with slicer := bits v 0 2 })
    else if off == 0x480C then s.modCfg fun c => { c with stOvr := BitVec.ofNat 16 (bits v 16 16) }
    else if off == 0x6000 then s.setFeedWin .fda v
    else if off == 0x6020 then s.setFeedWin .fdb v
    else if off == 0x6004 then s.setFeedRate .fda v
    else if off == 0x6024 then s.setFeedRate .fdb v
    else if off == 0x6040 then
      s.modCfg fun c => { c with insDelay := bits v 16 8, returnDelay := bits v 8 8, fdbCurve := bit v 1, fdaCurve := bit v 0 }
    else if off == 0x1000 then s.modCfg fun c => { c with budget := bits v 0 20 }
    else if off == 0x1004 then s.modCfg fun c => { c with budgetB := bits v 0 20 }
    else if off == 0x1008 then
      s.modCfg fun c => { c with reserve := bits v 20 6, grace := bits v 14 6, usageWin := bits v 8 6, usageMargin := bits v 4 4,
                                 vcBudget := bits v 0 4 }
    else if off == 0x100C then s.modCfg fun c => { c with rc := bits v 24 8, rth := bits v 16 8, cth := bits v 8 8 }
    else if off == 0x1010 then
      s.modCfg fun c => { c with tLim := bits v 16 8, band := bits v 8 8, ambOfs := signed 8 (bits v 0 8) }
    else if off == 0x4000 then { s with meas := { s.meas with ntcB := bits v 16 16, ntcR25 := bits v 0 8 } }
    else if 0x5180 ≤ off && off < 0x5198 && off % 4 == 0 then
      let sh := 32 * ((off - 0x5180) / 4)
      s.modCfg fun c => { c with pins :=
        (c.pins &&& ~~~ ((BitVec.ofNat 192 0xFFFFFFFF) <<< sh)) ||| ((v.setWidth 192) <<< sh) }
    else s
/-- A staged breaker set comes into force (R175, R193). -/
def State.curvePut (s : State) (e : Nat × List (Nat × Nat)) : State :=
  if e.1 == 2 then s.modCfg fun c => { c with b2 := e.2 }
  else if e.1 == 3 then s.modCfg fun c => { c with b3 := e.2 }
  else if e.1 == 0x10 then { s with feedA := { s.feedA with fb2 := e.2 } }
  else if e.1 == 0x11 then { s with feedB := { s.feedB with fb2 := e.2 } }
  else s
/-- The configuration that would be in force after a kickoff (R360). -/
def State.withStaged (s : State) : State := s.hud.curves.foldl State.curvePut (s.hud.staged.foldl State.rwsPut s)

/-! ### Writing the huddle (R355–R358) -/

def HuddleState.sealed : HuddleState → Bool
  | .armed | .committed => true
  | _ => false
def State.sealed (s : State) : Bool := s.hud.state.sealed
/-- A staged write or a table load since the last check (R357). -/
def State.hudTouch (s : State) : State :=
  s.modHud fun h => { h with state := if h.state == .empty || h.state == .checked then .staged else h.state }
def insertStaged (l : List Staged) (e : Staged) : List Staged :=
  match l with
  | [] => [e]
  | x :: r => if e.offset < x.offset then e :: x :: r else if e.offset == x.offset then e :: r else x :: insertStaged r e
def insertCurve (l : List (Nat × List (Nat × Nat))) (e : Nat × List (Nat × Nat)) : List (Nat × List (Nat × Nat)) :=
  match l with
  | [] => [e]
  | x :: r => if e.1 < x.1 then e :: x :: r else if e.1 == x.1 then e :: r else x :: insertCurve r e
/-- The staged copy of a register, or the value in force where none exists. -/
def State.stagedOr (s : State) (off : Nat) : Word :=
  match s.hud.staged.find? fun e => e.offset == off with
  | some e => e.value
  | none => s.rwsRead off
/-- Fields of a register are staged under a mask; the others keep their staged copies (R6, R355). -/
def State.stageMask (s : State) (off : Nat) (mask v : Word) : State :=
  if mask == 0#32 then s
  else if s.sealed then s.modHud fun h => { h with sealedWrite := true }
  else
    (s.modHud fun h => { h with staged := insertStaged h.staged ⟨off, (s.stagedOr off &&& ~~~ mask) ||| (v &&& mask)⟩ }).hudTouch
/-- A BAR0 write to a register's RWS fields; `x` says that R5 holds on the path. R5 is tested at this write only: a staged X field comes
into force at its kickoff although the session that unlocked it has closed (DESIGN CHOICE, log entry 67: R355 to R372 do not say). -/
def State.stageWrite (s : State) (off : Nat) (v : Word) (x : Bool) : State :=
  let m := rwsMask off
  s.stageMask off (if x then m.1 else m.1 &&& ~~~ m.2) v
def State.stageCurve (s : State) (target : Nat) (c : List (Nat × Nat)) : State :=
  (s.modHud fun h => { h with curves := insertCurve h.curves (target, c) }).hudTouch

/-! ### Checking tables (R82, R170) -/

/-- Codes of R362. -/
def hdField : Nat := 1
def hdBudget : Nat := 2
def hdCurve : Nat := 3
def hdStep : Nat := 4
def hdMsg : Nat := 5

/-- First entry that a test rejects. -/
def firstBad (l : List (BitVec 64)) (bad : BitVec 64 → Bool) : Option Nat :=
  (l.zipIdx.find? fun e => bad e.1).map Prod.snd
/-- The lowest node of `n` nodes that lies on a cycle. -/
def cycleAt (succ : Nat → List Nat) (n : Nat) : Option Nat :=
  (List.range n).find? fun k => (reach succ (succ k) n).contains k

/-- Whether the action or the wait of a step-table entry uses THRESHOLD (R159). -/
def seUsesThr (e : BitVec 64) : Bool :=
  (seAct e == 7 && seArg e % 4 == 1) || (seAct e == 3 && seArg e == 1) || [1, 2, 4, 6, 7].contains (seWait e)
/-- Highest defined ARG of an action (R160). -/
def seArgMax (a : Nat) : Option Nat := [0, 1, 1, 3, 4, 3, 0xA, 0xF, 2][a]?
def seFieldBad (e : BitVec 64) : Bool :=
  (match seArgMax (seAct e) with | some m => decide (seArg e > m) | none => true) || decide (seWait e > 8)
    || seField e 3 5 != 0 || (seHold e && ! seEnd e) || (seWait e == 6 && decide (seThr e > 2))
    || (seWait e == 7 && seThr e != 1 && seThr e != 2) || (! seUsesThr e && seThr e != 0)
def seNextBad (n : Nat) (e : BitVec 64) : Bool :=
  ! seEnd e && (decide (seOk e ≥ n) || (seToTaken e && decide (seTo e ≥ n)))
/-- Gate last commanded closed without a window since: the flag after an entry, from the flag before it (R170). -/
def seOpenFlag (e : BitVec 64) (f : Bool) : Bool :=
  if seAct e == 1 then seArg e == 1 else if seAct e == 8 && decide (seArg e < 2) then false else f
/-- The same walk over pairs of entry and flag after it, numbered 2 × entry + flag. -/
def seFlagSucc (t : List (BitVec 64)) (k : Nat) : List Nat :=
  (seSucc t (k / 2)).map fun j => 2 * j + (match t[j]? with | some e => b2n (seOpenFlag e (k % 2 == 1)) | none => 0)
/-- The check of a RAM step table: code, and the entry, or none for the whole table (R170). -/
def stepCheck (t : StepTable) : Option (Nat × Option Nat) :=
  let l := t.entries
  let n := l.length
  match firstBad l seFieldBad with
  | some k => some (hdField, some k)
  | none => match firstBad l fun e => seField e 24 16 == 0 && seWait e != 0 with
    | some k => some (hdField, some k)
    | none => match firstBad l (seNextBad n) with
      | some k => some (hdStep, some k)
      | none =>
        let idle := fun k => match l[k]? with | some e => if seWait e == 0 then seSucc l k else [] | none => []
        match cycleAt idle n with
        | some k => some (hdStep, some k)
        | none =>
          let ends := fun k => match l[k]? with | some e => seEnd e | none => false
          let from0 := reach (seSucc l) [0] n
          match (List.range (max n 1)).find? fun k => from0.contains k && ! (reach (seSucc l) [k] n).any ends with
          | some k => some (hdStep, some k)
          | none =>
            let start := match l[0]? with | some e => b2n (seOpenFlag e false) | none => 0
            let walk := reach (seFlagSucc l) [start] (2 * n)
            match (List.range n).find? fun k => ends k && walk.contains (2 * k + 1) with
            | some k => some (hdStep, some k)
            | none => if n > 64 || crc32 (l.flatMap fun e => bytesLE 8 e.toNat) != t.crc then some (hdStep, none) else none

/-- Encodings of a message-table entry (R76–R79). -/
def meArgMax (a : Nat) : Option Nat := [0, 4, 1, 9, 4, 1, 4, 3][a]?
def meOperandBad (e : BitVec 64) : Bool :=
  if mtAct e == 3 then
    if [2, 4, 5, 7, 8].contains (mtArg e) then mtOperand e != 0
    else mtArg e == 1 && mtOperand e / 32 % 32 != 0
  else mtOperand e != 0 && ! (mtAct e == 4 && mtArg e == 1)
def meFieldBad (e : BitVec 64) : Bool :=
  (match meArgMax (mtAct e) with | some m => decide (mtArg e > m) | none => true) || decide (mtWait e > 8)
    || seField e 2 6 != 0 || meOperandBad e
def meTmo (e : BitVec 64) : Nat := seField e 24 16
/-- An action of alternate outcome whose wait is NONE. -/
def meBranches (e : BitVec 64) : Bool := mtAct e == 3 || (mtAct e == 4 && mtArg e == 1)
def meIdleSucc (l : List (BitVec 64)) (k : Nat) : List Nat :=
  match l[k]? with
  | none => []
  | some e => if mtEnd e || mtWait e != 0 then [] else mtOk e :: (if meBranches e then [mtAlt e] else [])
/-- A path that begins on a reception reaches TX GoodCRC, END or DELIVER discard within `k` entries whose waits are NONE; BY_RX is true
on it (R82). -/
def meReaches (l : List (BitVec 64)) : Nat → Nat → Bool
  | 0, _ => false
  | k + 1, j =>
    match l[j]? with
      | none => false
      | some e =>
        if (mtAct e == 1 && mtArg e == 1) || mtEnd e || (mtAct e == 2 && mtArg e == 1) then true
        else if mtWait e != 0 then false
        else if mtAct e == 3 && mtArg e == 8 then meReaches l k (mtOk e)
        else meReaches l k (mtOk e) && (! meBranches e || meReaches l k (mtAlt e))
/-- Entries at which such a path starts. -/
def meStarts (e : BitVec 64) : Bool := ! mtEnd e && (mtWait e == 1 || mtWait e == 4 || (mtAct e == 3 && mtArg e == 8))
/-- The check of a tile's RAM message table (R82). -/
def msgCheck (l : List (BitVec 64)) (crc : Word) : Option (Nat × Option Nat) :=
  let n := l.length
  match firstBad l meFieldBad with
  | some k => some (hdField, some k)
  | none => match firstBad l fun e => meTmo e == 0 && decide (mtWait e > 2) with
    | some k => some (hdField, some k)
    | none => match firstBad l fun e => ! mtEnd e && (decide (mtOk e ≥ n) || decide (mtAlt e ≥ n)) with
      | some k => some (hdMsg, some k)
      | none =>
        let e0 := (l[0]?).getD 0#64
        if ! (mtAct e0 == 0 && mtWait e0 == 1 && mtIdle e0) then some (hdMsg, some 0)
        else match cycleAt (meIdleSucc l) n with
          | some k => some (hdMsg, some k)
          | none => match firstBad l fun e => meStarts e && ! meReaches l 8 (mtOk e) with
            | some k => some (hdMsg, some k)
            | none => match firstBad l fun e => mtWait e == 3 && (decide (meTmo e < 900) || decide (meTmo e > 1100)) with
              | some k => some (hdMsg, some k)
              | none => match firstBad l fun e => mtAct e == 4 && mtArg e == 1 && decide (mtOperand e > 3) with
                | some k => some (hdMsg, some k)
                | none => if crc32 (l.flatMap fun e => bytesLE 8 e.toNat) != crc then some (hdMsg, none) else none

/-! ### Checking registers and curves (R361) -/

def within (v lo hi : Nat) : Bool := decide (lo ≤ v) && decide (v ≤ hi)
/-- First segment at which a set does not ascend in threshold and descend in time (R175, R193). -/
def curveBad (c : List (Nat × Nat)) : Option Nat :=
  (List.range (c.length - 1)).findSome? fun k =>
    match c.drop k with
    | a :: b :: _ => if decide (a.1 < b.1) && decide (b.2 < a.2) then none else some (k + 1)
    | _ => none
/-- The budget test of R213 on either feed: a zero FDB budget stands for that of FDA (R211). -/
def State.budgetShort (s : State) : Bool :=
  let n := s.ports.toList.countP fun q => q.pol.enabled
  let b := if s.cfg.budgetB == 0 then s.cfg.budget else s.cfg.budgetB
  decide (min s.cfg.budget b < s.cfg.reserve * n)
def pinCount (v : BitVec 192) : Nat := allPorts.countP fun p => v.getLsbD p.val
/-- First failure of a list of (test, code) in field order. -/
def firstCode (l : List (Bool × Nat)) : Option Nat := (l.find? fun e => ! e.1).map Prod.snd
/-- I7 of the set a feed selects. -/
def feedI7 (sel : Bool) (q : Feed) : Nat := if sel then ((q.fb2[7]?).getD (64, 0)).1 else 64
/-- FT_MV lies above I7 × RATED × SHUNT of the selected set (R208). -/
def Feed.ftAbove (q : Feed) (sel : Bool) : Bool := decide (q.ftmv * 12800 > feedI7 sel q * q.rated * q.shunt)
def feedCheck (q : Feed) (sel : Bool) : List (Bool × Nat) :=
  [ (decide (q.rated * q.shunt * 5 ≤ 150000), hdCurve), (within q.ftmv 20 150, hdField), (q.ftAbove sel, hdCurve), (within q.ig 1 10, hdField) ]
def winCheck (q : Feed) : List (Bool × Nat) :=
  [(decide (q.uvt < q.uvq) && decide (q.uvq + 10 < q.ov) && decide (q.ov ≤ 630), hdField)]
/-- The checks of a staged register, its fields from the most significant down, on the configuration after kickoff. -/
def State.regChecks (s : State) (off : Nat) : List (Bool × Nat) :=
  let c := s.cfg
  match ppPort off with
  | some (p, 0x30) => [(within (s.port p).path.ift 12 48, hdField), (within (s.port p).path.slew 1 20, hdField)]
  | some (p, 0x44) =>
    let b := (s.port p).sb.set
    [(within b.ceil b.floor 960, hdField), (within b.floor c.reserve b.ceil, hdField), (b.weight != 0, hdField)]
  | some _ => []
  | none =>
    if off == 0x4800 then [(within c.filtM 1 8, hdField), (within c.filtN 1 c.filtM, hdField), (decide (c.tick ≤ 5), hdField)]
    else if off == 0x4804 then
      [(allTiles.all fun t => ! (s.tile t).mtSel || (s.tile t).mtValid, hdMsg), (decide (c.slicer ≤ 2), hdField)]
    else if off == 0x480C then [((List.range 16).all fun k => ! c.stOvr.getLsbD k || s.stValid k, hdStep)]
    else if off == 0x6000 then winCheck s.feedA
    else if off == 0x6020 then winCheck s.feedB
    else if off == 0x6004 then feedCheck s.feedA c.fdaCurve
    else if off == 0x6024 then feedCheck s.feedB c.fdbCurve
    else if off == 0x6040 then
      [(c.insDelay != 0, hdField), (s.feedB.ftAbove c.fdbCurve, hdCurve), (s.feedA.ftAbove c.fdaCurve, hdCurve)]
    else if off == 0x1000 || off == 0x1004 then [(! s.budgetShort, hdBudget)]
    else if off == 0x1008 then
      [ (within c.reserve 10 60, hdField), (allPorts.all fun p => decide (c.reserve ≤ (s.port p).sb.set.floor), hdField), (! s.budgetShort, hdBudget), (within c.grace 5 50, hdField), (within c.usageWin 10 63, hdField),
        (within c.usageMargin 1 8, hdField), (within c.vcBudget 2 12, hdField) ]
    else if off == 0x100C then [(c.rc != 0, hdField), (c.rth != 0, hdField), (c.cth != 0, hdField)]
    else if off == 0x1010 then
      [(within c.tLim 40 125, hdField), (within c.band 2 30, hdField), (decide (-20 ≤ c.ambOfs) && decide (c.ambOfs ≤ 20), hdField)]
    else if off == 0x4000 then [(within s.meas.ntcB 2000 5000, hdField), (decide (10 ≤ s.meas.ntcR25), hdField)]
    else if 0x5180 ≤ off && off < 0x5198 then
      let k := (off - 0x5180) / 4
      [(decide (pinCount c.pins ≤ 32), hdField),
       (allPorts.all fun p => p.val / 32 != k || ! c.pins.getLsbD p.val || ! (s.port p).sc.quar, hdField)]
    else []

/-! ### The check (R360–R362) -/

def locReg (off : Nat) : Word := BitVec.ofNat 32 off
/-- Locator of a table entry, or WHOLE. -/
def locTable (kind n : Nat) (e : Option Nat) : Word :=
  match e with
  | some k => packWord [(kind, 28, 4), (n, 8, 8), (k, 0, 8)]
  | none => packWord [(kind, 28, 4), (1, 16, 1), (n, 8, 8)]
/-- RAM step tables not yet checked, in order, up to the first failure. -/
def State.checkSteps (s : State) : List Nat → State × Option (Nat × Word)
  | [] => (s, none)
  | n :: r =>
    let t := (s.cfg.stRam[n - 16]?).getD ⟨[], 0#32, false⟩
    let res := stepCheck t
    let s1 := (s.modCfg fun c => { c with stRam := setAt c.stRam (n - 16) { t with valid := res.isNone } }).modHud fun h =>
      { h with newSteps := h.newSteps.filter (· != n) }
    match res with
    | none => s1.checkSteps r
    | some e => (s1, some (e.1, locTable 1 n e.2))
/-- RAM message tables not yet checked, in tile order. -/
def State.checkMsgs (s : State) : List TileId → State × Option (Nat × Word)
  | [] => (s, none)
  | t :: r =>
    if ! s.hud.newMsgs.contains t.val then s.checkMsgs r
    else
      let q := s.tile t
      let res := msgCheck q.mtRam q.mtCrc
      let s1 := (s.modTile t fun q => { q with mtValid := res.isNone }).modHud fun h => { h with newMsgs := h.newMsgs.filter (· != t.val) }
      match res with
      | none => s1.checkMsgs r
      | some e => (s1, some (e.1, locTable 2 t.val e.2))
def State.checkCurves (s : State) : Option (Nat × Word) :=
  s.hud.curves.findSome? fun e => (curveBad e.2).map fun k => (hdCurve, packWord [(3, 28, 4), (e.1, 8, 8), (k, 0, 8)])
/-- A staged FB2 that its feed selects and whose I7 asks for more than FT_MV is reported at its segment 7, after the registers (R208;
the place is DEDUCED, log entry 49). -/
def State.checkFits (s : State) : Option (Nat × Word) :=
  let a := s.withStaged
  s.hud.curves.findSome? fun e =>
    if (e.1 == 0x10 && ! a.feedA.ftAbove a.cfg.fdaCurve) || (e.1 == 0x11 && ! a.feedB.ftAbove a.cfg.fdbCurve) then
      some (hdCurve, packWord [(3, 28, 4), (e.1, 8, 8), (7, 0, 8)])
    else none
def State.checkRegs (s : State) : Option (Nat × Word) :=
  let after := s.withStaged
  s.hud.staged.findSome? fun e => (firstCode (after.regChecks e.offset)).map fun c => (c, locReg e.offset)
/-- The consistency check: its first failure, with what it does to the tables (R360). -/
def State.checkAll (s : State) : State × Option (Nat × Word) :=
  let (s1, e1) := s.checkSteps s.hud.newSteps
  match e1 with
  | some e => (s1, some e)
  | none =>
    let (s2, e2) := s1.checkMsgs allTiles
    match e2 with
    | some e => (s2, some e)
    | none => (s2, (s2.checkCurves.or s2.checkRegs).or s2.checkFits)
/-- A run of the check: CHECKED, or the report of R362. -/
def State.hudCheck (s : State) : State × Option (Nat × Word) :=
  match s.checkAll with
  | (s1, none) => (s1.modHud fun h => { h with state := if h.state == .staged then .checked else h.state }, none)
  | (s1, some e) =>
    (((s1.modHud fun h => { h with state := if h.state == .checked then .staged else h.state, err := e.1, errLoc := e.2 }).postEvt none
      (.huddleFail e.1 e.2)), some e)

/-! ### Arming and discarding (R363, R364, R372) -/

/-- The armed huddle is let go. -/
def Huddle.unarm (h : Huddle) : Huddle := { h with source := none, ready := false, armTag := none, svcSeq := none }
/-- The huddle is ARMED with source KICK. -/
def Huddle.onKick (h : Huddle) : Bool := h.state == .armed && h.source == some .kick
/-- The unit is armed on KICK: its huddle, a firmware activation, or both (R367, R464). -/
def State.kickArmed (s : State) : Bool := s.hud.onKick || s.upd.armed == some .kick
/-- The unit arms on KICK: from here the line has to be seen low, and TIMEOUT runs. A second action armed joins the first (R368, R369;
DESIGN CHOICE, log entry 50). -/
def State.kickArming (s : State) : State :=
  if s.kickArmed then s else s.modHud fun h => { h with seenLow := ! h.kickIn, kickAt := s.aon }
/-- The huddle arms: it is sealed and its shadows go to the tiles; `due` is the deadline of AT_TIME on the hub time base (R358, R364). -/
def State.hudArm (s : State) (src : KickSource) (due : Nat) (tag : Option (BitVec 16)) (svc : Option (BitVec 8 × BitVec 8)) : State :=
  let s1 := if src == .kick then s.kickArming else s
  (allTiles.foldl (fun s t => s.modTile t fun q => { q with shadow := false }) s1).modHud fun h =>
    { h with state := .armed, source := some src, ready := false, dueAt := due, armTag := tag, svcSeq := svc }
/-- Every action armed on KICK is ready (R367, R464). -/
def State.kickReadyAll (s : State) : Bool := (! s.hud.onKick || s.hud.ready) && (s.upd.armed != some .kick || s.upd.kickReady)
/-- A joined unit drives KICK low except while it is armed on it and ready (R367). -/
def State.kickOut (s : State) : Bool := s.hud.join && ! (s.kickArmed && s.kickReadyAll)
def HuddleState.num : HuddleState → Nat
  | .empty => 0 | .staged => 1 | .checked => 2 | .armed => 3 | .committed => 4
def KickSource.num : KickSource → Nat
  | .nextBoundary => 0 | .atTime => 1 | .kick => 2
/-- HD_STAT (R373). -/
def State.hdStat (s : State) : Word :=
  let h := s.hud
  packWord [(h.state.num, 28, 4), ((h.source.map KickSource.num).getD 0xF, 24, 4), (b2n h.sealedWrite, 23, 1), (b2n h.kickIn, 22, 1),
    (b2n s.kickOut, 21, 1), (b2n h.applyCnt.ovf, 20, 1), (b2n h.kickCnt.ovf, 19, 1), (h.late.toNat, 8, 8)]
def State.hdWords (s : State) : List Byte := bytesLE 4 s.hdStat.toNat ++ bytesLE 4 s.hud.err ++ bytesLE 4 s.hud.errLoc.toNat
/-- Answer to a service HUDDLE ARM, on the session and sequence number it came with. -/
def State.hudReply (s : State) (q : Option (BitVec 8 × BitVec 8)) (nak : Bool) : State :=
  match q with
  | none => s
  | some (n, k) =>
    let f : SvcFrame := ⟨n, k, []⟩
    if nak then s.svcNak f 0x12 .state [] else s.svcReply f 0x12 s.hdWords
/-- HUDDLE_DISCARD (R357, R365, R372): EMPTY at once before the commit point; after it the discard acts on the huddle that follows. -/
def State.hudDiscard (s : State) : State :=
  if s.hud.state == .committed then s
  else
    let q := s.hud.svcSeq
    let s1 := s.modHud fun h => { h.unarm with state := .empty, staged := [], curves := [] }
    let s2 := s1.finish (fun w => w.what == .kickoff || w.what == .staged) .cancelled 0 []
    s2.hudReply q true

/-! ### Commit and apply (R365, R366) -/

/-- Cores for the pinned ports, in port order: the one with the fewest, ties to the lower number (R309). -/
def leastCore (n : List Nat) : Fin 4 :=
  (List.finRange 4).foldl (fun b k => if (n[k.val]?).getD 0 < (n[b.val]?).getD 0 then k else b) 0
/-- The core each pinned port is placed on, in port order (R309). -/
def State.pinPlaces (s : State) : List (PortId × CoreId) :=
  (allPorts.foldl (fun (a : List (PortId × CoreId) × List Nat) p =>
    if s.cfg.pins.getLsbD p.val then
      let k := leastCore a.2
      (a.1 ++ [(p, k)], a.2.modify k.val (· + 1))
    else a) ([], [0, 0, 0, 0])).1
/-- A port's reservation is given up. -/
def State.unreserve (s : State) (p : PortId) : State :=
  let s1 := match (s.port p).sc.resv with
    | some k => s.modCore k fun c => { c with resv := none }
    | none => s
  s1.modSc p fun c => { c with resv := none }
/-- A port takes the pin in force and its place. What it had been promised on another core, a reservation or an assignment, is given up;
its context stays where the kickoff pins it as before (R305, R309). -/
def State.setPin (s : State) (places : List (PortId × CoreId)) (p : PortId) : State :=
  let k := (places.find? fun e => e.1 == p).map Prod.snd
  let s1 := s.modSc p fun c => { c with pin := k.isSome, pinCore := k, pinHeld := c.pinHeld && c.pinCore == k }
  match k with
  | none => s1
  | some j =>
    let s2 := if (s.port p).sc.resv.any (· != j) then s1.unreserve p else s1
    (List.finRange 4).foldl (fun s i => if i != j && (s.coreAt i).assign == some p then s.modCore i fun c => { c with assign := none } else s) s2
/-- At a kickoff the pinned ports are placed; a port in a dispatch takes its pin when that ends (R309, R318). -/
def State.placePins (s : State) : State :=
  let places := s.pinPlaces
  allPorts.foldl (fun s p => if (s.port p).sc.running.isSome then s else s.setPin places p) s
/-- A capture armed on KICKOFF begins (R249). -/
def Tile.kickCapture (q : Tile) : Tile :=
  { q with cap := q.cap.map fun c => if c.phase == .armed && c.trigger == .kickoff then { c with phase := .running } else c }
/-- The apply instant (R366): values, snapshot, capture triggers, waits, counters and KICKOFF_DONE; the huddle is EMPTY. A fenced tile,
and one that has missed the strobe, keeps what it runs on until it catches up (R22). -/
def State.kickApply (s : State) (missed : BitVec 8) (kick : Bool) : State :=
  let h := s.hud
  let late := fun t : TileId => missed.getLsbD t.val || s.tileFenced t
  let s0 := allTiles.foldl (fun a t => if late t then a.holdTile t else a) s
  let s1 := allTiles.foldl (fun a t =>
    if (a.tile t).held.isSome then a
    else a.tileTakeUp t (s0.tileCfg t) (s0.ramActive t)) s0.withStaged
  let s2 := s1.placePins
  let s3 := if s2.meas.snapArmed then s2.snapLatch else s2
  let s4 := allTiles.foldl (fun s t => s.modTile t fun q =>
    { (if missed.getLsbD t.val then q else q.kickCapture) with missed := missed.getLsbD t.val && ! s.tileFenced t, shadow := false }) s3
  let s5 := s4.modHud fun h =>
    { h.unarm with state := .empty, staged := [], curves := [], late := s4.fencedTiles,
                   applyCnt := h.applyCnt.inc32, kickCnt := if kick then h.kickCnt.inc32 else h.kickCnt, applyTime := s.rtc }
  let s6 := s5.modLink fun l => { l with waiting := l.waiting.map fun w => if w.what == .staged then { w with what := .applied } else w }
  let s7 := s6.finish (fun w => w.what == .kickoff) .ok 0 (bytesLE 8 s.rtc)
  (s7.hudReply h.svcSeq false).postEvt none (.kickoffDone (h.source.getD .nextBoundary) (h.armTag.getD 0#16))

/-! ### The rows -/

/-- TILES_READY (R364, R367): every tile that is not fenced has acknowledged its shadow. A joined unit that is ARMED on KICK
lets the line go. -/
def execTilesReady (s : State) : Out :=
  if s.hud.state == .armed then
    ok ((allTiles.foldl (fun s t => s.modTile t fun q => if s.tileFenced t then q else { q with shadow := true }) s).modHud
      fun h => { h with ready := true, readyAt := if h.ready then h.readyAt else s.aon })
  else ok s
/-- The boundary an armed kickoff waits for is 10 µs ahead at the earliest: 50 µs after the tiles became ready for NEXT_BOUNDARY, the
deadline for AT_TIME; both reckoned in AON cycles (R363–R365; log entry 50). -/
def State.commitDue (s : State) : Bool :=
  match s.hud.source with
  | some .nextBoundary => s.hud.ready && decide (s.hud.readyAt < s.aon)
  | some .atTime => decide (s.hud.dueAt ≤ s.aon + 1)
  | _ => false
/-- KICKOFF_COMMIT (R365): 10 µs before the boundary; a kickoff on KICK commits when it fires. -/
def execKickoffCommit (s : State) : Out :=
  if s.hud.state == .armed && s.commitDue then ok (s.toRun.modHud fun h => { h with state := .committed }) else ok s
/-- KICKOFF_APPLY (R363, R366): at AT_TIME the boundary is the first at or after the deadline. -/
def execKickoffApply (missed : BitVec 8) (s : State) : Out :=
  if s.hud.state == .committed && (s.hud.source != some .atTime || decide (s.hud.dueAt ≤ s.aon)) then ok (s.toRun.kickApply missed false) else ok s
/-- APPLY_PACKET (R366): a tile that did not see the strobe applies on receipt, and its bit in LATE_TILES is set. -/
def execApplyPacket (t : Fin 8) (s : State) : Out :=
  if (s.tile t).missed then
    ok (((s.tileCatchUp t).modTile t fun q => { q.kickCapture with missed := false }).modHud fun h => { h with late := setBit h.late t.val true })
  else ok s
/-- KICK_LINE_LOW (R368): KICK is sampled low; a unit that is armed on it has then seen it low. -/
def execKickLineLow (s : State) : Out :=
  ok (s.modHud fun h => { h with kickIn := false, seenLow := h.seenLow || s.kickArmed })
/-- A write of HD_KICK_CFG (R369, R373): one that clears JOIN while the unit is armed on KICK is ignored; TIMEOUT 0 leaves the field. -/
def State.writeKickCfg (s : State) (v : Word) : State :=
  if ! bit v 0 && s.kickArmed then s
  else s.modHud fun h => { h with join := bit v 0, timeout := if bits v 8 8 == 0 then h.timeout else bits v 8 8 }
/-- KICK_JOIN_WRITE (R367, R369). -/
def execKickJoinWrite (v : BitVec 32) (s : State) : Out :=
  if s.pwr.dev == .deep || ! s.pwr.domUp then ok s else ok (s.toRun.writeKickCfg v)

end Sys2Proof.Machine
end

