-- ==== Sys2Proof/Machine/Registers.lean ====
section
/-! DEFINITION. Reading BAR0: the value of every global and per-port register, the fence, the latches of 64-bit values and the
registers that a read clears (R470–R485). -/
namespace Sys2Proof.Machine

/-! ### Codes, in the order of the tables that give them -/

/-- R33. -/
def LineCode.num (x : LineCode) : Nat := x.ctorIdx
/-- R35. -/
def Partner.num (x : Partner) : Nat := x.ctorIdx
/-- R57. -/
def CcState.num (x : CcState) : Nat := x.ctorIdx
/-- PP_CC_STATUS.RP_LEVEL (R481). -/
def RpLevel.num (x : RpLevel) : Nat := x.ctorIdx
/-- PP_PD_STATUS.TABLE (R481). -/
def MtTable.num (x : MtTable) : Nat := x.ctorIdx
/-- R97. -/
def PolState.num (x : PolState) : Nat := x.ctorIdx
/-- PP_CONTRACT.KIND (R481). -/
def CKind.num (x : CKind) : Nat := x.ctorIdx
/-- R136. -/
def CableClass.num (x : CableClass) : Nat := x.ctorIdx
/-- PP_PATH_STAT.WINDOW (R481). -/
def Window.num (x : Window) : Nat := x.ctorIdx
/-- R215. -/
def SbState.num (x : SbState) : Nat := x.ctorIdx
/-- R187. -/
def FeedState.num (x : FeedState) : Nat := x.ctorIdx
/-- R195. -/
def FeedCause.num (x : FeedCause) : Nat := x.ctorIdx
/-- R353. -/
def RingState.num (x : RingState) : Nat := x.ctorIdx
/-- R484. -/
def LinkState.num (x : LinkState) : Nat := x.ctorIdx
/-- R413. -/
def DevState.num (x : DevState) : Nat := x.ctorIdx
/-- R295. -/
def CoreState.num (x : CoreState) : Nat := x.ctorIdx
/-- R292. -/
def CtxCause.num (x : CtxCause) : Nat := x.ctorIdx + 1
/-- R467. -/
def UpdState.num (x : UpdState) : Nat := x.ctorIdx
/-- UP_STAT.RUNNING. -/
def Slot.num (x : Slot) : Nat := x.ctorIdx

/-! ### Derived fields -/

/-- A port is ready (R304). -/
def Port.ready (q : Port) : Bool := ! q.sc.q.isEmpty && ! q.sc.quar && q.sc.running.isNone && ! q.sc.deep
/-- Seconds until an AON cycle, rounded up. -/
def State.secsTo (s : State) (t : Nat) : Nat := (t - s.aon + 32767) / 32768
/-- Seconds since an AON cycle. -/
def State.secsSince (s : State) (t : Nat) : Nat := (s.aon - t) / 32768
/-- Word 0xCC of OEM as the boot ROM uses it: absent before the array is read and while OEM is ALARM or LOCKED_INCOMPLETE (R419, R434). -/
def State.oemWord (s : State) : Word :=
  match s.fuse.read, s.bootStatus .oem with
  | true, .blank | true, .checked | true, .locked => s.fuse.word 0xCC
  | _, _ => 0#32
/-- FALLBACK of OEM (R419, R434). -/
def State.oemFallback (s : State) : Nat := bits s.oemWord 0 2
/-- Vendor ID and Subsystem Vendor ID of the endpoint function (R319). -/
def pcieVendor : Nat := 0x1D7B
/-- Device ID (R319). -/
def pcieDevice : Nat := 0x7192
/-- Class code (R319). -/
def pcieClass : Nat := 0x088000
/-- Subsystem ID: that of OEM where it gives one, else 0x7192 (R319, R419, R434). -/
def State.subsystemId (s : State) : Nat := if bits s.oemWord 16 16 == 0 then pcieDevice else bits s.oemWord 16 16
/-- Fall-back mode in force (R460). -/
def State.fallbackMode (s : State) : Nat := if s.oemFallback == 0 then s.upd.fallback else s.oemFallback
/-- Conditions 0–7 of R402 for DEEP, as they hold now. -/
def State.deepConds (s : State) : List Bool :=
  [ s.ports.toList.all fun q => ! q.path.gate && ! q.pol.hasContract && q.cc.state != .bootSink,
    s.hud.state == .empty,
    ! s.link.perst || (! s.link.trained && s.pwr.noHost),
    s.svc.sess == 0 && s.link.sess == 0,
    s.tiles.toList.all (fun t => t.cap.isNone) && s.ports.toList.all fun q => ! q.sc.deep,
    s.ports.toList.all fun q => q.sc.timers.all Option.isNone,
    s.pwr.deepEn,
    s.board.changeover.isNone && s.feedA.state != .inrush && s.feedB.state != .inrush && ! s.ref.safe ]
/-- Bits of a list of booleans, the first lowest. -/
def bitsOf (l : List Bool) : Nat := l.foldr (fun b a => b2n b + 2 * a) 0
/-- A map of the 32 ports of word k. -/
def State.portMap (s : State) (k : Nat) (f : Port → Bool) : Word :=
  BitVec.ofNat 32 (bitsOf (((s.ports.toList.drop (32 * k)).take 32).map f))
def tileMap (f : TileId → Bool) : Nat := bitsOf (allTiles.map f)
def errWord (c : Cnt) : Word := packWord [(b2n c.ovf, 16, 1), (c.n, 0, 16)]
def cntWord (c : Cnt) : Word := BitVec.ofNat 32 c.n
def State.upStat (s : State) : Word :=
  packWord [(s.upd.state.num, 28, 4), ((s.upd.run.map Slot.num).getD 0, 27, 1), (b2n s.upd.trial, 26, 1), (s.fallbackMode, 24, 2),
    ((s.upd.trialEnd.map s.secsTo).getD 0, 0, 11)]

/-! ### Per-port registers (R480, R481) -/

/-- Registers of the per-port block held in the tile (R480). -/
def ppTile (r : Nat) : Bool := [0x04, 0x08, 0x0C, 0x10, 0x14, 0x18, 0x2C, 0x30, 0x34, 0x38, 0x3C, 0x5C].contains r
def pdErr (a b : Cnt) : Word := packWord [(a.n, 16, 16), (b.n, 0, 16)]
/-- Value of a per-port register; those of the huddle and the energy pair are read elsewhere. -/
def State.ppVal (s : State) (p : PortId) (r : Nat) : Word :=
  let q := s.port p
  let c := q.cc
  let d := q.pd
  let w := q.path
  let b := q.sb
  let m := q.smp
  if r == 0x00 then packWord [(b2n q.pol.enabled, 31, 1), (b2n q.rally.active, 30, 1), (q.pol.cable.num, 16, 4), (q.pol.profile, 0, 4)]
  else if r == 0x04 then
    packWord [(c.state.num, 28, 4), (c.partner.num, 24, 4), (b2n c.cc2, 23, 1), (b2n c.rpHold, 22, 1), (c.rp.num, 20, 2), (b2n c.ov2, 5, 1),
      (b2n c.ov1, 4, 1), (c.line2.num, 2, 2), (c.line1.num, 0, 2)]
  else if r == 0x08 then packWord (c.hist.zipIdx.map fun e => (e.1.2.num * 4 + e.1.1.num, 4 * e.2, 4))
  else if r == 0x0C then
    packWord [(b2n d.rxCrc.ovf, 31, 1), (b2n d.rxTrunc.ovf, 30, 1), (b2n d.rxCode.ovf, 29, 1), (b2n d.txFail.ovf, 28, 1),
      (b2n d.txDiscard.ovf, 27, 1), (b2n d.rxDup.ovf, 26, 1), (b2n d.rev3, 25, 1), (d.table.num, 23, 2), (d.entry, 8, 8), (d.vth, 0, 6)]
  else if r == 0x10 then pdErr d.rxCrc d.rxTrunc
  else if r == 0x14 then pdErr d.rxCode d.txFail
  else if r == 0x18 then pdErr d.txDiscard d.rxDup
  else if r == 0x1C then
    packWord [(q.pol.state.num, 28, 4), (q.pol.kind.num, 26, 2), (b2n q.pol.epr, 25, 1), (b2n q.pol.cRev3, 24, 1), (q.pol.pos, 20, 4),
      (q.pol.mv / 20, 0, 12)]
  else if r == 0x20 then q.pol.rdo
  else if r == 0x24 then
    packWord [(q.pol.offN, 28, 4), (b2n q.pol.offEpr, 27, 1), (q.pol.withheld.toNat, 16, 11), (q.pol.offPdp, 0, 10)]
  else if r == 0x28 then packWord [(q.rally.pid.toNat, 16, 16), (q.rally.vid.toNat, 0, 16)]
  else if r == 0x2C then
    packWord [(b2n (w.vconn != 0), 31, 1), (w.vconn, 29, 2), (min 255 (vcCharge w), 8, 8), (min 255 w.vcPeak, 0, 8)]
  else if r == 0x34 then w.ctrl
  else if r == 0x38 then
    packWord [(b2n w.run, 31, 1), (w.table, 26, 5), (w.entry, 20, 6), (b2n w.gate, 19, 1), (b2n w.dis, 18, 1), (w.window.num, 16, 2),
      (w.bset, 14, 2), (b2n w.safeHeld, 13, 1), (b2n (q.retry.lock != .none), 12, 1), ((w.lastSignal.map Signal.num).getD 0xF, 8, 4)]
  else if r == 0x3C then packWord [(w.ilim / 5, 20, 12), (w.target / 20, 0, 12)]
  else if r == 0x40 then
    packWord [(q.retry.f, 27, 5), (q.retry.last.num, 16, 8), (q.retry.lock.num, 12, 4), (b2n q.retry.hold, 11, 1),
      (min 64 ((q.retry.due.map s.secsTo).getD 0), 0, 7)]
  else if r == 0x48 then
    packWord [(b.state.num, 28, 4), (b.step, 25, 3), (b2n b.usage, 24, 1), (b2n b.vcForced, 23, 1), (b.target, 10, 10), (b.alloc, 0, 10)]
  else if r == 0x4C then packWord [(twos 16 (satInt 16 (temp16 b.temp)), 16, 16), (b.row, 14, 2), (b.cap, 0, 10)]
  else if r == 0x50 then packWord [(b.demand, 20, 10), (b.credit, 10, 10), (b.peak, 0, 10)]
  else if r == 0x54 then packWord [(min 0xFFFF m.mv, 16, 16), (twos 16 (satInt 16 m.ma), 0, 16)]
  else if r == 0x58 then packWord [(m.snapMv, 16, 16), (b2n m.snapLane, 15, 1), (twos 15 m.snapMa, 0, 15)]
  else if r == 0x5C then
    packWord [(b2n m.limited, 31, 1), (b2n m.calPend, 30, 1), (min 63 ((m.verified.map s.secsSince).getD 63), 24, 6),
      (twos 12 (satInt 12 m.dv), 12, 12), (twos 12 (satInt 12 m.di), 0, 12)]
  else if r == 0x68 then
    packWord [(q.sc.q.length, 16, 5), ((q.sc.bench.map (·.val)).getD 7, 8, 3), (b2n q.sc.deep, 4, 1), (b2n q.sc.quar, 3, 1),
      (b2n q.sc.retain, 2, 1), (b2n q.sc.pin, 1, 1), (b2n q.ready, 0, 1)]
  else if r == 0x6C then cntWord q.cnt.trip
  else if r == 0x70 then cntWord q.cnt.attach
  else if r == 0x74 then cntWord q.cnt.hrst
  else if r == 0x78 then cntWord q.cnt.onSec
  else if r == 0x7C then
    packWord [(b2n q.cnt.onSec.ovf, 3, 1), (b2n q.cnt.hrst.ovf, 2, 1), (b2n q.cnt.attach.ovf, 1, 1), (b2n q.cnt.trip.ovf, 0, 1)]
  else s.rwsRead (ppOff p.val r)

/-! ### Values wider than 32 bits (R477) -/

/-- The 64-bit value whose low register lies at an offset. -/
def State.wide (s : State) (off : Nat) : Option Nat :=
  if off == 0x2008 then some s.rtc
  else if off == 0x4008 then some s.meas.snapTime
  else if off == 0x1818 then some s.hud.applyTime
  else if off == 0x3210 then some s.upd.actAt
  else if off == 0x6010 then some s.feedA.energy
  else if off == 0x6030 then some s.feedB.energy
  else match ppPort off with
    | some (p, 0x60) => some (s.port p).smp.energy
    | _ => none
def State.latchOf (s : State) (a : Path6) (low : Nat) : Option Word :=
  (s.bus.latches.find? fun e => e.path == a && e.low == low).map (·.high)
def State.setLatch (s : State) (a : Path6) (low : Nat) (v : Word) : State :=
  { s with bus := { s.bus with latches := ⟨a, low, v⟩ :: s.bus.latches.filter fun e => ! (e.path == a && e.low == low) } }

/-! ### Global registers (R483) -/

def hlRing (s : State) (n r : Nat) : Word :=
  let g := s.ring n
  if r == 0x00 then g.baseLo
  else if r == 0x04 then g.baseHi
  else if r == 0x08 then packWord [(b2n g.enable, 31, 1), (g.size, 24, 5), (g.vector, 16, 5)]
  else if r == 0x0C then packWord [(g.irqTime, 16, 16), (g.irqCount, 0, 16)]
  else if r == 0x10 then packWord [(g.hostIdx.toNat, 16, 16), (g.devIdx.toNat, 0, 16)]
  else if r == 0x14 then packWord [(g.state.num, 28, 4), (b2n g.chain.isSome, 16, 1), (g.stallIdx.toNat, 0, 16)]
  else 0#32
def hlVal (s : State) (off : Nat) : Word :=
  let l := s.link
  if 0x100 ≤ off && off < 0x2C0 then hlRing s ((off - 0x100) / 0x20) ((off - 0x100) % 0x20)
  else if off == 0x00 then packWord [(pcieDevice, 16, 16), (pcieVendor, 0, 16)]
  else if off == 0x04 then packWord [(b2n l.fenceSeen, 8, 1), (l.width, 4, 4), (l.speed, 0, 4)]
  else if off == 0x10 then l.sbLo
  else if off == 0x14 then l.sbHi
  else if off == 0x18 then packWord [(l.backlog.length, 16, 8), (b2n s.summaryPending, 15, 1)]
  else if off == 0x1C then packWord [(l.decim, 28, 4), (l.tlmBuf.length / 16, 0, 12)]
  else if off == 0x20 then packWord [(l.sess, 16, 8), (l.level.num, 14, 2), (b2n l.unlocked, 13, 1), (s.lockSecs, 0, 10)]
  else if off == 0x24 then errWord l.dbErr
  else if off == 0x28 then cntWord l.rxDrop
  else if off == 0x2C then cntWord l.tlmGap
  else if off == 0x30 then packWord [(b2n l.tlmGap.ovf, 1, 1), (b2n l.rxDrop.ovf, 0, 1)]
  else 0#32
def sbVal (s : State) (off : Nat) : Word :=
  let b := s.board
  if off == 0x1014 then
    packWord [(b.emerg, 28, 4), (s.ports.toList.countP (fun q => q.sb.state == .decreasing), 20, 8), (b.bEff, 0, 20)]
  else if off == 0x1018 then packWord [(b.sum, 0, 20)]
  else if off == 0x101C then packWord [(b.feedP, 12, 20), (b.vFeed / 20, 0, 12)]
  else if off == 0x1020 then packWord (allTiles.map fun t => (min 15 ((s.tileCharge t + 1) / 2), 4 * t.val, 4))
  else if 0x1030 ≤ off && off < 0x1040 && off % 4 == 0 then
    let c := (off - 0x1030) / 4
    packWord [((b.classUnf[c]?).getD 0, 20, 8), ((b.classSum[c]?).getD 0, 0, 20)]
  else s.rwsRead off
def hdVal (s : State) (off : Nat) : Word :=
  let h := s.hud
  if off == 0x1800 then s.hdStat
  else if off == 0x1804 then BitVec.ofNat 32 h.err
  else if off == 0x1808 then h.errLoc
  else if off == 0x180C then packWord [(h.timeout, 8, 8), (b2n h.join, 0, 1)]
  else if off == 0x1810 then cntWord h.applyCnt
  else if off == 0x1814 then cntWord h.kickCnt
  else 0#32
def pwVal (s : State) (off : Nat) : Word :=
  let w := s.pwr
  if off == 0x2000 then packWord [(b2n w.refSel, 0, 1)]
  else if off == 0x2004 then packWord [(b2n w.pllLock, 31, 1), (b2n w.refAct, 30, 1), (b2n w.xaFail, 29, 1), (b2n w.xaSeen, 28, 1)]
  else if off == 0x2100 then packWord [(w.deepDwell, 8, 8), (b2n w.noHost, 1, 1), (b2n w.deepEn, 0, 1)]
  else if off == 0x2104 then
    packWord [(w.dev.num, 30, 2), (w.powered.toNat, 16, 14), (bitsOf (s.deepConds.map (! ·)), 8, 8), (b2n w.deepCnt.ovf, 7, 1)]
  else if off == 0x2108 then w.wake.setWidth 32
  else if off == 0x210C then packWord [(b2n w.writeDrop, 16, 1), (w.fenced.toNat, 0, 14)]
  else if off == 0x2110 then w.cause.setWidth 32
  else if off == 0x2118 then cntWord w.deepCnt
  else if off == 0x2120 then w.scratch0
  else if off == 0x2124 then w.scratch1
  else 0#32
def refVal (s : State) (off : Nat) : Word :=
  let r := s.ref
  if off == 0x2800 then
    packWord [(b2n r.safe, 31, 1), (b2n s.faultLow, 30, 1), (b2n r.selfOk, 29, 1), (tileMap (fun t => ! (s.tile t).wires.isEmpty), 16, 8), (r.restarts, 8, 8)]
  else if off == 0x2804 then r.fault.setWidth 32
  else if off == 0x2808 then packWord [(r.firstCause, 24, 8), (r.firstTile, 16, 8), (r.firstPort, 8, 8)]
  else if off == 0x280C then packWord [(b2n r.faultTest, 9, 1), (b2n r.irqEn, 8, 1), (r.vector, 0, 5)]
  else if off == 0x2810 then packWord [(r.allocSum, 0, 20)]
  else if off == 0x2814 then packWord [(twos 16 r.rcDev, 16, 16), (twos 16 r.pllDev, 0, 16)]
  else if off == 0x2818 then cntWord r.eccCe
  else if off == 0x281C then errWord r.eccUe
  else if off == 0x2820 then packWord [(r.eccMem, 28, 4), (r.eccOff, 0, 22)]
  else if off == 0x2824 then packWord [(b2n r.eccCe.ovf, 0, 1)]
  else if off == 0x2828 then packWord (r.hb.zipIdx.map fun e => (min 255 ((s.aon - e.1) * 1000 / 32768), 8 * e.2, 8))
  else 0#32
/-- FU_RDATA: the word of FU_RADDR, or 0 once its region is read-locked (R420). -/
def Fuse.rdataShown (f : Fuse) : Word := if f.hidden f.raddr.toNat then 0#32 else f.rdata
def fuVal (s : State) (off : Nat) : Word :=
  let f := s.fuse
  if off == 0x3000 then f.cmd
  else if off == 0x3004 then f.wdata
  else if off == 0x3008 then s.fuStat
  else if off == 0x300C then f.raddr.setWidth 32
  else if off == 0x3010 then f.rdataShown
  else if off == 0x3014 then if f.read then packWord (lockRegions.map fun r => ((f.status r).num, 3 * r.code, 3)) else 0#32
  else if off == 0x3018 then cntWord f.weak
  else if off == 0x301C then packWord [(f.taken, 16, 8), (f.revoked, 8, 8), (f.bad, 0, 8)]
  else 0#32
/-- PW_DUE: the session open at TECH has still to change the first password (R448). -/
def State.pwDueShown (s : State) : Bool := s.svc.level == .tech && s.pwDue
def svVal (s : State) (off : Nat) : Word :=
  let v := s.svc
  let u := s.upd
  if off == 0x3100 then
    packWord [(v.sess, 16, 8), (v.level.num, 14, 2), (b2n v.unlocked, 13, 1), (b2n s.pwDueShown, 12, 1), (s.lockSecs, 0, 10)]
  else if off == 0x3104 then packWord [(v.baud, 0, 24)]
  else if off == 0x3108 then errWord v.err
  else if off == 0x3200 then s.upStat
  else if off == 0x3204 then packWord [(u.window, 10, 11), (u.fallback, 8, 2), (b2n u.autoConfirm, 1, 1), (b2n u.quad, 0, 1)]
  else if off == 0x3218 then s.runVersion
  else if off == 0x321C then (u.staged.map u.version).getD 0#32
  else if off == 0x3220 then BitVec.ofNat 32 (headAt u.runHead 0xC 4)
  else 0#32
def msVal (s : State) (off : Nat) : Word :=
  let m := s.meas
  let t := s.tile (Fin.ofNat 8 (off / 4))
  if off == 0x4004 then
    packWord [(b2n m.snapBusy, 31, 1), (b2n m.snapArmed, 30, 1), (m.snapMissing.toNat, 16, 8), (m.snapSeq.toNat, 0, 16)]
  else if 0x4020 ≤ off && off < 0x4040 then
    setBit (if s.tileFenced (Fin.ofNat 8 (off / 4)) then t.rotKept else s.rotWord (Fin.ofNat 8 (off / 4))) 24 t.skip.ovf
  else if 0x4040 ≤ off && off < 0x4060 then packWord [(b2n t.ntcFault, 31, 1), (twos 16 (satInt 16 t.ntc16), 0, 16)]
  else if 0x4060 ≤ off && off < 0x4080 then cntWord t.skip
  else s.rwsRead off
/-- TL_LINK_STATn.STATE: LOST while the tile is fenced (R473). -/
def State.linkShown (s : State) (t : TileId) : LinkState := if s.tileFenced t then .lost else (s.tile t).link
def tlVal (s : State) (off : Nat) : Word :=
  let n : TileId := Fin.ofNat 8 (off / 4)
  let t := s.tile n
  let ofTile := fun (t : TileId) (f : Port → Bool) => (portsOf t).map fun p => f (s.port p)
  if off == 0x4808 then
    packWord [(tileMap fun t => (ofTile t fun q => q.pd.table == .hold).any id, 16, 8), (tileMap fun t => (s.tile t).mtValid, 8, 8),
      (tileMap s.ramActive, 0, 8)]
  else if off == 0x4810 then packWord [(bitsOf ((List.range 16).map s.stValid), 16, 16), (tileMap fun t => (s.tile t).safe, 0, 8)]
  else if 0x4820 ≤ off && off < 0x4840 then packWord [((s.linkShown n).num, 28, 4), (t.hubUn.length, 8, 4)]
  else if 0x4840 ≤ off && off < 0x4860 then errWord t.crcErr
  else if 0x4860 ≤ off && off < 0x4880 then cntWord t.resend
  else if 0x4880 ≤ off && off < 0x48A0 then cntWord t.loss
  else if off == 0x48A0 then packWord [(tileMap fun t => (s.tile t).loss.ovf, 8, 8), (tileMap fun t => (s.tile t).resend.ovf, 0, 8)]
  else if 0x48C0 ≤ off && off < 0x48E0 then packWord [(b2n t.vtOut, 31, 1), (t.vt, 0, 16)]
  else if 0x48E0 ≤ off && off < 0x48F8 then s.portMap ((off - 0x48E0) / 4) fun q => q.pol.enabled
  else if 0x4900 ≤ off && off < 0x4918 then
    s.portMap ((off - 0x4900) / 4) fun q => q.cc.state == .attached || q.cc.state == .bootSink
  else s.rwsRead off
def pcVal (s : State) (off : Nat) : Word :=
  let c := s.cores
  if 0x5000 ≤ off && off < 0x5010 then
    let k := s.core[(Fin.ofNat 4 (off / 4)).val]
    let busy := k.state == .run || k.state == .stall
    packWord [(k.state.num, 30, 2), (if busy then (k.port.map (·.val)).getD 0xFF else 0xFF, 16, 8), (min 0xFFFF k.moves, 0, 16)]
  else if off == 0x5010 then cntWord c.faultCnt
  else if off == 0x5014 then packWord [(c.fCause, 28, 4), (c.fSub, 24, 4), (c.fCore, 22, 2), (b2n c.faultCnt.ovf, 21, 1), (c.fPort, 0, 8)]
  else if off == 0x5018 then BitVec.ofNat 32 c.fOff
  else if off == 0x501C then c.fWord
  else if 0x5020 ≤ off && off < 0x5038 then s.portMap ((off - 0x5020) / 4) fun q => q.sc.quar
  else 0#32
def scVal (s : State) (off : Nat) : Word :=
  let c := s.cores
  let ps := s.ports.toList
  let at_ := fun k : Nat => fun q : Port => q.sc.bench.map (·.val) == some k
  if off == 0x5100 then
    packWord [(ps.countP Port.ready, 16, 8), (ps.countP (fun q => q.sc.quar), 8, 8), (ps.countP (fun q => q.sc.pin), 0, 8)]
  else if off == 0x5104 then packWord [(c.minFree, 16, 11), (s.freeCells, 0, 11)]
  else if 0x5110 ≤ off && off < 0x5120 then cntWord ((c.disp[(off - 0x5110) / 4]?).getD cntZero)
  else if off == 0x5120 then cntWord c.pageIn
  else if off == 0x5124 then cntWord c.wback
  else if off == 0x5128 then cntWord c.overrun
  else if off == 0x512C then cntWord c.drop
  else if off == 0x5130 then
    packWord [(b2n c.drop.ovf, 7, 1), (b2n c.overrun.ovf, 6, 1), (b2n c.wback.ovf, 5, 1), (b2n c.pageIn.ovf, 4, 1), (bitsOf (c.disp.map (·.ovf)), 0, 4)]
  else if off == 0x5140 then packWord [(min 0xFFFF c.latMsg, 16, 16), (min 0xFFFF c.latFault, 0, 16)]
  else if off == 0x5150 then
    packWord [(s.link.pages.length, 16, 12), (ps.countP (fun q => q.sc.deep), 8, 8), (b2n (s.link.trained && ! s.hostFenced), 0, 1)]
  else if 0x5160 ≤ off && off < 0x5170 then
    let k := (off - 0x5160) / 4
    packWord [(ps.countP (at_ k), 16, 5), (ps.countP (fun q => at_ k q && q.sc.pinHeld), 8, 4), (ps.countP (fun q => at_ k q && q.sc.retain), 0, 5)]
  else s.rwsRead off
def feedVal (s : State) (q : Feed) (off r : Nat) : Word :=
  if r == 0x08 then packWord [(q.state.num, 28, 4), (q.cause.num, 24, 4), (q.retryCnt, 16, 8), ((q.due.map s.secsTo).getD 0, 0, 16)]
  else if r == 0x0C then packWord [(twos 16 (satInt 16 (q.ma / 100)), 16, 16), (min 0xFFFF (q.mv / 10), 0, 16)]
  else s.rwsRead off
def fdVal (s : State) (off : Nat) : Word :=
  if off == 0x6044 then
    packWord [(min 0xFFFF (s.board.vbusc / 10), 8, 16), (b2n s.board.pg, 7, 1), (b2n s.board.seated, 6, 1), (b2n s.board.changeover.isSome, 5, 1),
      (b2n s.ref.safe, 4, 1), (match s.activeFeed with | none => 0 | some .fda => 1 | some .fdb => 2, 0, 2)]
  else if off < 0x6018 then feedVal s s.feedA off (off - 0x6000)
  else if off < 0x6038 then feedVal s s.feedB off (off - 0x6020)
  else s.rwsRead off
/-- Value of a register that holds no word of a 64-bit value; 0 at an unassigned offset (R472). -/
def State.regVal (s : State) (off : Nat) : Word :=
  if off % 4 != 0 then 0#32
  else match ppPort off with
    | some (p, r) => s.ppVal p r
    | none =>
      if off < 0x1000 then hlVal s off
      else if off < 0x1800 then sbVal s off
      else if off < 0x2000 then hdVal s off
      else if off < 0x2800 then pwVal s off
      else if off < 0x3000 then refVal s off
      else if off < 0x3100 then fuVal s off
      else if off < 0x4000 then svVal s off
      else if off < 0x4800 then msVal s off
      else if off < 0x5000 then tlVal s off
      else if off < 0x5100 then pcVal s off
      else if off < 0x6000 then scVal s off
      else if off < 0x6048 then fdVal s off
      else 0#32

/-! ### Reads (R410, R472–R477, R284) -/

/-- A per-port register of a fenced tile (R473). -/
def State.offFenced (s : State) (off : Nat) : Bool :=
  match ppPort off with
  | some (p, r) => ppTile r && s.portFenced p
  | none => false
/-- A read by the host or the service port clears the register's RC fields (R474, R476, R317). -/
def State.rcClear (s : State) (off : Nat) : State :=
  match ppPort off with
  | some (p, 0x10) => s.modPd p fun q => { q with rxCrc := cntZero, rxTrunc := cntZero }
  | some (p, 0x14) => s.modPd p fun q => { q with rxCode := cntZero, txFail := cntZero }
  | some (p, 0x18) => s.modPd p fun q => { q with txDiscard := cntZero, rxDup := cntZero }
  | some _ => s
  | none =>
    if off == 0x0024 then s.modLink fun l => { l with dbErr := cntZero }
    else if off == 0x281C then s.modRef fun r => { r with eccUe := cntZero }
    else if off == 0x3108 then s.modSvc fun v => { v with err := cntZero }
    else if 0x4840 ≤ off && off < 0x4860 && off % 4 == 0 then s.modTile (Fin.ofNat 8 (off / 4)) fun t => { t with crcErr := cntZero }
    else if off == 0x5104 then s.modCores fun c => { c with minFree := s.freeCells }
    else if off == 0x5140 then s.modCores fun c => { c with latFault := 0, latMsg := 0 }
    else s
/-- Registers whose fields are limited to sessions; firmware reads 0 (R284). -/
def sessionReg (off : Nat) : Bool := off == 0x0020 || (0x3100 ≤ off && off < 0x310C)
/-- A read of BAR0 on an access path: the word, and what the read does (R471–R477). -/
def State.regRead (s : State) (a : Path6) (off : Nat) : Word × State :=
  if s.offFenced off then (0xFFFFFFFF#32, s)
  else match s.wide off, (if off < 4 then none else s.wide (off - 4)) with
    | some v, _ => (BitVec.ofNat 32 v, s.setLatch a off (BitVec.ofNat 32 (v / 2 ^ 32)))
    | none, some v => ((s.latchOf a (off - 4)).getD (BitVec.ofNat 32 (v / 2 ^ 32)), s)
    | none, none => match a with
      | .core _ => (if sessionReg off then 0#32 else s.regVal off, s)
      | _ => (s.regVal off, s.rcClear off)

end Sys2Proof.Machine
end

