-- ==== Sys2Proof/Machine/PortControl.lean ====
section
/-! DEFINITION. Enabling, disabling and recovering a port, its quarantine, and the profile it offers from: shared by the
host's descriptors, quarantine and the core restart (R30, R99, R131, R213, R294, R299). -/
namespace Sys2Proof.Machine

/-! ### Contexts (R297–R299) -/

/-- Roster offset of a port's context page (R297). -/
def ctxAt (p : PortId) : Nat := p.val * 0x1000
/-- A port's context leaves the bench that holds it, without being written back. -/
def State.dropSlot (s : State) (p : PortId) : State :=
  s.modSc p fun c => { c with bench := none, dirty := false, retain := false, pinHeld := false, resv := none }
/-- A port's context is rebuilt from the initial context of the running image (R299). -/
def State.rebuildCtx (s : State) (p : PortId) : State :=
  let s1 := s.dropSlot p
  (s1.modCores fun c => { c with roster := (Memory.clear c.roster (ctxAt p) 0x1000).writes (ctxAt p) (c.ictx.take 0xC00) }).unpoison 2 (ctxAt p) 0x1000

/-! ### PORT_DISABLE and ErrorRecovery (R30, R48, R55, R131) -/

/-- A port is disabled while descriptors for it are pending: those that wait, another PORT_DISABLE and a capture apart, and those of a list
that have been fetched and not started (R131, R251, R354). -/
def State.abortPending (s : State) (p : PortId) (l : List Desc) : State :=
  let s1 := s.finish (fun w => w.portField.toNat == p.val && w.op != 0x02#8 && w.what != .capture) .abortedDisabled 0 []
  (l.filter fun d => d.portId == some p).foldl (fun s d => (s.dropFetched d).cplDesc d d.opn .abortedDisabled 0 []) s1
/-- PORT_DISABLE of one port; it has ended at once where the port is now disabled with nothing left to end (R332). -/
def State.portDisable (s : State) (p : PortId) : State :=
  let q := s.port p
  let s00 := s.abortDescs p fun _ => false
  -- a capture of the port that is not being written yet ends (R251)
  let s0 := if (s.tile (tileOf p)).cap.any fun c => c.port == p && c.phase != .writing then
      (s00.modTile (tileOf p) fun t => { t with cap := none }).finishPort p .capture .abortedDisabled [] else s00
  if q.cc.state == .bootRd || q.cc.state == .bootSink then
    s0.modPort p fun q => { q with cc := { q.cc with disablePend := true }, pol := { q.pol with enabled := false } }
  else if ! q.pol.enabled then s0
  else
    let s1 := s0.modPort p fun q =>
      { q with pol := { q.pol with enabled := false },
               cc := match q.cc.state with
                 | .watch | .rpHold | .attachWait =>
                   { q.cc with state := .watch, rp := .off, rpHold := false, filt := [], latched := none, debounced := false, attachDue := false, nonAttach := 0, differ := 0 }
                 | _ => q.cc }
    s1.errorRecovery p .portDisabled
/-- The disable of the port has no ST04 to wait for (R332). -/
def State.disableEnded (s : State) (p : PortId) : Bool :=
  ! (s.port p).pol.enabled && (s.port p).pol.state != .errorRecovery

/-! ### PORT_ENABLE (R55, R60, R179, R181, R213, R260, R294, R358) -/

/-- PORT_ENABLE of one port, and the code it completes with; the port counts its reserve from the next boundary (R210, R215). -/
def State.portEnable (s : State) (p : PortId) : State × CplCode :=
  let q := s.port p
  let on := s.modPol p fun r => { r with enabled := true }
  -- ports enabled since the last boundary have their reserves still to come out of the slack
  let due := s.ports.toList.countP fun r => r.pol.enabled && r.sb.state == .disabled
  if q.sb.state == .disabled && ! q.pol.enabled && (s.board.bEff : Int) - s.allocSum - s.board.reserve * due < s.board.reserve then (s, .resource)
  else if s.sealed && ! q.pol.enabled && on.withStaged.budgetShort then (s, .resource)
  else if q.retry.lock == .stuckSwitch && decide (q.smp.mv > 800) then (s, .safetyBlock)
  else
    let lock := match q.retry.lock with | .stuckSwitch | .retryExhausted => LockCause.none | k => k
    let s1 := s.modPort p fun r =>
      { r with retry := { r.retry.clear with lock := lock },
               cc := { r.cc with cmpRetest := lock == .cmpStuck, disablePend := false },
               smp := { r.smp with dacRetest := lock == .dacFault },
               pol := { r.pol with enabled := true } }
    let s2 := if q.sc.quar then (s1.rebuildCtx p).modSc p fun c => { c with quar := false, used := 0 } else s1
    (if q.cc.state == .disabled then s2.modPort p Port.toWatch else s2, .ok)

/-! ### Quarantine (R294) -/

/-- A context is quarantined: the port is marked, CTX_FAULT posted, the port disabled, its events discarded and
the descriptors that are pending for it ended (R294, R354). -/
def State.quarantine (s : State) (p : PortId) (e : EvtBody) : State :=
  let s1 := (s.modSc p fun c => { c with quar := true, deep := false, resv := none }).postEvt (some p) e
  ((s1.abortPending p s1.link.fetched).portDisable p).modSc p fun c => { c with q := [], faultMask := 0#16, timerMask := 0#16, drops := 0, hkPend := [] }

/-! ### Profiles (R98, R99, R108, R131) -/

/-- Offset of the first PDO word of a set that breaks R99, by the object's place in it. -/
def pdoSetFault (ws : List Word) : Option Nat :=
  let ok := fun (e : Word × Nat) =>
    let before := ws.take e.2
    let o := decodePdo e.1
    let sprBefore := before.countP fun w => ! (decodePdo w).isEpr
    let eprBefore := before.countP fun w => (decodePdo w).isEpr
    let room := if o.isEpr then decide (eprBefore < 4) else decide (sprBefore < 7)
    let shape := match o with
      | .fixed mv ma =>
        [5000, 9000, 15000, 20000, 28000, 36000, 48000].contains mv && decide (ma ≤ 5000) &&
          before.all (fun w => match decodePdo w with | .fixed v _ => decide (v < mv) | _ => true)
      | .pps lo hi ma =>
        decide (3300 ≤ lo) && decide (lo ≤ hi) && decide (hi ≤ 21000) && decide (ma ≤ 5000) &&
          before.all (fun w => match decodePdo w with | .pps .. => false | _ => true)
      | .avs lo hi pdp =>
        decide (15000 ≤ lo) && decide (lo ≤ hi) && decide (hi ≤ 48000) && decide (pdp ≤ 240) && decide (e.2 + 1 = ws.length)
      | .other => false
    let first := e.2 != 0 || (match o with | .fixed mv _ => mv == 5000 | _ => false)
    room && shape && first
  (ws.zipIdx.find? fun e => ! ok e).map fun e => 16 + 4 * e.2

/-- An accepted set in the order an offer carries its objects (R103): fixed SPR, PPS, fixed EPR, AVS. -/
def pdoSetOrder (ws : List Word) : List Word :=
  let k := fun (w : Word) => match decodePdo w with
    | .fixed mv _ => if mv > 20000 then 2 else 0
    | .pps .. => 1 | .avs .. => 3 | .other => 4
  (List.range 5).flatMap fun n => ws.filter fun w => k w == n

/-- A port's objects have changed by the host: a new offer falls due; with no object left, or none sent by profile 0x1, R108
sends Hard_Reset with PROFILE_CHANGE, and an EPR contract whose profile has no EPR object is left (R108, R131). -/
def State.profileChanged (s : State) (p : PortId) : State :=
  let q := s.port p
  let s1 := s.modPol p fun r => { r with profChange := true }
  if (s1.profileWords p).isEmpty then
    match q.pol.state with
    | .transition | .vconnSwap | .softReset => s1.modPol p fun r => { r with newOffer := true }
    | _ =>
      if q.pol.hasContract then s1.hardReset p .profileChange false
      else match q.pol.state with
        | .sendCaps | .negotiate =>
          s1.modPol p fun r => { r with state := .typecOnly, newOffer := false, expect := .none, outq := [], acked := [] }
        | _ => s1
  else if q.pol.state == .typecOnly then s1.sendOffer p false false
  else (s1.eprLeave p).offerChange p
/-- PORT_PROFILE of one port (R98, R131); a demand that rises with it releases the usage cap (R228). -/
def State.setProfile (s : State) (p : PortId) (n : Nat) : State :=
  ((s.modPol p fun r => { r with profile := n }).demandRose p (s.demandOf p)).profileChanged p

end Sys2Proof.Machine
end

