-- ==== Sys2Proof/Machine/HostLink.lean ====
section
/-! DEFINITION. The host link: doorbells, fetching, phases, chains, the checks of a descriptor before any effect, and its
start (R322–R340). Host memory is outside the block: a command that reads it carries the descriptors read. -/
namespace Sys2Proof.Machine

/-! ### Descriptor fields (R331) -/

def Desc.byte (d : Desc) (off : Nat) : Nat := ((d.body[off - 8]?).getD 0#8).toNat
/-- The field of `n` bytes from a byte offset of 8 or more. -/
def Desc.fld (d : Desc) (off n : Nat) : Nat := valLE ((List.range n).map fun k => BitVec.ofNat 8 (d.byte (off + k)))
def Desc.all (d : Desc) : Bool := d.port == 0xFFFF#16
def Desc.isMsg (d : Desc) : Bool := d.opn == 0x10 || d.opn == 0x11
def Desc.isTable (d : Desc) : Bool := d.opn == 0x40 || d.opn == 0x42

/-- The opcodes of R332. -/
def definedOps : List Nat :=
  [0x00, 0x01, 0x02, 0x03, 0x04, 0x05, 0x06, 0x10, 0x11, 0x12, 0x13, 0x20, 0x21, 0x22, 0x23, 0x24, 0x30, 0x31, 0x32,
   0x40, 0x41, 0x42, 0x50, 0x51, 0x52, 0x53, 0x60, 0x61, 0x62, 0x63, 0x70, 0x71]
/-- Whether the Port column of R332 admits one port, and whether it admits 0xFFFF. -/
def portKinds (op : Nat) : Bool × Bool :=
  if [0x00, 0x01, 0x02, 0x03, 0x04, 0x21, 0x31, 0x32].contains op then (true, true)
  else if [0x05, 0x06, 0x10, 0x11, 0x12, 0x13, 0x52].contains op then (true, false)
  else (false, true)

/-- A byte mask for each of `n` bytes from an offset. -/
def span (lo n : Nat) (off : Nat) : Bool := decide (lo ≤ off) && decide (off < lo + n)
/-- Bits of a byte that the layout of R332, R333 and R335 gives a meaning; the others are reserved. -/
def Desc.allowed (d : Desc) (off : Nat) : Nat :=
  let f := fun b : Bool => if b then 0xFF else 0
  match d.opn with
  | 0x03 => f (off == 8)
  | 0x04 => f (off == 8 || span 16 44 off)
  | 0x10 => if off == 9 then 7 else f (off == 8 || span 10 2 off || span 16 264 off)
  | 0x11 => f (off == 8 || off == 10 || span 16 4 off || span 20 (4 * min (d.byte 10) 6) off)
  | 0x12 => f (off == 8)
  | 0x20 => if off == 10 || off == 14 then 0x0F else if off == 16 then 3 else f (span 8 2 off || span 12 2 off)
  | 0x21 => if off == 8 then 3 else if off == 14 then 0xF else f (span 9 5 off)
  | 0x23 => if off == 23 then 0x7F else f (off == 8 || span 16 7 off)
  | 0x30 => f (off == 8)
  | 0x31 => if off == 15 then 0x0F else f (span 8 5 off || off == 14)
  | 0x32 => f (span 8 2 off)
  | 0x40 => f (off == 8 || span 10 5 off || span 16 4 off || span 24 (8 * min (d.byte 14) 5) off)
  | 0x42 => f (off == 8 || span 10 5 off || span 16 4 off || span 24 (8 * min (d.byte 14) 5) off)
  | 0x41 => f (off == 8 || (span 16 32 off && off % 4 != 1))
  | 0x50 => f (span 8 2 off || span 12 4 off)
  | 0x51 => f (span 8 2 off)
  | 0x52 => f (span 8 8 off)
  | 0x53 => f (off == 8 || span 10 3 off || span 16 (if d.byte 8 == 1 then 8 * min (d.byte 12) 6 else 48) off)
  | 0x60 => f (off == 8 || span 16 8 off)
  | 0x61 => f (off == 8 || span 32 32 off)
  | 0x62 => f (off == 8)
  | 0x63 => f (off == 8)
  | 0x70 => f (span 8 2 off)
  | 0x71 => if off == 15 then 0x7F else f (span 8 7 off)
  | _ => 0
/-- First byte from 6 on that is not 0 where the layout reserves it. -/
def Desc.reservedBad (d : Desc) : Option Nat :=
  if d.rsv.toNat % 256 != 0 then some 6
  else if d.rsv != 0#16 then some 7
  else ((List.range d.body.length).find? fun k => decide (d.byte (k + 8) ||| d.allowed (k + 8) ≠ d.allowed (k + 8))).map (· + 8)

/-- First offset of a list of (test, offset) whose test fails. -/
def firstOff (l : List (Bool × Nat)) : Option Nat := (l.find? fun e => ! e.1).map Prod.snd

/-! ### Parameters (R129, R130, R157, R316, R352) -/

/-- Count of a parameter group (R129). -/
def paramCount (g : Nat) : Nat := ([256, 32, 32, 16, 16, 16, 64, 32, 96, 64, 48, 32][g]?).getD 0
/-- Range, X and RO of a parameter that a table lists. -/
def paramInfo (n : Nat) : Option (Nat × Nat × Bool × Bool) :=
  let w := 0xFFFFFFFF
  let g := n / 4096
  let i := n % 4096
  match g with
  | 0 => if i < 256 && i % 16 < 12 then some (0, w, true, false) else none
  | 1 => ([(100, 1000, false, false), (3000, 6000, true, false), (3000, 6000, true, false), (100, 10000, false, false),
          (1000, 60000, false, false)] : List (Nat × Nat × Bool × Bool))[i]?
  | 2 => ([(24, 30, true, false), (25, 35, true, false), (100, 200, true, false), (4500, 5500, true, false)] : List (Nat × Nat × Bool × Bool))[i]?
  | 3 => ([(1, 50, true, false), (2, 2, false, true)] : List (Nat × Nat × Bool × Bool))[i]?
  | 4 => ([(12000, 15000, true, false), (750, 1000, true, false)] : List (Nat × Nat × Bool × Bool))[i]?
  | 5 => ([(0, 1, false, false), (100, 100, false, true)] : List (Nat × Nat × Bool × Bool))[i]?
  | 6 => ([(0, 0xFFFF, false, false), (0, 0xFFFF, false, false)] : List (Nat × Nat × Bool × Bool))[i]?
  | 7 => ([(0, 1, true, false), (1, 20, true, false), (40, 50, true, false)] : List (Nat × Nat × Bool × Bool))[i]?
  | 8 => ([(0, 1, false, false), (0, w, true, false), (0, w, false, false)] : List (Nat × Nat × Bool × Bool))[i]?
  | 9 => if i < 6 then some (0, w, false, false)
         else ([(1, 60, false, false), (50, 100, false, false), (60, 3600, false, false)] : List (Nat × Nat × Bool × Bool))[i - 6]?
  | 10 => if i < 6 then some (0, w, false, false)
          else ([(0, 0x03FFFFFE, false, false), (10, 1000, false, false), (100, 100, false, true), (10, 10, false, true),
                (64, 64, false, true)] : List (Nat × Nat × Bool × Bool))[i - 6]?
  | 11 => ([(5, 100, false, false), (0, 50, true, false), (0, 1, true, false), (0, 1, false, false), (50000, 50000, false, true),
           (100, 100, false, true)] : List (Nat × Nat × Bool × Bool))[i]?
  | _ => none
/-- A profile word of an encoding that R99 refuses; 0 is no object (R130). -/
def profileWordBad (w : Word) : Bool :=
  w != 0#32 && (match decodePdo w with
    | .fixed mv ma => ! [5000, 9000, 15000, 20000, 28000, 36000, 48000].contains mv || decide (ma > 5000)
    | .pps lo hi ma => decide (lo < 3300) || decide (hi > 21000) || decide (hi < lo) || decide (ma > 5000)
    | .avs lo hi pdp => decide (lo < 15000) || decide (hi > 48000) || decide (hi < lo) || decide (pdp > 240)
    | .other => true)
/-- A value PARAM_SET refuses (R130, R142, R157, R352). -/
def paramValueBad (n v : Nat) : Bool :=
  match paramInfo n with
  | none => true
  | some (lo, hi, _, _) =>
    decide (v < lo) || decide (v > hi) || (n == 0xA006 && v % 2 == 1) || (n == 0x8001 && v / 2 ^ 26 % 2 == 1)
      || (decide (n < 256) && decide (n % 16 < 11) && profileWordBad (BitVec.ofNat 32 v))
def paramX (n : Nat) : Bool := match paramInfo n with | some (_, _, x, _) => x | none => false
def paramRo (n : Nat) : Bool := match paramInfo n with | some (_, _, _, r) => r | none => true

/-! ### Checks before any effect (R331) -/

/-- First byte at fault among the field values. -/
def Desc.valueBad (d : Desc) : Option Nat :=
  let b := d.byte
  match d.opn with
  | 0x03 => firstOff [(decide (b 8 < 16), 8)]
  | 0x04 =>
    if b 8 < 1 || b 8 > 11 then some 8
    else pdoSetFault ((List.range (b 8)).map fun k => BitVec.ofNat 32 (d.fld (16 + 4 * k) 4))
  | 0x10 => firstOff [(decide (b 8 ≤ 2), 8), (within (d.fld 10 2) 2 264, 10)]
  | 0x11 => firstOff [(decide (b 8 ≤ 2), 8), (decide (b 10 ≤ 6), 10), (decide (b 17 ≥ 128), 17)]
  | 0x12 => firstOff [(b 8 == 1 || b 8 == 2, 8)]
  | 0x20 => firstOff [(b 16 != 0, 16)]
  | 0x21 => firstOff [(b 14 != 0, 14)]
  | 0x23 => firstOff [(decide (b 8 ≤ 2), 8)]
  | 0x30 => firstOff [(decide (b 8 ≤ 1), 8)]
  | 0x31 =>
    if d.all then none
    else firstOff [(within (b 8) 1 3, 8), (decide (b 9 ≤ 5) && ! (b 8 == 3 && b 9 == 0), 9), (decide (b 10 ≤ 6), 10),
      (decide (b 11 ≤ 6), 11), (decide (b 12 ≤ 3), 12)]
  | 0x32 => firstOff [(decide (b 8 ≤ 5), 8), (decide (b 9 ≤ 3), 9)]
  | 0x40 => firstOff [(within (b 8) 16 31, 8), (within (d.fld 10 2) 1 64, 10), (within (b 14) 1 5, 14)]
  | 0x42 => firstOff [(b 8 != 0, 8), (within (d.fld 10 2) 1 256, 10), (within (b 14) 1 5, 14)]
  | 0x41 =>
    if ! [2, 3, 0x10, 0x11].contains (b 8) then some 8
    else firstOff ((List.range 8).flatMap fun k => [(decide (b (16 + 4 * k) ≥ 16), 16 + 4 * k), (d.fld (18 + 4 * k) 2 != 0, 18 + 4 * k)])
  | 0x50 =>
    let n := d.fld 8 2
    firstOff [(decide (n % 4096 < paramCount (n / 4096)) && (paramInfo n).isSome && ! paramRo n, 8), (! paramValueBad n (d.fld 12 4), 12)]
  | 0x51 => let n := d.fld 8 2; firstOff [(decide (n % 4096 < paramCount (n / 4096)), 8)]
  | 0x52 => firstOff [(d.fld 8 8 % 4096 == 0, 8)]
  | 0x53 =>
    firstOff ([(b 8 == 1 || b 8 == 2, 8), (decide (d.fld 10 2 < 3072), 10), (within (b 12) 1 6 && decide (d.fld 10 2 + b 12 ≤ 3072), 12)] ++
      (if b 8 == 1 then (List.range (b 12)).map fun k => (d.fld (16 + 8 * k) 8 % 4096 == 0, 16 + 8 * k)
       else (List.range 48).map fun k => (b (16 + k) == 0, 16 + k)))
  | 0x60 => firstOff [(within (b 8) 1 3, 8), (d.fld 16 8 % 32 == 0, 16)]
  | 0x63 => firstOff [(decide (b 8 ≤ 1), 8)]
  | 0x70 => firstOff [(decide (b 8 ≤ 1), 8), (within (b 9) 1 3, 9)]
  | _ => none
/-- Descriptors marked X (R98, R205, R332, R352). -/
def Desc.isX (d : Desc) : Bool :=
  [0x04, 0x10, 0x40, 0x41, 0x42].contains d.opn || (d.opn == 0x03 && d.byte 8 == 0xF) || (d.opn == 0x70 && d.byte 9 == 3)
    || (d.opn == 0x50 && paramX (d.fld 8 2))
/-- Reason of a NOT_PERMITTED that R5 or R351 gives the host path. -/
def State.hostReason (s : State) : NpReason :=
  if s.link.sess == 0 || s.link.level == .none then .noSession else if ! s.link.level.isTech then .level else .notUnlocked
/-- The checks of R331 in their order: code, detail and result data of the first that fails. -/
def State.descCheck (s : State) (d : Desc) : Option (CplCode × Nat × List Byte) :=
  let bad := fun off : Nat => some (CplCode.badField, 0, bytesLE 2 off)
  let k := portKinds d.opn
  if ! definedOps.contains d.opn then some (.unknownOp, 0, [])
  else if d.isMsg != (d.ring == 9 || d.ring == 10) then bad 0
  else if d.flags &&& 0x78#8 != 0#8 || (! d.isTable && (d.chain || d.chainEnd)) || (d.isTable && ! d.chain) then bad 1
  else if ! ((d.portId.isSome && k.1) || (d.all && k.2)) then bad 4
  else match d.reservedBad.or d.valueBad with
    | some off => bad off
    | none => if d.isX && ! s.expertOn .host then some (.notPermitted, s.hostReason.num, []) else none

/-! ### Chains (R333, R334) -/

def State.cplChain (s : State) (c : Chain) (code : CplCode) (data : List Byte) : State :=
  s.complete { op := c.op, chain := true, tag := c.tag, port := c.port, code := code, detail := 0#8, ring := c.ring, idx := c.head, data := data } c.irq
/-- An open chain is discarded; its head completes (R334). -/
def State.chainDrop (s : State) (n : Nat) (code : CplCode) (data : List Byte) : State :=
  match (s.ring n).chain with
  | some c => (s.modRing n fun r => { r with chain := none, badTag := some c.tag }).cplChain c code data
  | none => s
/-- A table load may not touch the table: in force, or selected in the staged huddle (R83, R170). -/
def State.tableBusy (s : State) (op target : Nat) : Bool :=
  let after := s.withStaged
  if op == 0x40 then s.cfg.stOvr.getLsbD (target - 16) || after.cfg.stOvr.getLsbD (target - 16)
  else allTiles.any fun t => target.testBit t.val && ((s.tile t).mtSel || (after.tile t).mtSel || (portsOf t).any fun p => (s.port p).pd.table == .ram)
/-- Offset within a chained descriptor at which it breaks R333. -/
def Chain.breaks (c : Chain) (d : Desc) : Option Nat :=
  let done := c.entries.length + d.byte 14
  firstOff [(d.op == c.op, 0), (d.byte 8 == c.target, 8), (d.fld 10 2 == c.total, 10), (d.fld 12 2 == c.entries.length, 12),
    (decide (done ≤ c.total) && (! d.chainEnd || done == c.total), 14), (d.fld 16 4 == c.crc.toNat, 16)]
def Desc.entries (d : Desc) : List (BitVec 64) := (List.range (d.byte 14)).map fun k => BitVec.ofNat 64 (d.fld (24 + 8 * k) 8)

/-- A checked descriptor of a table load joins or opens the ring's chain (R333, R334). -/
def State.chainTake (s : State) (n : Nat) (d : Desc) : State :=
  let c := match (s.ring n).chain with
    | some c => c
    | none => { ring := n, op := d.op, tag := d.tag, head := d.idx, irq := d.irq, port := d.port, target := d.byte 8, total := d.fld 10 2,
                crc := BitVec.ofNat 32 (d.fld 16 4), entries := [], busy := s.tableBusy d.opn (d.byte 8), since := s.aon }
  match c.breaks d with
  | some off =>
    let s1 := (s.modRing n fun r => { r with chain := some c }).chainDrop n .badField (bytesLE 2 off ++ bytesLE 2 d.idx.toNat)
    if d.chainEnd then s1.modRing n fun r => { r with badTag := none } else s1
  | none =>
    let c1 := { c with entries := c.entries ++ d.entries }
    if d.chainEnd then (s.modRing n fun r => { r with chain := none }).modLink fun l => { l with loads := l.loads ++ [c1] }
    else s.modRing n fun r => { r with chain := some c1 }

/-! ### Fetching (R325, R328, R329) -/

/-- A fetched descriptor: one of a table load goes to its chain, every other waits for its start. R331's checks of a table load, R5 among
them, are made as each of its descriptors is fetched: an EXPERT_UNLOCK fetched ahead of it that has not started does not count for it yet
(DESIGN CHOICE, log entry 67: R6 and R333 do not say when). -/
def State.takeDesc (s : State) (n : Nat) (d : Desc) : State :=
  let bad := s.descCheck d
  let good := d.isTable && bad.isNone
  if good && (s.ring n).badTag == some d.tag then
    let s1 := if d.chainEnd then s.modRing n fun r => { r with badTag := none } else s
    s1.cplDesc d d.opn .badField 0 (bytesLE 2 1)
  else
    let s1 := s.modRing n fun r => { r with badTag := none }
    let s2 := match (s1.ring n).chain with
      | some c => if good && c.tag == d.tag then s1 else s1.chainDrop n .chainIncomplete []
      | none => s1
    if good then s2.chainTake n d
    else if d.isTable then
      match bad with
      | some (c, det, data) => s2.cplDesc d d.opn c det data
      | none => s2
    else s2.modLink fun l => { l with fetched := l.fetched ++ [d], fetchAt := l.fetchAt ++ [(d.ring, d.idx.toNat, s.aon)] }

/-- Completions owed to a CPL ring. -/
def State.owed (s : State) (cpl : Nat) : Nat := (([0, 1, 9, 10].filter fun n => cplRing n == cpl).map s.owedBy).sum
/-- The CPL ring has a free slot for every completion owed and for one more (R328). -/
def State.cplRoom (s : State) (n : Nat) : Bool :=
  let c := s.ring (cplRing n)
  c.enable && decide (c.occ + s.owed (cplRing n) + 1 < c.cap)
/-- Descriptors are fetched from a host ring up to its host index, among those read (R328, R329). -/
def State.fetchRing (s : State) (n : Nat) (slots : List Desc) : Nat → State
  | 0 => s
  | k + 1 =>
    let r := s.ring n
    if r.state != .running || r.hostIdx == r.devIdx || decide (s.link.fetched.length ≥ 256) || ! s.cplRoom n then s
    else match slots.find? fun d => d.ring == n && d.idx == r.devIdx with
      | none => s
      | some d =>
        if d.phase != r.phase then s.modRing n fun r => { r with state := .phaseWait, stallIdx := r.devIdx, stallAt := s.aon }
        else ((s.modRing n Ring.advance).takeDesc n d).fetchRing n slots k
/-- A DRAINING ring: among the descriptors read, those up to the host index complete CANCELLED, a chain once at its head; it is
DISABLED after the last completion (R349). -/
def State.drainRing (s : State) (n : Nat) (slots : List Desc) : Nat → State
  | 0 => s.drained n
  | k + 1 =>
    let r := s.ring n
    if r.state != .draining || r.hostIdx == r.devIdx || ! s.cplRoom n then s.drained n
    else match slots.find? fun d => d.ring == n && d.idx == r.devIdx with
      | none => s
      | some d =>
        let inChain := d.isTable && d.chain
        let s1 := (s.modRing n Ring.advance).modRing n fun r => { r with badTag := if inChain && ! d.chainEnd then some d.tag else none }
        let s2 := if inChain && r.badTag == some d.tag then s1.drained n
          else s1.complete { op := d.op, chain := inChain, tag := d.tag, port := d.port, code := .cancelled, detail := 0#8, ring := d.ring,
                             idx := d.idx, data := [] } d.irq
        s2.drainRing n slots k
/-- CMD1 and MSGTX1 before CMD0 and MSGTX0 (R328); a DRAINING ring goes on draining. -/
def State.fetchAll (s : State) (slots : List Desc) : State :=
  [1, 10, 0, 9].foldl (fun s n => (s.fetchRing n slots (slots.length + 1)).drainRing n slots (slots.length + 1)) s

/-! ### Doorbells (R326) -/

def isHostRing (n : Nat) : Bool := n == 0 || n == 1 || n == 9 || n == 10
/-- The host reaches the device: the domain is up and not fenced (R409, R410). -/
def State.hostUp (s : State) : Bool := s.domOn domHost
/-- What waits for room in a device ring is written (R344, R347, R348). -/
def State.ringDrain (s : State) (n : Nat) : State :=
  if n == 4 then s.drainBacklog 66
  else if 5 ≤ n && n ≤ 8 then s.tlmDrain (n - 5) s.link.tlmBuf.length
  else if n == 13 then allTiles.foldl State.capDrain s
  else s
/-- A new host index that R326 accepts. -/
def Ring.accepts (r : Ring) (host : Bool) (new : BitVec 16) : Bool :=
  if host then decide ((r.hostIdx - r.devIdx).toNat ≤ (new - r.devIdx).toNat) && decide ((new - r.devIdx).toNat ≤ r.cap - 1)
  else decide ((new - r.hostIdx).toNat ≤ (r.devIdx - r.hostIdx).toNat)

/-- A write of a doorbell (R326, R328, R329, R354): the ring's new host index, whether the write is one of 32 bits, and the slots that
the device reads in consequence. -/
def State.doorbell (s : State) (n : Nat) (v : Word) (full : Bool) (slots : List Desc) : State :=
  let r := s.ring n
  let new := v.setWidth 16
  if ! full || v >>> 16 != 0#32 || ! r.enable || r.state == .draining || ! r.accepts (isHostRing n) new then
    s.modLink fun l => { l with dbErr := l.dbErr.inc16 }
  else if isHostRing n then
    (s.modRing n fun r => { r with hostIdx := new, state := .running }).fetchAll slots
  else
    let freed := (new - r.hostIdx).toNat
    let s1 := s.modRing n fun r =>
      { r with hostIdx := new, out := r.out.drop freed, state := if r.state == .full && freed != 0 then .running else r.state }
    (s1.ringDrain n).fetchAll slots
/-- A word of an MSI-X table entry is written (R320). -/
def MsixEntry.put (e : MsixEntry) (n : Nat) (v : Word) : MsixEntry :=
  match n with
  | 0 => { e with addr := (e.addr &&& 0xFFFFFFFF00000000#64) ||| (v &&& 0xFFFFFFFC#32).setWidth 64 }
  | 1 => { e with addr := (e.addr &&& 0xFFFFFFFF#64) ||| (v.setWidth 64 <<< 32) }
  | 2 => { e with data := v }
  | _ => { e with mask := bit v 0 }
/-- A write of the MSI-X table; a vector that is unmasked while it is pending sends its message (R320, R345;
what the table holds after a reset is PRESUMED, log entry 68). -/
def State.msixWrite (s : State) (off : Nat) (v : Word) : State :=
  let k := (off - 0x800) / 16
  let s1 := s.modLink fun l => { l with msix := l.msix.modify k fun e => e.put (off % 16 / 4) v }
  if s1.link.pba.getLsbD k && ! s1.link.masked k then (s1.modLink fun l => { l with pba := setBit l.pba k false }).raise k else s1
/-- What BAR2 reads (R320): the MSI-X table, the pending bits, 0 elsewhere. -/
def State.bar2Read (s : State) (off : Nat) : Word :=
  if 0x800 ≤ off && off < 0xA00 then
    match s.link.msix[(off - 0x800) / 16]? with
    | some e =>
      match off % 16 / 4 with
      | 0 => e.addr.setWidth 32 | 1 => (e.addr >>> 32).setWidth 32 | 2 => e.data | _ => BitVec.ofNat 32 (b2n e.mask)
    | none => 0#32
  else if off / 4 == 0xC00 / 4 then s.link.pba
  else 0#32
/-- DOORBELL (R320, R326, R401): a write to BAR2: a ring's doorbell at 0x10 × n, or the MSI-X table; other offsets ignore it. -/
def execDoorbell (off : Fin 4096) (v : BitVec 32) (full : Bool) (slots : List Desc) (s : State) : Out :=
  if ! s.hostUp then ok s
  else if off.val % 16 == 0 && decide (off.val < 0xE0) then ok (s.toRun.doorbell (off.val / 16) v full slots)
  else if full && off.val % 4 == 0 && decide (0x800 ≤ off.val) && decide (off.val < 0xA00) then ok (s.msixWrite off.val v)
  else ok s

/-- PHASE_REREAD (R329): the stalled slot is read again; a ring whose fetching had paused reads on. -/
def execPhaseReread (n : Fin 14) (slots : List Desc) (s : State) : Out :=
  if ! s.hostUp || ! isHostRing n.val then ok s
  else match (s.ring n.val).state with
    | .phaseWait => ok ((s.modRing n.val fun r => { r with state := .running }).fetchRing n.val slots (slots.length + 1) |>.modRing n.val
        fun r => if r.devIdx == (s.ring n.val).devIdx then { r with state := .phaseWait, stallAt := (s.ring n.val).stallAt } else r)
    | .running => ok (s.fetchRing n.val slots (slots.length + 1))
    | .draining => ok (s.drainRing n.val slots (slots.length + 1))
    | _ => ok s

/-- HOSTLINK_STALL (R329, R352): the slot has kept the wrong phase for STALL_WINDOW, 10 ms. -/
def execHostlinkStall (n : Fin 14) (s : State) : Out :=
  if (s.ring n.val).state == .phaseWait && decide (msCycles (s.param 0xA009) ≤ s.aon - (s.ring n.val).stallAt) then
    ok ((s.modRing n.val fun r => { r with state := .waitDoorbell }).postEvt none (.hostlinkStall n.val (s.ring n.val).stallIdx))
  else ok s

/-- CHAIN_TIMEOUT (R334, R352): the parameter's time has passed since the head was fetched. -/
def execChainTimeout (n : Fin 14) (s : State) : Out :=
  if (s.ring n.val).chain.any fun c => decide (msCycles (s.param 0xA007) ≤ s.aon - c.since) then ok (s.chainDrop n.val .chainIncomplete [])
  else ok s

/-- MSIX_TIME_TRIGGER (R345). -/
def execMsixTimeTrigger (n : Fin 14) (s : State) : Out :=
  let r := s.ring n.val
  if r.irqTime != 0 && r.unsig != 0 && ! isHostRing n.val then ok ((s.modRing n.val fun r => { r with unsig := 0 }).raise r.vector) else ok s

/-- AON cycles for which a fetched descriptor has waited for its start. -/
def State.fetchWait (s : State) (d : Desc) : Nat :=
  match s.link.fetchAt.find? fun e => e.1 == d.ring && e.2.1 == d.idx.toNat with
  | some e => s.aon - e.2.2
  | none => 0

/-! ### Enabling and disabling a ring (R322–R325, R349, R353) -/

/-- What a host ring still owes and has not started, with its place in the ring: a descriptor or a chain at its head. -/
inductive Unstarted
  | desc (d : Desc)
  | load (c : Chain)
  | opn (c : Chain)
deriving DecidableEq
def Unstarted.idx : Unstarted → BitVec 16
  | .desc d => d.idx
  | .load c | .opn c => c.head
/-- Ring order: by distance behind the host index, the farthest first. -/
def insertBehind (h : BitVec 16) (e : Unstarted) : List Unstarted → List Unstarted
  | [] => [e]
  | x :: r => if (e.idx - h).toNat < (x.idx - h).toNat then e :: x :: r else x :: insertBehind h e r
def State.unstarted (s : State) (n : Nat) : List Unstarted :=
  let h := (s.ring n).hostIdx
  let l := (s.link.fetched.filter (·.ring == n)).map Unstarted.desc ++ (s.link.loads.filter (·.ring == n)).map Unstarted.load ++
    ((s.ring n).chain.toList.map Unstarted.opn)
  l.foldr (insertBehind h) []
def State.cancelOne (s : State) (n : Nat) (e : Unstarted) : State :=
  match e with
  | .desc d => (s.dropFetched d).cplDesc d d.opn .cancelled 0 []
  | .load c => (s.modLink fun l => { l with loads := l.loads.erase c }).cplChain c .cancelled []
  | .opn c => (s.modRing n fun r => { r with chain := none, badTag := some c.tag }).cplChain c .cancelled []
/-- ENABLE of a host ring is cleared (R349). -/
def State.disableHost (s : State) (n : Nat) (slots : List Desc) : State :=
  let s1 := s.modRing n fun r => { r with enable := false, state := .draining, badTag := none }
  ((s1.unstarted n).foldl (fun s e => s.cancelOne n e) s1).drainRing n slots (slots.length + 1)
/-- A CMD or MSGTX ring that completes into a CPL ring is enabled or still DRAINING (R323). -/
def State.cplInUse (s : State) (n : Nat) : Bool :=
  [0, 1, 9, 10].any fun k => cplRing k == n && ((s.ring k).enable || (s.ring k).state == .draining)
/-- A write of HL_RINGn_CFG; `slots` are the descriptors that the device still reads from a ring it drains. -/
def State.writeRingCfg (s : State) (n : Nat) (v : Word) (slots : List Desc) : State :=
  let r := s.ring n
  let sz := bits v 24 5
  let vec := fun r : Ring => { r with vector := bits v 16 5 }
  if r.enable then
    if bit v 31 then s.modRing n vec
    else if (n == 2 || n == 3) && s.cplInUse n then s
    else
      let s1 := s.modRing n vec
      if isHostRing n then s1.disableHost n slots else s1.modRing n fun r => { r with enable := false, state := .disabled }
  else if ! bit v 31 then s.modRing n fun r => { vec r with size := if r.state == .draining then r.size else sz }
  else if ! within sz 4 16 || r.state == .draining || (isHostRing n && ! (s.ring (cplRing n)).enable) then s
  else
    (s.modRing n fun r =>
      { vec r with enable := true, size := sz, state := .running, hostIdx := 0#16, devIdx := 0#16, stallIdx := 0#16, chain := none,
                   badTag := none, unsig := 0, out := [], wraps := false }).ringDrain n
/-- RING_ENABLE (R323, R324, R343, R344, R350). -/
def execRingEnable (n : Fin 14) (v : BitVec 32) (s : State) : Out :=
  if s.hostUp && bit v 31 then ok (s.toRun.writeRingCfg n.val v []) else ok s
/-- RING_DISABLE (R323, R349). -/
def execRingDisable (n : Fin 14) (v : BitVec 32) (slots : List Desc) (s : State) : Out :=
  if s.hostUp && ! bit v 31 then ok (s.toRun.writeRingCfg n.val v slots) else ok s

/-- The status block word of a ring, as the device keeps it in host memory (R327). -/
def State.statusWord (s : State) (n : Nat) : Word :=
  let r := s.ring n
  packWord [(b2n (r.state == .phaseWait || r.state == .waitDoorbell), 17, 1), (b2n r.enable, 16, 1), (r.devIdx.toNat, 0, 16)]
/-- The status block: address, 64 bytes, none while HL_SB_LO.ENABLE is 0 (R327, R353). -/
def State.statusBlock (s : State) : Option (Nat × List Byte) :=
  if bit s.link.sbLo 0 then
    some (s.link.sbHi.toNat * 2 ^ 32 + s.link.sbLo.toNat / 64 * 64, (List.range 16).flatMap fun n => bytesLE 4 (s.statusWord n).toNat)
  else none

/-! ### Starting a descriptor (R328, R331, R354) -/

/-- A fetched descriptor is next of its ring and port; for one port CMD1 and MSGTX1 go first (R328, R338, R354). -/
def State.descNext (s : State) (d : Desc) : Bool :=
  let hi := fun e : Desc => e.ring == 1 || e.ring == 10
  s.link.fetched.contains d
    && ((s.link.fetched.find? fun e => e.ring == d.ring && e.port == d.port) == some d)
    && (hi d || ! s.link.fetched.any fun e => hi e && e.port == d.port)
/-- A descriptor marked X or a session descriptor keeps the host session open (R351). -/
def State.sessionUse (s : State) (d : Desc) : State :=
  if d.isX || decide (0x60 ≤ d.opn ∧ d.opn ≤ 0x63) then s.modLink fun l => { l with sessAt := s.aon } else s
/-- A descriptor of opcode `op` starts: it leaves the fetched ones, R331 is checked, a per-port one of a fenced tile completes
FENCED, and `f` has its effect. `sel` picks the row's form of the opcode; one that fails a check completes under any. -/
def State.startDesc (s : State) (d : Desc) (op : Nat) (sel : Bool) (f : State → State) : State :=
  if d.opn == op && s.descNext d then
    let s1 := (s.dropFetched d).sessionUse d
    match s1.descCheck d with
    | some (c, det, data) => s1.cplDesc d op c det data
    | none =>
      if (match d.portId with | some p => s1.portFenced p | none => false) then s1.cplDesc d op .fenced 0 []
      else if sel then f s1 else s
  else s
/-- A descriptor of one port. -/
def State.startPort (s : State) (d : Desc) (op : Nat) (f : PortId → State → State) : State :=
  s.startDesc d op true fun s => match d.portId with | some p => f p s | none => s

/-- The ports a descriptor acts on: its own, or in port order each enabled one, or every one (R332). -/
def State.targets (s : State) (d : Desc) (every : Bool) : List PortId :=
  match d.portId with
  | some p => [p]
  | none => allPorts.filter fun p => every || (s.port p).pol.enabled
/-- `f` acts on each port in order; a port of a fenced tile gives FENCED. Answers the ports that failed with their codes. -/
def State.eachPort (s : State) (l : List PortId) (f : State → PortId → State × CplCode) : State × List (PortId × CplCode) :=
  l.foldl (fun a p =>
    if a.1.portFenced p then (a.1, a.2 ++ [(p, .fenced)])
    else
      let (s1, c) := f a.1 p
      if c == .ok then (s1, a.2) else (s1, a.2 ++ [(p, c)])) (s, [])
/-- Code and result data of a descriptor for several ports (R332). -/
def portsResult (d : Desc) (bad : List (PortId × CplCode)) : CplCode × List Byte :=
  match bad with
  | [] => (.ok, [])
  | (p, c) :: _ => (c, if d.all then bytesLE 2 p.val ++ bytesLE 2 bad.length else [])
/-- A descriptor that acts at once on each of its ports. -/
def State.startPorts (s : State) (d : Desc) (op : Nat) (every : Bool) (f : State → PortId → State × CplCode) : State :=
  s.startDesc d op true fun s =>
    let (s1, bad) := s.eachPort (s.targets d every) f
    let (c, data) := portsResult d bad
    s1.cplDesc d op c 0 data
/-- A descriptor that awaits a happening of each of several ports; those of fenced tiles are not awaited (R332). -/
def State.waitPorts (s : State) (d : Desc) (op : Nat) (k : WaitFor) (l : List PortId) (bad : List (PortId × CplCode)) : State :=
  let (c, data) := portsResult d bad
  match l.filter fun p => ! s.portFenced p with
  | [] => s.cplDesc d op c 0 data
  | p :: r => s.modLink fun h => { h with waiting := h.waiting ++ [{ (s.waitingOf d op (some p) k) with also := r, code := c, data := data }] }
/-- NOT_PERMITTED with a reason. -/
def State.cplNo (s : State) (d : Desc) (op : Nat) (r : NpReason) : State := s.cplDesc d op .notPermitted r.num []

/-- The port's queue can take a HOST event (R302, R303). -/
def State.hostRoom (s : State) (p : PortId) : Bool :=
  (s.port p).sc.quar || (entryFree (s.port p).sc.q .host && s.cellsFree p 2)
/-- The queue of every port a descriptor acts on can take its HOST event; one that completes without an effect on a port needs no room. -/
def State.hostTakes (s : State) (d : Desc) : Bool :=
  (s.descCheck d).isSome || (s.targets d false).all fun p => s.portFenced p || s.hostRoom p
/-- A descriptor for a port is also given to the port's policy as a HOST event (R300, R303). -/
def State.hostEvent (s : State) (p : PortId) (d : Desc) : State :=
  s.queueEv p { mkEv s .host d.opn 0#32 with tag := d.tag, cells := 2, desc := some d }

end Sys2Proof.Machine
end

