-- ==== Sys2Proof/Machine/HostCommands.lean ====
section
/-! DEFINITION. The host's descriptors (R332) and what ends them, one definition per row. A descriptor starts when it has
been fetched; a row whose descriptor has not been fetched, or may not yet start, changes nothing. -/
namespace Sys2Proof.Machine

/-! ### Ends without a start of their own -/

/-- UNKNOWN_OPCODE (R331). -/
def execUnknownOpcode (d : Desc) (s : State) : Out :=
  if ! definedOps.contains d.opn && s.descNext d then ok ((s.dropFetched d).cplDesc d d.opn .unknownOp 0 []) else ok s
/-- DESCRIPTOR_START_TIMEOUT (R127, R302, R316): the descriptor could not start within HOST_WAIT, 100 ms. -/
def execDescriptorStartTimeout (d : Desc) (s : State) : Out :=
  if s.link.fetched.contains d && decide (msCycles (s.param 0xB005) ≤ s.fetchWait d) then ok ((s.dropFetched d).cplDesc d d.opn .busy 0 []) else ok s
/-- PD_SEND_REPLY_TIMEOUT (R336). -/
def execPdSendReplyTimeout (p : Fin 192) (s : State) : Out :=
  if (s.port p).pol.expect == .hostReply then
    ok (((s.modPol p fun q => { q with expect := .none }).finishPort p .reply .timeout []).goNext p)
  else ok s

/-! ### Ports (R332) -/

/-- NOP (R332). -/
def execNop (d : Desc) (s : State) : Out := ok (s.startDesc d 0x00 true fun s => s.cplOk d 0x00)
/-- PORT_ENABLE (R55, R60, R179, R181, R213, R294, R332, R358). -/
def execPortEnable (d : Desc) (s : State) : Out := ok (s.startPorts d 0x01 true fun s p => s.portEnable p)
/-- PORT_DISABLE (R55, R131, R332, R354): completes once ST04 has signalled VSAFE0V_OK on every port it disables. What was fetched for such
a port before it and has not started ends with it; what was fetched behind it keeps its turn (DEDUCED, log entry 70). -/
def execPortDisable (d : Desc) (s : State) : Out :=
  let older := s.link.fetched.takeWhile (· != d)
  ok (s.startDesc d 0x02 true fun s =>
    let l := s.targets d false
    let (s1, bad) := s.eachPort l fun s p => ((s.abortPending p older).portDisable p, .ok)
    s1.waitPorts d 0x02 .vsafe0v (l.filter fun p => ! s1.disableEnded p) bad)
/-- PORT_PROFILE (R98, R131). -/
def execPortProfile (d : Desc) (s : State) : Out :=
  if s.hostTakes d then
    ok (s.startPorts d 0x03 false fun s p => ((s.setProfile p (d.byte 8 % 16)).hostEvent p d, .ok))
  else ok s
/-- PORT_PDO_SET (R99, R228): the set is kept, and changes the offer, and a demand that rises with it, only under profile 0xF. -/
def execPortPdoSet (d : Desc) (s : State) : Out :=
  let ws := (List.range (d.byte 8)).map fun k => BitVec.ofNat 32 (d.fld (16 + 4 * k) 4)
  if s.hostTakes d then
    ok (s.startPorts d 0x04 false fun s p =>
      let s1 := s.modPol p fun q => { q with custom := some (pdoSetOrder ws) }
      (((if (s.port p).pol.profile == 15 then (s1.demandRose p (s.demandOf p)).profileChanged p else s1).hostEvent p d), .ok))
  else ok s
/-- PORT_ERROR_RECOVERY (R131, R332). -/
def execPortErrorRecovery (d : Desc) (s : State) : Out :=
  if s.hostTakes d then
    ok (s.startPort d 0x05 fun p s => ((s.errorRecovery p .errorRecovery).wait d 0x05 (some p) .vsafe0v).hostEvent p d)
  else ok s
/-- PORT_HARD_RESET (R117, R332). -/
def execPortHardReset (d : Desc) (s : State) : Out :=
  if s.hostTakes d then
    ok (s.startPort d 0x06 fun p s =>
      match (s.port p).pol.state with
      | .detached | .typecOnly | .errorRecovery => s.cplNo d 0x06 .state
      | .hardReset => (s.wait d 0x06 (some p) .vsafe5v).hostEvent p d
      | _ => ((s.wait d 0x06 (some p) .vsafe5v).hardReset p .hardResetSent true).hostEvent p d)
  else ok s

/-! ### Messages (R127, R335, R336, R144) -/

/-- A raw PD message as it stands in a TX area or a descriptor: header, then data, of an extended message after its extended header
(R290, R335). -/
def rawMsg (dest : Sop) (bytes : List Byte) (amsStart amsEnd : Bool) (kind : CKind) (e : Expect) : TxMsg :=
  let h := BitVec.ofNat 16 (valLE (bytes.take 2))
  let data := bytes.drop 2
  { sop := dest, kind := kindOf h data, ext := hdrExt h, data := if hdrExt h then data.drop 2 else data, amsStart := amsStart,
    amsEnd := amsEnd, ckind := kind, expect := e, raw := some h,
    rawExt := if hdrExt h then some (BitVec.ofNat 16 (valLE (data.take 2))) else none }
def sopOf (n : Nat) : Sop := match n with | 0 => .sop | 1 => .sopP | _ => .sopPP
/-- PD_SEND, VDM_SEND and VCONN_SWAP_REQUEST start only in READY or READY_EPR with the TX buffer free and no sequence in progress (R127). -/
def State.mayMessage (s : State) (p : PortId) : Bool :=
  (s.port p).pol.isReady && (s.port p).txFree && (s.port p).pol.outq.isEmpty && (s.port p).pol.expect == .none
    && ! s.seqBusy p (ctlMsg .getStatus .none)
/-- The row waits while R331 finds nothing wrong and `may` does not hold. -/
def State.whenMay (s : State) (d : Desc) (may : PortId → Bool) (o : State) : Out :=
  match d.portId with
  | some p => if (s.descCheck d).isSome || s.portFenced p || (s.hostRoom p && may p) then ok o else ok s
  | none => ok o
/-- PD_SEND (R127, R335, R336): it completes at TX_OK, or with the reply it expects. -/
def execPdSend (d : Desc) (s : State) : Out :=
  s.whenMay d s.mayMessage (s.startPort d 0x10 fun p s =>
    let f := d.byte 9
    let reply := f / 4 % 2 == 1
    let bytes := (List.range (d.fld 10 2)).map fun k => BitVec.ofNat 8 (d.byte (16 + k))
    let m := rawMsg (sopOf (d.byte 8)) bytes (f % 2 == 1) (f / 2 % 2 == 1) .none (if reply then .hostReply else .hostOk)
    ((s.wait d 0x10 (some p) (if reply then .reply else .txOk)).send p m).hostEvent p d)
/-- VDM_SEND (R134, R144, R336). -/
def execVdmSend (d : Desc) (s : State) : Out :=
  let h := BitVec.ofNat 32 (d.fld 16 4)
  let vdos := (List.range (d.byte 10)).map fun k => BitVec.ofNat 32 (d.fld (20 + 4 * k) 4)
  let no := fun (p : PortId) (s : State) => vdmSvid h == rallySvid || (d.byte 8 != 0 && (s.port p).path.vconn == 0)
  s.whenMay d (fun p => no p s || (s.mayMessage p && (s.port p).rally.idle)) (s.startPort d 0x11 fun p s =>
    if no p s then s.cplNo d 0x11 .state
    else ((s.wait d 0x11 (some p) .vdmReply).sendVdm p (sopOf (d.byte 8)) .hostVdm h vdos).hostEvent p d)
/-- VCONN_SWAP_REQUEST (R120–R122, R127, R332). No give-away is sent to a partner that has refused one in this attach: the request completes
as that refusal did (DESIGN CHOICE, log entry 66). -/
def execVconnSwapRequest (d : Desc) (s : State) : Out :=
  let take := d.byte 8 == 1
  let held := fun (p : PortId) (s : State) => ((s.port p).path.vconn != 0) == take
  let refused := fun (p : PortId) (s : State) => ! take && (s.port p).pol.vcIncapable
  s.whenMay d (fun p => held p s || refused p s || s.mayMessage p) (s.startPort d 0x12 fun p s =>
    if held p s then s.cplNo d 0x12 .state
    else if refused p s then s.cplDesc d 0x12 .partnerReject 0 []
    else ((s.wait d 0x12 (some p) .swap).swapSend p take true).hostEvent p d)
/-- CABLE_DISCOVER (R138). -/
def execCableDiscover (d : Desc) (s : State) : Out :=
  s.whenMay d (fun _ => true) (s.startPort d 0x13 fun p s =>
    if (s.port p).cc.state != .attached || (s.port p).cc.partner != .sinkPoweredCable then s.cplNo d 0x13 .state
    else if (s.port p).pol.discRun then s.cplDesc d 0x13 .busy 0 []
    else
      let s1 := (s.modPol p fun q => { q with cable := .unknown, cableVid := 0#16, cablePid := 0#16, cableVdo := 0#32 }).wait d 0x13 (some p) .cable
      (s1.startCable p).hostEvent p d)

/-! ### Staging and the huddle (R239, R332, R355–R372) -/

/-- BUDGET_STAGE (R239, R358). -/
def execBudgetStage (d : Desc) (s : State) : Out :=
  ok (s.startDesc d 0x20 true fun s =>
    if s.sealed then s.cplDesc d 0x20 .busy 0 []
    else
      let a := if d.byte 16 % 2 == 1 then s.stageMask 0x1000 0xFFFFF#32 (BitVec.ofNat 32 (d.fld 8 4)) else s
      let b := if d.byte 16 / 2 % 2 == 1 then a.stageMask 0x1004 0xFFFFF#32 (BitVec.ofNat 32 (d.fld 12 4)) else a
      b.wait d 0x20 none .staged)
/-- CLASS_STAGE (R214, R239, R358). A FLOOR or CEILING that its field cannot hold is staged as the field's greatest value, which the huddle
rejects as R214 says. -/
def execClassStage (d : Desc) (s : State) : Out :=
  ok (s.startDesc d 0x21 true fun s =>
    if s.sealed then s.cplDesc d 0x21 .busy 0 []
    else
      let m := d.byte 14
      let part := fun k w : Nat => if m / 2 ^ k % 2 == 1 then w else 0
      let mask := packWord [(part 0 3, 30, 2), (part 3 0x3FF, 20, 10), (part 2 0x3FF, 10, 10), (part 1 0xFF, 0, 8)]
      let v := packWord [(d.byte 8, 30, 2), (min 1023 (d.fld 12 2), 20, 10), (min 1023 (d.fld 10 2), 10, 10), (d.byte 9, 0, 8)]
      let (s1, bad) := s.eachPort (s.targets d false) fun s p => (s.stageMask (ppOff p.val 0x44) mask v, .ok)
      let (c, data) := portsResult d bad
      s1.modLink fun k => { k with waiting := k.waiting ++ [{ (s1.waitingOf d 0x21 none .staged) with code := c, data := data }] })
/-- HUDDLE_FAIL of a check (R362). -/
def State.cplHuddle (s : State) (d : Desc) (op : Nat) (e : Nat × Word) : State := s.cplDesc d op .huddleFail e.1 (bytesLE 4 e.2.toNat)
/-- HUDDLE_CHECK (R360, R362). -/
def execHuddleCheck (d : Desc) (s : State) : Out :=
  ok (s.startDesc d 0x22 true fun s =>
    match s.hudCheck with
    | (s1, none) => s1.cplOk d 0x22
    | (s1, some e) => s1.cplHuddle d 0x22 e)
/-- An AT_TIME instant is less than 1 ms or more than 30 days ahead (R363). -/
def State.armTimeBad (s : State) (t : Nat) : Bool :=
  decide (t * 1000 < s.rtc * 1000 + 32768) || decide (t > s.rtc + 30 * 86400 * 32768)
/-- KICKOFF_ARM (R363): it completes when the kickoff has applied. -/
def execKickoffArm (d : Desc) (s : State) : Out :=
  ok (s.startDesc d 0x23 true fun s =>
    if d.byte 8 == 1 && s.armTimeBad (d.fld 16 8) then s.cplDesc d 0x23 .badField 0 (bytesLE 2 16)
    else if s.sealed then s.cplDesc d 0x23 .busy 0 []
    else if d.byte 8 == 2 && ! s.hud.join then s.cplNo d 0x23 .state
    else
      let (s1, e) := if s.hud.state == .staged then s.hudCheck else (s, none)
      match e with
      | some e => s1.cplHuddle d 0x23 e
      | none =>
        let src : KickSource := match d.byte 8 with | 0 => .nextBoundary | 1 => .atTime | _ => .kick
        (s1.hudArm src (if src == .atTime then s1.aon + (d.fld 16 8 - s1.rtc) else 0) (some d.tag) none).wait d 0x23 none .kickoff)
/-- HUDDLE_DISCARD (R365, R372). -/
def execHuddleDiscard (d : Desc) (s : State) : Out :=
  ok (s.startDesc d 0x24 true fun s => (s.hudDiscard).cplOk d 0x24)

/-! ### Measurement (R248–R254) -/

/-- SNAPSHOT (R254). -/
def execSnapshot (d : Desc) (s : State) : Out :=
  ok (s.startDesc d 0x30 true fun s =>
    if s.meas.snapBusy || s.meas.snapArmed then s.cplDesc d 0x30 .busy 0 []
    else
      let s1 := if d.byte 8 == 0 then s.snapLatch else { s with meas := { s.meas with snapArmed := true } }
      s1.wait d 0x30 none .snapshot)
def capTrigger (n : Nat) : CapTrigger :=
  match n with
  | 0 => .immediate | 1 => .trip | 2 => .vbAbove | 3 => .vbBelow | 4 => .ibAbove | 5 => .tableStart | _ => .kickoff
/-- CAPTURE_ARM (R249–R251); port 0xFFFF disarms every capture. -/
def execCaptureArm (d : Desc) (s : State) : Out :=
  ok (s.startDesc d 0x31 true fun s =>
    match d.portId with
    | none =>
      let armed := fun t : TileId => (s.tile t).cap.any fun c => c.phase != .writing
      let s1 := allTiles.foldl (fun s t => if armed t then s.modTile t fun q => { q with cap := none } else s) s
      (s1.finish (fun w => w.what == .capture && (w.port.any fun p => armed (tileOf p))) .cancelled 0 []).cplOk d 0x31
    | some p =>
      let t := s.tile (tileOf p)
      if t.cap.isSome then s.cplDesc d 0x31 .busy 0 []
      else if t.adcFaultA || t.adcFaultB then s.cplDesc d 0x31 .resource 0 []
      else
        let g := capTrigger (d.byte 11)
        (s.modTile (tileOf p) fun q =>
          { q with cap := some { port := p, chans := d.byte 8, rate := d.byte 9, len := d.byte 10, trigger := g, pre := d.byte 12,
                                 thresh := d.fld 14 2, phase := if g == .immediate then .running else .armed, left := [], written := 0, snaps := 0, snapsPre := 0 } }).wait
          d 0x31 (some p) .capture)
/-- TLM_CONFIG (R248, R332): it applies at the next record boundary, or at once to a port that forms no records, and completes when it has
been applied. -/
def execTlmConfig (d : Desc) (s : State) : Out :=
  ok (s.startDesc d 0x32 true fun s =>
    let l := s.targets d false
    let (s1, bad) := s.eachPort l fun s p =>
      let m := (s.port p).smp
      let m1 := if m.tlmRate == 0 then { m with tlmRate := d.byte 8, tlmRing := d.byte 9, tlmNext := none }
        else { m with tlmNext := some (d.byte 8, d.byte 9) }
      (s.modPort p fun q => { q with smp := m1 }, .ok)
    s1.waitPorts d 0x32 .tlm (l.filter fun p => (s1.port p).smp.tlmNext.isSome) bad)

/-! ### Tables (R82, R83, R170, R175, R193, R333) -/

/-- A load whose chain has ended is written by `f`, or completes BUSY. -/
def State.tableLoad (s : State) (n : Nat) (op : Nat) (f : State → Chain → State) : State :=
  match s.link.loads.find? fun c => c.ring == n && c.op.toNat == op with
  | none => s
  | some c =>
    let s1 := s.modLink fun l => { l with loads := l.loads.erase c }
    if c.busy then s1.cplChain c .busy [] else (f s1 c).cplChain c .ok []
/-- STEP_TABLE_LOAD (R170, R333): into all eight tiles, to be checked at the next HUDDLE_CHECK. -/
def execStepTableLoad (n : Fin 14) (s : State) : Out :=
  ok (s.tableLoad n.val 0x40 fun s c =>
    ((s.modCfg fun g => { g with stRam := setAt g.stRam (c.target - 16) ⟨c.entries, c.crc, false⟩ }).modHud fun h =>
      { h with newSteps := (List.range 32).filter fun k => k == c.target || h.newSteps.contains k }).hudTouch)
/-- MSG_TABLE_LOAD (R82, R83, R333): into the tiles of the mask. -/
def execMsgTableLoad (n : Fin 14) (s : State) : Out :=
  ok (s.tableLoad n.val 0x42 fun s c =>
    let hit := allTiles.filter fun t => c.target.testBit t.val
    ((hit.foldl (fun s t => s.modTile t fun q => { q with mtRam := c.entries, mtCrc := c.crc, mtValid := false }) s).modHud fun h =>
      { h with newMsgs := (List.range 8).filter fun k => c.target.testBit k || h.newMsgs.contains k }).hudTouch)
/-- BREAKER_CURVE_STAGE (R175, R193, R358). -/
def execBreakerCurveStage (d : Desc) (s : State) : Out :=
  ok (s.startDesc d 0x41 true fun s =>
    if s.sealed then s.cplDesc d 0x41 .busy 0 []
    else (s.stageCurve (d.byte 8) ((List.range 8).map fun k => (d.byte (16 + 4 * k), d.fld (18 + 4 * k) 2))).cplOk d 0x41)

/-! ### Parameters (R129, R352) -/

/-- The bits of EVT_ENABLE that always read 1 (R352): safety events, SUMMARY and HOSTLINK_STALL. -/
def evtAlways : Nat := [0x05, 0x07, 0x08, 0x09, 0x0A, 0x0C, 0x0E, 0x0F, 0x10, 0x12, 0x13].foldl (fun a k => a + 2 ^ k) 0
/-- A parameter is set; one at its default is not kept. -/
def State.setParam (s : State) (n : Nat) (v : Word) : State :=
  let w := if n == 0xA006 then v ||| BitVec.ofNat 32 evtAlways else v
  let l := s.cfg.params
  let l1 := if paramDefault n == some w.toNat && n != 0x8001 then l.filter (·.1 != n) else insertParam l n w
  s.modCfg fun c => { c with params := l1 }
/-- PARAM_SET (R129, R130, R157, R352): PARAM_CHANGE is queued to every port; a port that Rally is disabled for leaves it at its next NOTICE. -/
def execParamSet (d : Desc) (s : State) : Out :=
  ok (s.startDesc d 0x50 true fun s =>
    let n := d.fld 8 2
    let s0 := s.setParam n (BitVec.ofNat 32 (d.fld 12 4))
    -- a PROFILE word may raise a demand (R106, R228)
    let s1 := allPorts.foldl (fun a p => a.demandRose p (s.demandOf p)) s0
    let s2 := allPorts.foldl (fun s p => s.queueHk p 6 (BitVec.ofNat 32 n)) s1
    (s2.drainBacklog 66).cplOk d 0x50)
/-- PARAM_GET (R129, R352); a reserved index reads 0, and the ID Header of R142 is that of the VID in force. -/
def execParamGet (d : Desc) (s : State) : Out :=
  ok (s.startDesc d 0x51 true fun s =>
    let n := d.fld 8 2
    s.cplDesc d 0x51 .ok 0 (bytesLE 4 (if n == 0x8001 then s.idHeader.toNat else s.param n)))

/-! ### Contexts and host pages (R297, R312, R318, R332) -/

/-- The memory and the offset at which a port's context is authoritative (R297). -/
def State.ctxBytes (s : State) (p : PortId) : List Byte :=
  match (s.port p).sc.bench with
  | some k => Memory.reads s.cores.bench (k.val * 0x10000 + (s.port p).sc.slot * 0x1000) 0x1000
  | none => Memory.reads s.cores.roster (ctxAt p) 0x1000
/-- A context page is written to host memory (R318). -/
def State.exportTo (s : State) (p : PortId) (addr : Nat) : State :=
  s.modLink fun l => { l with dma := some (BitVec.ofNat 64 addr, s.ctxBytes p) }
/-- Exports that waited for the port's dispatch or transfer to end (R318). -/
def State.exportDue (s : State) (p : PortId) : State :=
  if (s.port p).sc.running.isSome || (s.port p).sc.deep then s
  else
    let due := s.link.waiting.filter fun w => w.port == some p && w.what == .ctxOut
    (due.foldl (fun s w => s.exportTo p (valLE w.data)) s).finishPort p .ctxOut .ok []
/-- CTX_EXPORT (R318, R332). -/
def execCtxExport (d : Desc) (s : State) : Out :=
  ok (s.startPort d 0x52 fun p s =>
    (s.modLink fun k => { k with waiting := k.waiting ++ [{ (s.waitingOf d 0x52 (some p) .ctxOut) with data := bytesLE 8 (d.fld 8 8) }] }).exportDue p)
def insertPage (l : List (Nat × BitVec 64)) (n : Nat) (a : BitVec 64) : List (Nat × BitVec 64) :=
  match l with
  | [] => [(n, a)]
  | e :: r => if n < e.1 then (n, a) :: e :: r else if n == e.1 then (n, a) :: r else e :: insertPage r n a
/-- HOST_PAGES BIND (R312). -/
def execHostPagesBind (d : Desc) (s : State) : Out :=
  ok (s.startDesc d 0x53 (d.byte 8 == 1) fun s =>
    let l1 := (List.range (d.byte 12)).foldl
      (fun m k => insertPage m (d.fld 10 2 + k) (BitVec.ofNat 64 (d.fld (16 + 8 * k) 8))) s.link.pages
    (s.modLink fun l => { l with pages := l1 }).cplOk d 0x53)
/-- DEEP_REQ as it stands at the head of a port's context (R298, R313). -/
def State.deepReq (s : State) (p : PortId) : Word := BitVec.ofNat 32 (valLE ((s.ctxBytes p).take 4))
/-- Deep-roster indices that a request names: its store and its load block (R312, R313). -/
def deepIndices (p : PortId) (w : Word) : List Nat :=
  (if bit w 30 then [p.val * 16 + bits w 8 6 / 4] else []) ++ (if bit w 29 then [p.val * 16 + bits w 0 6 / 4] else [])
/-- Withdrawals whose indices no transfer names any more are carried out (R332). -/
def State.pagesDue (s : State) : State :=
  let free := fun w : Waiting =>
    let lo := valLE (w.data.take 2)
    let n := valLE (w.data.drop 2)
    ! allPorts.any fun p => (s.port p).sc.deep && (deepIndices p (s.deepReq p)).any fun k => decide (lo ≤ k) && decide (k < lo + n)
  let due := s.link.waiting.filter fun w => w.what == .pages && free w
  let gone := fun e : Nat × BitVec 64 =>
    due.any fun w => decide (valLE (w.data.take 2) ≤ e.1) && decide (e.1 < valLE (w.data.take 2) + valLE (w.data.drop 2))
  let s1 := s.modLink fun l => { l with pages := l.pages.filter fun e => ! gone e }
  s1.finish (fun w => w.what == .pages && free w) .ok 0 []
/-- HOST_PAGES WITHDRAW (R312, R332): it waits for transfers outstanding on its indices. -/
def execHostPagesWithdraw (d : Desc) (s : State) : Out :=
  ok (s.startDesc d 0x53 (d.byte 8 == 2) fun s =>
    (s.modLink fun k => { k with waiting := k.waiting ++
      [{ (s.waitingOf d 0x53 none .pages) with data := bytesLE 2 (d.fld 10 2) ++ bytesLE 1 (d.byte 12) }] }).pagesDue)

/-! ### Sessions over PCIe (R351, R444–R448) -/

/-- The key of the first TECH password (R448). -/
def State.isFirstTech (s : State) (k : List Byte) : Bool :=
  match s.unitKey with
  | some uk => k == sha256 (saltOf uk .tech ++ Config.techPassword uk)
  | none => false
/-- Keys that a PASSWORD_SET left to the next SESSION_OPEN take effect; setting the first TECH password again leaves the first key (R448). -/
def State.takeKeys (s : State) : State :=
  s.modSvc fun v => { v with techKey := match v.pwNext with | some k => if s.isFirstTech k then none else some k | none => v.techKey,
                             viewKey := v.pwNextView.or v.viewKey, pwNext := none, pwNextView := none }
def nextSession (n : Nat) : Nat := n % 255 + 1
/-- SESSION_OPEN (R351, R434, R445, R447). -/
def execSessionOpen (d : Desc) (s : State) : Out :=
  ok (s.startDesc d 0x60 true fun s =>
    if s.link.sess != 0 then s.cplDesc d 0x60 .busy 0 []
    else match s.unitKey, levelOf (d.byte 8) with
      | some uk, some l =>
        if s.lockSecs != 0 then s.cplDesc d 0x60 .notPermitted NpReason.lockedOut.num (bytesLE 2 s.lockSecs)
        else
          let (c, s1) := s.takeKeys.newChallenge
          let n := s1.link.nextSess
          let addr := d.fld 16 8
          let s2 := s1.modLink fun k =>
            { k with sess := n, nextSess := nextSession n, sessReq := l, level := .none, unlocked := false, challenge := c, openAt := s.aon,
                     dma := if addr == 0 then k.dma else some (BitVec.ofNat 64 addr, chalBytes c ++ saltOf uk l) }
          s2.cplDesc d 0x60 .ok n (chalBytes c)
      | _, _ => s.cplNo d 0x60 .state)
/-- SESSION_PROVE (R351, R446): a proof that fails or comes more than 60 s after its SESSION_OPEN closes the session. -/
def execSessionProve (d : Desc) (s : State) : Out :=
  ok (s.startDesc d 0x61 true fun s =>
    let k := s.link
    let proof := (List.range 32).map fun i => BitVec.ofNat 8 (d.byte (32 + i))
    if k.sess == 0 || d.byte 8 != k.sess then s.cplDesc d 0x61 .badField 0 (bytesLE 2 8)
    else if s.aon - k.openAt > secCycles 60 || ! s.proofOk k.sessReq k.challenge k.sess proof then
      s.hostClose.proofFailed.cplNo d 0x61 .proofFail
    else if k.sessReq == .tech && s.pwDue then s.hostClose.lockClear.cplNo d 0x61 .passwordChangeDue
    else (s.lockClear.modLink fun l => { l with level := l.sessReq }).cplOk d 0x61)
/-- SESSION_CLOSE (R351). -/
def execSessionClose (d : Desc) (s : State) : Out :=
  ok (s.startDesc d 0x62 true fun s =>
    if s.link.sess == 0 then s.cplNo d 0x62 .noSession
    else if d.byte 8 != s.link.sess then s.cplDesc d 0x62 .badField 0 (bytesLE 2 8)
    else s.hostClose.cplOk d 0x62)
/-- EXPERT_UNLOCK of either value (R351). -/
def State.hostUnlock (s : State) (d : Desc) (on : Bool) : State :=
  if ! s.link.level.isTech then s.cplNo d 0x63 s.hostReason else (s.modLink fun l => { l with unlocked := on }).cplOk d 0x63
/-- EXPERT_UNLOCK with 0x01 (R351). -/
def execExpertUnlock (d : Desc) (s : State) : Out := ok (s.startDesc d 0x63 (d.byte 8 == 1) fun s => s.hostUnlock d true)
/-- EXPERT_UNLOCK with 0x00 (R351). -/
def execExpertRelock (d : Desc) (s : State) : Out := ok (s.startDesc d 0x63 (d.byte 8 == 0) fun s => s.hostUnlock d false)
/-- HOST_SESSION_TIMEOUT (R351): 15 min without a descriptor marked X or a session descriptor. -/
def execHostSessionTimeout (s : State) : Out :=
  if s.link.sess == 0 || decide (s.aon - s.link.sessAt < secCycles 900) then ok s else ok s.hostClose

/-! ### Feeds (R198, R205–R207) -/

def feedOf (n : Nat) : FeedId := if n == 0 then .fda else .fdb
/-- FEED_CONTROL ENABLE (R198, R205, R207). -/
def execFeedEnable (d : Desc) (s : State) : Out :=
  ok (s.startDesc d 0x70 (d.byte 9 == 1) fun s =>
    let f := feedOf (d.byte 8)
    let q := s.feed f
    let stuck := q.state == .disabled && q.cause == .stuckBank
    if s.ref.safe then s.cplDesc d 0x70 .safetyBlock 0 []
    else if q.rated == 0 || q.shunt == 0 then s.cplNo d 0x70 .state
    else if stuck && ! q.offOk then s.cplDesc d 0x70 .safetyBlock 0 []
    else
      let s1 := s.modFeed f fun q => { q with enabled := true, cause := if stuck then .none else q.cause }
      ((s1.wait d 0x70 none (.feedReady f)).feedQualify f).feedWaits f)
/-- FEED_CONTROL DISABLE (R206, R207, R209): a bank that is closed or opening is confirmed off first. The incoming feed of a changeover
in progress is left; the outgoing one is disabled and the descriptor completes when the changeover ends. -/
def execFeedDisable (d : Desc) (s : State) : Out :=
  ok (s.startDesc d 0x70 (d.byte 9 == 2) fun s =>
    let f := feedOf (d.byte 8)
    let off := fun (a : FeedState) (q : Feed) => { (q.open a) with enabled := false, due := none, cause := .hostDisable }
    if s.ref.safe || s.board.changeover.map Prod.fst == some f then s.cplDesc d 0x70 .safetyBlock 0 []
    else if s.board.changeover.isSome then
      (s.modFeed f fun q => if q.state.busy then off .disabled q
        else { q with enabled := false, state := .disabled, due := none }).wait d 0x70 none (.feedOff f)
    else match (s.feed f).state with
      | .active =>
        if (s.feed f.other).state == .standby && ! s.feedStuck then
          ((s.modFeed f (off .disabled)).modBoard fun b => { b with changeover := some (f.other, .hostDisable), returnRun := false }).wait
            d 0x70 none (.feedOff f)
        else s.cplDesc d 0x70 .safetyBlock 0 []
      | .inrush =>
        (s.modFeed f (off .disabled)).noFeed.wait d 0x70 none (.feedOff f)
      | .opening => (s.modFeed f fun q => { q with enabled := false, after := .disabled, due := none }).wait d 0x70 none (.feedOff f)
      | _ => (((s.modFeed f fun q => { q with enabled := false, state := .disabled, due := none }).modBoard fun b =>
          { b with returnRun := b.returnRun && f == .fdb }).feedSelect).cplOk d 0x70)
/-- FEED_CONTROL CLEAR_RETRY (R205). -/
def execFeedClearRetry (d : Desc) (s : State) : Out :=
  ok (s.startDesc d 0x70 (d.byte 9 == 3) fun s =>
    let f := feedOf (d.byte 8)
    ((s.modFeed f Feed.clearRetry).feedQualify f).cplOk d 0x70)
/-- An ENABLE that its feed has not answered within 10 s completes TIMEOUT, the feed left enabled (R205); counted in AON cycles. -/
def State.feedTimeouts (s : State) : State :=
  s.finish (fun w => (w.what == .feedReady .fda || w.what == .feedReady .fdb) && decide (s.aon ≥ w.since + secCycles 10)) .timeout 0 []

/-! ### Time -/

/-- RTC_SET (R332, R354). -/
def execRtcSet (d : Desc) (s : State) : Out :=
  ok (s.startDesc d 0x71 true fun s =>
    if s.upd.armed == some .atTime then s.cplDesc d 0x71 .busy 0 []
    else ({ s with rtc := d.fld 8 8 % 2 ^ 63 }).cplOk d 0x71)

end Sys2Proof.Machine
end

