-- ==== Sys2Proof/Machine/Operands.lean ====
section
/-! DEFINITION. The Miloir move: its three forms, the unit ports and their kinds, the guards, the segments, and reading
and writing every unit port that is no trigger (R268–R284). -/
namespace Sys2Proof.Machine

/-! ### Move formats (R269–R271) -/

/-- The source of a move. -/
inductive MvSrc | imm (v : Word) | port (n : Nat)
deriving DecidableEq, Repr, Inhabited

/-- A decoded move: source, destination port, and guard index and invert bit (none for a long immediate). -/
structure Mv where
  src : MvSrc
  dst : Nat
  guard : Option (Nat × Bool)
deriving DecidableEq, Repr, Inhabited

/-- Decoding of a move word; none where R271 raises ILLEGAL. -/
def decodeMove (w : Word) : Option Mv :=
  let g := some (bits w 27 3, bit w 26)
  match bits w 30 2 with
  | 0 => if bits w 24 2 != 0 then none else some ⟨.port (bits w 12 12), bits w 0 12, g⟩
  | 1 => some ⟨.imm ((BitVec.ofNat 14 (bits w 12 14)).signExtend 32), bits w 0 12, g⟩
  | 2 => some ⟨.imm (BitVec.ofNat 32 (bits w 12 18 * 2 ^ 14)), bits w 0 12, none⟩
  | _ => none

/-! ### Unit ports (R272–R274) -/

/-- Kinds of a unit port (R272): operand, trigger, result, register. -/
inductive PortKind | o | t | r | rw
deriving DecidableEq, Repr, Inhabited

/-- The kind of an implemented port (R273); none for an unimplemented one. -/
def portKind (a : Nat) : Option PortKind :=
  let n := a % 256
  let isIn := fun lo hi : Nat => decide (lo ≤ n) && decide (n ≤ hi)
  match a / 256 with
  | 0x0 => if n == 0 then some .o else if n == 1 || n == 2 then some .r else if isIn 0x10 0x1D then some .t else none
  | 0x1 => if n == 0 then some .o else if n == 1 || n == 2 then some .r else if isIn 0x10 0x13 then some .t else none
  | 0x2 => if n == 0 || n == 1 then some .o else if n == 2 then some .r
           else if isIn 0x10 0x14 || isIn 0x18 0x1A || n == 0x1C then some .t else none
  | 0x3 => if n == 0 then some .r else if n == 1 then some .rw else if isIn 0x10 0x13 then some .t else none
  | 0x4 => if n == 0 then some .r else if isIn 1 8 then some .rw else none
  | 0x5 => if isIn 0 0x1F then some .rw else none
  | 0x6 => if n == 0 then some .o else if isIn 1 3 then some .r else if isIn 0x10 0x12 then some .t else none
  | 0x7 => if isIn 0 3 then some .r else if n == 4 then some .o else if n == 5 then some .r else if isIn 8 0xF then some .o
           else if isIn 0x10 0x13 then some .t else none
  | 0x8 => if n == 0 then some .r else if n == 1 then some .o else if n == 2 then some .r
           else if n == 0x10 || n == 0x12 || n == 0x13 then some .t else none
  | 0x9 => if n == 0 then some .r else if isIn 0x10 0x12 then some .t else none
  | 0xA => if isIn 0 0x17 then some .r else none
  | 0xB => if n == 0 then some .r else if n == 1 then some .o else if n == 2 || n == 3 then some .r else if n == 0x10 then some .t else none
  | _ => none

/-- The fault of the decode and port checks: cause and sub-cause (R271, R274). -/
def moveFault (w : Word) : Option (CtxCause × Nat) :=
  match decodeMove w with
  | none => some (.illegal, 0)
  | some m =>
    let srcOk := match m.src with
      | .imm _ => true
      | .port n => portKind n == some .r || portKind n == some .rw
    if ! srcOk then some (.port, 1)
    else if portKind m.dst == none || portKind m.dst == some .r then some (.port, 2)
    else none

/-- A guard lets its move execute (R278). -/
def Core.guardOk (c : Core) (g : Option (Nat × Bool)) : Bool :=
  match g with
  | none => true
  | some (i, inv) => (i == 0 || c.g.getLsbD i) != inv

/-! ### Segments (R282, R283) -/

/-- The memory a segment lies in. -/
inductive SegMem | code | bench | roster | regs | rom
deriving DecidableEq, Repr, Inhabited

/-- A segment: its memory, base and limit, and the rights R, W and X. -/
structure Seg where
  mem : SegMem
  base : Nat
  limit : Nat
  r : Bool
  w : Bool
  x : Bool
deriving DecidableEq, Repr, Inhabited

/-- Base in its bench memory of the slot that holds a port's context. -/
def State.slotBase (s : State) (k : CoreId) (p : Option PortId) : Nat :=
  k.val * 0x10000 + (match p with | some p => (s.port p).sc.slot * 0x1000 | none => 0)

/-- The eight segments as a core sees them (R282); S3 and S5 are those of the port dispatched. -/
def State.seg (s : State) (k : CoreId) (n : Nat) : Seg :=
  let h := s.upd.runHead
  let slot := s.slotBase k (s.coreAt k).port
  match n with
  | 0 => ⟨.code, 0, headAt h 0x54 4, false, false, true⟩
  | 1 => ⟨.code, headAt h (0x60 + 8 * k.val) 4, headAt h (0x64 + 8 * k.val) 4, true, true, false⟩
  | 2 => ⟨.code, headAt h (0x80 + 8 * k.val) 4, headAt h (0x84 + 8 * k.val) 4, true, true, false⟩
  | 3 => ⟨.bench, slot, 0x1000, true, true, false⟩
  | 4 => ⟨.roster, 0xC0000, headAt h 0x5C 4, true, true, false⟩
  | 5 => ⟨.bench, slot + 0xC00, 0x400, true, true, false⟩
  | 6 => ⟨.regs, 0, 0x10000, true, false, false⟩
  | _ => ⟨.rom, Config.romBase, Config.romLimit, true, false, false⟩

/-- Code of a memory in REF_ECC_ADDR (R391); 0 for one without ECC. -/
def SegMem.ecc (m : SegMem) (k : CoreId) : Nat :=
  match m with | .code => 1 | .roster => 2 | .bench => 3 + k.val | _ => 0
/-- Byte offset within its memory, as REF_ECC_ADDR counts it. -/
def eccOff (m : SegMem) (a : Nat) : Nat := match m with | .bench => a % 0x10000 | _ => a
/-- A word that the access touches is poisoned: its memory and offset (R386). -/
def State.poisoned (s : State) (k : CoreId) (m : SegMem) (a n : Nat) : Option (Nat × Nat) :=
  s.ref.poison.find? fun e => e.1 != 0 && eccHit (m.ecc k) (eccOff m a) n e
/-- An access corrects the single-bit errors it meets (R296, R386). -/
def State.accessFix (s : State) (k : CoreId) (m : SegMem) (a n : Nat) : State := s.softFix (m.ecc k) (eccOff m a) n

/-- A byte of the message area that always reads 0 (R290); `a` is an offset in the context page. -/
def pageHole (a : Nat) : Bool := a == 0xC00 || a == 0xC01 || a == 0xE00 || a == 0xE01
/-- A byte of the context page that ignores stores: those holes, and DEEP_STAT, which is read-only (R290, R313). -/
def pageFixed (a : Nat) : Bool := pageHole a || (4 ≤ a && a < 8)
/-- Bytes of a memory from an address on. -/
def State.memReads (s : State) (m : SegMem) (a n : Nat) : List Byte :=
  match m with
  | .code => Memory.reads s.cores.code a n
  | .roster => Memory.reads s.cores.roster a n
  | .bench => (List.range n).map fun i => if pageHole ((a + i) % 0x1000) then 0#8 else Memory.read s.cores.bench (a + i)
  | .rom => (List.range n).map fun i => Config.romByte (a + i)
  | .regs => List.replicate n 0#8
/-- Bytes are stored into a memory; the holes of R290 and DEEP_STAT ignore theirs. -/
def State.memWrites (s : State) (m : SegMem) (a : Nat) (l : List Byte) : State :=
  match m with
  | .code => s.modCores fun c => { c with code := Memory.writes c.code a l }
  | .roster => s.modCores fun c => { c with roster := Memory.writes c.roster a l }
  | .bench => s.modCores fun c =>
    { c with bench := (l.zipIdx).foldl (fun m e => if pageFixed ((a + e.2) % 0x1000) then m else Memory.write m (a + e.2) e.1) c.bench }
  | _ => s

/-- SEG sub-causes (R283). -/
def subRights : Nat := 1
def subAlign : Nat := 2
def subLimit : Nat := 3
def subStack : Nat := 4

/-- The sub-cause of an LSU access that fails: offset, width, whether it stores, whether it is AADD (R283). -/
def State.accessFault (s : State) (k : CoreId) (n off width : Nat) (store aadd : Bool) : Option Nat :=
  let g := s.seg k n
  if (if store then ! g.w else ! g.r) || (aadd && n != 4) || (n == 6 && width != 4) then some subRights
  else if off % width != 0 then some subAlign
  else if off + width > g.limit then some subLimit
  else none
/-- The sub-cause of a code target that fails (R281). -/
def State.targetFault (s : State) (k : CoreId) (t : Nat) : Option Nat :=
  if t % 4 != 0 then some subAlign else if t + 4 > (s.seg k 0).limit then some subLimit else none

/-! ### Reading and writing unit ports (R273, R278) -/

/-- MSG.RXINFO for a delivered message and the reply given in hold (R290). -/
def rxInfoOf (m : Msg) (hold : Nat) : Word :=
  let sop := match m.sop with | .sopP => 1 | .sopPP => 2 | _ => 0
  packWord [(1, 31, 1), (hold, 28, 3), (sop, 24, 2), (m.data.length + 2, 0, 9)]
/-- What is left of a timer, in its unit, by the hub time base (R273 TMR.REM, R288). -/
def State.timerLeft (s : State) (t : PortTimer) : Nat := t.count - (s.hub - t.start) / (if t.ms then 512000 else 512)

/-- What a port reads, and what the read does: only TMR.RTC_LO latches (R273). -/
def State.readPort (s : State) (k : CoreId) (a : Nat) : Word × State :=
  let c := s.coreAt k
  let w := fun n : Nat => BitVec.ofNat 32 n
  let v : Word :=
    match a with
    | 0x001 => c.aluR
    | 0x002 => c.aluF.setWidth 32
    | 0x101 => c.mulLo
    | 0x102 => c.mulHi
    | 0x202 => c.lsuR
    | 0x300 => w c.pc
    | 0x301 => w c.sp
    | 0x408 => (c.g.setWidth 32) ||| 1#32
    | 0x601 =>
      match c.port with
      | some p => match ((s.port p).sc.timers[c.tmrSel]?).getD none with
        | some t => w (s.timerLeft t)
        | none => 0#32
      | none => 0#32
    | 0x602 => w s.rtc
    | 0x603 => c.rtcHi
    | 0x700 => w ((c.port.map (·.val)).getD 0)
    | 0x701 => c.evCode
    | 0x702 => c.evData
    | 0x703 => w ((c.port.map fun p => (s.port p).sc.q.length).getD 0)
    | 0x705 => c.evS
    | 0x800 => c.rxInfo
    | 0x802 => c.msgS
    | 0x900 => ~~~ c.crc
    | 0xB02 => w k.val
    | 0xB03 => w c.moves
    | _ =>
      let n := a % 256
      if a / 256 == 0x4 then (if n == 0 || c.g.getLsbD n then 1#32 else 0#32)
      else if a / 256 == 0x5 then (c.x[n]?).getD 0#32
      else if a / 256 == 0xA then
        let g := s.seg k (n % 8)
        if n < 8 then w g.base else if n < 16 then w g.limit else packWord [(b2n g.x, 2, 1), (b2n g.w, 1, 1), (b2n g.r, 0, 1)]
      else 0#32
  (v, if a == 0x602 then s.modCore k fun c => { c with rtcHi := w (s.rtc / 2 ^ 32 % 2 ^ 31) } else s)

/-- A port that is no trigger is written; BR.SP faults STACK where R281 says (none). -/
def State.writePort (s : State) (k : CoreId) (a : Nat) (v : Word) : Option State :=
  let md := fun f : Core → Core => some (s.modCore k f)
  let n := a % 256
  match a with
  | 0x000 => md fun c => { c with aluA := v }
  | 0x100 => md fun c => { c with mulA := v }
  | 0x200 => md fun c => { c with seg := v.toNat % 8 }
  | 0x201 => md fun c => { c with lsuD := v }
  | 0x301 => if v.toNat % 4 != 0 || decide (v.toNat > (s.seg k 2).limit) then none else md fun c => { c with sp := v.toNat }
  | 0x408 => md fun c => { c with g := (v.setWidth 8) ||| 1#8 }
  | 0x600 => md fun c => { c with tmrSel := v.toNat % 8 }
  | 0x704 => md fun c => { c with evTo := v }
  | 0x801 => md fun c => { c with txFlags := v }
  | _ =>
    if a / 256 == 0x4 then md fun c => { c with g := setBit c.g n (v != 0#32) }
    else if a / 256 == 0x5 then md fun c => { c with x := c.x.set n v }
    else if a / 256 == 0x7 && 8 ≤ n && n < 16 then md fun c => { c with hw := c.hw.set (n - 8) v }
    else some s

end Sys2Proof.Machine
end

