-- ==== Sys2Proof/Machine/Scheduler.lean ====
section
/-! DEFINITION. The event scheduler and the pager: start and end of a dispatch, context faults, choosing the next
dispatch, benches, and the deep roster (R279, R292–R318). -/
namespace Sys2Proof.Machine

/-! ### Start and end of a dispatch (R279, R280, R306, R308) -/

/-- A core made a heartbeat report (R311). -/
def State.heartbeat (s : State) (k : CoreId) : State := s.modRef fun r => { r with hb := r.hb.set k.val s.aon }
/-- A core is free again; its port is no longer in a dispatch, its slot retained or not (R280, R308). -/
def State.freeCore (s : State) (k : CoreId) (p : PortId) (retain : Bool) : State :=
  ((s.modCore k fun c => { c with state := .idle, port := none, moves := 0 }).modSc p fun c =>
    { c with running := none, retain := retain }).heartbeat k

/-- A context fault: latched, counted and posted, the core freed, the context quarantined (R292–R295). -/
def State.ctxFault (s : State) (k : CoreId) (p : PortId) (cause : CtxCause) (sub off : Nat) (word : Word) (trap : BitVec 16) : State :=
  let s1 := s.modCores fun c =>
    { c with faultCnt := c.faultCnt.inc32, fCause := cause.num, fSub := sub, fCore := k.val, fPort := p.val, fOff := off, fWord := word }
  let s2 := s1.modUpd fun u => { u with bad := u.bad || (u.trial && cause != .overrun) }
  s2.quarantine p (.ctxFault cause sub k.val off word trap)
/-- A fault ends the dispatch of a core at a move (R292–R294). -/
def State.dispatchFault (s : State) (k : CoreId) (cause : CtxCause) (sub off : Nat) (word : Word) (trap : BitVec 16) : State :=
  match (s.coreAt k).port with
  | some p => (((s.freeCore k p false).ctxFault k p cause sub off word trap).setPin s.pinPlaces p).exportDue p
  | none => s
/-- An uncorrectable error while a context is paged: an ECC context fault of the port; no move is concerned, so offset and
word are free values (R310). -/
def State.pagingFault (s : State) (k : CoreId) (p : PortId) (mem off : Nat) : State :=
  let (o, s1) := (s.eccError mem off).freeWord
  let (w, s2) := s1.freeWord
  (((s2.ctxFault k p .ecc 0 o.toNat w 0#16).dropSlot p).exportDue p).pagesDue

/-! ### Deep roster (R312–R314) -/

/-- Four bytes of a port's context page are written where the page is authoritative (R297). -/
def State.pageWrite (s : State) (p : PortId) (off : Nat) (l : List Byte) : State :=
  match (s.port p).sc.bench with
  | some k => (s.modCores fun c => { c with bench := Memory.writes c.bench (k.val * 0x10000 + (s.port p).sc.slot * 0x1000 + off) l }).modSc p
      fun c => { c with dirty := true }
  | none => s.modCores fun c => { c with roster := Memory.writes c.roster (ctxAt p + off) l }
/-- A transfer ends with its outcome: DEEP_STAT is written and DEEP_DONE queued (R314). -/
def State.deepDone (s : State) (p : PortId) (outcome : Nat) : State :=
  let s1 := (s.pageWrite p 4 (bytesLE 4 outcome)).modSc p fun c => { c with deep := false }
  ((s1.queueHk p 2 (BitVec.ofNat 32 outcome)).exportDue p).pagesDue
/-- The host link takes transfers (R314). -/
def State.deepUp (s : State) : Bool := s.link.trained && ! s.hostFenced
/-- DEEP_REQ is taken when the port's dispatch ends (R313, R314). -/
def State.takeDeep (s : State) (p : PortId) : State :=
  let w := s.deepReq p
  if ! bit w 31 then s
  else
    let s1 := s.pageWrite p 0 (bytesLE 4 (w.toNat % 2 ^ 31))
    if ! bit w 30 && ! bit w 29 then s1.deepDone p 3
    else if ! s.deepUp then s1.deepDone p 2
    else if (deepIndices p w).any fun n => ! s.link.pages.any fun e => e.1 == n then s1.deepDone p 1
    else s1.modSc p fun c => { c with deep := true }

/-- DEEP_TRANSFER_DONE (R314): a good transfer stores the window at its block and then loads it; `data` is the block read. -/
def execDeepTransferDone (p : Fin 192) (good : Bool) (data : List Byte) (s : State) : Out :=
  let w := s.deepReq p
  let page := fun n : Nat => ((s.link.pages.find? fun e => e.1 == n).map Prod.snd).getD 0#64
  if ! (s.port p).sc.deep then ok s
  else if ! good || ! s.deepUp then ok (s.deepDone p 2)
  else
    let blk := bits w 8 6
    let s1 := if bit w 30 then
        s.modLink fun l => { l with dma := some (page (p.val * 16 + blk / 4) + BitVec.ofNat 64 (blk % 4 * 1024), ((s.ctxBytes p).drop 0x800).take 1024) }
      else s
    let s2 := if bit w 29 then s1.pageWrite p 0x800 ((List.range 1024).map fun i => (data[i]?).getD 0#8) else s1
    ok (s2.deepDone p 0)

/-! ### The end of a dispatch -/

/-- A dispatch ends by EVT.WAIT or by a forced yield (R280, R311): a resumed port leaves hold, DEEP_REQ is taken. -/
def State.endDispatch (s : State) (k : CoreId) (retain : Bool) : State :=
  let c := s.coreAt k
  match c.port with
  | none => s
  | some p =>
    let s1 := ((s.freeCore k p retain).setPin s.pinPlaces p).takeDeep p
    let s2 := if bits c.evCode 28 4 == 4 && bits c.evCode 16 8 == 3 then s1.resumeHold p else s1
    s2.exportDue p

/-- OVERRUN (R311): the core has used 50,000 moves and its dispatch has not ended. -/
def execOverrun (k : Fin 4) (s : State) : Out :=
  let c := s.coreAt k
  match c.port with
  | none => ok s
  | some p =>
    if c.state != .run || decide (c.moves < s.param 0xB004) then ok s
    else
      let s1 := s.modCores fun g =>
        { g with overrun := g.overrun.inc32, faultCnt := g.faultCnt.inc32, fCause := CtxCause.overrun.num, fSub := 0, fCore := k.val,
                 fPort := p.val, fOff := c.lastPc, fWord := c.lastWord }
      let s2 := (s1.endDispatch k false).postEvt (some p) (.ctxFault .overrun 0 k.val c.lastPc c.lastWord 0#16)
      ok (s2.queueFault p 9 (BitVec.ofNat 32 c.lastPc))

/-! ### Choosing an event (R301, R304) -/

def QClass.num : QClass → Nat
  | .fault => 0 | .timer => 1 | .message => 2 | .host => 3 | .housekeeping => 4
/-- The first event of a queue by class order, then arrival (R301). -/
def classFirst (q : List QEv) : Option QEv :=
  (List.range 5).findSome? fun n => q.find? fun e => e.cls.num == n
/-- The event of a queue that is dispatched first: by R301, but DEEP_DONE goes before a DETACH that came during its transfer (R318; that
the port's rank stays that of the DETACH is a DESIGN CHOICE, log entry 69). -/
def firstEvent (q : List QEv) : Option QEv :=
  match classFirst q with
  | some e =>
    if e.cls == .fault && e.code == 2 then
      (q.find? fun d => d.cls == .housekeeping && d.code == 2 && decide (e.since < d.since)).or (some e)
    else some e
  | none => none
/-- Rank of an event: its class, one higher for each promotion, never above TIMER (R304). -/
def QEv.rank (e : QEv) : Nat := if e.cls == .fault then 0 else max 1 (e.cls.num - e.aged)
/-- FIRST_OFFER_BOOST applies: SIGNAL VSAFE5V_OK or ALLOC to a port in STARTUP (R304). -/
def State.boosted (s : State) (p : PortId) (e : QEv) : Bool :=
  s.param 0xB003 == 1 && e.cls == .message && e.rank == 2 && (s.port p).pol.state == .startup
    && ((e.code == 6 && e.data == 0#32) || e.code == 7)
/-- Key that orders the ready ports, least first (R304): rank, boost, age. -/
def State.readyKey (s : State) (p : PortId) : Nat × Nat :=
  match classFirst (s.port p).sc.q with
  | some e => (2 * e.rank + b2n (! s.boosted p e), e.since)
  | none => (16, 0)
def keyBefore (a b : Nat × Nat) : Bool := decide (a.1 < b.1) || (a.1 == b.1 && decide (a.2 < b.2))
/-- Insertion behind every entry that comes before it or is equal. -/
def insertKey (l : List ((Nat × Nat) × PortId)) (e : (Nat × Nat) × PortId) : List ((Nat × Nat) × PortId) :=
  match l with
  | [] => [e]
  | x :: r => if keyBefore e.1 x.1 then e :: x :: r else x :: insertKey r e
def allCores : List CoreId := List.finRange 4
/-- The ready ports that no core has been given, highest rank first, ties to the lower number (R304). -/
def State.readyList (s : State) : List PortId :=
  let given := fun p : PortId => allCores.any fun k => (s.coreAt k).assign == some p
  ((allPorts.filter fun p => (s.port p).ready && ! given p).foldl (fun l p => insertKey l (s.readyKey p, p)) []).map Prod.snd

/-- AGE_PROMOTION (R304, R316): an event of the port has waited a further AGE_PROMOTE, and ranks one class higher. -/
def execAgePromotion (p : Fin 192) (i : Fin 16) (s : State) : Out :=
  match (s.port p).sc.q[i.val]? with
  | some e =>
    if msCycles (s.param 0xB000 * (e.aged + 1)) ≤ s.aon - e.born then
      ok (s.modSc p fun c => { c with q := c.q.modify i.val fun e => { e with aged := e.aged + 1 } })
    else ok s
  | none => ok s

/-! ### Starting a dispatch (R279, R299, R303) -/

/-- The 64 bytes of a descriptor. -/
def Desc.bytes (d : Desc) : List Byte :=
  [d.op, d.flags] ++ bytesLE 2 d.tag.toNat ++ bytesLE 2 d.port.toNat ++ bytesLE 2 d.rsv.toNat ++
    (List.range 56).map fun k => BitVec.ofNat 8 (d.byte (k + 8))
/-- EVT.CODE of an event (R280, R300): the tag of a message is 0. -/
def QEv.evCode (e : QEv) : Word :=
  packWord [(e.cls.num, 28, 4), (e.code, 16, 8), (if e.cls == .message then 0 else e.tag.toNat, 0, 16)]
/-- The event is taken off its queue. -/
def State.takeEvent (s : State) (p : PortId) (e : QEv) : State := (s.modSc p fun c => { c with q := c.q.erase e }).refillQueue p
/-- A queue entry that cannot be read is discarded; a reception or a descriptor counts as dropped (R302, R386). -/
def State.loseEvent (s : State) (p : PortId) (e : QEv) : State :=
  let s1 := s.modSc p fun c => { c with q := c.q.erase e }
  match e.cls with
  | .fault => (s1.modSc p fun c => { c with faultMask := setBit c.faultMask e.code true }).refillQueue p
  | .message | .host => (s1.dropReport p).refillQueue p
  | _ => s1.refillQueue p

/-- A dispatch starts: the pager copies message or descriptor, the core starts at the image's entry (R279). `lat` is the
dispatch latency in µs (R315, R317). -/
def State.startDispatch (s : State) (p : PortId) (k : CoreId) (lat : Nat) : State :=
  match firstEvent (s.port p).sc.q with
  | none => s
  | some e =>
    let at8 := entryAt p ((s.port p).sc.q.idxOf e)
    match (s.poisonIn 8 at8 8).or (e.store.findSome? fun c => s.poisonIn 8 (cellAt c) 32) with
    | some off => ((s.eccError 8 off).unpoison 8 at8 8).loseEvent p e
    | none =>
      let s := e.store.foldl (fun s c => s.softFix 8 (cellAt c) 32) (s.softFix 8 at8 8)
      let slot := s.slotBase k (some p)
      let s1 := s.takeEvent p e
      let rx : List Byte := match e.msg with | some m => bytesLE 2 m.hdr.toNat ++ m.data | none => []
      let host : List Byte := match e.desc with | some d => d.bytes | none => []
      let s2 := (s1.memWrites .bench (slot + 0xC02) rx).memWrites .bench (slot + 0xF40) host
      let h := s.upd.runHead
      let s3 := s2.modCore k fun c =>
        { Core.reset with
          state := .run, port := some p, resv := c.resv, pc := headAt h 0x50 4, sp := (s.seg k 2).limit, evCode := e.evCode, evData := e.data,
          rxInfo := match e.msg with | some m => rxInfoOf m e.tag.toNat | none => 0#32 }
      let s4 := s3.modSc p fun c => { c with running := some k, used := s.cores.useNext, pinHeld := c.pinCore == some k }
      let s5 := s4.modCores fun c =>
        { c with disp := incs32 c.disp k.val, useNext := c.useNext + 1,
                 latFault := if e.cls == .fault then max c.latFault (min 0xFFFF lat) else c.latFault,
                 latMsg := if e.cls == .message then max c.latMsg (min 0xFFFF lat) else c.latMsg }
      s5.modUpd fun u => { u with seen := setBit u.seen k.val true }

/-! ### Benches (R307–R310) -/

/-- Ports whose context a core's bench holds. -/
def State.residents (s : State) (k : CoreId) : List PortId := allPorts.filter fun p => (s.port p).sc.bench == some k
/-- A slot in use by a running dispatch or a reservation (R308). -/
def State.slotInUse (s : State) (p : PortId) : Bool :=
  (s.port p).sc.running.isSome || (s.port p).sc.resv.isSome || allCores.any fun k => (s.coreAt k).assign == some p
/-- The least recently used of some ports. -/
def State.lru (s : State) (l : List PortId) : Option PortId :=
  l.foldl (fun b p => match b with
    | some q => if (s.port p).sc.used < (s.port q).sc.used then some p else b
    | none => some p) none
/-- The slot the pager takes, and the port whose context it evicts (R308). -/
def State.victim (s : State) (k : CoreId) : Option (Nat × Option PortId) :=
  let here := s.residents k
  match (List.range 16).find? fun n => ! here.any fun p => (s.port p).sc.slot == n with
  | some n => some (n, none)
  | none =>
    let may := here.filter fun p => ! s.slotInUse p && ! (s.port p).sc.pinHeld
    match (s.lru (may.filter fun p => ! (s.port p).sc.retain)).or (s.lru may) with
    | some p => some ((s.port p).sc.slot, some p)
    | none => none
/-- A dirty slot is written back to the roster (R307, R310). -/
def State.writeBack (s : State) (p : PortId) : State :=
  let c := (s.port p).sc
  match c.bench with
  | some k =>
    if ! c.dirty then s
    else match s.poisonIn (3 + k.val) (c.slot * 0x1000) 0x1000 with
      | some off => s.pagingFault k p (3 + k.val) off
      | none =>
        (((s.softFix (3 + k.val) (c.slot * 0x1000) 0x1000).modCores fun g =>
          { g with roster := Memory.copy g.roster (ctxAt p) g.bench (k.val * 0x10000 + c.slot * 0x1000) 0x1000, wback := g.wback.inc32 }).modSc p
          fun c => { c with dirty := false }).unpoison 2 (ctxAt p) 0x1000
  | none => s
/-- A slot is emptied for another context. -/
def State.evict (s : State) (p : PortId) : State := (s.writeBack p).modSc p fun c => { c with bench := none, dirty := false, retain := false }
/-- A context comes to a core's bench by page-in or bench-to-bench move (R307, R310); false where an error stops it. -/
def State.pageIn (s : State) (k : CoreId) (p : PortId) : State × Bool :=
  match s.victim k with
  | none => (s, false)
  | some (n, v) =>
    let s1 := match v with | some q => s.evict q | none => s
    let dst := k.val * 0x10000 + n * 0x1000
    let c := (s1.port p).sc
    let put := fun (g : Memory → Memory) (dirty : Bool) (s : State) =>
      ((s.modCores fun g0 => { g0 with bench := g g0.bench }).modSc p fun c => { c with bench := some k, slot := n, dirty := dirty }).unpoison
        (3 + k.val) (n * 0x1000) 0x1000
    match c.bench with
    | none =>
      match s1.poisonIn 2 (ctxAt p) 0x1000 with
      | some off => (s1.pagingFault k p 2 off, false)
      | none => (put (fun m => Memory.copy m dst s1.cores.roster (ctxAt p) 0x1000) false
          ((s1.softFix 2 (ctxAt p) 0x1000).modCores fun g => { g with pageIn := g.pageIn.inc32 }), true)
    | some j =>
      if j == k then (s, true)
      else match s1.poisonIn (3 + j.val) (c.slot * 0x1000) 0x1000 with
        | some off => (s1.pagingFault j p (3 + j.val) off, false)
        | none => (put (fun m => Memory.copy m dst m (j.val * 0x10000 + c.slot * 0x1000) 0x1000) c.dirty (s1.softFix (3 + j.val) (c.slot * 0x1000) 0x1000), true)

/-- PAGE_IN_DONE (R306–R310): the transfer a core's bench awaits is complete; an assigned port starts, but for a restart or an activation
under way, which no further dispatch precedes (R385, R465). -/
def execPageInDone (k : Fin 4) (lat : Nat) (s : State) : Out :=
  let c := s.coreAt k
  if s.ref.restarting.isSome || s.upd.activating then ok s
  else match c.assign, c.resv with
  | some p, _ =>
    let s1 := s.modCore k fun c => { c with assign := none }
    if ! (s.port p).ready then ok s1
    else
      let (s2, good) := s1.pageIn k p
      ok (if good && c.state == .idle then s2.startDispatch p k lat else s2)
  | none, some p =>
    if (s.port p).sc.bench == some k then ok s
    else
      let (s1, good) := s.pageIn k p
      ok (if good then s1 else (s1.modCore k fun c => { c with resv := none }).modSc p fun c => { c with resv := none })
  | none, none => ok s

/-! ### The decision (R305, R306) -/

def State.reserveOn (s : State) (p : PortId) (k : CoreId) : State :=
  let s1 := match (s.coreAt k).resv with | some q => s.unreserve q | none => s
  (s1.modCore k fun c => { c with resv := some p }).modSc p fun c => { c with resv := some k }
/-- A core free for a port that is not reserved on it. -/
def Core.free (c : Core) : Bool := c.state == .idle && c.assign.isNone && c.resv.isNone
/-- The busy core with the highest SYS.MOVES among some, ties to the lower number. -/
def State.busiest (s : State) (l : List CoreId) : Option CoreId :=
  l.foldl (fun b k => match b with
    | some j => if (s.coreAt j).moves < (s.coreAt k).moves then some k else b
    | none => some k) none

/-- What R305 and R306 do with one ready port; none where it is left ready. `waited` gives how long a port has waited, in µs; one it
does not list has waited longer than any AFFINITY_WAIT. A core whose reservation is of no lower rank is not asked for another (R306). -/
def State.place (s : State) (waited : List (Nat × Nat)) (lat : Nat) (p : PortId) : Option State :=
  let c := (s.port p).sc
  let may := fun k : CoreId => ! c.pin || c.pinCore == some k
  let free := allCores.filter fun k => (s.coreAt k).free && may k
  let home := free.find? fun k => c.bench == some k
  let fresh := match waited.find? fun e => e.1 == p.val with
    | some e => decide (e.2 < s.param 0xB001)
    | none => false
  let waits := match c.bench with
    | some k => (s.coreAt k).state == CoreState.run && (s.readyKey p).1 > 1 && fresh && c.resv.isNone
    | none => false
  let clear := free.find? fun k => ! (s.residents k).any fun q => q != p && (s.port q).ready
  match home with
  | some k => some ((s.unreserve p).startDispatch p k lat)
  | none =>
    if waits then none
    else match clear.or free.head? with
      | some k => some ((s.unreserve p).modCore k fun c => { c with assign := some p })
      | none =>
        if s.param 0xB002 != 1 || c.resv.isSome then none
        else
          let busy := allCores.filter fun k => (s.coreAt k).state == CoreState.run && may k
          let open_ := fun k : CoreId => match (s.coreAt k).resv with
            | some q => decide ((s.readyKey p).1 / 2 < (s.readyKey q).1 / 2)
            | none => true
          (s.busiest (busy.filter open_)).map fun k => s.reserveOn p k

/-- A core whose dispatch has ended takes the port reserved on it (R306). -/
def State.takeReserved (s : State) (lat : Nat) (k : CoreId) : State :=
  let c := s.coreAt k
  match c.resv with
  | some p =>
    if c.state != .idle || c.assign.isSome then s
    else if ! (s.port p).ready then s.unreserve p
    else if (s.port p).sc.bench == some k then (s.unreserve p).startDispatch p k lat
    else (s.unreserve p).modCore k fun c => { c with assign := some p }
  | none => s

/-- SCHEDULER_DECISION (R304–R306): idle cores report to the referee (R311), reserved ports start, and the highest-ranked ready
port that can be given a core is given one. Nothing starts during a core restart or an activation (R385, R465). -/
def execSchedulerDecision (waited : List (Nat × Nat)) (lat : Nat) (s : State) : Out :=
  if s.ref.restarting.isSome || s.upd.activating then ok s
  else
    let s1 := allCores.foldl (fun s k => if (s.coreAt k).state == .idle then s.heartbeat k else s) s
    let s2 := allCores.foldl (fun s k => s.takeReserved lat k) s1
    match s2.readyList with
    | [] => ok s2
    | l => ok ((l.findSome? (s2.toRun.place waited lat)).getD s2.toRun)

/-! ### Timers (R288) -/

/-- TIMER_EXPIRED (R288): a running timer whose time is up ends and EXPIRED is queued with its number. -/
def execTimerExpired (p : Fin 192) (t : Fin 8) (s : State) : Out :=
  match ((s.port p).sc.timers[t.val]?).getD none with
  | some k => if s.timerLeft k != 0 then ok s else ok ((s.modSc p fun c => { c with timers := c.timers.set t.val none }).queueEv p (mkEv s .timer 1 (BitVec.ofNat 32 t.val)))
  | none => ok s
/-- A stop or restart withdraws an expiry of that timer that is still queued (R288); the entry it frees may be used (R302). -/
def State.withdrawTimer (s : State) (p : PortId) (t : Nat) : State :=
  (s.modSc p fun c =>
    { c with q := c.q.filter fun e => ! (e.cls == .timer && e.data.toNat == t), timerMask := setBit c.timerMask t false }).refillQueue p

end Sys2Proof.Machine
end

