-- ==== Sys2Proof/Machine/Image.lean ====
section
/-! DEFINITION. HZF images and what the boot ROM does with them: the checks on a head page and its blocks, starting an image,
its settings, the choice at a release, and the confirmation of a trial (R450–R463). -/
namespace Sys2Proof.Machine

/-! ### Checks (R452, R453) -/

def headW (h : List Byte) (off : Nat) : Nat := headAt h off 4
def headBlocks (h : List Byte) : Nat := headAt h 0x1A 2
/-- CRC-32 that the block table gives a block. -/
def headCrc (h : List Byte) (i : Nat) : Word := BitVec.ofNat 32 (headAt h (0x200 + 4 * i) 4)
/-- Bytes of the stream: code RAM image, initial S4, initial context (R450). -/
def headStream (h : List Byte) : Nat := headW h 0x58 + headW h 0x5C + 3072
/-- Bytes of the header that no field takes, and what follows the signature, are 0 (R450, R451). -/
def headZeros (h : List Byte) : Bool :=
  let zero := fun lo n : Nat => ((h.drop lo).take n).all (· == 0#8)
  zero 0x140 0xC0 && zero (0x240 + 4 * headBlocks h) 4096
/-- Regions of code RAM: S0, then each core's S1 and S2. -/
def headRegions (h : List Byte) : List (Nat × Nat) :=
  (0, headW h 0x54) :: (List.range 8).map fun k => (headW h (0x60 + 8 * k), headW h (0x64 + 8 * k))
/-- Regions of a list that overlap one of those after them; an empty region overlaps nothing. -/
def overlaps : List (Nat × Nat) → Bool
  | [] => false
  | (a, n) :: r => (r.any fun e => n != 0 && e.2 != 0 && decide (a < e.1 + e.2) && decide (e.1 < a + n)) || overlaps r

/-- The tests of a head page in the order of R453's codes; the rule of SEC_VERSION is the agent's alone (R452). -/
def State.headTests (s : State) (h : List Byte) (agent : Bool) : List (Bool × Nat) :=
  let f := s.fuse
  let ident := s.bootStatus .ident == .locked
  let slot := headAt h 0x19 1
  let pub := (h.drop 0xA0).take 64
  let key := wordBytes ((List.range 8).map fun k => f.word (0x28 + 8 * slot + k))
  let flags := headAt h 0x16 2
  let unit := (h.drop 0x20).take 16
  let n := headBlocks h
  let ram := headW h 0x58
  let code := headW h 0x54
  [ (headW h 0 == 0x31465A48 && headAt h 4 2 == 1, 0x01),
    (ident && headAt h 6 2 == bits (f.word 0x24) 0 16, 0x02),
    ((headAt h 0x30 32).testBit (bits (f.word 0x24) 20 8), 0x03),
    (decide (slot ≤ 2) && s.bootStatus .keyhash == .locked && key.any (· != 0#8) && sha256 pub == key, 0x04),
    (ecdsaOk pub ((h.drop (0x200 + 4 * n)).take 64) (h.take (0x200 + 4 * n)), 0x05),
    (! flags.testBit 0 || (s.unitKey.isSome && unit == wordBytes ((List.range 4).map fun k => f.word (0x20 + k))), 0x06),
    (! agent || decide (f.floorValue ≤ headW h 0x0C), 0x07),
    (decide (flags < 4) && decide (headAt h 0x18 1 ≤ 128) && decide (headAt h 0x18 1 ≤ headW h 0x0C) && within n 1 767
      && (flags.testBit 0 || unit.all (· == 0#8)) && headW h 0x50 % 4 == 0 && decide (headW h 0x50 < code)
      && code % 4 == 0 && within code 4 ram && within ram 4 524288 && decide (headW h 0x5C ≤ 262144)
      && n == (headStream h + 4095) / 4096 && headZeros h, 0x08),
    ((headRegions h).all (fun e => decide (e.1 + e.2 ≤ ram)) && ! overlaps (headRegions h), 0x09) ]
/-- Code of the first check a head page fails (R453). -/
def State.headCheck (s : State) (h : List Byte) (agent : Bool) : Option Nat := firstCode (s.headTests h agent)
/-- Every block of a slot has the CRC of the block table. -/
def FlashSlot.blocksOk (q : FlashSlot) : Bool :=
  (List.range (headBlocks q.head)).all fun i => match q.blocks[i]? with
    | some b => crc32 b == headCrc q.head i
    | none => false
/-- A slot is valid: its head page passes the boot ROM's checks (R452, R455). -/
def State.slotValid (s : State) (k : Slot) : Bool := ! (s.upd.slot k).head.isEmpty && (s.headCheck (s.upd.slot k).head false).isNone
/-- A slot is valid and loads (R460). -/
def State.slotLoads (s : State) (k : Slot) : Bool := s.slotValid k && (s.upd.slot k).blocksOk

/-! ### Settings (R459) -/

/-- UP_CFG (R468). -/
def Upd.cfgWord (u : Upd) : Word := packWord [(u.window, 10, 11), (u.fallback, 8, 2), (b2n u.autoConfirm, 1, 1), (b2n u.quad, 0, 1)]
/-- UP_CFG takes a value; fields outside their sets are left (R468). -/
def Upd.setCfg (u : Upd) (v : Word) : Upd :=
  { u with window := if within (bits v 10 11) 10 1800 then bits v 10 11 else u.window,
           fallback := if bits v 8 2 == 0 then u.fallback else bits v 8 2, autoConfirm := bit v 1, quad := bit v 0 }
def Upd.record (u : Upd) : Slot → Option Settings
  | .a => u.setA | .b => u.setB
def Upd.setRecord (u : Upd) (k : Slot) (r : Settings) : Upd :=
  match k with | .a => { u with setA := some r } | .b => { u with setB := some r }
/-- Defaults, with the stored and the expected format posted (R459). -/
def State.settingsDefault (s : State) (stored want : Word) : State :=
  ((s.modCfg fun c => { c with params := [] }).modUpd fun u =>
    { u with window := 0x78, fallback := 1, autoConfirm := false, quad := false }).postEvt none (.settingsDefaulted stored want)
/-- The settings an image starts with (R459); with none fitting, the defaults and SETTINGS_DEFAULTED. -/
def State.applySettings (s : State) (k : Slot) (fresh : Bool) : State :=
  let want : Word := BitVec.ofNat 32 (headW (s.upd.slot k).head 0x10)
  let fits := fun r : Option Settings => match r with | some r => r.fmt == want | none => false
  let use := fun (r : Settings) (s : State) => (s.modCfg fun c => { c with params := r.params }).modUpd fun u => u.setCfg r.cfg
  let own := s.upd.record k
  let other := s.upd.record k.other
  match own, other with
  | some r, _ =>
    if r.fmt == want then use r s
    else match other with
      | some o => if fresh && o.fmt == want then (use o s).modUpd fun u => u.setRecord k o else s.settingsDefault r.fmt want
      | none => s.settingsDefault r.fmt want
  | none, some o => if fresh && fits (some o) then (use o s).modUpd fun u => u.setRecord k o else s.settingsDefault 0#32 want
  | none, none => s.settingsDefault 0#32 want

/-! ### Starting an image (R299, R450, R460, R465) -/

/-- All contexts are rebuilt and every bench is empty (R299). -/
def State.rebuildAll (s : State) : State :=
  let page := s.cores.ictx.take 0xC00
  let s1 := s.modCores fun c =>
    { c with bench := [],
             roster := (allPorts.flatMap fun p => Memory.ofBytes (ctxAt p) page) ++ c.roster.filter fun e => decide (0xC0000 ≤ e.1) }
  allPorts.foldl (fun s p => s.dropSlot p) (s1.unpoison 2 0 0xC0000)
/-- CORES is fenced and reset: nothing runs, nothing is reserved, every bench is free (R385, R409, R465). What starts the cores again lifts
the fence. -/
def State.resetCores (s : State) (st : CoreState) : State :=
  let s1 := allPorts.foldl (fun s p => s.modSc p fun c =>
    { c with bench := none, running := none, resv := none, dirty := false, retain := false, pinHeld := false, used := 0 }) s
  { ((s1.modCores fun c => { c with bench := [], useNext := 0 }).setFence domCores true) with core := Vector.replicate 4 { Core.reset with state := st } }
/-- Code, shared tables and initial context of a slot come into code RAM and the roster (R450). -/
def State.loadImage (s : State) (k : Slot) : State :=
  let q := s.upd.slot k
  let stream := q.blocks.flatten
  let ram := headW q.head 0x58
  let shared := headW q.head 0x5C
  (s.modCores fun c =>
    { c with code := Memory.ofBytes 0 (stream.take ram),
             roster := c.roster.filter (fun e => decide (e.1 < 0xC0000)) ++ Memory.ofBytes 0xC0000 ((stream.drop ram).take shared),
             ictx := (stream.drop (ram + shared)).take 3072 }).modRef fun r => 
    let old := fun e : Nat × Nat => e.1 != 1 && ! (e.1 == 2 && decide (0xC0000 ≤ e.2))
    { r with poison := r.poison.filter old, soft := r.soft.filter old }
/-- RESUME is queued to every port in hold (R385, R465). -/
def State.resumeAll (s : State) : State :=
  allPorts.foldl (fun s p => if (s.port p).pd.table == .hold then s.queueHk p 3 0#32 else s) s
/-- The cores start an image from a slot: it is loaded, contexts kept or rebuilt, the trial begins (R460, R462, R465). -/
def State.startImage (s : State) (k : Slot) (keep : Bool) : State :=
  let s1 := s.loadImage k
  let s2 := (if keep then s1 else s1.rebuildAll).resetCores .idle
  let trial := ((s.upd.bootRec).map (·.trial)).getD false
  let s3 := s2.modUpd fun u =>
    { u with run := some k, runHead := (u.slot k).head, loading := none, reverting := false, fresh := false, waking := false, activating := false,
             recovery := false, trial := trial, trialEnd := if trial then some (s.aon + secCycles u.window) else none, bad := false, seen := 0#4,
             staged := if u.staged == some k then none else u.staged }
  let s4 := s3.modPwr fun w => { w with coresUp := true, powered := setBit w.powered domCores true }
  let s5 := (s4.setFence domCores false).modRef fun r => { r with hb := List.replicate 4 s.aon, restarting := none }
  let s6 := s5.placePins.resumeAll
  if trial then s6.postUpd .trial (s6.runVersion) else s6

/-! ### Confirmation (R462, R463) -/

/-- The health conditions of a trial. -/
def Upd.healthy (u : Upd) : Bool := ! u.bad && u.seen == 0xF#4
/-- The update agent advances the floor to the FLOOR_REQ of a head page; `vpp` is VPP in mV (R428, R463). -/
def State.agentFloor (s : State) (h : List Byte) (other : Slot) (vpp : Nat) : State :=
  let req := headAt h 0x18 1
  let s1 := s.modUpd fun u => u.writeBoot fun b => { b with floorPending := true }
  let s2 := if ! (s1.upd.slot other).head.isEmpty && decide (headW (s1.upd.slot other).head 0x0C < req) then
      (s1.eraseSlot other).modUpd fun u => { u with staged := if u.staged == some other then none else u.staged } else s1
  let j : FuseJob := { op := .floorAdvance, region := 0, addr := 0#8, data := BitVec.ofNat 32 req, todo := [], agent := true, svc := none }
  if s2.fuse.auditing || s2.fuse.job.isSome then
    if s2.fuse.held.isNone then s2.modFuse fun f => { f with held := some j } else s2.confirmDone true false
  else s2.fuseBegin j vpp
/-- A trial is confirmed (R463). -/
def State.confirm (s : State) (vpp : Nat) : State :=
  let h := s.upd.runHead
  let s1 := s.modUpd fun u => { (u.writeBoot fun b => { b with trial := false }) with trial := false, trialEnd := none }
  let k := s.upd.run.getD .a
  if bit (BitVec.ofNat 32 (headAt h 0x16 2)) 1 && decide (s.fuse.floorValue < headAt h 0x18 1) then s1.agentFloor h k.other vpp
  else s1.confirmDone false true

/-! ### The boot ROM's choice (R460, R461, R463) -/

/-- The recovery agent runs (R461). -/
def State.enterRecovery (s : State) : State :=
  (s.modUpd fun u => { u with recovery := true, loading := none, reverting := false, fresh := false, waking := false, run := none, runHead := [], trial := false, trialEnd := none }).postUpd
    .recovery 0#32
/-- The fall-back of R460, up to the load of the other slot. -/
def State.bootFallback (s : State) : State :=
  if s.fallbackMode == 2 then s.enterRecovery
  else s.modUpd fun u => { u with loading := some ((u.bootRec.map fun (r : BootRec) => r.active).getD Slot.a).other, reverting := true, fresh := false }
/-- A FLOOR_PENDING found at boot repeats the advance before any image runs (R463). -/
def State.bootFloor (s : State) (vpp : Nat) : State :=
  match s.upd.bootRec with
  | some r => if r.floorPending then s.agentFloor (s.upd.slot r.active).head r.active.other vpp else s
  | none => s
/-- What runs after a release: recovery, the active slot, or the fall-back of an unconfirmed trial. -/
def State.bootChoose (s : State) (wake : Bool) : State :=
  let s1 := s.modUpd fun u => { u with run := none, runHead := [], trial := false, trialEnd := none, recovery := false, waking := wake }
  if s.pwr.bootsel then s1.enterRecovery
  else
    let r := s1.upd.bootRec.getD ⟨.a, false, 0, false, 0, true⟩
    if r.trial && decide (r.tries ≥ 1) then s1.bootFallback
    else
      let s2 := if r.trial then s1.modUpd fun u => u.writeBoot fun b => { b with tries := b.tries + 1 } else s1
      s2.modUpd fun u => { u with loading := some r.active, reverting := false, fresh := r.trial }

/-- BOOT_IMAGE_LOADED (R460): the slot chosen is read and checked; it runs, or the fall-back takes its place. -/
def execBootImageLoaded (s : State) : Out :=
  if s.pwr.dev == .deep || ! s.pwr.domUp || (s.fuse.job.toList ++ s.fuse.held.toList).any (·.agent) then ok s
  else match s.upd.loading with
    | none => ok s
    | some k =>
      if s.slotLoads k then
        let back := s.upd.reverting
        let s1 := if back then s.modUpd fun u => u.writeBoot fun b => { b with active := k, trial := false } else s
        let s2 := if s.upd.waking then s1 else s1.applySettings k s.upd.fresh
        let s3 := s2.startImage k false
        ok (if back then s3.postUpd .reverted s3.runVersion else s3)
      else if ! s.upd.reverting then ok s.bootFallback
      else if s.fallbackMode == 3 then ok s.enterRecovery
      else ok (s.modUpd fun u => { u with loading := none, reverting := false, fresh := false, waking := false })

end Sys2Proof.Machine
end

