-- ==== Sys2Proof/Machine/Restart.lean ====
section
/-! DEFINITION. Core hangs, the core restart and the scrub of the hub SRAMs (R385, R386). -/
namespace Sys2Proof.Machine

/-- No heartbeat report of a core for 10 ms (R311, R383). -/
def State.silent (s : State) (k : Fin 4) : Bool := decide (msCycles 10 ≤ s.aon - (s.ref.hb[k.val]?).getD 0)
/-- CORE_HANG (R383, R385): no heartbeat for 10 ms; where all four cores are silent it is a hang of M0. The restart begins: no further
dispatch starts and hold is requested on every tile. A hang within 1 h of the last one, or during a restart, is CORE_HANG_REPEAT and
enters the device safe state; its reaction is the wider, so REF_FIRST takes it (R391). -/
def execCoreHang (k : Fin 4) (s : State) : Out :=
  if ! s.pwr.coresUp || s.pwr.dev == .deep || ! s.silent k then ok s
  else
    let again := s.ref.restarting.isSome || (match s.ref.lastHang with | some t => decide (s.aon - t < secCycles 3600) | none => false)
    let s0 := if again then s.refDeviceFail 0x04 else s
    let s1 := ((s0.refRecord 0x03 none none).modRef fun r => { r with lastHang := some s.aon }).modUpd fun u => { u with bad := u.bad || u.trial }
    let m := if allCores.all s.silent then 0 else k
    if again then ok s1 else ok (allPorts.foldl State.requestHold (s1.modRef fun r => { r with restarting := some m }))

/-- Every dirty slot is written back but that of one port (R385, R465). -/
def State.writeBackAll (s : State) (but : Option PortId) : State :=
  allPorts.foldl (fun s p => if some p == but then s else s.writeBack p) s

/-- CORE_RESTART (R385): once the other cores' dispatches have ended, slots are written back, CORES is reset, the port whose
dispatch hung recovers, and RESUME goes to every port in hold. -/
def execCoreRestart (s : State) : Out :=
  match s.ref.restarting with
  | none => ok s
  | some k =>
    if allCores.any fun j => j != k && (s.coreAt j).state == CoreState.run then ok s
    else
      let hung := (s.coreAt k).port
      let s1 := ((s.writeBackAll hung).resetCores .idle).setFence domCores false
      let s2 := match hung with
        | some p => (s1.rebuildCtx p).errorRecovery p .errorRecovery
        | none => s1
      let s3 := s2.modRef fun r =>
        { r with restarting := none, restarts := min 0xFF (r.restarts + 1), hb := List.replicate 4 s.aon }
      let s4 := s3.modPwr fun w => { w with cause := setBit w.cause 4 true }
      ok (match hung with | some p => (s4.exportDue p).resumeAll | none => s4.resumeAll)

/-- A word of a memory that REF_ECC_ADDR names (R391). -/
def eccWord (e : Nat × Nat) : Bool := within e.1 1 8
/-- SRAM_SCRUB (R386): single-bit errors are corrected and counted; words with an uncorrectable error are left poisoned. A word is named
by its memory's code in REF_ECC_ADDR and its byte offset; `soft` are words whose single-bit error arises after the scrub has passed, for
an access or the next scrub to find (DESIGN CHOICE, log entry 43). The hub SRAMs are off in DEEP (R393). -/
def execSramScrub (corrected : Nat) (soft bad : List (Nat × Nat)) (s : State) : Out :=
  if s.pwr.dev == .deep || ! s.pwr.domUp then ok s
  else
    ok (s.modRef fun r =>
      let worse := r.poison ++ bad.filter fun e => eccWord e && ! r.poison.contains e
      { r with eccCe := r.eccCe.add32 (corrected + r.soft.countP fun e => ! bad.contains e), poison := worse,
               soft := soft.filter fun e => eccWord e && ! worse.any fun x => x.1 == e.1 && x.2 / 4 == e.2 / 4 })

end Sys2Proof.Machine
end

