-- ==== Sys2Proof/Machine/Power.lean ====
section
/-! DEFINITION. Resets, the release of the domains, device states, wake, the fence of the host link, and the AON clock
(R319–R321, R350, R393–R410). -/
namespace Sys2Proof.Machine

/-! ### The fence of HOST (R350, R409, R410) -/

/-- The host link is fenced: rings disabled, HL_ registers reset but for events, telemetry and FENCE_SEEN, what was fetched is abandoned,
the completions of what has started are discarded, the host session closes, deep transfers end UNAVAILABLE, and a withdrawal of pages that
has waited for them is carried out. -/
def State.hostFence (s : State) : State :=
  let s1 := (s.setFence domHost true).hostClose
  let s2 := { s1 with rings := Vector.replicate 14 ringReset }
  let s3 := s2.modLink fun l =>
    { Link.reset with
      fenceSeen := true, perst := l.perst, d3 := l.d3, trained := l.trained, backlog := l.backlog, sumMap := l.sumMap, sumDev := l.sumDev,
      evSeq := l.evSeq, decim := l.decim, tlmBuf := l.tlmBuf, raised := l.raised, msix := l.msix, pba := l.pba, nextSess := l.nextSess, dma := l.dma,
      pages := l.pages, waiting := l.waiting.filter (·.what == .pages) }
  allPorts.foldl (fun s p => if (s.port p).sc.deep then s.deepDone p 2 else s) s3
/-- HOST is reset, and with it the MSI-X table (R320, R406). -/
def State.hostReset (s : State) : State := s.hostFence.modLink fun l => { l with msix := Link.reset.msix, pba := 0#32 }
/-- A rate and a width the link trains to: Gen1 to Gen3, one lane or two (R319). -/
def linkTrains (speed width : Nat) : Bool := within speed 1 3 && within width 1 2
/-- The host link comes up: HOST has completed its initialisation with the link trained, and the fence lifts (R409). -/
def State.hostLift (s : State) (speed width : Nat) : State :=
  if ! linkTrains speed width then s else
  (s.modLink fun l => { l with speed := speed, width := width, trained := true }).setFence domHost false
def State.setCause (s : State) (k : Nat) : State := s.modPwr fun w => { w with cause := setBit w.cause k true }

/-- PERST_N_FALL (R321, R350, R393, R406): HOST is reset, fenced and switched off. -/
def execPerstNFall (s : State) : Out :=
  let s1 := s.modLink fun l => { l with perst := false, d3 := false }
  if s.pwr.dev == .deep then ok s1 else ok ((s1.hostReset.setPowered domHost false).setCause 3)
/-- PERST_N_RISE (R393, R404, R405): HOST is powered; it is a wake source in DEEP. -/
def execPerstNRise (s : State) : Out :=
  let s1 := (s.modLink fun l => { l with perst := true }).wakeReq 6
  if s.pwr.dev == .deep then ok s1 else ok (s1.setPowered domHost true)
/-- FUNCTION_LEVEL_RESET (R321, R406). -/
def execFunctionLevelReset (s : State) : Out :=
  if s.hostUp || (s.link.d3 && s.pwr.dev != .deep) then ok ((s.modLink fun l => { l with d3 := false }).hostReset.setCause 3) else ok s
/-- D3HOT_ENTRY (R321, R406): the host link is fenced, nothing is reset. -/
def execD3hotEntry (s : State) : Out := if s.hostUp then ok (s.modLink fun l => { l with d3 := true }).hostFence else ok s
/-- D0_RETURN (R406): the fence lifts; speed and width are those of the link as it stands. -/
def execD0Return (speed width : Fin 16) (s : State) : Out :=
  if s.link.d3 && s.link.perst && s.pwr.dev != .deep && linkTrains speed.val width.val then
    ok ((s.modLink fun l => { l with d3 := false }).hostLift speed.val width.val)
  else ok s
/-- PCIE_LINK_TRAINED (R319, R405, R407, R409): with PERST_N high and the PLL locked HOST comes up and the fence lifts. -/
def execPcieLinkTrained (speed width : Fin 16) (s : State) : Out :=
  if s.link.perst && ! s.link.d3 && s.pwr.dev != .deep && s.pwr.pllRun && s.pwr.powered.getLsbD domHost then ok (s.hostLift speed.val width.val) else ok s

/-! ### Resets (R393, R406) -/

/-- What the fuse array keeps through every reset. -/
def Fuse.kept (f : Fuse) : Fuse :=
  { Fuse.reset with aLow := f.aLow, aNorm := f.aNorm, aHigh := f.aHigh, bLow := f.bLow, bNorm := f.bNorm, bHigh := f.bHigh }
/-- What the flash keeps: slots, boot records, settings, log. -/
def Upd.kept (u : Upd) : Upd :=
  { Upd.reset with slotA := u.slotA, slotB := u.slotB, boot0 := u.boot0, boot1 := u.boot1, setA := u.setA, setB := u.setB, log := u.log }
/-- What the credential record keeps; the lockout comes from AON, or from the record's mirror at `now` (R447). -/
def Svc.kept (v : Svc) : Svc :=
  { Svc.reset with viewKey := v.viewKey, techKey := v.techKey, pwNext := v.pwNext, pwNextView := v.pwNextView, lockMirror := v.lockMirror }
/-- The read latches of CK_RTC, which AON holds; the others are reset with the domain that holds their value (R477). -/
def Bus.kept (b : Bus) : Bus := { Bus.reset with latches := b.latches.filter fun e => e.low == 0x2008 }
/-- A lockout that R60 or R181 keeps with Rp removed until a PORT_ENABLE of the host. -/
def LockCause.stands : LockCause → Bool
  | .cmpStuck | .dacFault | .stuckSwitch => true
  | _ => false
/-- A port at a device reset: retry memory is kept, and BOOT_RD or BOOT_SINK; its watch island returns to WATCH, but for a lockout that
stands with Rp removed (R60, R181, R406; DEDUCED, log entry 35). -/
def resetPort (p : PortId) (q : Port) : Port :=
  { Port.reset (isBoot p) with
    cc := if q.cc.state == .bootRd || q.cc.state == .bootSink then q.cc
      else if q.retry.lock.stands then
        { Cc.reset false with state := .lockedOut, cmpStuck := q.cc.cmpStuck, cmpFails := q.cc.cmpFails, cmpRetest := q.cc.cmpRetest }
      else { Cc.reset false with state := .watch },
    retry := { q.retry with probing := false } }
/-- A feed at a device reset: count, due time and last cause are kept (R203); a STUCK_BANK feed's off confirmation stands as it was (R198). -/
def resetFeed (q : Feed) : Feed :=
  { Feed.reset with retryCnt := q.retryCnt, due := q.due, cause := q.cause, offOk := q.cause != .stuckBank || q.offOk }

/-- POWER_ON_RESET (R406): every domain is reset, AON included; flash, fuses and credential record keep what they hold, and the
levels of PERST_N, SEAT_N and KICK are those of the pins. -/
def execPowerOnReset (s : State) : Out :=
  let s0 := match s.upd.dl with | some d => s.eraseSlot d.slot | none => s
  ok { State.reset with
       fuse := s0.fuse.kept, upd := s0.upd.kept,
       svc := { s0.svc.kept with lockN := s0.svc.lockMirror.1, lockEnd := if s0.svc.lockMirror.2 == 0 then none else some (secCycles s0.svc.lockMirror.2) },
       link := { Link.reset with perst := s0.link.perst }, board := { Board.reset with seated := s0.board.seated },
       hud := { Huddle.reset with kickIn := s0.hud.kickIn }, freeCtr := s0.freeCtr, pending := s0.pending }
/-- A device reset (R406, R409): every switched domain, all of which are fenced; AON keeps RTC, retry memory, lockout, HD_KICK_CFG, CK_CFG and the causes. -/
def State.deviceReset (s : State) (cause : Nat) : State :=
  let s0 := s.svcClose
  { State.reset with
    ports := Vector.ofFn fun p => resetPort p (s0.port p),
    feedA := resetFeed s0.feedA, feedB := resetFeed s0.feedB,
    fuse := s0.fuse.kept, upd := s0.upd.kept, svc := { s0.svc.kept with lockN := s0.svc.lockN, lockEnd := s0.svc.lockEnd },
    pwr := { Pwr.reset with refSel := s0.pwr.refSel, refAct := s0.pwr.refSel, fenced := 0x3FFF#14, xaFail := s0.pwr.xaFail, xaSeen := s0.pwr.xaSeen, scratch0 := s0.pwr.scratch0,
                            scratch1 := s0.pwr.scratch1, cause := setBit s0.pwr.cause cause true },
    link := { Link.reset with perst := s0.link.perst }, board := { Board.reset with seated := s0.board.seated },
    hud := { Huddle.reset with kickIn := s0.hud.kickIn, timeout := s0.hud.timeout, join := s0.hud.join },
    ref := { Ref.reset with hb := List.replicate 4 s0.aon },
    bus := s0.bus.kept, rtc := s0.rtc, aon := s0.aon, freeCtr := s0.freeCtr, pending := s0.pending }
/-- DEVICE_RESET (R406, R413, R497): by RESET_N, by a write of PW_CTRL.RESET before it, or by the AON supervisor for VHUB, VIO or a VTn
that is absent. -/
def execDeviceReset (why : ResetCause) (s : State) : Out :=
  match why with
  | .resetN => ok (s.deviceReset 1)
  | .ctrl => if s.pwr.ctrlReset then ok (s.deviceReset 1) else ok s
  | .supply => ok (s.deviceReset 2)

/-- TESTMODE is high at the release of a unit whose FACTORY region is LOCKED: SELFTEST is set, the tiles stay in reset and FAULT_N stays
low until a device reset with TESTMODE low (R493; that a power-on reset's release is one of these is DEDUCED, log entry 36). -/
def State.testMode (s : State) (testmode : Bool) : State :=
  if testmode && s.bootStatus .factory == .locked then (s.modPwr fun w => { w with testHold := true }).refRecord 0x17 none none else s
/-- DOMAIN_RELEASE (R53, R407, R409, R433, R460, R493): SAFE and HUB are released, the other domains stay fenced until they come up, the
fuse array is read, BOOTSEL and TESTMODE are sampled and
the boot ROM chooses an image; `vpp` is VPP in mV for a floor advance that R463 repeats. A BOOT_SINK recognised before posts its
ATTACH. -/
def execDomainRelease (bootsel testmode : Bool) (reads : List FuseRead) (vpp : Nat) (s : State) : Out :=
  if s.pwr.domUp || s.pwr.dev == .deep then ok s
  else
    let s1 := (s.modPwr fun w => { w with domUp := true, fenced := 0x3FFC#14, bootsel := bootsel, testHold := false }).setPowered domHost s.link.perst
    let s2 := (((s1.fuseBoot reads).testMode testmode).bootFloor vpp).bootChoose false
    ok ((allPorts.filter fun p => (s.port p).cc.state == .bootSink && (s.port p).cc.attachPend).foldl State.bootAttach s2)
/-- PLL_LOCKED (R396, R407): the hub changes to the PLL, whose reference is the one REF_SEL gave at the reset or wake. A lock that comes
after PLL_LOCK_TIMEOUT leaves PLL_LOCK 0. -/
def execPllLocked (s : State) : Out :=
  if s.pwr.dev == .deep || ! s.pwr.domUp || s.pwr.pllRun then ok s
  else ok (s.modPwr fun w => { w with pllRun := true, pllLock := ! w.pllLate })

/-! ### Tiles (R387, R408) -/

/-- TILE_RELEASE (R387, R405, R407, R408): at its staging slot, after the tiles before it, a tile is released, or kept in reset under
SUPPLY_TILE when its VTn is out of range; none is released in the device safe state, or held by TESTMODE (R376, R396, R493). -/
def execTileRelease (t : Fin 8) (mv : Nat) (s : State) : Out :=
  let q := s.tile t
  let before := allTiles.all fun u => decide (t.val ≤ u.val) || (s.tile u).released || (s.tile u).late
  if s.pwr.dev == .deep || ! s.pwr.domUp || ! s.pwr.pllLock || ! s.ref.selfOk || ! s.ref.factoryOk || s.ref.safe || s.pwr.testHold
      || q.released || q.late || ! before then ok s
  else
    let s1 := s.setPowered (domTile t) true
    if vtInRange mv then ok ((s1.modTile t fun q => { q with released := true, link := .training }).releaseFeedSvc)
    else ok ((s1.modTile t fun q => { q with late := true, vtOut := true, vtAt := s.aon }).refTileFail 0x16 t .supply)
/-- TILE_SUPPLY_RECOVER (R406, R408): a late tile whose VTn has recovered is restarted on its own; its safe wire is released when VTn has
been in range for 100 ms (R514). -/
def execTileSupplyRecover (t : Fin 8) (mv : Nat) (s : State) : Out :=
  if (s.tile t).late && s.pwr.dev != .deep && ! s.ref.safe && vtInRange mv then
    ok ((s.modTile t fun q =>
      { q with late := false, vtOut := false, vtAt := s.aon, released := true, restart := false, link := .training }).setCause 5)
  else ok s

/-! ### Device states (R400–R405) -/

/-- IDLE_ENTRY (R401): nothing runs, is ready, fetched or executed. -/
def execIdleEntry (s : State) : Out :=
  let quiet := ! (allCores.any fun k => (s.coreAt k).state == CoreState.run || (s.coreAt k).assign.isSome)
    && s.readyList.isEmpty && s.link.fetched.isEmpty && s.link.loads.isEmpty && s.ports.toList.all fun q => ! q.sc.deep
  if s.pwr.dev == .run && quiet then ok (s.modPwr fun w => { w with dev := .idle }) else ok s

/-- What the retention store keeps of a port (R403), with what AON and the watch island hold. -/
def deepPort (reserve : Nat) (q : Port) : Port :=
  { Port.reset false with
    -- an accessory's Rp is held only in IDLE and RUN; its detach is counted anew from the watch samples (R36, R45)
    cc := if q.cc.state == .attached then { q.cc with rp := .off, detachRun := 0 } else { q.cc with detachRun := 0 },
    retry := q.retry, cnt := q.cnt,
    path := { Path.reset with ift := q.path.ift, slew := q.path.slew, ctrl := q.path.ctrl },
    pd := { Pd.reset with
            rxCrc := q.pd.rxCrc, rxTrunc := q.pd.rxTrunc, rxCode := q.pd.rxCode, txFail := q.pd.txFail, txDiscard := q.pd.txDiscard, rxDup := q.pd.rxDup },
    pol := { Pol.reset with enabled := q.pol.enabled, profile := q.pol.profile, custom := q.pol.custom },
    sb := { Sb.reset with
            set := q.sb.set, cls := q.sb.cls, weight := q.sb.weight, floor := q.sb.floor, ceil := q.sb.ceil, temp := q.sb.temp, tempSet := q.sb.tempSet,
            state := if q.sb.state == .disabled then .disabled else .idle, alloc := if q.sb.state == .disabled then 0 else reserve },
    smp := { Smp.reset with
             energy := q.smp.energy, energyRem := q.smp.energyRem, tlmRate := q.smp.tlmRate, tlmRing := q.smp.tlmRing, tlmGap := true } }
/-- What it keeps of a tile. -/
def deepTile (q : Tile) : Tile :=
  { Tile.reset with
    crcErr := q.crcErr, resend := q.resend, loss := q.loss, skip := q.skip,
    mtRam := if q.mtValid then q.mtRam else [], mtCrc := if q.mtValid then q.mtCrc else 0#32, mtValid := q.mtValid, mtSel := q.mtSel }
/-- A feed's state in DEEP: the keeper holds the gate, the breaker resumes from zero (R204). -/
def deepFeed (q : Feed) : Feed := { q with acc := List.replicate 8 0 }
/-- The conditions of R402 have held for DEEP_DWELL. -/
def State.deepDwelt (s : State) : Bool :=
  s.deepConds.all id && (match s.pwr.deepSince with | some a => decide (secCycles s.pwr.deepDwell ≤ s.aon - a) | none => false)
/-- Step 2 (R403): the backlog goes into the pending-summary map, the telemetry buffer is discarded, and each port's next record carries
GAP. -/
def State.deepEvents (s : State) : State :=
  let s1 := (s.link.backlog.foldl (fun s e => s.markSummary e.port) s).modLink fun l => { l with backlog := [], tlmBuf := [] }
  allPorts.foldl (fun s p => s.modPort p fun q => { q with smp := { q.smp with tlmGap := true } }) s1
/-- Step 4 (R25, R204, R403): the tile links shut down, the tiles are fenced and have to be staged and reloaded again, and the feed keeper
takes over the gate. -/
def State.deepLinks (s : State) : State :=
  let s1 := allTiles.foldl (fun s t => (s.modTile t fun q =>
    { q.linkClear with link := .down, released := false, late := false, reloaded := false }).setFence (domTile t) true) s
  ({ s1 with feedA := deepFeed s1.feedA, feedB := deepFeed s1.feedB }.setFence domFeed true).modPwr fun w => { w with woke := true }
/-- Step 5 (R393, R403, R473): the switched domains go off; what the retention store holds is all that is left of them. -/
def State.deepOff (s : State) (wake : BitVec 8) : State :=
  let low := s.faultLow
  let s1 := s.hostFence
  let c := s1.cores
  { s1 with
    ports := Vector.ofFn fun p => deepPort s1.board.reserve (s1.port p),
    tiles := Vector.ofFn fun t => deepTile (s1.tile t),
    cfg := { s1.cfg with stRam := s1.cfg.stRam.map fun t => if t.valid then t else ⟨[], 0#32, false⟩ },
    board := { Board.reset with seated := s1.board.seated, suspended := s1.board.suspended, budgetNow := s1.board.budgetNow, bEff := s1.board.bEff, regrantPg := s1.board.regrantPg,
                                reserve := s1.board.reserve, vcBudget := s1.board.vcBudget },
    link := { s1.link with decim := 0, pages := [], evSeq := 0#16, fenceSeen := false, dbErr := s.link.dbErr, rxDrop := s.link.rxDrop, tlmGap := s.link.tlmGap },
    ref := { Ref.reset with eccCe := s1.ref.eccCe, eccUe := s1.ref.eccUe, irqEn := s1.ref.irqEn, vector := s1.ref.vector },
    hud := { Huddle.reset with
             kickIn := s1.hud.kickIn, timeout := s1.hud.timeout, join := s1.hud.join, applyCnt := s1.hud.applyCnt, kickCnt := s1.hud.kickCnt },
    meas := { Meas.reset with ntcB := s1.meas.ntcB, ntcR25 := s1.meas.ntcR25 },
    cores := { Cores.reset with disp := c.disp, pageIn := c.pageIn, wback := c.wback, overrun := c.overrun, drop := c.drop, faultCnt := c.faultCnt },
    core := Vector.replicate 4 Core.reset,
    fuse := { s1.fuse with job := none, held := none, auditing := false, result := .none, source := false, weakMore := false },
    svc := { s1.svc.kept with lockN := s1.svc.lockN, lockEnd := s1.svc.lockEnd, err := s1.svc.err, nextSess := s1.svc.nextSess },
    upd := { s1.upd with state := .none, armed := if s1.upd.armed == some .kick then none else s1.upd.armed, runHead := [], trial := false, trialEnd := none, loading := none, atLow := none, kickReady := false, activating := false },
    bus := s1.bus.kept,
    pwr := { s1.pwr with
             dev := .deep, deepSince := none, deepFault := low, powered := 0#14, fenced := 0x3FFF#14, pllLock := false, pllRun := false, pllLate := false,
             deepCnt := s1.pwr.deepCnt.inc32, wake := wake.setWidth 16, domUp := false, coresUp := false, writeDrop := false } }
/-- An entry to DEEP that wake sources have ended returns to RUN from the point it has reached (R403). -/
def State.deepCut (s : State) (wake : BitVec 8) : State := s.modPwr fun w => { w with dev := .run, deepSince := none, wake := wake.setWidth 16 }
/-- DEEP_ENTRY (R402, R403): the five steps, of which the third changes nothing but the retention store. `cut` gives the step during which
wake sources arrive, if any do, and which: the entry ends at that step's boundary, and after the fifth the device is in DEEP and wakes.
Entry waits while the fuse controller is busy (R436). -/
def execDeepEntry (cut : Option (Fin 5 × BitVec 8)) (s : State) : Out :=
  if s.pwr.dev != .idle || ! s.deepDwelt || s.fuse.busy then ok s
  else
    let (last, w) := match cut with
      | some (k, w) => if w == 0#8 then (4, w) else (k.val, w)
      | none => (4, 0#8)
    let s1 := s.writeBackAll none
    let s2 := s1.deepEvents
    if last == 0 then ok (s1.deepCut w)
    else if last ≤ 2 then ok (s2.deepCut w)
    else if last == 3 then ok (s2.deepLinks.deepCut w)
    else ok (s2.deepLinks.deepOff w)

/-- The wake sources that have arrived since the entry to DEEP (R404): those recorded, a falling edge on SVC_RX, an activation time that has
been reached, a retry that has fallen due. -/
def State.wakeSources (s : State) (svcRx : Bool) : BitVec 16 :=
  let reached := fun d : Option Nat => d.any fun t => decide (t ≤ s.aon)
  let retry := s.ports.toList.any (fun q => reached q.retry.due) || reached s.feedA.due || reached s.feedB.due
  let alarm := s.upd.armed == some .atTime && decide (s.upd.actAt ≤ s.rtc / 32768)
  s.pwr.wake ||| BitVec.ofNat 16 (4 * b2n retry + 32 * b2n alarm + 128 * b2n svcRx)
/-- WAKE (R404, R405, R409): the wake request reaches AON. SAFE and HUB come up, HOST is powered while PERST_N is high, every other domain
stays fenced until its own release; an attached accessory's Rp is held again (R36). The fuse array is read, audited and its patches taken
as at any boot (R427, R432, R433), and a FLOOR_PENDING found is carried out (R463). An accessory or a BOOT_SINK recognised in DEEP is taken up (R36, R53). -/
def execWake (svcRx : Bool) (reads : List FuseRead) (vpp : Nat) (s : State) : Out :=
  let src := s.wakeSources svcRx
  if s.pwr.dev != .deep || src == 0#16 then ok s
  else
    let s1 := (s.modPwr fun w =>
      { w with dev := .run, wake := src, domUp := true, woke := true, refAct := w.refSel,
               powered := setBit 0x0003#14 domHost s.link.perst, fenced := 0x3FFC#14 }).modRef fun r => { r with hb := List.replicate 4 s.aon }
    let s2 := ((s1.fuseBoot reads).bootFloor vpp).bootChoose true
    ok (allPorts.foldl (fun s p => if (s.port p).cc.state == .attached then s.modCc p fun c => { c with rp := .dflt, detachRun := 0 }
      else if (s.port p).cc.state == .bootSink && (s.port p).cc.attachPend then s.bootAttach p else s) s2)

/-! ### The AON clock (R397) -/

/-- XA_CRYSTAL_FAIL (R397). -/
def execXaCrystalFail (s : State) : Out := ok (s.modPwr fun w => { w with xaFail := true, xaSeen := true })
/-- XA_CRYSTAL_RECOVER (R397). -/
def execXaCrystalRecover (s : State) : Out := ok (s.modPwr fun w => { w with xaFail := false })
/-- A write of PW_CTRL (R413): RESET is X; a device reset follows 100 µs later. -/
def State.writePwCtrl (s : State) (a : Path6) (v : Word) : State :=
  if bit v 0 && s.expertOn a then s.modPwr fun w => { w with ctrlReset := true } else s

end Sys2Proof.Machine
end

