-- ==== Sys2Proof/Machine/Update.lean ====
section
/-! DEFINITION. The KICK barrier as it fires or times out, the activation of a staged image, the trial window and the end of the
lockout (R367–R372, R447, R462–R465, R469). -/
namespace Sys2Proof.Machine

/-! ### Arming an activation (R464) -/

/-- An activation may be armed: a slot is STAGED and none is armed or under way. -/
def Upd.armable (u : Upd) : Bool := u.staged.isSome && u.armed.isNone && ! u.activating
/-- The start of RTC second `t` lies 1 s to 30 days ahead. -/
def State.timeAhead (s : State) (t : Nat) : Bool :=
  decide (s.rtc + 32768 ≤ t * 32768) && decide (t * 32768 ≤ s.rtc + 30 * 86400 * 32768)
/-- Why an activation cannot be armed; in recovery NOW alone is answered (R461, R464). -/
def State.armBad (s : State) (src : ArmSource) (t : Nat) : Option Nak :=
  if src == .atTime && ! s.timeAhead t then some .badField
  else if ! s.upd.armable || (s.upd.recovery && src != .now) then some .state
  else none
def State.stagedVersion (s : State) : Word := (s.upd.staged.map s.upd.version).getD 0#32
/-- The activation is armed and SCHEDULED posted. On KICK it is ready once the staged head page passes R452 again, and the line
has to be seen low from here on (R368, R464). -/
def State.armUpd (s : State) (src : ArmSource) : State :=
  let head := (s.upd.staged.map fun k => (s.upd.slot k).head).getD []
  let s1 := if src == .kick then s.kickArming else s
  (s1.modUpd fun u => { u with armed := some src, kickReady := src == .kick && (s.headCheck head true).isNone }).postUpd .scheduled s.stagedVersion
/-- An armed activation is let go and CANCELLED posted (R464, R469). -/
def State.updDisarm (s : State) : State :=
  (s.modUpd fun u => { u with armed := none, kickReady := false }).postUpd .cancelled s.stagedVersion
/-- CANCEL disarms an activation or ends a download; none where there is neither (R457, R464). -/
def State.updCancel (s : State) : Option State :=
  if s.upd.armed.isSome then some s.updDisarm else if s.upd.dl.isSome then some s.endDownload else none

/-! ### The activation instant (R461, R465) -/

/-- The activation begins: ACTIVATING, hold on every tile, no further dispatch, the boot record names the new slot. In recovery
the new slot becomes active and the device starts as after a device reset. -/
def State.activate (s : State) : State :=
  match s.upd.staged with
  | none => s
  | some k =>
    if s.upd.recovery then
      (s.modUpd fun u => u.writeBoot fun b => { b with active := k, trial := true, tries := 0 }).deviceReset 1
    else
      let s1 := (s.modUpd fun u => { u with armed := none, kickReady := false, activating := true }).postUpd .activating s.stagedVersion
      (allPorts.foldl State.requestHold s1).modUpd fun u => u.writeBoot fun b => { b with active := k, trial := true, tries := 1 }
/-- An activation armed at NOW or AT_TIME is due (R464). -/
def State.activationDue (s : State) : Bool :=
  match s.upd.armed with
  | some .now => true
  | some .atTime => decide (s.upd.actAt ≤ s.rtc / 32768)
  | _ => false
/-- ACTIVATION_INSTANT (R464, R465). DEDUCED: an instant that falls due while the boot ROM still loads an image waits for that load (log
entry 72). -/
def execActivationInstant (s : State) : Out :=
  if s.activationDue && s.pwr.dev != .deep && ! s.upd.activating && s.upd.loading.isNone then ok s.toRun.activate else ok s

/-- No image runs: the cores are off. -/
def State.noImage (s : State) : State :=
  ((s.resetCores .off).modUpd fun u => { u with run := none, runHead := [], activating := false, trial := false, trialEnd := none }).modPwr
    fun w => { w with coresUp := false }
/-- ACTIVATION_LOAD_DONE (R459, R465): every dispatch has ended and the new image is read. Slots are written back, CORES is
reset, settings are chosen and contexts kept or rebuilt; where the load fails the previous slot is reloaded. -/
def execActivationLoadDone (s : State) : Out :=
  match s.upd.activating, s.upd.staged with
  | true, some k =>
    if allCores.any fun j => (s.coreAt j).state == CoreState.run || (s.coreAt j).state == CoreState.stall then ok s
    else
      let prev := s.upd.run
      let s1 := (s.writeBackAll none).setCause 4
      if s1.slotLoads k then
        let keep := prev.isSome && headW s.upd.runHead 0x1C == headW (s.upd.slot k).head 0x1C
        ok ((s1.applySettings k true).startImage k keep)
      else
        let s2 := s1.modUpd fun u => { u with staged := none }
        match prev with
        | some j =>
          let s3 := s2.modUpd fun u => u.writeBoot fun b => { b with active := j, trial := false, tries := 0 }
          if s3.slotLoads j then ok (((s3.applySettings j false).startImage j true).postUpd .failed s.stagedVersion)
          else ok (s3.noImage.postUpd .failed s.stagedVersion)
        | none => ok (s2.noImage.postUpd .failed s.stagedVersion)
  | _, _ => ok s

/-- The trial window has run out (R462). -/
def State.trialOver (s : State) : Bool := s.upd.trial && (match s.upd.trialEnd with | some e => decide (e ≤ s.aon) | none => false)
/-- TRIAL_WINDOW_EXPIRY (R462, R463): confirmed if allowed and healthy, otherwise a device reset; `vpp` is VPP in mV. -/
def execTrialWindowExpiry (vpp : Nat) (s : State) : Out :=
  if ! s.trialOver || s.pwr.dev == .deep then ok s
  else if s.upd.autoConfirm && s.upd.healthy then ok (s.confirm vpp)
  else ok (s.deviceReset 1)

/-- SESSION_LOCKOUT_END (R447): the time remaining has come to 0; the count stays until a proof matches (R446). -/
def execSessionLockoutEnd (s : State) : Out := if s.lockSecs == 0 then ok (s.modSvc fun v => { v with lockEnd := none }) else ok s

/-! ### The KICK barrier (R367–R369, R372) -/

/-- KICK_FIRE (R368, R372): KICK has risen and stays above its threshold. A joined unit that is armed, ready and has seen it low
fires: the huddle applies, then an activation begins. `missed` marks the tiles that do not see the strobe. -/
def execKickFire (missed : BitVec 8) (s : State) : Out :=
  let s1 := s.modHud fun h => { h with kickIn := true }
  if s.hud.join && s.kickArmed && s.kickReadyAll && s.hud.seenLow && s.pwr.dev != .deep then
    let s2 := s1.toRun
    let s3 := if s.hud.onKick then s2.kickApply missed true else s2
    ok (if s.upd.armed == some .kick then s3.activate else s3)
  else ok s1
/-- The unit has been armed on KICK for TIMEOUT (R369). -/
def State.kickOver (s : State) : Bool := s.kickArmed && decide (msCycles (100 * s.hud.timeout) ≤ s.aon - s.hud.kickAt)
/-- KICK_TIMEOUT (R369, R469): with the line low the unit disarms; the huddle is CHECKED again. A high line is awaited. -/
def execKickTimeout (low : Bool) (s : State) : Out :=
  if ! s.kickOver || ! low then ok (s.modHud fun h => { h with kickIn := ! low })
  else
    let s1 := s.modHud fun h => { h with kickIn := false }
    let s2 := if s.hud.onKick then
        let q := s.hud.svcSeq
        ((s1.modHud fun h => { h.unarm with state := .checked }).finish (fun w => w.what == .kickoff) .timeout 0 []).hudReply q true
      else s1
    ok (if s.upd.armed == some .kick then s2.updDisarm else s2)

end Sys2Proof.Machine
end

