-- ==== Sys2Proof/Machine/BusWrite.lean ====
section
/-! DEFINITION. Writing BAR0 on an access path: every writable register, the huddle's staged fields, the bits that a 1 clears, and
the reads that have an effect of their own (R168, R355, R421, R464, R470–R478). -/
namespace Sys2Proof.Machine

/-! ### Parts of a write -/

/-- A write of 1 to the OVF bit of an event counter clears both; a counter that has not overflowed keeps its count (R475). -/
def Cnt.wipe (c : Cnt) (b : Bool) : Cnt := if b && c.ovf then cntZero else c
/-- HL_RINGn registers but CFG (R323, R353). -/
def State.writeRing (s : State) (n r : Nat) (v : Word) : State :=
  let held := (s.ring n).enable || (s.ring n).state == .draining
  if r == 0x00 then if held then s else s.modRing n fun g => { g with baseLo := v &&& 0xFFFFF000#32 }
  else if r == 0x04 then if held then s else s.modRing n fun g => { g with baseHi := v }
  else if r == 0x0C then s.modRing n fun g => { g with irqTime := bits v 16 16, irqCount := bits v 0 16 }
  else s
/-- The HL_ block (R350, R353): FENCE_SEEN clears at any time; while the host link is fenced its other registers stay at reset. -/
def State.writeHl (s : State) (off : Nat) (v : Word) (slots : List Desc) : State :=
  if off == 0x04 then s.modLink fun l => { l with fenceSeen := l.fenceSeen && ! bit v 8 }
  else if s.hostFenced then s
  else if off == 0x10 then s.modLink fun l => { l with sbLo := v &&& 0xFFFFFFC1#32 }
  else if off == 0x14 then s.modLink fun l => { l with sbHi := v }
  else if off == 0x30 then s.modLink fun l => { l with tlmGap := l.tlmGap.wipe (bit v 1), rxDrop := l.rxDrop.wipe (bit v 0) }
  else if 0x100 ≤ off && off < 0x2C0 then
    let n := (off - 0x100) / 0x20
    let r := (off - 0x100) % 0x20
    if r == 0x08 then s.writeRingCfg n v slots else s.writeRing n r v
  else s
/-- A write of REF_CFG (R391, R394, R449). -/
def State.writeRefCfg (s : State) (a : Path6) (v : Word) : State :=
  let x := s.expertOn a
  s.modRef fun r =>
    { r with irqEn := bit v 8, vector := bits v 0 5, faultTest := if x then bit v 9 else r.faultTest,
             testBySvc := if x then bit v 9 && a == .svc else r.testBySvc }
/-- The causes whose bits of REF_FAULT a write can clear (R391). -/
def faultClear : Nat := ((List.range 24).filter fun c => c != 0 && ! refDevice c).foldl (fun a c => a + 2 ^ c) 0
/-- The CK_, PW_ and REF_ blocks (R391, R413, R484). -/
def State.writePw (s : State) (a : Path6) (off : Nat) (v : Word) : State :=
  if off == 0x2000 then s.modPwr fun w => { w with refSel := bit v 0 }
  else if off == 0x2004 then s.modPwr fun w => { w with xaSeen := w.xaSeen && ! bit v 28 }
  else if off == 0x2100 then
    s.modPwr fun w => { w with deepDwell := if bits v 8 8 == 0 then w.deepDwell else bits v 8 8, noHost := bit v 1, deepEn := bit v 0 }
  else if off == 0x2104 then s.modPwr fun w => { w with deepCnt := w.deepCnt.wipe (bit v 7) }
  else if off == 0x210C then s.modPwr fun w => { w with writeDrop := w.writeDrop && ! bit v 16 }
  else if off == 0x2110 then s.modPwr fun w => { w with cause := w.cause &&& ~~~ v.setWidth 6 }
  else if off == 0x2114 then s.writePwCtrl a v
  else if off == 0x2120 then s.modPwr fun w => { w with scratch0 := v }
  else if off == 0x2124 then s.modPwr fun w => { w with scratch1 := v }
  else if off == 0x2804 then s.modRef fun r => { r with fault := r.fault &&& ~~~ (v.setWidth 24 &&& BitVec.ofNat 24 faultClear) }
  else if off == 0x280C then s.writeRefCfg a v
  else if off == 0x2824 then s.modRef fun r => { r with eccCe := r.eccCe.wipe (bit v 0) }
  else s
def fuseOpOf (n : Nat) : Option FuseOp :=
  match n with
  | 1 => some .program | 2 => some .integrity | 3 => some .lock | 4 => some .forceLock | 5 => some .readLock | 6 => some .reinforce
  | 7 => some .audit | 8 => some .floorAdvance | _ => none
/-- A write of FU_CMD as a bare word (R421, R435); `vpp` is VPP in mV. -/
def State.writeFuCmd (s : State) (a : Path6) (v : Word) (vpp : Nat) : State :=
  let cmd := v &&& 0xFF0000FF#32
  match fuseOpOf (bits v 28 4) with
  | some op => s.fuseWrite a op.expert (op != .audit) cmd fun s1 q w =>
      s1.fuseTake op (Fin.ofNat 16 (bits v 24 4)) (BitVec.ofNat 8 (bits v 0 8)) vpp q w
  | none => s.fuseWrite a false false cmd fun s1 _ _ => s1.modFuse fun f => { f with result := .bad }
/-- The running slot's settings record is written (R459); none without a running slot. -/
def State.saveSettings (s : State) : Option State :=
  s.upd.run.map fun k => s.modUpd fun u =>
    u.setRecord k { fmt := BitVec.ofNat 32 (headW u.runHead 0x10), params := s.cfg.params, cfg := u.cfgWord }
/-- UP_CTRL.ARM (R464): an arming that is refused is ignored. -/
def State.ctrlArm (s : State) (a : Path6) (v : Word) : State :=
  let go := fun src : ArmSource => if (s.armBad src s.upd.actAt).isSome then s else s.armUpd src
  if ! s.expertOn a then s
  else match bits v 4 2 with
    | 1 => go .atTime
    | 2 => go .kick
    | 3 => go .now
    | _ => s
def State.ctrlCancel (s : State) (v : Word) : State := if bit v 3 then s.updCancel.getD s else s
def State.ctrlSave (s : State) (v : Word) : State := if bit v 2 then s.saveSettings.getD s else s
def State.ctrlConfirm (s : State) (v : Word) (vpp : Nat) : State :=
  if bit v 0 && s.upd.trial && s.upd.healthy then s.confirm vpp else s
/-- A write of UP_CTRL (R459, R462, R464, R468). -/
def State.writeUpCtrl (s : State) (a : Path6) (v : Word) (vpp : Nat) : State :=
  (((s.ctrlArm a v).ctrlCancel v).ctrlSave v).ctrlConfirm v vpp
/-- A write of a word of UP_ACTIVATE_AT (R468, R478). -/
def State.writeActAt (s : State) (a : Path6) (high : Bool) (v : Word) : State :=
  if ! s.expertOn a then s
  else if high then
    s.modUpd fun u => { u with actAt := bits v 0 16 * 2 ^ 32 + (u.atLow.map BitVec.toNat).getD (u.actAt % 2 ^ 32), atLow := none }
  else s.modUpd fun u => { u with atLow := some v }
/-- The FU_, SV_ and UP_ blocks (R420, R435, R468). -/
def State.writeFuUp (s : State) (a : Path6) (off : Nat) (v : Word) (vpp : Nat) : State :=
  if off == 0x3000 then s.writeFuCmd a v vpp
  else if off == 0x3004 then s.modFuse fun f => { f with wdata := v }
  else if off == 0x3008 then s.modFuse fun f => { f with weakMore := f.weakMore && ! bit v 28, weak := f.weak.wipe (bit v 27) }
  else if off == 0x300C then s.modFuse fun f => { f with raddr := v.setWidth 8, rdata := f.readWord (bits v 0 8) }
  else if off == 0x3204 then if s.expertOn a then s.modUpd fun u => u.setCfg v else s
  else if off == 0x3208 then s.writeUpCtrl a v vpp
  else if off == 0x3210 then s.writeActAt a false v
  else if off == 0x3214 then s.writeActAt a true v
  else s
/-- The bits of the MS_, TL_, PC_ and SC_ blocks that a 1 clears (R266, R295, R317, R484). -/
def State.writeStat (s : State) (off : Nat) (v : Word) : State :=
  if 0x4020 ≤ off && off < 0x4040 then s.modTile (Fin.ofNat 8 (off / 4)) fun t => { t with skip := t.skip.wipe (bit v 24) }
  else if off == 0x48A0 then
    allTiles.foldl (fun s n => s.modTile n fun t => { t with loss := t.loss.wipe (bit v (8 + n.val)), resend := t.resend.wipe (bit v n.val) }) s
  else if off == 0x5014 then s.modCores fun c => { c with faultCnt := c.faultCnt.wipe (bit v 21) }
  else if off == 0x5130 then
    s.modCores fun c =>
      { c with drop := c.drop.wipe (bit v 7), overrun := c.overrun.wipe (bit v 6), wback := c.wback.wipe (bit v 5),
               pageIn := c.pageIn.wipe (bit v 4), disp := c.disp.zipIdx.map fun e => e.1.wipe (bit v e.2) }
  else s
def kindOfCode (n : Nat) : CKind := match n with | 0 => .fixed | 1 => .pps | _ => .avs
/-- A write of PP_PATH_CTRL (R167, R168, R481): KIND 3 is ignored whole; the start is refused while a table runs, for an unchecked
RAM table, for a target outside 3.3–50.0 V, and on a port no table may enter. -/
def State.writePathCtrl (s : State) (a : Path6) (p : PortId) (v : Word) : State :=
  if ! s.expertOn a || bits v 6 2 == 3 then s
  else
    let n := bits v 0 5
    let mv := bits v 20 12 * 20
    let s1 := s.modPath p fun q => { q with ctrl := v &&& 0xFFFFFFDF#32 }
    if s.tileDeaf p then s1
    else if (s.port p).path.run || (decide (16 ≤ n) && ! s.stValid (n - 16)) || mv < 3300 || mv > 50000 || (s.port p).cc.noTable n then s1.sigSend p .refused
    else s1.startTable p n { purpose := .fixed, mv := mv, ma := bits v 8 12 * 5, kind := kindOfCode (bits v 6 2), rp := .dflt, minMv := 3300 }
/-- A per-port register (R475, R481). -/
def State.writePp (s : State) (a : Path6) (p : PortId) (r : Nat) (v : Word) : State :=
  if r == 0x34 then s.writePathCtrl a p v
  else if r == 0x7C then
    s.modCnt p fun c =>
      { c with onSec := c.onSec.wipe (bit v 3), hrst := c.hrst.wipe (bit v 2), attach := c.attach.wipe (bit v 1), trip := c.trip.wipe (bit v 0) }
  else s

/-! ### The write -/

/-- A write of a whole word of BAR0 on an access path (R355, R410, R470–R473). -/
def State.busWrite (s : State) (a : Path6) (off : Nat) (v : Word) (vpp : Nat) (slots : List Desc) : State :=
  if off % 4 != 0 then s
  else if s.offFenced off then s.modPwr fun w => { w with writeDrop := true }
  else if rwsMask off != (0#32, 0#32) then s.stageWrite off v (s.expertOn a)
  else match ppPort off with
    | some (p, r) => s.writePp a p r v
    | none =>
      if off < 0x1000 then s.writeHl off v slots
      else if off == 0x1800 then
        s.modHud fun h => { h with sealedWrite := h.sealedWrite && ! bit v 23, applyCnt := h.applyCnt.wipe (bit v 20), kickCnt := h.kickCnt.wipe (bit v 19) }
      else if off == 0x180C then s.writeKickCfg v
      else if off < 0x3000 then s.writePw a off v
      else if off < 0x4000 then s.writeFuUp a off v vpp
      else s.writeStat off v
/-- A host write; any takes the device out of IDLE (R401). -/
def State.hostWrite (s : State) (off : Nat) (v : Word) (vpp : Nat) : State :=
  if s.hostUp then s.toRun.busWrite .host off v vpp [] else s

/-! ### Rows that write -/

/-- Registers whose write is a row of its own: KICK, fuse, update, sequencer, referee, reset and ring control. -/
def ownRow (off : Nat) : Bool :=
  [0x180C, 0x2114, 0x280C, 0x3000, 0x300C, 0x3208, 0x3210, 0x3214].contains off || (0x100 ≤ off && off < 0x2C0 && off % 0x20 == 0x08)
    || (match ppPort off with | some (_, 0x34) => true | _ => false)
/-- REGISTER_WRITE (R355, R471, R472, R485): a write whose four byte enables are not all set is ignored. -/
def execRegisterWrite (off : Fin 65536) (be : BitVec 4) (v : BitVec 32) (s : State) : Out :=
  if be != 0xF#4 || ownRow off.val then ok s else ok (s.hostWrite off.val v 0)
/-- OVF bits of event counters, by register (R474). -/
def ovfMask (off : Nat) : Word :=
  match ppPort off with
  | some (_, 0x7C) => 0xF#32
  | some _ => 0#32
  | none =>
    if off == 0x0030 then 0x3#32
    else if off == 0x1800 then 0x180000#32
    else if off == 0x2104 then 0x80#32
    else if off == 0x2824 then 0x1#32
    else if off == 0x3008 then 0x08000000#32
    else if 0x4020 ≤ off && off < 0x4040 && off % 4 == 0 then 0x01000000#32
    else if off == 0x48A0 then 0xFFFF#32
    else if off == 0x5014 then 0x00200000#32
    else if off == 0x5130 then 0xFF#32
    else 0#32
/-- EVENT_COUNTER_OVF_CLEAR (R475): the write as it concerns OVF bits. -/
def execEventCounterOvfClear (off : Fin 65536) (v : BitVec 32) (s : State) : Out :=
  if ovfMask off.val == 0#32 then ok s else ok (s.hostWrite off.val (v &&& ovfMask off.val) 0)
/-- UP_ACTIVATE_AT_WRITE (R478). -/
def execUpActivateAtWrite (high : Bool) (v : BitVec 32) (s : State) : Out := ok (s.hostWrite (if high then 0x3214 else 0x3210) v 0)
/-- PATH_CTRL_WRITE (R168). -/
def execPathCtrlWrite (p : Fin 192) (v : BitVec 32) (s : State) : Out := ok (s.hostWrite (ppOff p.val 0x34) v 0)
/-- REF_CFG_WRITE (R394). -/
def execRefCfgWrite (v : BitVec 32) (s : State) : Out := ok (s.hostWrite 0x280C v 0)
/-- PW_CTRL_RESET (R413). -/
def execPwCtrlReset (s : State) : Out := ok (s.hostWrite 0x2114 1#32 0)
/-- UP_CTRL_ARM (R464): with the code of ARM. -/
def execUpCtrlArm (src : Fin 4) (s : State) : Out := ok (s.hostWrite 0x3208 (packWord [(src.val, 4, 2)]) 0)
/-- UP_CTRL_CANCEL (R457, R464). -/
def execUpCtrlCancel (s : State) : Out := ok (s.hostWrite 0x3208 8#32 0)
/-- UP_CTRL_SAVE (R459). -/
def execUpCtrlSave (s : State) : Out := ok (s.hostWrite 0x3208 4#32 0)
/-- UP_CTRL_CONFIRM (R462, R463); `vpp` is VPP in mV. -/
def execUpCtrlConfirm (vpp : Nat) (s : State) : Out := ok (s.hostWrite 0x3208 1#32 vpp)

/-! ### Rows that read -/

/-- Registers that hold error counters (R474). -/
def errorReg (off : Nat) : Bool :=
  match ppPort off with
  | some (_, r) => r == 0x10 || r == 0x14 || r == 0x18
  | none => off == 0x0024 || off == 0x281C || off == 0x3108 || (0x4840 ≤ off && off < 0x4860 && off % 4 == 0)
/-- An access path reaches BAR0. -/
def State.pathUp (s : State) (a : Path6) : Bool :=
  match a with
  | .host => s.hostUp
  | .svc => s.svcUp
  | .core _ => s.pwr.coresUp && s.pwr.dev != .deep
/-- A read on an access path; the word it returns is held as the last one (R471). -/
def State.busRead (s : State) (a : Path6) (off : Nat) : State :=
  if s.pathUp a then
    let s0 := match a with | .core _ => s | _ => s.toRun
    let (v, s1) := s0.regRead a off
    { s1 with bus := { s1.bus with readData := v } }
  else s
/-- ERROR_COUNTER_READ (R474, R476): the host or the service port clears what it reads. -/
def execErrorCounterRead (a : Path6) (off : Fin 65536) (s : State) : Out := if errorReg off.val then ok (s.busRead a off.val) else ok s
/-- SC_STORE_READ (R317). -/
def execScStoreRead (a : Path6) (s : State) : Out := ok (s.busRead a 0x5104)
/-- SC_LAT_READ (R317). -/
def execScLatRead (a : Path6) (s : State) : Out := ok (s.busRead a 0x5140)
/-- WIDE_VALUE_LOW_READ (R477). -/
def execWideValueLowRead (a : Path6) (off : Fin 65536) (s : State) : Out :=
  if (s.wide off.val).isSome then ok (s.busRead a off.val) else ok s

end Sys2Proof.Machine
end

