-- ==== Sys2Proof/Machine/Service.lean ====
section
/-! DEFINITION. The service port: autobaud, frames, and the service commands, one definition per row (R437–R449, R456, R457,
R459, R461, R462, R464). A row takes the frame that carries the command. -/
namespace Sys2Proof.Machine

/-! ### The line (R438, R441) -/

/-- AUTOBAUD_LOCK (R438): a rate within 115.2 kbit/s to 12 Mbit/s is locked. -/
def execAutobaudLock (rate : Nat) (s : State) : Out :=
  if s.svcUp && s.svc.baud == 0 && within rate 115200 12000000 then ok (s.modSvc fun v => { v with baud := rate }) else ok s
/-- SVC_LINE_IDLE (R438). -/
def execSvcLineIdle (s : State) : Out := if s.svcUp then ok (s.modSvc fun v => { v with baud := 0 }) else ok s
def State.frameLost (s : State) : State := s.modSvc fun v => { v with err := v.err.inc16 }
/-- What followed a sync byte is no frame: its length is above 4,104, or its CRC fails (R440, R441). -/
def svcFrameBad (raw : List Byte) : Bool :=
  let n := valLE (raw.take 2)
  decide (n > 4104) || BitVec.ofNat 32 (valLE ((raw.drop (5 + n)).take 4)) != crc32 (raw.take (5 + n)) || raw.length != n + 9
/-- SVC_FRAME_DISCARD (R441). -/
def execSvcFrameDiscard (raw : List (BitVec 8)) (s : State) : Out :=
  if s.svcHears && svcFrameBad raw then ok s.frameLost else ok s
/-- SVC_FRAME_GAP (R441): two of its bytes are more than 2 ms apart. -/
def execSvcFrameGap (us : Nat) (s : State) : Out := if s.svcHears && decide (us > 2000) then ok s.frameLost else ok s

/-! ### Sessions (R443–R449) -/

/-- The little-endian field of `n` bytes at a payload offset. -/
def SvcFrame.fld (f : SvcFrame) (off n : Nat) : Nat := valLE ((f.payload.drop off).take n)
/-- Service commands of R443. -/
def svcCommands : List Nat :=
  [1, 2, 3, 4, 5, 6, 0x10, 0x11, 0x12, 0x13, 0x14, 0x15, 0x20, 0x21, 0x22, 0x23, 0x24, 0x25, 0x26]
/-- SVC_UNKNOWN_COMMAND (R443, R461). -/
def execSvcUnknownCommand (f : SvcFrame) (cmd : BitVec 8) (s : State) : Out :=
  if svcCommands.contains cmd.toNat then ok s
  else ok (s.svcRun f cmd.toNat .none false true false fun s => s.svcNak f cmd.toNat .unknown [])
/-- HELLO (R443). -/
def execHello (f : SvcFrame) (s : State) : Out :=
  ok (s.svcRun f 1 .none false true true fun s =>
    if f.payload != [] then s.svcNak f 1 .badField []
    else
      let g := s.fuse
      let w := g.word 0x24
      s.svcReply f 1 (wordBytes ((List.range 4).map fun k => g.word (0x20 + k)) ++ bytesLE 2 (bits w 0 16) ++ bytesLE 1 (bits w 16 4) ++
        bytesLE 1 (bits w 20 8) ++ bytesLE 4 s.runVersion.toNat ++ bytesLE 1 g.floorValue ++ bytesLE 4 s.upStat.toNat))
/-- SVC_SESSION_OPEN (R434, R444, R445, R447). -/
def execSvcSessionOpen (f : SvcFrame) (s : State) : Out :=
  ok (s.svcRun f 2 .none false true true fun s =>
    match s.unitKey, levelOf (f.fld 0 1), f.payload.length == 1 with
    | some uk, some l, true =>
      if s.lockSecs != 0 then s.svcNak f 2 .lockedOut (bytesLE 2 s.lockSecs)
      else
        let (c, s1) := s.svcClose.takeKeys.newChallenge
        let n := s1.svc.nextSess
        (s1.modSvc fun v => { v with sess := n, nextSess := nextSession n, sessReq := l, challenge := c, openAt := s.aon, usedAt := s.aon }).svcReply f 2
          (bytesLE 1 n ++ chalBytes c ++ saltOf uk l)
    | none, some _, true => s.svcNak f 2 .state []
    | _, _, _ => s.svcNak f 2 .badField [])
/-- SVC_SESSION_PROVE (R446). -/
def execSvcSessionProve (f : SvcFrame) (s : State) : Out :=
  ok (s.svcRun f 3 .none false true true fun s =>
    let v := s.svc
    if ! s.ofSession f then s.svcNak f 3 .noSession []
    else if v.level == .tech && s.pwDue then s.svcNak f 3 .passwordChangeDue []
    else if f.payload.length != 32 then s.svcNak f 3 .badField []
    else if s.aon - v.openAt > secCycles 60 || ! s.proofOk v.sessReq v.challenge v.sess f.payload then
      s.svcClose.proofFailed.svcNak f 3 .proofFail []
    else (s.lockClear.modSvc fun v => { v with level := v.sessReq }).svcReply f 3 [v.sessReq.byte])
/-- SVC_SESSION_CLOSE (R444, R449, R457). -/
def execSvcSessionClose (f : SvcFrame) (s : State) : Out :=
  ok (s.svcRun f 4 .none false true true fun s =>
    if ! s.ofSession f then s.svcNak f 4 .noSession []
    else if f.payload != [] then s.svcNak f 4 .badField []
    else s.svcClose.svcReply f 4 [])
/-- SVC_SESSION_TIMEOUT (R444): 15 min without a valid frame that carries the session's number. -/
def execSvcSessionTimeout (s : State) : Out :=
  if s.svc.sess == 0 || decide (s.aon - s.svc.usedAt < secCycles 900) then ok s else ok s.svcClose
/-- PASSWORD_SET (R448): the new key takes effect at the next SESSION_OPEN; the key of an empty password is refused for TECH. -/
def execPasswordSet (f : SvcFrame) (s : State) : Out :=
  let tech := f.fld 0 1 == 2
  ok (s.svcRun f 5 .tech false tech true fun s =>
    match s.unitKey, f.payload.length == 33 && within (f.fld 0 1) 1 2 with
    | some uk, true =>
      let k := s.levelKey uk s.svc.level
      let mask := hmac k (ascii "HZPWSET" ++ chalBytes s.svc.challenge)
      let new := List.zipWith (· ^^^ ·) (f.payload.drop 1) mask
      if tech && new == sha256 (saltOf uk .tech) then s.svcNak f 5 .badField []
      else (s.modSvc fun v => if tech then { v with pwNext := some new } else { v with pwNextView := some new }).svcReply f 5 []
    | _, _ => s.svcNak f 5 .badField [])
/-- EXPERT_UNLOCK of either value (R449); a payload that names the other value belongs to the other row. -/
def State.svcUnlock (s : State) (f : SvcFrame) (on : Bool) : State :=
  if f.payload == [BitVec.ofNat 8 (b2n (! on))] then s
  else s.svcRun f 6 .tech false false true fun s =>
    if f.payload != [BitVec.ofNat 8 (b2n on)] then s.svcNak f 6 .badField [] else (s.modSvc fun v => { v with unlocked := on }).svcReply f 6 []
/-- SVC_EXPERT_UNLOCK (R449). -/
def execSvcExpertUnlock (f : SvcFrame) (s : State) : Out := ok (s.svcUnlock f true)
/-- SVC_EXPERT_RELOCK (R449). -/
def execSvcExpertRelock (f : SvcFrame) (s : State) : Out := ok (s.svcUnlock f false)

/-! ### Registers, the huddle, the log and the settings (R443, R459) -/

/-- Words read in order from an offset, each with its effects. -/
def State.svcReads (s : State) (off : Nat) : Nat → List Byte × State
  | 0 => ([], s)
  | n + 1 =>
    let (v, s1) := s.regRead .svc off
    let (r, s2) := s1.svcReads (off + 4) n
    (bytesLE 4 v.toNat ++ r, s2)
/-- REG_READ (R443, R471). -/
def execRegRead (f : SvcFrame) (s : State) : Out :=
  ok (s.svcRun f 0x10 .view false false false fun s =>
    let off := f.fld 0 2
    let n := f.fld 2 1
    if f.payload.length != 3 || off % 4 != 0 || ! within n 1 64 || decide (off + 4 * n > 65536) then s.svcNak f 0x10 .badField []
    else
      let (r, s1) := s.svcReads off n
      s1.svcReply f 0x10 r)
/-- REG_WRITE (R443, R471); `vpp` and `slots` serve a write that starts a fuse operation or drains a ring. -/
def execRegWrite (f : SvcFrame) (vpp : Nat) (slots : List Desc) (s : State) : Out :=
  ok (s.svcRun f 0x11 .tech false false false fun s =>
    if f.payload.length != 6 || f.fld 0 2 % 4 != 0 then s.svcNak f 0x11 .badField []
    else (s.busWrite .svc (f.fld 0 2) (BitVec.ofNat 32 (f.fld 2 4)) vpp slots).svcReply f 0x11 [])
/-- A HUDDLE command; a payload that names another operation belongs to its row. -/
def State.svcHuddle (s : State) (f : SvcFrame) (op : Nat) (g : State → State) : State :=
  if f.payload.length == 1 && f.fld 0 1 != op && within (f.fld 0 1) 1 4 then s
  else s.svcRun f 0x12 .tech false false false fun s => if f.payload.length != 1 || f.fld 0 1 != op then s.svcNak f 0x12 .badField [] else g s
/-- SVC_HUDDLE_CHECK (R360, R362, R443). -/
def execSvcHuddleCheck (f : SvcFrame) (s : State) : Out :=
  ok (s.svcHuddle f 1 fun s => let s1 := s.hudCheck.1; s1.svcReply f 0x12 s1.hdWords)
/-- HUDDLE ARM (R363, R443): it answers when the kickoff has applied; a failed check is answered at once. -/
def State.svcArm (s : State) (f : SvcFrame) (src : KickSource) : State :=
  if s.sealed then s.svcNak f 0x12 .busy []
  else if src == .kick && ! s.hud.join then s.svcNak f 0x12 .state []
  else
    let (s1, e) := if s.hud.state == .staged then s.hudCheck else (s, none)
    if e.isSome then s1.svcReply f 0x12 s1.hdWords else s1.hudArm src 0 none (some (f.sess, f.seq))
/-- SVC_HUDDLE_ARM_NEXT_BOUNDARY (R363, R443). -/
def execSvcHuddleArmNextBoundary (f : SvcFrame) (s : State) : Out := ok (s.svcHuddle f 2 fun s => s.svcArm f .nextBoundary)
/-- SVC_HUDDLE_ARM_KICK (R363, R367, R443). -/
def execSvcHuddleArmKick (f : SvcFrame) (s : State) : Out := ok (s.svcHuddle f 3 fun s => s.svcArm f .kick)
/-- SVC_HUDDLE_DISCARD (R365, R443). -/
def execSvcHuddleDiscard (f : SvcFrame) (s : State) : Out :=
  ok (s.svcHuddle f 4 fun s => let s1 := s.hudDiscard; s1.svcReply f 0x12 s1.hdWords)
/-- LOG_READ (R443): the records that exist, each of 64 bytes. -/
def execLogRead (f : SvcFrame) (s : State) : Out :=
  ok (s.svcRun f 0x14 .view false false false fun s =>
    if f.payload.length != 5 || ! within (f.fld 4 1) 1 64 then s.svcNak f 0x14 .badField []
    else s.svcReply f 0x14 (((s.upd.log.drop (f.fld 0 4)).take (f.fld 4 1)).flatMap fun r => (List.range 64).map fun k =>
      ((Config.logRecord r)[k]?).getD 0#8))
/-- SETTINGS_SAVE (R459). -/
def execSettingsSave (f : SvcFrame) (s : State) : Out :=
  ok (s.svcRun f 0x15 .tech false false false fun s =>
    if f.payload != [] then s.svcNak f 0x15 .badField []
    else match s.saveSettings with
      | some s1 => s1.svcReply f 0x15 []
      | none => s.svcNak f 0x15 .state [])

/-! ### Downloading (R456, R457, R461) -/

/-- The target of a download: the slot that is not running; with none running slot A, unless A is the only valid one (R456, R461). -/
def State.target (s : State) : Slot :=
  match s.upd.run with
  | some k => k.other
  | none => if s.slotValid .a && ! s.slotValid .b then .b else .a
/-- IMAGE_BEGIN (R452, R456): `good` says that the head page was written and reads back. -/
def execImageBegin (f : SvcFrame) (good : Bool) (s : State) : Out :=
  ok (s.svcRun f 0x20 .tech false false true fun s =>
    let h := f.payload
    if h.length != 4096 then s.svcNak f 0x20 .badField []
    else if s.upd.dl.isSome || s.upd.armed.isSome || s.upd.activating || s.upd.trial then s.svcNak f 0x20 .state []
    else match s.headCheck h true with
      | some e => s.svcNak f 0x20 .image (bytesLE 1 e)
      | none =>
        let t := s.target
        let s1 := (s.modUpd fun u => { u with staged := if u.staged == some t then none else u.staged }).eraseSlot t
        if ! good then s1.svcNak f 0x20 .image [0x0B#8]
        else
          let (tok, s2) := s1.freeWord
          let s3 := s2.modUpd fun u => { (u.setSlot t ⟨h, []⟩) with dl := some ⟨t, tok, 0⟩ }
          (s3.postUpd .downloading (s3.upd.version t)).svcReply f 0x20 (bytesLE 4 tok.toNat ++ bytesLE 2 (headBlocks h)))
/-- A command of the download in progress, its token at a payload offset (R456, R457). -/
def State.svcDownload (s : State) (f : SvcFrame) (cmd len off : Nat) (g : State → Download → State) : State :=
  s.svcRun f cmd .tech false false true fun s =>
    if f.payload.length != len then s.svcNak f cmd .badField []
    else match s.upd.dl with
      | none => s.svcNak f cmd .state []
      | some d => if f.fld off 4 != d.token.toNat then s.svcNak f cmd .badField [] else g s d
/-- IMAGE_BLOCK (R456): `good` says that the block was written and reads back. -/
def execImageBlock (f : SvcFrame) (good : Bool) (s : State) : Out :=
  ok (s.svcDownload f 0x21 4104 4 fun s d =>
    let q := s.upd.slot d.slot
    let b := f.payload.drop 8
    if f.fld 2 2 != 0 then s.svcNak f 0x21 .badField []
    else if f.fld 0 2 != d.next || decide (headBlocks q.head ≤ d.next) then s.svcNak f 0x21 .sequence (bytesLE 2 d.next)
    else if crc32 b != headCrc q.head d.next then s.svcNak f 0x21 .image [0x0A#8]
    else if ! good then s.svcNak f 0x21 .image [0x0B#8]
    else
      (s.modUpd fun u => { (u.setSlot d.slot { q with blocks := q.blocks ++ [b] }) with dl := some { d with next := d.next + 1 } }).svcReply
        f 0x21 (bytesLE 2 (d.next + 1)))
/-- IMAGE_RESUME (R456). -/
def execImageResume (f : SvcFrame) (s : State) : Out := ok (s.svcDownload f 0x22 4 0 fun s d => s.svcReply f 0x22 (bytesLE 2 d.next))
/-- IMAGE_END (R456): the whole slot is read again; `good` says that it reads back. -/
def execImageEnd (f : SvcFrame) (good : Bool) (s : State) : Out :=
  ok (s.svcDownload f 0x23 4 0 fun s d =>
    let q := s.upd.slot d.slot
    if d.next != headBlocks q.head then s.svcNak f 0x23 .sequence (bytesLE 2 d.next)
    else if ! good then s.endDownload.svcNak f 0x23 .image [0x0B#8]
    else if ! q.blocksOk then s.endDownload.svcNak f 0x23 .image [0x0A#8]
    else
      ((s.modUpd fun u => { u with dl := none, staged := some d.slot }).svcReply f 0x23 []).postUpd .staged (s.upd.version d.slot))

/-! ### Activation (R457, R461, R462, R464) -/

/-- ACTIVATE with a source; a payload that names another source belongs to its row. -/
def State.svcActivate (s : State) (f : SvcFrame) (code len : Nat) (src : ArmSource) : State :=
  if f.fld 0 1 != code && within (f.fld 0 1) 1 3 then s
  else s.svcRun f 0x24 .tech false false (src == .now) fun s =>
    if f.payload.length != len || f.fld 0 1 != code then s.svcNak f 0x24 .badField []
    else match s.armBad src (f.fld 1 6) with
      | some k => s.svcNak f 0x24 k []
      | none => ((s.modUpd fun u => { u with actAt := if src == .atTime then f.fld 1 6 else u.actAt }).armUpd src).svcReply f 0x24 []
/-- ACTIVATE_NOW (R461, R464). -/
def execActivateNow (f : SvcFrame) (s : State) : Out := ok (s.svcActivate f 1 1 .now)
/-- ACTIVATE_AT_TIME (R464). -/
def execActivateAtTime (f : SvcFrame) (s : State) : Out := ok (s.svcActivate f 2 7 .atTime)
/-- ACTIVATE_KICK (R464). -/
def execActivateKick (f : SvcFrame) (s : State) : Out := ok (s.svcActivate f 3 1 .kick)
/-- CONFIRM (R462, R463); `vpp` is VPP in mV. -/
def execConfirm (f : SvcFrame) (vpp : Nat) (s : State) : Out :=
  ok (s.svcRun f 0x25 .tech false false false fun s =>
    if f.payload != [] then s.svcNak f 0x25 .badField []
    else if s.upd.trial && s.upd.healthy then (s.confirm vpp).svcReply f 0x25 []
    else s.svcNak f 0x25 .state [])
/-- CANCEL (R457, R464). -/
def execCancel (f : SvcFrame) (s : State) : Out :=
  ok (s.svcRun f 0x26 .tech false false false fun s =>
    if f.payload != [] then s.svcNak f 0x26 .badField []
    else match s.updCancel with
      | some s1 => s1.svcReply f 0x26 []
      | none => s.svcNak f 0x26 .state [])

end Sys2Proof.Machine
end

