-- ==== Sys2Proof/Machine/Clock.lean ====
section
/-! DEFINITION. What the block does while no command waits: one cycle of its 32.768 kHz clock (R397, R399, log entry 3). -/
namespace Sys2Proof.Machine

/-- The time the conditions of R402 have held without interruption begins, goes on or ends. -/
def State.dwellTick (s : State) : State :=
  s.modPwr fun w => { w with deepSince := if w.dev == .deep || ! w.deepEn || ! s.deepConds.all id then none else some (w.deepSince.getD s.aon) }
/-- What the hub time base gains in an AON cycle: 1/32768 s in 1/512 µs, none in DEEP, where the PLL is off (R288, R396). -/
def State.hubStep (s : State) : Nat := if s.pwr.dev == .deep then 0 else 15625
/-- One AON cycle: the RTC, AON's count and the hub time base advance, a FEED_CONTROL ENABLE that has waited 10 s completes TIMEOUT, and the dwell of R402
goes on (R205, R399, R402). -/
def State.tick (s : State) : State := ({ s with rtc := (s.rtc + 1) % 2 ^ 63, aon := s.aon + 1, hub := s.hub + s.hubStep }).feedTimeouts.dwellTick

end Sys2Proof.Machine
end

