-- ==== Sys2Proof/Machine/Flags.lean ====
section
/-! DEFINITION. Results and flags of the Miloir ALU and multiplier (R285, R286). Flags are V, C, N, Z in bits 3 to 0. -/
namespace Sys2Proof.Machine

def flagBits (v c n z : Bool) : BitVec 4 := BitVec.ofBool v ++ BitVec.ofBool c ++ BitVec.ofBool n ++ BitVec.ofBool z
/-- Z and N of a result; C and V clear (R285: AND, OR, XOR, PASS and the shifts). -/
def logicFlags (r : Word) : BitVec 4 := flagBits false false r.msb (r == 0#32)
/-- Flags of ADD: C is the carry out, V the signed overflow (R285). -/
def addFlags (a b : Word) : BitVec 4 :=
  let r := a + b
  flagBits (a.msb == b.msb && r.msb != a.msb) (decide (2 ^ 32 ≤ a.toNat + b.toNat)) r.msb (r == 0#32)
/-- Flags of SUB: C is the borrow, V the signed overflow (R285). -/
def subFlags (a b : Word) : BitVec 4 :=
  let r := a - b
  flagBits (a.msb != b.msb && r.msb != a.msb) (decide (a.toNat < b.toNat)) r.msb (r == 0#32)

/-- The operations of the ALU (R273). -/
inductive AluOp | add | sub | and | or | xor | shl | shr | sar | eq | ltu | lts | minu | maxu | pass
deriving DecidableEq, Repr, Inhabited

/-- Result of an ALU trigger on operand A and the value B written (R273). -/
def AluOp.result (o : AluOp) (a b : Word) : Word :=
  let flag := fun c : Bool => if c then 1#32 else 0#32
  let n := b.toNat % 32
  match o with
  | .add => a + b
  | .sub => a - b
  | .and => a &&& b
  | .or => a ||| b
  | .xor => a ^^^ b
  | .shl => a <<< n
  | .shr => a >>> n
  | .sar => a.sshiftRight n
  | .eq => flag (a == b)
  | .ltu => flag (decide (a.toNat < b.toNat))
  | .lts => flag (decide (a.toInt < b.toInt))
  | .minu => if a.toNat < b.toNat then a else b
  | .maxu => if a.toNat < b.toNat then b else a
  | .pass => b
/-- Flags of an ALU trigger (R285). -/
def AluOp.flags (o : AluOp) (a b : Word) : BitVec 4 :=
  match o with
  | .add => addFlags a b
  | .sub | .eq | .ltu | .lts | .minu | .maxu => subFlags a b
  | .and | .or | .xor | .shl | .shr | .sar | .pass => logicFlags (o.result a b)

/-- The operations of the multiplier (R273). -/
inductive MulOp | mulu | muls | divu | divs
deriving DecidableEq, Repr, Inhabited

/-- MUL.LO and MUL.HI after a trigger (R286). -/
def MulOp.result (o : MulOp) (a b : Word) : Word × Word :=
  match o with
  | .mulu => (BitVec.ofNat 32 (a.toNat * b.toNat), BitVec.ofNat 32 (a.toNat * b.toNat / 2 ^ 32))
  | .muls => (BitVec.ofInt 32 (a.toInt * b.toInt), BitVec.ofInt 32 (a.toInt * b.toInt / 2 ^ 32))
  | .divu => if b == 0#32 then (0xFFFFFFFF#32, a) else (BitVec.ofNat 32 (a.toNat / b.toNat), BitVec.ofNat 32 (a.toNat % b.toNat))
  | .divs =>
    if b == 0#32 then (0xFFFFFFFF#32, a)
    else (BitVec.ofInt 32 (Int.tdiv a.toInt b.toInt), BitVec.ofInt 32 (Int.tmod a.toInt b.toInt))
/-- Cycles of a multiplier trigger (R276). -/
def MulOp.cycles : MulOp → Nat
  | .mulu | .muls => 1
  | .divu | .divs => 34

end Sys2Proof.Machine
end

