-- ==== Sys2Proof/Machine/Miloir.lean ====
section
/-! DEFINITION. The moves of the Miloir cores: fetch, checks, guard, cost, and one meaning per trigger port (R268–R294).
A row of a trigger acts where the core's next move has that trigger as its destination; MOVE is a move to any other port, and a
fetch that faults; ILLEGAL_MOVE is a move that R271 or R274 refuses. -/
namespace Sys2Proof.Machine

/-! ### Carrying out a move -/

/-- How a move ends: it is done with its cost and the offset of the next move; it ends the dispatch; or it faults with a cause,
a sub-cause, a trap code, and the poisoned word for ECC. -/
inductive MoveEnd
  | done (s : State) (cycles next : Nat)
  | wait (s : State) (retain : Bool)
  | fault (cause : CtxCause) (sub : Nat) (trap : BitVec 16) (ecc : Option (Nat × Nat))

/-- A SEG fault. -/
def segFault (sub : Nat) : MoveEnd := .fault .seg sub 0#16 none
/-- An ECC fault. -/
def eccFault (e : Nat × Nat) : MoveEnd := .fault .ecc 0 0#16 (some e)

/-- The fetch of the move a core comes to: the word, or the fault (R281, R283, R292). -/
def State.fetch (s : State) (k : CoreId) : Word × Option MoveEnd :=
  let pc := (s.coreAt k).pc
  if pc + 4 > (s.seg k 0).limit then ((s.freeWord).1, some (segFault subLimit))
  else match s.poisoned k .code pc 4 with
    | some e => ((s.freeWord).1, some (eccFault e))
    | none => (BitVec.ofNat 32 (valLE (Memory.reads s.cores.code pc 4)), none)

/-- The fetch corrects a single-bit error of the word (R296). -/
def State.fetched (s : State) (k : CoreId) : State := s.softFix 1 (s.coreAt k).pc 4

/-- A core is in a dispatch whose budget is not spent (R268, R311). -/
def State.canMove (s : State) (k : CoreId) : Bool :=
  (s.coreAt k).state == CoreState.run && decide ((s.coreAt k).moves < s.param 0xB004)

/-- The end of a move takes effect on the core (R277, R280, R292–R294); a faulting move changes nothing else. -/
def State.finishMove (s : State) (k : CoreId) (w : Word) (e : MoveEnd) : State :=
  let pc := (s.coreAt k).pc
  match e with
  | .done s1 cy nx => s1.modCore k fun c => { c with moves := c.moves + cy, lastPc := pc, lastWord := w, pc := nx }
  | .wait s1 r => s1.endDispatch k r
  | .fault cause sub trap ecc =>
    let s1 := match ecc with | some m => s.eccError m.1 m.2 | none => s
    s1.dispatchFault k cause sub pc w trap

/-- The value a move carries (R270, R275). -/
def State.moveValue (s : State) (k : CoreId) (src : MvSrc) : Word × State :=
  match src with
  | .imm v => (v, s)
  | .port n => s.readPort k n

/-- A core's next move, where `mine` holds of its destination, is carried out: source, guard, then `act` on the value (R275, R278). -/
def State.issue (s : State) (k : CoreId) (mine : Nat → Bool) (act : State → Word → MoveEnd) : State :=
  if ! s.canMove k then s
  else match s.fetch k with
    | (_, some _) => s
    | (w, none) =>
      match moveFault w, decodeMove w with
      | none, some m =>
        let sf := s.fetched k
        if ! mine m.dst then s
        else if ! (s.coreAt k).guardOk m.guard then sf.finishMove k w (.done sf 1 ((s.coreAt k).pc + 4))
        else
          let (b, s1) := sf.moveValue k m.src
          sf.finishMove k w (act s1 b)
      | _, _ => s
/-- A trigger's move. -/
def State.trigger (s : State) (k : CoreId) (a : Nat) (act : State → Word → MoveEnd) : State := s.issue k (· == a) act
/-- A move that is done in `cy` cycles and goes on to the next. -/
def State.doneIn (s : State) (k : CoreId) (cy : Nat) : MoveEnd := .done s cy ((s.coreAt k).pc + 4)

/-- MOVE (R269–R279): a move to a port that is no trigger; a fetch beyond S0 or of a poisoned word faults. -/
def execMove (k : Fin 4) (s : State) : Out :=
  if s.canMove k && (s.fetch k).2.isSome then
    match s.fetch k with
    | (w, some e) => ok (({ s with freeCtr := s.freeCtr + 1 } : State).finishMove k w e)
    | _ => ok s
  else ok (match decodeMove (s.fetch k).1 with
    | some m => s.issue k (fun d => portKind d != some .t) fun s1 b =>
        match s1.writePort k m.dst b with
        | some s2 => s2.doneIn k 1
        | none => segFault subStack
    | none => s)

/-- ILLEGAL_MOVE (R271, R274): the decode and port checks fail, whatever the guard. -/
def execIllegalMove (k : Fin 4) (s : State) : Out :=
  if ! s.canMove k then ok s
  else match s.fetch k with
    | (_, some _) => ok s
    | (w, none) =>
      match moveFault w with
      | some (c, sub) => ok ((s.fetched k).finishMove k w (.fault c sub 0#16 none))
      | none => ok s

/-! ### ALU (R285) and MUL (R286) -/

def State.alu (s : State) (k : CoreId) (a : Nat) (o : AluOp) : State :=
  s.trigger k a fun s b => (s.modCore k fun c => { c with aluR := o.result c.aluA b, aluF := o.flags c.aluA b }).doneIn k 1
/-- ALU.ADD.T (R285). -/
def execAluAddT (k : Fin 4) (s : State) : Out := ok (s.alu k 0x010 .add)
/-- ALU.SUB.T (R285). -/
def execAluSubT (k : Fin 4) (s : State) : Out := ok (s.alu k 0x011 .sub)
/-- ALU.AND.T (R285). -/
def execAluAndT (k : Fin 4) (s : State) : Out := ok (s.alu k 0x012 .and)
/-- ALU.OR.T (R285). -/
def execAluOrT (k : Fin 4) (s : State) : Out := ok (s.alu k 0x013 .or)
/-- ALU.XOR.T (R285). -/
def execAluXorT (k : Fin 4) (s : State) : Out := ok (s.alu k 0x014 .xor)
/-- ALU.SHL.T (R285). -/
def execAluShlT (k : Fin 4) (s : State) : Out := ok (s.alu k 0x015 .shl)
/-- ALU.SHR.T (R285). -/
def execAluShrT (k : Fin 4) (s : State) : Out := ok (s.alu k 0x016 .shr)
/-- ALU.SAR.T (R285). -/
def execAluSarT (k : Fin 4) (s : State) : Out := ok (s.alu k 0x017 .sar)
/-- ALU.EQ.T (R285). -/
def execAluEqT (k : Fin 4) (s : State) : Out := ok (s.alu k 0x018 .eq)
/-- ALU.LTU.T (R285). -/
def execAluLtuT (k : Fin 4) (s : State) : Out := ok (s.alu k 0x019 .ltu)
/-- ALU.LTS.T (R285). -/
def execAluLtsT (k : Fin 4) (s : State) : Out := ok (s.alu k 0x01A .lts)
/-- ALU.MINU.T (R285). -/
def execAluMinuT (k : Fin 4) (s : State) : Out := ok (s.alu k 0x01B .minu)
/-- ALU.MAXU.T (R285). -/
def execAluMaxuT (k : Fin 4) (s : State) : Out := ok (s.alu k 0x01C .maxu)
/-- ALU.PASS.T (R285). -/
def execAluPassT (k : Fin 4) (s : State) : Out := ok (s.alu k 0x01D .pass)

def State.mul (s : State) (k : CoreId) (a : Nat) (o : MulOp) : State :=
  s.trigger k a fun s b =>
    (s.modCore k fun c => { c with mulLo := (o.result c.mulA b).1, mulHi := (o.result c.mulA b).2 }).doneIn k o.cycles
/-- MUL.MULU.T (R286). -/
def execMulMuluT (k : Fin 4) (s : State) : Out := ok (s.mul k 0x110 .mulu)
/-- MUL.MULS.T (R286). -/
def execMulMulsT (k : Fin 4) (s : State) : Out := ok (s.mul k 0x111 .muls)
/-- MUL.DIVU.T (R286). -/
def execMulDivuT (k : Fin 4) (s : State) : Out := ok (s.mul k 0x112 .divu)
/-- MUL.DIVS.T (R286). -/
def execMulDivsT (k : Fin 4) (s : State) : Out := ok (s.mul k 0x113 .divs)

/-! ### LSU (R276, R283, R284, R287, R290) -/

/-- A tile register of BAR0 (R410, R473). -/
def tileReg (off : Nat) : Bool := match ppPort off with | some (_, r) => ppTile r | none => false
/-- Cycles of an LSU access and the state after taking them: a tile register takes a number of cycles up to 800 that the
manual does not fix (R276). -/
def State.lsuCycles (s : State) (n off : Nat) : Nat × State :=
  match n with
  | 3 | 5 => (1, s)
  | 4 => (4, s)
  | 6 => if tileReg off then (1 + (s.freeWord).1.toNat % 800, (s.freeWord).2) else (8, s)
  | _ => (2, s)
/-- A load of `width` bytes, sign-extended where `sx`. -/
def State.lsuLoad (s : State) (k : CoreId) (a width : Nat) (sx : Bool) : State :=
  s.trigger k a fun s b =>
    let n := (s.coreAt k).seg
    let off := b.toNat
    let g := s.seg k n
    match s.accessFault k n off width false false, s.poisoned k g.mem (g.base + off) width with
    | some sub, _ => segFault sub
    | none, some e => eccFault e
    | none, none =>
      let (cy, s1) := (s.accessFix k g.mem (g.base + off) width).lsuCycles n off
      let (v, s2) := if g.mem == .regs then s1.regRead (.core k) off
        else (BitVec.ofNat 32 (valLE (s1.memReads g.mem (g.base + off) width)), s1)
      let v1 := if sx then BitVec.ofInt 32 (Sys2Proof.Machine.signed (8 * width) v.toNat) else v
      (s2.modCore k fun c => { c with lsuR := v1 }).doneIn k cy
/-- Bytes stored into a segment; the slot of a context or message area becomes dirty (R307). -/
def State.segStore (s : State) (k : CoreId) (g : Seg) (off : Nat) (l : List Byte) : State :=
  let s1 := s.memWrites g.mem (g.base + off) l
  match g.mem, (s.coreAt k).port with
  | .bench, some p => s1.modSc p fun c => { c with dirty := true }
  | _, _ => s1
/-- A store of the low `width` bytes of LSU.D. -/
def State.lsuStore (s : State) (k : CoreId) (a width : Nat) : State :=
  s.trigger k a fun s b =>
    let n := (s.coreAt k).seg
    let off := b.toNat
    let g := s.seg k n
    match s.accessFault k n off width true false, s.poisoned k g.mem (g.base + off) width with
    | some sub, _ => segFault sub
    | none, some e => eccFault e
    | none, none =>
      let (cy, s1) := (s.accessFix k g.mem (g.base + off) width).lsuCycles n off
      (s1.segStore k g off (bytesLE width (s.coreAt k).lsuD.toNat)).doneIn k cy
/-- LSU.LD32.T (R283, R284). -/
def execLsuLd32T (k : Fin 4) (s : State) : Out := ok (s.lsuLoad k 0x210 4 false)
/-- LSU.LD16.T (R283). -/
def execLsuLd16T (k : Fin 4) (s : State) : Out := ok (s.lsuLoad k 0x211 2 false)
/-- LSU.LD16S.T (R283). -/
def execLsuLd16sT (k : Fin 4) (s : State) : Out := ok (s.lsuLoad k 0x212 2 true)
/-- LSU.LD8.T (R283). -/
def execLsuLd8T (k : Fin 4) (s : State) : Out := ok (s.lsuLoad k 0x213 1 false)
/-- LSU.LD8S.T (R283). -/
def execLsuLd8sT (k : Fin 4) (s : State) : Out := ok (s.lsuLoad k 0x214 1 true)
/-- LSU.ST32.T (R283). -/
def execLsuSt32T (k : Fin 4) (s : State) : Out := ok (s.lsuStore k 0x218 4)
/-- LSU.ST16.T (R283). -/
def execLsuSt16T (k : Fin 4) (s : State) : Out := ok (s.lsuStore k 0x219 2)
/-- LSU.ST8.T (R283). -/
def execLsuSt8T (k : Fin 4) (s : State) : Out := ok (s.lsuStore k 0x21A 1)
/-- LSU.AADD.T (R283, R287): S4 only; R takes the old word. -/
def execLsuAaddT (k : Fin 4) (s : State) : Out :=
  ok (s.trigger k 0x21C fun s b =>
    let n := (s.coreAt k).seg
    let off := b.toNat
    let g := s.seg k n
    match s.accessFault k n off 4 false true, s.poisoned k g.mem (g.base + off) 4 with
    | some sub, _ => segFault sub
    | none, some e => eccFault e
    | none, none =>
      let old : Word := BitVec.ofNat 32 (valLE (s.memReads g.mem (g.base + off) 4))
      (((s.accessFix k g.mem (g.base + off) 4).segStore k g off (bytesLE 4 (old + (s.coreAt k).lsuD).toNat)).modCore k fun c => { c with lsuR := old }).doneIn k 6)

/-! ### BR (R276, R281) -/

/-- A jump to a target, with its check. -/
def State.jumpTo (s : State) (k : CoreId) (t : Nat) : MoveEnd :=
  match s.targetFault k t with
  | some sub => segFault sub
  | none => .done s 2 t
/-- BR.JMP.T (R281). -/
def execBrJmpT (k : Fin 4) (s : State) : Out := ok (s.trigger k 0x310 fun s b => s.jumpTo k b.toNat)
/-- BR.REL.T (R273, R281): PC + 4 × B, as a 32-bit offset. -/
def execBrRelT (k : Fin 4) (s : State) : Out :=
  ok (s.trigger k 0x311 fun s b => s.jumpTo k (BitVec.ofNat 32 (s.coreAt k).pc + 4#32 * b).toNat)
/-- BR.CALL.T (R281). -/
def execBrCallT (k : Fin 4) (s : State) : Out :=
  ok (s.trigger k 0x312 fun s b =>
    let c := s.coreAt k
    let g := s.seg k 2
    match s.targetFault k b.toNat with
    | some sub => segFault sub
    | none =>
      if c.sp < 4 then segFault subStack
      else match s.poisoned k .code (g.base + (c.sp - 4)) 4 with
        | some e => eccFault e
        | none => .done (((s.accessFix k .code (g.base + (c.sp - 4)) 4).memWrites .code (g.base + (c.sp - 4)) (bytesLE 4 (c.pc + 4))).modCore k fun c => { c with sp := c.sp - 4 }) 3 b.toNat)
/-- BR.RET.T (R281). -/
def execBrRetT (k : Fin 4) (s : State) : Out :=
  ok (s.trigger k 0x313 fun s _ =>
    let c := s.coreAt k
    let g := s.seg k 2
    if c.sp + 4 > g.limit then segFault subStack
    else match s.poisoned k .code (g.base + c.sp) 4 with
      | some e => eccFault e
      | none =>
        let t := valLE (s.memReads .code (g.base + c.sp) 4)
        match s.targetFault k t with
        | some sub => segFault sub
        | none => .done ((s.accessFix k .code (g.base + c.sp) 4).modCore k fun c => { c with sp := c.sp + 4 }) 3 t)

/-! ### TMR (R288) -/

/-- The selected timer of the dispatched port is set or stopped; an expiry still queued is withdrawn. -/
def State.setTimer (s : State) (k : CoreId) (t : Option PortTimer) : State :=
  let c := s.coreAt k
  match c.port with
  | some p => (s.withdrawTimer p c.tmrSel).modSc p fun q => { q with timers := q.timers.set c.tmrSel t }
  | none => s
/-- A start for B[23:0]; 0 stops. -/
def State.startTimer (s : State) (k : CoreId) (ms : Bool) (b : Word) : State :=
  s.setTimer k (if bits b 0 24 == 0 then none else some ⟨ms, bits b 0 24, s.hub⟩)
/-- TMR.US.T (R288). -/
def execTmrUsT (k : Fin 4) (s : State) : Out := ok (s.trigger k 0x610 fun s b => (s.startTimer k false b).doneIn k 1)
/-- TMR.MS.T (R288). -/
def execTmrMsT (k : Fin 4) (s : State) : Out := ok (s.trigger k 0x611 fun s b => (s.startTimer k true b).doneIn k 1)
/-- TMR.STOP.T (R288). -/
def execTmrStopT (k : Fin 4) (s : State) : Out := ok (s.trigger k 0x612 fun s _ => (s.setTimer k none).doneIn k 1)

/-! ### EVT and MSG (R280, R289, R290) -/

/-- Unit status codes (R289). -/
def stOk : Word := 0#32
def stBusy : Word := 1#32
def stRefused : Word := 2#32
def stFenced : Word := 3#32
def stBad : Word := 4#32
/-- An EVT trigger leaves its status. -/
def State.evtDone (s : State) (k : CoreId) (st : Word) : MoveEnd := (s.modCore k fun c => { c with evS := st }).doneIn k 2
/-- A MSG trigger leaves its status. -/
def State.msgDone (s : State) (k : CoreId) (st : Word) : MoveEnd := (s.modCore k fun c => { c with msgS := st }).doneIn k 2

/-- EVT.WAIT.T (R280, R313): the dispatch ends after this move. -/
def execEvtWaitT (k : Fin 4) (s : State) : Out := ok (s.trigger k 0x710 fun s b => .wait s (bit b 0))
/-- EVT.POST.T (R289, R300): BAD beyond P191, BUSY where the destination has no entry free. -/
def execEvtPostT (k : Fin 4) (s : State) : Out :=
  ok (s.trigger k 0x711 fun s b =>
    let c := s.coreAt k
    if h : c.evTo.toNat < 192 then
      let p : PortId := ⟨c.evTo.toNat, h⟩
      if ! (s.port p).sc.quar && ! entryFree (s.port p).sc.q .housekeeping then s.evtDone k stBusy
      else (s.queueEv p { mkEv s .housekeeping 1 b with tag := BitVec.ofNat 16 ((c.port.map (·.val)).getD 0) }).evtDone k stOk
    else s.evtDone k stBad)
/-- EVT.HEVT.T (R289): the event is posted under the flow control of R343 and R344; a code R342 does not list is never written. -/
def execEvtHevtT (k : Fin 4) (s : State) : Out :=
  ok (s.trigger k 0x712 fun s _ =>
    let ws := (s.coreAt k).hw
    let n := bits ((ws[1]?).getD 0#32) 0 16
    let b := EvtBody.firmware ws
    let p : Option PortId := if h : n < 192 then some ⟨n, h⟩ else none
    (if 1 ≤ b.code && b.code ≤ 0x19 then s.postEvt p b else s).evtDone k stOk)
/-- EVT.HCPL.T (R289, R338, R339): FENCED while the host domain is fenced; BAD for a completion code or a ring number outside
its defined set; BUSY where the CPL ring has no room. The completion it writes is no longer owed. -/
def execEvtHcplT (k : Fin 4) (s : State) : Out :=
  ok (s.trigger k 0x713 fun s _ =>
    let ws := (s.coreAt k).hw
    let w := fun n : Nat => (ws[n]?).getD 0#32
    let ring := bits (w 2) 0 8
    let idx : BitVec 16 := BitVec.ofNat 16 (bits (w 2) 16 16)
    if s.hostFenced then s.evtDone k stFenced
    else if ! isHostRing ring || decide (bits (w 1) 16 8 > 15) then s.evtDone k stBad
    else if ! (s.ring (cplRing ring)).room then s.evtDone k stBusy
    else
      let mine := fun x : Waiting => x.ring == ring && x.idx == idx
      let irq := (s.link.waiting.filter mine).any (·.irq)
      let s1 := s.modLink fun l => { l with waiting := l.waiting.filter fun x => ! mine x }
      ((s1.ringWrite (cplRing ring) (.record ws) irq).drained ring).evtDone k stOk)

/-- MSG.SEND.T (R68, R289, R290): BAD, FENCED, REFUSED and BUSY are tested in this order. -/
def execMsgSendT (k : Fin 4) (s : State) : Out :=
  ok (s.trigger k 0x810 fun s b =>
    let c := s.coreAt k
    let sop := bits c.txFlags 4 2
    match c.port with
    | none => s.msgDone k stRefused
    | some p =>
      let g := s.seg k 5
      if ! within b.toNat 2 264 || sop == 3 then s.msgDone k stBad
      else if s.portFenced p then s.msgDone k stFenced
      else if (s.port p).cc.state != .attached || (sop != 0 && (s.port p).path.vconn == 0) then s.msgDone k stRefused
      else if (s.port p).pd.tx.isSome then s.msgDone k stBusy
      else match s.poisoned k .bench (g.base + 0x202) b.toNat with
        | some e => eccFault e
        | none =>
          let kind := match bits c.txFlags 8 2 with | 1 => CKind.fixed | 2 => .pps | 3 => .avs | _ => .none
          let bytes := s.memReads .bench (g.base + 0x202) b.toNat
          ((s.accessFix k .bench (g.base + 0x202) b.toNat).toTx p (rawMsg (sopOf sop) bytes (bit c.txFlags 0) (bit c.txFlags 1) kind .none)).msgDone k stOk)

/-- The purpose that a posted code stands for (R290). -/
def postPurpose (n : Nat) : Option Purpose :=
  match n with
  | 1 => some .fixed | 2 => some .prog | 4 => some .errRec | 6 => some .limit | 7 => some .vconnOn | 8 => some .vconnOff | _ => none
/-- MSG.POST.T (R167, R289, R290). -/
def execMsgPostT (k : Fin 4) (s : State) : Out :=
  ok (s.trigger k 0x812 fun s b =>
    match (s.coreAt k).port with
    | none => s.msgDone k stRefused
    | some p =>
      let kind := bits b 6 2
      let n := bits b 0 4
      if kind == 3 || (n != 0xF && (postPurpose n).isNone) then s.msgDone k stBad
      else if s.portFenced p then s.msgDone k stFenced
      else match postPurpose n with
        | none => (s.msgEvent p 1).msgDone k stOk
        | some u =>
          let ck := match kind with | 0 => CKind.fixed | 1 => .pps | _ => .avs
          let r : Post := { purpose := u, mv := bits b 20 12 * 20, ma := bits b 8 12 * 5, kind := ck, rp := .dflt, minMv := (s.port p).path.regMin }
          (s.post p r).msgDone k stOk)
/-- MSG.HRST.T (R67, R167, R290): Hard_Reset is sent outside the message table and ST03 posted. -/
def execMsgHrstT (k : Fin 4) (s : State) : Out :=
  ok (s.trigger k 0x813 fun s _ =>
    match (s.coreAt k).port with
    | none => s.msgDone k stRefused
    | some p =>
      if s.portFenced p then s.msgDone k stFenced
      else if (s.port p).cc.state != .attached then s.msgDone k stRefused
      else (s.hardResetSent p .hardResetSent false).msgDone k stOk)

/-! ### CRC (R291) and SYS (R292) -/

/-- CRC.INIT.T (R291). -/
def execCrcInitT (k : Fin 4) (s : State) : Out :=
  ok (s.trigger k 0x910 fun s _ => (s.modCore k fun c => { c with crc := 0xFFFFFFFF#32 }).doneIn k 1)
/-- CRC.B8.T (R291). -/
def execCrcB8T (k : Fin 4) (s : State) : Out :=
  ok (s.trigger k 0x911 fun s b => (s.modCore k fun c => { c with crc := crcByte c.crc (b.setWidth 8) }).doneIn k 1)
/-- CRC.W32.T (R291): least significant byte first. -/
def execCrcW32T (k : Fin 4) (s : State) : Out :=
  ok (s.trigger k 0x912 fun s b => (s.modCore k fun c => { c with crc := crcBytes c.crc (bytesLE 4 b.toNat) }).doneIn k 1)
/-- SYS.TRAP.T (R292): a TRAP fault with code B[15:0]. -/
def execSysTrapT (k : Fin 4) (s : State) : Out := ok (s.trigger k 0xB10 fun _ b => .fault .trap 0 (b.setWidth 16) none)

end Sys2Proof.Machine
end

