-- ==== Sys2Proof/Machine/Dispatch.lean ====
section
/-! DEFINITION. What each command does: one arm per constructor of `Instr`, each a call of its meaning. -/
namespace Sys2Proof.Machine

def exec (i : Instr) (s : State) : Host.Outcome State Fault Refusal :=
  match i with
  | .tileLinkPacket t toHub header payload crc => Sys2Proof.Machine.execTileLinkPacket t toHub header payload crc s
  | .tileLinkResendTimeout t toHub seq => Sys2Proof.Machine.execTileLinkResendTimeout t toHub seq s
  | .tileLinkIdle t toHub => Sys2Proof.Machine.execTileLinkIdle t toHub s
  | .linkLoss t => Sys2Proof.Machine.execLinkLoss t s
  | .safeWireRelease t cause => Sys2Proof.Machine.execSafeWireRelease t cause s
  | .tileLinkTrainRetry t => Sys2Proof.Machine.execTileLinkTrainRetry t s
  | .tileLinkTrained t => Sys2Proof.Machine.execTileLinkTrained t s
  | .tileReloadDone t => Sys2Proof.Machine.execTileReloadDone t s
  | .tileSafeExit t => Sys2Proof.Machine.execTileSafeExit t s
  | .watchSample p l1 l2 => Sys2Proof.Machine.execWatchSample p l1 l2 s
  | .rpHoldTimeout p => Sys2Proof.Machine.execRpHoldTimeout p s
  | .attachWaitSample p l1 l2 => Sys2Proof.Machine.execAttachWaitSample p l1 l2 s
  | .ccDebounceDone p l1 l2 vb vs0 => Sys2Proof.Machine.execCcDebounceDone p l1 l2 vb vs0 s
  | .attachVbusCleared p vb vs0 => Sys2Proof.Machine.execAttachVbusCleared p vb vs0 s
  | .detachSample p mv1 mv2 counted also_ => Sys2Proof.Machine.execDetachSample p mv1 mv2 counted also_ s
  | .ccOvervolt p line2 mv => Sys2Proof.Machine.execCcOvervolt p line2 mv s
  | .ccHoldOffEnd p => Sys2Proof.Machine.execCcHoldOffEnd p s
  | .ccComparatorTest p idx pass => Sys2Proof.Machine.execCcComparatorTest p idx pass s
  | .bootSinkAttach p line2 mv => Sys2Proof.Machine.execBootSinkAttach p line2 mv s
  | .bootRdRelease p => Sys2Proof.Machine.execBootRdRelease p s
  | .bootSinkDetach p => Sys2Proof.Machine.execBootSinkDetach p s
  | .frameReceived p f => Sys2Proof.Machine.execFrameReceived p f s
  | .rxAbort p mean early => Sys2Proof.Machine.execRxAbort p mean early s
  | .hardResetRx p => Sys2Proof.Machine.execHardResetRx p s
  | .cableResetRx p => Sys2Proof.Machine.execCableResetRx p s
  | .mtNop p => Sys2Proof.Machine.execMtNop p s
  | .mtTx p => Sys2Proof.Machine.execMtTx p s
  | .mtDeliver p => Sys2Proof.Machine.execMtDeliver p s
  | .mtMatch p => Sys2Proof.Machine.execMtMatch p s
  | .mtCount p => Sys2Proof.Machine.execMtCount p s
  | .mtSetRp p => Sys2Proof.Machine.execMtSetRp p s
  | .mtReport p => Sys2Proof.Machine.execMtReport p s
  | .mtCompose p => Sys2Proof.Machine.execMtCompose p s
  | .msgWaitTimeout p => Sys2Proof.Machine.execMsgWaitTimeout p s
  | .msgLineIdle p => Sys2Proof.Machine.execMsgLineIdle p s
  | .txDone p => Sys2Proof.Machine.execTxDone p s
  | .holdExpired p => Sys2Proof.Machine.execHoldExpired p s
  | .txOk p => Sys2Proof.Machine.execTxOk p s
  | .txFail p => Sys2Proof.Machine.execTxFail p s
  | .txDiscarded p => Sys2Proof.Machine.execTxDiscarded p s
  | .chunkFail p => Sys2Proof.Machine.execChunkFail p s
  | .holdAnswered p => Sys2Proof.Machine.execHoldAnswered p s
  | .request p epr rdo pdo rev3 => Sys2Proof.Machine.execRequest p epr rdo pdo rev3 s
  | .getSourceCap p => Sys2Proof.Machine.execGetSourceCap p s
  | .eprGetSourceCap p => Sys2Proof.Machine.execEprGetSourceCap p s
  | .getSourceCapExtended p => Sys2Proof.Machine.execGetSourceCapExtended p s
  | .getSourceInfo p => Sys2Proof.Machine.execGetSourceInfo p s
  | .getStatus p => Sys2Proof.Machine.execGetStatus p s
  | .getPpsStatus p => Sys2Proof.Machine.execGetPpsStatus p s
  | .getRevision p => Sys2Proof.Machine.execGetRevision p s
  | .getManufacturerInfo p => Sys2Proof.Machine.execGetManufacturerInfo p s
  | .softReset p => Sys2Proof.Machine.execSoftReset p s
  | .vconnSwap p => Sys2Proof.Machine.execVconnSwap p s
  | .prSwap p => Sys2Proof.Machine.execPrSwap p s
  | .drSwap p => Sys2Proof.Machine.execDrSwap p s
  | .frSwap p => Sys2Proof.Machine.execFrSwap p s
  | .eprModeEnter p watts => Sys2Proof.Machine.execEprModeEnter p watts s
  | .eprModeExit p => Sys2Proof.Machine.execEprModeExit p s
  | .eprKeepalive p => Sys2Proof.Machine.execEprKeepalive p s
  | .sinkCapabilities p h epr objs => Sys2Proof.Machine.execSinkCapabilities p h epr objs s
  | .alert p h ado => Sys2Proof.Machine.execAlert p h ado s
  | .informationMessage p m => Sys2Proof.Machine.execInformationMessage p m s
  | .unsupportedRequest p => Sys2Proof.Machine.execUnsupportedRequest p s
  | .bistRequest p carrier => Sys2Proof.Machine.execBistRequest p carrier s
  | .unexpectedMessage p => Sys2Proof.Machine.execUnexpectedMessage p s
  | .unchunkedExtended p => Sys2Proof.Machine.execUnchunkedExtended p s
  | .unrecognisedMessage p => Sys2Proof.Machine.execUnrecognisedMessage p s
  | .srcTransitionExpiry p => Sys2Proof.Machine.execSrcTransitionExpiry p s
  | .senderResponseExpiry p => Sys2Proof.Machine.execSenderResponseExpiry p s
  | .sourceCapResend p => Sys2Proof.Machine.execSourceCapResend p s
  | .noResponseExpiry p => Sys2Proof.Machine.execNoResponseExpiry p s
  | .ppsKeepaliveExpiry p => Sys2Proof.Machine.execPpsKeepaliveExpiry p s
  | .eprKeepaliveExpiry p => Sys2Proof.Machine.execEprKeepaliveExpiry p s
  | .vconnSourceExpiry p => Sys2Proof.Machine.execVconnSourceExpiry p s
  | .vconnSwapRetry p => Sys2Proof.Machine.execVconnSwapRetry p s
  | .feedObjectWithdraw p obj => Sys2Proof.Machine.execFeedObjectWithdraw p obj s
  | .feedObjectRestore p obj => Sys2Proof.Machine.execFeedObjectRestore p obj s
  | .eprCapsSend p => Sys2Proof.Machine.execEprCapsSend p s
  | .vdmRequest p hdr vdos => Sys2Proof.Machine.execVdmRequest p hdr vdos s
  | .unstructuredVdm p h hdr vdos => Sys2Proof.Machine.execUnstructuredVdm p h hdr vdos s
  | .vdmResponse p h sop ans hdr vdos => Sys2Proof.Machine.execVdmResponse p h sop ans hdr vdos s
  | .vdmResponseTimeout p => Sys2Proof.Machine.execVdmResponseTimeout p s
  | .vdmBusyRetry p => Sys2Proof.Machine.execVdmBusyRetry p s
  | .discoverIdentityAttempt p => Sys2Proof.Machine.execDiscoverIdentityAttempt p s
  | .attention p h hdr vdo => Sys2Proof.Machine.execAttention p h hdr vdo s
  | .rallyNoticeDue p => Sys2Proof.Machine.execRallyNoticeDue p s
  | .curtailConfirm p => Sys2Proof.Machine.execCurtailConfirm p s
  | .curtailReactionExpiry p => Sys2Proof.Machine.execCurtailReactionExpiry p s
  | .curtailHoldExpiry p => Sys2Proof.Machine.execCurtailHoldExpiry p s
  | .brokenHoldoffExpiry p => Sys2Proof.Machine.execBrokenHoldoffExpiry p s
  | .powerPathPost p r => Sys2Proof.Machine.execPowerPathPost p r s
  | .queuedPostStart p => Sys2Proof.Machine.execQueuedPostStart p s
  | .stNop p => Sys2Proof.Machine.execStNop p s
  | .stSetGate p vb vs0 rival => Sys2Proof.Machine.execStSetGate p vb vs0 rival s
  | .stSetDis p rival => Sys2Proof.Machine.execStSetDis p rival s
  | .stSetTarget p rival => Sys2Proof.Machine.execStSetTarget p rival s
  | .stSetRp p rival => Sys2Proof.Machine.execStSetRp p rival s
  | .stSetVconn p rival => Sys2Proof.Machine.execStSetVconn p rival s
  | .stSignal p => Sys2Proof.Machine.execStSignal p s
  | .stArmLimit p => Sys2Proof.Machine.execStArmLimit p s
  | .stLoadWindow p => Sys2Proof.Machine.execStLoadWindow p s
  | .stepWaitSuccess p w => Sys2Proof.Machine.execStepWaitSuccess p w s
  | .stepWaitTimeout p => Sys2Proof.Machine.execStepWaitTimeout p s
  | .vsafe5vOk p => Sys2Proof.Machine.execVsafe5vOk p s
  | .transitionDone p => Sys2Proof.Machine.execTransitionDone p s
  | .transitionFail p => Sys2Proof.Machine.execTransitionFail p s
  | .vsafe0vOk p => Sys2Proof.Machine.execVsafe0vOk p s
  | .retryQualified p => Sys2Proof.Machine.execRetryQualified p s
  | .retryFailed p => Sys2Proof.Machine.execRetryFailed p s
  | .limitSet p => Sys2Proof.Machine.execLimitSet p s
  | .vconnReady p => Sys2Proof.Machine.execVconnReady p s
  | .vconnFail p => Sys2Proof.Machine.execVconnFail p s
  | .vconnOff p => Sys2Proof.Machine.execVconnOff p s
  | .rpSet p => Sys2Proof.Machine.execRpSet p s
  | .refused p => Sys2Proof.Machine.execRefused p s
  | .undervoltTrip p mv also_ => Sys2Proof.Machine.execUndervoltTrip p mv also_ s
  | .breakerTick p ma mv => Sys2Proof.Machine.execBreakerTick p ma mv s
  | .breakerTrip p also_ => Sys2Proof.Machine.execBreakerTrip p also_ s
  | .fastTrip p ma also_ => Sys2Proof.Machine.execFastTrip p ma also_ s
  | .vbusOvervolt p mv also_ => Sys2Proof.Machine.execVbusOvervolt p mv also_ s
  | .reverseCurrent p ma also_ => Sys2Proof.Machine.execReverseCurrent p ma also_ s
  | .vconnOvercurrent p ma => Sys2Proof.Machine.execVconnOvercurrent p ma s
  | .tripDischargeDone p => Sys2Proof.Machine.execTripDischargeDone p s
  | .retryProbeDue p => Sys2Proof.Machine.execRetryProbeDue p s
  | .retryQualifyClear p => Sys2Proof.Machine.execRetryQualifyClear p s
  | .retryHoldExpiry p => Sys2Proof.Machine.execRetryHoldExpiry p s
  | .openPortVbus p => Sys2Proof.Machine.execOpenPortVbus p s
  | .stuckSwitch p mv => Sys2Proof.Machine.execStuckSwitch p mv s
  | .stuckDischargeEnd p => Sys2Proof.Machine.execStuckDischargeEnd p s
  | .detachDischargeDone p => Sys2Proof.Machine.execDetachDischargeDone p s
  | .seatQualified => Sys2Proof.Machine.execSeatQualified s
  | .seatReleased => Sys2Proof.Machine.execSeatReleased s
  | .feedWindowChange f mv => Sys2Proof.Machine.execFeedWindowChange f mv s
  | .insertDelayExpiry f both => Sys2Proof.Machine.execInsertDelayExpiry f both s
  | .priorityReturn also_ => Sys2Proof.Machine.execPriorityReturn also_ s
  | .inrushComplete f vgs mv vbusc => Sys2Proof.Machine.execInrushComplete f vgs mv vbusc s
  | .inrushTimeout f => Sys2Proof.Machine.execInrushTimeout f s
  | .feedBreakerTick f mv ma vbusc => Sys2Proof.Machine.execFeedBreakerTick f mv ma vbusc s
  | .feedBreakerTrip f also_ => Sys2Proof.Machine.execFeedBreakerTrip f also_ s
  | .feedFastTrip f mv also_ => Sys2Proof.Machine.execFeedFastTrip f mv also_ s
  | .feedReverse f ma also_ => Sys2Proof.Machine.execFeedReverse f ma also_ s
  | .feedOvervolt f mv also_ => Sys2Proof.Machine.execFeedOvervolt f mv also_ s
  | .feedUndervolt f mv also_ => Sys2Proof.Machine.execFeedUndervolt f mv also_ s
  | .offConfirmed f vgs ma => Sys2Proof.Machine.execOffConfirmed f vgs ma s
  | .deadTimeEnd => Sys2Proof.Machine.execDeadTimeEnd s
  | .stuckBank f => Sys2Proof.Machine.execStuckBank f s
  | .feedRetryDue f => Sys2Proof.Machine.execFeedRetryDue f s
  | .feedRetryClear f => Sys2Proof.Machine.execFeedRetryClear f s
  | .feedReseatHoldExpiry => Sys2Proof.Machine.execFeedReseatHoldExpiry s
  | .scoreboardBoundary => Sys2Proof.Machine.execScoreboardBoundary s
  | .graceExpiry p => Sys2Proof.Machine.execGraceExpiry p s
  | .newcomerGraceExpiry p => Sys2Proof.Machine.execNewcomerGraceExpiry p s
  | .decreaseSampleConfirm p => Sys2Proof.Machine.execDecreaseSampleConfirm p s
  | .usageCapRelease p => Sys2Proof.Machine.execUsageCapRelease p s
  | .emergencyShedStart => Sys2Proof.Machine.execEmergencyShedStart s
  | .emergencyShedStage => Sys2Proof.Machine.execEmergencyShedStage s
  | .emergencyShedEnd => Sys2Proof.Machine.execEmergencyShedEnd s
  | .vconnChargeSettle p => Sys2Proof.Machine.execVconnChargeSettle p s
  | .vconnBudgetExcess t => Sys2Proof.Machine.execVconnBudgetExcess t s
  | .adcFault t b frames => Sys2Proof.Machine.execAdcFault t b frames s
  | .measSample p codes vc => Sys2Proof.Machine.execMeasSample p codes vc s
  | .telemetryRecord p lanes peak time samples => Sys2Proof.Machine.execTelemetryRecord p lanes peak time samples s
  | .tlmDecimationHalve => Sys2Proof.Machine.execTlmDecimationHalve s
  | .captureTrigger t mv ma => Sys2Proof.Machine.execCaptureTrigger t mv ma s
  | .captureReadingsDone t readings held gaps time => Sys2Proof.Machine.execCaptureReadingsDone t readings held gaps time s
  | .snapshotWritten vals => Sys2Proof.Machine.execSnapshotWritten vals s
  | .sublaneSlotStart t l => Sys2Proof.Machine.execSublaneSlotStart t l s
  | .quietTest t dv di mv ma frames => Sys2Proof.Machine.execQuietTest t dv di mv ma frames s
  | .calReconnect t vz vl vh iz il ih => Sys2Proof.Machine.execCalReconnect t vz vl vh iz il ih s
  | .verifyHandback t dv di mv ma => Sys2Proof.Machine.execVerifyHandback t dv di mv ma s
  | .sublaneSelfCal t vz vl vh iz il ih => Sys2Proof.Machine.execSublaneSelfCal t vz vl vh iz il ih s
  | .calPendingSkip p => Sys2Proof.Machine.execCalPendingSkip p s
  | .dacReadback p dac v changed => Sys2Proof.Machine.execDacReadback p dac v changed s
  | .ntcMean t r vt => Sys2Proof.Machine.execNtcMean t r vt s
  | .ntcFaultFlag t => Sys2Proof.Machine.execNtcFaultFlag t s
  | .ntcFaultClear t => Sys2Proof.Machine.execNtcFaultClear t s
  | .moveRow k => Sys2Proof.Machine.execMove k s
  | .aluAddT k => Sys2Proof.Machine.execAluAddT k s
  | .aluSubT k => Sys2Proof.Machine.execAluSubT k s
  | .aluAndT k => Sys2Proof.Machine.execAluAndT k s
  | .aluOrT k => Sys2Proof.Machine.execAluOrT k s
  | .aluXorT k => Sys2Proof.Machine.execAluXorT k s
  | .aluShlT k => Sys2Proof.Machine.execAluShlT k s
  | .aluShrT k => Sys2Proof.Machine.execAluShrT k s
  | .aluSarT k => Sys2Proof.Machine.execAluSarT k s
  | .aluEqT k => Sys2Proof.Machine.execAluEqT k s
  | .aluLtuT k => Sys2Proof.Machine.execAluLtuT k s
  | .aluLtsT k => Sys2Proof.Machine.execAluLtsT k s
  | .aluMinuT k => Sys2Proof.Machine.execAluMinuT k s
  | .aluMaxuT k => Sys2Proof.Machine.execAluMaxuT k s
  | .aluPassT k => Sys2Proof.Machine.execAluPassT k s
  | .mulMuluT k => Sys2Proof.Machine.execMulMuluT k s
  | .mulMulsT k => Sys2Proof.Machine.execMulMulsT k s
  | .mulDivuT k => Sys2Proof.Machine.execMulDivuT k s
  | .mulDivsT k => Sys2Proof.Machine.execMulDivsT k s
  | .lsuLd32T k => Sys2Proof.Machine.execLsuLd32T k s
  | .lsuLd16T k => Sys2Proof.Machine.execLsuLd16T k s
  | .lsuLd16sT k => Sys2Proof.Machine.execLsuLd16sT k s
  | .lsuLd8T k => Sys2Proof.Machine.execLsuLd8T k s
  | .lsuLd8sT k => Sys2Proof.Machine.execLsuLd8sT k s
  | .lsuSt32T k => Sys2Proof.Machine.execLsuSt32T k s
  | .lsuSt16T k => Sys2Proof.Machine.execLsuSt16T k s
  | .lsuSt8T k => Sys2Proof.Machine.execLsuSt8T k s
  | .lsuAaddT k => Sys2Proof.Machine.execLsuAaddT k s
  | .brJmpT k => Sys2Proof.Machine.execBrJmpT k s
  | .brRelT k => Sys2Proof.Machine.execBrRelT k s
  | .brCallT k => Sys2Proof.Machine.execBrCallT k s
  | .brRetT k => Sys2Proof.Machine.execBrRetT k s
  | .tmrUsT k => Sys2Proof.Machine.execTmrUsT k s
  | .tmrMsT k => Sys2Proof.Machine.execTmrMsT k s
  | .tmrStopT k => Sys2Proof.Machine.execTmrStopT k s
  | .evtWaitT k => Sys2Proof.Machine.execEvtWaitT k s
  | .evtPostT k => Sys2Proof.Machine.execEvtPostT k s
  | .evtHevtT k => Sys2Proof.Machine.execEvtHevtT k s
  | .evtHcplT k => Sys2Proof.Machine.execEvtHcplT k s
  | .msgSendT k => Sys2Proof.Machine.execMsgSendT k s
  | .msgPostT k => Sys2Proof.Machine.execMsgPostT k s
  | .msgHrstT k => Sys2Proof.Machine.execMsgHrstT k s
  | .crcInitT k => Sys2Proof.Machine.execCrcInitT k s
  | .crcB8T k => Sys2Proof.Machine.execCrcB8T k s
  | .crcW32T k => Sys2Proof.Machine.execCrcW32T k s
  | .sysTrapT k => Sys2Proof.Machine.execSysTrapT k s
  | .timerExpired p t => Sys2Proof.Machine.execTimerExpired p t s
  | .overrun k => Sys2Proof.Machine.execOverrun k s
  | .schedulerDecision waited lat => Sys2Proof.Machine.execSchedulerDecision waited lat s
  | .pageInDone k lat => Sys2Proof.Machine.execPageInDone k lat s
  | .agePromotion p idx => Sys2Proof.Machine.execAgePromotion p idx s
  | .deepTransferDone p good data => Sys2Proof.Machine.execDeepTransferDone p good data s
  | .doorbell off v full slots => Sys2Proof.Machine.execDoorbell off v full slots s
  | .phaseReread n slots => Sys2Proof.Machine.execPhaseReread n slots s
  | .hostlinkStall n => Sys2Proof.Machine.execHostlinkStall n s
  | .chainTimeout n => Sys2Proof.Machine.execChainTimeout n s
  | .descriptorStartTimeout d => Sys2Proof.Machine.execDescriptorStartTimeout d s
  | .pdSendReplyTimeout p => Sys2Proof.Machine.execPdSendReplyTimeout p s
  | .msixTimeTrigger n => Sys2Proof.Machine.execMsixTimeTrigger n s
  | .unknownOpcode d => Sys2Proof.Machine.execUnknownOpcode d s
  | .nop d => Sys2Proof.Machine.execNop d s
  | .portEnable d => Sys2Proof.Machine.execPortEnable d s
  | .portDisable d => Sys2Proof.Machine.execPortDisable d s
  | .portProfile d => Sys2Proof.Machine.execPortProfile d s
  | .portPdoSet d => Sys2Proof.Machine.execPortPdoSet d s
  | .portErrorRecovery d => Sys2Proof.Machine.execPortErrorRecovery d s
  | .portHardReset d => Sys2Proof.Machine.execPortHardReset d s
  | .pdSend d => Sys2Proof.Machine.execPdSend d s
  | .vdmSend d => Sys2Proof.Machine.execVdmSend d s
  | .vconnSwapRequest d => Sys2Proof.Machine.execVconnSwapRequest d s
  | .cableDiscover d => Sys2Proof.Machine.execCableDiscover d s
  | .budgetStage d => Sys2Proof.Machine.execBudgetStage d s
  | .classStage d => Sys2Proof.Machine.execClassStage d s
  | .huddleCheck d => Sys2Proof.Machine.execHuddleCheck d s
  | .kickoffArm d => Sys2Proof.Machine.execKickoffArm d s
  | .huddleDiscard d => Sys2Proof.Machine.execHuddleDiscard d s
  | .snapshot d => Sys2Proof.Machine.execSnapshot d s
  | .captureArm d => Sys2Proof.Machine.execCaptureArm d s
  | .tlmConfig d => Sys2Proof.Machine.execTlmConfig d s
  | .stepTableLoad n => Sys2Proof.Machine.execStepTableLoad n s
  | .breakerCurveStage d => Sys2Proof.Machine.execBreakerCurveStage d s
  | .msgTableLoad n => Sys2Proof.Machine.execMsgTableLoad n s
  | .paramSet d => Sys2Proof.Machine.execParamSet d s
  | .paramGet d => Sys2Proof.Machine.execParamGet d s
  | .ctxExport d => Sys2Proof.Machine.execCtxExport d s
  | .hostPagesBind d => Sys2Proof.Machine.execHostPagesBind d s
  | .hostPagesWithdraw d => Sys2Proof.Machine.execHostPagesWithdraw d s
  | .sessionOpen d => Sys2Proof.Machine.execSessionOpen d s
  | .sessionProve d => Sys2Proof.Machine.execSessionProve d s
  | .sessionClose d => Sys2Proof.Machine.execSessionClose d s
  | .expertUnlock d => Sys2Proof.Machine.execExpertUnlock d s
  | .expertRelock d => Sys2Proof.Machine.execExpertRelock d s
  | .feedEnable d => Sys2Proof.Machine.execFeedEnable d s
  | .feedDisable d => Sys2Proof.Machine.execFeedDisable d s
  | .feedClearRetry d => Sys2Proof.Machine.execFeedClearRetry d s
  | .rtcSet d => Sys2Proof.Machine.execRtcSet d s
  | .hostSessionTimeout => Sys2Proof.Machine.execHostSessionTimeout s
  | .tilesReady => Sys2Proof.Machine.execTilesReady s
  | .kickoffCommit => Sys2Proof.Machine.execKickoffCommit s
  | .kickoffApply missed => Sys2Proof.Machine.execKickoffApply missed s
  | .applyPacket t => Sys2Proof.Machine.execApplyPacket t s
  | .kickFire missed => Sys2Proof.Machine.execKickFire missed s
  | .kickTimeout low => Sys2Proof.Machine.execKickTimeout low s
  | .digestReceived t tick valid ports also_ => Sys2Proof.Machine.execDigestReceived t tick valid ports also_ s
  | .digestLost t => Sys2Proof.Machine.execDigestLost t s
  | .clockMonitorWindow m dev absent => Sys2Proof.Machine.execClockMonitorWindow m dev absent s
  | .coreHang k => Sys2Proof.Machine.execCoreHang k s
  | .coreRestart => Sys2Proof.Machine.execCoreRestart s
  | .allocationMirrorCheck vectorOk => Sys2Proof.Machine.execAllocationMirrorCheck vectorOk s
  | .mirrorLate => Sys2Proof.Machine.execMirrorLate s
  | .romHubCheck good => Sys2Proof.Machine.execRomHubCheck good s
  | .romTileCheck t good => Sys2Proof.Machine.execRomTileCheck t good s
  | .supplyHub rail mv => Sys2Proof.Machine.execSupplyHub rail mv s
  | .supplyTile t mv => Sys2Proof.Machine.execSupplyTile t mv s
  | .portReactionTimeout p => Sys2Proof.Machine.execPortReactionTimeout p s
  | .sramScrub corrected soft bad => Sys2Proof.Machine.execSramScrub corrected soft bad s
  | .idleEntry => Sys2Proof.Machine.execIdleEntry s
  | .deepEntry cut => Sys2Proof.Machine.execDeepEntry cut s
  | .wake svcRx reads vpp => Sys2Proof.Machine.execWake svcRx reads vpp s
  | .pllLocked => Sys2Proof.Machine.execPllLocked s
  | .pllLockTimeout => Sys2Proof.Machine.execPllLockTimeout s
  | .tileRelease t mv => Sys2Proof.Machine.execTileRelease t mv s
  | .tileSupplyRecover t mv => Sys2Proof.Machine.execTileSupplyRecover t mv s
  | .bootImageLoaded => Sys2Proof.Machine.execBootImageLoaded s
  | .powerOnReset => Sys2Proof.Machine.execPowerOnReset s
  | .deviceReset why => Sys2Proof.Machine.execDeviceReset why s
  | .domainRelease bootsel testmode reads vpp => Sys2Proof.Machine.execDomainRelease bootsel testmode reads vpp s
  | .refereeSelftestDone pass => Sys2Proof.Machine.execRefereeSelftestDone pass s
  | .xaCrystalFail => Sys2Proof.Machine.execXaCrystalFail s
  | .xaCrystalRecover => Sys2Proof.Machine.execXaCrystalRecover s
  | .perstNFall => Sys2Proof.Machine.execPerstNFall s
  | .perstNRise => Sys2Proof.Machine.execPerstNRise s
  | .functionLevelReset => Sys2Proof.Machine.execFunctionLevelReset s
  | .d3hotEntry => Sys2Proof.Machine.execD3hotEntry s
  | .d0Return speed width => Sys2Proof.Machine.execD0Return speed width s
  | .pcieLinkTrained speed width => Sys2Proof.Machine.execPcieLinkTrained speed width s
  | .programWord src addr vpp => Sys2Proof.Machine.execProgramWord src addr vpp s
  | .integrity src region vpp => Sys2Proof.Machine.execIntegrity src region vpp s
  | .lock src region vpp => Sys2Proof.Machine.execLock src region vpp s
  | .forceLock src region vpp => Sys2Proof.Machine.execForceLock src region vpp s
  | .readLock src region vpp => Sys2Proof.Machine.execReadLock src region vpp s
  | .reinforce src region vpp => Sys2Proof.Machine.execReinforce src region vpp s
  | .audit src region reads => Sys2Proof.Machine.execAudit src region reads s
  | .floorAdvance src vpp => Sys2Proof.Machine.execFloorAdvance src vpp s
  | .fuseReservedOp src op region => Sys2Proof.Machine.execFuseReservedOp src op region s
  | .fuseAuditPeriodic reads => Sys2Proof.Machine.execFuseAuditPeriodic reads s
  | .fuseHeldOpStart vpp => Sys2Proof.Machine.execFuseHeldOpStart vpp s
  | .fuRaddrWrite addr => Sys2Proof.Machine.execFuRaddrWrite addr s
  | .svcFrameDiscard raw => Sys2Proof.Machine.execSvcFrameDiscard raw s
  | .svcFrameGap us => Sys2Proof.Machine.execSvcFrameGap us s
  | .autobaudLock rate => Sys2Proof.Machine.execAutobaudLock rate s
  | .svcLineIdle => Sys2Proof.Machine.execSvcLineIdle s
  | .hello f => Sys2Proof.Machine.execHello f s
  | .svcSessionOpen f => Sys2Proof.Machine.execSvcSessionOpen f s
  | .svcSessionProve f => Sys2Proof.Machine.execSvcSessionProve f s
  | .svcSessionClose f => Sys2Proof.Machine.execSvcSessionClose f s
  | .passwordSet f => Sys2Proof.Machine.execPasswordSet f s
  | .svcExpertUnlock f => Sys2Proof.Machine.execSvcExpertUnlock f s
  | .svcExpertRelock f => Sys2Proof.Machine.execSvcExpertRelock f s
  | .regRead f => Sys2Proof.Machine.execRegRead f s
  | .regWrite f vpp slots => Sys2Proof.Machine.execRegWrite f vpp slots s
  | .svcHuddleCheck f => Sys2Proof.Machine.execSvcHuddleCheck f s
  | .svcHuddleArmNextBoundary f => Sys2Proof.Machine.execSvcHuddleArmNextBoundary f s
  | .svcHuddleArmKick f => Sys2Proof.Machine.execSvcHuddleArmKick f s
  | .svcHuddleDiscard f => Sys2Proof.Machine.execSvcHuddleDiscard f s
  | .logRead f => Sys2Proof.Machine.execLogRead f s
  | .settingsSave f => Sys2Proof.Machine.execSettingsSave f s
  | .imageBegin f good => Sys2Proof.Machine.execImageBegin f good s
  | .imageBlock f good => Sys2Proof.Machine.execImageBlock f good s
  | .imageResume f => Sys2Proof.Machine.execImageResume f s
  | .imageEnd f good => Sys2Proof.Machine.execImageEnd f good s
  | .activateNow f => Sys2Proof.Machine.execActivateNow f s
  | .activateAtTime f => Sys2Proof.Machine.execActivateAtTime f s
  | .activateKick f => Sys2Proof.Machine.execActivateKick f s
  | .confirm f vpp => Sys2Proof.Machine.execConfirm f vpp s
  | .cancel f => Sys2Proof.Machine.execCancel f s
  | .svcUnknownCommand f cmd => Sys2Proof.Machine.execSvcUnknownCommand f cmd s
  | .svcSessionTimeout => Sys2Proof.Machine.execSvcSessionTimeout s
  | .sessionLockoutEnd => Sys2Proof.Machine.execSessionLockoutEnd s
  | .trialWindowExpiry vpp => Sys2Proof.Machine.execTrialWindowExpiry vpp s
  | .activationInstant => Sys2Proof.Machine.execActivationInstant s
  | .activationLoadDone => Sys2Proof.Machine.execActivationLoadDone s
  | .registerWrite off be v => Sys2Proof.Machine.execRegisterWrite off be v s
  | .eventCounterOvfClear off v => Sys2Proof.Machine.execEventCounterOvfClear off v s
  | .errorCounterRead a off => Sys2Proof.Machine.execErrorCounterRead a off s
  | .scStoreRead a => Sys2Proof.Machine.execScStoreRead a s
  | .scLatRead a => Sys2Proof.Machine.execScLatRead a s
  | .wideValueLowRead a off => Sys2Proof.Machine.execWideValueLowRead a off s
  | .upActivateAtWrite high v => Sys2Proof.Machine.execUpActivateAtWrite high v s
  | .pathCtrlWrite p v => Sys2Proof.Machine.execPathCtrlWrite p v s
  | .refCfgWrite v => Sys2Proof.Machine.execRefCfgWrite v s
  | .pwCtrlReset => Sys2Proof.Machine.execPwCtrlReset s
  | .upCtrlArm src => Sys2Proof.Machine.execUpCtrlArm src s
  | .upCtrlCancel => Sys2Proof.Machine.execUpCtrlCancel s
  | .upCtrlSave => Sys2Proof.Machine.execUpCtrlSave s
  | .upCtrlConfirm vpp => Sys2Proof.Machine.execUpCtrlConfirm vpp s
  | .ringEnable n v => Sys2Proof.Machine.execRingEnable n v s
  | .ringDisable n v slots => Sys2Proof.Machine.execRingDisable n v slots s
  | .kickJoinWrite v => Sys2Proof.Machine.execKickJoinWrite v s
  | .illegalMove k => Sys2Proof.Machine.execIllegalMove k s
  | .kickLineLow => Sys2Proof.Machine.execKickLineLow s
  | .fuseOperationDone fail => Sys2Proof.Machine.execFuseOperationDone fail s
  | .fuseSupplyLost vpp vaux copies => Sys2Proof.Machine.execFuseSupplyLost vpp vaux copies s
  | .triplicatedRegisterDisagree => Sys2Proof.Machine.execTriplicatedRegisterDisagree s

end Sys2Proof.Machine
end

