-- ==== Sys2Proof/Machine/Entries.lean ====
section
/-! DEFINITION. The bytes of what the device writes into its rings, and where they stand in host memory (R322–R325, R337, R338,
R340–R343, R346, R348). State keeps each entry as its fields; the bytes follow from the fields here. -/
namespace Sys2Proof.Machine

/-- Bytes of an entry or a field of fixed size: what is not given is 0. -/
def padded (n : Nat) (l : List Byte) : List Byte := (l ++ List.replicate n 0#8).take n
def b8 (n : Nat) : Byte := BitVec.ofNat 8 n
def zeros (n : Nat) : List Byte := List.replicate n 0#8
/-- A time field: RTC seconds in [62:15], sub-seconds in [14:0], [63] 0 (R340). -/
def timeBytes (t : Nat) : List Byte := bytesLE 8 (t % 2 ^ 63)
/-- The port field: 0xFFFF for the device (R341). -/
def portBytes (p : Option PortId) : List Byte := bytesLE 2 ((p.map (·.val)).getD 0xFFFF)
def signedLE (n : Nat) (i : Int) : List Byte := bytesLE n (twos (8 * n) i)

/-! ### Codes of R342 whose tables stand elsewhere -/

/-- SOP, SOP' and SOP'' of an entry (R337, R342). -/
def Sop.num (x : Sop) : Nat := x.ctorIdx
/-- R179. -/
def AttachOutcome.num (x : AttachOutcome) : Nat := x.ctorIdx
/-- R118. -/
def LostCause.num (x : LostCause) : Nat := x.ctorIdx + 1
/-- R239. -/
def AllocKind.num (x : AllocKind) : Nat := x.ctorIdx + 1
/-- R239. -/
def ShedCause.num (x : ShedCause) : Nat := x.ctorIdx + 1
/-- R263. -/
def DriftCause.num (x : DriftCause) : Nat := x.ctorIdx + 1
/-- R263. -/
def DriftOutcome.num (x : DriftOutcome) : Nat := x.ctorIdx
/-- THERMAL_DERATE (R342). -/
def DerateCause.num (x : DerateCause) : Nat := x.ctorIdx + 1
/-- FEED_CHANGE byte 16 (R342). -/
def FeedId.num (x : FeedId) : Nat := x.ctorIdx
/-- ACTIVE of FD_STAT, and of FEED_CHANGE byte 19 (R208, R342). -/
def activeNum : Option FeedId → Nat
  | none => 0 | some .fda => 1 | some .fdb => 2

/-! ### Events (R341–R343) -/

/-- Bytes 16 on of an event entry (R342). -/
def EvtBody.payload : EvtBody → List Byte
  | .attach k cc2 o => [b8 k.num, b8 (b2n cc2), b8 o.num]
  | .detach mid k => [b8 (b2n mid), b8 k.num]
  | .contract pos k rev3 epr mv20 ma10 power =>
    [b8 pos, b8 k.num, b8 (b2n rev3), b8 (b2n epr)] ++ bytesLE 2 mv20 ++ bytesLE 2 ma10 ++ bytesLE 4 power
  | .contractLost c => [b8 c.num]
  | .trip c seg peak5 => [b8 c.num, b8 seg] ++ signedLE 2 peak5
  | .retry f c secs => [b8 f, b8 c.num] ++ bytesLE 2 secs
  | .lockout c idx => [b8 c.num, b8 (if c == .cmpStuck || c == .dacFault then idx else 0)]
  | .stuckSwitch mv20 => bytesLE 2 mv20
  | .overvolt line mv20 => [b8 (if line.isSome then 2 else 1), b8 (line.getD 0)] ++ bytesLE 2 mv20
  | .reverse ma5 => zeros 2 ++ bytesLE 2 ma5
  | .allocChange k step old new => [b8 k.num, b8 step] ++ zeros 2 ++ bytesLE 4 old ++ bytesLE 4 new
  | .shed c stage cls => [b8 c.num, b8 stage, b8 cls]
  | .laneDrift c o dv di => [b8 c.num, b8 o.num] ++ signedLE 4 dv ++ signedLE 4 di
  | .ctxFault c sub core off w trap =>
    [b8 c.num, b8 sub, b8 core, 0#8] ++ bytesLE 4 off ++ bytesLE 4 w.toNat ++ bytesLE 2 trap.toNat
  | .summary .. => []
  | .hostlinkStall ring idx => [b8 ring, 0#8] ++ bytesLE 2 idx.toNat
  | .settingsDefaulted stored want => bytesLE 4 stored.toNat ++ bytesLE 4 want.toNat
  | .fuseWeak region b flags => [b8 region, 0#8] ++ bytesLE 2 b ++ [b8 flags]
  | .feedChange f c st act v10 => [b8 f.num, b8 c.num, b8 st.num, b8 (activeNum act)] ++ bytesLE 2 v10
  | .kickoffDone src tag => [b8 src.num, 0#8] ++ bytesLE 2 tag.toNat
  | .huddleFail code loc => [b8 code] ++ zeros 3 ++ bytesLE 4 loc.toNat
  | .vdm sub sop hdr => [b8 sub, b8 sop.num] ++ zeros 2 ++ bytesLE 4 hdr.toNat
  | .cableIdentified cls vid pid vdo =>
    [b8 cls.num, 0#8] ++ bytesLE 2 vid.toNat ++ bytesLE 2 pid.toNat ++ zeros 2 ++ bytesLE 4 vdo.toNat
  | .thermalDerate c row t16 cap => [b8 c.num, b8 row] ++ signedLE 2 t16 ++ bytesLE 4 cap
  | .updateState st ver => [b8 st.num] ++ zeros 3 ++ bytesLE 4 ver.toNat
  | .firmware ws => (wordBytes ws).drop 16

/-- Byte 1 of an event entry (R341). -/
def Evt.flagByte (e : Evt) (phase : Bool) : Byte := b8 (128 * b2n phase + 2 * b2n e.backlog + b2n e.reserved)
/-- An event entry (R341); SUMMARY holds its map in place of the time and the payload (R343). What firmware posts keeps its own
bytes, but for byte 1 and the sequence number, which the device gives every event it writes. -/
def Evt.bytes (e : Evt) (phase : Bool) : List Byte :=
  let head := [b8 e.body.code, e.flagByte phase] ++ bytesLE 2 e.seq.toNat
  padded 32 (match e.body with
    | .summary map dev => head ++ bytesLE 2 0xFFFF ++ [b8 (b2n dev), 0#8] ++ bytesLE 24 map.toNat
    | .firmware ws => head ++ (wordBytes ws).drop 4
    | b => head ++ portBytes e.port ++ zeros 2 ++ timeBytes e.time ++ b.payload)

/-! ### Completions, messages, telemetry and captures -/

/-- A completion entry (R338). -/
def Cpl.bytes (c : Cpl) (phase : Bool) : List Byte :=
  padded 32 ([c.op, b8 (128 * b2n phase + b2n c.chain)] ++ bytesLE 2 c.tag.toNat ++ bytesLE 2 c.port.toNat ++
    [b8 c.code.num, c.detail, b8 c.ring, 0#8] ++ bytesLE 2 c.idx.toNat ++ zeros 4 ++ c.data)
/-- A completion record that firmware posts: its words, with the PHASE of its slot (R289, R325). -/
def recordBytes (ws : List Word) (phase : Bool) : List Byte :=
  padded 32 ((padded 32 (wordBytes ws)).modify 1 fun b => setBit b 7 phase)
/-- A message-ring entry (R337). -/
def RxRec.bytes (r : RxRec) (phase : Bool) : List Byte :=
  padded 512 ([b8 (if r.tag.isSome then 2 else 1), b8 (128 * b2n phase + b2n r.lost)] ++ bytesLE 2 ((r.tag.getD 0#16).toNat) ++
    bytesLE 2 r.port.val ++ [b8 r.sop.num, b8 r.hold.num] ++ timeBytes r.time ++ bytesLE 2 (2 + r.data.length) ++ zeros 6 ++
    padded 264 (bytesLE 2 r.hdr.toNat ++ r.data))
/-- A telemetry entry (R346): PHASE stands in byte 0. -/
def TlmRec.bytes (r : TlmRec) (phase : Bool) : List Byte :=
  padded 64 ([b8 (128 * b2n phase + 64 * b2n r.gap), b8 (16 * r.decim + r.rate)] ++ bytesLE 2 r.port.val ++ bytesLE 2 r.sub.toNat ++
    signedLE 2 r.peak5 ++ timeBytes r.time ++ r.samples.flatMap fun e => bytesLE 3 (e.1 % 4096 + 4096 * twos 12 e.2))
/-- Readings in pairs of 3 bytes (R348). -/
def pairBytes : List Int → List Byte
  | [] => []
  | [a] => bytesLE 3 (twos 12 a)
  | a :: b :: r => bytesLE 3 (twos 12 a + 4096 * twos 12 b) ++ pairBytes r
/-- A capture entry (R348): PHASE stands in byte 0. -/
def CapRec.bytes (r : CapRec) (phase : Bool) : List Byte :=
  padded 64 ([b8 (128 * b2n phase + 4 * b2n r.gap + 2 * b2n r.trigger.isSome + b2n r.last), b8 (16 * r.rate + r.chans)] ++
    bytesLE 2 r.port.val ++ bytesLE 2 r.number ++ [b8 (r.trigger.getD 0), b8 r.readings.length] ++ timeBytes r.time ++
    padded 36 (pairBytes r.readings))

/-! ### The rings in host memory (R322–R325) -/

/-- The size of an entry of a ring (R322). -/
def entrySize (n : Nat) : Nat :=
  if n == 0 || n == 1 || n == 13 || (5 ≤ n && n ≤ 8) then 64 else if 9 ≤ n && n ≤ 12 then 512 else 32
/-- An entry as the device writes it, with the PHASE of its slot. -/
def OutEntry.bytes (e : OutEntry) (phase : Bool) : List Byte :=
  match e with
  | .cpl c => c.bytes phase
  | .evt v => v.bytes phase
  | .tlm r => r.bytes phase
  | .cap r => r.bytes phase
  | .rx r => r.bytes phase
  | .record ws => recordBytes ws phase
/-- The host address of the slot of an index: a ring's base is a multiple of 4 KiB (R323, R324). -/
def State.slotAddr (s : State) (n : Nat) (idx : BitVec 16) : Nat :=
  let r := s.ring n
  r.baseHi.toNat * 2 ^ 32 + r.baseLo.toNat / 4096 * 4096 + idx.toNat % r.cap * entrySize n
/-- The slots of a device ring that the host has not freed: address and bytes, oldest first. -/
def State.ringMem (s : State) (n : Nat) : List (Nat × List Byte) :=
  (s.ring n).out.zipIdx.map fun e => (s.slotAddr n ((s.ring n).hostIdx + BitVec.ofNat 16 e.2), e.1.2.bytes e.1.1)

end Sys2Proof.Machine
end

