-- ==== Sys2Proof/Safety.lean ====
section
/-! DEFINITION. What the claims call a sound state, and the conditions on a state that several claims share. -/
namespace Sys2Proof.Machine

/-- The code RAM, the roster and the benches are in canonical form (log entry 2). -/
def State.memWf (s : State) : Bool :=
  Memory.wf s.cores.code && Memory.wf s.cores.roster && Memory.wf s.cores.bench

/-- The port's message table stands before an entry of this ACTION, ARG and WAIT NONE without END, and may act (R76–R80). -/
def State.atEntry (s : State) (p : PortId) (act arg : Nat) : Prop :=
  (s.port p).pd.table ≠ .hold ∧ (s.port p).pd.waiting = false ∧ s.tileDeaf p = false ∧
    mtAct (s.mtEntry p) = act ∧ mtArg (s.mtEntry p) = arg ∧ mtWait (s.mtEntry p) = 0 ∧ mtEnd (s.mtEntry p) = false

/-- The port's message table waits, under this WAIT code, on an entry (R78). -/
def State.atWait (s : State) (p : PortId) (w : Nat) : Prop :=
  (s.port p).pd.table ≠ .hold ∧ (s.port p).pd.waiting = true ∧ s.tileDeaf p = false ∧ mtWait (s.mtEntry p) = w

/-- The policy of the port takes messages, and its TX buffer is free with nothing queued before it (R68, R97, R127). -/
def State.policyFree (s : State) (p : PortId) : Prop :=
  s.policyOn p = true ∧ (s.port p).pd.table ≠ .hold ∧ (s.port p).txFree = true ∧ (s.port p).pol.outq = []

/-- The policy judges a Request at once: it meets no sequence of the device's own and is no retry within SWAP_HOLDOFF of one answered Wait
(R124, R156). -/
def State.mayRequest (s : State) (p : PortId) (epr : Bool) : Prop :=
  s.policyFree p ∧ s.ownSeqReq p = false ∧
    ∀ n, (s.port p).pol.waited = some (if epr then .eprRequest else .request, n) → holdoffCycles ≤ s.aon - n
/-- Nothing of the policy waits for the end of what the port does: no message, swap, offer, discovery step, CURTAIL, RESTORE or NOTICE
(R97, R102, R124, R127, R135, R140, R150). -/
def State.nothingWaits (s : State) (p : PortId) : Prop :=
  let q := s.port p
  q.pol.swapDue = false ∧ q.pol.outq = [] ∧ q.pol.newOffer = false ∧ q.pol.cable ≠ .unknown ∧ q.rally.owed = .none ∧
    (q.rally.step = .idle ∨ q.rally.step = .ended) ∧ q.rally.noticeDue = false

/-- The policy answers a request of this kind at once: no sequence of the device's own is in progress, and the request is no retry within
SWAP_HOLDOFF of one answered Wait (R124). -/
def State.mayAnswer (s : State) (p : PortId) (k : MsgKind) : Prop :=
  s.policyFree p ∧ s.ownSeq p = false ∧ ∀ n, (s.port p).pol.waited = some (k, n) → holdoffCycles ≤ s.aon - n
/-- The port's profile offers 5 V 3 A, and the feed carries it: no offer of the port is empty (R98, R101). -/
def State.offers5V (s : State) (p : PortId) : Prop :=
  fixedPdo 5000 3000 ∈ s.profileWords p ∧ s.feedHeld p (fixedPdo 5000 3000) = false
/-- A Hard_Reset of the device's own is due and the hard-reset count allows it (R116). -/
def State.mayHardReset (s : State) (p : PortId) : Prop := (s.port p).pol.hardResets < s.param 0x3001

/-- What sending or receiving a Hard_Reset leaves of a port's contract and policy (R67, R87, R117). -/
def Port.isHardReset (q : Port) : Prop :=
  q.pol.state = .hardReset ∧ q.pol.kind = .none ∧ q.pol.rdo = 0#32 ∧ q.pol.epr = false ∧ q.pd.tx = none ∧ q.pd.entry = 0

/-- The port's sequencer stands before an entry of this ACTION and ARG with WAIT NONE and without END, and may act (R158–R160). -/
def State.atStep (s : State) (p : PortId) (act arg : Nat) : Prop :=
  (s.port p).path.run = true ∧ (s.port p).path.waiting = false ∧ s.tileDeaf p = false ∧
    seAct (s.stepEntryOf p) = act ∧ seArg (s.stepEntryOf p) = arg ∧ seWait (s.stepEntryOf p) = 0 ∧ seEnd (s.stepEntryOf p) = false

/-- The port's sequencer waits on an entry (R161). -/
def State.stepWaits (s : State) (p : PortId) : Prop :=
  (s.port p).path.run = true ∧ (s.port p).path.waiting = true ∧ s.tileDeaf p = false

/-- The entry NEXT_OK of the port's entry is the next to act (R159). -/
def State.okPath (s : State) (p : PortId) (q : Path) : Path := { q with waiting := false, entry := seOk (s.stepEntryOf p) % 64 }

/-- The path of a tripped port, a table on it abandoned (R177). -/
def Path.isTripped (q : Path) : Prop :=
  q.gate = false ∧ q.window = .off ∧ q.vconn = 0 ∧ q.target = 5000 ∧ q.slewTo = none ∧ q.dis = true ∧ q.run = false ∧ q.queued = none

/-- A bank commanded closed is one that conducts or closes, not yet confirmed off (R187, R192, R197). -/
def Feed.gateOk (q : Feed) : Bool := ! q.gate || ((q.state == .inrush || q.state == .active) && ! q.offOk)
/-- At most one feed bank is commanded closed (R185). -/
def State.banksWf (s : State) : Bool := s.feedA.gateOk && s.feedB.gateOk && ! (s.feedA.gate && s.feedB.gate)

/-- The core comes to the move word `w`, which is legal, has the port `a` as its destination and a guard that lets it execute; its
source reads `b`, and `s1` is the state after the fetch, which has corrected a single-bit error of the word, and that read (R269–R278,
R296). -/
def State.nextMove (s : State) (k : CoreId) (a : Nat) (w b : Word) (s1 : State) : Prop :=
  s.canMove k = true ∧ s.fetch k = (w, none) ∧ moveFault w = none ∧
    ∃ m, decodeMove w = some m ∧ m.dst = a ∧ (s.coreAt k).guardOk m.guard = true ∧ (s.fetched k).moveValue k m.src = (b, s1)
/-- The core has made the move `w` that stood at `pc`, in `cy` cycles, and goes on at `nx` (R275–R277). -/
def State.movedTo (s : State) (k : CoreId) (w : Word) (pc cy nx : Nat) : State :=
  s.modCore k fun c => { c with moves := c.moves + cy, lastPc := pc, lastWord := w, pc := nx }
/-- The move is done in `cy` cycles, and the next one follows it. -/
def State.movedOn (s : State) (k : CoreId) (w : Word) (pc cy : Nat) : State := s.movedTo k w pc cy (pc + 4)
/-- The cycles of an LSU access to a segment other than S6 (R276). -/
def segCycles (n cy : Nat) : Prop := (n = 1 ∨ n = 2 ∨ n = 7) ∧ cy = 2 ∨ (n = 3 ∨ n = 5) ∧ cy = 1 ∨ n = 4 ∧ cy = 4
/-- An access of `width` bytes at offset `off` of the selected segment passes the checks of R283 and meets no poisoned word. -/
def State.accessOk (s : State) (k : CoreId) (off width : Nat) (store aadd : Bool) : Prop :=
  s.accessFault k (s.coreAt k).seg off width store aadd = none ∧
    s.poisoned k (s.seg k (s.coreAt k).seg).mem ((s.seg k (s.coreAt k).seg).base + off) width = none
/-- The state in which an access to an offset of the selected segment has corrected the single-bit errors it met (R296, R386). -/
def State.fixedAt (s : State) (k : CoreId) (off width : Nat) : State :=
  s.accessFix k (s.seg k (s.coreAt k).seg).mem ((s.seg k (s.coreAt k).seg).base + off) width
/-- The bytes at an offset of the selected segment. -/
def State.segBytes (s : State) (k : CoreId) (off width : Nat) : List Byte :=
  s.memReads (s.seg k (s.coreAt k).seg).mem ((s.seg k (s.coreAt k).seg).base + off) width

/-- The doorbell of a ring in BAR2 (R320). -/
def bellAt (n : Fin 14) : Fin 4096 := ⟨16 * n.val, by have := n.isLt; omega⟩
/-- Word `n` of an entry of the MSI-X table in BAR2 (R320). -/
def msixAt (k : Fin 32) (n : Fin 4) : Fin 4096 := ⟨0x800 + 16 * k.val + 4 * n.val, by have := k.isLt; have := n.isLt; omega⟩
/-- The completion of a descriptor (R338). -/
def Desc.cplOf (d : Desc) (code : CplCode) (detail : Nat) (data : List Byte) : Cpl :=
  { op := d.op, chain := false, tag := d.tag, port := d.port, code := code, detail := BitVec.ofNat 8 detail, ring := d.ring,
    idx := d.idx, data := data }
/-- From `s` to `u` the CPL ring of a completion takes it, where that ring is enabled and the host link not fenced (R322, R350). -/
def State.completes (s u : State) (c : Cpl) : Prop :=
  s.hostFenced = false → (s.ring (cplRing c.ring)).enable = true →
    ∃ ph, (u.ring (cplRing c.ring)).out = (s.ring (cplRing c.ring)).out ++ [(ph, .cpl c)]
/-- The descriptor is next of its ring and port to start, has this opcode, passes the checks of R331 and names no port of a fenced tile. -/
def State.starts (s : State) (d : Desc) (op : Nat) : Prop :=
  d.opn = op ∧ s.descNext d = true ∧ s.descCheck d = none ∧ ∀ p, d.portId = some p → s.portFenced p = false
/-- The descriptor has left the fetched ones and its completion is out; nothing else of the machine's own has changed. -/
def State.endsWith (s u : State) (d : Desc) (code : CplCode) (detail : Nat) (data : List Byte) : Prop :=
  s.completes u (d.cplOf code detail data) ∧ u.link.fetched = s.link.fetched.erase d
/-- What no completion, no event and no queue entry touches: the ports' paths and policies, tiles, feeds, staging and code RAM. -/
def State.sameBut (s u : State) (l : List PortId) : Prop :=
  (∀ p : PortId, ¬ p ∈ l → u.port p = s.port p) ∧ u.tiles = s.tiles ∧ u.feedA = s.feedA ∧ u.feedB = s.feedB ∧ u.board = s.board ∧
    u.hud = s.hud ∧ u.cfg = s.cfg ∧ u.fuse = s.fuse ∧ u.cores.code = s.cores.code

/-- The six readings of the fuse array are the same (R415). -/
def Fuse.sameArray (f g : Fuse) : Prop :=
  g.aLow = f.aLow ∧ g.aNorm = f.aNorm ∧ g.aHigh = f.aHigh ∧ g.bLow = f.bLow ∧ g.bNorm = f.bNorm ∧ g.bHigh = f.bHigh
/-- The host is up and may start any fuse operation now: TECH and expert unlock hold, and neither an operation nor an audit runs (R421, R435). -/
def State.fuseFree (s : State) : Prop :=
  s.hostUp = true ∧ s.fuse.busy = false ∧ s.fuse.auditing = false ∧ s.techOn .host = true ∧ s.expertOn .host = true
/-- From `s` to `u` the host's operation has started on these bits, from VPP, and nothing has been pulsed yet (R422). -/
def State.fuseRuns (s u : State) (op : FuseOp) (region : Fin 16) (addr : BitVec 8) (bits : List (Fin 8192)) : Prop :=
  u.fuse.job = some { op := op, region := region, addr := addr, data := s.fuse.wdata, todo := bits, agent := false, svc := none } ∧
    u.fuse.source = true ∧ s.fuse.sameArray u.fuse ∧ u.ports = s.ports ∧ u.tiles = s.tiles ∧ u.cores = s.cores
/-- From `s` to `u` the operation was refused with this result, and the array is as it was (R421). -/
def State.fuseRefused (s u : State) (r : FuseResult) : Prop :=
  u.fuse.job = none ∧ u.fuse.result = r ∧ s.fuse.sameArray u.fuse ∧ u.ports = s.ports ∧ u.tiles = s.tiles ∧ u.cores = s.cores

/-- The service port is up in RUN, no recovery agent runs, and the frame belongs to its open TECH session, whose password is its own
by now (R442–R449). -/
def State.svcTech (s : State) (f : SvcFrame) : Prop :=
  s.svcHears = true ∧ s.pwr.dev = .run ∧ s.upd.recovery = false ∧ s.svc.sess ≠ 0 ∧ f.sess.toNat = s.svc.sess ∧ s.svc.level = .tech ∧
    s.pwDue = false
/-- The reply of `u` is the answer to a command of this frame (R440). -/
def State.answers (u : State) (f : SvcFrame) (cmd : Nat) (payload : List Byte) : Prop :=
  u.svc.reply = svcFrame f.sess (BitVec.ofNat 8 (cmd + 0x80)) f.seq payload
/-- The reply of `u` refuses the command of this frame with a code (R442). -/
def State.naks (u : State) (f : SvcFrame) (cmd code : Nat) (more : List Byte) : Prop :=
  u.svc.reply = svcFrame f.sess 0xFF#8 f.seq ([BitVec.ofNat 8 cmd, BitVec.ofNat 8 code] ++ more)

end Sys2Proof.Machine
end

