-- ==== Sys2Proof/Certificates/Slice0/Obligations.lean ====
section
/-! DEFINITION. What is claimed of the HZ7192: statements for the provers, chapter by chapter of spec/. A clause of the form
`∃ u, exec c s = .next u ∧ …` says that the command completes with its own effect, and what the next state holds. -/
open Sys2Proof Sys2Proof.Machine

/-! ### Tile links (01) -/

/-- R16, R17: a packet whose CRC covers its header and payload is acknowledged and leaves the unacknowledged packets; one that
fails its CRC is negatively acknowledged, counted and sent again; while eight are unacknowledged a further packet waits; a packet
unacknowledged for 4 µs is sent again; the eighth send without acknowledgement is link loss. R18: what waits is kept in order of
priority, equal priorities in order of arrival. R19: an idle packet takes the next sequence number.
Where the rules leave a corner open it is the model's choice: log entries 8, 17 and 18.
Each of these commands completes here (the conclusion is a next state with its own effect, from conditions on the state and the
operands alone): .tileLinkPacket, .tileLinkResendTimeout, .tileLinkIdle. -/
def Obligations.TileLinkPacketsAcknowledged : Prop :=
  (∀ (t : Fin 8) (h : BitVec 32) (pl : List (BitVec 32)) (s : State), (s.tile t).link = .up → pl.length ≤ 32 →
    hdrLen h = pl.length → hdrSeq h = ((s.tile t).tileSeq + 1) % 64 → (∀ e ∈ (s.tile t).tileUn, e.1 ≠ hdrSeq h) →
    (s.tile t).tileUn.length < 8 →
    exec (.tileLinkPacket t true h pl (packetCrc h pl)) s = .next (s.modTile t fun q =>
      { q with tileSeq := hdrSeq h, hubAck := some (hdrSeq h, true) })) ∧
  (∀ (t : Fin 8) (h : BitVec 32) (pl : List (BitVec 32)) (s : State), (s.tile t).link = .up → pl.length ≤ 32 →
    hdrLen h = pl.length → (∃ e ∈ (s.tile t).hubUn, e.1 = hdrSeq h) → (s.tile t).hubWait = [] →
    exec (.tileLinkPacket t false h pl (packetCrc h pl)) s = .next (s.modTile t fun q =>
      { q with hubUn := q.hubUn.filter (fun e => e.1 != hdrSeq h), tileAck := some (hdrSeq h, true) })) ∧
  (∀ (t : Fin 8) (h : BitVec 32) (pl : List (BitVec 32)) (c : BitVec 32) (s : State), (s.tile t).link = .up →
    c ≠ packetCrc h pl → hdrSeq h = ((s.tile t).tileSeq + 1) % 64 → (∀ e ∈ (s.tile t).tileUn, e.1 ≠ hdrSeq h) →
    (s.tile t).tileUn.length < 8 →
    exec (.tileLinkPacket t true h pl c) s = .next (s.modTile t fun q =>
      { q with tileSeq := hdrSeq h, tileUn := q.tileUn ++ [(hdrSeq h, 2)], hubAck := some (hdrSeq h, false), crcErr := q.crcErr.inc16,
               resend := q.resend.inc32 })) ∧
  (∀ (t : Fin 8) (h : BitVec 32) (pl : List (BitVec 32)) (c : BitVec 32) (s : State), (s.tile t).link = .up →
    c ≠ packetCrc h pl → (∃ e ∈ (s.tile t).tileUn, e.1 = hdrSeq h) → 8 ≤ sendsOf (s.tile t).tileUn (hdrSeq h) →
    ∃ u, exec (.tileLinkPacket t true h pl c) s = .next u ∧ (u.tile t).link = .lost) ∧
  (∀ (t : Fin 8) (h : BitVec 32) (pl : List (BitVec 32)) (c : BitVec 32) (s : State), (s.tile t).link = .up →
    hdrSeq h = ((s.tile t).tileSeq + 1) % 64 → (∀ e ∈ (s.tile t).tileUn, e.1 ≠ hdrSeq h) → (s.tile t).tileUn.length = 8 →
    exec (.tileLinkPacket t true h pl c) s = .next (s.modTile t fun q =>
      { q with tileSeq := hdrSeq h, tileWait := linkInsert ⟨hdrPri h, hdrSeq h, packetGood h pl c⟩ q.tileWait })) ∧
  (∀ (x : LinkPkt) (l : List LinkPkt), l.Pairwise (fun a b => a.pri ≤ b.pri) →
    (linkInsert x l).Pairwise (fun a b => a.pri ≤ b.pri) ∧ (linkInsert x l).Perm (x :: l) ∧
      ∀ n, (linkInsert x l).filter (fun y => y.pri == n) = l.filter (fun y => y.pri == n) ++ if x.pri = n then [x] else []) ∧
  (∀ (t : Fin 8) (seq : Nat) (s : State), (s.tile t).link = .up → (∃ e ∈ (s.tile t).hubUn, e.1 = seq) →
    sendsOf (s.tile t).hubUn seq < 8 →
    exec (.tileLinkResendTimeout t false seq) s = .next (s.modTile t fun q =>
      { q with hubUn := sendAgain q.hubUn seq, resend := q.resend.inc32 })) ∧
  (∀ (t : Fin 8) (seq : Nat) (s : State), (s.tile t).link = .up → (∃ e ∈ (s.tile t).tileUn, e.1 = seq) →
    8 ≤ sendsOf (s.tile t).tileUn seq →
    ∃ u, exec (.tileLinkResendTimeout t true seq) s = .next u ∧ (u.tile t).link = .lost) ∧
  (∀ (t : Fin 8) (s : State), (s.tile t).link = .up → (s.tile t).tileUn = [] → (s.tile t).tileWait = [] →
    exec (.tileLinkIdle t true) s = .next (s.modTile t fun q =>
      { q with tileSeq := (q.tileSeq + 1) % 64, hubAck := some ((q.tileSeq + 1) % 64, true) })) ∧
  (∀ (t : Fin 8) (s : State), (s.tile t).link = .up → (s.tile t).hubUn = [] → (s.tile t).hubWait = [] →
    exec (.tileLinkIdle t false) s = .next (s.modTile t fun q =>
      { q with hubSeq := (q.hubSeq + 1) % 64, tileAck := some ((q.hubSeq + 1) % 64, true) }))

/-- R20–R24, R514: link loss puts the tile's ports into the port safe state (gate open, window OFF, VCONN off, feedback target at
5 V, discharge on, Rp removed) and fences the tile; of a BOOT_SINK, which the rule excepts, nothing changes but its event queue; a lost
link retrains while TAn is powered, the hub reloads the tile, and the tile leaves the safe state with all its ports unattached once the
wire is released, the link is up, the reload is verified and 40 ms have passed; a tile that link loss or its supply has restarted
comes back with the message sequencers of its ports at reset.
Where the rules leave a corner open it is the model's choice: log entries 6, 18 and 37.
Each of these commands completes here (the conclusion is a next state with its own effect, from conditions on the state and the
operands alone): .linkLoss, .tileLinkTrainRetry, .tileLinkTrained, .tileReloadDone, .safeWireRelease, .tileSafeExit. -/
def Obligations.LinkLossAndReturn : Prop :=
  (∀ (t : Fin 8) (l : Fin 24) (s : State), (s.tile t).link = .up → (s.tile t).safe = false →
    (s.port (portAt t l)).cc.state ≠ .bootSink →
    ∃ u, exec (.linkLoss t) s = .next u ∧ (u.tile t).link = .lost ∧ (u.tile t).safe = true ∧ u.tileFenced t = true ∧
      (u.tile t).loss = (s.tile t).loss.inc32 ∧ u.ref.fault.getLsbD 7 = true ∧
      (u.port (portAt t l)).path.gate = false ∧ (u.port (portAt t l)).path.window = .off ∧
      (u.port (portAt t l)).path.vconn = 0 ∧ (u.port (portAt t l)).path.target = 5000 ∧
      (u.port (portAt t l)).path.dis = true ∧ (u.port (portAt t l)).path.disTrip = true ∧
      ((s.port (portAt t l)).cc.state ≠ .bootRd → (u.port (portAt t l)).cc.rp = .off)) ∧
  (∀ (t : Fin 8) (l : Fin 24) (s : State), (s.tile t).link = .up → (s.tile t).safe = false →
    (s.port (portAt t l)).cc.state = .bootSink →
    ∃ u, exec (.linkLoss t) s = .next u ∧ (u.port (portAt t l)).cc = (s.port (portAt t l)).cc ∧
      (u.port (portAt t l)).path = (s.port (portAt t l)).path ∧ (u.port (portAt t l)).pol = (s.port (portAt t l)).pol) ∧
  (∀ (t : Fin 8) (s : State), (s.tile t).link = .lost → s.pwr.powered.getLsbD (domTile t) = true →
    exec (.tileLinkTrainRetry t) s = .next (s.modTile t fun q => { q with link := .training })) ∧
  (∀ (t : Fin 8) (s : State), (s.tile t).link = .training → (s.tile t).wires = [] →
    exec (.tileLinkTrained t) s = .next (s.modTile t fun q =>
      { q with link := .reloading, hubUn := [], tileUn := [], hubWait := [], tileWait := [], digTick := none, digGood := 0 })) ∧
  (∀ (t : Fin 8) (s : State), (s.tile t).link = .reloading → (s.tile t).safe = true → s.domFenced domFeed = false →
    exec (.tileReloadDone t) s = .next ((s.tileCatchUp t).modTile t fun q => { q with link := .up, reloaded := true })) ∧
  (∀ (t : Fin 8) (s : State), (s.tile t).wires = [.digestLost] → (s.tile t).link = .up → 20 ≤ (s.tile t).digGood →
    exec (.safeWireRelease t .digestLost) s = .next (s.modTile t fun q =>
      { q with wires := [], digGood := 0, link := .reloading })) ∧
  (∀ (t : Fin 8) (s : State), (s.tile t).wires = [.supply] → (s.tile t).link = .up → (s.tile t).late = false →
    msCycles 100 ≤ s.aon - (s.tile t).vtAt →
    exec (.safeWireRelease t .supply) s = .next (s.modTile t fun q =>
      { q with wires := [], vtOut := false, link := .reloading })) ∧
  (∀ (t : Fin 8) (s : State), exec (.safeWireRelease t .romTile) s = .next s) ∧
  (∀ (t : Fin 8) (l : Fin 24) (s : State), (s.tile t).safe = true → (s.tile t).wires = [] → (s.tile t).link = .up →
    (s.tile t).reloaded = true → msCycles 40 ≤ s.aon - (s.tile t).safeAt →
    ∃ u, exec (.tileSafeExit t) s = .next u ∧ (u.tile t).safe = false ∧ (u.tile t).lost = false ∧
      u.tileFenced t = false ∧ u.cores = s.cores ∧
      ((s.tile t).restart = false → u.port (portAt t l) = (s.port (portAt t l)).unattached ∧ u.pwr.cause = s.pwr.cause) ∧
      ((s.tile t).restart = true → (u.port (portAt t l)).pd = { Pd.reset with table := s.selTable (portAt t l) } ∧
        ((s.port (portAt t l)).cc.state = .attached → (u.port (portAt t l)).cc.state = (if (s.port (portAt t l)).pol.enabled = true then .watch else .disabled)) ∧
        (u.tile t).restart = false ∧ u.pwr.cause = setBit s.pwr.cause 5 true))

/-! ### Attach watch, orientation and detach (02) -/

/-- R34, R38: the pairing of two line codes, and what it stands for; it is symmetric, with the orientation exchanged. -/
def Obligations.PairingsRecognised : Prop :=
  pairing .opn .opn = (.none, false) ∧
  pairing .rd .opn = (.sink, false) ∧ pairing .opn .rd = (.sink, true) ∧
  pairing .rd .ra = (.sinkPoweredCable, false) ∧ pairing .ra .rd = (.sinkPoweredCable, true) ∧
  (pairing .ra .opn).1 = .cableOnly ∧ (pairing .opn .ra).1 = .cableOnly ∧
  (pairing .rd .rd).1 = .debugAcc ∧ (pairing .ra .ra).1 = .audioAcc ∧
  (∀ x : LineCode, (pairing .driven x).1 = .ccDriven ∧ (pairing x .driven).1 = .ccDriven) ∧
  (∀ a b : LineCode, (pairing a b).1 = (pairing b a).1) ∧
  (∀ a b : LineCode, (pairing a b).1.attaches = true ↔
    (pairing a b).1 = .sink ∨ (pairing a b).1 = .sinkPoweredCable ∨ (pairing a b).1 = .debugAcc ∨ (pairing a b).1 = .audioAcc)

/-- R31, R33, R39, R40, R56: a watch sample of a watched port records both line codes and slides the filter window; an attaching
pairing starts Rp hold, and N of the last M samples with it latch attach-wait and end Rp hold; any other pairing leaves the state. R30:
a disabled port is not sampled. R40: after 100 ms without an attaching pairing, Rp hold ends.
Where the rules leave a corner open it is the model's choice: log entries 4, 5 and 6.
Each of these commands completes here (the conclusion is a next state with its own effect, from conditions on the state and the
operands alone): .watchSample, .rpHoldTimeout. -/
def Obligations.WatchSampleFilters : Prop :=
  (∀ (p : Fin 192) (a b : LineCode) (s : State), ((s.port p).cc.state = .watch ∨ (s.port p).cc.state = .rpHold) →
    (s.port p).pol.enabled = true →
    (pairing a b).1.attaches = true →
    ((pairing a b :: (s.port p).cc.filt).take (s.tileCfg (tileOf p)).filtM).count (pairing a b) < (s.tileCfg (tileOf p)).filtN →
    ∃ u, exec (.watchSample p a b) s = .next u ∧ (u.port p).cc.state = .rpHold ∧ (u.port p).cc.rpHold = true ∧
      (u.port p).cc.rp = .dflt ∧ (u.port p).cc.partner = (pairing a b).1 ∧ (u.port p).cc.cc2 = (pairing a b).2 ∧
      (u.port p).cc.line1 = a ∧ (u.port p).cc.line2 = b ∧
      (u.port p).cc.hist = ((a, b) :: (s.port p).cc.hist).take 8 ∧
      (u.port p).cc.filt = (pairing a b :: (s.port p).cc.filt).take (s.tileCfg (tileOf p)).filtM ∧
      (∀ q : Fin 192, q ≠ p → u.port q = s.port q) ∧ (u.port p).path = (s.port p).path ∧ u.link = s.link) ∧
  (∀ (p : Fin 192) (a b : LineCode) (s : State), ((s.port p).cc.state = .watch ∨ (s.port p).cc.state = .rpHold) →
    (s.port p).pol.enabled = true →
    (pairing a b).1.attaches = true →
    (s.tileCfg (tileOf p)).filtN ≤ ((pairing a b :: (s.port p).cc.filt).take (s.tileCfg (tileOf p)).filtM).count (pairing a b) →
    ∃ u, exec (.watchSample p a b) s = .next u ∧ (u.port p).cc.state = .attachWait ∧
      (u.port p).cc.latched = some (pairing a b) ∧ (u.port p).cc.debounced = false ∧ (u.port p).cc.rpHold = false ∧ u.link = s.link) ∧
  (∀ (p : Fin 192) (a b : LineCode) (s : State), ((s.port p).cc.state = .watch ∨ (s.port p).cc.state = .rpHold) →
    (s.port p).pol.enabled = true →
    (pairing a b).1.attaches = false →
    ∃ u, exec (.watchSample p a b) s = .next u ∧ (u.port p).cc.state = (s.port p).cc.state ∧
      (u.port p).cc.partner = (pairing a b).1 ∧ (u.port p).cc.latched = (s.port p).cc.latched ∧
      (u.port p).cc.filt = (pairing a b :: (s.port p).cc.filt).take (s.tileCfg (tileOf p)).filtM ∧ u.link = s.link) ∧
  (∀ (p : Fin 192) (s : State), (s.port p).cc.state = .rpHold →
    exec (.rpHoldTimeout p) s = .next (s.modPort p fun q =>
      { q with cc := { q.cc with state := .watch, rpHold := false, rp := .off } })) ∧
  (∀ (p : Fin 192) (a b : LineCode) (s : State), ((s.port p).cc.state = .watch ∨ (s.port p).cc.state = .rpHold) →
    (s.port p).pol.enabled = false → exec (.watchSample p a b) s = .next s)

/-- R37, R41, R42, R47, R56: in attach-wait every sample is shown in the line codes and the partner type; four consecutive non-attaching
samples return the port to watch with its filter cleared, four differing ones take the new pairing; tCCDebounce with VBUS at or below
0.8 V by both paths attaches, above it the port waits until VBUS is cleared; an accessory attaches without a step table, and a driven
line blocks the attach; a fourth open sample in a row as tCCDebounce ends returns the port to watch. R43, R44, R183: the fourth consecutive counted sample at or above the detach threshold of the Rp level in force
declares detach and the path goes to the port safe state; a sample under the port's own transmission, or not counted, is recorded only.
Where the rules leave a corner open it is the model's choice: log entries 4, 5, 6, 19 and 63.
Each of these commands completes here (the conclusion is a next state with its own effect, from conditions on the state and the
operands alone): .attachWaitSample, .ccDebounceDone, .attachVbusCleared, .detachSample. -/
def Obligations.AttachAndDetachDecided : Prop :=
  (∀ (p : Fin 192) (a b : LineCode) (s : State), (s.port p).cc.state = .attachWait → (s.port p).pol.enabled = true →
    (pairing a b).1.attaches = false → (s.port p).cc.latched ≠ some (pairing a b) → (s.port p).cc.nonAttach = 3 →
    ∃ u, exec (.attachWaitSample p a b) s = .next u ∧ (u.port p).cc.state = .watch ∧ (u.port p).cc.filt = [] ∧
      (u.port p).cc.latched = none ∧ (u.port p).cc.rp = .off ∧ (u.port p).cc.partner = (pairing a b).1 ∧ u.link = s.link) ∧
  (∀ (p : Fin 192) (a b : LineCode) (s : State), (s.port p).cc.state = .attachWait → (pairing a b).1.attaches = true →
    (s.port p).cc.latched ≠ some (pairing a b) → (s.port p).cc.differ = 3 →
    pairing (s.port p).cc.line1 (s.port p).cc.line2 = pairing a b →
    ∃ u, exec (.attachWaitSample p a b) s = .next u ∧ (u.port p).cc.state = .attachWait ∧
      (u.port p).cc.latched = some (pairing a b) ∧ (u.port p).cc.debounced = false ∧
      (u.port p).cc.partner = (pairing a b).1 ∧ (u.port p).cc.line1 = a ∧ (u.port p).cc.line2 = b) ∧
  (∀ (p : Fin 192) (a b : LineCode) (vb : Nat) (vs0 : Bool) (s : State), (s.port p).cc.state = .attachWait →
    (pairing a b).1.attaches = true → (s.port p).cc.latched = some (pairing a b) → (800 < vb ∨ vs0 = false) →
    exec (.ccDebounceDone p a b vb vs0) s = .next (s.modPort p fun q =>
      { q with cc := { q.cc.record a b with partner := (pairing a b).1, cc2 := (pairing a b).2, nonAttach := 0, differ := 0,
                                            openRun := 0, debounced := true, attachDue := false } })) ∧
  (∀ (p : Fin 192) (a b : LineCode) (vb : Nat) (o : Bool) (s : State), (s.port p).cc.state = .attachWait → vb ≤ 800 →
    pairing a b = (.sink, o) → (s.port p).cc.latched = some (.sink, o) → s.tileDeaf p = false → (s.port p).retry.lock = .none →
    (s.port p).retry.due = none → (s.port p).path.run = false → (s.port p).path.queued = none →
    (s.tileCfg (tileOf p)).stOvr.getLsbD 0 = false →
    ∃ u, exec (.ccDebounceDone p a b vb true) s = .next u ∧ (u.port p).cc.state = .attached ∧ (u.port p).cc.partner = .sink ∧
      (u.port p).cc.cc2 = o ∧ (u.port p).cc.rp = .dflt ∧ (u.port p).path.run = true ∧ (u.port p).path.table = 0 ∧
      (u.port p).path.entry = 0 ∧ (u.port p).path.post.mv = 5000 ∧ u.link = s.link) ∧
  (∀ (p : Fin 192) (a b : LineCode) (vb : Nat) (vs0 : Bool) (s : State), (s.port p).cc.state = .attachWait → (s.port p).pol.enabled = true →
    (s.port p).cc.latched = some (.debugAcc, false) → (a = .opn ∨ b = .opn) → (s.port p).cc.openRun = 3 →
    ∃ u, exec (.ccDebounceDone p a b vb vs0) s = .next u ∧ (u.port p).cc.state = .watch ∧ (u.port p).cc.filt = [] ∧
      (u.port p).cc.latched = none ∧ (u.port p).path = (s.port p).path ∧ u.link = s.link) ∧
  (∀ (p : Fin 192) (vb : Nat) (o : Bool) (s : State), (s.port p).cc.state = .attachWait → (s.port p).cc.debounced = true → vb ≤ 800 →
    (s.port p).cc.line1 = .ra → (s.port p).cc.line2 = .ra → (s.port p).cc.latched = some (.audioAcc, o) → s.tileDeaf p = false →
    ∃ u, exec (.attachVbusCleared p vb true) s = .next u ∧ (u.port p).cc.state = .attached ∧ (u.port p).cc.partner = .audioAcc ∧
      (u.port p).path = (s.port p).path ∧ (u.port p).cnt.attach = (s.port p).cnt.attach.inc32) ∧
  (∀ (p : Fin 192) (vb : Nat) (s : State), (s.port p).cc.state = .attachWait → (s.port p).cc.debounced = true → vb ≤ 800 →
    (s.port p).cc.line1 = .driven →
    exec (.attachVbusCleared p vb true) s = .next (s.modPort p fun q => { q with cc := { q.cc with attachDue := true } })) ∧
  (∀ (p : Fin 192) (v1 v2 : Nat) (s : State), (s.port p).cc.state = .attached → (s.port p).cc.partner = .sink →
    (s.port p).pd.txActive = false → (s.port p).pd.gcActive = false → (s.port p).cc.rpNow.openMv ≤ (bif (s.port p).cc.cc2 then v2 else v1) →
    (s.port p).cc.detachRun = 3 →
    ∃ u, exec (.detachSample p v1 v2 true []) s = .next u ∧ (u.port p).cc.state = .detaching ∧ (u.port p).cc.rp = .off ∧
      (u.port p).path.gate = false ∧ (u.port p).path.run = false ∧ (u.port p).path.window = .off ∧
      (u.port p).path.vconn = 0 ∧ (u.port p).path.dis = true ∧
      (u.port p).path.detachMid = some ((s.port p).path.run && (s.port p).path.moved) ∧
      (u.port p).pol.state = .detached) ∧
  (∀ (p : Fin 192) (v1 v2 : Nat) (l : List Tripping) (s : State), (s.port p).cc.state = .attached →
    (s.port p).cc.partner = .sink → (s.port p).pd.txActive = false → (s.port p).pd.gcActive = false →
    (bif (s.port p).cc.cc2 then v2 else v1) < (s.port p).cc.rpNow.openMv →
    exec (.detachSample p v1 v2 true l) s = .next (s.modPort p fun q =>
      { q with cc := { q.cc.record (lineCode q.cc.rpNow.openMv v1) (lineCode q.cc.rpNow.openMv v2) with detachRun := 0 } })) ∧
  (RpLevel.dflt.openMv = 1600 ∧ RpLevel.a15.openMv = 1600 ∧ RpLevel.a30.openMv = 2600) ∧
  (∀ (p : Fin 192) (v1 v2 : Nat) (c : Bool) (l : List Tripping) (s : State), s.pwr.dev ≠ .deep → (s.port p).cc.state = .attached →
    (c = false ∨ (s.port p).pd.txActive = true ∨ (s.port p).pd.gcActive = true) →
    exec (.detachSample p v1 v2 c l) s = .next (s.modPort p fun q =>
      { q with cc := q.cc.record (lineCode q.cc.rpNow.openMv v1) (lineCode q.cc.rpNow.openMv v2) }))

/-- R46, R58, R60, R513: a line above 5.5 V removes Rp and VCONN, makes the port safe and holds it; it is released after 1 s; a second
consecutive failed test of one comparator locks the port out, and the test of that comparator asked for by PORT_ENABLE lifts the lockout
when it passes. R53, R54, R55: a bootstrap port becomes a BOOT_SINK with the partner's level; Rd is removed, once the tile has been
released, and source watch begins; a BOOT_SINK whose VBUS is lost detaches.
Where the rules leave a corner open it is the model's choice: log entries 19, 33 and 61.
Each of these commands completes here (the conclusion is a next state with its own effect, from conditions on the state and the
operands alone): .ccOvervolt, .ccHoldOffEnd, .ccComparatorTest, .bootSinkAttach, .bootRdRelease, .bootSinkDetach. -/
def Obligations.CcFaultsAndBootstrapPorts : Prop :=
  (∀ (p : Fin 192) (l : Bool) (mv : Nat) (s : State), 5500 < mv → (s.port p).cc.state = .attached → (s.port p).path.gate = true →
    ∃ u, exec (.ccOvervolt p l mv) s = .next u ∧ (u.port p).cc.state = .ccHoldOff ∧ (u.port p).cc.rp = .off ∧
      (u.port p).path.gate = false ∧ (u.port p).path.vconn = 0 ∧ (u.port p).path.dis = true ∧
      (u.port p).cc.ov2 = ((s.port p).cc.ov2 || l) ∧ (u.port p).cc.ov1 = ((s.port p).cc.ov1 || !l)) ∧
  (∀ (p : Fin 192) (s : State), (s.port p).cc.state = .ccHoldOff → (s.port p).pol.enabled = true →
    secCycles 1 ≤ s.aon - (s.port p).cc.ovAt →
    ∃ u, exec (.ccHoldOffEnd p) s = .next u ∧ (u.port p).cc.state = .watch ∧ (u.port p).cc.ov1 = false ∧
      (u.port p).cc.ov2 = false ∧ (u.port p).path = (s.port p).path ∧ u.link = s.link) ∧
  (∀ (p : Fin 192) (i : Nat) (s : State), (s.port p).cc.cmpFails = [i] → (s.port p).retry.lock = .none →
    ∃ u, exec (.ccComparatorTest p i false) s = .next u ∧ (u.port p).cc.state = .lockedOut ∧ (u.port p).cc.rp = .off ∧
      (u.port p).retry.lock = .cmpStuck ∧ (u.port p).path.gate = false ∧ u.ref.fault.getLsbD 0x0D = true) ∧
  (∀ (p : Fin 192) (i : Nat) (s : State), (s.port p).cc.cmpFails.contains i = false →
    exec (.ccComparatorTest p i false) s = .next (s.modPort p fun q => { q with cc := { q.cc with cmpFails := q.cc.cmpFails ++ [i] } })) ∧
  (∀ (p : Fin 192) (i : Nat) (s : State), (s.port p).cc.cmpRetest = true → (s.port p).retry.lock = .cmpStuck →
    (s.port p).cc.cmpStuck = [i] → (s.port p).cc.cmpFails = [] →
    exec (.ccComparatorTest p i true) s = .next (s.modPort p fun q =>
      { q with cc := { q.cc with cmpStuck := [], cmpRetest := false }, retry := { q.retry with lock := .none } })) ∧
  (∀ (p : Fin 192) (i k : Nat) (s : State), (s.port p).cc.cmpRetest = true → (s.port p).retry.lock = .cmpStuck → k < 6 → i ≠ k →
    (s.port p).cc.cmpStuck = [k] → (s.port p).cc.cmpFails = [] → exec (.ccComparatorTest p i true) s = .next s) ∧
  (∀ (p : Fin 192) (i : Nat) (s : State), (s.port p).cc.cmpRetest = false →
    exec (.ccComparatorTest p i true) s = .next (s.modPort p fun q =>
      { q with cc := { q.cc with cmpFails := q.cc.cmpFails.filter (· != i) } })) ∧
  (∀ (p : Fin 192) (l : Bool) (mv : Nat) (s : State), (s.port p).cc.state = .bootRd → s.pwr.domUp = true →
    ∃ u, exec (.bootSinkAttach p l mv) s = .next u ∧ (u.port p).cc.state = .bootSink ∧ (u.port p).cc.partner = .bootSink ∧
      (u.port p).cc.cc2 = l ∧ (u.port p).cc.rp = sinkLevel mv ∧ (u.port p).path = (s.port p).path ∧
      (u.port p).cnt.attach = (s.port p).cnt.attach.inc32) ∧
  (∀ (p : Fin 192) (s : State), (s.port p).cc.state = .bootRd → (s.port p).cc.disablePend = false →
    (s.port p).pol.enabled = true → (s.tile (tileOf p)).released = true →
    exec (.bootRdRelease p) s = .next (s.modPort p Port.toWatch) ∧ ((s.port p).toWatch).cc.state = .watch) ∧
  (∀ (p : Fin 192) (s : State), (s.port p).cc.state = .bootSink → (s.port p).cc.disablePend = false →
    ∃ u, exec (.bootSinkDetach p) s = .next u ∧ (u.port p).cc.state = .detaching ∧ (u.port p).cc.rp = .off ∧
      (u.port p).path.gate = (s.port p).path.gate ∧ (u.port p).sb = (s.port p).sb)

/-! ### The protocol sequencer (03) -/

/-- R64, R65, R67, R78, R90: a frame that does not decode is counted RX_CODE, one whose CRC-32 fails RX_CRC, neither reaches the
table; a frame cut short counts RX_TRUNC; each of them leaves the slicer as it trained it (R63); a valid reception ends an RX_OR_TX
wait with success; Hard_Reset signalling clears the TX buffer and all MessageID state, returns the slicer to 25 and restarts the table;
Cable_Reset is ignored; a hold that expires ends in a hard reset that counts, and the port returns to the table MT_SEL selects (R88,
R117). R71, R86: a reply in hold that draws no GoodCRC is sent again while retries are left.
Where the rules leave a corner open it is the model's choice: log entries 5, 11 and 58.
Each of these commands completes here (the conclusion is a next state with its own effect, from conditions on the state and the
operands alone): .frameReceived, .rxAbort, .hardResetRx, .holdExpired, .msgWaitTimeout, .cableResetRx. -/
def Obligations.ReceptionsCheckedAndCounted : Prop :=
  (∀ (p : Fin 192) (f : FrameIn) (s : State), (s.port p).hears = true → s.tileDeaf p = false → f.sop = .sop →
    f.codeOk = false →
    ∃ u, exec (.frameReceived p f) s = .next u ∧ (u.port p).pd.rxCode = (s.port p).pd.rxCode.inc16 ∧
      (u.port p).pd.rxCrc = (s.port p).pd.rxCrc ∧ (u.port p).pd.entry = (s.port p).pd.entry ∧
      (u.port p).pd.rx = (s.port p).pd.rx ∧ (u.port p).pd.vth = s.slicerAfter p f.mean f.early ∧ (u.port p).pol = (s.port p).pol) ∧
  (∀ (p : Fin 192) (f : FrameIn) (s : State), (s.port p).hears = true → s.tileDeaf p = false → f.sop = .sop →
    f.codeOk = true → f.eop = true → f.data.length ≤ 262 → f.crc ≠ crc32 (bytesLE 2 f.hdr.toNat ++ f.data) →
    ∃ u, exec (.frameReceived p f) s = .next u ∧ (u.port p).pd.rxCrc = (s.port p).pd.rxCrc.inc16 ∧
      (u.port p).pd.rxCode = (s.port p).pd.rxCode ∧ (u.port p).pd.entry = (s.port p).pd.entry ∧
      (u.port p).pd.rx = (s.port p).pd.rx ∧ (u.port p).pd.vth = s.slicerAfter p f.mean f.early ∧ (u.port p).pol = (s.port p).pol) ∧
  (∀ (p : Fin 192) (f : FrameIn) (s : State), (s.port p).hears = true → f.sop = .sop →
    f.codeOk = true → f.eop = true → f.data.length ≤ 262 → f.crc = crc32 (bytesLE 2 f.hdr.toNat ++ f.data) →
    s.atWait p 1 →
    ∃ u, exec (.frameReceived p f) s = .next u ∧ (u.port p).pd.waiting = false ∧ (u.port p).pd.byRx = true ∧
      (u.port p).pd.entry = mtNext (s.mtEntry p) true ∧
      (u.port p).pd.rx = some ⟨.sop, kindOf f.hdr f.data, f.hdr, f.data⟩) ∧
  (∀ (p : Fin 192) (mean : Option Nat) (early : Nat) (s : State), (s.port p).hears = true → s.tileDeaf p = false →
    exec (.rxAbort p mean early) s = .next (s.modPort p fun q =>
      { q with pd := { q.pd with vth := s.slicerAfter p mean early, rxTrunc := q.pd.rxTrunc.inc16 } })) ∧
  (∀ (p : Fin 192) (m : Nat) (s : State), (s.tileCfg (tileOf p)).slicer = 0 →
    s.slicerAfter p (some m) 0 = min 50 ((m + 5) / 10 - 30)) ∧
  (∀ (p : Fin 192) (s : State), (s.port p).cc.state = .attached → (s.port p).cc.partner = .sink → s.tileDeaf p = false →
    ∃ u, exec (.hardResetRx p) s = .next u ∧ (u.port p).pd.tx = none ∧ (u.port p).pd.entry = 0 ∧
      (u.port p).pd.txId0 = 0 ∧ (u.port p).pd.txId1 = 0 ∧ (u.port p).pd.txId2 = 0 ∧ (u.port p).pd.rxId0 = none ∧
      (u.port p).pd.rxId1 = none ∧ (u.port p).pd.rxId2 = none ∧ (u.port p).pol.rdo = 0#32 ∧
      (u.port p).pol.kind = .none ∧ (u.port p).pol.state = .hardReset ∧ (u.port p).pd.vth = 25 ∧
      (u.port p).pd.table = (if (s.port p).pd.table = .hold then s.selTable p else (s.port p).pd.table) ∧
      (u.port p).cnt.hrst = (s.port p).cnt.hrst.inc32 ∧ (u.port p).pol.hardResets = (s.port p).pol.hardResets) ∧
  (∀ (p : Fin 192) (s : State), exec (.cableResetRx p) s = .next s) ∧
  (∀ (p : Fin 192) (s : State), (s.port p).pd.table = .hold → (s.port p).pd.resume = false →
    ∃ u, exec (.holdExpired p) s = .next u ∧ (u.port p).pd.table = s.selTable p ∧ (u.port p).isHardReset ∧
      (u.port p).pd.last = .hardReset ∧ (u.port p).pol.hardResets = (s.port p).pol.hardResets + 1) ∧
  (∀ (p : Fin 192) (m : TxMsg) (s : State), (s.port p).pd.table = .hold → (s.port p).pd.tx = some m →
    (s.port p).pd.txStarted = true → (s.port p).pd.retry < (s.port p).pd.retries →
    exec (.msgWaitTimeout p) s = .next (s.modPd p fun q => { q with retry := q.retry + 1, txActive := true }))

/-- R69, R77–R79: each ACTION with WAIT NONE acts and goes on to NEXT_OK, or NEXT_ALT on its alternate outcome; TX of the TX buffer
starts its message, and TX of Hard_Reset sends it, the entry's own next entry following; REPORT CHUNK_FAIL keeps the TX buffer; the waits
end as R78 states, at entry 0x00 after an END.
Where the rules leave a corner open it is the model's choice: log entries 6, 11 and 59.
Each of these commands completes here (the conclusion is a next state with its own effect, from conditions on the state and the
operands alone): .msgWaitTimeout, .mtNop, .mtMatch, .mtCount, .mtSetRp, .mtReport, .mtTx, .mtCompose, .mtDeliver, .txDone,
.msgLineIdle. -/
def Obligations.MessageTableEntriesAct : Prop :=
  (∀ (p : Fin 192) (s : State), s.atEntry p 0 0 → ∃ u, exec (.mtNop p) s = .next u ∧
    (u.port p).pd = { (s.port p).pd with entry := mtOk (s.mtEntry p) } ∧ u.link = s.link) ∧
  (∀ (p : Fin 192) (a : Nat) (s : State), s.atEntry p 3 a → ∃ u, exec (.mtMatch p) s = .next u ∧
    (u.port p).pd = { (s.port p).pd with
      entry := if matchField (s.port p) a (mtOperand (s.mtEntry p)) then mtOk (s.mtEntry p) else mtAlt (s.mtEntry p) } ∧
    u.link = s.link) ∧
  (∀ (p : Fin 192) (s : State), s.atEntry p 4 0 → ∃ u, exec (.mtCount p) s = .next u ∧
    (u.port p).pd = { (s.port p).pd with retry := 0, entry := mtOk (s.mtEntry p) }) ∧
  (∀ (p : Fin 192) (s : State), s.atEntry p 4 1 → ∃ u, exec (.mtCount p) s = .next u ∧
    (u.port p).pd = { (s.port p).pd with
      retry := (s.port p).pd.retry + 1,
      entry := if (s.port p).pd.retry + 1 ≤ mtOperand (s.mtEntry p) then mtOk (s.mtEntry p) else mtAlt (s.mtEntry p) }) ∧
  (∀ (p : Fin 192) (s : State), s.atEntry p 4 2 → (s.port p).pd.lastSop = .sop → ∃ u, exec (.mtCount p) s = .next u ∧
    (u.port p).pd = { (s.port p).pd with txId0 := ((s.port p).pd.txId0 + 1) % 8, entry := mtOk (s.mtEntry p) }) ∧
  (∀ (p : Fin 192) (m : Msg) (s : State), s.atEntry p 4 3 → (s.port p).pd.rx = some m → m.sop = .sop →
    ∃ u, exec (.mtCount p) s = .next u ∧
    (u.port p).pd = { (s.port p).pd with rxId0 := some (hdrId m.hdr), entry := mtOk (s.mtEntry p) }) ∧
  (∀ (p : Fin 192) (a : Fin 2) (s : State), s.atEntry p 5 a.val → (s.port p).pol.hasContract = true →
    (s.port p).pd.rev3 = true → ∃ u, exec (.mtSetRp p) s = .next u ∧
    (u.port p).cc.rp = (if a = 0 then .a15 else .a30) ∧ (u.port p).cc.rpNg = decide (a = 0) ∧
    (u.port p).pd.entry = mtOk (s.mtEntry p)) ∧
  (∀ (p : Fin 192) (a : Nat) (s : State), s.atEntry p 5 a → (s.port p).pol.hasContract = false →
    ∃ u, exec (.mtSetRp p) s = .next u ∧ (u.port p).cc = (s.port p).cc ∧ (u.port p).pd.entry = mtOk (s.mtEntry p)) ∧
  (∀ (p : Fin 192) (s : State), s.atEntry p 6 0 → ∃ u, exec (.mtReport p) s = .next u ∧ (u.port p).pd.tx = none ∧
    (u.port p).pd.txFail = (s.port p).pd.txFail ∧ (u.port p).pd.entry = mtOk (s.mtEntry p)) ∧
  (∀ (p : Fin 192) (s : State), s.atEntry p 6 1 → ∃ u, exec (.mtReport p) s = .next u ∧ (u.port p).pd.tx = none ∧
    (u.port p).pd.txFail = (s.port p).pd.txFail.inc16 ∧ (u.port p).pd.entry = mtOk (s.mtEntry p)) ∧
  (∀ (p : Fin 192) (s : State), s.atEntry p 6 3 → ∃ u, exec (.mtReport p) s = .next u ∧ (u.port p).pd.tx = (s.port p).pd.tx ∧
    (u.port p).pd.asm = (if (s.port p).pd.byRx then (s.port p).pd.asm else none) ∧ (u.port p).pd.entry = mtOk (s.mtEntry p)) ∧
  (∀ (p : Fin 192) (s : State), s.atEntry p 1 4 → ∃ u, exec (.mtTx p) s = .next u ∧ (u.port p).pol.state = .hardReset ∧
    (u.port p).pol.kind = .none ∧ (u.port p).pd.tx = none ∧ (u.port p).pd.txActive = true ∧
    (u.port p).pol.hardResets = (s.port p).pol.hardResets + 1 ∧ (u.port p).pd.entry = mtOk (s.mtEntry p)) ∧
  (∀ (p : Fin 192) (s : State), s.atEntry p 7 0 → ∃ u, exec (.mtCompose p) s = .next u ∧
    (u.port p).pd.tx = some (ctlMsg .accept .none) ∧ (u.port p).pd.txStarted = false ∧
    (u.port p).pd.entry = mtOk (s.mtEntry p)) ∧
  (∀ (p : Fin 192) (s : State), s.atEntry p 2 1 → (s.port p).pd.rx = none → ∃ u, exec (.mtDeliver p) s = .next u ∧
    (u.port p).pd.asm = none ∧ (u.port p).pd.entry = mtOk (s.mtEntry p) ∧ (u.port p).sc = (s.port p).sc) ∧
  (∀ (p : Fin 192) (m : TxMsg) (s : State), (s.port p).pd.table = .rom → (s.port p).pd.waiting = false →
    s.tileDeaf p = false → (s.port p).pd.entry = 0x26 → (s.port p).pd.tx = some m → (s.port p).pd.rxHeld = none →
    ∃ u, exec (.mtTx p) s = .next u ∧ (u.port p).pd.last = .buffer ∧ (u.port p).pd.lastSop = m.sop ∧
      (u.port p).pd.txStarted = true ∧ (u.port p).pd.txActive = true ∧ (u.port p).pd.waiting = true ∧
      (u.port p).pd.entry = 0x26 ∧ (u.port p).pd.tx = some m) ∧
  (∀ (p : Fin 192) (s : State), s.atWait p 2 → ∃ u, exec (.txDone p) s = .next u ∧ (u.port p).pd.gcActive = false ∧
    (u.port p).pd.txActive = ((s.port p).pd.txActive && (s.port p).pd.gcActive) ∧
    (u.port p).pd.entry = mtNext (s.mtEntry p) true ∧ (u.port p).pd.waiting = false) ∧
  (∀ (p : Fin 192) (s : State), s.atWait p 5 → ∃ u, exec (.msgLineIdle p) s = .next u ∧
    (u.port p).pd = { (s.port p).pd with entry := mtNext (s.mtEntry p) true, waiting := false, byRx := false }) ∧
  (∀ (p : Fin 192) (s : State), s.atWait p 3 → ∃ u, exec (.msgWaitTimeout p) s = .next u ∧
    (u.port p).pd = { (s.port p).pd with entry := mtNext (s.mtEntry p) false, waiting := false, byRx := false, txActive := false }) ∧
  (∀ (p : Fin 192) (s : State), s.atWait p 6 → ∃ u, exec (.msgWaitTimeout p) s = .next u ∧
    (u.port p).pd = { (s.port p).pd with entry := mtNext (s.mtEntry p) true, waiting := false, byRx := false })

/-! ### Contracts (04) -/

/-- R107: the answer to a Request or EPR_Request, row by row, against the offer last acknowledged; the object's contents are read by
the PDO encodings of log entry 7.
Where the rules leave a corner open it is the model's choice: log entries 7 and 22. -/
def Obligations.RequestsJudgedByTheTable : Prop :=
  ∀ (q : Pol) (epr : Bool) (rdo pdo : Word),
    (bits rdo 28 4 = 0 → q.answer epr rdo pdo = none) ∧
    (q.acked.length < bits rdo 28 4 → q.answer epr rdo pdo = none) ∧
    (q.acked[bits rdo 28 4 - 1]? = some 0#32 → q.answer epr rdo pdo = none) ∧
    (q.epr ≠ epr → q.answer epr rdo pdo = none) ∧
    (q.epr = false → 8 ≤ bits rdo 28 4 → q.answer epr rdo pdo = none) ∧
    (∀ w, q.acked[bits rdo 28 4 - 1]? = some w → epr = true → w ≠ pdo → q.answer epr rdo pdo = none) ∧
    (∀ w, bits rdo 28 4 ≠ 0 → q.acked[bits rdo 28 4 - 1]? = some w → w ≠ 0#32 → q.epr = epr → (epr = true → w = pdo) →
      (epr = false → bits rdo 28 4 < 8) →
      (∀ mv ma, decodePdo w = .fixed mv ma →
        q.answer epr rdo pdo = if ma < bits rdo 10 10 * 10 then none
          else some ⟨.fixed, mv, bits rdo 10 10 * 10, ma, mv⟩) ∧
      (∀ lo hi ma, decodePdo w = .pps lo hi ma →
        q.answer epr rdo pdo = if bits rdo 9 12 * 20 < lo ∨ hi < bits rdo 9 12 * 20 ∨ ma < bits rdo 0 7 * 50 then none
          else some ⟨.pps, bits rdo 9 12 * 20, bits rdo 0 7 * 50, bits rdo 0 7 * 50, lo⟩) ∧
      (∀ lo hi pdp, decodePdo w = .avs lo hi pdp →
        q.answer epr rdo pdo = if bits rdo 9 12 * 25 < lo ∨ hi < bits rdo 9 12 * 25 ∨ bits rdo 9 12 * 25 % 100 ≠ 0 ∨
            pdp * 1000000 < bits rdo 9 12 * 25 * (bits rdo 0 7 * 50) then none
          else some ⟨.avs, bits rdo 9 12 * 25, bits rdo 0 7 * 50, bits rdo 0 7 * 50, lo⟩))

/-- R107–R110, R115, R97, R106: a Request received sets the Capability Mismatch that counts; an accepted Request is answered Accept, a
refused one Reject, a repeat of a PPS contract Accept without a transition, after which the contract stands as it was; the acknowledged
messages move the policy on; tSrcTransition posts the transition; PS_RDY acknowledged makes the contract, of the kind its transmit
request carried (R87). An EPR exit whose sink repeats its contract on an SPR object goes on to EPR_Mode (Exit) (R114); an offer that answered
a port without a contract is the acknowledged one from its GoodCRC on (R107).
Where the rules leave a corner open it is the model's choice: log entries 7, 12, 21 and 66.
Each of these commands completes here (the conclusion is a next state with its own effect, from conditions on the state and the
operands alone): .request, .txOk, .srcTransitionExpiry. -/
def Obligations.RequestToContract : Prop :=
  (∀ (p : Fin 192) (epr : Bool) (rdo pdo : BitVec 32) (r3 : Bool) (a : Ask) (s : State), s.mayRequest p epr →
    (s.port p).pol.state = .negotiate → (s.port p).pol.kind = .none → (s.port p).pol.answer epr rdo pdo = some a →
    ∃ u, exec (.request p epr rdo pdo r3) s = .next u ∧ (u.port p).pd.tx = some (ctlMsg .accept .acceptReq) ∧
      (u.port p).pol.req = rdo ∧ (u.port p).pol.reqPdo = pdo ∧ (u.port p).pol.mismatch = rdo.getLsbD 26 ∧
      (u.port p).pol.kind = .none ∧ u.link = s.link) ∧
  (∀ (p : Fin 192) (epr : Bool) (rdo pdo : BitVec 32) (r3 : Bool) (s : State), s.mayRequest p epr →
    (s.port p).pol.state = .negotiate → (s.port p).pol.answer epr rdo pdo = none →
    ∃ u, exec (.request p epr rdo pdo r3) s = .next u ∧ (u.port p).pd.tx = some (ctlMsg .reject .rejectReq).amsLast ∧
      (u.port p).pol.req = (s.port p).pol.req ∧ (u.port p).pol.kind = (s.port p).pol.kind ∧
      (u.port p).pol.mismatch = rdo.getLsbD 26) ∧
  (∀ (p : Fin 192) (rdo pdo : BitVec 32) (r3 : Bool) (a : Ask) (s : State), s.mayRequest p false →
    (s.port p).pol.state = .ready → (s.port p).pol.kind = .pps → (s.port p).pol.rdo = rdo →
    (s.port p).pol.answer false rdo pdo = some a →
    ∃ u, exec (.request p false rdo pdo r3) s = .next u ∧ (u.port p).pd.tx = some (ctlMsg .accept .acceptRepeat) ∧
      (u.port p).path = (s.port p).path ∧ (u.port p).pol.repeat_ = true ∧ (u.port p).pol.rdo = rdo ∧ (u.port p).pol.kind = .pps) ∧
  (∀ (p : Fin 192) (epr : Bool) (rdo pdo : BitVec 32) (r3 : Bool) (s : State), s.policyOn p = true →
    (s.port p).pol.state = .transition → s.mayHardReset p →
    ∃ u, exec (.request p epr rdo pdo r3) s = .next u ∧ (u.port p).isHardReset) ∧
  (∀ (p : Fin 192) (m : TxMsg) (s : State), (s.port p).pol.flight = some m → m.expect = .request →
    ∃ u, exec (.txOk p) s = .next u ∧ (u.port p).pol.acked = (s.port p).pol.sent ∧ (u.port p).pol.state = .negotiate ∧
      (u.port p).pol.flight = none ∧ (u.port p).pol.capsSends = 0) ∧
  (∀ (p : Fin 192) (m : TxMsg) (s : State), (s.port p).pol.flight = some m → m.expect = .acceptReq → m.kind = .accept →
    ∃ u, exec (.txOk p) s = .next u ∧ (u.port p).pol.state = .transition ∧ (u.port p).pol.expect = .acceptReq ∧ (u.port p).pol.flight = none ∧
      (u.port p).path = (s.port p).path) ∧
  (∀ (p : Fin 192) (a : Ask) (s : State), (s.port p).pol.state = .transition → (s.port p).pol.expect = .acceptReq →
    judge (s.port p).pol.acked (s.port p).pol.req = some a → a.kind = .fixed → 3300 ≤ a.mv → a.mv ≤ 50000 →
    s.tileDeaf p = false → (s.port p).path.safeHeld = false → (s.port p).path.run = false → (s.port p).path.queued = none →
    (s.port p).cc.noTable 1 = false → (s.tileCfg (tileOf p)).stOvr = 0#16 →
    ∃ u, exec (.srcTransitionExpiry p) s = .next u ∧ (u.port p).path.run = true ∧ (u.port p).path.table = 1 ∧
      (u.port p).path.entry = 0 ∧ (u.port p).path.post.mv = a.mv ∧ (u.port p).path.post.ma = a.limit ∧
      (u.port p).path.target = (s.port p).path.target) ∧
  (∀ (p : Fin 192) (m : TxMsg) (s : State), (s.port p).pol.flight = some m → m.expect = .psRdyReq → (s.port p).pol.repeat_ = true →
    (s.port p).pol.eprExit = false → (s.port p).pol.newOffer = false → (s.port p).pol.cable ≠ .unknown →
    ∃ u, exec (.txOk p) s = .next u ∧ (u.port p).pol.state = (s.port p).pol.readyState ∧ (u.port p).pol.kind = (s.port p).pol.kind ∧
      (u.port p).pol.rdo = (s.port p).pol.rdo ∧ (u.port p).pol.mv = (s.port p).pol.mv ∧ (u.port p).pol.repeat_ = false) ∧
  (∀ (p : Fin 192) (m : TxMsg) (a : Ask) (s : State), (s.port p).pol.flight = some m → m.expect = .psRdyReq →
    judge (s.port p).pol.acked (s.port p).pol.req = some a → (s.port p).pol.repeat_ = false → (s.port p).pol.newOffer = false →
    (s.port p).pol.cable ≠ .unknown →
    ∃ u, exec (.txOk p) s = .next u ∧ (u.port p).pol.kind = m.ckind ∧ (u.port p).pol.mv = a.mv ∧ (u.port p).pol.ma = a.ma ∧
      (u.port p).pol.rdo = (s.port p).pol.req ∧ (u.port p).pol.pos = bits (s.port p).pol.req 28 4 ∧
      (u.port p).pol.hardResets = 0) ∧
  (∀ (p : Fin 192) (m : TxMsg) (s : State), (s.port p).pol.flight = some m → m.expect = .psRdyReq → (s.port p).pol.repeat_ = true →
    (s.port p).pol.eprExit = true → (s.port p).pol.pos ≤ 7 → (s.port p).pol.eprEntry = 0 → (s.port p).pol.outq = [] →
    (s.port p).pd.tx = none → (s.port p).pd.table ≠ .hold → s.tileDeaf p = false → (s.port p).rally.req = .none →
    ∃ u, exec (.txOk p) s = .next u ∧
      (u.port p).pd.tx = some { (objMsg .eprMode [eprModeWord 5 0] .exitSent).ams with amsEnd := true } ∧
      (u.port p).pol.kind = (s.port p).pol.kind ∧ (u.port p).pol.rdo = (s.port p).pol.rdo) ∧
  (∀ (p : Fin 192) (m : TxMsg) (s : State), (s.port p).pol.flight = some m → m.expect = .offered → s.nothingWaits p →
    ∃ u, exec (.txOk p) s = .next u ∧ (u.port p).pol.acked = (s.port p).pol.sent ∧ (u.port p).pol.flight = none ∧
      (u.port p).pol.state = (s.port p).pol.state)

/-- R103, R119, R124–R126: what each received message is answered with, when the policy runs, the TX buffer is free and no sequence of
the device's own is in progress; a request that meets such a sequence is answered Wait. Bytes the spec does not state are free values
(log entry 9). R89: a message answered in hold is handed to the policy once.
Where the rules leave a corner open it is the model's choice: log entries 7, 9, 26 and 66.
Each of these commands completes here (the conclusion is a next state with its own effect, from conditions on the state and the
operands alone): .getSourceCap, .eprGetSourceCap, .getSourceCapExtended, .getSourceInfo, .getStatus, .getPpsStatus, .getRevision,
.getManufacturerInfo, .prSwap, .drSwap, .frSwap, .unsupportedRequest, .unchunkedExtended, .unrecognisedMessage, .alert,
.bistRequest, .informationMessage, .holdAnswered. -/
def Obligations.MessagesAnswered : Prop :=
  (∀ (p : Fin 192) (s : State), s.policyFree p → s.ownSeq p = true → ∀ c : Instr × MsgKind,
    c ∈ [(.getSourceCap p, .getSourceCap), (.eprGetSourceCap p, .eprGetSourceCap), (.getSourceCapExtended p, .getSourceCapExt),
      (.getSourceInfo p, .getSourceInfo), (.getStatus p, .getStatus), (.getPpsStatus p, .getPpsStatus), (.getRevision p, .getRevision),
      (.getManufacturerInfo p, .getManufacturerInfo), (.vconnSwap p, .vconnSwap)] →
    exec c.1 s = .next ((s.modPol p fun q => { q with waited := some (c.2, s.aon) }).toTx p (ctlMsg .wait .none).amsLast)) ∧
  (∀ (p : Fin 192) (s : State), s.mayAnswer p .getSourceCap → ((s.port p).pol.state = .ready ∨ (s.port p).pol.state = .sendCaps) →
    (s.port p).pol.epr = false → (s.port p).pol.eprDue = false → (s.buildOffer p).spr ≠ [] → (s.port p).holdsAlloc = true →
    ∃ u, exec (.getSourceCap p) s = .next u ∧ (u.port p).pd.tx = some (objMsg .sourceCaps (s.buildOffer p).spr .request) ∧
      (u.port p).pol.sent = (s.buildOffer p).spr ∧ (u.port p).pol.state = .sendCaps) ∧
  (∀ (p : Fin 192) (s : State), s.mayAnswer p .getSourceCap → (s.port p).pol.state = .typecOnly → (s.buildOffer p).spr ≠ [] →
    (s.port p).holdsAlloc = true →
    ∃ u, exec (.getSourceCap p) s = .next u ∧ (u.port p).pd.tx = some (objMsg .sourceCaps (s.buildOffer p).spr .offered) ∧
      (u.port p).pol.sent = (s.buildOffer p).spr ∧ (u.port p).pol.state = .typecOnly) ∧
  (∀ (p : Fin 192) (s : State), s.mayAnswer p .eprGetSourceCap → ((s.port p).pol.state = .ready ∨ (s.port p).pol.state = .readyEpr) →
    (s.port p).pd.rev3 = true → (s.buildOffer p).spr ≠ [] → (s.port p).holdsAlloc = true →
    (s.profileWords p).any (fun w => (decodePdo w).isEpr) = true →
    ∃ u, exec (.eprGetSourceCap p) s = .next u ∧
      (u.port p).pd.tx = some (extMsg .eprSourceCaps (wordBytes (s.buildOffer p).epr) .request)) ∧
  (∀ (p : Fin 192) (s : State), s.mayAnswer p .eprGetSourceCap → (s.port p).pd.rev3 = true →
    (s.profileWords p).any (fun w => (decodePdo w).isEpr) = false →
    exec (.eprGetSourceCap p) s = .next (s.toTx p (ctlMsg .notSupported .none))) ∧
  (∀ (p : Fin 192) (s : State), s.mayAnswer p .getSourceCapExt →
    ∃ u m, exec (.getSourceCapExtended p) s = .next u ∧ (u.port p).pd.tx = some m ∧ m.kind = .sourceCapExt ∧
      m.data.take 4 = bytesLE 2 (s.param 0x6000) ++ bytesLE 2 (s.param 0x6001)) ∧
  (∀ (p : Fin 192) (s : State), s.mayAnswer p .getSourceInfo →
    exec (.getSourceInfo p) s = .next (s.toTx p (objMsg .sourceInfo
      [packWord [(min 255 (s.profilePower p / 4), 16, 8), (min 255 ((s.port p).sb.alloc / 4), 8, 8),
        (min 255 ((s.port p).pol.offPdp / 4), 0, 8)]] .none))) ∧
  (∀ (p : Fin 192) (s : State), s.mayAnswer p .getStatus →
    ∃ u m, exec (.getStatus p) s = .next u ∧ (u.port p).pd.tx = some m ∧ m.kind = .status ∧
      (u.port p).pol.ocp = false ∧ (u.port p).pol.ovp = false ∧ (u.port p).pol.otp = false) ∧
  (∀ (p : Fin 192) (s : State), s.mayAnswer p .getPpsStatus → (s.port p).pol.kind = .pps →
    ∃ u m, exec (.getPpsStatus p) s = .next u ∧ (u.port p).pd.tx = some m ∧ m.kind = .ppsStatus ∧
      m.data.take 3 = bytesLE 2 ((s.port p).smp.mv / 20) ++ bytesLE 1 (min 255 ((s.port p).smp.ma.toNat / 50))) ∧
  (∀ (p : Fin 192) (s : State), s.mayAnswer p .getPpsStatus → (s.port p).pol.kind ≠ .pps → (s.port p).pd.rev3 = true →
    exec (.getPpsStatus p) s = .next (s.toTx p (ctlMsg .notSupported .none))) ∧
  (∀ (p : Fin 192) (s : State), s.mayAnswer p .getRevision →
    ∃ u w, exec (.getRevision p) s = .next u ∧
      (u.port p).pd.tx = some (objMsg .revision [0x32000000#32 ||| (w &&& 0x00FF0000#32)] .none)) ∧
  (∀ (p : Fin 192) (s : State), s.mayAnswer p .getManufacturerInfo →
    exec (.getManufacturerInfo p) s = .next (s.toTx p
      (extMsg .manufacturerInfo (bytesLE 2 (s.param 0x6000) ++ bytesLE 2 (s.param 0x6001)) .none))) ∧
  (∀ (p : Fin 192) (s : State), s.policyFree p →
    exec (.prSwap p) s = .next (s.toTx p (ctlMsg .reject .none).amsLast) ∧
    exec (.drSwap p) s = .next (s.toTx p (ctlMsg .reject .none).amsLast)) ∧
  (∀ (p : Fin 192) (s : State), s.policyFree p → (s.port p).pd.rev3 = true →
    exec (.frSwap p) s = .next (s.toTx p (ctlMsg .notSupported .none)) ∧
    exec (.unsupportedRequest p) s = .next (s.toTx p (ctlMsg .notSupported .none)) ∧
    exec (.unchunkedExtended p) s = .next (s.toTx p (ctlMsg .notSupported .none)) ∧
    exec (.unrecognisedMessage p) s = .next (s.toTx p (ctlMsg .notSupported .none))) ∧
  (∀ (p : Fin 192) (s : State), (s.port p).pd.rev3 = false → s.nothingWaits p →
    exec (.frSwap p) s = .next s ∧ exec (.unsupportedRequest p) s = .next s ∧
    exec (.unchunkedExtended p) s = .next s ∧ exec (.unrecognisedMessage p) s = .next s) ∧
  (∀ (p : Fin 192) (h : BitVec 16) (w : BitVec 32) (s : State), s.policyFree p → s.seqBusy p (ctlMsg .getStatus .status) = false →
    ∃ u, exec (.alert p h w) s = .next u ∧ (u.port p).pd.tx = some { (ctlMsg .getStatus .status).ams with amsEnd := true }) ∧
  (∀ (p : Fin 192) (s : State), s.policyOn p = true → (s.port p).path.gate = true → (s.port p).path.target = 5000 →
    (s.port p).path.slewTo = none →
    exec (.bistRequest p false) s = .next (s.modPol p fun q => { q with bist := true }) ∧
    exec (.bistRequest p true) s = .next (s.modPd p fun q => { q with txActive := true })) ∧
  (∀ (p : Fin 192) (c : Bool) (s : State), (s.port p).path.gate = false → s.nothingWaits p →
    exec (.bistRequest p c) s = .next s) ∧
  (∀ (p : Fin 192) (m : Msg) (s : State), s.policyOn p = true → m.kind = .batteryStatus → s.nothingWaits p →
    ∃ u, exec (.informationMessage p m) s = .next u ∧ (u.port p).pol.lastInfo = some m ∧
      (u.port p).pd = (s.port p).pd ∧ (u.port p).path = (s.port p).path) ∧
  (∀ (p : Fin 192) (m : Msg) (s : State), (s.port p).pd.rx = some m → (s.port p).pd.holdReply ≠ .none →
    ∃ u, exec (.holdAnswered p) s = .next u ∧ (u.port p).pd.holdReply = .none ∧
      (u.port p).pol = { (s.port p).pol with answered := ((s.port p).pol.answered ++ [(m, (s.port p).pd.holdReply)]).take 16 })

/-- R113, R115–R117, R122: the timer ladder. A lapse that calls for Hard_Reset ends the contract and advances the count, or becomes
ERROR_RECOVERY when the count already stands at its limit; one that calls for Soft_Reset sends it.
Where the rules leave a corner open it is the model's choice: log entries 6 and 21.
Each of these commands completes here (the conclusion is a next state with its own effect, from conditions on the state and the
operands alone): .senderResponseExpiry, .ppsKeepaliveExpiry, .eprKeepaliveExpiry, .vconnSourceExpiry, .noResponseExpiry,
.sourceCapResend, .txFail, .txDiscarded, .unexpectedMessage, .softReset, .chunkFail. -/
def Obligations.TimerLadder : Prop :=
  (∀ (p : Fin 192) (s : State), s.policyOn p = true → (s.port p).pol.expect = .acceptSoft → s.mayHardReset p →
    ∃ u, exec (.senderResponseExpiry p) s = .next u ∧ (u.port p).isHardReset ∧
      (u.port p).pol.hardResets = (s.port p).pol.hardResets + 1) ∧
  (∀ (p : Fin 192) (s : State), s.policyOn p = true → (s.port p).pol.expect = .request → (s.port p).txFree = true →
    (s.port p).pd.table ≠ .hold →
    ∃ u, exec (.senderResponseExpiry p) s = .next u ∧ (u.port p).pol.state = .softReset ∧
      (u.port p).pd.tx = some (ctlMsg .softReset .acceptSoft).ams) ∧
  (∀ (p : Fin 192) (s : State), s.policyOn p = true → (s.port p).pol.kind = .pps → s.mayHardReset p →
    ∃ u, exec (.ppsKeepaliveExpiry p) s = .next u ∧ (u.port p).isHardReset) ∧
  (∀ (p : Fin 192) (s : State), s.policyOn p = true → (s.port p).pol.epr = true → s.mayHardReset p →
    ∃ u, exec (.eprKeepaliveExpiry p) s = .next u ∧ (u.port p).isHardReset) ∧
  (∀ (p : Fin 192) (s : State), s.policyOn p = true → (s.port p).pol.kind = .pps → ¬ s.mayHardReset p →
    ∃ u, exec (.ppsKeepaliveExpiry p) s = .next u ∧ (u.port p).pol.state = .errorRecovery ∧
      (u.port p).pol.kind = .none ∧ (u.port p).pol.hardResets = 0) ∧
  (∀ (p : Fin 192) (s : State), s.policyOn p = true → (s.port p).pol.state = .vconnSwap → (s.port p).pol.expect = .swapPsRdy →
    s.mayHardReset p →
    ∃ u, exec (.vconnSourceExpiry p) s = .next u ∧ (u.port p).isHardReset ∧
      (u.port p).path.vconn = (s.port p).path.vconn) ∧
  (∀ (p : Fin 192) (s : State), (s.port p).cc.state = .attached → (s.port p).pol.pdSeen = true →
    (s.port p).pol.state = .hardReset → (s.port p).pol.noResp = true → s.mayHardReset p →
    ∃ u, exec (.noResponseExpiry p) s = .next u ∧ (u.port p).isHardReset ∧
      (u.port p).pol.hardResets = (s.port p).pol.hardResets + 1) ∧
  (∀ (p : Fin 192) (s : State), s.policyOn p = true → (s.port p).pol.state = .sendCaps → (s.port p).txFree = true →
    s.param 0x3000 ≤ (s.port p).pol.capsSends → (s.port p).pol.pdSeen = false →
    exec (.sourceCapResend p) s = .next (s.modPort p fun q => { q with pol := { q.pol with state := .typecOnly } })) ∧
  (∀ (p : Fin 192) (s : State), s.policyFree p → (s.port p).pol.state = .sendCaps → (s.port p).pol.pdSeen = true →
    (s.port p).pol.epr = false → (s.port p).pol.eprDue = false → (s.buildOffer p).spr ≠ [] → (s.port p).holdsAlloc = true →
    (s.port p).pol.eprEntry = 0 → (s.port p).rally.req = .none →
    ∃ u, exec (.sourceCapResend p) s = .next u ∧
      (u.port p).pd.tx = some (objMsg .sourceCaps (s.buildOffer p).spr .request).ams) ∧
  (∀ (p : Fin 192) (m : TxMsg) (s : State), (s.port p).pol.flight = some m → m.sop = .sop → m.kind = .sourceCaps →
    (s.port p).pol.state ≠ .transition →
    ∃ u, exec (.txFail p) s = .next u ∧ (u.port p).pol.capsSends = (s.port p).pol.capsSends + 1 ∧
      (u.port p).pol.flight = none ∧ (u.port p).pol.state = (s.port p).pol.state ∧ (u.port p).pol.kind = (s.port p).pol.kind) ∧
  (∀ (p : Fin 192) (m : TxMsg) (s : State), (s.port p).pol.flight = some m → m.expect = .request →
    ∃ u, exec (.txDiscarded p) s = .next u ∧ (u.port p).pol.newOffer = true ∧ (u.port p).pol.flight = none ∧
      (u.port p).pol.state = .sendCaps) ∧
  (∀ (p : Fin 192) (s : State), exec (.chunkFail p) s = .next s) ∧
  (∀ (p : Fin 192) (s : State), s.policyOn p = true → (s.port p).pol.state = .ready → (s.port p).txFree = true →
    (s.port p).pd.table ≠ .hold →
    ∃ u, exec (.unexpectedMessage p) s = .next u ∧ (u.port p).pol.state = .softReset ∧ (u.port p).pol.eprEntry = 0 ∧
      (u.port p).pd.tx = some (ctlMsg .softReset .acceptSoft).ams) ∧
  (∀ (p : Fin 192) (s : State), s.policyOn p = true → (s.port p).pol.state = .ready → (s.port p).txFree = true →
    (s.port p).pd.table ≠ .hold →
    ∃ u, exec (.softReset p) s = .next u ∧ (u.port p).pol.state = .softReset ∧ (u.port p).pol.eprEntry = 0 ∧
      (u.port p).pd.tx = some (ctlMsg .accept .acceptSoftRx)) ∧
  (∀ (p : Fin 192) (s : State), s.policyOn p = true → (s.port p).pol.state = .transition → s.mayHardReset p →
    ∃ u, exec (.softReset p) s = .next u ∧ (u.port p).isHardReset)

/-- R102, R106, R111–R114, R119–R121, R124: VCONN_Swap, EPR mode, the sink's capabilities and the feed-voltage objects.
Where the rules leave a corner open it is the model's choice: log entries 7, 22, 23 and 66.
Each of these commands completes here (the conclusion is a next state with its own effect, from conditions on the state and the
operands alone): .vconnSwap, .eprModeEnter, .eprModeExit, .eprKeepalive, .eprCapsSend, .sinkCapabilities, .vconnSwapRetry,
.feedObjectWithdraw, .feedObjectRestore. -/
def Obligations.SwapsEprAndDemand : Prop :=
  (∀ (p : Fin 192) (s : State), s.mayAnswer p .vconnSwap → (s.port p).pol.state = .ready → (s.port p).pol.eprEntry = 0 →
    (s.port p).path.vconn = 0 → s.param 0x5000 = 1 → s.vcAdmits (tileOf p) = true →
    ∃ u, exec (.vconnSwap p) s = .next u ∧ (u.port p).pd.tx = some (ctlMsg .accept .acceptSwap) ∧
      (u.port p).pol.swapTake = true) ∧
  (∀ (p : Fin 192) (s : State), s.mayAnswer p .vconnSwap → (s.port p).pol.state = .ready → (s.port p).pol.eprEntry = 0 →
    (s.port p).path.vconn ≠ 0 → s.param 0x5000 = 1 →
    ∃ u, exec (.vconnSwap p) s = .next u ∧ (u.port p).pd.tx = some (ctlMsg .accept .acceptSwap) ∧
      (u.port p).pol.swapTake = false) ∧
  (∀ (p : Fin 192) (s : State), s.mayAnswer p .vconnSwap → (s.port p).pol.state = .ready → (s.port p).pol.eprEntry = 0 →
    (s.port p).path.vconn = 0 → s.vcAdmits (tileOf p) = false →
    exec (.vconnSwap p) s = .next (s.toTx p (ctlMsg .reject .none).amsLast)) ∧
  (∀ (p : Fin 192) (s : State), s.mayAnswer p .vconnSwap → (s.port p).pol.isReady = false →
    ∃ u, exec (.vconnSwap p) s = .next u ∧ (u.port p).pd.tx = some (ctlMsg .wait .none).amsLast ∧
      (u.port p).pol.waited = some (.vconnSwap, s.aon)) ∧
  (∀ (p : Fin 192) (n : Nat) (s : State), s.policyFree p → (s.port p).pol.waited = some (.vconnSwap, n) → s.aon - n < holdoffCycles →
    ∃ u, exec (.vconnSwap p) s = .next u ∧ (u.port p).pd.tx = some (ctlMsg .wait .none).amsLast) ∧
  (∀ (p : Fin 192) (w : Nat) (s : State), s.mayAnswer p .eprMode → (s.port p).pol.state = .ready → (s.port p).pd.rev3 = true →
    (s.port p).pol.eprEntry = 0 →
    ∃ u, exec (.eprModeEnter p w) s = .next u ∧ (u.port p).pd.tx = some (objMsg .eprMode [eprModeWord 2 0] .enterAck) ∧
      (u.port p).pol.eprPdp = some (w * 4) ∧ (u.port p).pol.eprEntry = 1) ∧
  (∀ (p : Fin 192) (s : State), s.policyOn p = true → (s.port p).pol.epr = true → 7 < (s.port p).pol.pos → s.mayHardReset p →
    ∃ u, exec (.eprModeExit p) s = .next u ∧ (u.port p).isHardReset) ∧
  (∀ (p : Fin 192) (s : State), s.policyOn p = true → (s.port p).pol.epr = true → (s.port p).pol.pos ≤ 7 →
    ∃ u, exec (.eprModeExit p) s = .next u ∧ (u.port p).pol.epr = false) ∧
  (∀ (p : Fin 192) (s : State), s.policyFree p → (s.port p).pol.epr = true →
    exec (.eprKeepalive p) s = .next (s.toTx p (extMsg .eprKeepAliveAck [4#8, 0#8] .none))) ∧
  (∀ (p : Fin 192) (s : State), s.policyFree p → (s.port p).pol.epr = true → (s.port p).pol.eprEntry = 4 →
    (s.buildOffer p).spr ≠ [] → (s.port p).holdsAlloc = true → (s.port p).rally.req = .none →
    ∃ u, exec (.eprCapsSend p) s = .next u ∧ (u.port p).pol.eprEntry = 0 ∧
      (u.port p).pd.tx = some (extMsg .eprSourceCaps (wordBytes (s.buildOffer p).epr) .request).ams) ∧
  (∀ (p : Fin 192) (h : BitVec 16) (objs : List (BitVec 32)) (s : State), s.policyOn p = true → (s.port p).pol.expect = .none →
    s.nothingWaits p →
    ∃ u, exec (.sinkCapabilities p h false objs) s = .next u ∧
      (u.port p).pol.sinkMax = some ((objs.map fun w => quanta (sinkPower w)).foldl max 0) ∧
      (u.port p).pol.sinkEpr = (s.port p).pol.sinkEpr ∧ (u.port p).pol.state = (s.port p).pol.state) ∧
  (∀ (p : Fin 192) (h : BitVec 16) (objs : List (BitVec 32)) (s : State), s.policyOn p = true → (s.port p).pol.expect = .none →
    s.nothingWaits p →
    ∃ u, exec (.sinkCapabilities p h true objs) s = .next u ∧
      (u.port p).pol.sinkEpr = some ((objs.map fun w => quanta (sinkPower w)).foldl max 0) ∧
      (u.port p).pol.sinkMax = (s.port p).pol.sinkMax ∧ (u.port p).pol.state = (s.port p).pol.state) ∧
  (∀ (p : Fin 192) (s : State), s.policyFree p → (s.port p).pol.state = .ready → (s.port p).pol.expect = .none →
    (s.port p).rally.req = .none → (s.port p).pol.swapTries = 1 → (s.port p).pol.swapDue = false →
    ∃ u, exec (.vconnSwapRetry p) s = .next u ∧ (u.port p).pd.tx = some (ctlMsg .vconnSwap .swapReply).ams ∧
      (u.port p).pol.swapTake = (s.port p).pol.swapTake) ∧
  (∀ (p : Fin 192) (o : Fin 11) (w : BitVec 32) (s : State), (s.profileWords p)[o.val]? = some w → s.feedShort w = true →
    w ∈ (s.port p).pol.live →
    ∃ u, exec (.feedObjectWithdraw p o) s = .next u ∧ w ∈ (u.port p).pol.withdrawn ∧ ¬ w ∈ (u.port p).pol.live) ∧
  (∀ (p : Fin 192) (o : Fin 11) (w : BitVec 32) (s : State), (s.profileWords p)[o.val]? = some w → s.feedShort w = false →
    exec (.feedObjectWithdraw p o) s = .next s) ∧
  (∀ (p : Fin 192) (o : Fin 11) (w : BitVec 32) (s : State), (s.profileWords p)[o.val]? = some w → s.feedShort w = false →
    w ∈ (s.port p).pol.withdrawn →
    ∃ u, exec (.feedObjectRestore p o) s = .next u ∧ ¬ w ∈ (u.port p).pol.withdrawn) ∧
  (∀ (p : Fin 192) (o : Fin 11) (w : BitVec 32) (s : State), (s.profileWords p)[o.val]? = some w → s.feedShort w = true →
    exec (.feedObjectRestore p o) s = .next s)

/-! ### Structured VDMs and Rally mode (05) -/

/-- R136: the cable class of a Discover Identity ACK, first matching row, with the VDO fields of the standard (log entry 7): product
type in ID Header [29:27] (3 passive, 4 active, 6 VPD), current in Cable VDO [6:5], EPR Capable in [17], maximum voltage in [10:9].
Where the rules leave a corner open it is the model's choice: log entry 7. -/
def Obligations.CableClassFirstMatchingRow : Prop :=
  ∀ vdos : List Word,
    (bits (vdos[0]?.getD 0#32) 27 3 = 6 → cableClass vdos = .vpd) ∧
    (bits (vdos[0]?.getD 0#32) 27 3 ∉ [3, 4, 6] → cableClass vdos = .malformed) ∧
    (bits (vdos[0]?.getD 0#32) 27 3 ∈ [3, 4] → vdos.length < 4 → cableClass vdos = .malformed) ∧
    (bits (vdos[0]?.getD 0#32) 27 3 ∈ [3, 4] → ∀ v, vdos[3]? = some v →
      (bits v 5 2 = 1 → cableClass vdos = .cable3A) ∧
      (bits v 5 2 = 2 → bit v 17 = true → bits v 9 2 = 3 → cableClass vdos = .cableEpr) ∧
      (bits v 5 2 = 2 → (bit v 17 = false ∨ bits v 9 2 ≠ 3) → cableClass vdos = .cable5A) ∧
      (bits v 5 2 = 0 ∨ bits v 5 2 = 3 → cableClass vdos = .malformed)) ∧
    (∀ c : CableClass, cableLimit c = 5000 ↔ c = .cable5A ∨ c = .cableEpr) ∧
    (∀ c : CableClass, cableEprOk c = true ↔ c = .cableEpr)

/-- R132, R134–R136, R141–R143, R147, R150, R152–R154, R156: received VDMs, answers to the device's own, discovery attempts, which
count once sent, pledges, notices, which stand at least 1 s apart, and curtailments, which last for the HOLD of
the pledge in effect when they began; a CURTAIL or RESTORE waits for the exchange in progress.
Where the rules leave a corner open it is the model's choice: log entries 7, 24, 25 and 66.
Each of these commands completes here (the conclusion is a next state with its own effect, from conditions on the state and the
operands alone): .txOk, .vdmRequest, .unstructuredVdm, .vdmResponse, .vdmResponseTimeout, .vdmBusyRetry, .discoverIdentityAttempt,
.attention, .rallyNoticeDue, .curtailConfirm, .curtailReactionExpiry, .curtailHoldExpiry, .brokenHoldoffExpiry. -/
def Obligations.VdmsAndRally : Prop :=
  (∀ (p : Fin 192) (h : BitVec 32) (vs : List (BitVec 32)) (s : State), s.policyFree p → vdmCmd h = 1 →
    ∃ u m, exec (.vdmRequest p h vs) s = .next u ∧ (u.port p).pd.tx = some m ∧ m.kind = .vdm ∧ m.sop = .sop ∧
      m.data.take 4 = bytesLE 4 (vdmHeader (vdmSvid h) (s.port p).pd.rev3 (bits h 8 3) 1 1).toNat ∧ m.data.length = 16) ∧
  (∀ (p : Fin 192) (h : BitVec 32) (vs : List (BitVec 32)) (s : State), s.policyFree p → vdmCmd h ≠ 1 →
    exec (.vdmRequest p h vs) s = .next (s.toTx p
      (vdmMsg .sop (vdmHeader (vdmSvid h) (s.port p).pd.rev3 (bits h 8 3) 2 (vdmCmd h)) [] .none))) ∧
  (∀ (p : Fin 192) (x : BitVec 16) (h : BitVec 32) (vs : List (BitVec 32)) (s : State), s.policyFree p → (s.port p).pd.rev3 = true →
    ∃ u, exec (.unstructuredVdm p x h vs) s = .next u ∧ (u.port p).pd.tx = some (ctlMsg .notSupported .none) ∧
      (u.port p).rally = (s.port p).rally) ∧
  (∀ (p : Fin 192) (x : BitVec 16) (h : BitVec 32) (vs : List (BitVec 32)) (s : State), (s.port p).pd.rev3 = false →
    s.nothingWaits p →
    ∃ u, exec (.unstructuredVdm p x h vs) s = .next u ∧ (u.port p).pd = (s.port p).pd ∧
      { (u.port p).pol with answered := [] } = { (s.port p).pol with answered := [] } ∧ (u.port p).rally = (s.port p).rally) ∧
  (∀ (p : Fin 192) (x : BitVec 16) (a : VdmAnswer) (h : BitVec 32) (vs : List (BitVec 32)) (s : State), s.policyOn p = true →
    (s.port p).rally.req = .none → s.nothingWaits p →
    ∃ u, exec (.vdmResponse p x .sop a h vs) s = .next u ∧ (u.port p).rally = (s.port p).rally ∧
      (u.port p).pd = (s.port p).pd ∧ { (u.port p).pol with answered := [] } = { (s.port p).pol with answered := [] }) ∧
  (∀ (p : Fin 192) (x : BitVec 16) (h : BitVec 32) (vs : List (BitVec 32)) (s : State), s.policyOn p = true →
    (s.port p).rally.req = .cableIdentity → (s.port p).rally.reqSop = .sopP → vdmCmd h = vdmCmd (s.port p).rally.reqHdr →
    vdmSvid h = vdmSvid (s.port p).rally.reqHdr → (s.port p).pol.eprEntry = 0 → (s.port p).pol.newOffer = false →
    (s.port p).pol.offLimit = cableLimit (cableClass vs) →
    ∃ u, exec (.vdmResponse p x .sopP .ack h vs) s = .next u ∧ (u.port p).pol.cable = cableClass vs ∧
      (u.port p).pol.discRun = false ∧ (u.port p).path = (s.port p).path) ∧
  (∀ (p : Fin 192) (x : BitVec 16) (h v : BitVec 32) (vs : List (BitVec 32)) (s : State), s.policyOn p = true →
    (s.port p).rally.req = .notice → (s.port p).rally.reqSop = .sop → vdmCmd h = vdmCmd (s.port p).rally.reqHdr →
    vdmSvid h = vdmSvid (s.port p).rally.reqHdr → pledgeVoid (s.port p).rally v = false → s.nothingWaits p →
    ∃ u, exec (.vdmResponse p x .sop .ack h (v :: vs)) s = .next u ∧
      (u.port p).rally.pledgeNext = some (bits v 10 10, bits v 20 2, bits v 0 10) ∧ (u.port p).rally.nakRun = 0 ∧
      (u.port p).rally.pledge = (s.port p).rally.pledge) ∧
  (∀ (p : Fin 192) (x : BitVec 16) (h : BitVec 32) (vs : List (BitVec 32)) (s : State), s.policyOn p = true →
    (s.port p).rally.req = .notice → (s.port p).rally.reqSop = .sop → vdmCmd h = vdmCmd (s.port p).rally.reqHdr →
    vdmSvid h = vdmSvid (s.port p).rally.reqHdr → (s.port p).rally.busyN = 0 →
    ∃ u, exec (.vdmResponse p x .sop .busy h vs) s = .next u ∧ (u.port p).rally.busyReq = .notice ∧
      (u.port p).rally.req = .none ∧ (u.port p).rally.busyN = 1) ∧
  (∀ (p : Fin 192) (s : State), s.policyOn p = true → (s.port p).rally.req = .curtail → (s.port p).pol.flight = none →
    s.offers5V p → s.rallyOn p = true →
    ∃ u, exec (.vdmResponseTimeout p) s = .next u ∧ (u.port p).rally.curtail = none ∧ (u.port p).rally.heldOff = true ∧
      (u.port p).sb.credit = 0) ∧
  (∀ (p : Fin 192) (s : State), s.policyFree p → (s.port p).pol.state = .ready → (s.port p).pol.eprEntry = 0 →
    (s.port p).pol.expect = .none → (s.port p).rally.busyReq = .notice → (s.port p).rally.req = .none →
    ∃ u m, exec (.vdmBusyRetry p) s = .next u ∧ (u.port p).pd.tx = some m ∧
      m.data = wordBytes ((s.port p).rally.reqHdr :: (s.port p).rally.reqVdos) ∧ (u.port p).rally.req = .notice ∧
      (u.port p).rally.busyReq = .none) ∧
  (∀ (p : Fin 192) (s : State), s.policyFree p → (s.port p).pol.discRun = true → (s.port p).pol.state = .ready →
    (s.port p).path.vconn ≠ 0 → (s.port p).rally.req = .none → (s.port p).pol.expect = .none →
    (s.port p).pol.discTries < s.param 0x7001 →
    ∃ u m, exec (.discoverIdentityAttempt p) s = .next u ∧ (u.port p).pd.tx = some m ∧ m.sop = .sopP ∧ m.kind = .vdm ∧
      (u.port p).pol.discTries = (s.port p).pol.discTries ∧ (u.port p).rally.req = .cableIdentity) ∧
  (∀ (p : Fin 192) (s : State), s.policyOn p = true → (s.port p).pol.discRun = true → (s.port p).pol.state = .ready →
    (s.port p).rally.req = .none → (s.port p).pol.flight = none → s.param 0x7001 ≤ (s.port p).pol.discTries → s.offers5V p →
    ∃ u, exec (.discoverIdentityAttempt p) s = .next u ∧ (u.port p).pol.cable = .silent ∧ (u.port p).pol.discRun = false) ∧
  (∀ (p : Fin 192) (m : TxMsg) (s : State), (s.port p).pol.flight = some m → m.expect = .vdm → m.kind = .vdm →
    (s.port p).rally.req = .cableIdentity → (s.port p).pol.discRun = true → (s.port p).pol.newOffer = false →
    ∃ u, exec (.txOk p) s = .next u ∧ (u.port p).pol.discTries = (s.port p).pol.discTries + 1 ∧
      (u.port p).rally.req = .cableIdentity) ∧
  (∀ (p : Fin 192) (x : BitVec 16) (h v : BitVec 32) (s : State), s.policyOn p = true → vdmSvid h = rallySvid → (s.port p).rally.active = true →
    (s.port p).rally.attn = true → s.rallyOn p = true → s.offers5V p →
    ∃ u, exec (.attention p x h v) s = .next u ∧ (u.port p).rally.pledgeNext =
        some (if pledgeVoid (s.port p).rally v then (0, 0, 0) else (bits v 10 10, bits v 20 2, bits v 0 10)) ∧
      (u.port p).rally.holdMin = (s.port p).rally.holdMin ∧ (u.port p).rally.pledge = (s.port p).rally.pledge) ∧
  (∀ (p : Fin 192) (s : State), s.policyFree p → (s.port p).pol.state = .ready → (s.port p).rally.active = true →
    (s.port p).rally.req = .none → (s.port p).rally.busyReq = .none → s.rallyOn p = true → s.noticeMay p = true →
    (s.port p).pol.eprEntry = 0 → (s.port p).pol.expect = .none →
    ((s.port p).rally.noticeDue = true ∨ ∀ t, (s.port p).rally.noticeAt = some t → t + secCycles (s.param 0x9006) ≤ s.aon) →
    ∃ u m, exec (.rallyNoticeDue p) s = .next u ∧ (u.port p).pd.tx = some m ∧ m.kind = .vdm ∧
      (u.port p).rally.seq = ((s.port p).rally.seq + 1) % 16 ∧ (u.port p).rally.req = .notice ∧
      (u.port p).rally.noticeDue = false ∧ (u.port p).rally.noticeAlloc = (s.port p).sb.alloc ∧
      (u.port p).rally.noticeAt = some s.aon) ∧
  (∀ (p : Fin 192) (s : State), s.policyOn p = true → (s.port p).rally.active = true → s.noticeMay p = false →
    exec (.rallyNoticeDue p) s = .next (s.modRally p fun r =>
      { r with noticeDue := r.noticeDue || r.noticeAt.all fun t => decide (t + secCycles (s.param 0x9006) ≤ s.aon) })) ∧
  (∀ (p : Fin 192) (t : Nat) (s : State), s.policyOn p = true → (s.port p).rally.noticeDue = false →
    (s.port p).rally.noticeAt = some t → s.aon < t + secCycles (s.param 0x9006) →
    exec (.rallyNoticeDue p) s = .next s) ∧
  (∀ (p : Fin 192) (t : Nat) (s : State), (s.port p).rally.curtail = some t → (s.port p).rally.curtConf = false →
    8 ≤ (s.port p).sb.curRun →
    exec (.curtailConfirm p) s = .next (s.modPort p fun q => { q with
      rally := { q.rally with curtConf := true },
      sb := { q.sb with confirmed := q.sb.confirmed || q.sb.decided.any (t ≤ ·) } })) ∧
  (∀ (p : Fin 192) (t : Nat) (s : State), (s.port p).rally.curtail = some t → (s.port p).rally.curtConf = false →
    (s.port p).rally.owed ≠ .curtail → (s.port p).rally.req ≠ .curtail → s.offers5V p →
    ∃ u, exec (.curtailReactionExpiry p) s = .next u ∧ (u.port p).rally.curtail = none ∧
      (u.port p).rally.heldOff = true ∧ (u.port p).sb.credit = 0) ∧
  (∀ (p : Fin 192) (t : Nat) (s : State), (s.port p).rally.curtail = some t → (s.port p).rally.curtHold ≠ 0 →
    (s.port p).rally.curtAt + secCycles (60 * (s.port p).rally.curtHold) ≤ s.aon → (s.port p).sb.decided = none →
    (s.port p).rally.preAlloc ≤ (s.port p).sb.alloc →
    ∃ u, exec (.curtailHoldExpiry p) s = .next u ∧ (u.port p).rally.curtail = none ∧
      ((s.port p).rally.idle = true → (u.port p).rally.req = .restore) ∧
      ((s.port p).rally.idle = false → (u.port p).rally.owed = .restore ∧ (u.port p).rally.req = (s.port p).rally.req)) ∧
  (∀ (p : Fin 192) (t : Nat) (s : State), (s.port p).rally.curtail = some t → (s.port p).rally.curtHold ≠ 0 →
    (s.port p).rally.curtAt + secCycles (60 * (s.port p).rally.curtHold) ≤ s.aon → (s.port p).sb.alloc < (s.port p).rally.preAlloc →
    ∃ u, exec (.curtailHoldExpiry p) s = .next u ∧ (u.port p).rally.curtail = none ∧ (u.port p).sb.alloc = (s.port p).sb.alloc) ∧
  (∀ (p : Fin 192) (s : State), (s.port p).rally.curtHold = 0 → exec (.curtailHoldExpiry p) s = .next s) ∧
  (∀ (p : Fin 192) (s : State), exec (.brokenHoldoffExpiry p) s = .next (s.modPort p fun q =>
    { q with rally := { q.rally with heldOff := false } }))

/-! ### Power path (06) -/

/-- R158–R165: each ACTION of a step table changes the one thing its ARG names, in the port's path or its termination, and the
entry NEXT_OK follows; every other port, the tiles, the link, the board and the code RAM are left. R15: a command that would set an
output its unsafe way is discarded when another actor commands the safe state in the same cycle, and the entry goes on. R169, R513: Rp
off in ST04 ends the attach.
Where the rules leave a corner open it is the model's choice: log entries 4, 6 and 61.
Each of these commands completes here (the conclusion is a next state with its own effect, from conditions on the state and the
operands alone): .stNop, .stSetGate, .stSetDis, .stSetTarget, .stSetRp, .stSetVconn, .stSignal, .stArmLimit, .stLoadWindow. -/
def Obligations.StepActionsAct : Prop :=
  (∀ (p : Fin 192) (s : State), s.atStep p 0 0 → exec (.stNop p) s = .next (s.modPath p fun q => s.okPath p q)) ∧
  (∀ (p : Fin 192) (vb : Nat) (v0 r : Bool) (s : State), s.atStep p 1 0 →
    ∃ u, exec (.stSetGate p vb v0 r) s = .next u ∧
      u.port p = { s.port p with path := s.okPath p { (s.port p).path with gate := false } } ∧
      (∀ q : Fin 192, q ≠ p → u.port q = s.port q) ∧ u.tiles = s.tiles ∧ u.link = s.link ∧ u.board = s.board ∧ u.cores = s.cores) ∧
  (∀ (p : Fin 192) (r : Bool) (s : State), s.atStep p 2 1 →
    ∃ u, exec (.stSetDis p r) s = .next u ∧
      u.port p = { s.port p with path := s.okPath p { (s.port p).path with dis := true } } ∧
      (∀ q : Fin 192, q ≠ p → u.port q = s.port q) ∧ u.link = s.link ∧ u.cores = s.cores) ∧
  (∀ (p : Fin 192) (s : State), s.atStep p 2 0 →
    ∃ u, exec (.stSetDis p false) s = .next u ∧
      u.port p = { s.port p with path := s.okPath p { (s.port p).path with dis := false, stuckTimer := false } }) ∧
  (∀ (p : Fin 192) (s : State), s.atStep p 2 0 → exec (.stSetDis p true) s = .next (s.modPath p fun q => s.okPath p q)) ∧
  (∀ (p : Fin 192) (a : Nat) (v : Nat) (s : State), s.atStep p 3 a → (s.port p).path.table ≠ 1 → (s.port p).path.table ≠ 2 →
    (s.port p).path.table ≠ 17 → (s.port p).path.table ≠ 18 →
    (a = 0 ∧ v = (s.port p).path.post.mv ∨ a = 1 ∧ v = seThr (s.stepEntryOf p) * 20 ∨ a = 2 ∧ v = 5000) →
    ∃ u, exec (.stSetTarget p false) s = .next u ∧
      u.port p = { s.port p with
        path := s.okPath p { (s.port p).path with fold := 0, slewTo := if (s.port p).path.target = v then none else some v } } ∧
      (∀ q : Fin 192, q ≠ p → u.port q = s.port q) ∧ u.link = s.link ∧ u.cores = s.cores) ∧
  (∀ (p : Fin 192) (s : State), s.atStep p 3 3 →
    ∃ u, exec (.stSetTarget p false) s = .next u ∧ (u.port p).path.target = 5000 ∧ (u.port p).path.slewTo = none ∧
      (u.port p).path.entry = seOk (s.stepEntryOf p) % 64 ∧ (u.port p).path.gate = (s.port p).path.gate) ∧
  (∀ (p : Fin 192) (a : Nat) (s : State), s.atStep p 3 a →
    ∃ u, exec (.stSetTarget p true) s = .next u ∧ (u.port p).path.target = (s.port p).path.target ∧
      (u.port p).path.slewTo = (s.port p).path.slewTo ∧ (u.port p).path.entry = seOk (s.stepEntryOf p) % 64) ∧
  (∀ (p : Fin 192) (a : Nat) (l : RpLevel) (s : State), s.atStep p 4 a →
    (a = 1 ∧ l = .dflt ∨ a = 2 ∧ l = .a15 ∨ a = 3 ∧ l = .a30 ∨ a = 4 ∧ l = (s.port p).path.post.rp) →
    ∃ u, exec (.stSetRp p false) s = .next u ∧ (u.port p).cc = { (s.port p).cc with rp := l, rpNg := false } ∧
      (u.port p).path = s.okPath p (s.port p).path ∧ (u.port p).pol = (s.port p).pol ∧
      (∀ q : Fin 192, q ≠ p → u.port q = s.port q) ∧ u.link = s.link ∧ u.cores = s.cores) ∧
  (∀ (p : Fin 192) (a : Nat) (s : State), s.atStep p 4 a → a ≠ 0 →
    exec (.stSetRp p true) s = .next (s.modPath p fun q => s.okPath p q)) ∧
  (∀ (p : Fin 192) (r : Bool) (s : State), s.atStep p 4 0 → (s.port p).path.table = 4 → (s.port p).cc.state = .attached →
    ∃ u, exec (.stSetRp p r) s = .next u ∧ (u.port p).cc.state = .detaching ∧ (u.port p).cc.rp = .off ∧
      (u.port p).pol.kind = .none ∧ (u.port p).path.entry = seOk (s.stepEntryOf p) % 64) ∧
  (∀ (p : Fin 192) (r : Bool) (s : State), s.atStep p 5 0 →
    ∃ u, exec (.stSetVconn p r) s = .next u ∧
      u.port p = { s.port p with path := s.okPath p { (s.port p).path with vconn := 0, vcFresh := false, vcPeak := 0 } } ∧
      (∀ q : Fin 192, q ≠ p → u.port q = s.port q) ∧ u.link = s.link) ∧
  (∀ (p : Fin 192) (s : State), s.atStep p 5 3 → (s.port p).cc.partner = .sinkPoweredCable → (s.port p).path.vcLocked = false →
    (s.port p).path.vconn ≠ vconnLine (s.port p).cc → s.vcAdmits (tileOf p) = true →
    ∃ u, exec (.stSetVconn p false) s = .next u ∧ (u.port p).path.vconn = (if (s.port p).cc.cc2 then 1 else 2) ∧
      (u.port p).path.entry = seOk (s.stepEntryOf p) % 64) ∧
  (∀ (p : Fin 192) (r : Bool) (s : State), s.atStep p 5 3 → (s.port p).path.vconn = 0 →
    (r = true ∨ (s.port p).cc.partner ≠ .sinkPoweredCable ∨ s.vcAdmits (tileOf p) = false) →
    ∃ u, exec (.stSetVconn p r) s = .next u ∧ (u.port p).path = s.okPath p (s.port p).path) ∧
  (∀ (p : Fin 192) (a : Nat) (g : Signal) (s : State), s.atStep p 6 a → signalOf a = some g →
    ∃ u, exec (.stSignal p) s = .next u ∧ (u.port p).path.lastSignal = some g ∧ (u.port p).path.moved = ((s.port p).path.moved && s.moreSignals p) ∧
      (u.port p).path.entry = seOk (s.stepEntryOf p) % 64 ∧ (u.port p).path.gate = (s.port p).path.gate ∧ u.link = s.link) ∧
  (∀ (p : Fin 192) (g : Signal) (s : State), (s.port p).path.run = true → (s.port p).path.waiting = false → s.tileDeaf p = false →
    seAct (s.stepEntryOf p) = 6 → seWait (s.stepEntryOf p) = 0 → seEnd (s.stepEntryOf p) = true →
    signalOf (seArg (s.stepEntryOf p)) = some g →
    ∃ u, exec (.stSignal p) s = .next u ∧ (u.port p).path.lastSignal = some g ∧ (u.port p).path.moved = false ∧
      (u.port p).path.run = false ∧ (u.port p).path.gate = (s.port p).path.gate ∧
      (u.port p).path.safeHeld = ((s.port p).path.safeHeld || seHold (s.stepEntryOf p)) ∧ u.link = s.link) ∧
  (∀ (p : Fin 192) (k m i : Nat) (s : State), s.atStep p 7 (4 * k + m) →
    (m = 0 ∧ (s.port p).path.hardLimit = none ∧ i = (s.port p).path.post.ma ∨ m = 1 ∧ i = seThr (s.stepEntryOf p) * 5) →
    ∃ u, exec (.stArmLimit p) s = .next u ∧
      u.port p = { s.port p with path := s.okPath p { (s.port p).path with bset := k, ilim := i, regulate := false, fold := 0 } } ∧
      (∀ q : Fin 192, q ≠ p → u.port q = s.port q) ∧ u.link = s.link) ∧
  (∀ (p : Fin 192) (k : Nat) (s : State), s.atStep p 7 (4 * k + 2) →
    ∃ u, exec (.stArmLimit p) s = .next u ∧
      u.port p = { s.port p with path := s.okPath p { (s.port p).path with bset := k } }) ∧
  (∀ (p : Fin 192) (k h : Nat) (s : State), s.atStep p 7 (4 * k + 3) → (s.port p).path.hardLimit = some h →
    ∃ u, exec (.stArmLimit p) s = .next u ∧ (u.port p).path.bset = k ∧ (u.port p).path.ilim = min (s.port p).path.post.ma h ∧
      (u.port p).path.regulate = decide ((s.port p).path.post.kind = .pps) ∧ (u.port p).path.acc = (s.port p).path.acc) ∧
  (∀ (p : Fin 192) (s : State), s.atStep p 8 0 →
    ∃ u, exec (.stLoadWindow p) s = .next u ∧ (u.port p).path.window = .steady ∧
      (u.port p).path.winHi = (s.port p).path.target + max ((s.port p).path.target / 20) 500 ∧
      (u.port p).path.winLo = (s.port p).path.target - max ((s.port p).path.target / 20) 500 ∧
      (u.port p).path.gate = (s.port p).path.gate ∧ u.link = s.link) ∧
  (∀ (p : Fin 192) (s : State), s.atStep p 8 2 →
    ∃ u, exec (.stLoadWindow p) s = .next u ∧
      u.port p = { s.port p with path := s.okPath p { (s.port p).path with window := .off, winHi := 0, winLo := 0 } })

/-- R164, R160, R162, R15: the interlock. The gate closes only on a main-lane reading and a vSafe0V comparator at or below 0.80 V, a
feedback target of 5 V in force and no lockout; a close refused by FAULT_ON_TIMEOUT's entry trips with cause INTERLOCK, and
otherwise is taken as the entry's timeout. A gate that is already closed stays closed; a close that meets another actor's open in the
same cycle is discarded.
Where the rules leave a corner open it is the model's choice: log entries 5, 6, 20 and 61.
Each of these commands completes here (the conclusion is a next state with its own effect, from conditions on the state and the
operands alone): .stSetGate. -/
def Obligations.InterlockGovernsClosing : Prop :=
  (∀ (p : Fin 192) (vb : Nat) (s : State), s.atStep p 1 1 → (s.port p).path.gate = false → vb ≤ 800 → (s.port p).path.target = 5000 →
    (s.port p).retry.lock = .none →
    ∃ u, exec (.stSetGate p vb true false) s = .next u ∧
      u.port p = { s.port p with path := s.okPath p { (s.port p).path with gate := true, peak := 0 } } ∧
      (∀ q : Fin 192, q ≠ p → u.port q = s.port q) ∧ u.link = s.link ∧ u.cores = s.cores) ∧
  (∀ (p : Fin 192) (vb : Nat) (v0 r : Bool) (s t : State), exec (.stSetGate p vb v0 r) s = .next t →
    (s.port p).path.gate = false → (t.port p).path.gate = true →
    vb ≤ 800 ∧ v0 = true ∧ r = false ∧ (s.port p).path.target = 5000 ∧ (s.port p).retry.lock = .none) ∧
  (∀ (p : Fin 192) (vb : Nat) (v0 : Bool) (s : State), s.atStep p 1 1 → (s.port p).path.gate = false → seFault (s.stepEntryOf p) = true →
    (800 < vb ∨ v0 = false ∨ (s.port p).path.target ≠ 5000 ∨ (s.port p).retry.lock ≠ .none) →
    ∃ u, exec (.stSetGate p vb v0 false) s = .next u ∧ (u.port p).path.isTripped ∧ (u.port p).retry.last = .interlock) ∧
  (∀ (p : Fin 192) (vb : Nat) (v0 : Bool) (s : State), s.atStep p 1 1 → (s.port p).path.gate = false → seFault (s.stepEntryOf p) = false →
    (800 < vb ∨ v0 = false ∨ (s.port p).path.target ≠ 5000 ∨ (s.port p).retry.lock ≠ .none) →
    exec (.stSetGate p vb v0 false) s = .next (s.modPath p fun q => { q with waiting := false, entry := seTo (s.stepEntryOf p) % 64 })) ∧
  (∀ (p q : Fin 192) (vb : Nat) (v0 r : Bool) (s t : State), exec (.stSetGate p vb v0 r) s = .next t → q ≠ p →
    (t.port q).path = (s.port q).path) ∧
  (∀ (p : Fin 192) (vb : Nat) (v0 r : Bool) (s : State), s.atStep p 1 1 → (r = true ∨ (s.port p).path.gate = true) →
    exec (.stSetGate p vb v0 r) s = .next (s.modPath p fun q => s.okPath p q))

/-- R158, R161, R162, R167, R174: waits, which succeed only when their condition holds, timeouts, posts and the queued post. At vSafe0V
with the switch open the breaker's accumulators clear. R36, R54: no table runs on a BOOT_SINK, nor on an attached accessory.
Where the rules leave a corner open it is the model's choice: log entries 6 and 19.
Each of these commands completes here (the conclusion is a next state with its own effect, from conditions on the state and the
operands alone): .stepWaitSuccess, .stepWaitTimeout, .powerPathPost, .queuedPostStart. -/
def Obligations.WaitsAndPosts : Prop :=
  (∀ (p : Fin 192) (w : WaitView) (s : State), s.stepWaits p → s.waitMet p (s.stepEntryOf p) w = true →
    seWait (s.stepEntryOf p) ≠ 1 → seEnd (s.stepEntryOf p) = false →
    exec (.stepWaitSuccess p w) s = .next (s.modPath p fun q => s.okPath p q)) ∧
  (∀ (p : Fin 192) (w : WaitView) (s : State), s.stepWaits p → s.waitMet p (s.stepEntryOf p) w = false →
    exec (.stepWaitSuccess p w) s = .next s) ∧
  (∀ (p : Fin 192) (e : BitVec 64) (w : WaitView) (s : State),
    (seWait e = 2 → (s.waitMet p e w = true ↔ seThr e * 20 < (w.vb[0]?).getD 0)) ∧
    (seWait e = 3 → (s.waitMet p e w = true ↔ 4 ≤ w.vb.length ∧ ∀ v ∈ w.vb.take 4,
      (s.port p).path.target - margin (s.port p).path.target ≤ v ∧ v ≤ (s.port p).path.target + margin (s.port p).path.target)) ∧
    (seWait e = 4 → (s.waitMet p e w = true ↔ w.ib < seThr e * 5)) ∧
    (seWait e = 8 → (s.waitMet p e w = true ↔ (s.port p).path.slewTo = none))) ∧
  (∀ (p : Fin 192) (w : WaitView) (s : State), s.stepWaits p → seWait (s.stepEntryOf p) = 1 → seThr (s.stepEntryOf p) = 40 →
    (w.vb[0]?).getD 0 < 800 → w.vs0 = true → (s.port p).path.gate = false → seEnd (s.stepEntryOf p) = false →
    exec (.stepWaitSuccess p w) s = .next (s.modPath p fun q => s.okPath p { q with acc := List.replicate 8 0 })) ∧
  (∀ (p : Fin 192) (w : WaitView) (s : State), s.stepWaits p → s.waitMet p (s.stepEntryOf p) w = true →
    seWait (s.stepEntryOf p) ≠ 1 → seEnd (s.stepEntryOf p) = true →
    exec (.stepWaitSuccess p w) s = .next (s.modPath p fun q =>
      { q with run := false, waiting := false, moved := false, safeHeld := q.safeHeld || seHold (s.stepEntryOf p) })) ∧
  (∀ (p : Fin 192) (s : State), s.stepWaits p → seWait (s.stepEntryOf p) = 5 → seEnd (s.stepEntryOf p) = false →
    exec (.stepWaitTimeout p) s = .next (s.modPath p fun q => s.okPath p q)) ∧
  (∀ (p : Fin 192) (s : State), s.stepWaits p → seWait (s.stepEntryOf p) ≠ 5 → seFault (s.stepEntryOf p) = true →
    ∃ u, exec (.stepWaitTimeout p) s = .next u ∧ (u.port p).path.isTripped ∧ (u.port p).retry.last = .stepTimeout) ∧
  (∀ (p : Fin 192) (s : State), s.stepWaits p → seWait (s.stepEntryOf p) ≠ 5 → seFault (s.stepEntryOf p) = false →
    seEnd (s.stepEntryOf p) = false →
    exec (.stepWaitTimeout p) s = .next (s.modPath p fun q => { q with waiting := false, entry := seTo (s.stepEntryOf p) % 64 })) ∧
  (∀ (p : Fin 192) (r : Post) (s : State), s.tileDeaf p = false → (s.port p).path.safeHeld = false → 3300 ≤ r.mv →
    r.mv ≤ 50000 → (s.port p).path.run = false → (s.port p).path.queued = none → (s.port p).cc.noTable (s.tableFor p r.purpose) = false →
    ∃ u, exec (.powerPathPost p r) s = .next u ∧ (u.port p).path.run = true ∧ (u.port p).path.entry = 0 ∧
      (u.port p).path.table = (if (s.tileCfg (tileOf p)).stOvr.getLsbD r.purpose.table then 16 + r.purpose.table else r.purpose.table) ∧
      (u.port p).path.post = r ∧ (u.port p).path.gate = (s.port p).path.gate ∧ u.link = s.link) ∧
  (∀ (p : Fin 192) (r : Post) (s : State), s.tileDeaf p = false → (s.port p).path.safeHeld = false → 3300 ≤ r.mv →
    r.mv ≤ 50000 → (s.port p).path.run = true → (s.port p).path.queued = none → (s.port p).cc.noTable (s.tableFor p r.purpose) = false →
    r.purpose ≠ .hardReset → r.purpose ≠ .errRec → r.purpose ≠ .disc →
    exec (.powerPathPost p r) s = .next (s.modPath p fun q => { q with queued := some r })) ∧
  (∀ (p : Fin 192) (r : Post) (s : State), s.tileDeaf p = false → (s.port p).path.safeHeld = false → 3300 ≤ r.mv →
    r.mv ≤ 50000 → (s.port p).cc.noTable (s.tableFor p r.purpose) = false → (r.purpose = .hardReset ∨ r.purpose = .errRec ∨ r.purpose = .disc) →
    ∃ u, exec (.powerPathPost p r) s = .next u ∧ (u.port p).path.run = true ∧ (u.port p).path.entry = 0 ∧
      (u.port p).path.post = r ∧ (u.port p).path.queued = none ∧
      ((s.port p).path.queued ≠ none → (u.port p).path.lastSignal = some .refused)) ∧
  (∀ (p : Fin 192) (r : Post) (s : State), s.tileDeaf p = false →
    ((s.port p).path.safeHeld = true ∧ r.purpose ≠ .attach ∧ r.purpose ≠ .errRec ∧ r.purpose ≠ .probe ∨ r.mv < 3300 ∨ 50000 < r.mv ∨
      (s.port p).cc.noTable (s.tableFor p r.purpose) = true) →
    ∃ u, exec (.powerPathPost p r) s = .next u ∧
      (u.port p).path = { (s.port p).path with lastSignal := some .refused } ∧ u.link = s.link) ∧
  (∀ (p : Fin 192) (r : Post) (s : State), s.tileDeaf p = true → exec (.powerPathPost p r) s = .next s) ∧
  (∀ (c : Cc) (n : Nat), (c.state = .bootSink → c.noTable n = true) ∧
    (c.state = .attached → (c.partner = .debugAcc ∨ c.partner = .audioAcc) → n ≠ 4 → n ≠ 20 → c.noTable n = true) ∧
    (c.state = .attached → (c.partner = .sink ∨ c.partner = .sinkPoweredCable) → c.noTable n = false)) ∧
  (∀ (p : Fin 192) (r : Post) (s : State), (s.port p).path.queued = some r → s.tileDeaf p = false →
    (s.port p).path.safeHeld = false → 3300 ≤ r.mv → r.mv ≤ 50000 → (s.port p).path.run = false →
    (s.port p).cc.noTable (s.tableFor p r.purpose) = false →
    ∃ u, exec (.queuedPostStart p) s = .next u ∧ (u.port p).path.run = true ∧ (u.port p).path.entry = 0 ∧
      (u.port p).path.post = r ∧ (u.port p).path.queued = none ∧ (u.port p).path.gate = (s.port p).path.gate)

/-- R171, R173, R174, R176, R177, R184: the breaker counts by 8 and 1, a slewed target moves at the port's rate, PPS regulation folds it
back by 20 mV a tick, and each protective function that its limits let trip takes the port to its safe state and its cause to the retry
state; of what shows in one tile cycle FAST goes before BREAKER and OVERVOLT before REVERSE; a VCONN over-current takes VCONN alone.
REVERSE is posted too where the port has tripped already and its discharge runs.
Where the rules leave a corner open it is the model's choice: log entries 5, 15, 20 and 61.
Each of these commands completes here (the conclusion is a next state with its own effect, from conditions on the state and the
operands alone): .breakerTick, .breakerTrip, .undervoltTrip, .fastTrip, .vbusOvervolt, .reverseCurrent, .vconnOvercurrent. -/
def Obligations.ProtectionsTrip : Prop :=
  (∀ (p : Fin 192) (ma : Int) (mv : Nat) (s : State), s.pwr.dev ≠ .deep → (s.port p).path.regulate = false →
    (s.port p).path.slewTo = none →
    ∃ u, exec (.breakerTick p ma mv) s = .next u ∧
      (u.port p).path.acc = accTick (s.breakerSet (tileOf p) (s.port p).path.bset) (s.port p).path.ilim ma (s.port p).path.acc ∧
      (u.port p).path.target = (s.port p).path.target ∧ (u.port p).path.gate = (s.port p).path.gate ∧
      (u.port p).pol = (s.port p).pol ∧ (∀ q : Fin 192, q ≠ p → u.port q = s.port q) ∧ u.link = s.link ∧ u.cores = s.cores) ∧
  (∀ (p : Fin 192) (ma : Int) (mv : Nat) (s : State), s.pwr.dev = .deep → exec (.breakerTick p ma mv) s = .next s) ∧
  (∀ (ik tk lim a : Nat) (ma : Int), accTick [(ik, tk)] lim ma [a] = [if ma * 16 > ((ik * lim : Nat) : Int) then a + 8 else a - 1]) ∧
  (∀ (p : Fin 192) (ma : Int) (mv : Nat) (s : State), s.pwr.dev ≠ .deep → (s.port p).path.regulate = true →
    (s.port p).path.slewTo = none → ((s.port p).path.ilim : Int) < ma →
    ∃ u, exec (.breakerTick p ma mv) s = .next u ∧
      (u.port p).path.fold = min ((s.port p).path.fold + 20)
        ((s.port p).path.target + (s.port p).path.fold - (s.port p).path.regMin) ∧
      (u.port p).path.target = (s.port p).path.target + (s.port p).path.fold - (u.port p).path.fold) ∧
  (∀ (p : Fin 192) (v : Nat) (ma : Int) (mv : Nat) (s : State), s.pwr.dev ≠ .deep → (s.port p).path.regulate = false →
    (s.port p).path.fold = 0 → (s.port p).path.slewTo = some v → (s.port p).path.target < v →
    ∃ u, exec (.breakerTick p ma mv) s = .next u ∧
      (u.port p).path.target = min v ((s.port p).path.target + 5 * (s.pathCfg p).2) ∧
      ((u.port p).path.slewTo = none ↔ (u.port p).path.target = v)) ∧
  (∀ (p : Fin 192) (k : Nat) (s : State), s.breakerHit p = some k → (s.port p).mayTrip = true →
    ∃ u, exec (.breakerTrip p []) s = .next u ∧ (u.port p).path.isTripped ∧ (u.port p).retry.last = .breaker ∧
      (u.port p).pol.kind = .none ∧ (u.port p).cnt.trip = (s.port p).cnt.trip.inc32) ∧
  (∀ (p : Fin 192) (mv : Nat) (s : State), (s.port p).path.window = .steady → (s.port p).path.run = false →
    ((s.port p).path.regulate = false ∨ (s.port p).path.fold = 0) → (s.port p).mayTrip = true → mv < (s.port p).path.winLo →
    ∃ u, exec (.undervoltTrip p mv []) s = .next u ∧ (u.port p).path.isTripped ∧ (u.port p).retry.last = .undervolt) ∧
  (∀ (p : Fin 192) (mv : Nat) (s : State), ((s.port p).path.run = true ∨ (s.port p).path.winLo ≤ mv) →
    exec (.undervoltTrip p mv []) s = .next s) ∧
  (∀ (p : Fin 192) (ma : Nat) (l : List Tripping) (s : State), (s.port p).mayTrip = true →
    500 * (s.pathCfg p).1 * 95 ≤ ma * 100 →
    ∃ u, exec (.fastTrip p ma l) s = .next u ∧ (u.port p).path.isTripped ∧
    (u.port p).retry.last = .fast ∧ (u.port p).pol.kind = .none ∧ (u.port p).cnt.trip = (s.port p).cnt.trip.inc32) ∧
  (∀ (p : Fin 192) (ma : Nat) (s : State), (s.port p).mayTrip = true → 500 * (s.pathCfg p).1 * 95 ≤ ma * 100 →
    ∃ u, exec (.breakerTrip p [.fast ma]) s = .next u ∧ (u.port p).retry.last = .fast) ∧
  (∀ (p : Fin 192) (mv ma : Nat) (s : State), (s.port p).mayTrip = true → (s.port p).path.gate = true → (s.port p).path.window ≠ .off →
    (s.port p).path.winHi * 99 ≤ mv * 100 →
    ∃ u, exec (.vbusOvervolt p mv [.reverse ma]) s = .next u ∧ (u.port p).path.isTripped ∧ (u.port p).retry.last = .overvolt) ∧
  (∀ (p : Fin 192) (mv : Nat) (s : State), (s.port p).path.gate = false →
    exec (.vbusOvervolt p mv []) s = .next s) ∧
  (∀ (p : Fin 192) (mv : Nat) (s : State), (s.port p).path.window = .off → exec (.vbusOvervolt p mv []) s = .next s) ∧
  (∀ (p : Fin 192) (ma : Nat) (s : State), (s.port p).mayTrip = true → 200 ≤ ma →
    ∃ u, exec (.reverseCurrent p ma []) s = .next u ∧ (u.port p).path.isTripped ∧ (u.port p).retry.last = .reverse) ∧
  (∀ (p : Fin 192) (ma : Nat) (s : State), (s.port p).path.gate = false → (s.port p).path.disTrip = true →
    (s.port p).cc.state ≠ .bootSink → 200 ≤ ma →
    exec (.reverseCurrent p ma []) s = .next (s.postEvt (some p) (.reverse (ma / 5)))) ∧
  (∀ (p q : Fin 192) (ma : Nat) (l : List Tripping) (s t : State), exec (.fastTrip p ma l) s = .next t → q ≠ p →
    (t.port q).path = (s.port q).path) ∧
  (∀ (p : Fin 192) (ma : Nat) (s : State), (s.port p).path.vconn ≠ 0 → 250 < ma →
    ∃ u, exec (.vconnOvercurrent p ma) s = .next u ∧ (u.port p).path.vconn = 0 ∧ (u.port p).path.vcLocked = true ∧
      (u.port p).path.gate = (s.port p).path.gate ∧ (u.port p).retry.f = (s.port p).retry.f ∧
      (u.port p).retry.due = (s.port p).retry.due ∧ (u.port p).pol = (s.port p).pol)

/-- R177–R181, R183: discharge ends, the retry schedule, the open port that shows VBUS, and the stuck switch.
Where the rules leave a corner open it is the model's choice: log entries 6 and 20.
Each of these commands completes here (the conclusion is a next state with its own effect, from conditions on the state and the
operands alone): .tripDischargeDone, .retryProbeDue, .retryQualifyClear, .retryHoldExpiry, .retryFailed, .retryQualified,
.openPortVbus, .stuckSwitch, .stuckDischargeEnd, .detachDischargeDone. -/
def Obligations.RetryAndStuckSwitch : Prop :=
  (∀ (p : Fin 192) (s : State), (s.port p).path.disTrip = true → (s.port p).path.detachMid = none →
    ∃ u, exec (.tripDischargeDone p) s = .next u ∧ (u.port p).path.dis = false ∧ (u.port p).path.disTrip = false ∧
      (u.port p).path.acc = List.replicate 8 0 ∧ (u.port p).path.gate = (s.port p).path.gate ∧ u.link = s.link) ∧
  (∀ (p : Fin 192) (d : Nat) (s : State), (s.port p).retry.due = some d → d ≤ s.aon → (s.port p).cc.state = .attached →
    (s.port p).cc.partner.isSink = true → (s.port p).retry.lock = .none → s.tileDeaf p = false → (s.port p).path.run = false →
    (s.port p).path.queued = none → (s.tileCfg (tileOf p)).stOvr = 0#16 →
    ∃ u, exec (.retryProbeDue p) s = .next u ∧ (u.port p).path.run = true ∧ (u.port p).path.table = 5 ∧
      (u.port p).path.entry = 0 ∧ (u.port p).retry.due = none ∧ (u.port p).retry.probing = true) ∧
  (∀ (p : Fin 192) (d : Nat) (s : State), (s.port p).retry.due = some d → s.aon < d → exec (.retryProbeDue p) s = .next s) ∧
  (∀ (p : Fin 192) (s : State), (s.port p).retry.qualified = true →
    exec (.retryQualifyClear p) s = .next (s.modRetry p fun r => { r with f := 0, qualified := false })) ∧
  (∀ (p : Fin 192) (s : State), (s.port p).retry.hold = true → (s.port p).cc.state ≠ .attached →
    ∃ u, exec (.retryHoldExpiry p) s = .next u ∧ (u.port p).retry.f = 0 ∧ (u.port p).retry.due = none ∧
      (u.port p).retry.hold = false ∧ ((s.port p).retry.lock = .retryExhausted → (u.port p).retry.lock = .none) ∧
      ((s.port p).retry.lock ≠ .retryExhausted → (u.port p).retry.lock = (s.port p).retry.lock) ∧
      (u.port p).path = (s.port p).path ∧ u.link = s.link) ∧
  (∀ (p : Fin 192) (s : State), (s.port p).cc.state = .attached → (s.port p).cc.attachPend = false → (s.port p).retry.f < 15 →
    ∃ u, exec (.retryFailed p) s = .next u ∧ (u.port p).retry.f = (s.port p).retry.f + 1 ∧
      (u.port p).retry.due = some (s.aon + min (2 ^ ((s.port p).retry.f + 2)) 64 * 32768) ∧
      (u.port p).retry.lock = (s.port p).retry.lock ∧ (u.port p).path = (s.port p).path) ∧
  (∀ (p : Fin 192) (s : State), (s.port p).cc.attachPend = false → (s.port p).retry.f = 15 → (s.port p).retry.lock = .none →
    ∃ u, exec (.retryFailed p) s = .next u ∧ (u.port p).retry.f = 16 ∧ (u.port p).retry.due = none ∧
      (u.port p).retry.lock = .retryExhausted) ∧
  (∀ (p : Fin 192) (s : State), (s.port p).cc.state = .attached → (s.port p).cc.attachPend = false →
    ∃ u, exec (.retryQualified p) s = .next u ∧ (u.port p).pol.state = .startup ∧ (u.port p).retry.qualified = true ∧
      (u.port p).retry.probing = false ∧ (u.port p).sb.newc = true ∧ (u.port p).sb.admOrd = some s.board.admitNext ∧
      u.board.admitNext = s.board.admitNext + 1 ∧ u.link = s.link) ∧
  (∀ (p : Fin 192) (s : State), (s.port p).path.gate = false → (s.port p).cc.state ≠ .bootSink → (s.port p).cc.state ≠ .bootRd →
    s.pwr.dev = .deep →
    ∃ u, exec (.openPortVbus p) s = .next u ∧ (u.port p).path.dis = true ∧ (u.port p).path.stuckTimer = true ∧
      u.pwr.wake.getLsbD 1 = true) ∧
  (∀ (p : Fin 192) (s : State), (s.port p).path.gate = true → exec (.openPortVbus p) s = .next s) ∧
  (∀ (p : Fin 192) (mv : Nat) (s : State), (s.port p).path.gate = false → (s.port p).path.dis = true →
    800 < mv → s.pwr.dev ≠ .deep → (s.port p).cc.state ≠ .bootSink → (s.port p).retry.lock ≠ .stuckSwitch →
    ∃ u, exec (.stuckSwitch p mv) s = .next u ∧ (u.port p).cc.state = .lockedOut ∧ (u.port p).cc.rp = .off ∧
      (u.port p).retry.lock = .stuckSwitch ∧ (u.port p).path.dis = true ∧ (u.port p).path.window = .off ∧
      u.ref.fault.getLsbD 0x0B = true ∧ u.faultLow = true) ∧
  (∀ (p : Fin 192) (s : State), (s.port p).path.stuckDis = true →
    exec (.stuckDischargeEnd p) s = .next (s.modPath p fun q => { q with dis := false, disTrip := false, stuckDis := false })) ∧
  (∀ (p : Fin 192) (m : Bool) (s : State), (s.port p).path.detachMid = some m → (s.port p).pol.enabled = true →
    (s.port p).sb.state ≠ .disabled →
    ∃ u, exec (.detachDischargeDone p) s = .next u ∧ (u.port p).path.dis = false ∧ (u.port p).path.detachMid = none ∧
      (u.port p).path.acc = List.replicate 8 0 ∧ (u.port p).sb.state = .idle ∧
      (u.port p).sb.alloc = min (s.port p).sb.alloc s.board.reserve)

/-- R42, R97, R109, R117, R120, R163, R167, R215, R222: what the hub does at each SIGNAL.
Where the rules leave a corner open it is the model's choice: log entries 4 and 66.
Each of these commands completes here (the conclusion is a next state with its own effect, from conditions on the state and the
operands alone): .vsafe5vOk, .transitionDone, .transitionFail, .refused, .vsafe0vOk, .limitSet, .vconnReady, .vconnFail, .vconnOff,
.rpSet. -/
def Obligations.SignalsAtTheHub : Prop :=
  (∀ (p : Fin 192) (s : State), (s.port p).pol.state ≠ .hardReset → (s.port p).cc.state = .attached →
    (s.port p).cc.partner = .sink → (s.port p).cc.attachPend = false → (s.port p).sb.state = .idle →
    ∃ u, exec (.vsafe5vOk p) s = .next u ∧ (u.port p).pol.state = .startup ∧ (u.port p).sb.newc = true ∧
      (u.port p).sb.alloc = (s.port p).sb.alloc ∧ (u.port p).sb.admOrd = some s.board.admitNext ∧ u.link = s.link) ∧
  (∀ (p : Fin 192) (s : State), s.policyFree p → (s.port p).pol.state = .transition →
    ∃ u m, exec (.transitionDone p) s = .next u ∧ (u.port p).pd.tx = some m ∧ m.kind = .psRdy ∧ m.expect = .psRdyReq ∧ m.amsEnd = true ∧
      ∀ a, judge (s.port p).pol.acked (s.port p).pol.req = some a → m.ckind = a.kind) ∧
  (∀ (p : Fin 192) (s : State), (s.port p).pol.state ≠ .transition →
    exec (.transitionDone p) s = .next s ∧ exec (.transitionFail p) s = .next s ∧ exec (.refused p) s = .next s) ∧
  (∀ (p : Fin 192) (s : State), (s.port p).pol.state = .transition → s.mayHardReset p →
    ∃ u v, exec (.transitionFail p) s = .next u ∧ (u.port p).isHardReset ∧ exec (.refused p) s = .next v ∧ (v.port p).isHardReset) ∧
  (∀ (p : Fin 192) (s : State), (s.port p).pol.state = .detached → (s.port p).cc.state = .detaching →
    (s.port p).sb.disconnecting = false → (s.port p).pol.enabled = true → (s.port p).sb.state ≠ .disabled →
    ∃ u, exec (.vsafe0vOk p) s = .next u ∧ (u.port p).sb.state = .idle ∧
      (u.port p).sb.alloc = min (s.port p).sb.alloc s.board.reserve ∧
      (u.port p).path.gate = (s.port p).path.gate) ∧
  (∀ (p : Fin 192) (s : State), (s.port p).pol.state = .ready → (s.port p).sb.disconnecting = true → (s.port p).pol.enabled = true →
    (s.port p).sb.state ≠ .disabled →
    ∃ u, exec (.vsafe0vOk p) s = .next u ∧ (u.port p).sb.state = .shed ∧
      (u.port p).sb.alloc = min (s.port p).sb.alloc s.board.reserve ∧
      (u.port p).sb.disconnecting = false) ∧
  (∀ (p : Fin 192) (d : Nat) (s : State), (s.port p).sb.floorLim = false → (s.port p).sb.decided = some d → (s.port p).sb.step = 3 →
    exec (.limitSet p) s = .next (s.modSb p fun b => { b with confirmed := true })) ∧
  (∀ (p : Fin 192) (d : Nat) (s : State), (s.port p).sb.floorLim = true → (s.port p).sb.decided = some d →
    ∃ u, exec (.limitSet p) s = .next u ∧ (u.port p).sb.alloc = d ∧ (u.port p).sb.floorLim = false ∧ (u.port p).sb.decided = none) ∧
  (∀ (p : Fin 192) (s : State), s.policyFree p → (s.port p).pol.state = .vconnSwap → (s.port p).pol.swapTake = true →
    ∃ u, exec (.vconnReady p) s = .next u ∧ (u.port p).pd.tx = some (ctlMsg .psRdy .psRdySwap).amsLast ∧ (u.port p).sb.vcWait = false) ∧
  (∀ (p : Fin 192) (s : State), (s.port p).pol.state = .vconnSwap → (s.port p).pol.swapTake = true → s.mayHardReset p →
    ∃ u, exec (.vconnFail p) s = .next u ∧ (u.port p).isHardReset) ∧
  (∀ (p : Fin 192) (s : State), (s.port p).pol.state = .vconnSwap → (s.port p).pol.swapTake = false →
    (s.port p).pol.eprEntry ≠ 2 → (s.port p).pol.outq = [] → (s.port p).pol.newOffer = false → (s.port p).pol.cable ≠ .unknown →
    ∃ u, exec (.vconnOff p) s = .next u ∧ (u.port p).pol.state = (s.port p).pol.back ∧ (u.port p).path = (s.port p).path) ∧
  (∀ (p : Fin 192) (s : State), exec (.rpSet p) s = .next (s.modSb p fun b => { b with rpWait := false, loRun := 0 }))

/-! ### Feeds (07) -/

/-- R188–R193, R197, R202, R203, R209: seating, window and insertion delay, selection, inrush, changeover and retry. A feed is inside its
window from UV_QUAL to 1.0 V below OV_TRIP; feeds whose insertion delays end together reach STANDBY together, and FDA is connected. Each feed works by
the settings it took up at its last breaker tick (R366).
Where the rules leave a corner open it is the model's choice: log entries 5, 6, 27 and 61.
Each of these commands completes here (the conclusion is a next state with its own effect, from conditions on the state and the
operands alone): .seatQualified, .feedWindowChange, .insertDelayExpiry, .priorityReturn, .inrushComplete, .offConfirmed,
.deadTimeEnd, .feedRetryDue, .feedRetryClear, .feedReseatHoldExpiry. -/
def Obligations.FeedsQualifyAndConnect : Prop :=
  (∀ s : State, s.board.changeover = none → (s.feedA.state = .active ∨ s.feedB.state = .active) →
    ∃ u, exec .seatQualified s = .next u ∧ u.board.seated = true ∧ u.ports = s.ports ∧ u.link = s.link ∧ u.cores = s.cores) ∧
  (∀ (mv : Nat) (s : State), s.feedUp = true → s.feedA.state = .waitWindow → s.feedA.ready = true → s.board.seated = true → s.feedB.state = .active →
    s.feedA.use.uvq * 100 ≤ mv → mv + 1000 ≤ s.feedA.use.ov * 100 →
    ∃ u, exec (.feedWindowChange .fda mv) s = .next u ∧ u.feedA = { s.feedA with
        state := .insertDelay, mv := mv, inWin := true, qualAt := some (s.feedA.qualAt.getD s.aon) } ∧
      u.feedB = s.feedB ∧ u.ports = s.ports ∧ u.link = s.link) ∧
  (∀ (mv : Nat) (s : State), s.feedUp = true → s.feedA.state = .standby → s.feedA.ready = true → s.feedB.state = .active →
    (mv < s.feedA.use.uvq * 100 ∨ s.feedA.use.ov * 100 < mv + 1000) →
    ∃ u, exec (.feedWindowChange .fda mv) s = .next u ∧
      u.feedA = { s.feedA with state := .waitWindow, mv := mv, inWin := false, qualAt := none }) ∧
  (∀ (mv : Nat) (s : State), s.feedA.state = .active → exec (.feedWindowChange .fda mv) s = .next s) ∧
  (∀ (s : State), s.feedUp = true → s.feedA.state = .insertDelay → s.feedSettled .fda = true → s.feedB.state = .active → s.feedA.use.ret ≠ 0 →
    ∃ u, exec (.insertDelayExpiry .fda false) s = .next u ∧ u.feedA = { s.feedA with state := .standby } ∧ u.feedB = s.feedB ∧
      u.board.returnRun = true ∧ u.ports = s.ports) ∧
  (∀ (s : State), s.feedUp = true → s.feedA.state = .insertDelay → s.feedSettled .fda = true → s.feedB.state = .standby → s.board.changeover = none → s.ref.safe = false →
    ∃ u, exec (.insertDelayExpiry .fda false) s = .next u ∧ u.feedA.state = .inrush ∧ u.feedA.gate = true ∧ u.feedB = s.feedB) ∧
  (∀ (s : State), s.feedUp = true → s.feedA.state = .insertDelay → s.feedB.state = .insertDelay →
    s.feedSettled .fda = true → s.feedSettled .fdb = true → s.board.changeover = none → s.ref.safe = false →
    ∃ u, exec (.insertDelayExpiry .fdb true) s = .next u ∧ u.feedA.state = .inrush ∧ u.feedA.gate = true ∧
      u.feedB = { s.feedB with state := .standby }) ∧
  (∀ (b : Bool) (s : State), s.feedSettled .fda = false → exec (.insertDelayExpiry .fda b) s = .next s) ∧
  (∀ s : State, s.feedUp = true → s.feedB.state = .active → s.feedA.state = .standby → s.board.changeover = none → s.ref.safe = false →
    s.feedA.use.ret ≠ 0 →
    ∃ u, exec (.priorityReturn []) s = .next u ∧ u.feedB.state = .opening ∧ u.feedB.gate = false ∧ u.feedA = s.feedA ∧
      u.board.changeover = some (.fda, .priorityReturn) ∧ u.ports = s.ports ∧ u.link = s.link) ∧
  (∀ (mv : Nat) (s : State), s.feedUp = true → s.feedB.state = .active → s.feedA.state = .standby → s.board.changeover = none → s.ref.safe = false →
    s.feedA.use.ret ≠ 0 → s.feedB.use.ftmv < mv →
    ∃ u, exec (.priorityReturn [.fast mv]) s = .next u ∧ u.feedB.state = .opening ∧ u.feedB.cause = .fast ∧
      u.board.changeover = some (.fda, .fast)) ∧
  (∀ (vgs mv vbusc : Nat) (s : State), s.feedUp = true → s.feedA.state = .inrush → 9000 ≤ vgs → mv ≤ vbusc + 1000 → vbusc ≤ mv + 1000 →
    ∃ u, exec (.inrushComplete .fda vgs mv vbusc) s = .next u ∧ u.feedA.state = .active ∧ u.feedA.gate = s.feedA.gate ∧
      u.board.changeover = none ∧ u.feedB = s.feedB) ∧
  (∀ (vgs : Nat) (ma : Int) (s : State), s.feedUp = true → s.feedA.state = .opening → s.feedA.gate = false → s.feedA.enabled = true →
    s.feedA.after = .backoff → s.feedA.ready = true → s.feedB.state = .active → s.feedA.isOff vgs ma = true →
    ∃ u, exec (.offConfirmed .fda vgs ma) s = .next u ∧ u.feedA.state = .backoff ∧ u.feedA.offOk = true ∧
      u.feedA.acc = List.replicate 8 0 ∧ u.feedB = s.feedB) ∧
  (∀ (vgs : Nat) (ma : Int) (s : State), s.feedA.state = .opening → s.feedA.isOff vgs ma = false →
    exec (.offConfirmed .fda vgs ma) s = .next s) ∧
  (∀ (s : State) (c : FeedCause), s.feedUp = true → s.board.changeover = some (.fdb, c) → s.feedA.offOk = true → s.feedA.state = .backoff →
    s.board.seated = true → s.feedB.state = .standby →
    ∃ u, exec .deadTimeEnd s = .next u ∧ u.feedB.state = .inrush ∧ u.feedB.gate = true ∧ u.feedA = s.feedA ∧
      u.board = s.board ∧ u.ports = s.ports) ∧
  (∀ (d : Nat) (s : State), s.feedUp = true → s.feedA.state = .backoff → s.ref.safe = false → s.feedB.state = .active → s.feedA.due = some d → d ≤ s.aon →
    s.feedSettled .fda = true → s.feedA.inWin = true → s.board.seated = true →
    ∃ u, exec (.feedRetryDue .fda) s = .next u ∧ u.feedA.state = .standby ∧ u.feedA.due = none ∧
      u.feedA.retryCnt = s.feedA.retryCnt ∧ u.feedB = s.feedB) ∧
  (∀ (d : Nat) (s : State), s.feedA.due = some d → s.aon < d → exec (.feedRetryDue .fda) s = .next s) ∧
  (∀ s : State, s.feedUp = true → s.feedA.state = .active → s.feedA.activeRun = true →
    exec (.feedRetryClear .fda) s = .next { s with feedA := { s.feedA with retryCnt := 0, activeRun := false } }) ∧
  (∀ s : State, s.board.seated = false →
    ∃ u, exec .feedReseatHoldExpiry s = .next u ∧ u.feedA.retryCnt = 0 ∧ u.feedA.due = none ∧ u.feedB.retryCnt = 0 ∧
      u.feedB.due = none ∧ u.feedA.gate = s.feedA.gate ∧ u.ports = s.ports ∧ u.link = s.link)

/-- R193, R194, R196, R198, R200–R202, R204, R209: the breaker tick and power good, and what each condition that ends a connection
leaves; a condition that does not hold leaves everything; of what shows in one tick OVERVOLT comes first.
Where the rules leave a corner open it is the model's choice: log entries 5, 27 and 61.
Each of these commands completes here (the conclusion is a next state with its own effect, from conditions on the state and the
operands alone): .feedBreakerTick, .feedFastTrip, .feedBreakerTrip, .feedReverse, .inrushTimeout, .feedOvervolt, .feedUndervolt,
.seatReleased, .stuckBank. -/
def Obligations.FeedsTripAndOpen : Prop :=
  (∀ (mv vb : Nat) (ma : Int) (s : State), s.feedUp = true → s.board.changeover = none → s.feedA.state = .active → s.board.pg = false →
    s.feedA.uvq * 100 ≤ vb → vb + 1000 ≤ s.feedA.ov * 100 → s.feedA.acc = List.replicate 8 0 → ma ≤ (s.feedA.rated * 250 : Nat) →
    s.feedA.fb1 = false → s.cfg.fdaCurve = false → s.board.suspended = false →
    ∃ u, exec (.feedBreakerTick .fda mv ma vb) s = .next u ∧ u.board.pg = true ∧ u.board.pgHold = 20 ∧ u.board.vbusc = vb ∧
      u.feedA.acc = List.replicate 8 0 ∧ u.feedA.mv = mv ∧ u.feedA.ma = ma ∧ u.feedA.state = .active ∧ u.feedB = s.feedB ∧
      u.ports = s.ports) ∧
  (∀ (mv vb : Nat) (ma : Int) (s : State), s.feedUp = true → s.board.changeover = none → s.feedA.state = .active → s.board.pg = true →
    s.board.pgHold ≠ 0 →
    ∃ u, exec (.feedBreakerTick .fda mv ma vb) s = .next u ∧ u.board.pg = true ∧ u.board.pgHold = s.board.pgHold - 1) ∧
  (∀ (mv vb : Nat) (ma : Int) (s : State), s.feedUp = true → s.board.changeover = none → s.feedA.state = .active → s.board.pg = true →
    s.board.pgHold = 0 → 1 ≤ s.board.pgOut → vb < s.feedA.uvt * 100 →
    ∃ u, exec (.feedBreakerTick .fda mv ma vb) s = .next u ∧ u.board.pg = false) ∧
  (∀ (mv vb : Nat) (ma : Int) (s : State), s.feedUp = false → ma * 32 ≤ (s.feedA.use.rated * 250 : Nat) →
    exec (.feedBreakerTick .fda mv ma vb) s = .next s) ∧
  (∀ (mv : Nat) (s : State), s.feedA.state = .active → s.feedB.state = .standby → s.ref.safe = false → s.feedA.use.ftmv < mv →
    ∃ u, exec (.feedFastTrip .fda mv []) s = .next u ∧ u.feedA.state = .opening ∧ u.feedA.gate = false ∧ u.feedA.after = .backoff ∧
      u.feedA.retryCnt = min 255 (s.feedA.retryCnt + 1) ∧ u.feedA.cause = .fast ∧ u.board.pg = false ∧
      u.board.changeover = some (.fdb, .fast) ∧ u.feedB = s.feedB) ∧
  (∀ (mv : Nat) (s : State), mv ≤ s.feedA.use.ftmv → exec (.feedFastTrip .fda mv []) s = .next s) ∧
  (∀ (s : State), s.feedUp = true → s.feedA.state = .active → (accTripped (s.feedCurve .fda) s.feedA.acc).isSome = true →
    ∃ u, exec (.feedBreakerTrip .fda []) s = .next u ∧ u.feedA.state = .opening ∧ u.feedA.gate = false ∧ u.feedA.cause = .breaker ∧
      u.feedA.due = some (s.aon + feedBackoff (min 255 (s.feedA.retryCnt + 1)) * 32768)) ∧
  (∀ (ma : Nat) (s : State), s.feedA.state = .active → s.feedA.use.rated * 250 < ma * 16 →
    ∃ u, exec (.feedReverse .fda ma []) s = .next u ∧ u.feedA.state = .opening ∧ u.feedA.gate = false ∧ u.feedA.cause = .reverse ∧
      u.feedA.after = .backoff) ∧
  (∀ (s : State), s.feedUp = true → s.feedA.state = .inrush →
    ∃ u, exec (.inrushTimeout .fda) s = .next u ∧ u.feedA.state = .opening ∧ u.feedA.gate = false ∧
      u.feedA.cause = .inrushTimeout ∧ u.feedA.after = .backoff) ∧
  (∀ (mv : Nat) (l : List FeedTripping) (s : State), s.feedA.state = .active → s.feedA.use.ov * 100 < mv →
    ∃ u, exec (.feedOvervolt .fda mv l) s = .next u ∧ u.feedA.state = .opening ∧ u.feedA.gate = false ∧ u.feedA.cause = .overvolt ∧
      u.feedA.after = .waitWindow ∧ u.feedA.retryCnt = s.feedA.retryCnt) ∧
  (∀ (mv : Nat) (s : State), s.feedUp = true → s.feedA.state = .active → mv < s.feedA.use.uvt * 100 →
    ∃ u, exec (.feedUndervolt .fda mv []) s = .next u ∧ u.feedA.state = .opening ∧ u.feedA.gate = false ∧
      u.feedA.cause = .undervolt ∧ u.feedA.after = .waitWindow) ∧
  (∀ s : State, s.feedA.state = .active → s.feedB.state = .standby → s.board.changeover = none → s.board.pgHold = 0 →
    ∃ u, exec .seatReleased s = .next u ∧ u.board.seated = false ∧ u.board.pg = false ∧ u.board.changeover = none ∧
      u.feedA.state = .opening ∧ u.feedA.gate = false ∧ u.feedA.cause = .unseated ∧ u.feedB.state ≠ .standby ∧
      u.board.suspended = true) ∧
  (∀ s : State, s.feedUp = true → s.feedA.state = .opening → s.feedA.offOk = false →
    ∃ u, exec (.stuckBank .fda) s = .next u ∧ u.feedA.state = .disabled ∧ u.feedA.cause = .stuckBank ∧
      u.board.changeover = none ∧ u.ref.fault.getLsbD 0x0C = true ∧ u.faultLow = true)

/-- R185, an invariant that every step keeps: at most one feed bank is commanded closed, and only one that conducts or closes.
Where the rules leave a corner open it is the model's choice: log entry 27. -/
def Obligations.OneBankClosed : Prop := ∀ s t : State, s.banksWf = true → step s = .next t → t.banksWf = true

/-! ### Scoreboard (08) -/

/-- R210, R212, R221, R238: at every boundary the counted allocations end within the effective budget; the sum, the effective
budget and the referee's mirror show them.
Where the rules leave a corner open it is the model's choice: log entries 29 and 66.
Each of these commands completes here (the conclusion is a next state with its own effect, from conditions on the state and the
operands alone): .scoreboardBoundary. -/
def Obligations.BoundaryWithinBudget : Prop :=
  ∀ s : State, s.pwr.domUp = true → ∃ u, exec .scoreboardBoundary s = .next u ∧
    u.allocSum ≤ u.board.bEff ∧ u.board.budgetNow ≤ u.board.bEff ∧ u.board.sum = u.allocSum ∧
    u.ref.mirror = u.ports.toList.map (fun q => q.sb.alloc) ∧ u.ref.mirrorBeff = u.board.bEff ∧ u.ref.mirrorDue = true

/-- R211, R229: the budget in force follows the active feed, and a changeover keeps the outgoing feed's; V_FEED is the mean of what the
active feed has measured since the last boundary, held during a changeover and with no feed active. Until the domains are
released, and in DEEP, there is no boundary.
Where the rules leave a corner open it is the model's choice: log entry 29.
Each of these commands completes here (the conclusion is a next state with its own effect, from conditions on the state and the
operands alone): .scoreboardBoundary. -/
def Obligations.BudgetFollowsFeed : Prop :=
  (∀ s : State, s.board.changeover = none → s.feedA.state = .active → s.feedBudget = s.cfg.budget) ∧
  (∀ s : State, s.board.changeover = none → s.feedA.state ≠ .active → s.feedB.state = .active → s.cfg.budgetB ≠ 0 →
    s.feedBudget = s.cfg.budgetB) ∧
  (∀ s : State, s.board.changeover = none → s.feedA.state ≠ .active → s.feedB.state = .active → s.cfg.budgetB = 0 →
    s.feedBudget = s.cfg.budget) ∧
  (∀ s : State, s.board.changeover ≠ none → s.feedBudget = s.board.budgetNow) ∧
  (∀ s : State, s.pwr.domUp = false → exec .scoreboardBoundary s = .next s) ∧
  (∀ s : State, s.pwr.domUp = true → ∃ u, exec .scoreboardBoundary s = .next u ∧ u.board.budgetNow = s.feedBudget ∧
    u.board.vFeed = (if s.board.changeover ≠ none ∨ s.activeFeed = none ∨ s.board.vN = 0 then s.board.vFeed
      else s.board.vSum / s.board.vN) ∧ u.board.vN = 0)

/-- R222–R224, R226, R228, R233–R237: the timed steps of the scoreboard. A hard limit is ILIM = 1.1 × allocation / V, rounded down
to 5 mA.
Where the rules leave a corner open it is the model's choice: log entries 6, 29 and 66.
Each of these commands completes here (the conclusion is a next state with its own effect, from conditions on the state and the
operands alone): .graceExpiry, .newcomerGraceExpiry, .decreaseSampleConfirm, .usageCapRelease, .vconnChargeSettle,
.vconnBudgetExcess, .emergencyShedStart, .emergencyShedStage, .emergencyShedEnd. -/
def Obligations.ScoreboardTimedSteps : Prop :=
  (∀ (p : Fin 192) (d : Nat) (s : State), (s.port p).sb.decided = some d → (s.port p).sb.confirmed = false →
    (s.port p).sb.floorLim = false → (s.port p).sb.step < 3 → (s.port p).pol.kind = .none →
    ∃ u, exec (.graceExpiry p) s = .next u ∧ (u.port p).sb.step = 3 ∧ (u.port p).path.hardLimit = some (d * 275000 / 5000 / 5 * 5) ∧
      (u.port p).sb.alloc = (s.port p).sb.alloc ∧ (u.port p).sb.decided = some d) ∧
  (∀ (p : Fin 192) (s : State), (s.port p).sb.decided = some s.board.reserve → (s.port p).sb.confirmed = false →
    (s.port p).sb.floorLim = false → (s.port p).sb.step < 3 → (s.port p).pol.kind ≠ .none →
    ∃ u, exec (.graceExpiry p) s = .next u ∧ (u.port p).sb.step = 4 ∧ (u.port p).pol.state = .hardReset ∧
      (u.port p).pol.kind = .none ∧ (u.port p).pol.hardResets = (s.port p).pol.hardResets) ∧
  (∀ (p : Fin 192) (s : State), (s.port p).sb.state = .unfunded → (s.port p).pol.state = .startup → (s.port p).pol.kind = .none →
    ∃ u, exec (.newcomerGraceExpiry p) s = .next u ∧
      (u.port p).path.hardLimit = some (s.board.reserve * 275000 / 5000 / 5 * 5) ∧ (u.port p).sb = (s.port p).sb) ∧
  (∀ (p : Fin 192) (s : State), (s.port p).sb.state ≠ .unfunded ∨ (s.port p).pol.state ≠ .startup → exec (.newcomerGraceExpiry p) s = .next s) ∧
  (∀ (p : Fin 192) (s : State), (s.port p).sb.decided ≠ none → (s.port p).pol.state = .typecOnly → (s.port p).sb.rpWait = false →
    8 ≤ (s.port p).sb.loRun →
    exec (.decreaseSampleConfirm p) s = .next (s.modSb p fun b => { b with confirmed := true })) ∧
  (∀ (p : Fin 192) (s : State), ((s.port p).sb.loRun < 8 ∨ (s.port p).sb.rpWait = true) → exec (.decreaseSampleConfirm p) s = .next s) ∧
  (∀ (p : Fin 192) (s : State), 100 ≤ (s.port p).sb.hiRun →
    ∃ u, exec (.usageCapRelease p) s = .next u ∧ (u.port p).sb.usage = false ∧ (u.port p).sb.alloc = (s.port p).sb.alloc ∧
      (u.port p).path = (s.port p).path ∧ u.link = s.link) ∧
  (∀ (p : Fin 192) (s : State), (s.port p).path.vconn ≠ 0 →
    ∃ u, exec (.vconnChargeSettle p) s = .next u ∧ vcCharge (u.port p).path = max 1 ((3 * (s.port p).path.vcPeak + 49) / 50) ∧
      (u.port p).path.vconn = (s.port p).path.vconn ∧ (∀ q : Fin 192, q ≠ p → u.port q = s.port q) ∧ u.link = s.link) ∧
  (∀ (t : Fin 8) (s : State), s.tileCharge t ≤ s.board.vcBudget * 2 → exec (.vconnBudgetExcess t) s = .next s) ∧
  (∀ (t : Fin 8) (p : Fin 192) (l : List PortId) (s : State), s.board.vcBudget * 2 < s.tileCharge t → s.vcCandidates t = p :: l →
    ∃ u, exec (.vconnBudgetExcess t) s = .next u ∧ (u.port p).sb.vcForced = true) ∧
  (∀ s : State, s.board.emerg = 0 → 20 ≤ s.board.feedHi → ∃ u, exec .emergencyShedStart s = .next u ∧ u.board.emerg = 1) ∧
  (∀ s : State, s.board.feedHi < 20 → exec .emergencyShedStart s = .next s ∧ exec .emergencyShedStage s = .next s) ∧
  (∀ s : State, s.board.emerg ≠ 0 → s.board.emerg < 7 → 20 ≤ s.board.feedHi →
    ∃ u, exec .emergencyShedStage s = .next u ∧ u.board.emerg = s.board.emerg + 1) ∧
  (∀ s : State, s.board.emerg ≠ 0 → 1000 ≤ s.board.feedLo →
    ∃ u, exec .emergencyShedEnd s = .next u ∧ u.board.emerg = 0 ∧ u.board.admitNext = s.board.admitNext + 1 ∧
      (∀ p : Fin 192, (u.port p).path = (s.port p).path ∧ (u.port p).sb.alloc = (s.port p).sb.alloc))

/-! ### Measurement (09) -/

/-- R243, R245–R254: samples, formed from the codes of a millisecond by the coefficients of the lane that carries the port, telemetry,
captures, converter faults and snapshots.
Where the rules leave a corner open it is the model's choice: log entries 5, 32 and 65.
Each of these commands completes here (the conclusion is a next state with its own effect, from conditions on the state and the
operands alone): .measSample, .telemetryRecord, .tlmDecimationHalve, .captureTrigger, .captureReadingsDone, .adcFault,
.snapshotWritten. -/
def Obligations.SamplesCapturesSnapshots : Prop :=
  (∀ (p : Fin 192) (codes : List (Nat × Nat)) (vc : Nat) (s : State), codes ≠ [] → s.portFenced p = false →
    ∃ u, exec (.measSample p codes vc) s = .next u ∧ (u.port p).smp =
        { (s.port p).smp with mv := min (s.sampleOf p codes).1 0xFFFF, ma := satInt 16 (s.sampleOf p codes).2.1 } ∧
      (u.port p).sb.alloc = (s.port p).sb.alloc ∧ (u.port p).cc = (s.port p).cc ∧ (u.port p).pol = (s.port p).pol ∧
      (∀ q : Fin 192, q ≠ p → u.port q = s.port q) ∧ u.link = s.link ∧ u.cores = s.cores) ∧
  (∀ (p : Fin 192) (codes : List (Nat × Nat)) (vc : Nat) (s : State), codes ≠ [] → s.portFenced p = false →
    ∃ u, exec (.measSample p codes vc) s = .next u ∧
      (u.port p).sb.cycPeak = max (s.port p).sb.cycPeak (s.sampleOf p codes).2.2.toNat ∧
      (u.port p).sb.cycI = (s.port p).sb.cycI ++ [(s.sampleOf p codes).2.1] ∧
      (u.port p).sb.hiRun = (if ((s.port p).sb.alloc * 250 * 95 : Nat) ≤ (s.sampleOf p codes).2.2 * 100
        then (s.port p).sb.hiRun + 1 else 0)) ∧
  (∀ (p : Fin 192) (codes : List (Nat × Nat)) (vc : Nat) (s : State), codes ≠ [] → s.portFenced p = true →
    exec (.measSample p codes vc) s = .next (s.modPath p fun q => if q.vconn == 0 then q else { q with vcPeak := vc })) ∧
  (∀ (p : Fin 192) (vc : Nat) (s : State), exec (.measSample p [] vc) s = .next s) ∧
  (∀ (p : Fin 192) (k : Coef) (i v : Nat) (s : State), s.laneHolds p = true → (s.tile (tileOf p)).subCoef = some k →
    s.readPair p (i, v) = (k.gi * ((i : Int) - k.zi : Int) * (1 / (16 * (5 / 1000))),
      k.gv * ((v : Int) - k.zv : Int) * Config.dividerRatio (192 + (tileOf p).val))) ∧
  (∀ (p : Fin 192) (k : Coef) (i v : Nat) (s : State), (s.tile (tileOf p)).laneOn = false → (s.port p).smp.coef = some k →
    s.readPair p (i, v) = (k.gi * ((i : Int) - k.zi : Int) * (1 / (16 * (5 / 1000))), k.gv * ((v : Int) - k.zv : Int) * Config.dividerRatio p.val)) ∧
  (∀ (p : Fin 192) (lanes : BitVec 16) (pk : Int) (time : Nat) (l : List (Nat × Int)) (s : State), l.length = 16 →
    (s.port p).smp.tlmRate ≠ 0 → s.portFenced p = false → (s.port p).smp.tlmRing = 0 → (s.ring 5).enable = true →
    (s.ring 5).room = true → s.link.tlmBuf = [] → (s.port p).smp.tlmNext = none → (s.ring 5).irqCount = 2 → (s.ring 5).unsig = 0 →
    ∃ u, exec (.telemetryRecord p lanes pk time l) s = .next u ∧
      (u.ring 5).out = (s.ring 5).out ++ [((s.ring 5).phase, .tlm ⟨p, (s.port p).smp.tlmGap, s.link.decim, (s.port p).smp.tlmRate,
        s.laneFlags p lanes, satInt 16 (pk / 5), time, l.map fun e => (min 4095 (e.1 / 20), satInt 12 (e.2 / 5))⟩)] ∧
      (u.ring 5).devIdx = (s.ring 5).devIdx + 1#16 ∧ (u.port p).smp.tlmGap = false ∧ (u.port p).path = (s.port p).path) ∧
  (∀ (p : Fin 192) (lanes : BitVec 16) (pk : Int) (time r g : Nat) (l : List (Nat × Int)) (s : State), l.length = 16 →
    (s.port p).smp.tlmRate ≠ 0 → s.portFenced p = false → (s.port p).smp.tlmNext = some (r, g) →
    (∀ w ∈ s.link.waiting, w.what = .tlm → w.also = []) →
    ∃ u, exec (.telemetryRecord p lanes pk time l) s = .next u ∧ (u.port p).smp.tlmRate = r ∧ (u.port p).smp.tlmRing = g ∧
      (u.port p).smp.tlmNext = none ∧ (∀ w ∈ u.link.waiting, w.port = some p → w.what ≠ .tlm)) ∧
  (∀ s : State, s.link.tlmBuf.length * 4 < 32768 →
    exec .tlmDecimationHalve s = .next (s.modLink fun l => { l with decim := l.decim - 1 })) ∧
  (∀ s : State, 32768 ≤ s.link.tlmBuf.length * 4 → exec .tlmDecimationHalve s = .next s) ∧
  (∀ (t : Fin 8) (c : Capture) (mv : Nat) (ma : Int) (s : State), (s.tile t).cap = some c → c.phase = .armed →
    (c.trigger = .vbAbove ∧ c.thresh * 20 < mv ∨ c.trigger = .vbBelow ∧ mv < c.thresh * 20 ∨
      c.trigger = .ibAbove ∧ (c.thresh * 5 : Nat) < ma) →
    exec (.captureTrigger t mv ma) s = .next (s.modTile t fun q => { q with cap := some { c with phase := .running } })) ∧
  (∀ (t : Fin 8) (c : Capture) (r : List Int) (held time : Nat) (g : List Nat) (s : State), (s.tile t).cap = some c →
    c.phase = .running → r.length = 2 ^ (c.len + 10) → c.gapsFit g = true → (s.ring 13).enable = false →
    ∃ u, exec (.captureReadingsDone t r held g time) s = .next u ∧
      (u.tile t).cap = some { c with phase := .writing, left := captureRecs c r (c.trigAt held) g time } ∧ u.ports = s.ports ∧ u.link = s.link) ∧
  (∀ (t : Fin 8) (b : Bool) (l : List (Nat × Bool × Nat)) (s : State), (s.tile t).adcFaultA = false → (s.tile t).adcFaultB = false →
    l.length = 16 → (∀ f ∈ l, adcOff t b f = true) →
    ∃ u, exec (.adcFault t b l) s = .next u ∧ (u.tile t).adcFaultA = (!b) ∧ (u.tile t).adcFaultB = b ∧
      u.ref.fault.getLsbD 0x10 = true ∧ u.ports = s.ports) ∧
  (∀ (t : Fin 8) (b : Bool) (l : List (Nat × Bool × Nat)) (s : State), l.length ≠ 16 → exec (.adcFault t b l) s = .next s) ∧
  (∀ (vals : List (Nat × Int)) (s : State), s.meas.snapBusy = true →
    ∃ u, exec (.snapshotWritten vals) s = .next u ∧ u.meas.snapBusy = false ∧ u.meas.snapSeq = s.meas.snapSeq + 1#16 ∧
      u.meas.snapTime = s.meas.latchTime ∧ u.meas.snapMissing = (s.meas.latchMissing ||| s.fencedTiles) ∧
      (∀ (p : Fin 192) (mv : Nat) (ma : Int), (s.meas.latchMissing ||| s.fencedTiles).getLsbD (p.val / 24) = false →
        vals[p.val]? = some (mv, ma) → mv ≤ 65535 → -16384 ≤ ma → ma ≤ 16383 →
        (u.port p).smp.snapMv = mv ∧ (u.port p).smp.snapMa = ma ∧ (u.port p).smp.snapLane = s.meas.latchLanes.getLsbD p.val) ∧
      (∀ p : Fin 192, (s.meas.latchMissing ||| s.fencedTiles).getLsbD (p.val / 24) = true → u.port p = s.port p))

/-- R255–R265: the substitute lane's slot in its rotation, calibration of a main lane and of the lane itself, drift, threshold
read-back against the nominal values, and the tile temperature.
Where the rules leave a corner open it is the model's choice: log entries 5, 30, 31 and 65.
Each of these commands completes here (the conclusion is a next state with its own effect, from conditions on the state and the
operands alone): .sublaneSlotStart, .quietTest, .calReconnect, .verifyHandback, .sublaneSelfCal, .calPendingSkip, .dacReadback,
.ntcMean, .ntcFaultFlag, .ntcFaultClear. -/
def Obligations.SubstituteLaneSlot : Prop :=
  (∀ (t : Fin 8) (l : Fin 24) (s : State), (s.tile t).subFault = false → l.val = (s.tile t).slotNext →
    (s.tile t).laneFree = true →
    ∃ u, exec (.sublaneSlotStart t l) s = .next u ∧ (u.tile t).slot = l.val ∧ (u.tile t).slotNext = (l.val + 1) % 24 ∧ (u.tile t).lanePort = l.val ∧
      (u.tile t).phase = .compare ∧ (u.tile t).laneOn = false ∧ (u.tile t).drift = none ∧
      ((s.tile t).drift = none → u.link = s.link)) ∧
  (∀ (t : Fin 8) (dv di : Int) (mv : Nat) (ma : Int) (s : State), (s.tile t).subFault = false → (s.tile t).phase = .compare →
    (s.tile t).laneOn = false → (s.port (lanePortOf t (s.tile t).slot)).smp.limited = false →
    dv.natAbs ≤ 50 → di.natAbs ≤ 50 → (s.port (lanePortOf t (s.tile t).slot)).quiet false = true →
    ∃ u, exec (.quietTest t dv di mv ma 0#24) s = .next u ∧ (u.tile t).drift = none ∧ (u.tile t).laneOn = true ∧
      (u.tile t).phase = .cal ∧ (u.tile t).lanePort = (s.tile t).slot ∧
      (u.port (lanePortOf t (s.tile t).slot)).smp.dv = dv ∧ (u.port (lanePortOf t (s.tile t).slot)).smp.di = di) ∧
  (∀ (t : Fin 8) (dv di : Int) (mv : Nat) (ma : Int) (fr : BitVec 24) (s : State), (s.tile t).subFault = false →
    (s.tile t).phase = .compare → (s.tile t).laneOn = false → (s.port (lanePortOf t (s.tile t).slot)).smp.limited = false →
    50 < dv.natAbs → mv * 10 < dv.natAbs * 1000 →
    ∃ u, exec (.quietTest t dv di mv ma fr) s = .next u ∧ (u.tile t).drift = some .vbus ∧ (u.tile t).slotDv = dv) ∧
  (∀ (t : Fin 8) (vz vl vh iz il ih : Nat) (gv gi : Rat) (s : State), (s.tile t).phase = .cal → (s.tile t).laneOn = true →
    calGain refV vz vl vh = some gv → calGain refI iz il ih = some gi →
    ∃ u, exec (.calReconnect t vz vl vh iz il ih) s = .next u ∧ (u.tile t).phase = .verify ∧
      (u.port (lanePortOf t (s.tile t).lanePort)).smp.coef = some ⟨gv, vz, gi, iz⟩ ∧ (u.tile t).calFail = false ∧ u.link = s.link) ∧
  (∀ (t : Fin 8) (l : Fin 24) (s : State), l.val ≠ (s.tile t).slotNext ∨ (s.tile t).laneFree = false →
    exec (.sublaneSlotStart t l) s = .next s) ∧
  (∀ (t : Fin 8) (vz vl vh iz il ih : Nat) (c : Coef) (s : State), (s.tile t).phase = .cal → (s.tile t).laneOn = true →
    calGain refV vz vl vh = none → calGain refI iz il ih = none → (s.port (lanePortOf t (s.tile t).lanePort)).smp.coef = some c →
    ∃ u, exec (.calReconnect t vz vl vh iz il ih) s = .next u ∧ (u.tile t).phase = .verify ∧ (u.tile t).calFail = true ∧
      (u.port (lanePortOf t (s.tile t).lanePort)).smp.coef = some c) ∧
  (∀ (t : Fin 8) (vz vl vh iz il ih : Nat) (c : Coef) (gv : Rat) (s : State), (s.tile t).phase = .cal → (s.tile t).laneOn = true →
    calGain refV vz vl vh = some gv → calGain refI iz il ih = none → (s.port (lanePortOf t (s.tile t).lanePort)).smp.coef = some c →
    ∃ u, exec (.calReconnect t vz vl vh iz il ih) s = .next u ∧ (u.tile t).phase = .verify ∧ (u.tile t).calFail = true ∧
      (u.port (lanePortOf t (s.tile t).lanePort)).smp.coef = some { c with gv := gv, zv := vz }) ∧
  (∀ (t : Fin 8) (dv di : Int) (mv : Nat) (ma : Int) (s : State), (s.tile t).phase = .verify → (s.tile t).calFail = false →
    dv.natAbs ≤ 25 → di.natAbs ≤ 25 → (s.port (lanePortOf t (s.tile t).lanePort)).smp.limited = false →
    ∃ u, exec (.verifyHandback t dv di mv ma) s = .next u ∧ (u.tile t).calOk = true ∧ (u.tile t).laneOn = false ∧
      (u.port (lanePortOf t (s.tile t).lanePort)).smp.calPend = false ∧
      (u.port (lanePortOf t (s.tile t).lanePort)).smp.verified = some s.aon ∧
      (u.port (lanePortOf t (s.tile t).lanePort)).smp.coef = (s.port (lanePortOf t (s.tile t).lanePort)).smp.coef) ∧
  (∀ (t : Fin 8) (dv di : Int) (mv : Nat) (ma : Int) (s : State), (s.tile t).phase = .verify → (s.tile t).calFail = false →
    25 < dv.natAbs → mv * 5 < dv.natAbs * 1000 →
    ∃ u, exec (.verifyHandback t dv di mv ma) s = .next u ∧ (u.tile t).calOk = (s.tile t).calOk ∧ (u.tile t).laneOn = false ∧
      (u.port (lanePortOf t (s.tile t).lanePort)).smp.coef = (s.port (lanePortOf t (s.tile t).lanePort)).smp.coefOld) ∧
  (∀ (t : Fin 8) (vz vl vh iz il ih : Nat) (gv gi : Rat) (s : State), (s.tile t).drift = none → (s.tile t).laneFree = true →
    calGain refV vz vl vh = some gv → calGain refI iz il ih = some gi →
    exec (.sublaneSelfCal t vz vl vh iz il ih) s = .next (s.modTile t fun q =>
      { q with phase := .self, subCoef := some ⟨gv, vz, gi, iz⟩, subFails := 0, subFault := false })) ∧
  (∀ (t : Fin 8) (vz vl vh iz il ih : Nat) (s : State), (s.tile t).drift = none → (s.tile t).subFault = false → (s.tile t).subFails = 1 →
    (calGain refV vz vl vh = none ∨ calGain refI iz il ih = none) →
    ∃ u, exec (.sublaneSelfCal t vz vl vh iz il ih) s = .next u ∧ (u.tile t).subFault = true ∧ (u.tile t).slotNext = 0 ∧
      (u.tile t).laneOn = false ∧ u.ref.fault.getLsbD 0x0F = true ∧ (∀ l : Fin 24, (u.port (portAt t l)).smp.limited = true)) ∧
  (∀ (p : Fin 192) (s : State), (s.port p).smp.calPend = true → secCycles 1 ≤ s.aon - (s.port p).smp.pendAt →
    ∃ u, exec (.calPendingSkip p) s = .next u ∧ (u.port p).smp = { (s.port p).smp with calPend := false } ∧
      (u.tile (tileOf p)).skip = (if s.portFenced p = true then (s.tile (tileOf p)).skip else (s.tile (tileOf p)).skip.inc32) ∧ u.link = s.link) ∧
  (∀ (p : Fin 192) (s : State), s.aon - (s.port p).smp.pendAt < secCycles 1 → exec (.calPendingSkip p) s = .next s) ∧
  (∀ (p : Fin 192) (d : Fin 12) (v : Nat) (s : State), exec (.dacReadback p d v true) s = .next s) ∧
  (∀ (p : Fin 192) (d : Fin 12) (v n tol : Nat) (s : State), (s.port p).smp.dacTest = false → s.dacNominal p d.val = some (n, tol) →
    n ≤ v + tol → v ≤ n + tol →
    exec (.dacReadback p d v false) s = .next (s.modPort p fun q => { q with smp :=
      { q.smp with dacPass := setBit q.smp.dacPass d.val true, dacFails := q.smp.dacFails.filter (fun e => e.1 != d.val) } })) ∧
  (∀ (p : Fin 192) (d : Fin 12) (v : Nat) (s : State), 6 ≤ d.val → s.dacGood p d.val v = false →
    (s.port p).smp.dacFails.find? (fun e => e.1 == d.val) = some (d.val, 1) → (s.port p).retry.lock ≠ .dacFault →
    ∃ u, exec (.dacReadback p d v false) s = .next u ∧ (u.port p).cc.state = .lockedOut ∧ (u.port p).cc.rp = .off ∧
      (u.port p).retry.lock = .dacFault ∧ (u.port p).path.gate = false ∧ u.ref.fault.getLsbD 0x0E = true) ∧
  (∀ (p : Fin 192) (d : Fin 12) (v : Nat) (s : State), s.dacGood p d.val v = false →
    (s.port p).smp.dacFails.find? (fun e => e.1 == d.val) = none →
    ∃ u, exec (.dacReadback p d v false) s = .next u ∧
      (d.val, 1) ∈ (u.port p).smp.dacFails ∧ (u.port p).retry = (s.port p).retry ∧ (u.port p).path = (s.port p).path) ∧
  (∀ (t : Fin 8) (r vt : Nat) (x : Int) (s : State), s.tileFenced t = false → vt ≤ 65535 → ntcTemp r s.meas.ntcR25 s.meas.ntcB = some x → -880 ≤ x → x ≤ 2400 →
    exec (.ntcMean t r vt) s = .next (s.modTile t fun q =>
      { q with ntc16 := x, ntcOut := false, ntcRun := if q.ntcOut then 1 else q.ntcRun + 1, vt := vt })) ∧
  (∀ (t : Fin 8) (r vt : Nat) (s : State), s.tileFenced t = true → exec (.ntcMean t r vt) s = .next s) ∧
  (∀ (t : Fin 8) (s : State), (s.tile t).ntcOut = true → (s.tile t).ntcFault = false → s.tileFenced t = false → 100 ≤ (s.tile t).ntcRun →
    ∃ u, exec (.ntcFaultFlag t) s = .next u ∧ (u.tile t).ntcFault = true ∧ u.ports = s.ports) ∧
  (∀ (t : Fin 8) (s : State), (s.tile t).ntcFault = true → (s.tile t).ntcOut = false → s.tileFenced t = false → 1000 ≤ (s.tile t).ntcRun →
    ∃ u, exec (.ntcFaultClear t) s = .next u ∧ (u.tile t).ntcFault = false ∧ u.ports = s.ports)

/-! ### Miloir moves (10) -/

/-- R273, R275–R279, R285: each ALU trigger leaves its result in ALU.R and its flags in ALU.F, counts one move and goes on to the next
move; nothing else changes. Flags are V, C, N, Z in bits 3 to 0: of a sum the carry out and of a difference the borrow in C.
Where the rules leave a corner open it is the model's choice: log entry 38.
Each of these commands completes here (the conclusion is a next state with its own effect, from conditions on the state and the
operands alone): .aluAddT, .aluSubT, .aluAndT, .aluOrT, .aluXorT, .aluShlT, .aluShrT, .aluSarT, .aluEqT, .aluLtuT, .aluLtsT,
.aluMinuT, .aluMaxuT, .aluPassT. -/
def Obligations.AluMoves : Prop :=
  ∀ (k : Fin 4) (w b A : BitVec 32) (s s1 : State), (s1.coreAt k).aluA = A →
    (s.nextMove k 0x010 w b s1 → exec (.aluAddT k) s =
      .next ((s1.modCore k fun c => { c with aluR := A + b, aluF := addFlags A b }).movedOn k w (s1.coreAt k).pc 1)) ∧
    (s.nextMove k 0x011 w b s1 → exec (.aluSubT k) s =
      .next ((s1.modCore k fun c => { c with aluR := A - b, aluF := subFlags A b }).movedOn k w (s1.coreAt k).pc 1)) ∧
    (s.nextMove k 0x012 w b s1 → exec (.aluAndT k) s =
      .next ((s1.modCore k fun c => { c with aluR := A &&& b, aluF := logicFlags (A &&& b) }).movedOn k w (s1.coreAt k).pc 1)) ∧
    (s.nextMove k 0x013 w b s1 → exec (.aluOrT k) s =
      .next ((s1.modCore k fun c => { c with aluR := A ||| b, aluF := logicFlags (A ||| b) }).movedOn k w (s1.coreAt k).pc 1)) ∧
    (s.nextMove k 0x014 w b s1 → exec (.aluXorT k) s =
      .next ((s1.modCore k fun c => { c with aluR := A ^^^ b, aluF := logicFlags (A ^^^ b) }).movedOn k w (s1.coreAt k).pc 1)) ∧
    (s.nextMove k 0x015 w b s1 → exec (.aluShlT k) s =
      .next ((s1.modCore k fun c => { c with aluR := A <<< (b.toNat % 32), aluF := logicFlags (A <<< (b.toNat % 32)) }).movedOn k w (s1.coreAt k).pc 1)) ∧
    (s.nextMove k 0x016 w b s1 → exec (.aluShrT k) s =
      .next ((s1.modCore k fun c => { c with aluR := A >>> (b.toNat % 32), aluF := logicFlags (A >>> (b.toNat % 32)) }).movedOn k w (s1.coreAt k).pc 1)) ∧
    (s.nextMove k 0x017 w b s1 → exec (.aluSarT k) s =
      .next ((s1.modCore k fun c => { c with aluR := A.sshiftRight (b.toNat % 32), aluF := logicFlags (A.sshiftRight (b.toNat % 32)) }).movedOn k w (s1.coreAt k).pc 1)) ∧
    (s.nextMove k 0x018 w b s1 → exec (.aluEqT k) s =
      .next ((s1.modCore k fun c => { c with aluR := (if A = b then 1#32 else 0#32), aluF := subFlags A b }).movedOn k w (s1.coreAt k).pc 1)) ∧
    (s.nextMove k 0x019 w b s1 → exec (.aluLtuT k) s =
      .next ((s1.modCore k fun c => { c with aluR := (if A.toNat < b.toNat then 1#32 else 0#32), aluF := subFlags A b }).movedOn k w (s1.coreAt k).pc 1)) ∧
    (s.nextMove k 0x01A w b s1 → exec (.aluLtsT k) s =
      .next ((s1.modCore k fun c => { c with aluR := (if A.toInt < b.toInt then 1#32 else 0#32), aluF := subFlags A b }).movedOn k w (s1.coreAt k).pc 1)) ∧
    (s.nextMove k 0x01B w b s1 → exec (.aluMinuT k) s =
      .next ((s1.modCore k fun c => { c with aluR := (if A.toNat < b.toNat then A else b), aluF := subFlags A b }).movedOn k w (s1.coreAt k).pc 1)) ∧
    (s.nextMove k 0x01C w b s1 → exec (.aluMaxuT k) s =
      .next ((s1.modCore k fun c => { c with aluR := (if A.toNat < b.toNat then b else A), aluF := subFlags A b }).movedOn k w (s1.coreAt k).pc 1)) ∧
    (s.nextMove k 0x01D w b s1 → exec (.aluPassT k) s =
      .next ((s1.modCore k fun c => { c with aluR := b, aluF := logicFlags b }).movedOn k w (s1.coreAt k).pc 1))

/-- R285: the flags of a sum and of a difference, bit by bit. -/
def Obligations.AluFlags : Prop :=
  ∀ a b : Word,
    ((addFlags a b).getLsbD 0 = true ↔ a + b = 0#32) ∧ (addFlags a b).getLsbD 1 = (a + b).msb ∧
    ((addFlags a b).getLsbD 2 = true ↔ 2 ^ 32 ≤ a.toNat + b.toNat) ∧
    ((addFlags a b).getLsbD 3 = true ↔ (a + b).toInt ≠ a.toInt + b.toInt) ∧
    ((subFlags a b).getLsbD 0 = true ↔ a = b) ∧ (subFlags a b).getLsbD 1 = (a - b).msb ∧
    ((subFlags a b).getLsbD 2 = true ↔ a.toNat < b.toNat) ∧
    ((subFlags a b).getLsbD 3 = true ↔ (a - b).toInt ≠ a.toInt - b.toInt) ∧
    ((logicFlags a).getLsbD 0 = true ↔ a = 0#32) ∧ (logicFlags a).getLsbD 1 = a.msb ∧
    (logicFlags a).getLsbD 2 = false ∧ (logicFlags a).getLsbD 3 = false

/-- R273, R276, R283, R286, R287, R290, R307: the multiplier and the loads and stores of the segments other than S6.
Where the rules leave a corner open it is the model's choice: log entry 38.
Each of these commands completes here (the conclusion is a next state with its own effect, from conditions on the state and the
operands alone): .mulMuluT, .mulMulsT, .mulDivuT, .mulDivsT, .lsuLd32T, .lsuLd16T, .lsuLd16sT, .lsuLd8T, .lsuLd8sT, .lsuSt32T,
.lsuSt16T, .lsuSt8T, .lsuAaddT. -/
def Obligations.MulAndLsuMoves : Prop :=
  ∀ (k : Fin 4) (w b : BitVec 32) (s s1 : State),
    (s.nextMove k 0x110 w b s1 → exec (.mulMuluT k) s = .next ((s1.modCore k fun c => { c with
      mulLo := BitVec.ofNat 32 (c.mulA.toNat * b.toNat), mulHi := BitVec.ofNat 32 (c.mulA.toNat * b.toNat / 2 ^ 32) }).movedOn k w (s1.coreAt k).pc 1)) ∧
    (s.nextMove k 0x111 w b s1 → exec (.mulMulsT k) s = .next ((s1.modCore k fun c => { c with
      mulLo := BitVec.ofInt 32 (c.mulA.toInt * b.toInt), mulHi := BitVec.ofInt 32 (c.mulA.toInt * b.toInt / 2 ^ 32) }).movedOn k w (s1.coreAt k).pc 1)) ∧
    (s.nextMove k 0x112 w b s1 → b ≠ 0#32 → exec (.mulDivuT k) s = .next ((s1.modCore k fun c => { c with
      mulLo := BitVec.ofNat 32 (c.mulA.toNat / b.toNat), mulHi := BitVec.ofNat 32 (c.mulA.toNat % b.toNat) }).movedOn k w (s1.coreAt k).pc 34)) ∧
    (s.nextMove k 0x112 w 0#32 s1 → exec (.mulDivuT k) s = .next ((s1.modCore k fun c => { c with
      mulLo := 0xFFFFFFFF#32, mulHi := c.mulA }).movedOn k w (s1.coreAt k).pc 34)) ∧
    (s.nextMove k 0x113 w b s1 → b ≠ 0#32 → exec (.mulDivsT k) s = .next ((s1.modCore k fun c => { c with
      mulLo := BitVec.ofInt 32 (Int.tdiv c.mulA.toInt b.toInt), mulHi := BitVec.ofInt 32 (Int.tmod c.mulA.toInt b.toInt) }).movedOn k w
        (s1.coreAt k).pc 34)) ∧
    (s.nextMove k 0x113 w 0#32 s1 → exec (.mulDivsT k) s = .next ((s1.modCore k fun c => { c with
      mulLo := 0xFFFFFFFF#32, mulHi := c.mulA }).movedOn k w (s1.coreAt k).pc 34)) ∧
    (∀ cy : Nat, s.nextMove k 0x210 w b s1 → segCycles (s1.coreAt k).seg cy → s1.accessOk k b.toNat 4 false false →
      exec (.lsuLd32T k) s = .next (((s1.fixedAt k b.toNat 4).modCore k fun c => { c with lsuR := BitVec.ofNat 32 (valLE (s1.segBytes k b.toNat 4)) }).movedOn k w (s1.coreAt k).pc cy)) ∧
    (∀ cy : Nat, s.nextMove k 0x211 w b s1 → segCycles (s1.coreAt k).seg cy → s1.accessOk k b.toNat 2 false false →
      exec (.lsuLd16T k) s = .next (((s1.fixedAt k b.toNat 2).modCore k fun c => { c with lsuR := BitVec.ofNat 32 (valLE (s1.segBytes k b.toNat 2)) }).movedOn k w (s1.coreAt k).pc cy)) ∧
    (∀ cy : Nat, s.nextMove k 0x212 w b s1 → segCycles (s1.coreAt k).seg cy → s1.accessOk k b.toNat 2 false false →
      exec (.lsuLd16sT k) s = .next (((s1.fixedAt k b.toNat 2).modCore k fun c => { c with lsuR := (BitVec.ofNat 16 (valLE (s1.segBytes k b.toNat 2))).signExtend 32 }).movedOn k w (s1.coreAt k).pc cy)) ∧
    (∀ cy : Nat, s.nextMove k 0x213 w b s1 → segCycles (s1.coreAt k).seg cy → s1.accessOk k b.toNat 1 false false →
      exec (.lsuLd8T k) s = .next (((s1.fixedAt k b.toNat 1).modCore k fun c => { c with lsuR := BitVec.ofNat 32 (valLE (s1.segBytes k b.toNat 1)) }).movedOn k w (s1.coreAt k).pc cy)) ∧
    (∀ cy : Nat, s.nextMove k 0x214 w b s1 → segCycles (s1.coreAt k).seg cy → s1.accessOk k b.toNat 1 false false →
      exec (.lsuLd8sT k) s = .next (((s1.fixedAt k b.toNat 1).modCore k fun c => { c with lsuR := (BitVec.ofNat 8 (valLE (s1.segBytes k b.toNat 1))).signExtend 32 }).movedOn k w (s1.coreAt k).pc cy)) ∧
    (∀ cy : Nat, s.nextMove k 0x218 w b s1 → segCycles (s1.coreAt k).seg cy → s1.accessOk k b.toNat 4 true false →
      ∃ u, exec (.lsuSt32T k) s = .next u ∧ u.coreAt k = { s1.coreAt k with
          moves := (s1.coreAt k).moves + cy, lastPc := (s1.coreAt k).pc, lastWord := w, pc := (s1.coreAt k).pc + 4 } ∧
        u.cores = (s1.memWrites (s1.seg k (s1.coreAt k).seg).mem ((s1.seg k (s1.coreAt k).seg).base + b.toNat)
          (bytesLE 4 (s1.coreAt k).lsuD.toNat)).cores ∧ u.link = s1.link ∧ u.upd = s1.upd ∧
        (∀ q : Fin 192, (u.port q).path = (s1.port q).path ∧ (u.port q).pol = (s1.port q).pol)) ∧
    (∀ cy : Nat, s.nextMove k 0x219 w b s1 → segCycles (s1.coreAt k).seg cy → s1.accessOk k b.toNat 2 true false →
      ∃ u, exec (.lsuSt16T k) s = .next u ∧ u.coreAt k = { s1.coreAt k with
          moves := (s1.coreAt k).moves + cy, lastPc := (s1.coreAt k).pc, lastWord := w, pc := (s1.coreAt k).pc + 4 } ∧
        u.cores = (s1.memWrites (s1.seg k (s1.coreAt k).seg).mem ((s1.seg k (s1.coreAt k).seg).base + b.toNat)
          (bytesLE 2 (s1.coreAt k).lsuD.toNat)).cores ∧ u.link = s1.link ∧ u.upd = s1.upd ∧
        (∀ q : Fin 192, (u.port q).path = (s1.port q).path ∧ (u.port q).pol = (s1.port q).pol)) ∧
    (∀ cy : Nat, s.nextMove k 0x21A w b s1 → segCycles (s1.coreAt k).seg cy → s1.accessOk k b.toNat 1 true false →
      ∃ u, exec (.lsuSt8T k) s = .next u ∧ u.coreAt k = { s1.coreAt k with
          moves := (s1.coreAt k).moves + cy, lastPc := (s1.coreAt k).pc, lastWord := w, pc := (s1.coreAt k).pc + 4 } ∧
        u.cores = (s1.memWrites (s1.seg k (s1.coreAt k).seg).mem ((s1.seg k (s1.coreAt k).seg).base + b.toNat)
          (bytesLE 1 (s1.coreAt k).lsuD.toNat)).cores ∧ u.link = s1.link ∧ u.upd = s1.upd ∧
        (∀ q : Fin 192, (u.port q).path = (s1.port q).path ∧ (u.port q).pol = (s1.port q).pol)) ∧
    (s.nextMove k 0x21C w b s1 → (s1.coreAt k).seg = 4 → s1.accessOk k b.toNat 4 false true →
      exec (.lsuAaddT k) s = .next ((((s1.fixedAt k b.toNat 4).memWrites .roster ((s1.seg k 4).base + b.toNat)
        (bytesLE 4 (BitVec.ofNat 32 (valLE (s1.segBytes k b.toNat 4)) + (s1.coreAt k).lsuD).toNat)).modCore k fun c =>
          { c with lsuR := BitVec.ofNat 32 (valLE (s1.segBytes k b.toNat 4)) }).movedOn k w (s1.coreAt k).pc 6)) ∧
    (∀ sub : Nat, s.nextMove k 0x210 w b s1 → s1.accessFault k (s1.coreAt k).seg b.toNat 4 false false = some sub →
      exec (.lsuLd32T k) s = .next ((s.fetched k).dispatchFault k .seg sub (s.coreAt k).pc w 0#16))

/-- R271, R273–R281, R288, R291–R294: moves to plain ports, branches, timers, the CRC, the end of a dispatch and the faults that end
it.
Where the rules leave a corner open it is the model's choice: log entries 38 and 39.
Each of these commands completes here (the conclusion is a next state with its own effect, from conditions on the state and the
operands alone): .moveRow, .illegalMove, .sysTrapT, .brJmpT, .brRelT, .brCallT, .brRetT, .tmrUsT, .tmrMsT, .tmrStopT, .evtWaitT,
.crcInitT, .crcB8T, .crcW32T. -/
def Obligations.BranchTimerAndPlainMoves : Prop :=
  ∀ (k : Fin 4) (w b : BitVec 32) (s s1 : State),
    (∀ n : Nat, n < 32 → s.nextMove k (0x500 + n) w b s1 →
      exec (.moveRow k) s = .next ((s1.modCore k fun c => { c with x := c.x.set n b }).movedOn k w (s1.coreAt k).pc 1)) ∧
    (∀ n : Nat, 1 ≤ n → n < 8 → s.nextMove k (0x400 + n) w b s1 →
      exec (.moveRow k) s = .next ((s1.modCore k fun c => { c with g := setBit c.g n (b != 0#32) }).movedOn k w (s1.coreAt k).pc 1)) ∧
    (∀ (a : Nat) (m : Mv), s.canMove k = true → s.fetch k = (w, none) → moveFault w = none → decodeMove w = some m → m.dst = a →
      portKind a ≠ some .t → (s.coreAt k).guardOk m.guard = false → exec (.moveRow k) s = .next ((s.fetched k).movedOn k w (s.coreAt k).pc 1)) ∧
    (∀ (c : CtxCause) (sub : Nat), s.canMove k = true → s.fetch k = (w, none) → moveFault w = some (c, sub) →
      exec (.illegalMove k) s = .next ((s.fetched k).dispatchFault k c sub (s.coreAt k).pc w 0#16)) ∧
    (∀ (p : Fin 192) (c : CtxCause) (sub off : Nat) (tr : BitVec 16), (s.coreAt k).port = some p →
      ((s.dispatchFault k c sub off w tr).coreAt k).state = .idle ∧ ((s.dispatchFault k c sub off w tr).port p).sc.quar = true ∧
      ((s.dispatchFault k c sub off w tr).port p).sc.q = [] ∧ ((s.dispatchFault k c sub off w tr).port p).pol.enabled = false ∧
      (s.dispatchFault k c sub off w tr).cores.fCause = c.num ∧ (s.dispatchFault k c sub off w tr).cores.fOff = off ∧
      (s.dispatchFault k c sub off w tr).cores.fWord = w) ∧
    (s.nextMove k 0xB10 w b s1 →
      exec (.sysTrapT k) s = .next ((s.fetched k).dispatchFault k .trap 0 (s.coreAt k).pc w (b.setWidth 16))) ∧
    (s.nextMove k 0x310 w b s1 → b.toNat % 4 = 0 → b.toNat + 4 ≤ (s1.seg k 0).limit →
      exec (.brJmpT k) s = .next (s1.movedTo k w (s1.coreAt k).pc 2 b.toNat)) ∧
    (s.nextMove k 0x310 w b s1 → b.toNat % 4 ≠ 0 → exec (.brJmpT k) s = .next ((s.fetched k).dispatchFault k .seg 2 (s.coreAt k).pc w 0#16)) ∧
    (∀ t : Nat, s.nextMove k 0x311 w b s1 → t = (BitVec.ofNat 32 (s1.coreAt k).pc + 4#32 * b).toNat → t % 4 = 0 →
      t + 4 ≤ (s1.seg k 0).limit → exec (.brRelT k) s = .next (s1.movedTo k w (s1.coreAt k).pc 2 t)) ∧
    (s.nextMove k 0x312 w b s1 → b.toNat % 4 = 0 → b.toNat + 4 ≤ (s1.seg k 0).limit → 4 ≤ (s1.coreAt k).sp →
      s1.poisoned k .code ((s1.seg k 2).base + ((s1.coreAt k).sp - 4)) 4 = none →
      exec (.brCallT k) s = .next ((((s1.accessFix k .code ((s1.seg k 2).base + ((s1.coreAt k).sp - 4)) 4).memWrites .code
        ((s1.seg k 2).base + ((s1.coreAt k).sp - 4))
        (bytesLE 4 ((s1.coreAt k).pc + 4))).modCore k fun c => { c with sp := c.sp - 4 }).movedTo k w (s1.coreAt k).pc 3 b.toNat)) ∧
    (∀ t : Nat, s.nextMove k 0x313 w b s1 → (s1.coreAt k).sp + 4 ≤ (s1.seg k 2).limit →
      s1.poisoned k .code ((s1.seg k 2).base + (s1.coreAt k).sp) 4 = none →
      t = valLE (s1.memReads .code ((s1.seg k 2).base + (s1.coreAt k).sp) 4) → t % 4 = 0 → t + 4 ≤ (s1.seg k 0).limit →
      exec (.brRetT k) s = .next (((s1.accessFix k .code ((s1.seg k 2).base + (s1.coreAt k).sp) 4).modCore k
        fun c => { c with sp := c.sp + 4 }).movedTo k w (s1.coreAt k).pc 3 t)) ∧
    (∀ p : Fin 192, s.nextMove k 0x610 w b s1 → (s1.coreAt k).port = some p → (s1.coreAt k).tmrSel < 8 →
      (s1.port p).sc.timers.length = 8 → bits b 0 24 ≠ 0 →
      ∃ u, exec (.tmrUsT k) s = .next u ∧ (u.port p).sc.timers[(s1.coreAt k).tmrSel]? = some (some ⟨false, bits b 0 24, s1.hub⟩) ∧
        (u.coreAt k).pc = (s1.coreAt k).pc + 4 ∧ (u.port p).path = (s1.port p).path ∧ u.link = s1.link) ∧
    (∀ p : Fin 192, s.nextMove k 0x611 w b s1 → (s1.coreAt k).port = some p → (s1.coreAt k).tmrSel < 8 →
      (s1.port p).sc.timers.length = 8 → bits b 0 24 ≠ 0 →
      ∃ u, exec (.tmrMsT k) s = .next u ∧ (u.port p).sc.timers[(s1.coreAt k).tmrSel]? = some (some ⟨true, bits b 0 24, s1.hub⟩) ∧
        (u.coreAt k).pc = (s1.coreAt k).pc + 4 ∧ (u.port p).path = (s1.port p).path ∧ u.link = s1.link) ∧
    (∀ p : Fin 192, s.nextMove k 0x612 w b s1 → (s1.coreAt k).port = some p → (s1.coreAt k).tmrSel < 8 →
      (s1.port p).sc.timers.length = 8 →
      ∃ u, exec (.tmrStopT k) s = .next u ∧ (u.port p).sc.timers[(s1.coreAt k).tmrSel]? = some none) ∧
    (∀ p : Fin 192, s.nextMove k 0x710 w b s1 → (s1.coreAt k).port = some p →
      ∃ u, exec (.evtWaitT k) s = .next u ∧ (u.coreAt k).state = .idle ∧ (u.coreAt k).port = none ∧
        (u.port p).sc.running = none ∧ (u.port p).sc.quar = (s1.port p).sc.quar ∧ (u.port p).sc.retain = b.getLsbD 0) ∧
    (s.nextMove k 0x910 w b s1 →
      exec (.crcInitT k) s = .next ((s1.modCore k fun c => { c with crc := 0xFFFFFFFF#32 }).movedOn k w (s1.coreAt k).pc 1)) ∧
    (s.nextMove k 0x911 w b s1 →
      exec (.crcB8T k) s = .next ((s1.modCore k fun c => { c with crc := crcByte c.crc (b.setWidth 8) }).movedOn k w (s1.coreAt k).pc 1)) ∧
    (s.nextMove k 0x912 w b s1 →
      exec (.crcW32T k) s = .next ((s1.modCore k fun c => { c with crc := crcBytes c.crc (bytesLE 4 b.toNat) }).movedOn k w
        (s1.coreAt k).pc 1))

/-- R68, R167, R289, R290, R339: the EVT and MSG triggers, with the unit status each leaves.
Where the rules leave a corner open it is the model's choice: log entry 40.
Each of these commands completes here (the conclusion is a next state with its own effect, from conditions on the state and the
operands alone): .evtPostT, .evtHevtT, .evtHcplT, .msgSendT, .msgPostT, .msgHrstT. -/
def Obligations.EvtAndMsgMoves : Prop :=
  ∀ (k : Fin 4) (w b : BitVec 32) (s s1 : State),
    (∀ (p : Fin 192), s.nextMove k 0x711 w b s1 → (s1.coreAt k).evTo = BitVec.ofNat 32 p.val → (s1.port p).sc.quar = false →
      (s1.port p).sc.q = [] →
      ∃ u e, exec (.evtPostT k) s = .next u ∧ (u.coreAt k).evS = 0#32 ∧ (u.port p).sc.q = [e] ∧ e.cls = .housekeeping ∧ e.code = 1 ∧
        e.data = b ∧ (u.coreAt k).pc = (s1.coreAt k).pc + 4) ∧
    (s.nextMove k 0x711 w b s1 → 192 ≤ (s1.coreAt k).evTo.toNat →
      exec (.evtPostT k) s = .next ((s1.modCore k fun c => { c with evS := 4#32 }).movedOn k w (s1.coreAt k).pc 2)) ∧
    (s.nextMove k 0x712 w b s1 →
      ∃ u, exec (.evtHevtT k) s = .next u ∧ (u.coreAt k).evS = 0#32 ∧ (u.coreAt k).pc = (s1.coreAt k).pc + 4 ∧ u.ports = s1.ports) ∧
    (s.nextMove k 0x713 w b s1 → s1.hostFenced = true →
      exec (.evtHcplT k) s = .next ((s1.modCore k fun c => { c with evS := 3#32 }).movedOn k w (s1.coreAt k).pc 2)) ∧
    (∀ (ws : List (BitVec 32)) (w1 w2 : BitVec 32), s.nextMove k 0x713 w b s1 → s1.hostFenced = false → (s1.coreAt k).hw = ws →
      ws[1]? = some w1 → ws[2]? = some w2 → bits w2 0 8 = 0 → bits w1 16 8 ≤ 15 → (s1.ring 2).room = true →
      (s1.ring 2).irqCount = 0 → (s1.ring 2).irqTime = 1 → s1.link.waiting = [] →
      ∃ u, exec (.evtHcplT k) s = .next u ∧ (u.coreAt k).evS = 0#32 ∧
        (u.ring 2).out = (s1.ring 2).out ++ [((s1.ring 2).phase, .record ws)] ∧ u.ports = s1.ports) ∧
    (∀ p : Fin 192, s.nextMove k 0x810 w b s1 → (s1.coreAt k).port = some p → (b.toNat < 2 ∨ 264 < b.toNat) →
      exec (.msgSendT k) s = .next ((s1.modCore k fun c => { c with msgS := 4#32 }).movedOn k w (s1.coreAt k).pc 2)) ∧
    (∀ p : Fin 192, s.nextMove k 0x810 w b s1 → (s1.coreAt k).port = some p → 2 ≤ b.toNat → b.toNat ≤ 264 →
      (s1.coreAt k).txFlags = 0#32 → s1.portFenced p = false → (s1.port p).cc.state = .attached → (s1.port p).pd.tx = none →
      s1.poisoned k .bench ((s1.seg k 5).base + 0x202) b.toNat = none →
      ∃ u, exec (.msgSendT k) s = .next u ∧ (u.coreAt k).msgS = 0#32 ∧ (u.coreAt k).pc = (s1.coreAt k).pc + 4 ∧
        (u.port p).pd.tx = some (rawMsg .sop (s1.memReads .bench ((s1.seg k 5).base + 0x202) b.toNat) false false .none .none) ∧
        (u.port p).path = (s1.port p).path) ∧
    (∀ p : Fin 192, s.nextMove k 0x810 w b s1 → (s1.coreAt k).port = some p → 2 ≤ b.toNat → b.toNat ≤ 264 →
      (s1.coreAt k).txFlags = 0#32 → s1.portFenced p = false → (s1.port p).cc.state ≠ .attached →
      exec (.msgSendT k) s = .next ((s1.modCore k fun c => { c with msgS := 2#32 }).movedOn k w (s1.coreAt k).pc 2)) ∧
    (∀ (p : Fin 192), s.nextMove k 0x812 w b s1 → (s1.coreAt k).port = some p → bits b 0 4 = 1 → bits b 6 2 = 0 →
      s1.tileDeaf p = false → (s1.port p).path.safeHeld = false → (s1.port p).path.run = false → (s1.port p).path.queued = none →
      (s1.port p).cc.noTable 1 = false → 3300 ≤ bits b 20 12 * 20 → bits b 20 12 * 20 ≤ 50000 →
      (s1.tileCfg (tileOf p)).stOvr = 0#16 →
      ∃ u, exec (.msgPostT k) s = .next u ∧ (u.coreAt k).msgS = 0#32 ∧ (u.port p).path.run = true ∧ (u.port p).path.table = 1 ∧
        (u.port p).path.post.mv = bits b 20 12 * 20 ∧ (u.port p).path.post.ma = bits b 8 12 * 5 ∧
        (u.port p).path.gate = (s1.port p).path.gate) ∧
    (∀ (p : Fin 192), s.nextMove k 0x812 w b s1 → (s1.coreAt k).port = some p → bits b 0 4 = 0xF → bits b 6 2 ≠ 3 →
      s1.portFenced p = false → (s1.port p).path.run = true → (s1.port p).path.waiting = true → s1.tileDeaf p = false →
      seWait (s1.stepEntryOf p) = 7 → seThr (s1.stepEntryOf p) = 1 → seEnd (s1.stepEntryOf p) = false →
      ∃ u, exec (.msgPostT k) s = .next u ∧ (u.coreAt k).msgS = 0#32 ∧ (u.port p).path.run = true ∧
        (u.port p).path.waiting = false ∧ (u.port p).path.entry = seOk (s1.stepEntryOf p) % 64 ∧
        (u.port p).path.table = (s1.port p).path.table ∧ (u.port p).path.gate = (s1.port p).path.gate) ∧
    (∀ (p : Fin 192), s.nextMove k 0x812 w b s1 → (s1.coreAt k).port = some p → (bits b 0 4 = 3 ∨ bits b 6 2 = 3) →
      exec (.msgPostT k) s = .next ((s1.modCore k fun c => { c with msgS := 4#32 }).movedOn k w (s1.coreAt k).pc 2)) ∧
    (∀ (p : Fin 192), s.nextMove k 0x813 w b s1 → (s1.coreAt k).port = some p → s1.portFenced p = false →
      (s1.port p).cc.state = .attached →
      ∃ u, exec (.msgHrstT k) s = .next u ∧ (u.coreAt k).msgS = 0#32 ∧ (u.port p).isHardReset ∧
        (u.port p).pol.hardResets = (s1.port p).pol.hardResets + 1)

/-! ### Scheduling, bench and roster (11), core restart and scrub (14) -/

/-- R288, R300–R314, R385, R386: events age and expire, a dispatch starts from the first event by class, but that
DEEP_DONE goes before a DETACH that came during its transfer (R318); overruns end it, deep transfers answer, cores restart and the scrub counts.
Where the rules leave a corner open it is the model's choice: log entries 6, 39, 42 and 43.
Each of these commands completes here (the conclusion is a next state with its own effect, from conditions on the state and the
operands alone): .agePromotion, .timerExpired, .overrun, .deepTransferDone, .pageInDone, .schedulerDecision, .coreHang,
.coreRestart, .sramScrub. -/
def Obligations.SchedulerSteps : Prop :=
  (∀ (p : Fin 192) (i : Fin 16) (e : QEv) (s : State), (s.port p).sc.q[i.val]? = some e →
    msCycles (s.param 0xB000 * (e.aged + 1)) ≤ s.aon - e.born →
    ∃ u, exec (.agePromotion p i) s = .next u ∧ (u.port p).sc.q[i.val]? = some { e with aged := e.aged + 1 } ∧
      (u.port p).sc.q.length = (s.port p).sc.q.length ∧ (∀ q : Fin 192, q ≠ p → u.port q = s.port q) ∧ u.cores = s.cores) ∧
  (∀ (p : Fin 192) (i : Fin 16) (e : QEv) (s : State), (s.port p).sc.q[i.val]? = some e →
    s.aon - e.born < msCycles (s.param 0xB000 * (e.aged + 1)) → exec (.agePromotion p i) s = .next s) ∧
  (∀ (p : Fin 192) (t : Fin 8) (x : PortTimer) (s : State), (s.port p).sc.timers[t.val]? = some (some x) → s.timerLeft x ≠ 0 →
    exec (.timerExpired p t) s = .next s) ∧
  (∀ (p : Fin 192) (t : Fin 8) (x : PortTimer) (s : State), (s.port p).sc.timers[t.val]? = some (some x) → s.timerLeft x = 0 →
    (s.port p).sc.quar = false → (s.port p).sc.q = [] →
    ∃ u e, exec (.timerExpired p t) s = .next u ∧ (u.port p).sc.timers[t.val]? = some none ∧ (u.port p).sc.q = [e] ∧ e.cls = .timer ∧
      e.code = 1 ∧ e.data = BitVec.ofNat 32 t.val ∧ (u.port p).path = (s.port p).path) ∧
  (∀ (p : Fin 192) (t : Fin 8) (s : State), (s.port p).sc.timers[t.val]? = some none → exec (.timerExpired p t) s = .next s) ∧
  (∀ (k : Fin 4) (p : Fin 192) (s : State), (s.coreAt k).port = some p → (s.coreAt k).state = .run →
    s.param 0xB004 ≤ (s.coreAt k).moves →
    ∃ u, exec (.overrun k) s = .next u ∧ (u.coreAt k).state = .idle ∧ (u.coreAt k).port = none ∧
      u.cores.overrun = s.cores.overrun.inc32 ∧ u.cores.fOff = (s.coreAt k).lastPc ∧ u.cores.fWord = (s.coreAt k).lastWord ∧
      (u.port p).sc.quar = (s.port p).sc.quar) ∧
  (∀ (p : Fin 192) (d : List (BitVec 8)) (s : State), (s.port p).sc.deep = true →
    ∃ u, exec (.deepTransferDone p false d) s = .next u ∧ (u.port p).sc.deep = false ∧ (u.port p).path = (s.port p).path) ∧
  (∀ (p : Fin 192) (d : List (BitVec 8)) (s : State), (s.port p).sc.deep = true → s.deepUp = true → bit (s.deepReq p) 29 = true →
    bit (s.deepReq p) 30 = false → (s.port p).sc.bench = none → d.length = 1024 →
    ∃ u, exec (.deepTransferDone p true d) s = .next u ∧ (u.port p).sc.deep = false ∧
      u.cores.roster = Memory.writes (Memory.writes s.cores.roster (ctxAt p + 0x800) d) (ctxAt p + 4) (bytesLE 4 0) ∧
      (u.port p).path = (s.port p).path) ∧
  (∀ (k : Fin 4) (p : Fin 192) (lat : Nat) (e : QEv) (s : State), (s.coreAt k).assign = some p → (s.port p).ready = true →
    (s.port p).sc.bench = some k → (s.coreAt k).state = .idle → firstEvent (s.port p).sc.q = some e → s.ref.poison = [] →
    s.ref.restarting = none → s.upd.activating = false → s.victim k ≠ none → (s.victim k).map Prod.snd = some none →
    ∃ u, exec (.pageInDone k lat) s = .next u ∧ (u.coreAt k).state = .run ∧ (u.coreAt k).port = some p ∧
      (u.coreAt k).moves = 0 ∧ (u.coreAt k).x = List.replicate 32 0#32 ∧ (u.coreAt k).evCode = e.evCode ∧
      (u.coreAt k).evData = e.data ∧ (u.coreAt k).pc = headAt s.upd.runHead 0x50 4 ∧ (u.port p).sc.running = some k) ∧
  (∀ (f : List (Nat × Nat)) (l : Nat) (k : Fin 4) (s : State), s.ref.restarting = some k → exec (.schedulerDecision f l) s = .next s) ∧
  (∀ (f : List (Nat × Nat)) (l : Nat) (s : State), s.ref.restarting = none → s.upd.activating = false →
    (∀ p : Fin 192, (s.port p).ready = false) → (∀ k : Fin 4, (s.coreAt k).resv = none) → s.ref.hb.length = 4 →
    ∃ u, exec (.schedulerDecision f l) s = .next u ∧ u.ports = s.ports ∧ u.core = s.core ∧
      (∀ k : Fin 4, (s.coreAt k).state = .idle → u.ref.hb[k.val]? = some s.aon)) ∧
  (∀ (f : List (Nat × Nat)) (l : Nat) (k : Fin 4) (p : Fin 192) (e : QEv) (s : State), s.ref.restarting = none →
    s.upd.activating = false → (∀ j : Fin 4, (s.coreAt j).state = .idle ∧ (s.coreAt j).assign = none ∧ (s.coreAt j).resv = none) →
    s.readyList = [p] → (s.port p).sc.bench = some k → (s.port p).sc.pin = false → (s.port p).sc.resv = none →
    firstEvent (s.port p).sc.q = some e → s.ref.poison = [] →
    ∃ u, exec (.schedulerDecision f l) s = .next u ∧ (u.coreAt k).state = .run ∧ (u.coreAt k).port = some p ∧
      (u.coreAt k).evCode = e.evCode ∧ (u.coreAt k).evData = e.data ∧ (u.port p).sc.running = some k) ∧
  (∀ (k j : Fin 4) (s : State), s.pwr.coresUp = true → s.pwr.dev ≠ .deep → s.ref.restarting = none → s.ref.lastHang = none →
    s.silent k = true → s.silent j = false →
    ∃ u, exec (.coreHang k) s = .next u ∧ u.ref.restarting = some k ∧ u.ref.lastHang = some s.aon ∧
      u.ref.fault.getLsbD 3 = true ∧ u.ref.safe = s.ref.safe) ∧
  (∀ (k : Fin 4) (s : State), s.pwr.coresUp = true → s.pwr.dev ≠ .deep → s.ref.restarting = none → s.ref.lastHang = none →
    (∀ j : Fin 4, s.silent j = true) →
    ∃ u, exec (.coreHang k) s = .next u ∧ u.ref.restarting = some 0 ∧ u.ref.fault.getLsbD 3 = true ∧ u.ref.safe = s.ref.safe) ∧
  (∀ (k : Fin 4) (a : Nat) (s : State), s.pwr.coresUp = true → s.pwr.dev ≠ .deep → s.ref.lastHang = some a →
    s.aon - a < secCycles 3600 → s.silent k = true →
    ∃ u, exec (.coreHang k) s = .next u ∧ u.ref.fault.getLsbD 3 = true ∧ u.ref.fault.getLsbD 4 = true ∧ u.ref.safe = true) ∧
  (∀ (k : Fin 4) (s : State), s.silent k = false → exec (.coreHang k) s = .next s) ∧
  (∀ (k : Fin 4) (s : State), s.ref.restarting = some k → (∀ j : Fin 4, (s.coreAt j).state = .idle) →
    (s.coreAt k).port = none →
    ∃ u, exec .coreRestart s = .next u ∧ u.ref.restarting = none ∧ u.ref.restarts = min 0xFF (s.ref.restarts + 1) ∧
      u.pwr.cause.getLsbD 4 = true ∧ (∀ j : Fin 4, (u.coreAt j).state = .idle)) ∧
  (∀ (n : Nat) (soft bad : List (Nat × Nat)) (s : State), s.pwr.dev ≠ .deep → s.pwr.domUp = true →
    ∃ u, exec (.sramScrub n soft bad) s = .next u ∧ (∀ e ∈ bad, 1 ≤ e.1 → e.1 ≤ 8 → e ∈ u.ref.poison) ∧
      (∀ e ∈ s.ref.poison, e ∈ u.ref.poison) ∧ (∀ e ∈ u.ref.soft, e ∈ soft) ∧
      u.ref.eccCe = s.ref.eccCe.add32 (n + s.ref.soft.countP fun e => ! bad.contains e) ∧
      u.ports = s.ports ∧ u.cores = s.cores ∧ u.link = s.link) ∧
  (∀ (n : Nat) (soft bad : List (Nat × Nat)) (s : State), (s.pwr.dev = .deep ∨ s.pwr.domUp = false) →
    exec (.sramScrub n soft bad) s = .next s) ∧
  (∀ (q : List QEv) (e x : QEv), firstEvent q = some e → x ∈ q → e.cls.num ≤ x.cls.num ∨
    (e.cls = .housekeeping ∧ e.code = 2 ∧ ∃ d ∈ q, d.cls = .fault ∧ d.code = 2 ∧ d.since < e.since))

/-! ### Host link and its descriptors (12) -/

/-- R322–R329, R334, R341, R345, R349: a doorbell is refused and counted, frees the slots behind it, or makes the device fetch; a slot
of the wrong phase holds its ring, and the event that says so stands as its 32 bytes in the EVT ring's next slot; a chain that stops
and a ring that is disabled complete what they owe. A vector masked by its MSI-X table entry is held pending until it is unmasked (R320). Every entry has its ring's size, and its PHASE bit is that of its slot.
Where the rules leave a corner open it is the model's choice: log entries 6, 14, 44, 46 and 64.
Each of these commands completes here (the conclusion is a next state with its own effect, from conditions on the state and the
operands alone): .doorbell, .phaseReread, .hostlinkStall, .chainTimeout, .msixTimeTrigger, .ringEnable, .ringDisable. -/
def Obligations.RingsAndDoorbells : Prop :=
  (∀ (n : Fin 14) (v : BitVec 32) (full : Bool) (sl : List Desc) (s : State), s.hostUp = true →
    (full = false ∨ v >>> 16 ≠ 0#32 ∨ (s.ring n.val).enable = false) →
    ∃ u, exec (.doorbell (bellAt n) v full sl) s = .next u ∧ u.link.dbErr = s.link.dbErr.inc16 ∧ u.rings = s.rings ∧ s.sameBut u []) ∧
  (∀ (n : Fin 14) (v : BitVec 32) (s : State), s.hostUp = true → v >>> 16 = 0#32 → (s.ring n.val).enable = true →
    (n.val = 2 ∨ n.val = 3 ∨ n.val = 11 ∨ n.val = 12) → (s.ring n.val).accepts false (v.setWidth 16) = true →
    (s.ring n.val).state ≠ .draining →
    ∃ u, exec (.doorbell (bellAt n) v true []) s = .next u ∧ (u.ring n.val).hostIdx = v.setWidth 16 ∧
      (u.ring n.val).out = (s.ring n.val).out.drop (v.setWidth 16 - (s.ring n.val).hostIdx).toNat ∧
      u.link.dbErr = s.link.dbErr ∧ s.sameBut u []) ∧
  (∀ (d : Desc) (s : State), s.hostUp = true → (s.ring 0).enable = true → (s.ring 0).state ≠ .draining →
    (s.ring 0).chain = none → (s.ring 0).hostIdx = (s.ring 0).devIdx → 4 ≤ (s.ring 0).size → s.cplRoom 0 = true →
    s.link.fetched.length < 256 → d.ring = 0 → d.idx = (s.ring 0).devIdx → d.phase = (s.ring 0).phase → d.isTable = false →
    (∀ k : Nat, k = 1 ∨ k = 9 ∨ k = 10 → (s.ring k).state = .disabled) →
    ∃ u, exec (.doorbell 0 (((s.ring 0).devIdx + 1#16).setWidth 32) true [d]) s = .next u ∧
      u.link.fetched = s.link.fetched ++ [d] ∧ (u.ring 0).devIdx = (s.ring 0).devIdx + 1#16 ∧
      (u.ring 0).hostIdx = (s.ring 0).devIdx + 1#16 ∧ u.link.dbErr = s.link.dbErr ∧ s.sameBut u []) ∧
  (∀ (n : Fin 14) (d : Desc) (s : State), s.hostUp = true → isHostRing n.val = true → (s.ring n.val).state = .phaseWait →
    (s.ring n.val).hostIdx ≠ (s.ring n.val).devIdx → s.cplRoom n.val = true → s.link.fetched.length < 256 → d.ring = n.val →
    d.idx = (s.ring n.val).devIdx → d.phase ≠ (s.ring n.val).phase →
    ∃ u, exec (.phaseReread n [d]) s = .next u ∧ (u.ring n.val).state = .phaseWait ∧
      (u.ring n.val).devIdx = (s.ring n.val).devIdx ∧ u.link = s.link ∧ s.sameBut u []) ∧
  (∀ (n : Fin 14) (d : Desc) (s : State), s.hostUp = true → isHostRing n.val = true → (s.ring n.val).state = .phaseWait →
    (s.ring n.val).chain = none → (s.ring n.val).hostIdx = (s.ring n.val).devIdx + 1#16 → s.cplRoom n.val = true →
    s.link.fetched.length < 256 → d.ring = n.val → d.idx = (s.ring n.val).devIdx → d.phase = (s.ring n.val).phase →
    d.isTable = false →
    ∃ u, exec (.phaseReread n [d]) s = .next u ∧ u.link.fetched = s.link.fetched ++ [d] ∧ (u.ring n.val).state = .running ∧
      (u.ring n.val).devIdx = (s.ring n.val).devIdx + 1#16 ∧ s.sameBut u []) ∧
  (∀ (n : Fin 14) (s : State), isHostRing n.val = true → (s.ring n.val).state = .phaseWait →
    msCycles (s.param 0xA009) ≤ s.aon - (s.ring n.val).stallAt →
    ∃ u, exec (.hostlinkStall n) s = .next u ∧ (u.ring n.val).state = .waitDoorbell ∧
      (u.ring n.val).devIdx = (s.ring n.val).devIdx ∧ s.sameBut u []) ∧
  (∀ (n : Fin 14) (s : State), ((s.ring n.val).state ≠ .phaseWait ∨ s.aon - (s.ring n.val).stallAt < msCycles (s.param 0xA009)) → exec (.hostlinkStall n) s = .next s) ∧
  (∀ (n : Fin 14) (c : Chain) (s : State), isHostRing n.val = true → (s.ring n.val).chain = some c → c.ring = n.val →
    msCycles (s.param 0xA007) ≤ s.aon - c.since →
    ∃ u, exec (.chainTimeout n) s = .next u ∧ (u.ring n.val).chain = none ∧ u.link.loads = s.link.loads ∧
      s.completes u { op := c.op, chain := true, tag := c.tag, port := c.port, code := .chainIncomplete, detail := 0#8, ring := c.ring,
                      idx := c.head, data := [] } ∧ s.sameBut u []) ∧
  (∀ (n : Fin 14) (c : Chain) (s : State), (s.ring n.val).chain = some c → s.aon - c.since < msCycles (s.param 0xA007) →
    exec (.chainTimeout n) s = .next s) ∧
  (∀ (n : Fin 14) (s : State), (s.ring n.val).irqTime ≠ 0 → (s.ring n.val).unsig ≠ 0 → isHostRing n.val = false →
    s.hostFenced = false →
    ∃ u, exec (.msixTimeTrigger n) s = .next u ∧ (u.ring n.val).unsig = 0 ∧ s.sameBut u [] ∧
      (s.link.masked (s.ring n.val).vector = false →
        u.link.raised = setBit s.link.raised (s.ring n.val).vector true ∧ u.link.pba = s.link.pba) ∧
      (s.link.masked (s.ring n.val).vector = true →
        u.link.raised = s.link.raised ∧ u.link.pba = setBit s.link.pba (s.ring n.val).vector true)) ∧
  (∀ (k : Fin 32) (v : BitVec 32) (e : MsixEntry) (s : State), s.hostUp = true → s.link.msix[k.val]? = some e →
    ∃ u, exec (.doorbell (msixAt k 3) v true []) s = .next u ∧ u.link.msix[k.val]? = some { e with mask := bit v 0 } ∧
      (bit v 0 = false → u.link.pba.getLsbD k.val = false ∧
        (s.link.pba.getLsbD k.val = true → u.link.raised.getLsbD k.val = true)) ∧
      u.rings = s.rings ∧ s.sameBut u []) ∧
  (∀ (off : Fin 4096) (v : BitVec 32) (full : Bool) (sl : List Desc) (s : State), 0xE0 ≤ off.val →
    (off.val < 0x800 ∨ 0xA00 ≤ off.val) → exec (.doorbell off v full sl) s = .next s) ∧
  (∀ (n : Fin 14) (v : BitVec 32) (s : State), s.hostUp = true → bit v 31 = true → 4 ≤ bits v 24 5 → bits v 24 5 ≤ 16 →
    (s.ring n.val).enable = false → (s.ring n.val).state ≠ .draining → (isHostRing n.val = true → (s.ring (cplRing n.val)).enable = true) →
    (isHostRing n.val = true ∨ n.val = 2 ∨ n.val = 3 ∨ n.val = 11 ∨ n.val = 12) →
    ∃ u, exec (.ringEnable n v) s = .next u ∧ (u.ring n.val).enable = true ∧ (u.ring n.val).size = bits v 24 5 ∧
      (u.ring n.val).vector = bits v 16 5 ∧ (u.ring n.val).hostIdx = 0#16 ∧ (u.ring n.val).devIdx = 0#16 ∧
      (u.ring n.val).out = [] ∧ (u.ring n.val).state = .running ∧ u.link = s.link ∧ s.sameBut u []) ∧
  (∀ (n : Fin 14) (v : BitVec 32) (s : State), s.hostUp = true → bit v 31 = true → (s.ring n.val).enable = false →
    (bits v 24 5 < 4 ∨ 16 < bits v 24 5 ∨ (s.ring n.val).state = .draining ∨
      isHostRing n.val = true ∧ (s.ring (cplRing n.val)).enable = false) →
    ∃ u, exec (.ringEnable n v) s = .next u ∧ u.rings = s.rings ∧ u.link = s.link ∧ s.sameBut u []) ∧
  (∀ (n : Fin 14) (v : BitVec 32) (s : State), s.hostUp = true → bit v 31 = false → (s.ring n.val).enable = true →
    isHostRing n.val = false → (n.val = 2 ∨ n.val = 3 → s.cplInUse n.val = false) →
    ∃ u, exec (.ringDisable n v []) s = .next u ∧ (u.ring n.val).enable = false ∧ (u.ring n.val).state = .disabled ∧
      u.link = s.link ∧ s.sameBut u []) ∧
  (∀ (n : Fin 14) (v : BitVec 32) (s : State), s.hostUp = true → bit v 31 = false → (s.ring n.val).enable = true →
    (n.val = 2 ∨ n.val = 3) → s.cplInUse n.val = true →
    ∃ u, exec (.ringDisable n v []) s = .next u ∧ u.rings = s.rings ∧ u.link = s.link) ∧
  (∀ (n : Fin 14) (v : BitVec 32) (s : State), s.hostUp = true → bit v 31 = false → (s.ring n.val).enable = true →
    isHostRing n.val = true →
    ∃ u, exec (.ringDisable n v []) s = .next u ∧ (u.ring n.val).enable = false ∧ (u.ring n.val).chain = none ∧
      ((u.ring n.val).state = .draining ∨ (u.ring n.val).state = .disabled) ∧
      (∀ d ∈ u.link.fetched, d.ring ≠ n.val) ∧ s.sameBut u []) ∧
  (∀ (n : Fin 14) (s : State), isHostRing n.val = true → (s.ring n.val).state = .phaseWait →
    msCycles (s.param 0xA009) ≤ s.aon - (s.ring n.val).stallAt → s.evtRoom = true →
    s.link.backlog = [] → s.summaryPending = false → (s.ring 4).out.length = (s.ring 4).occ →
    ∃ u, exec (.hostlinkStall n) s = .next u ∧ (u.ring 4).devIdx = (s.ring 4).devIdx + 1#16 ∧
      (u.ringMem 4).getLast? = some (s.slotAddr 4 (s.ring 4).devIdx,
        [0x10#8, if (s.ring 4).phase then 0x80#8 else 0x00#8] ++ bytesLE 2 s.link.evSeq.toNat ++ [0xFF#8, 0xFF#8, 0#8, 0#8] ++
        timeBytes s.rtc ++ [BitVec.ofNat 8 n.val, 0#8] ++ bytesLE 2 (s.ring n.val).stallIdx.toNat ++ zeros 12) ∧ s.sameBut u []) ∧
  (∀ (c : Cpl) (e : Evt) (r : RxRec) (t : TlmRec) (k : CapRec) (ws : List Word) (ph : Bool),
    (c.bytes ph).length = 32 ∧ (e.bytes ph).length = 32 ∧ (recordBytes ws ph).length = 32 ∧ (r.bytes ph).length = 512 ∧
    (t.bytes ph).length = 64 ∧ (k.bytes ph).length = 64 ∧
    (∀ l ∈ [c.bytes ph, e.bytes ph, recordBytes ws ph, r.bytes ph], (l.getD 1 0#8).getLsbD 7 = ph) ∧
    (∀ l ∈ [t.bytes ph, k.bytes ph], (l.getD 0 0#8).getLsbD 7 = ph))

/-- R331, R338: what ends a descriptor without an effect of its own: an undefined opcode, a failed check, the right R5 asks for, a
fenced tile, and a start that never came.
Where the rules leave a corner open it is the model's choice: log entries 6, 14 and 45.
Each of these commands completes here (the conclusion is a next state with its own effect, from conditions on the state and the
operands alone): .unknownOpcode, .descriptorStartTimeout, .nop, .ctxExport, .pdSendReplyTimeout. -/
def Obligations.DescriptorChecks : Prop :=
  (∀ (d : Desc) (s : State), ¬ d.opn ∈ definedOps → s.descNext d = true →
    ∃ u, exec (.unknownOpcode d) s = .next u ∧ s.endsWith u d .unknownOp 0 [] ∧ s.sameBut u []) ∧
  (∀ (d : Desc) (s : State), s.fetchWait d < msCycles (s.param 0xB005) → exec (.descriptorStartTimeout d) s = .next s) ∧
  (∀ (d : Desc) (s : State), d ∈ s.link.fetched → msCycles (s.param 0xB005) ≤ s.fetchWait d →
    ∃ u, exec (.descriptorStartTimeout d) s = .next u ∧ s.endsWith u d .busy 0 [] ∧ s.sameBut u []) ∧
  (∀ (d : Desc) (c : CplCode) (k : Nat) (b : List Byte) (s : State), d.opn = 0x00 → s.descNext d = true →
    s.descCheck d = some (c, k, b) → ∃ u, exec (.nop d) s = .next u ∧ s.endsWith u d c k b ∧ s.sameBut u []) ∧
  (∀ (d : Desc) (p : Fin 192) (s : State), d.opn = 0x52 → s.descNext d = true → s.descCheck d = none → d.portId = some p →
    s.portFenced p = true → ∃ u, exec (.ctxExport d) s = .next u ∧ s.endsWith u d .fenced 0 [] ∧ s.sameBut u []) ∧
  (∀ (d : Desc) (s : State), s.descNext d = false →
    exec (.nop d) s = .next s ∧ exec (.portEnable d) s = .next s ∧ exec (.budgetStage d) s = .next s ∧
    exec (.kickoffArm d) s = .next s ∧ exec (.sessionOpen d) s = .next s ∧ exec (.rtcSet d) s = .next s) ∧
  (∀ (d : Desc) (s : State), d.isX = true → s.expertOn .host = false → s.descCheck d ≠ none) ∧
  (∀ (p : Fin 192) (s : State), (s.port p).pol.expect = .hostReply → (s.port p).pol.outq = [] →
    (∀ w ∈ s.link.waiting, w.what = .reply → w.also = []) →
    ∃ u, exec (.pdSendReplyTimeout p) s = .next u ∧ (u.port p).pol.expect = .none ∧
      (∀ w ∈ u.link.waiting, w.port = some p → w.what ≠ .reply) ∧ s.sameBut u [p])

/-- R131, R213, R294, R299, R316, R332: the descriptors that act on ports.
Where the rules leave a corner open it is the model's choice: log entries 14, 45, 48 and 66.
Each of these commands completes here (the conclusion is a next state with its own effect, from conditions on the state and the
operands alone): .nop, .ctxExport, .portEnable, .portDisable, .portProfile, .portPdoSet, .portErrorRecovery, .portHardReset,
.pdSend, .vdmSend, .vconnSwapRequest, .cableDiscover, .tlmConfig, .captureArm. -/
def Obligations.PortDescriptors : Prop :=
  (∀ (d : Desc) (s : State), s.starts d 0x00 → ∃ u, exec (.nop d) s = .next u ∧ s.endsWith u d .ok 0 [] ∧ s.sameBut u []) ∧
  (∀ (d : Desc) (p : Fin 192) (s : State), s.starts d 0x01 → d.portId = some p → (s.port p).sb.state ≠ .disabled → s.sealed = false →
    (s.port p).retry.lock ≠ .stuckSwitch →
    ∃ u, exec (.portEnable d) s = .next u ∧ (u.port p).pol.enabled = true ∧ (u.port p).retry.lock ≠ .retryExhausted ∧
      (u.port p).sc.quar = false ∧ s.endsWith u d .ok 0 [] ∧ s.sameBut u [p]) ∧
  (∀ (d : Desc) (p : Fin 192) (s : State), s.starts d 0x01 → d.portId = some p → (s.port p).sb.state = .disabled →
    (s.port p).pol.enabled = false → (s.board.bEff : Int) - s.allocSum < s.board.reserve →
    ∃ u, exec (.portEnable d) s = .next u ∧ s.endsWith u d .resource 0 [] ∧ s.sameBut u []) ∧
  (∀ (d : Desc) (p : Fin 192) (s : State), s.starts d 0x01 → d.portId = some p → (s.port p).sb.state ≠ .disabled → s.sealed = false →
    (s.port p).retry.lock = .stuckSwitch → 800 < (s.port p).smp.mv →
    ∃ u, exec (.portEnable d) s = .next u ∧ s.endsWith u d .safetyBlock 0 [] ∧ s.sameBut u []) ∧
  (∀ (d : Desc) (s : State), s.starts d 0x01 → d.all = true → s.sealed = false →
    (∀ p : Fin 192, (s.port p).sb.state ≠ .disabled ∧ (s.port p).retry.lock ≠ .stuckSwitch ∧ s.portFenced p = false) →
    ∃ u, exec (.portEnable d) s = .next u ∧ (∀ p : Fin 192, (u.port p).pol.enabled = true) ∧ s.endsWith u d .ok 0 []) ∧
  (∀ (d : Desc) (p : Fin 192) (s : State), s.starts d 0x02 → d.portId = some p → (s.port p).pol.enabled = false →
    (s.port p).pol.state ≠ .errorRecovery → (s.port p).cc.state ≠ .bootRd → (s.port p).cc.state ≠ .bootSink →
    (s.tile (tileOf p)).cap = none → s.link.waiting = [] → (∀ e ∈ s.link.fetched, e ≠ d → e.portId ≠ some p) →
    ∃ u, exec (.portDisable d) s = .next u ∧ s.endsWith u d .ok 0 [] ∧ (u.port p).pol.enabled = false ∧ s.sameBut u [p]) ∧
  (∀ (d : Desc) (p : Fin 192) (s : State), s.starts d 0x02 → d.portId = some p → (s.port p).pol.enabled = true →
    (s.port p).cc.state = .attached →
    ∃ u, exec (.portDisable d) s = .next u ∧ (u.port p).pol.enabled = false ∧ (u.port p).pol.state = .errorRecovery ∧
      (u.port p).pol.kind = .none ∧ (∃ w ∈ u.link.waiting, w.tag = d.tag ∧ w.port = some p ∧ w.what = .vsafe0v) ∧
      (∀ q : Fin 192, q ≠ p → u.port q = s.port q)) ∧
  (∀ (d : Desc) (p : Fin 192) (s : State), s.starts d 0x02 → d.portId = some p →
    ((s.port p).cc.state = .bootRd ∨ (s.port p).cc.state = .bootSink) → (s.port p).pol.state ≠ .errorRecovery →
    ∃ u, exec (.portDisable d) s = .next u ∧ (u.port p).cc.state = (s.port p).cc.state ∧ (u.port p).cc.disablePend = true ∧
      (u.port p).path.gate = (s.port p).path.gate ∧ u.link.fetched = s.link.fetched.erase d) ∧
  (∀ (d : Desc) (p : Fin 192) (s : State), s.starts d 0x03 → d.portId = some p → s.hostRoom p = true →
    ∃ u, exec (.portProfile d) s = .next u ∧ (u.port p).pol.profile = d.byte 8 % 16 ∧
      (s.link.waiting = [] → s.endsWith u d .ok 0 []) ∧
      (∀ q : Fin 192, q ≠ p → u.port q = s.port q)) ∧
  (∀ (d : Desc) (p : Fin 192) (s : State), s.starts d 0x04 → d.portId = some p → s.hostRoom p = true → (s.port p).pol.profile ≠ 15 →
    ∃ u, exec (.portPdoSet d) s = .next u ∧ (u.port p).pol.custom =
      some (pdoSetOrder ((List.range (d.byte 8)).map fun k => BitVec.ofNat 32 (d.fld (16 + 4 * k) 4))) ∧
      (u.port p).path = (s.port p).path ∧ s.endsWith u d .ok 0 [] ∧ (∀ q : Fin 192, q ≠ p → u.port q = s.port q)) ∧
  (∀ (d : Desc) (p : Fin 192) (s : State), s.starts d 0x05 → d.portId = some p → s.hostRoom p = true →
    ∃ u, exec (.portErrorRecovery d) s = .next u ∧ (u.port p).pol.state = .errorRecovery ∧ (u.port p).pol.kind = .none ∧
      (∃ w ∈ u.link.waiting, w.tag = d.tag ∧ w.port = some p ∧ w.what = .vsafe0v)) ∧
  (∀ (d : Desc) (p : Fin 192) (s : State), s.starts d 0x06 → d.portId = some p → s.hostRoom p = true →
    ((s.port p).pol.state = .detached ∨ (s.port p).pol.state = .typecOnly ∨ (s.port p).pol.state = .errorRecovery) →
    ∃ u, exec (.portHardReset d) s = .next u ∧ s.endsWith u d .notPermitted 7 [] ∧ s.sameBut u []) ∧
  (∀ (d : Desc) (p : Fin 192) (s : State), s.starts d 0x06 → d.portId = some p → s.hostRoom p = true → (s.port p).pol.state = .ready →
    s.mayHardReset p →
    ∃ u, exec (.portHardReset d) s = .next u ∧ (u.port p).isHardReset ∧ (u.port p).pol.hardResets = (s.port p).pol.hardResets + 1 ∧
      (∃ w ∈ u.link.waiting, w.tag = d.tag ∧ w.port = some p ∧ w.what = .vsafe5v)) ∧
  (∀ (d : Desc) (p : Fin 192) (s : State), s.starts d 0x10 → d.portId = some p → s.hostRoom p = true → s.mayMessage p = true →
    s.tileDeaf p = false → (s.port p).pd.table ≠ .hold → d.byte 9 = 0 →
    ∃ u m, exec (.pdSend d) s = .next u ∧ (u.port p).pd.tx = some m ∧ m.sop = sopOf (d.byte 8) ∧
      m.raw = some (BitVec.ofNat 16 (d.fld 16 2)) ∧ (∃ w ∈ u.link.waiting, w.tag = d.tag ∧ w.port = some p ∧ w.what = .txOk) ∧
      (∀ q : Fin 192, q ≠ p → u.port q = s.port q)) ∧
  (∀ (d : Desc) (p : Fin 192) (s : State), s.starts d 0x10 → d.portId = some p → s.mayMessage p = false → exec (.pdSend d) s = .next s) ∧
  (∀ (d : Desc) (p : Fin 192) (s : State), s.starts d 0x11 → d.portId = some p → s.hostRoom p = true → s.mayMessage p = true →
    (s.port p).rally.idle = true → s.tileDeaf p = false → (s.port p).pd.table ≠ .hold → vdmSvid (BitVec.ofNat 32 (d.fld 16 4)) ≠ rallySvid → d.byte 8 = 0 →
    ∃ u m, exec (.vdmSend d) s = .next u ∧ (u.port p).pd.tx = some m ∧ m.kind = .vdm ∧ m.sop = .sop ∧
      (u.port p).rally.req = .hostVdm ∧ (∃ w ∈ u.link.waiting, w.tag = d.tag ∧ w.port = some p ∧ w.what = .vdmReply)) ∧
  (∀ (d : Desc) (p : Fin 192) (s : State), s.starts d 0x11 → d.portId = some p → s.hostRoom p = true →
    vdmSvid (BitVec.ofNat 32 (d.fld 16 4)) = rallySvid →
    ∃ u, exec (.vdmSend d) s = .next u ∧ s.endsWith u d .notPermitted 7 [] ∧ s.sameBut u []) ∧
  (∀ (d : Desc) (p : Fin 192) (s : State), s.starts d 0x12 → d.portId = some p → s.hostRoom p = true → s.mayMessage p = true →
    s.tileDeaf p = false → (s.port p).pd.table ≠ .hold → d.byte 8 = 2 → (s.port p).path.vconn ≠ 0 → (s.port p).pol.vcIncapable = false →
    ∃ u, exec (.vconnSwapRequest d) s = .next u ∧ (u.port p).pd.tx = some (ctlMsg .vconnSwap .swapReply).ams ∧
      (u.port p).pol.swapTake = false ∧ (u.port p).path.vconn = (s.port p).path.vconn ∧
      (∃ w ∈ u.link.waiting, w.tag = d.tag ∧ w.port = some p ∧ w.what = .swap)) ∧
  (∀ (d : Desc) (p : Fin 192) (s : State), s.starts d 0x12 → d.portId = some p → s.hostRoom p = true → d.byte 8 = 1 →
    (s.port p).path.vconn ≠ 0 →
    ∃ u, exec (.vconnSwapRequest d) s = .next u ∧ s.endsWith u d .notPermitted 7 [] ∧ s.sameBut u []) ∧
  (∀ (d : Desc) (p : Fin 192) (s : State), s.starts d 0x13 → d.portId = some p → s.hostRoom p = true →
    (s.port p).cc.state = .attached → (s.port p).cc.partner = .sinkPoweredCable → (s.port p).pol.discRun = false →
    ((s.port p).pol.isReady = true → s.param 0x7000 ≠ 0 ∧ (s.port p).path.vconn ≠ 0) →
    ∃ u, exec (.cableDiscover d) s = .next u ∧ (u.port p).pol.cable = .unknown ∧ (u.port p).pol.discRun = (s.port p).pol.isReady ∧
      (∃ w ∈ u.link.waiting, w.tag = d.tag ∧ w.port = some p ∧ w.what = .cable) ∧ (∀ q : Fin 192, q ≠ p → u.port q = s.port q)) ∧
  (∀ (d : Desc) (p : Fin 192) (s : State), s.starts d 0x13 → d.portId = some p → s.hostRoom p = true → (s.port p).cc.state ≠ .attached →
    ∃ u, exec (.cableDiscover d) s = .next u ∧ s.endsWith u d .notPermitted 7 [] ∧ s.sameBut u []) ∧
  (∀ (d : Desc) (p : Fin 192) (s : State), s.starts d 0x32 → d.portId = some p → (s.port p).smp.tlmRate = 0 →
    ∃ u, exec (.tlmConfig d) s = .next u ∧ (u.port p).smp.tlmRate = d.byte 8 ∧ (u.port p).smp.tlmRing = d.byte 9 ∧
      s.endsWith u d .ok 0 [] ∧ s.sameBut u [p]) ∧
  (∀ (d : Desc) (p : Fin 192) (s : State), s.starts d 0x32 → d.portId = some p → (s.port p).smp.tlmRate ≠ 0 →
    ∃ u, exec (.tlmConfig d) s = .next u ∧ (u.port p).smp.tlmNext = some (d.byte 8, d.byte 9) ∧
      (u.port p).smp.tlmRate = (s.port p).smp.tlmRate ∧
      (∃ w ∈ u.link.waiting, w.tag = d.tag ∧ w.port = some p ∧ w.what = .tlm) ∧ s.sameBut u [p]) ∧
  (∀ (d : Desc) (p : Fin 192) (s : State), s.starts d 0x31 → d.portId = some p → (s.tile (tileOf p)).cap = none →
    (s.tile (tileOf p)).adcFaultA = false → (s.tile (tileOf p)).adcFaultB = false →
    ∃ u c, exec (.captureArm d) s = .next u ∧ (u.tile (tileOf p)).cap = some c ∧ c.port = p ∧ c.chans = d.byte 8 ∧ c.rate = d.byte 9 ∧
      c.len = d.byte 10 ∧ c.pre = d.byte 12 ∧ c.written = 0 ∧ u.ports = s.ports ∧
      (∃ w ∈ u.link.waiting, w.tag = d.tag ∧ w.what = .capture)) ∧
  (∀ (d : Desc) (s : State), s.starts d 0x31 → d.portId = none → (∀ t : Fin 8, (s.tile t).cap = none) →
    ∃ u, exec (.captureArm d) s = .next u ∧ s.endsWith u d .ok 0 [] ∧ u.ports = s.ports) ∧
  (∀ (d : Desc) (p : Fin 192) (s : State), s.starts d 0x52 → d.portId = some p → (s.port p).sc.running = none →
    (s.port p).sc.deep = false → (s.link.waiting.filter fun w => w.port == some p && w.what == .ctxOut) = [] →
    ∃ u, exec (.ctxExport d) s = .next u ∧ u.link.dma = some (BitVec.ofNat 64 (d.fld 8 8), s.ctxBytes p) ∧ s.sameBut u [] ∧
      u.cores = s.cores)

/-- R252, R254, R332, R333, R352, R358, R360, R363, R372: the descriptors that stage, check, arm, load, set and read.
Where the rules leave a corner open it is the model's choice: log entries 14, 47, 49 and 65.
Each of these commands completes here (the conclusion is a next state with its own effect, from conditions on the state and the
operands alone): .budgetStage, .classStage, .huddleCheck, .kickoffArm, .huddleDiscard, .snapshot, .stepTableLoad, .msgTableLoad,
.breakerCurveStage, .paramSet, .paramGet, .hostPagesBind, .hostPagesWithdraw, .rtcSet. -/
def Obligations.DeviceDescriptors : Prop :=
  (∀ (d : Desc) (s : State), s.starts d 0x20 → s.sealed = false → d.byte 16 = 1 →
    ∃ u, exec (.budgetStage d) s = .next u ∧ u.stagedOr 0x1000 &&& 0xFFFFF#32 = BitVec.ofNat 32 (d.fld 8 4) &&& 0xFFFFF#32 ∧
      u.cfg = s.cfg ∧ u.ports = s.ports ∧ u.hud.state = .staged ∧
      (∃ w ∈ u.link.waiting, w.tag = d.tag ∧ w.what = .staged)) ∧
  (∀ (d : Desc) (s : State), s.starts d 0x20 → s.sealed = true →
    ∃ u, exec (.budgetStage d) s = .next u ∧ s.endsWith u d .busy 0 [] ∧ s.sameBut u []) ∧
  (∀ (d : Desc) (p : Fin 192) (s : State), s.starts d 0x21 → d.portId = some p → s.sealed = false → d.byte 14 = 2 →
    ∃ u, exec (.classStage d) s = .next u ∧ u.stagedOr (ppOff p.val 0x44) &&& 0xFF#32 = BitVec.ofNat 32 (d.byte 9) ∧
      u.ports = s.ports ∧ u.cfg = s.cfg ∧ (∃ w ∈ u.link.waiting, w.tag = d.tag ∧ w.what = .staged)) ∧
  (∀ (d : Desc) (s : State), s.starts d 0x22 → s.hud.state = .empty → s.hud.staged = [] → s.hud.curves = [] →
    s.hud.newSteps = [] → s.hud.newMsgs = [] →
    ∃ u, exec (.huddleCheck d) s = .next u ∧ s.endsWith u d .ok 0 [] ∧ s.sameBut u []) ∧
  (∀ (d : Desc) (s : State), s.starts d 0x22 → s.hud.state = .staged → s.hud.staged = [] → s.hud.curves = [] →
    s.hud.newSteps = [] → s.hud.newMsgs = [] →
    ∃ u, exec (.huddleCheck d) s = .next u ∧ u.hud = { s.hud with state := .checked } ∧ s.endsWith u d .ok 0 [] ∧ u.cfg = s.cfg) ∧
  (∀ (d : Desc) (s : State), s.starts d 0x23 → d.byte 8 = 0 → (s.hud.state = .empty ∨ s.hud.state = .checked) →
    ∃ u, exec (.kickoffArm d) s = .next u ∧ u.hud.state = .armed ∧ u.hud.source = some .nextBoundary ∧ u.hud.ready = false ∧
      u.hud.staged = s.hud.staged ∧ u.hud.armTag = some d.tag ∧ u.ports = s.ports ∧ u.cfg = s.cfg ∧
      (∃ w ∈ u.link.waiting, w.tag = d.tag ∧ w.what = .kickoff)) ∧
  (∀ (d : Desc) (s : State), s.starts d 0x23 → d.byte 8 ≠ 1 → s.sealed = true →
    ∃ u, exec (.kickoffArm d) s = .next u ∧ s.endsWith u d .busy 0 [] ∧ s.sameBut u []) ∧
  (∀ (d : Desc) (s : State), s.starts d 0x23 → d.byte 8 = 1 → s.armTimeBad (d.fld 16 8) = true →
    ∃ u, exec (.kickoffArm d) s = .next u ∧ s.endsWith u d .badField 0 (bytesLE 2 16) ∧ s.sameBut u []) ∧
  (∀ (d : Desc) (s : State), s.starts d 0x24 → s.hud.state ≠ .committed → s.hud.svcSeq = none → s.link.waiting = [] →
    ∃ u, exec (.huddleDiscard d) s = .next u ∧ u.hud.state = .empty ∧ u.hud.staged = [] ∧ u.hud.curves = [] ∧ u.hud.source = none ∧
      s.endsWith u d .ok 0 [] ∧ u.cfg = s.cfg ∧ u.ports = s.ports) ∧
  (∀ (d : Desc) (s : State), s.starts d 0x30 → s.meas.snapBusy = false → s.meas.snapArmed = false → d.byte 8 = 0 →
    ∃ u, exec (.snapshot d) s = .next u ∧ u.meas.snapBusy = true ∧ u.meas.latchTime = s.rtc ∧ u.meas.latchMissing = s.fencedTiles ∧
      (∃ w ∈ u.link.waiting, w.tag = d.tag ∧ w.what = .snapshot) ∧ u.ports = s.ports ∧ u.hud = s.hud ∧ u.cfg = s.cfg ∧
      (∀ t : Fin 8, u.tile t = if s.tileFenced t then s.tile t else { s.tile t with cap := (s.tile t).cap.map Capture.snapped })) ∧
  (∀ (d : Desc) (s : State), s.starts d 0x30 → s.meas.snapBusy = false → s.meas.snapArmed = false → d.byte 8 = 1 →
    ∃ u, exec (.snapshot d) s = .next u ∧ u.meas = { s.meas with snapArmed := true } ∧ s.sameBut u []) ∧
  (∀ (d : Desc) (s : State), s.starts d 0x30 → s.meas.snapBusy = true →
    ∃ u, exec (.snapshot d) s = .next u ∧ s.endsWith u d .busy 0 [] ∧ u.meas = s.meas ∧ s.sameBut u []) ∧
  (∀ (n : Fin 14) (c : Chain) (s : State), s.link.loads = [c] → c.ring = n.val → c.op = 0x40#8 → c.busy = false →
    16 ≤ c.target → c.target < 32 → s.cfg.stRam.length = 16 →
    ∃ u, exec (.stepTableLoad n) s = .next u ∧ u.cfg.stRam[c.target - 16]? = some ⟨c.entries, c.crc, false⟩ ∧ u.link.loads = [] ∧
      c.target ∈ u.hud.newSteps ∧ u.ports = s.ports ∧ u.tiles = s.tiles) ∧
  (∀ (n : Fin 14) (c : Chain) (s : State), s.link.loads = [c] → c.ring = n.val → c.op = 0x40#8 → c.busy = true →
    ∃ u, exec (.stepTableLoad n) s = .next u ∧ u.link.loads = [] ∧ s.sameBut u []) ∧
  (∀ (n : Fin 14) (c : Chain) (t : Fin 8) (s : State), s.link.loads = [c] → c.ring = n.val → c.op = 0x42#8 → c.busy = false →
    c.target.testBit t.val = true →
    ∃ u, exec (.msgTableLoad n) s = .next u ∧ (u.tile t).mtRam = c.entries ∧ (u.tile t).mtCrc = c.crc ∧ (u.tile t).mtValid = false ∧
      t.val ∈ u.hud.newMsgs ∧ (∀ q : Fin 8, c.target.testBit q.val = false → u.tile q = s.tile q) ∧ u.ports = s.ports ∧ u.cfg = s.cfg) ∧
  (∀ (d : Desc) (s : State), s.starts d 0x41 → s.sealed = false →
    ∃ u, exec (.breakerCurveStage d) s = .next u ∧
      (d.byte 8, (List.range 8).map fun k => (d.byte (16 + 4 * k), d.fld (18 + 4 * k) 2)) ∈ u.hud.curves ∧
      u.hud.staged = s.hud.staged ∧ s.endsWith u d .ok 0 [] ∧ u.cfg = s.cfg ∧ u.ports = s.ports) ∧
  (∀ (d : Desc) (s : State), s.starts d 0x50 → d.fld 8 2 ≠ 0xA006 → d.fld 8 2 ≠ 0x8001 → s.cfg.params = [] →
    ∃ u, exec (.paramSet d) s = .next u ∧ (paramDefault (d.fld 8 2) ≠ some (d.fld 12 4) → u.paramOv (d.fld 8 2) = some (BitVec.ofNat 32 (d.fld 12 4))) ∧
      u.cfg.stRam = s.cfg.stRam ∧ u.cfg.budget = s.cfg.budget ∧ u.tiles = s.tiles ∧ u.board = s.board) ∧
  (∀ (d : Desc) (s : State), s.starts d 0x51 → d.fld 8 2 ≠ 0x8001 →
    ∃ u, exec (.paramGet d) s = .next u ∧ s.endsWith u d .ok 0 (bytesLE 4 (s.param (d.fld 8 2))) ∧ s.sameBut u []) ∧
  (∀ (d : Desc) (s : State), s.starts d 0x53 → d.byte 8 = 1 → d.byte 12 = 1 →
    ∃ u, exec (.hostPagesBind d) s = .next u ∧ (d.fld 10 2, BitVec.ofNat 64 (d.fld 16 8)) ∈ u.link.pages ∧
      s.endsWith u d .ok 0 [] ∧ s.sameBut u []) ∧
  (∀ (d : Desc) (s : State), s.starts d 0x53 → d.byte 8 = 2 → d.byte 12 = 1 → s.link.waiting = [] →
    (∀ p : Fin 192, (s.port p).sc.deep = false) →
    ∃ u, exec (.hostPagesWithdraw d) s = .next u ∧ (∀ e ∈ u.link.pages, e.1 ≠ d.fld 10 2) ∧
      (∀ e ∈ s.link.pages, e.1 ≠ d.fld 10 2 → e ∈ u.link.pages) ∧ s.endsWith u d .ok 0 [] ∧ s.sameBut u []) ∧
  (∀ (d : Desc) (s : State), s.starts d 0x71 → s.upd.armed ≠ some .atTime →
    ∃ u, exec (.rtcSet d) s = .next u ∧ u.rtc = d.fld 8 8 % 2 ^ 63 ∧ u.aon = s.aon ∧ s.endsWith u d .ok 0 [] ∧ s.sameBut u []) ∧
  (∀ (d : Desc) (s : State), s.starts d 0x71 → s.upd.armed = some .atTime →
    ∃ u, exec (.rtcSet d) s = .next u ∧ u.rtc = s.rtc ∧ s.endsWith u d .busy 0 [] ∧ s.sameBut u [])

/-- R198, R205–R207, R351, R445–R448: sessions, unlocking, and the control of a feed over PCIe.
Where the rules leave a corner open it is the model's choice: log entries 10, 14, 28 and 54.
Each of these commands completes here (the conclusion is a next state with its own effect, from conditions on the state and the
operands alone): .sessionOpen, .sessionProve, .sessionClose, .expertUnlock, .expertRelock, .hostSessionTimeout, .feedEnable,
.feedDisable, .feedClearRetry. -/
def Obligations.SessionsAndFeedControl : Prop :=
  (∀ (d : Desc) (s : State) (uk : List Byte) (l : Level), s.starts d 0x60 → s.link.sess = 0 → s.unitKey = some uk →
    levelOf (d.byte 8) = some l → s.lockSecs = 0 → d.fld 16 8 = 0 →
    ∃ u, exec (.sessionOpen d) s = .next u ∧ u.link.sess = s.link.nextSess ∧ u.link.sessReq = l ∧ u.link.level = .none ∧
      u.link.unlocked = false ∧ u.link.openAt = s.aon ∧ s.endsWith u d .ok s.link.nextSess (chalBytes u.link.challenge) ∧
      s.sameBut u []) ∧
  (∀ (d : Desc) (s : State), s.starts d 0x60 → s.link.sess ≠ 0 →
    ∃ u, exec (.sessionOpen d) s = .next u ∧ s.endsWith u d .busy 0 [] ∧ u.link.sess = s.link.sess ∧ s.sameBut u []) ∧
  (∀ (d : Desc) (s : State) (uk : List Byte) (l : Level), s.starts d 0x60 → s.link.sess = 0 → s.unitKey = some uk →
    levelOf (d.byte 8) = some l → s.lockSecs ≠ 0 →
    ∃ u, exec (.sessionOpen d) s = .next u ∧ s.endsWith u d .notPermitted 4 (bytesLE 2 s.lockSecs) ∧ u.link.sess = 0 ∧ s.sameBut u []) ∧
  (∀ (d : Desc) (s : State) (uk : List Byte), s.starts d 0x61 → s.link.sess ≠ 0 → d.byte 8 = s.link.sess →
    s.aon - s.link.openAt ≤ 60 * 32768 → s.link.sessReq = .view → s.unitKey = some uk →
    (List.range 32).map (fun i => BitVec.ofNat 8 (d.byte (32 + i))) =
      hmac (s.levelKey uk .view) (chalBytes s.link.challenge ++ [Level.view.byte, BitVec.ofNat 8 s.link.sess]) →
    ∃ u, exec (.sessionProve d) s = .next u ∧ u.link.level = .view ∧ u.svc.lockN = 0 ∧ s.endsWith u d .ok 0 [] ∧ s.sameBut u []) ∧
  (∀ (d : Desc) (s : State), s.starts d 0x61 → s.link.sess ≠ 0 → d.byte 8 = s.link.sess → s.unitKey = none →
    ∃ u, exec (.sessionProve d) s = .next u ∧ u.link.sess = 0 ∧ u.link.level = .none ∧ u.svc.lockN = s.svc.lockN + 1 ∧
      s.endsWith u d .notPermitted 6 [] ∧ s.sameBut u []) ∧
  (∀ (d : Desc) (s : State), s.starts d 0x62 → s.link.sess ≠ 0 → d.byte 8 = s.link.sess →
    ∃ u, exec (.sessionClose d) s = .next u ∧ u.link.sess = 0 ∧ u.link.level = .none ∧ u.link.unlocked = false ∧
      s.endsWith u d .ok 0 [] ∧ s.sameBut u []) ∧
  (∀ (d : Desc) (s : State), s.starts d 0x62 → s.link.sess = 0 →
    ∃ u, exec (.sessionClose d) s = .next u ∧ s.endsWith u d .notPermitted 1 [] ∧ s.sameBut u []) ∧
  (∀ (d : Desc) (s : State), s.starts d 0x63 → s.link.level.isTech = true → d.byte 8 = 1 →
    ∃ u, exec (.expertUnlock d) s = .next u ∧ u.link.unlocked = true ∧ s.endsWith u d .ok 0 [] ∧ s.sameBut u []) ∧
  (∀ (d : Desc) (s : State), s.starts d 0x63 → s.link.level.isTech = true → d.byte 8 = 0 →
    ∃ u, exec (.expertRelock d) s = .next u ∧ u.link.unlocked = false ∧ s.endsWith u d .ok 0 [] ∧ s.sameBut u []) ∧
  (∀ (d : Desc) (s : State), s.starts d 0x63 → s.link.level = .view → s.link.sess ≠ 0 → d.byte 8 = 1 →
    ∃ u, exec (.expertUnlock d) s = .next u ∧ u.link.unlocked = s.link.unlocked ∧ s.endsWith u d .notPermitted 2 [] ∧ s.sameBut u []) ∧
  (∀ s : State, s.aon - s.link.sessAt < secCycles 900 → exec .hostSessionTimeout s = .next s) ∧
  (∀ s : State, s.link.sess ≠ 0 → secCycles 900 ≤ s.aon - s.link.sessAt →
    ∃ u, exec .hostSessionTimeout s = .next u ∧ u.link.sess = 0 ∧ u.link.level = .none ∧ u.link.unlocked = false ∧ s.sameBut u []) ∧
  (∀ (d : Desc) (s : State), s.starts d 0x70 → d.byte 8 = 0 → d.byte 9 = 1 → s.ref.safe = false → s.feedA.rated ≠ 0 →
    s.feedA.shunt ≠ 0 → s.feedA.use.rated ≠ 0 → s.feedA.use.shunt ≠ 0 → s.feedA.state = .disabled → s.feedA.cause ≠ .stuckBank → s.feedA.inWindow s.feedA.mv = false → s.feedB.state = .active →
    ∃ u, exec (.feedEnable d) s = .next u ∧ u.feedA = { s.feedA with enabled := true, state := .waitWindow, inWin := false, qualAt := none } ∧ u.feedB = s.feedB ∧
      (∃ w ∈ u.link.waiting, w.tag = d.tag ∧ w.what = .feedReady .fda) ∧ u.ports = s.ports) ∧
  (∀ (d : Desc) (s : State), s.starts d 0x70 → d.byte 8 = 0 → d.byte 9 = 1 → s.ref.safe = true →
    ∃ u, exec (.feedEnable d) s = .next u ∧ s.endsWith u d .safetyBlock 0 [] ∧ s.sameBut u []) ∧
  (∀ (d : Desc) (s : State), s.starts d 0x70 → d.byte 8 = 0 → d.byte 9 = 2 → s.ref.safe = false → s.board.changeover = none →
    s.feedA.state = .active → s.feedB.state = .standby → s.feedStuck = false →
    ∃ u, exec (.feedDisable d) s = .next u ∧ u.feedA.enabled = false ∧ u.feedA.gate = false ∧ u.feedA.state = .opening ∧
      u.feedB = s.feedB ∧ u.board.changeover = some (.fdb, .hostDisable) ∧
      (∃ w ∈ u.link.waiting, w.tag = d.tag ∧ w.what = .feedOff .fda) ∧ u.ports = s.ports) ∧
  (∀ (d : Desc) (s : State), s.starts d 0x70 → d.byte 8 = 0 → d.byte 9 = 2 → s.board.changeover = none →
    s.feedA.state = .active → s.feedB.state ≠ .standby →
    ∃ u, exec (.feedDisable d) s = .next u ∧ s.endsWith u d .safetyBlock 0 [] ∧ s.sameBut u []) ∧
  (∀ (d : Desc) (s : State), s.starts d 0x70 → d.byte 8 = 0 → d.byte 9 = 3 → s.feedA.state = .backoff → s.feedB.state = .active →
    ∃ u, exec (.feedClearRetry d) s = .next u ∧ u.feedA.retryCnt = 0 ∧ u.feedA.due = none ∧ u.feedB = s.feedB ∧ u.ports = s.ports)

/-! ### Huddle and kickoff (13) -/

/-- R355, R357, R363–R369, R373: tiles ready, commit, apply, a tile that missed the strobe, and the KICK line: what each leaves of the
huddle, and the value in force of a staged register after the kickoff.
Where the rules leave a corner open it is the model's choice: log entries 6 and 50.
Each of these commands completes here (the conclusion is a next state with its own effect, from conditions on the state and the
operands alone): .tilesReady, .kickoffCommit, .kickoffApply, .applyPacket, .kickLineLow, .kickJoinWrite. -/
def Obligations.KickoffAppliesTheHuddle : Prop :=
  (∀ s : State, s.hud.state = .armed →
    ∃ u, exec .tilesReady s = .next u ∧ u.hud = { s.hud with ready := true, readyAt := if s.hud.ready then s.hud.readyAt else s.aon } ∧
      (∀ t : Fin 8, s.tileFenced t = false → (u.tile t).shadow = true) ∧ (∀ t : Fin 8, s.tileFenced t = true → u.tile t = s.tile t) ∧
      u.ports = s.ports ∧ u.cfg = s.cfg ∧ u.link = s.link) ∧
  (∀ s : State, s.hud.state ≠ .armed → exec .tilesReady s = .next s) ∧
  (∀ s : State, s.hud.state = .armed → s.hud.source = some .nextBoundary → s.hud.ready = true → s.hud.readyAt < s.aon →
    exec .kickoffCommit s = .next { s with hud := { s.hud with state := .committed },
                                           pwr := { s.pwr with dev := if s.pwr.dev = .idle then .run else s.pwr.dev } }) ∧
  (∀ s : State, s.hud.state = .armed → s.hud.source = some .atTime → s.hud.dueAt ≤ s.aon + 1 →
    exec .kickoffCommit s = .next { s with hud := { s.hud with state := .committed },
                                           pwr := { s.pwr with dev := if s.pwr.dev = .idle then .run else s.pwr.dev } }) ∧
  (∀ s : State, s.hud.source = some .nextBoundary → (s.hud.ready = false ∨ s.aon ≤ s.hud.readyAt) → exec .kickoffCommit s = .next s) ∧
  (∀ s : State, s.hud.source = some .atTime → s.aon + 1 < s.hud.dueAt → exec .kickoffCommit s = .next s) ∧
  (∀ s : State, s.hud.source = some .kick → exec .kickoffCommit s = .next s) ∧
  (∀ (b : BitVec 8) (s : State), s.hud.state = .committed → s.hud.svcSeq = none → (s.hud.source = some .atTime → s.hud.dueAt ≤ s.aon) →
    ∃ u, exec (.kickoffApply b) s = .next u ∧ u.hud.state = .empty ∧ u.hud.staged = [] ∧ u.hud.curves = [] ∧ u.hud.source = none ∧
      u.hud.applyCnt = s.hud.applyCnt.inc32 ∧ u.hud.kickCnt = s.hud.kickCnt ∧ u.hud.applyTime = s.rtc ∧ u.hud.late = s.fencedTiles ∧
      (∀ w ∈ u.link.waiting, w.what ≠ .kickoff) ∧ u.rtc = s.rtc ∧ u.fuse = s.fuse ∧ u.pwr.dev ≠ .idle) ∧
  (∀ (b : BitVec 8) (s : State), s.hud.source = some .atTime → s.aon < s.hud.dueAt → exec (.kickoffApply b) s = .next s) ∧
  (∀ (b : BitVec 8) (v : Word) (s : State), s.hud.state = .committed → s.hud.staged = [⟨0x1000, v⟩] → s.hud.curves = [] →
    (s.hud.source = some .atTime → s.hud.dueAt ≤ s.aon) →
    ∃ u, exec (.kickoffApply b) s = .next u ∧ u.cfg = { s.cfg with budget := bits v 0 20 }) ∧
  (∀ (b : BitVec 8) (p : Fin 192) (v : Word) (s : State), s.hud.state = .committed → s.hud.staged = [⟨ppOff p.val 0x44, v⟩] →
    s.hud.curves = [] → (s.hud.source = some .atTime → s.hud.dueAt ≤ s.aon) →
    ∃ u, exec (.kickoffApply b) s = .next u ∧ u.cfg = s.cfg ∧
      (u.port p).sb = { (s.port p).sb with set := { cls := bits v 30 2, ceil := bits v 20 10, floor := bits v 10 10, weight := bits v 0 8 } } ∧
      (∀ q : Fin 192, q ≠ p → (u.port q).sb = (s.port q).sb)) ∧
  (∀ (b : BitVec 8) (s : State), s.hud.state ≠ .committed → exec (.kickoffApply b) s = .next s) ∧
  (∀ (b : BitVec 8) (t : Fin 8) (v : Word) (s : State), s.hud.state = .committed → s.hud.staged = [⟨0x1000, v⟩] → s.hud.curves = [] →
    b.getLsbD t.val = true → s.tileFenced t = false → (s.hud.source = some .atTime → s.hud.dueAt ≤ s.aon) →
    ∃ u, exec (.kickoffApply b) s = .next u ∧ (u.tile t).missed = true ∧ u.tileCfg t = s.tileCfg t) ∧
  (∀ (t : Fin 8) (s : State), (s.tile t).missed = true →
    ∃ u, exec (.applyPacket t) s = .next u ∧ (u.tile t).missed = false ∧ (u.tile t).held = none ∧ u.tileCfg t = s.tileNow t ∧
      u.hud.late = setBit s.hud.late t.val true ∧ u.hud.state = s.hud.state ∧ u.cfg = s.cfg ∧
      ((s.tile t).held = none → u.ports = s.ports)) ∧
  (∀ (t : Fin 8) (s : State), (s.tile t).missed = false → exec (.applyPacket t) s = .next s) ∧
  (∀ s : State, exec .kickLineLow s = .next { s with hud := { s.hud with kickIn := false, seenLow := s.hud.seenLow || s.kickArmed } }) ∧
  (∀ (v : BitVec 32) (s : State), s.pwr.dev = .run → s.pwr.domUp = true → (bit v 0 = true ∨ s.kickArmed = false) → bits v 8 8 ≠ 0 →
    exec (.kickJoinWrite v) s = .next { s with hud := { s.hud with join := bit v 0, timeout := bits v 8 8 } }) ∧
  (∀ (v : BitVec 32) (s : State), s.pwr.dev = .run → s.pwr.domUp = true → (bit v 0 = true ∨ s.kickArmed = false) → bits v 8 8 = 0 →
    exec (.kickJoinWrite v) s = .next { s with hud := { s.hud with join := bit v 0 } }) ∧
  (∀ (v : BitVec 32) (s : State), (s.pwr.dev = .run ∧ bit v 0 = false ∧ s.kickArmed = true) ∨ s.pwr.dev = .deep ∨ s.pwr.domUp = false →
    exec (.kickJoinWrite v) s = .next s)

/-! ### The referee (14) -/

/-- R376, R379, R383, R384, R387, R396: a check whose reaction is DEVICE takes the device to its safe state and sets its bit; one whose
reaction is TILE asserts the safe wire; a passing check changes no port, no feed and no tile's safety.
Where the rules leave a corner open it is the model's choice: log entries 18, 33 and 34.
Each of these commands completes here (the conclusion is a next state with its own effect, from conditions on the state and the
operands alone): .supplyHub, .triplicatedRegisterDisagree, .romHubCheck, .romTileCheck, .supplyTile, .pllLockTimeout,
.refereeSelftestDone, .clockMonitorWindow, .allocationMirrorCheck, .mirrorLate. -/
def Obligations.RefereeChecksReact : Prop :=
  (∀ (r : HubRail) (mv : Nat) (s : State), s.ref.safe = false → (∀ t : Fin 8, (s.tile t).safe = false) → s.pwr.domUp = true →
    (r = .vhub ∧ (mv < 740 ∨ 860 < mv) ∨ r = .vio ∧ (mv < 1620 ∨ 1980 < mv) ∨ r = .vaux ∧ (mv < 2970 ∨ 3630 < mv)) →
    ∃ u, exec (.supplyHub r mv) s = .next u ∧ u.ref.safe = true ∧ u.ref.fault = setBit s.ref.fault 0x15 true ∧
      (∀ t : Fin 8, (u.tile t).safe = true) ∧
      (∀ p : Fin 192, (s.port p).cc.state ≠ .bootSink → (u.port p).path.gate = false ∧ (u.port p).pol.kind = .none) ∧
      (∀ p : Fin 192, (s.port p).cc.state = .bootSink → (u.port p).path = (s.port p).path ∧ (u.port p).cc = (s.port p).cc) ∧
      (∀ p : Fin 192, (s.port p).pol.hasContract = true → (u.port p).pol.state = .errorRecovery) ∧ u.faultLow = true ∧
      u.feedA = s.feedA ∧ u.feedB = s.feedB ∧ u.hud = s.hud ∧ u.cfg = s.cfg ∧ u.cores.code = s.cores.code) ∧
  (∀ (r : HubRail) (mv : Nat) (s : State),
    (r = .vhub ∧ 740 ≤ mv ∧ mv ≤ 860 ∨ r = .vio ∧ 1620 ≤ mv ∧ mv ≤ 1980 ∨ r = .vaux ∧ 2970 ≤ mv ∧ mv ≤ 3630 ∨ s.pwr.domUp = false) →
    exec (.supplyHub r mv) s = .next s) ∧
  (∀ s : State, s.ref.safe = true → s.pwr.domUp = true →
    (∃ u, exec (.supplyHub .vaux 0) s = .next u ∧ u.ref.safe = true ∧ u.ref.fault = setBit s.ref.fault 0x15 true ∧ s.sameBut u []) ∧
    (∃ u, exec .triplicatedRegisterDisagree s = .next u ∧ u.ref.fault = setBit s.ref.fault 0x17 true ∧ s.sameBut u [])) ∧
  (∀ s : State, s.pwr.domUp = true → ∃ u, exec .triplicatedRegisterDisagree s = .next u ∧ u.ref.safe = true ∧
    u.ref.fault = setBit s.ref.fault 0x17 true ∧ u.feedA = s.feedA ∧ u.feedB = s.feedB) ∧
  (∀ s : State, exec (.romHubCheck true) s = .next s) ∧
  (∀ s : State, s.pwr.domUp = false → exec .triplicatedRegisterDisagree s = .next s ∧ exec (.romHubCheck false) s = .next s ∧
    exec .pllLockTimeout s = .next s) ∧
  (∀ s : State, s.pwr.domUp = true → ∃ u, exec (.romHubCheck false) s = .next u ∧ u.ref.safe = true ∧ u.ref.fault = setBit s.ref.fault 0x12 true) ∧
  (∀ (t : Fin 8) (s : State), exec (.romTileCheck t true) s = .next (s.modTile t fun q => { q with romOk := true })) ∧
  (∀ (t : Fin 8) (s : State), (s.tile t).safe = false → s.pwr.domUp = true →
    ∃ u, exec (.romTileCheck t false) s = .next u ∧ (u.tile t).romOk = false ∧ (u.tile t).safe = true ∧ .romTile ∈ (u.tile t).wires ∧
      u.ref.fault = setBit s.ref.fault 0x13 true ∧ u.ref.safe = s.ref.safe ∧
      (∀ p : Fin 192, tileOf p = t → (s.port p).cc.state ≠ .bootSink → (u.port p).path.gate = false) ∧
      (∀ p : Fin 192, tileOf p ≠ t → u.port p = s.port p) ∧ (∀ q : Fin 8, q ≠ t → u.tile q = s.tile q)) ∧
  (∀ (t : Fin 8) (mv : Nat) (s : State), (s.tile t).safe = false → s.pwr.domUp = true → (s.tile t).released = true →
    (mv < 4500 ∨ 5500 < mv) →
    ∃ u, exec (.supplyTile t mv) s = .next u ∧ (u.tile t).vtOut = true ∧ (u.tile t).vtAt = s.aon ∧ (u.tile t).safe = true ∧
      .supply ∈ (u.tile t).wires ∧ u.ref.fault = setBit s.ref.fault 0x16 true ∧
      (∀ p : Fin 192, tileOf p = t → (s.port p).cc.state ≠ .bootSink → (u.port p).path.gate = false) ∧
      (∀ p : Fin 192, tileOf p ≠ t → u.port p = s.port p)) ∧
  (∀ (t : Fin 8) (mv : Nat) (s : State), (4500 ≤ mv ∧ mv ≤ 5500 ∨ (s.tile t).released = false) →
    exec (.supplyTile t mv) s = .next s) ∧
  (∀ s : State, s.pwr.pllRun = true → exec .pllLockTimeout s = .next s) ∧
  (∀ s : State, s.pwr.pllRun = false → s.pwr.domUp = true →
    ∃ u, exec .pllLockTimeout s = .next u ∧ u.pwr.pllLate = true ∧ u.pwr.pllLock = s.pwr.pllLock ∧ u.ref.safe = true ∧ u.ref.fault = setBit s.ref.fault 1 true) ∧
  (∀ s : State, s.ref.selfOk = false → s.pwr.domUp = true → ∃ u, exec (.refereeSelftestDone true) s = .next u ∧ u.ref = { s.ref with selfOk := true } ∧
    (∀ t : Fin 8, ¬ .selfTest ∈ (u.tile t).wires) ∧ u.ports = s.ports ∧ u.feedA = s.feedA) ∧
  (∀ (b : Bool) (s : State), (s.ref.selfOk = true ∨ s.pwr.domUp = false) → exec (.refereeSelftestDone b) s = .next s) ∧
  (∀ s : State, s.ref.selfOk = false → s.pwr.domUp = true → ∃ u, exec (.refereeSelftestDone false) s = .next u ∧ u.ref.safe = true ∧ u.ref.fault = setBit s.ref.fault 0x17 true) ∧
  (∀ (d : Int) (s : State), s.pwr.domUp = true → d.natAbs ≤ 125 →
    exec (.clockMonitorWindow .pll d false) s = .next (s.modRef fun r => { r with pllDev := satInt 16 d, pllBad := 0 })) ∧
  (∀ (d : Int) (s : State), s.pwr.domUp = true → 125 < d.natAbs → s.ref.pllBad < 3 →
    ∃ u, exec (.clockMonitorWindow .pll d false) s = .next u ∧ u.ref.pllBad = s.ref.pllBad + 1 ∧ u.ref.safe = s.ref.safe ∧ s.sameBut u []) ∧
  (∀ (d : Int) (s : State), s.pwr.domUp = true → 125 < d.natAbs → 3 ≤ s.ref.pllBad →
    ∃ u, exec (.clockMonitorWindow .pll d false) s = .next u ∧ u.ref.safe = true ∧ u.ref.fault = setBit s.ref.fault 1 true) ∧
  (∀ (d : Int) (s : State), s.pwr.domUp = true → 3 ≤ s.ref.rcBad →
    ∃ u, exec (.clockMonitorWindow .rc d true) s = .next u ∧ u.ref.safe = true ∧ u.ref.fault = setBit s.ref.fault 2 true) ∧
  (∀ (d : Int) (s : State), s.pwr.domUp = true → 125 < d.natAbs →
    ∃ u, exec (.clockMonitorWindow .aon d false) s = .next u ∧ u.ref.safe = true ∧ u.ref.fault = setBit s.ref.fault 2 true) ∧
  (∀ s : State, s.pwr.domUp = true → s.ref.mirrorDue = true → s.mirrorOk = true →
    ∃ u, exec (.allocationMirrorCheck true) s = .next u ∧ u.ref.allocSum = s.ref.mirror.sum ∧ u.ref.prevBeff = s.ref.mirrorBeff ∧
      u.ref.mirrorDue = false ∧ u.ref.safe = s.ref.safe ∧ u.ref.fault = s.ref.fault ∧ s.sameBut u []) ∧
  (∀ s : State, s.pwr.domUp = true → s.ref.mirrorDue = true → s.board.suspended = false → s.ref.mirrorBeff < s.ref.mirror.sum →
    ∃ u, exec (.allocationMirrorCheck true) s = .next u ∧ u.ref.safe = true ∧ u.ref.fault = setBit s.ref.fault 5 true ∧
      u.ref.allocSum = s.ref.mirror.sum) ∧
  (∀ s : State, s.pwr.domUp = true → s.ref.mirrorDue = true → s.mirrorOk = true →
    ∃ u, exec (.allocationMirrorCheck false) s = .next u ∧ u.ref.safe = true ∧ u.ref.fault = setBit s.ref.fault 0x17 true) ∧
  (∀ s : State, s.pwr.domUp = true → s.ref.mirrorDue = true →
    ∃ u, exec .mirrorLate s = .next u ∧ u.ref.safe = true ∧ u.ref.mirrorDue = false ∧ u.ref.fault = setBit s.ref.fault 6 true) ∧
  (∀ s : State, (s.ref.mirrorDue = false ∨ s.pwr.domUp = false) → exec .mirrorLate s = .next s ∧ ∀ b, exec (.allocationMirrorCheck b) s = .next s)

/-- R380, R383, R392, R514: a tile's digest in sequence is counted; a third out of sequence, or none, asserts the safe wire; an
over-voltage that no comparator acted on takes the port to its safe state on the second digest.
Where the rules leave a corner open it is the model's choice: log entries 33 and 34.
Each of these commands completes here (the conclusion is a next state with its own effect, from conditions on the state and the
operands alone): .digestReceived, .digestLost, .portReactionTimeout. -/
def Obligations.DigestsEvaluated : Prop :=
  (∀ (t : Fin 8) (k : Fin 64) (l : List DigPort) (s : State), (s.tile t).link = .up → s.pwr.domUp = true →
    (s.tile t).digTick = some ((k.val + 63) % 64) →
    (∀ d ∈ l, d.upper = true ∧ d.v0low = false ∧ 600 ≤ d.mv ∧ d.mv ≤ 800) → (∀ e ∈ s.ref.ccRun, e.2 < 20) →
    ∃ u, exec (.digestReceived t k true l []) s = .next u ∧ (u.tile t).digTick = some k.val ∧ (u.tile t).digBad = 0 ∧
      (u.tile t).digGood = (s.tile t).digGood + 1 ∧ (u.tile t).safe = (s.tile t).safe ∧ u.ports = s.ports ∧
      u.ref.fault = s.ref.fault ∧ u.link = s.link ∧
      u.ref.cmdDue = s.ref.cmdDue.filter fun n => n / 24 != t.val) ∧
  (∀ (t : Fin 8) (k : Fin 64) (j : Nat) (l : List DigPort) (s : State), (s.tile t).link = .up → s.pwr.domUp = true →
    (s.tile t).digTick = some j →
    k.val ≠ (j + 1) % 64 → 2 ≤ (s.tile t).digBad → (s.tile t).safe = false → ¬ .digestLost ∈ (s.tile t).wires →
    ∃ u, exec (.digestReceived t k true l []) s = .next u ∧ .digestLost ∈ (u.tile t).wires ∧ (u.tile t).safe = true ∧
      u.ref.fault = setBit s.ref.fault 8 true ∧ (∀ p : Fin 192, tileOf p = t → (s.port p).cc.state ≠ .bootSink → (u.port p).path.gate = false)) ∧
  (∀ (t : Fin 8) (p : Fin 192) (k : Fin 64) (l : List DigPort) (d : DigPort) (s : State), (s.tile t).link = .up →
    s.pwr.domUp = true → (s.tile t).digTick = none → tileOf p = t → l[localIdx p]? = some d →
    (∀ (j : Nat) (e : DigPort), l[j]? = some e → j ≠ localIdx p → e.upper = true ∧ e.v0low = false ∧ 600 ≤ e.mv ∧ e.mv ≤ 800) →
    d.gate = true → d.window ≠ .off → d.upper = false → d.winHi * 102 ≤ d.mv * 100 → p.val ∈ s.ref.ovRun →
    (s.port p).retry.lock = .none → (∀ e ∈ s.ref.ccRun, e.2 < 20) →
    ∃ u, exec (.digestReceived t k true l []) s = .next u ∧ (u.port p).path.gate = false ∧ (u.port p).cc.state = .lockedOut ∧
      (u.port p).retry.lock = .cmpStuck ∧ u.ref.fault.getLsbD 9 = true ∧ p.val ∈ u.ref.cmdDue ∧ u.ref.safe = s.ref.safe ∧
      (∀ q : Fin 192, q ≠ p → u.port q = s.port q)) ∧
  (∀ (t : Fin 8) (j : Fin 24) (k : Fin 64) (l : List DigPort) (ma : Nat) (s : State), (s.tile t).link = .up → s.pwr.domUp = true →
    (s.tile t).digTick = some ((k.val + 63) % 64) →
    (∀ d ∈ l, d.upper = true ∧ d.v0low = false ∧ 600 ≤ d.mv ∧ d.mv ≤ 800) → (∀ e ∈ s.ref.ccRun, e.2 < 20) →
    (s.port (portAt t j)).mayTrip = true → 200 ≤ ma →
    ∃ u, exec (.digestReceived t k true l [(j, [.reverse ma])]) s = .next u ∧ (u.port (portAt t j)).path.gate = false ∧
      (u.port (portAt t j)).path.disTrip = true ∧ u.ref.fault = s.ref.fault ∧ (∀ q : Fin 192, q ≠ portAt t j → u.port q = s.port q)) ∧
  (∀ (t : Fin 8) (k : Fin 64) (b : Bool) (l : List DigPort) (a : List (Fin 24 × List Tripping)) (s : State),
    (b = false ∨ (s.tile t).link ≠ .up ∨ s.pwr.domUp = false) → exec (.digestReceived t k b l a) s = .next s) ∧
  (∀ (t : Fin 8) (s : State), (s.tile t).link = .up → s.pwr.domUp = true → ¬ .digestLost ∈ (s.tile t).wires → (s.tile t).safe = false →
    ∃ u, exec (.digestLost t) s = .next u ∧ .digestLost ∈ (u.tile t).wires ∧ (u.tile t).safe = true ∧
      u.ref.fault = setBit s.ref.fault 8 true ∧ (∀ p : Fin 192, tileOf p = t → (s.port p).cc.state ≠ .bootSink → (u.port p).path.gate = false) ∧
      (∀ p : Fin 192, tileOf p ≠ t → u.port p = s.port p)) ∧
  (∀ (t : Fin 8) (s : State), ((s.tile t).link ≠ .up ∨ s.pwr.domUp = false) → exec (.digestLost t) s = .next s) ∧
  (∀ (p : Fin 192) (s : State), ¬ p.val ∈ s.ref.cmdDue → exec (.portReactionTimeout p) s = .next s) ∧
  (∀ (p : Fin 192) (s : State), (s.tile (tileOf p)).safe = false → p.val ∈ s.ref.cmdDue →
    ∃ u, exec (.portReactionTimeout p) s = .next u ∧ .port ∈ (u.tile (tileOf p)).wires ∧ (u.tile (tileOf p)).safe = true ∧
      ¬ p.val ∈ u.ref.cmdDue ∧
      (∀ q : Fin 192, tileOf q = tileOf p → (s.port q).cc.state ≠ .bootSink → (u.port q).path.gate = false) ∧
      (∀ q : Fin 192, tileOf q ≠ tileOf p → u.port q = s.port q) ∧ u.ref.fault = s.ref.fault)

/-! ### Clocks, power and reset (15) -/

/-- R319, R321, R350, R397, R401, R406, R409, R410: the fence of the host link, its end, and the small changes of AON and device state.
Where the rules leave a corner open it is the model's choice: log entries 37 and 60.
Each of these commands completes here (the conclusion is a next state with its own effect, from conditions on the state and the
operands alone): .perstNFall, .perstNRise, .functionLevelReset, .d3hotEntry, .d0Return, .pcieLinkTrained, .idleEntry,
.xaCrystalFail, .xaCrystalRecover, .pllLocked. -/
def Obligations.HostFenceAndAon : Prop :=
  (∀ s : State, s.pwr.dev ≠ .deep → (∀ p : Fin 192, (s.port p).sc.deep = false) →
    ∃ u, exec .perstNFall s = .next u ∧ u.hostFenced = true ∧ u.link.perst = false ∧ u.link.fenceSeen = true ∧ u.link.sess = 0 ∧
      u.link.fetched = [] ∧ (∀ w ∈ u.link.waiting, w ∈ s.link.waiting ∧ w.what = .pages) ∧ u.link.msix = Link.reset.msix ∧
      u.link.backlog = s.link.backlog ∧ u.link.sumMap = s.link.sumMap ∧
      (∀ n : Fin 14, u.ring n.val = ringReset) ∧ u.pwr.cause.getLsbD 3 = true ∧ u.pwr.powered.getLsbD domHost = false ∧
      s.sameBut u []) ∧
  (∀ s : State, s.pwr.dev = .deep → exec .perstNFall s = .next { s with link := { s.link with perst := false, d3 := false } }) ∧
  (∀ s : State, s.pwr.dev = .run →
    ∃ u, exec .perstNRise s = .next u ∧ u.link.perst = true ∧ u.pwr.powered.getLsbD domHost = true ∧ u.hostFenced = s.hostFenced ∧
      u.rings = s.rings ∧ s.sameBut u []) ∧
  (∀ s : State, s.hostUp = true → (∀ p : Fin 192, (s.port p).sc.deep = false) →
    ∃ u, exec .functionLevelReset s = .next u ∧ u.hostFenced = true ∧ u.link.perst = s.link.perst ∧ u.pwr.cause.getLsbD 3 = true ∧
      (∀ n : Fin 14, u.ring n.val = ringReset) ∧ s.sameBut u []) ∧
  (∀ s : State, s.hostUp = true → (∀ p : Fin 192, (s.port p).sc.deep = false) →
    ∃ u, exec .d3hotEntry s = .next u ∧ u.hostFenced = true ∧ u.link.d3 = true ∧ u.pwr.cause = s.pwr.cause ∧
      (∀ n : Fin 14, u.ring n.val = ringReset) ∧ s.sameBut u []) ∧
  (∀ (v w : Fin 16) (s : State), s.link.d3 = true → s.link.perst = true → s.pwr.dev ≠ .deep → 1 ≤ v.val → v.val ≤ 3 → 1 ≤ w.val →
    w.val ≤ 2 →
    ∃ u, exec (.d0Return v w) s = .next u ∧ u.hostFenced = false ∧ u.link.d3 = false ∧ u.link.speed = v.val ∧ u.link.width = w.val ∧
      u.rings = s.rings ∧ s.sameBut u []) ∧
  (∀ (v w : Fin 16) (s : State), s.link.perst = true → s.link.d3 = false → s.pwr.dev ≠ .deep → s.pwr.pllRun = true →
    s.pwr.powered.getLsbD domHost = true → 1 ≤ v.val → v.val ≤ 3 → 1 ≤ w.val → w.val ≤ 2 →
    ∃ u, exec (.pcieLinkTrained v w) s = .next u ∧ u.hostFenced = false ∧ u.link.trained = true ∧ u.link.speed = v.val ∧
      u.link.width = w.val ∧ u.rings = s.rings ∧ s.sameBut u []) ∧
  (∀ (v w : Fin 16) (s : State), (s.link.perst = false ∨ v.val = 0 ∨ 3 < v.val ∨ w.val = 0 ∨ 2 < w.val) → exec (.pcieLinkTrained v w) s = .next s ∧ exec (.d0Return v w) s = .next s) ∧
  (∀ s : State, s.pwr.dev = .run → (∀ k : Fin 4, (s.coreAt k).state = .idle ∧ (s.coreAt k).assign = none) → s.readyList = [] →
    s.link.fetched = [] → s.link.loads = [] → (∀ p : Fin 192, (s.port p).sc.deep = false) →
    exec .idleEntry s = .next { s with pwr := { s.pwr with dev := .idle } }) ∧
  (∀ s : State, s.link.fetched ≠ [] → exec .idleEntry s = .next s) ∧
  (∀ s : State, exec .xaCrystalFail s = .next { s with pwr := { s.pwr with xaFail := true, xaSeen := true } } ∧
    exec .xaCrystalRecover s = .next { s with pwr := { s.pwr with xaFail := false } }) ∧
  (∀ s : State, s.pwr.dev ≠ .deep → s.pwr.domUp = true → s.pwr.pllRun = false →
    exec .pllLocked s = .next { s with pwr := { s.pwr with pllRun := true, pllLock := ! s.pwr.pllLate } }) ∧
  (∀ s : State, s.pwr.pllRun = true → exec .pllLocked s = .next s) ∧
  (∀ (v w : Fin 16) (s : State), s.pwr.pllRun = false → exec (.pcieLinkTrained v w) s = .next s)

/-- R25, R179, R203, R387, R396, R399, R402–R408, R432: what each reset keeps and what it returns to its reset value; the release of the
tiles; entering DEEP and waking.
Where the rules leave a corner open it is the model's choice: log entries 6, 35, 36 and 37.
Each of these commands completes here (the conclusion is a next state with its own effect, from conditions on the state and the
operands alone): .powerOnReset, .deviceReset, .domainRelease, .tileRelease, .tileSupplyRecover, .deepEntry, .wake. -/
def Obligations.ResetsDeepAndWake : Prop :=
  (∀ s : State, s.upd.dl = none →
    ∃ u, exec .powerOnReset s = .next u ∧ u.ports = State.reset.ports ∧ u.tiles = State.reset.tiles ∧ u.feedA = State.reset.feedA ∧
      u.cfg = State.reset.cfg ∧ u.rings = State.reset.rings ∧ u.ref = State.reset.ref ∧ u.pwr = State.reset.pwr ∧
      u.cores = State.reset.cores ∧ u.rtc = 0 ∧ u.fuse.aNorm = s.fuse.aNorm ∧ u.fuse.bNorm = s.fuse.bNorm ∧ u.upd.slotA = s.upd.slotA ∧
      u.upd.slotB = s.upd.slotB ∧ u.upd.boot0 = s.upd.boot0 ∧ u.svc.techKey = s.svc.techKey ∧ u.link.perst = s.link.perst ∧
      u.board.seated = s.board.seated ∧ u.pending = s.pending) ∧
  (∀ s : State, s.pwr.ctrlReset = false → exec (.deviceReset .ctrl) s = .next s) ∧
  (∀ (c : ResetCause) (s : State), s.upd.dl = none → (c = .ctrl → s.pwr.ctrlReset = true) →
    ∃ u, exec (.deviceReset c) s = .next u ∧
      (∀ p : Fin 192, (u.port p).path = Path.reset ∧ (u.port p).pol = Pol.reset ∧ (u.port p).retry.f = (s.port p).retry.f ∧
        (u.port p).retry.due = (s.port p).retry.due ∧ (u.port p).retry.lock = (s.port p).retry.lock ∧
        ((s.port p).cc.state = .bootSink ∨ (s.port p).cc.state = .bootRd → (u.port p).cc = (s.port p).cc) ∧
        ((s.port p).cc.state ≠ .bootSink → (s.port p).cc.state ≠ .bootRd →
          (u.port p).cc.state = (if (s.port p).retry.lock.stands then .lockedOut else .watch))) ∧
      u.feedA.retryCnt = s.feedA.retryCnt ∧ u.feedA.due = s.feedA.due ∧ u.feedA.cause = s.feedA.cause ∧ u.feedA.gate = false ∧
      u.feedB.gate = false ∧ u.tiles = State.reset.tiles ∧ u.cfg = State.reset.cfg ∧ u.rings = State.reset.rings ∧
      u.ref = { State.reset.ref with hb := List.replicate 4 s.aon } ∧ u.pwr.refAct = s.pwr.refSel ∧ u.pwr.pllRun = false ∧
      (∀ k : Fin 14, u.domFenced k.val = true) ∧ u.cores = State.reset.cores ∧ u.rtc = s.rtc ∧ u.aon = s.aon ∧ u.pwr.refSel = s.pwr.refSel ∧ u.pwr.pllLock = false ∧
      u.pwr.cause = setBit s.pwr.cause (if c = .supply then 2 else 1) true ∧ u.hud.join = s.hud.join ∧ u.hud.timeout = s.hud.timeout ∧
      u.hud.staged = [] ∧ u.svc.lockN = s.svc.lockN ∧ u.svc.lockEnd = s.svc.lockEnd ∧ u.fuse.aNorm = s.fuse.aNorm ∧
      u.pending = s.pending) ∧
  (∀ (b tm : Bool) (l : List FuseRead) (v : Nat) (s : State), s.pwr.domUp = false → s.pwr.dev ≠ .deep →
    ∃ u, exec (.domainRelease b tm l v) s = .next u ∧ u.pwr.domUp = true ∧ u.pwr.bootsel = b ∧ u.fuse.read = true ∧
      (u.pwr.powered.getLsbD domHost = s.link.perst) ∧ (tm = false → u.pwr.testHold = false) ∧
      (tm = true → u.bootStatus .factory = .locked → u.pwr.testHold = true ∧ u.faultLow = true ∧ u.ref.fault.getLsbD 0x17 = true)) ∧
  (∀ (b tm : Bool) (l : List FuseRead) (v : Nat) (s : State), s.pwr.domUp = true → exec (.domainRelease b tm l v) s = .next s) ∧
  (∀ (t : Fin 8) (mv : Nat) (s : State), s.pwr.dev ≠ .deep → s.pwr.domUp = true → s.pwr.pllLock = true → s.ref.selfOk = true →
    s.ref.factoryOk = true → s.ref.safe = false → s.pwr.testHold = false → (s.tile t).released = false → (s.tile t).late = false →
    (∀ q : Fin 8, q < t → (s.tile q).released = true) →
    (4500 ≤ mv → mv ≤ 5500 →
      ∃ u, exec (.tileRelease t mv) s = .next u ∧ (u.tile t).released = true ∧ (u.tile t).link = .training ∧
        u.pwr.powered.getLsbD (domTile t) = true ∧ (∀ q : Fin 8, q ≠ t → u.tile q = s.tile q) ∧ u.ref = s.ref ∧
        (∀ p : Fin 192, (u.port p).path = (s.port p).path) ∧
        ((∀ q : Fin 8, q ≠ t → (s.tile q).released = true) → s.pwr.woke = false →
          u.domFenced domFeed = false ∧ u.domFenced domSvc = false)) ∧
    ((mv < 4500 ∨ 5500 < mv) → (s.tile t).safe = false → ∃ u, exec (.tileRelease t mv) s = .next u ∧ (u.tile t).late = true ∧
      (u.tile t).vtOut = true ∧ (u.tile t).released = false ∧ .supply ∈ (u.tile t).wires ∧
      u.ref.fault = setBit s.ref.fault 0x16 true)) ∧
  (∀ (t : Fin 8) (mv : Nat) (s : State), (s.ref.selfOk = false ∨ s.ref.factoryOk = false ∨ s.pwr.pllLock = false ∨ s.ref.safe = true ∨
      s.pwr.testHold = true) →
    exec (.tileRelease t mv) s = .next s) ∧
  (∀ (t : Fin 8) (mv : Nat) (s : State), (mv < 4500 ∨ 5500 < mv ∨ (s.tile t).late = false) → exec (.tileSupplyRecover t mv) s = .next s) ∧
  (∀ (t : Fin 8) (mv : Nat) (s : State), (s.tile t).late = true → s.pwr.dev ≠ .deep → s.ref.safe = false → 4500 ≤ mv → mv ≤ 5500 →
    ∃ u, exec (.tileSupplyRecover t mv) s = .next u ∧ (u.tile t).released = true ∧ (u.tile t).late = false ∧ (u.tile t).link = .training ∧
      (u.tile t).wires = (s.tile t).wires ∧ (u.tile t).vtOut = false ∧ (u.tile t).vtAt = s.aon ∧ u.pwr.cause = setBit s.pwr.cause 5 true ∧ u.ports = s.ports) ∧
  (∀ (a : Nat) (s : State), s.pwr.dev = .idle → (∀ b ∈ s.deepConds, b = true) → s.fuse.busy = false →
    s.pwr.deepSince = some a → secCycles s.pwr.deepDwell ≤ s.aon - a → s.ref.poison = [] →
    ∃ u, exec (.deepEntry none) s = .next u ∧ u.pwr.dev = .deep ∧ (∀ t : Fin 8, (u.tile t).released = false ∧ (u.tile t).late = false) ∧ u.pwr.deepCnt = s.pwr.deepCnt.inc32 ∧ u.pwr.powered = 0#14 ∧
      u.cfg.params = s.cfg.params ∧ u.cfg.budget = s.cfg.budget ∧ u.cfg.stOvr = s.cfg.stOvr ∧ u.link.backlog = [] ∧
      u.link.pages = [] ∧ u.cores.code = State.reset.cores.code ∧
      (∀ p : Fin 192, (u.port p).cc = { (s.port p).cc with
          detachRun := 0, rp := if (s.port p).cc.state = .attached then .off else (s.port p).cc.rp } ∧ (u.port p).retry = (s.port p).retry ∧
        (u.port p).pol.enabled = (s.port p).pol.enabled ∧ (u.port p).pol.profile = (s.port p).pol.profile ∧
        (u.port p).pol.custom = (s.port p).pol.custom ∧ (u.port p).smp.energy = (s.port p).smp.energy ∧
        (u.port p).sb.temp = (s.port p).sb.temp ∧ (u.port p).smp.tlmGap = true ∧ (u.port p).path.gate = false) ∧
      u.feedA.gate = s.feedA.gate ∧ u.feedB.gate = s.feedB.gate ∧ u.rtc = s.rtc ∧ u.hud.join = s.hud.join) ∧
  (∀ (c : Option (Fin 5 × BitVec 8)) (s : State), s.pwr.dev = .idle → (∃ b ∈ s.deepConds, b = false) → exec (.deepEntry c) s = .next s) ∧
  (∀ (c : Option (Fin 5 × BitVec 8)) (a : Nat) (s : State), s.pwr.deepSince = some a → s.aon - a < secCycles s.pwr.deepDwell →
    exec (.deepEntry c) s = .next s) ∧
  (∀ (k : Fin 5) (w : BitVec 8) (a : Nat) (s : State), s.pwr.dev = .idle → (∀ b ∈ s.deepConds, b = true) → s.fuse.busy = false →
    s.pwr.deepSince = some a → secCycles s.pwr.deepDwell ≤ s.aon - a → s.ref.poison = [] → k.val < 4 → w ≠ 0#8 →
    ∃ u, exec (.deepEntry (some (k, w))) s = .next u ∧ u.pwr.dev = .run ∧ u.pwr.wake = w.setWidth 16 ∧ u.pwr.deepCnt = s.pwr.deepCnt ∧
      u.pwr.powered = s.pwr.powered ∧ (k.val = 0 → u.link.backlog = s.link.backlog) ∧ (1 ≤ k.val → u.link.backlog = []) ∧
      (∀ p : Fin 192, u.portFenced p = (if k.val = 3 then true else s.portFenced p)) ∧ u.feedA.gate = s.feedA.gate) ∧
  (∀ (svc : Bool) (s : State), (s.wakeSources svc).getLsbD 7 = (s.pwr.wake.getLsbD 7 || svc) ∧
    (s.wakeSources svc).getLsbD 5 = (s.pwr.wake.getLsbD 5 || (s.upd.armed == some .atTime && decide (s.upd.actAt ≤ s.rtc / 32768))) ∧
    (∀ n : Nat, n < 16 → n ≠ 2 → n ≠ 5 → n ≠ 7 → (s.wakeSources svc).getLsbD n = s.pwr.wake.getLsbD n)) ∧
  (∀ (svc : Bool) (l : List FuseRead) (vpp : Nat) (s : State), s.pwr.dev = .deep → s.wakeSources svc ≠ 0#16 →
    (∀ t : Fin 8, (s.tile t).released = false ∧ (s.tile t).late = false) →
    ∃ u, exec (.wake svc l vpp) s = .next u ∧ u.pwr.dev = .run ∧ u.pwr.domUp = true ∧ u.pwr.wake = s.wakeSources svc ∧
      u.pwr.refAct = s.pwr.refSel ∧ u.pwr.powered = setBit 0x0003#14 domHost s.link.perst ∧
      u.ref.factoryOk = (u.fuse.status .factory == .locked) ∧ u.fuse.read = true ∧ (∀ p : Fin 192, u.portFenced p = true) ∧ u.rtc = s.rtc ∧
      u.feedA.gate = s.feedA.gate ∧
      (∀ p : Fin 192, (s.port p).cc.state = .bootSink → (s.port p).cc.attachPend = true →
        (u.port p).cc.attachPend = false ∧ (u.port p).cnt.attach = (s.port p).cnt.attach.inc32)) ∧
  (∀ (svc : Bool) (l : List FuseRead) (vpp : Nat) (s : State), (s.pwr.dev ≠ .deep ∨ s.wakeSources svc = 0#16) →
    exec (.wake svc l vpp) s = .next s)

/-! ### Fuse memory (16) -/

/-- R421, R422, R424–R426, R428, R429, R435: what each operation of the host does when the controller takes it: the bits it will pulse,
in order, or its refusal, which leaves the array as it was.
Where the rules leave a corner open it is the model's choice: log entries 13 and 53.
Each of these commands completes here (the conclusion is a next state with its own effect, from conditions on the state and the
operands alone): .programWord, .integrity, .lock, .forceLock, .readLock, .reinforce, .audit, .floorAdvance, .fuseReservedOp. -/
def Obligations.FuseOperationsStart : Prop :=
  (∀ (a : BitVec 8) (s : State), s.fuseFree → regionAt a.toNat ≠ .floor → regionAt a.toNat ≠ .locks →
    s.fuse.wdata &&& reservedBits a.toNat = 0#32 → s.fuse.sealed (regionAt a.toNat) = none →
    ∃ u, exec (.programWord .host a 6500) s = .next u ∧ s.fuseRuns u .program 0 a (wordBits a.toNat s.fuse.wdata)) ∧
  (∀ (a : BitVec 8) (v : Nat) (s : State), s.fuseFree → (regionAt a.toNat = .floor ∨ regionAt a.toNat = .locks) →
    ∃ u, exec (.programWord .host a v) s = .next u ∧ s.fuseRefused u .bad) ∧
  (∀ (a : BitVec 8) (v : Nat) (s : State), s.fuseFree → regionAt a.toNat ≠ .floor → regionAt a.toNat ≠ .locks →
    s.fuse.wdata &&& reservedBits a.toNat = 0#32 → (s.fuse.wl (regionAt a.toNat) = true ∨ s.fuse.force (regionAt a.toNat) = true) →
    ∃ u, exec (.programWord .host a v) s = .next u ∧ s.fuseRefused u .locked) ∧
  (∀ (k : Fin 16) (r : FuseRegion) (s : State), s.fuseFree → lockable k.val = some r → s.fuse.wl r = false → s.fuse.force r = false →
    s.fuse.iv r = false → s.fuse.intWord r = 0#32 →
    ∃ u, exec (.integrity .host k 6500) s = .next u ∧
      s.fuseRuns u .integrity k 0#8 (wordBits (0xEC + r.code) (s.fuse.intCrc r) ++ [lockIdx r 3])) ∧
  (∀ (k : Fin 16) (r : FuseRegion) (v : Nat) (s : State), s.fuseFree → lockable k.val = some r → s.fuse.wl r = false →
    s.fuse.force r = false → s.fuse.iv r = true →
    ∃ u, exec (.integrity .host k v) s = .next u ∧ s.fuseRefused u (if s.fuse.intWord r = s.fuse.intCrc r then .ok else .integrity)) ∧
  (∀ (k : Fin 16) (r : FuseRegion) (s : State), s.fuseFree → lockable k.val = some r → s.fuse.wl r = false → s.fuse.force r = false →
    s.fuse.iv r = true → s.fuse.intWord r = s.fuse.intCrc r →
    ∃ u, exec (.lock .host k 6500) s = .next u ∧ s.fuseRuns u .lock k 0#8 [lockIdx r 0]) ∧
  (∀ (k : Fin 16) (r : FuseRegion) (v : Nat) (s : State), s.fuseFree → lockable k.val = some r → s.fuse.wl r = false →
    s.fuse.force r = false → (s.fuse.iv r = false ∨ s.fuse.intWord r ≠ s.fuse.intCrc r) →
    ∃ u, exec (.lock .host k v) s = .next u ∧ s.fuseRefused u .integrity) ∧
  (∀ (k : Fin 16) (v : Nat) (s : State), s.fuseFree → lockable k.val = none →
    (∃ u, exec (.integrity .host k v) s = .next u ∧ s.fuseRefused u .bad) ∧ (∃ u, exec (.lock .host k v) s = .next u ∧ s.fuseRefused u .bad) ∧
    (∃ u, exec (.forceLock .host k v) s = .next u ∧ s.fuseRefused u .bad)) ∧
  (∀ (k : Fin 16) (r : FuseRegion) (s : State), s.fuseFree → lockable k.val = some r →
    ∃ u, exec (.forceLock .host k 6500) s = .next u ∧ s.fuseRuns u .forceLock k 0#8 [lockIdx r 2, lockIdx r 0]) ∧
  (∀ (k : Fin 16) (r : FuseRegion) (s : State), s.fuseFree → (k.val = 4 ∧ r = .patch ∨ k.val = 6 ∧ r = .oem) →
    ∃ u, exec (.readLock .host k 6500) s = .next u ∧ s.fuseRuns u .readLock k 0#8 [lockIdx r 1]) ∧
  (∀ (k : Fin 16) (v : Nat) (s : State), s.fuseFree → k.val ≠ 4 → k.val ≠ 6 →
    ∃ u, exec (.readLock .host k v) s = .next u ∧ s.fuseRefused u .bad) ∧
  (∀ (k : Fin 16) (s : State), s.fuseFree → (k.val < 8 ∨ k.val = 15) →
    ∃ u l, exec (.reinforce .host k 6500) s = .next u ∧ s.fuseRuns u .reinforce k 0#8 l ∧
      (∀ b ∈ l, s.fuse.norm.getLsbD b.val = true)) ∧
  (∀ (k : Fin 16) (s : State), s.fuseFree → (k.val < 8 ∨ k.val = 15) →
    ∃ u, exec (.audit .host k []) s = .next u ∧ u.fuse.auditing = true ∧ u.fuse.job.isSome = true ∧ s.fuse.sameArray u.fuse) ∧
  (∀ (k : Fin 16) (v : Nat) (s : State), s.fuseFree → 8 ≤ k.val → k.val ≠ 15 →
    (∃ u, exec (.reinforce .host k v) s = .next u ∧ s.fuseRefused u .bad) ∧ (∃ u, exec (.audit .host k []) s = .next u ∧ s.fuseRefused u .bad)) ∧
  (∀ s : State, s.fuseFree → s.fuse.floorValue ≤ s.fuse.wdata.toNat % 256 → s.fuse.wdata.toNat % 256 ≤ 128 →
    ∃ u, exec (.floorAdvance .host 6500) s = .next u ∧ s.fuseRuns u .floorAdvance 0 0#8
      (((List.range (s.fuse.wdata.toNat % 256)).filter fun k => ! s.fuse.floorBit k).map fun k => bitIdx (0xC8 * 32 + k))) ∧
  (∀ (v : Nat) (s : State), s.fuseFree → (s.fuse.wdata.toNat % 256 < s.fuse.floorValue ∨ 128 < s.fuse.wdata.toNat % 256) →
    ∃ u, exec (.floorAdvance .host v) s = .next u ∧ s.fuseRefused u .bad) ∧
  (∀ (n : Fin 8) (k : Fin 16) (s : State), s.fuseFree →
    ∃ u, exec (.fuseReservedOp .host n k) s = .next u ∧ s.fuseRefused u .bad) ∧
  (∀ (v : Nat) (s : State), s.fuseFree → ((1000 ≤ v ∧ v < 6200) ∨ 6800 < v) →
    ∃ u, exec (.forceLock .host 6 v) s = .next u ∧ s.fuseRefused u .env) ∧
  (∀ (a : BitVec 8) (v : Nat) (s : State), s.hostUp = true → s.fuse.busy = false → s.techOn .host = true → s.expertOn .host = false →
    ∃ u, exec (.programWord .host a v) s = .next u ∧ u.fuse.result = .notPermitted ∧ u.fuse.job = none ∧ s.fuse.sameArray u.fuse) ∧
  (∀ (k : Fin 16) (v : Nat) (s : State), s.pwr.dev = .run → s.fuse.busy = true →
    exec (.lock .host k v) s = .next s ∧ exec (.integrity .host k v) s = .next s ∧ exec (.floorAdvance .host v) s = .next s) ∧
  (∀ (k : Fin 16) (v : Nat) (s : State), s.hostUp = true → s.fuse.busy = false → s.fuse.auditing = true → s.techOn .host = true →
    ∃ u j, exec (.lock .host k v) s = .next u ∧ u.fuse.held = some j ∧ j.op = .lock ∧ j.region = k ∧ u.fuse.busy = true ∧
      s.fuse.sameArray u.fuse)

/-- R415, R420, R422, R427, R429, R436: how an operation ends: its bits are programmed in order up to a copy that fails, and no logical bit
that read 1 at normal reference reads 0 after it; a held operation starts when the audit ends; a read through FU_RADDR.
Where the rules leave a corner open it is the model's choice: log entries 5 and 53.
Each of these commands completes here (the conclusion is a next state with its own effect, from conditions on the state and the
operands alone): .fuseOperationDone, .fuseSupplyLost, .fuseAuditPeriodic, .fuseHeldOpStart, .fuRaddrWrite. -/
def Obligations.FuseOperationsEnd : Prop :=
  (∀ (j : FuseJob) (s : State), s.fuse.job = some j → j.op ≠ .audit → j.op ≠ .reinforce → j.svc = none → j.agent = false →
    s.fuse.auditDue = false →
    ∃ u, exec (.fuseOperationDone none) s = .next u ∧ u.fuse.job = none ∧ u.fuse.result = .ok ∧
      (∀ k : Fin 8192, ¬ k ∈ j.todo → u.fuse.norm.getLsbD k.val = s.fuse.norm.getLsbD k.val) ∧
      (∀ k : Fin 8192, s.fuse.norm.getLsbD k.val = true → u.fuse.norm.getLsbD k.val = true) ∧
      (∀ k ∈ j.todo, u.fuse.aHigh.getLsbD k.val = true ∧ u.fuse.bHigh.getLsbD k.val = true ∧
        (s.fuse.aHigh.getLsbD k.val = false ∨ s.fuse.bHigh.getLsbD k.val = false → u.fuse.norm.getLsbD k.val = true)) ∧
      u.ports = s.ports ∧ u.cores = s.cores) ∧
  (∀ (j : FuseJob) (e : FuseFail) (s : State), s.fuse.job = some j → j.op ≠ .audit → j.op ≠ .reinforce → j.svc = none → j.agent = false →
    e.bit ∈ j.todo → (if e.copyB then s.fuse.bHigh else s.fuse.aHigh).getLsbD e.bit.val = false → s.fuse.auditDue = false →
    ∃ u, exec (.fuseOperationDone (some e)) s = .next u ∧ u.fuse.job = none ∧ u.fuse.result = .verifyFail ∧
      (∀ k ∈ j.todo.takeWhile (· != e.bit), u.fuse.aHigh.getLsbD k.val = true ∧ u.fuse.bHigh.getLsbD k.val = true) ∧
      (if e.copyB then u.fuse.bHigh else u.fuse.aHigh).getLsbD e.bit.val = false ∧
      (if e.copyB then u.fuse.bNorm else u.fuse.aNorm).getLsbD e.bit.val =
        (e.norm || (if e.copyB then s.fuse.bNorm else s.fuse.aNorm).getLsbD e.bit.val) ∧
      (∀ k : Fin 8192, s.fuse.norm.getLsbD k.val = true → u.fuse.norm.getLsbD k.val = true) ∧ u.ports = s.ports) ∧
  (∀ (j : FuseJob) (s : State), s.fuse.job = some j → j.op = .reinforce → j.svc = none → j.agent = false →
    (∀ k ∈ j.todo, s.fuse.norm.getLsbD k.val = true) →
    ∃ u, exec (.fuseOperationDone none) s = .next u ∧ u.fuse.job = none ∧ u.fuse.result = .ok ∧ u.fuse.norm = s.fuse.norm) ∧
  (∀ (x : Option FuseFail) (s : State), s.fuse.job = none → exec (.fuseOperationDone x) s = .next s) ∧
  (∀ (j : FuseJob) (v a n : Nat) (s : State), s.fuse.job = some j → j.op ≠ .audit → j.svc = none → j.agent = false →
    s.fuse.auditDue = false → (s.fuse.source = true ∧ (v < 6200 ∨ 6800 < v) ∨ a < 3135) →
    ∃ u, exec (.fuseSupplyLost v a n) s = .next u ∧ u.fuse.job = none ∧ u.fuse.result = .env ∧
      (∀ k : Fin 8192, s.fuse.norm.getLsbD k.val = true → u.fuse.norm.getLsbD k.val = true) ∧
      (∀ k : Fin 8192, ¬ k ∈ j.todo → u.fuse.norm.getLsbD k.val = s.fuse.norm.getLsbD k.val) ∧ u.ports = s.ports) ∧
  (∀ (v a n : Nat) (s : State), 3135 ≤ a → (s.fuse.source = false ∨ 6200 ≤ v ∧ v ≤ 6800) → exec (.fuseSupplyLost v a n) s = .next s) ∧
  (∀ (l : List FuseRead) (s : State), s.aon < s.fuse.periodAt → exec (.fuseAuditPeriodic l) s = .next s) ∧
  (∀ (l : List FuseRead) (s : State), s.pwr.dev ≠ .deep → s.fuse.read = true → s.fuse.periodAt ≤ s.aon → s.fuse.busy = true →
    ∃ u, exec (.fuseAuditPeriodic l) s = .next u ∧ u.fuse.auditDue = true ∧ u.fuse.periodAt = s.fuse.periodAt + secCycles 86400 ∧ u.fuse.job = s.fuse.job ∧ u.fuse.weak = s.fuse.weak ∧
      u.ports = s.ports) ∧
  (∀ s : State, s.pwr.dev ≠ .deep → s.fuse.read = true → s.fuse.periodAt ≤ s.aon → s.fuse.busy = false →
    s.fuse.auditing = false →
    ∃ u, exec (.fuseAuditPeriodic []) s = .next u ∧ u.fuse.auditing = true ∧ u.fuse.auditAt = s.aon ∧ s.fuse.sameArray u.fuse) ∧
  (∀ (j : FuseJob) (s : State), s.fuse.auditing = true → s.fuse.job = none → s.fuse.held = some j → j.op = .forceLock →
    j.region.val = 6 → j.svc = none → s.fuse.auditDue = false →
    ∃ u, exec (.fuseHeldOpStart 6500) s = .next u ∧ u.fuse.auditing = false ∧ u.fuse.held = none ∧
      u.fuse.job = some { j with todo := [lockIdx .oem 2, lockIdx .oem 0] } ∧ s.fuse.sameArray u.fuse) ∧
  (∀ (a : BitVec 8) (s : State), s.pwr.dev = .run → s.pwr.domUp = true →
    exec (.fuRaddrWrite a) s = .next { s with fuse := { s.fuse with raddr := a, rdata := s.fuse.readWord a.toNat } }) ∧
  (∀ (w : Nat) (s : State), (s.fuse.rl (regionAt w) = true ∨ regionAt w = .unitkey) → s.fuse.readWord w = 0#32)

/-! ### Service port, sessions and firmware update (17) -/

/-- R438, R441–R449: autobaud, discarded frames, HELLO, the session commands and what closes a session.
Where the rules leave a corner open it is the model's choice: log entries 6, 9, 10 and 54.
Each of these commands completes here (the conclusion is a next state with its own effect, from conditions on the state and the
operands alone): .autobaudLock, .svcLineIdle, .svcFrameDiscard, .svcFrameGap, .svcUnknownCommand, .hello, .svcSessionOpen,
.svcSessionProve, .svcSessionClose, .regRead, .settingsSave, .svcSessionTimeout, .passwordSet, .svcExpertUnlock, .svcExpertRelock,
.sessionLockoutEnd. -/
def Obligations.ServiceSessions : Prop :=
  (∀ (n : Nat) (s : State), s.svcUp = true → s.svc.baud = 0 → 115200 ≤ n → n ≤ 12000000 →
    exec (.autobaudLock n) s = .next { s with svc := { s.svc with baud := n } }) ∧
  (∀ (n : Nat) (s : State), (s.svc.baud ≠ 0 ∨ n < 115200 ∨ 12000000 < n) → exec (.autobaudLock n) s = .next s) ∧
  (∀ s : State, s.svcUp = true → exec .svcLineIdle s = .next { s with svc := { s.svc with baud := 0 } }) ∧
  (∀ (n : Nat) (d tail : List (BitVec 8)) (s : State), s.svcUp = true → s.svc.baud ≠ 0 → d.length = n + 3 → tail.length = 4 →
    (4104 < n ∨ BitVec.ofNat 32 (valLE tail) ≠ crc32 (bytesLE 2 n ++ d)) → n < 65536 →
    exec (.svcFrameDiscard (bytesLE 2 n ++ d ++ tail)) s = .next { s with svc := { s.svc with err := s.svc.err.inc16 } }) ∧
  (∀ (d : List (BitVec 8)) (s : State), 3 ≤ d.length → d.length ≤ 4107 →
    exec (.svcFrameDiscard (bytesLE 2 (d.length - 3) ++ d ++ bytesLE 4 (crc32 (bytesLE 2 (d.length - 3) ++ d)).toNat)) s = .next s) ∧
  (∀ (n : Nat) (s : State), s.svcUp = true → s.svc.baud ≠ 0 → 2000 < n →
    exec (.svcFrameGap n) s = .next { s with svc := { s.svc with err := s.svc.err.inc16 } }) ∧
  (∀ (n : Nat) (l : List (BitVec 8)) (f : SvcFrame) (s : State), (s.svc.baud = 0 ∨ s.svcUp = false) →
    exec (.svcFrameGap n) s = .next s ∧ exec (.svcFrameDiscard l) s = .next s ∧ exec (.hello f) s = .next s ∧
    exec (.svcSessionOpen f) s = .next s ∧ exec (.regRead f) s = .next s) ∧
  (∀ (f : SvcFrame) (c : BitVec 8) (s : State), s.svcHears = true → s.upd.recovery = false → ¬ c.toNat ∈ svcCommands →
    ∃ u, exec (.svcUnknownCommand f c) s = .next u ∧ u.naks f c.toNat 3 [] ∧ u.link = s.link ∧ u.upd = s.upd ∧ s.sameBut u []) ∧
  (∀ (f : SvcFrame) (s : State), s.svcHears = true → f.payload = [] →
    ∃ u p, exec (.hello f) s = .next u ∧ u.answers f 1 p ∧ p.length = 29 ∧ u.upd = s.upd ∧ u.link = s.link ∧ s.sameBut u []) ∧
  (∀ (f : SvcFrame) (uk : List Byte) (l : Level) (s : State), s.svcHears = true → s.unitKey = some uk → f.payload.length = 1 →
    levelOf (f.fld 0 1) = some l → s.lockSecs = 0 → s.upd.dl = none →
    ∃ u, exec (.svcSessionOpen f) s = .next u ∧ u.svc.sess = s.svc.nextSess ∧ u.svc.sessReq = l ∧ u.svc.level = .none ∧
      u.svc.unlocked = false ∧ u.svc.openAt = s.aon ∧
      u.answers f 2 (bytesLE 1 s.svc.nextSess ++ chalBytes u.svc.challenge ++ saltOf uk l) ∧ u.link = s.link ∧ s.sameBut u []) ∧
  (∀ (f : SvcFrame) (uk : List Byte) (l : Level) (s : State), s.svcHears = true → s.unitKey = some uk → f.payload.length = 1 →
    levelOf (f.fld 0 1) = some l → s.lockSecs ≠ 0 →
    ∃ u, exec (.svcSessionOpen f) s = .next u ∧ u.naks f 2 6 (bytesLE 2 s.lockSecs) ∧ u.svc.sess = s.svc.sess ∧ s.sameBut u []) ∧
  (∀ (f : SvcFrame) (uk : List Byte) (s : State), s.svcHears = true → s.svc.sess ≠ 0 → f.sess.toNat = s.svc.sess →
    s.aon - s.svc.openAt ≤ 60 * 32768 → s.unitKey = some uk → s.svc.sessReq ≠ .none → (s.svc.level ≠ .tech ∨ s.pwDue = false) →
    f.payload.length = 32 →
    f.payload = hmac (s.levelKey uk s.svc.sessReq) (chalBytes s.svc.challenge ++ [s.svc.sessReq.byte, BitVec.ofNat 8 s.svc.sess]) →
    ∃ u, exec (.svcSessionProve f) s = .next u ∧ u.svc.level = s.svc.sessReq ∧ u.svc.lockN = 0 ∧ u.answers f 3 [s.svc.sessReq.byte] ∧
      u.link = s.link ∧ u.upd = s.upd ∧ s.sameBut u []) ∧
  (∀ (f : SvcFrame) (s : State), s.svcHears = true → s.svc.sess ≠ 0 → f.sess.toNat = s.svc.sess → f.payload.length = 32 →
    60 * 32768 < s.aon - s.svc.openAt → (s.svc.level ≠ .tech ∨ s.pwDue = false) → s.upd.dl = none →
    ∃ u, exec (.svcSessionProve f) s = .next u ∧ u.svc.sess = 0 ∧ u.svc.level = .none ∧ u.svc.lockN = s.svc.lockN + 1 ∧
      u.svc.lockEnd = some (s.aon + secCycles (min (2 ^ s.svc.lockN) 900)) ∧ u.naks f 3 7 [] ∧ s.sameBut u []) ∧
  (∀ (f : SvcFrame) (s : State), s.svcHears = true → s.svc.sess ≠ 0 → f.sess.toNat = s.svc.sess → f.payload = [] → s.upd.dl = none →
    ∃ u, exec (.svcSessionClose f) s = .next u ∧ u.svc.sess = 0 ∧ u.svc.level = .none ∧ u.svc.unlocked = false ∧ u.answers f 4 [] ∧
      u.upd = s.upd ∧ s.sameBut u []) ∧
  (∀ (f : SvcFrame) (s : State), s.svcHears = true → f.sess.toNat ≠ s.svc.sess →
    (∃ u, exec (.svcSessionClose f) s = .next u ∧ u.naks f 4 1 [] ∧ u.svc.sess = s.svc.sess ∧ s.sameBut u []) ∧
    (s.upd.recovery = false → (∃ u, exec (.regRead f) s = .next u ∧ u.naks f 0x10 1 [] ∧ s.sameBut u []) ∧
      (∃ u, exec (.settingsSave f) s = .next u ∧ u.naks f 0x15 1 [] ∧ u.upd = s.upd))) ∧
  (∀ s : State, s.svc.sess ≠ 0 → secCycles 900 ≤ s.aon - s.svc.usedAt →
    ∃ u, exec .svcSessionTimeout s = .next u ∧ u.svc.sess = 0 ∧ u.svc.level = .none ∧ u.svc.unlocked = false ∧ u.upd.dl = none) ∧
  (∀ (f : SvcFrame) (s : State), s.svcHears = true → s.svc.sess ≠ 0 → f.sess.toNat = s.svc.sess → f.payload = [] →
    ∃ u, exec (.hello f) s = .next u ∧ u.svc.usedAt = s.aon) ∧
  (∀ s : State, (s.svc.sess = 0 ∨ s.aon - s.svc.usedAt < secCycles 900) → exec .svcSessionTimeout s = .next s) ∧
  (∀ (f : SvcFrame) (uk new : List Byte) (s : State), s.svcHears = true → s.svc.sess ≠ 0 → f.sess.toNat = s.svc.sess → s.svc.level = .tech →
    s.unitKey = some uk → f.payload.length = 33 → f.fld 0 1 = 2 →
    new = List.zipWith (· ^^^ ·) (f.payload.drop 1) (hmac (s.levelKey uk .tech) (ascii "HZPWSET" ++ chalBytes s.svc.challenge)) →
    new ≠ sha256 (saltOf uk .tech) →
    ∃ u, exec (.passwordSet f) s = .next u ∧ u.svc.pwNext = some new ∧ u.svc.techKey = s.svc.techKey ∧ u.answers f 5 [] ∧
      u.link = s.link ∧ u.upd = s.upd ∧ s.sameBut u []) ∧
  (∀ (f : SvcFrame) (s : State), s.svcTech f → f.payload = [0x01#8] →
    ∃ u, exec (.svcExpertUnlock f) s = .next u ∧ u.svc.unlocked = true ∧ u.answers f 6 [] ∧ u.link = s.link ∧ s.sameBut u []) ∧
  (∀ (f : SvcFrame) (s : State), s.svcTech f → f.payload = [0x00#8] →
    ∃ u, exec (.svcExpertRelock f) s = .next u ∧ u.svc.unlocked = false ∧ u.answers f 6 [] ∧ u.link = s.link ∧ s.sameBut u []) ∧
  (∀ s : State, s.lockSecs = 0 → exec .sessionLockoutEnd s = .next { s with svc := { s.svc with lockEnd := none } }) ∧
  (∀ s : State, s.lockSecs ≠ 0 → exec .sessionLockoutEnd s = .next s)

/-- R355–R363, R443, R459, R471: registers, the huddle, the log and the settings over the service port.
Where the rules leave a corner open it is the model's choice: log entries 51, 52 and 55.
Each of these commands completes here (the conclusion is a next state with its own effect, from conditions on the state and the
operands alone): .regRead, .settingsSave, .regWrite, .svcHuddleCheck, .svcHuddleArmNextBoundary, .svcHuddleArmKick,
.svcHuddleDiscard, .logRead. -/
def Obligations.ServiceCommands : Prop :=
  (∀ (f : SvcFrame) (o : Nat) (s : State), s.svcTech f → f.payload = bytesLE 2 o ++ [0x01#8] → o % 4 = 0 → o < 65536 →
    ∃ u, exec (.regRead f) s = .next u ∧ u.answers f 0x10 (bytesLE 4 (s.regRead .svc o).1.toNat) ∧ u.ports = (s.regRead .svc o).2.ports ∧
      u.cfg = s.cfg) ∧
  (∀ (f : SvcFrame) (s : State), s.svcTech f → (f.payload.length ≠ 3 ∨ f.fld 0 2 % 4 ≠ 0 ∨ f.fld 2 1 = 0 ∨ 64 < f.fld 2 1) →
    ∃ u, exec (.regRead f) s = .next u ∧ u.naks f 0x10 4 [] ∧ s.sameBut u []) ∧
  (∀ (f : SvcFrame) (o : Nat) (v : Word) (vp : Nat) (sl : List Desc) (s : State), s.svcTech f →
    f.payload = bytesLE 2 o ++ bytesLE 4 v.toNat → o % 4 = 0 → o < 65536 →
    exec (.regWrite f vp sl) s = .next (((s.svcUsed f).busWrite .svc o v vp sl).svcReply f 0x11 [])) ∧
  (∀ (f : SvcFrame) (vp : Nat) (sl : List Desc) (s : State), s.svcTech f → f.payload.length ≠ 6 →
    ∃ u, exec (.regWrite f vp sl) s = .next u ∧ u.naks f 0x11 4 [] ∧ s.sameBut u []) ∧
  (∀ (f : SvcFrame) (s : State), s.svcTech f → f.payload = [0x01#8] → s.hud.state = .staged → s.hud.staged = [] → s.hud.curves = [] →
    s.hud.newSteps = [] → s.hud.newMsgs = [] →
    ∃ u, exec (.svcHuddleCheck f) s = .next u ∧ u.hud = { s.hud with state := .checked } ∧ u.answers f 0x12 u.hdWords ∧
      u.ports = s.ports ∧ u.cfg = s.cfg) ∧
  (∀ (f : SvcFrame) (s : State), s.svcTech f → f.payload = [0x02#8] → (s.hud.state = .empty ∨ s.hud.state = .checked) →
    ∃ u, exec (.svcHuddleArmNextBoundary f) s = .next u ∧ u.hud.state = .armed ∧ u.hud.source = some .nextBoundary ∧
      u.hud.svcSeq = some (f.sess, f.seq) ∧ u.hud.staged = s.hud.staged ∧ u.ports = s.ports ∧ u.cfg = s.cfg) ∧
  (∀ (f : SvcFrame) (s : State), s.svcTech f → f.payload = [0x03#8] → (s.hud.state = .empty ∨ s.hud.state = .checked) →
    s.hud.join = true → s.upd.armed ≠ some .kick →
    ∃ u, exec (.svcHuddleArmKick f) s = .next u ∧ u.hud.state = .armed ∧ u.hud.source = some .kick ∧ u.hud.ready = false ∧
      u.hud.seenLow = (! s.hud.kickIn) ∧ u.hud.kickAt = s.aon ∧ u.ports = s.ports ∧ u.cfg = s.cfg) ∧
  (∀ (f : SvcFrame) (s : State), s.svcTech f → f.payload = [0x03#8] → s.sealed = false → s.hud.join = false →
    ∃ u, exec (.svcHuddleArmKick f) s = .next u ∧ u.naks f 0x12 0xA [] ∧ s.sameBut u []) ∧
  (∀ (f : SvcFrame) (s : State), s.svcTech f → f.payload = [0x02#8] → s.sealed = true →
    ∃ u, exec (.svcHuddleArmNextBoundary f) s = .next u ∧ u.naks f 0x12 5 [] ∧ s.sameBut u []) ∧
  (∀ (f : SvcFrame) (s : State), s.svcTech f → f.payload = [0x04#8] → s.hud.state ≠ .committed →
    ∃ u, exec (.svcHuddleDiscard f) s = .next u ∧ u.hud.state = .empty ∧ u.hud.staged = [] ∧ u.hud.curves = [] ∧
      u.answers f 0x12 u.hdWords ∧ u.ports = s.ports ∧ u.cfg = s.cfg) ∧
  (∀ (f : SvcFrame) (s : State), s.svcTech f → f.payload.length = 5 → 1 ≤ f.fld 4 1 → f.fld 4 1 ≤ 64 →
    ∃ u p, exec (.logRead f) s = .next u ∧ u.answers f 0x14 p ∧ p.length = 64 * min (f.fld 4 1) (s.upd.log.length - f.fld 0 4) ∧
      u.upd = s.upd ∧ s.sameBut u []) ∧
  (∀ (f : SvcFrame) (k : Slot) (s : State), s.svcTech f → f.payload = [] → s.upd.run = some k →
    ∃ u, exec (.settingsSave f) s = .next u ∧
      u.upd.record k = some { fmt := BitVec.ofNat 32 (headW s.upd.runHead 0x10), params := s.cfg.params, cfg := s.upd.cfgWord } ∧
      u.upd.record k.other = s.upd.record k.other ∧ u.answers f 0x15 [] ∧ s.sameBut u []) ∧
  (∀ (f : SvcFrame) (s : State), s.svcTech f → f.payload = [] → s.upd.run = none →
    ∃ u, exec (.settingsSave f) s = .next u ∧ u.naks f 0x15 0xA [] ∧ u.upd = s.upd ∧ s.sameBut u [])

/-- R367–R369, R452, R455–R467, R469: a download block by block, arming, the activation instant and its load, the trial and what ends it,
the KICK barrier and the boot ROM's choice.
Where the rules leave a corner open it is the model's choice: log entries 10, 56 and 57.
Each of these commands completes here (the conclusion is a next state with its own effect, from conditions on the state and the
operands alone): .imageBegin, .imageBlock, .imageResume, .imageEnd, .activateNow, .activateKick, .activateAtTime, .confirm, .cancel,
.activationInstant, .activationLoadDone, .trialWindowExpiry, .kickFire, .kickTimeout, .bootImageLoaded. -/
def Obligations.DownloadsAndActivation : Prop :=
  (∀ (f : SvcFrame) (s : State), s.svcTech f → f.payload.length = 4096 → s.upd.dl = none → s.upd.armed = none →
    s.upd.activating = false → s.upd.trial = false → s.headCheck f.payload true = none →
    ∃ u d, exec (.imageBegin f true) s = .next u ∧ u.upd.dl = some d ∧ d.slot = s.target ∧ d.next = 0 ∧
      u.upd.slot s.target = ⟨f.payload, []⟩ ∧ u.upd.slot s.target.other = s.upd.slot s.target.other ∧
      u.answers f 0x20 (bytesLE 4 d.token.toNat ++ bytesLE 2 (headBlocks f.payload)) ∧ u.upd.boot0 = s.upd.boot0 ∧ s.sameBut u []) ∧
  (∀ (f : SvcFrame) (b : Bool) (e : Nat) (s : State), s.svcTech f → f.payload.length = 4096 → s.upd.dl = none → s.upd.armed = none →
    s.upd.activating = false → s.upd.trial = false → s.headCheck f.payload true = some e →
    ∃ u, exec (.imageBegin f b) s = .next u ∧ u.naks f 0x20 0xC (bytesLE 1 e) ∧ u.upd = s.upd ∧ s.sameBut u []) ∧
  (∀ (f : SvcFrame) (b : Bool) (s : State), s.svcTech f → f.payload.length = 4096 → (s.upd.dl ≠ none ∨ s.upd.armed ≠ none ∨ s.upd.trial = true) →
    ∃ u, exec (.imageBegin f b) s = .next u ∧ u.naks f 0x20 0xA [] ∧ u.upd = s.upd ∧ s.sameBut u []) ∧
  (∀ (f : SvcFrame) (d : Download) (s : State), s.svcTech f → f.payload.length = 4104 → s.upd.dl = some d → f.fld 4 4 = d.token.toNat →
    f.fld 2 2 = 0 → f.fld 0 2 = d.next → d.next < headBlocks (s.upd.slot d.slot).head →
    crc32 (f.payload.drop 8) = headCrc (s.upd.slot d.slot).head d.next →
    ∃ u, exec (.imageBlock f true) s = .next u ∧ u.upd.dl = some { d with next := d.next + 1 } ∧
      (u.upd.slot d.slot).blocks = (s.upd.slot d.slot).blocks ++ [f.payload.drop 8] ∧ (u.upd.slot d.slot).head = (s.upd.slot d.slot).head ∧
      u.answers f 0x21 (bytesLE 2 (d.next + 1)) ∧ s.sameBut u []) ∧
  (∀ (f : SvcFrame) (d : Download) (s : State), s.svcTech f → f.payload.length = 4104 → s.upd.dl = some d → f.fld 4 4 = d.token.toNat →
    f.fld 2 2 = 0 → f.fld 0 2 ≠ d.next →
    ∃ u, exec (.imageBlock f true) s = .next u ∧ u.naks f 0x21 0xB (bytesLE 2 d.next) ∧ u.upd = s.upd ∧ s.sameBut u []) ∧
  (∀ (f : SvcFrame) (d : Download) (s : State), s.svcTech f → f.payload.length = 4 → s.upd.dl = some d → f.fld 0 4 = d.token.toNat →
    ∃ u, exec (.imageResume f) s = .next u ∧ u.answers f 0x22 (bytesLE 2 d.next) ∧ u.upd = s.upd ∧ s.sameBut u []) ∧
  (∀ (f : SvcFrame) (d : Download) (s : State), s.svcTech f → f.payload.length = 4 → s.upd.dl = some d → f.fld 0 4 = d.token.toNat →
    d.next = headBlocks (s.upd.slot d.slot).head → (s.upd.slot d.slot).blocksOk = true →
    ∃ u, exec (.imageEnd f true) s = .next u ∧ u.upd.dl = none ∧ u.upd.staged = some d.slot ∧ u.upd.state = .staged ∧
      u.upd.slot d.slot = s.upd.slot d.slot ∧ u.answers f 0x23 [] ∧ s.sameBut u []) ∧
  (∀ (f : SvcFrame) (d : Download) (s : State), s.svcTech f → f.payload.length = 4 → s.upd.dl = some d → f.fld 0 4 = d.token.toNat →
    d.next = headBlocks (s.upd.slot d.slot).head →
    ∃ u, exec (.imageEnd f false) s = .next u ∧ u.upd.dl = none ∧ (u.upd.slot d.slot).head = [] ∧ u.upd.state = .failed ∧
      u.naks f 0x23 0xC [0x0B#8] ∧ s.sameBut u []) ∧
  (∀ (f : SvcFrame) (k : Slot) (s : State), s.svcTech f → s.upd.staged = some k → s.upd.armed = none → s.upd.activating = false →
    (f.payload = [0x01#8] → ∃ u, exec (.activateNow f) s = .next u ∧ u.upd.armed = some .now ∧ u.upd.state = .scheduled ∧
      u.upd.staged = some k ∧ u.answers f 0x24 [] ∧ u.ports = s.ports) ∧
    (f.payload = [0x03#8] → ∃ u, exec (.activateKick f) s = .next u ∧ u.upd.armed = some .kick ∧
      u.upd.kickReady = (s.headCheck (s.upd.slot k).head true).isNone ∧ u.upd.state = .scheduled ∧ u.answers f 0x24 []) ∧
    (f.payload.length = 7 → f.fld 0 1 = 2 → s.timeAhead (f.fld 1 6) = true →
      ∃ u, exec (.activateAtTime f) s = .next u ∧ u.upd.armed = some .atTime ∧ u.upd.actAt = f.fld 1 6 ∧ u.answers f 0x24 [])) ∧
  (∀ (f : SvcFrame) (s : State), s.svcTech f → (s.upd.staged = none ∨ s.upd.armed ≠ none) → f.payload = [0x01#8] →
    ∃ u, exec (.activateNow f) s = .next u ∧ u.naks f 0x24 0xA [] ∧ u.upd = s.upd ∧ s.sameBut u []) ∧
  (∀ (f : SvcFrame) (v : Nat) (s : State), s.svcTech f → f.payload = [] → s.upd.trial = true → s.upd.healthy = true →
    headAt s.upd.runHead 0x16 2 = 0 →
    ∃ u, exec (.confirm f v) s = .next u ∧ u.upd.trial = false ∧ u.upd.trialEnd = none ∧ (u.upd.bootRec.map (·.trial)) = some false ∧
      u.upd.state = .confirmed ∧ u.answers f 0x25 [] ∧ s.sameBut u []) ∧
  (∀ (f : SvcFrame) (v : Nat) (s : State), s.svcTech f → f.payload = [] → (s.upd.trial = false ∨ s.upd.healthy = false) →
    ∃ u, exec (.confirm f v) s = .next u ∧ u.naks f 0x25 0xA [] ∧ u.upd = s.upd ∧ s.sameBut u []) ∧
  (∀ (f : SvcFrame) (s : State), s.svcTech f → f.payload = [] → s.upd.armed ≠ none →
    ∃ u, exec (.cancel f) s = .next u ∧ u.upd.armed = none ∧ u.upd.state = .cancelled ∧ u.upd.staged = s.upd.staged ∧
      u.answers f 0x26 [] ∧ s.sameBut u []) ∧
  (∀ (k : Slot) (s : State), s.upd.armed = some .now → s.upd.staged = some k → s.upd.activating = false → s.upd.recovery = false →
    s.upd.loading = none → s.pwr.dev ≠ .deep →
    ∃ u, exec .activationInstant s = .next u ∧ u.upd.activating = true ∧ u.upd.armed = none ∧ u.upd.state = .activating ∧
      (u.upd.bootRec.map fun b => (b.active, b.trial, b.tries)) = some (k, true, 1) ∧ u.upd.run = s.upd.run) ∧
  (∀ (s : State), (s.upd.armed = none ∨ s.upd.loading ≠ none) → exec .activationInstant s = .next s) ∧
  (∀ (k : Slot) (s : State), s.upd.activating = true → s.upd.staged = some k → (∀ j : Fin 4, (s.coreAt j).state = .idle) →
    s.slotLoads k = true → (s.upd.bootRec.map (·.trial)) = some true →
    ∃ u, exec .activationLoadDone s = .next u ∧ u.upd.activating = false ∧ u.upd.run = some k ∧ u.upd.runHead = (s.upd.slot k).head ∧
      u.upd.trial = true ∧ u.upd.state = .trial ∧ u.pwr.coresUp = true ∧ (∀ j : Fin 4, (u.coreAt j).state = .idle)) ∧
  (∀ (v e : Nat) (s : State), s.upd.trial = true → s.upd.trialEnd = some e → e ≤ s.aon → s.pwr.dev ≠ .deep → (s.upd.autoConfirm = false ∨ s.upd.healthy = false) →
    ∃ u, exec (.trialWindowExpiry v) s = .next u ∧ u.pwr.domUp = false ∧ u.pwr.cause = setBit s.pwr.cause 1 true ∧
      u.upd.boot0 = s.upd.boot0 ∧ u.upd.boot1 = s.upd.boot1 ∧ (∀ p : Fin 192, (u.port p).path = Path.reset)) ∧
  (∀ (v e : Nat) (s : State), s.upd.trial = true → s.upd.trialEnd = some e → s.aon < e → exec (.trialWindowExpiry v) s = .next s) ∧
  (∀ (v e : Nat) (s : State), s.upd.trial = true → s.upd.trialEnd = some e → e ≤ s.aon → s.pwr.dev ≠ .deep → s.upd.autoConfirm = true → s.upd.healthy = true →
    headAt s.upd.runHead 0x16 2 = 0 →
    ∃ u, exec (.trialWindowExpiry v) s = .next u ∧ u.upd.trial = false ∧ u.upd.state = .confirmed ∧ s.sameBut u []) ∧
  (∀ (b : BitVec 8) (s : State), s.hud.join = true → s.hud.onKick = true → s.hud.ready = true → s.hud.seenLow = true →
    s.upd.armed = none → s.pwr.dev ≠ .deep →
    ∃ u, exec (.kickFire b) s = .next u ∧ u.hud.state = .empty ∧ u.hud.kickIn = true ∧ u.hud.kickCnt = s.hud.kickCnt.inc32 ∧
      u.hud.applyCnt = s.hud.applyCnt.inc32 ∧ u.hud.applyTime = s.rtc) ∧
  (∀ (b : BitVec 8) (s : State), (s.hud.join = false ∨ s.hud.seenLow = false ∨ s.kickArmed = false) →
    exec (.kickFire b) s = .next { s with hud := { s.hud with kickIn := true } }) ∧
  (∀ s : State, s.hud.onKick = true → s.upd.armed = none → s.hud.svcSeq = none → msCycles (100 * s.hud.timeout) ≤ s.aon - s.hud.kickAt →
    ∃ u, exec (.kickTimeout true) s = .next u ∧ u.hud.state = .checked ∧ u.hud.source = none ∧ u.hud.kickIn = false ∧
      u.hud.staged = s.hud.staged ∧ (∀ w ∈ u.link.waiting, w.what ≠ .kickoff) ∧ u.ports = s.ports ∧ u.cfg = s.cfg) ∧
  (∀ s : State, s.aon - s.hud.kickAt < msCycles (100 * s.hud.timeout) →
    exec (.kickTimeout true) s = .next { s with hud := { s.hud with kickIn := false } }) ∧
  (∀ s : State, exec (.kickTimeout false) s = .next { s with hud := { s.hud with kickIn := true } }) ∧
  (∀ (k : Slot) (s : State), s.pwr.dev ≠ .deep → s.pwr.domUp = true → s.fuse.job = none → s.fuse.held = none → s.upd.loading = some k →
    s.slotLoads k = true → s.upd.reverting = false →
    ∃ u, exec .bootImageLoaded s = .next u ∧ u.upd.run = some k ∧ u.upd.loading = none ∧ u.pwr.coresUp = true ∧
      u.upd.runHead = (s.upd.slot k).head ∧ (∀ j : Fin 4, (u.coreAt j).state = .idle)) ∧
  (∀ (k : Slot) (s : State), s.pwr.dev ≠ .deep → s.pwr.domUp = true → s.fuse.job = none → s.fuse.held = none → s.upd.loading = some k →
    s.slotLoads k = false → s.upd.reverting = false → s.fallbackMode = 2 →
    ∃ u, exec .bootImageLoaded s = .next u ∧ u.upd.recovery = true ∧ u.upd.run = none ∧ u.upd.state = .recovery ∧ s.sameBut u []) ∧
  (∀ s : State, s.upd.loading = none → exec .bootImageLoaded s = .next s)

/-! ### Register map (18) -/

/-- R6, R10, R168, R355, R356, R394, R413, R420, R464, R471, R472, R473, R475, R478, R481: what a host write does, register by register.
Where the rules leave a corner open it is the model's choice: log entry 51.
Each of these commands completes here (the conclusion is a next state with its own effect, from conditions on the state and the
operands alone): .registerWrite, .pathCtrlWrite, .eventCounterOvfClear, .upActivateAtWrite, .refCfgWrite, .pwCtrlReset, .upCtrlArm,
.upCtrlCancel, .upCtrlSave, .upCtrlConfirm. -/
def Obligations.RegisterWrites : Prop :=
  (∀ (v : BitVec 32) (s : State), s.hostUp = true → s.pwr.dev = .run → s.sealed = false → s.hud.state = .empty →
    exec (.registerWrite 0x1000 0xF#4 v) s = .next { s with hud := { s.hud with
      state := .staged
      staged := insertStaged s.hud.staged ⟨0x1000, (s.stagedOr 0x1000 &&& 0xFFF00000#32) ||| (v &&& 0x000FFFFF#32)⟩ } }) ∧
  (∀ (v : BitVec 32) (s : State), s.hostUp = true → s.pwr.dev = .run → s.sealed = true →
    exec (.registerWrite 0x1000 0xF#4 v) s = .next { s with hud := { s.hud with sealedWrite := true } }) ∧
  (∀ (v : BitVec 32) (s : State), s.hostUp = true → s.pwr.dev = .run → s.sealed = false → s.hud.state = .empty → s.expertOn .host = false →
    exec (.registerWrite 0x4800 0xF#4 v) s = .next { s with hud := { s.hud with
      state := .staged
      staged := insertStaged s.hud.staged ⟨0x4800, (s.stagedOr 0x4800 &&& 0xFFFFFFF8#32) ||| (v &&& 0x7#32)⟩ } }) ∧
  (∀ (v : BitVec 32) (s : State), s.hostUp = true → s.pwr.dev = .run →
    exec (.registerWrite 0x3004 0xF#4 v) s = .next { s with fuse := { s.fuse with wdata := v } } ∧
    exec (.registerWrite 0x2120 0xF#4 v) s = .next { s with pwr := { s.pwr with scratch0 := v } } ∧
    exec (.registerWrite 0x2110 0xF#4 v) s = .next { s with pwr := { s.pwr with cause := s.pwr.cause &&& ~~~ v.setWidth 6 } }) ∧
  (∀ (o : Fin 65536) (e : BitVec 4) (v : BitVec 32) (s : State), s.pwr.dev = .run → (o.val % 4 ≠ 0 ∨ s.hostUp = false ∨ e ≠ 0xF#4) →
    exec (.registerWrite o e v) s = .next s) ∧
  (∀ (p : Fin 192) (v : BitVec 32) (s : State), s.hostUp = true → s.pwr.dev = .run → s.portFenced p = true →
    exec (.pathCtrlWrite p v) s = .next { s with pwr := { s.pwr with writeDrop := true } }) ∧
  (∀ (p : Fin 192) (v : BitVec 32) (o : Fin 65536) (s : State), s.hostUp = true → s.pwr.dev = .run → o.val = ppOff p.val 0x7C →
    ∃ u, exec (.eventCounterOvfClear o v) s = .next u ∧
      (u.port p).cnt.trip = (if v.getLsbD 0 && (s.port p).cnt.trip.ovf then cntZero else (s.port p).cnt.trip) ∧
      (u.port p).cnt.attach = (if v.getLsbD 1 && (s.port p).cnt.attach.ovf then cntZero else (s.port p).cnt.attach) ∧
      (u.port p).path = (s.port p).path ∧ (∀ q : Fin 192, q ≠ p → u.port q = s.port q) ∧ u.hud = s.hud ∧ u.link = s.link) ∧
  (∀ (v : BitVec 32) (s : State), s.hostUp = true → s.pwr.dev = .run →
    ∃ u, exec (.eventCounterOvfClear 0x1800 v) s = .next u ∧ u.hud.sealedWrite = s.hud.sealedWrite ∧ u.hud.staged = s.hud.staged ∧
      u.hud.applyCnt = (if v.getLsbD 20 && s.hud.applyCnt.ovf then cntZero else s.hud.applyCnt) ∧ u.ports = s.ports) ∧
  (∀ (v w : BitVec 32) (s : State), s.hostUp = true → s.pwr.dev = .run → s.expertOn .host = true →
    exec (.upActivateAtWrite false v) s = .next { s with upd := { s.upd with atLow := some v } } ∧
    (s.upd.atLow = some w → ∃ u, exec (.upActivateAtWrite true v) s = .next u ∧
      u.upd = { s.upd with actAt := v.toNat % 65536 * 2 ^ 32 + w.toNat, atLow := none } ∧ s.sameBut u [])) ∧
  (∀ (h : Bool) (v : BitVec 32) (s : State), s.hostUp = true → s.pwr.dev = .run → s.expertOn .host = false →
    exec (.upActivateAtWrite h v) s = .next s) ∧
  (∀ (p : Fin 192) (v : BitVec 32) (s : State), s.hostUp = true → s.pwr.dev = .run → s.portFenced p = false →
    (s.expertOn .host = false ∨ bits v 6 2 = 3) → exec (.pathCtrlWrite p v) s = .next s) ∧
  (∀ (p : Fin 192) (v : BitVec 32) (s : State), s.hostUp = true → s.pwr.dev = .run → s.tileDeaf p = false → s.expertOn .host = true →
    bits v 6 2 ≠ 3 → (s.port p).path.run = false → bits v 0 5 < 16 →
    (s.port p).cc.noTable (bits v 0 5) = false → 165 ≤ bits v 20 12 → bits v 20 12 ≤ 2500 →
    ∃ u, exec (.pathCtrlWrite p v) s = .next u ∧ (u.port p).path.run = true ∧ (u.port p).path.table = bits v 0 5 ∧
      (u.port p).path.entry = 0 ∧ (u.port p).path.ctrl = v &&& 0xFFFFFFDF#32 ∧ (u.port p).path.post.mv = bits v 20 12 * 20 ∧
      (u.port p).path.post.ma = bits v 8 12 * 5 ∧ (u.port p).path.gate = (s.port p).path.gate ∧
      (∀ q : Fin 192, q ≠ p → u.port q = s.port q)) ∧
  (∀ (p : Fin 192) (v : BitVec 32) (s : State), s.hostUp = true → s.pwr.dev = .run → s.tileDeaf p = false → s.expertOn .host = true →
    bits v 6 2 ≠ 3 → ((s.port p).path.run = true ∨ (s.port p).cc.noTable (bits v 0 5) = true ∨ bits v 20 12 < 165 ∨ 2500 < bits v 20 12) →
    ∃ u, exec (.pathCtrlWrite p v) s = .next u ∧ (u.port p).path.run = (s.port p).path.run ∧
      (u.port p).path.table = (s.port p).path.table ∧ (u.port p).path.ctrl = v &&& 0xFFFFFFDF#32 ∧
      (u.port p).path.lastSignal = some .refused) ∧
  (∀ (v : BitVec 32) (s : State), s.hostUp = true → s.pwr.dev = .run →
    ∃ u, exec (.refCfgWrite v) s = .next u ∧ u.ref.irqEn = v.getLsbD 8 ∧ u.ref.vector = bits v 0 5 ∧
      u.ref.faultTest = (if s.expertOn .host then v.getLsbD 9 else s.ref.faultTest) ∧ u.ref.fault = s.ref.fault ∧ u.ports = s.ports) ∧
  (∀ s : State, s.hostUp = true → s.pwr.dev = .run → s.expertOn .host = true →
    exec .pwCtrlReset s = .next { s with pwr := { s.pwr with ctrlReset := true } }) ∧
  (∀ s : State, s.hostUp = true → s.pwr.dev = .run → s.expertOn .host = false → exec .pwCtrlReset s = .next s) ∧
  (∀ s : State, s.hostUp = true → s.pwr.dev = .run → s.expertOn .host = true → s.upd.armable = true → s.upd.recovery = false →
    s.hud.onKick = false →
    (∃ u, exec (.upCtrlArm 3) s = .next u ∧ u.upd.armed = some .now ∧ u.upd.state = .scheduled ∧ u.upd.staged = s.upd.staged ∧
      u.ports = s.ports) ∧
    (∃ u, exec (.upCtrlArm 2) s = .next u ∧ u.upd.armed = some .kick ∧ u.hud.seenLow = (! s.hud.kickIn) ∧ u.ports = s.ports) ∧
    (s.timeAhead s.upd.actAt = true → ∃ u, exec (.upCtrlArm 1) s = .next u ∧ u.upd.armed = some .atTime ∧ u.upd.actAt = s.upd.actAt) ∧
    exec (.upCtrlArm 0) s = .next s) ∧
  (∀ (k : Fin 4) (s : State), s.hostUp = true → s.pwr.dev = .run → (s.expertOn .host = false ∨ s.upd.armable = false) →
    exec (.upCtrlArm k) s = .next s) ∧
  (∀ s : State, s.hostUp = true → s.pwr.dev = .run → s.upd.armed ≠ none →
    ∃ u, exec .upCtrlCancel s = .next u ∧ u.upd.armed = none ∧ u.upd.state = .cancelled ∧ u.upd.staged = s.upd.staged) ∧
  (∀ s : State, s.hostUp = true → s.pwr.dev = .run → s.upd.armed = none → s.upd.dl = none → exec .upCtrlCancel s = .next s) ∧
  (∀ (k : Slot) (s : State), s.hostUp = true → s.pwr.dev = .run → s.upd.run = some k →
    ∃ u, exec .upCtrlSave s = .next u ∧ s.sameBut u [] ∧
      u.upd.record k = some { fmt := BitVec.ofNat 32 (headW s.upd.runHead 0x10), params := s.cfg.params, cfg := s.upd.cfgWord }) ∧
  (∀ (v : Nat) (s : State), s.hostUp = true → s.pwr.dev = .run → s.upd.trial = true → s.upd.healthy = true →
    headAt s.upd.runHead 0x16 2 = 0 →
    ∃ u, exec (.upCtrlConfirm v) s = .next u ∧ u.upd.trial = false ∧ u.upd.trialEnd = none ∧ u.upd.state = .confirmed) ∧
  (∀ (v : Nat) (s : State), s.hostUp = true → s.pwr.dev = .run → (s.upd.trial = false ∨ s.upd.healthy = false) →
    exec (.upCtrlConfirm v) s = .next s)

/-- R317, R420, R471, R473, R474, R476, R477: the reads that have an effect of their own, on each path, and what a tile's register shows
while the tile is fenced.
Where the rules leave a corner open it is the model's choice: log entry 52.
Each of these commands completes here (the conclusion is a next state with its own effect, from conditions on the state and the
operands alone): .errorCounterRead, .scStoreRead, .scLatRead, .wideValueLowRead. -/
def Obligations.RegisterReads : Prop :=
  (∀ s : State, s.hostUp = true → s.pwr.dev = .run →
    (exec (.errorCounterRead .host 0x0024) s =
      .next { s with link := { s.link with dbErr := cntZero }, bus := { s.bus with readData := errWord s.link.dbErr } }) ∧
    (∃ u, exec (.errorCounterRead .host 0x281C) s = .next u ∧ u.ref.eccUe = cntZero ∧ u.bus.readData = errWord s.ref.eccUe ∧
      u.ports = s.ports) ∧
    (∃ u, exec (.scStoreRead .host) s = .next u ∧ u.cores.minFree = s.freeCells ∧ u.ports = s.ports ∧
      u.bus.readData = packWord [(s.cores.minFree, 16, 11), (s.freeCells, 0, 11)]) ∧
    (∃ u, exec (.scLatRead .host) s = .next u ∧ u.cores.latFault = 0 ∧ u.cores.latMsg = 0 ∧ u.ports = s.ports ∧
      u.bus.readData = packWord [(min 0xFFFF s.cores.latMsg, 16, 16), (min 0xFFFF s.cores.latFault, 0, 16)])) ∧
  (∀ (p : Fin 192) (o : Fin 65536) (s : State), s.hostUp = true → s.pwr.dev = .run → s.portFenced p = false → o.val = ppOff p.val 0x10 →
    ∃ u, exec (.errorCounterRead .host o) s = .next u ∧ (u.port p).pd.rxCrc = cntZero ∧ (u.port p).pd.rxTrunc = cntZero ∧
      (u.port p).pd.rxCode = (s.port p).pd.rxCode ∧ (∀ q : Fin 192, q ≠ p → u.port q = s.port q) ∧
      u.bus.readData = pdErr (s.port p).pd.rxCrc (s.port p).pd.rxTrunc) ∧
  (∀ (k : CoreId) (s : State), s.pwr.coresUp = true → s.pwr.dev = .run →
    exec (.errorCounterRead (.core k) 0x0024) s = .next { s with bus := { s.bus with readData := errWord s.link.dbErr } }) ∧
  (∀ s : State, s.hostUp = true → s.pwr.dev = .run →
    ∃ u, exec (.wideValueLowRead .host 0x2008) s = .next u ∧ u.bus.readData = BitVec.ofNat 32 s.rtc ∧
      u.latchOf .host 0x2008 = some (BitVec.ofNat 32 (s.rtc / 2 ^ 32)) ∧
      (∀ (a : Path6), a ≠ .host → u.latchOf a 0x2008 = s.latchOf a 0x2008) ∧ s.sameBut u []) ∧
  (∀ (a : Path6) (o : Fin 65536) (s : State), (errorReg o.val = false → exec (.errorCounterRead a o) s = .next s) ∧
    (s.wide o.val = none → exec (.wideValueLowRead a o) s = .next s)) ∧
  (∀ (a : Path6) (h : Word) (s : State), s.latchOf a 0x2008 = some h → (s.regRead a 0x200C).1 = h) ∧
  (∀ (a : Path6) (s : State), (s.fuse.rl (regionAt s.fuse.raddr.toNat) = true ∨ regionAt s.fuse.raddr.toNat = .unitkey) →
    (s.regRead a 0x3010).1 = 0#32) ∧
  (∀ (t : Fin 8) (s : State), s.tileFenced t = true →
    s.regVal (0x4020 + 4 * t.val) = setBit (s.tile t).rotKept 24 (s.tile t).skip.ovf ∧
    s.regVal (0x4820 + 4 * t.val) = packWord [(3, 28, 4), ((s.tile t).hubUn.length, 8, 4)])

/-! ### The block as a whole -/

/-- R8 and R479: the tile and local index of a port, and its register block. -/
def Obligations.PortsTilesAndBlocks : Prop :=
  (∀ p : Fin 192, (tileOf p).val = p.val / 24 ∧ localIdx p = p.val % 24 ∧ portAt (tileOf p) ⟨p.val % 24, Nat.mod_lt _ (by decide)⟩ = p) ∧
  (∀ p : Fin 192, ppOff p.val 0 = 0x8000 + p.val * 0x80) ∧
  (∀ (p : Fin 192) (r : Nat), r < 0x80 → ppPort (0x8000 + p.val * 0x80 + r) = some (p, r)) ∧
  (∀ (o : Nat) (p : Fin 192) (r : Nat), ppPort o = some (p, r) → o = 0x8000 + p.val * 0x80 + r ∧ r < 0x80) ∧
  (∀ (o r : Nat), ppPort o = some (191, r) → o ≤ 0xDFFF)

/-- R57: the attach state that PP_CC_STATUS shows, on every path and in every state of the device in which the port's tile is not
fenced; the codes above 0x9 are never reported. -/
def Obligations.AttachStateCodes : Prop :=
  ∀ (a : Path6) (p : Fin 192) (s : State), s.portFenced p = false →
    bits (s.regRead a (ppOff p.val 0x04)).1 28 4 =
      (match (s.port p).cc.state with
       | .disabled => 0x0 | .watch => 0x1 | .rpHold => 0x2 | .attachWait => 0x3 | .attached => 0x4 | .bootRd => 0x5 | .bootSink => 0x6
       | .ccHoldOff => 0x7 | .detaching => 0x8 | .lockedOut => 0x9) ∧
    bits (s.regRead a (ppOff p.val 0x04)).1 28 4 ≤ 0x9

/-- A step takes the command at the front of the queue and is that command's effect on the state with the rest of the queue; on an
empty queue one AON cycle passes (log entry 3, the model's choice).
Where the rules leave a corner open it is the model's choice: log entry 3. -/
def Obligations.StepRunsFrontCommand : Prop :=
  (∀ (c : Instr) (r : List Instr) (s : State), s.pending = c :: r → step s = exec c { s with pending := r }) ∧
  (∀ s : State, s.pending = [] → ∃ u, step s = .next u ∧ u.rtc = (s.rtc + 1) % 2 ^ 63 ∧ u.aon = s.aon + 1 ∧ u.ports = s.ports ∧
    u.tiles = s.tiles ∧ u.feedA = s.feedA ∧ u.feedB = s.feedB ∧ u.cores = s.cores ∧ u.pending = []) ∧
  (∀ (n w : Nat) (s : State), s.withFetchWord n w = s)

/-- Reset: what the specification gives the registers and the machine right after a power-on reset (R57, R98, R188, R187, R407, R467,
R473, R481, R484); the memories are in canonical form and no feed bank is closed. -/
def Obligations.ResetState : Prop :=
  State.reset.memWf = true ∧ State.reset.banksWf = true ∧ State.reset.pending = [] ∧ State.reset.rtc = 0 ∧
  (∀ p : Fin 192, (State.reset.port p).path.gate = false ∧ (State.reset.port p).pol.enabled = true ∧
    (State.reset.port p).pol.profile = 5 ∧ (State.reset.port p).pol.kind = .none ∧ (State.reset.port p).retry.lock = .none ∧
    (State.reset.port p).cnt.trip = cntZero ∧ (State.reset.port p).smp.energy = 0) ∧
  (∀ p : Fin 192, (State.reset.port p).cc.state = (if localIdx p = 0 then .bootRd else .watch)) ∧
  State.reset.feedA.gate = false ∧ State.reset.feedB.gate = false ∧ State.reset.hud.state = .empty ∧ State.reset.svc.sess = 0 ∧
  State.reset.link.sess = 0 ∧ State.reset.upd.window = 120 ∧ (State.reset.regRead .host 0x0000).1 = 0x71921D7B#32

/-- Every step keeps the code RAM, the roster and the benches in canonical form: addresses rise strictly and no cell holds what an
unlisted byte reads as (log entry 2, the model's choice of what that is).
Where the rules leave a corner open it is the model's choice: log entry 2. -/
def Obligations.MemoriesStayCanonical : Prop :=
  ∀ s t : State, s.memWf = true → step s = .next t → t.memWf = true

/-- No command touches the queue of waiting commands: its effect is on everything but the queue. -/
def Obligations.CommandsKeepTheQueue : Prop :=
  ∀ (c : Instr) (s t : State), exec c s = .next t → t.pending = s.pending

/-- Every command of the table ends in a next state, whatever the state and its operands: none is refused and none faults.
Where the rules leave a corner open it is the model's choice: log entry 4. -/
def Obligations.EveryCommandCompletes : Prop :=
  ∀ (c : Instr) (s : State), ∃ t, exec c s = .next t

/-- R13, R14, R167: no command but SET_GATE of the port's own power-path sequencer closes a pass switch; firmware, descriptors, registers,
the policy, the scoreboard and the referee have no path to it. -/
def Obligations.OnlySequencerClosesGate : Prop :=
  ∀ (c : Instr) (p : Fin 192) (s t : State), (∀ (vb : Nat) (vs0 rival : Bool), c ≠ .stSetGate p vb vs0 rival) → exec c s = .next t →
    (s.port p).path.gate = false → (t.port p).path.gate = false
end

