-- ==== Sys2Proof/Laws/Memory.lean ====
section
/-! SUPPORT. Byte memories: what reads and writes do to one another, and that every operation keeps the canonical form (log entry 2). -/
namespace Sys2Proof.Machine

/-- The canonical form in terms of lists: addresses rise, and no cell holds 0. -/
theorem Memory.above_iff (b : Option Nat) (m : Memory) :
    Memory.above b m = true ↔ m.Pairwise (fun c d => c.1 < d.1) ∧ ∀ c ∈ m, c.2 ≠ 0#8 ∧ ∀ a, b = some a → a < c.1 := by
  induction m generalizing b with
  | nil => simp [Memory.above]
  | cons c r ih =>
    simp only [Memory.above, Bool.and_eq_true, bne_iff_ne, ih, List.pairwise_cons, List.mem_cons, forall_eq_or_imp]
    constructor
    · rintro ⟨⟨h, z⟩, p, q⟩
      have hb : ∀ a, b = some a → a < c.1 := by intro a e; subst e; simpa using h
      exact ⟨⟨fun d m => (q d m).2 _ rfl, p⟩, ⟨z, hb⟩, fun d m => ⟨(q d m).1, fun a e => lt_trans (hb a e) ((q d m).2 _ rfl)⟩⟩
    · rintro ⟨⟨h, p⟩, ⟨z, hb⟩, q⟩
      refine ⟨⟨?_, z⟩, p, fun d m => ⟨(q d m).1, fun a e => by cases e; exact h d m⟩⟩
      cases b with
      | none => rfl
      | some a => simpa using hb a rfl

theorem Memory.wf_iff (m : Memory) : m.wf = true ↔ m.Pairwise (fun c d => c.1 < d.1) ∧ ∀ c ∈ m, c.2 ≠ 0#8 := by
  simp [Memory.wf, Memory.above_iff]

theorem Memory.above_write (b : Option Nat) (m : Memory) (a : Nat) (v : Byte) (ha : ∀ x, b = some x → x < a)
    (h : Memory.above b m = true) : Memory.above b (m.write a v) = true := by
  induction m generalizing b with
  | nil =>
    by_cases z : v = 0#8
    · simp [Memory.write, z, Memory.above]
    · cases b with
      | none => simp [Memory.write, z, Memory.above]
      | some x => simpa [Memory.write, z, Memory.above] using ha x rfl
  | cons c r ih =>
    have hw := h
    simp only [Memory.above, Bool.and_eq_true, bne_iff_ne] at h
    obtain ⟨⟨hb, z⟩, hr⟩ := h
    unfold Memory.write
    have lift : ∀ x : Nat, x ≤ c.1 → Memory.above (some x) r = true := fun x le => by
      rw [Memory.above_iff] at hr ⊢
      exact ⟨hr.1, fun d m => ⟨(hr.2 d m).1, fun y e => by cases e; exact lt_of_le_of_lt le ((hr.2 d m).2 _ rfl)⟩⟩
    split
    · next lt =>
      by_cases e : v = 0#8
      · simpa [e] using hw
      · have : (v == 0#8) = false := by simpa using e
        simp only [this, Bool.false_eq_true, if_false, Memory.above, Bool.and_eq_true, bne_iff_ne]
        refine ⟨⟨?_, e⟩, ⟨by simpa using lt, z⟩, hr⟩
        cases b with
        | none => rfl
        | some x => simpa using ha x rfl
    · split
      · next ge e =>
        by_cases e' : v = 0#8
        · simp only [e', beq_self_eq_true, if_true]
          cases b with
          | none =>
            rw [Memory.above_iff] at hr ⊢
            exact ⟨hr.1, fun d m => ⟨(hr.2 d m).1, fun y e => by cases e⟩⟩
          | some x => exact lift x (by have : x < c.1 := by simpa using hb
                                       omega)
        · have : (v == 0#8) = false := by simpa using e'
          simp only [this, Bool.false_eq_true, if_false, Memory.above, Bool.and_eq_true, bne_iff_ne]
          refine ⟨⟨?_, e'⟩, lift a (by omega)⟩
          cases b with
          | none => rfl
          | some x => simpa using ha x rfl
      · next ge ne =>
        simp only [Memory.above, Bool.and_eq_true, bne_iff_ne]
        exact ⟨⟨hb, z⟩, ih (some c.1) (fun x e => by cases e; omega) hr⟩

/-- A write keeps the canonical form. -/
theorem Memory.wf_write (m : Memory) (a : Nat) (v : Byte) (h : m.wf = true) : (m.write a v).wf = true :=
  Memory.above_write none m a v (fun _ e => by cases e) h
theorem Memory.wf_writes (m : Memory) (a : Nat) (l : List Byte) (h : m.wf = true) : (m.writes a l).wf = true := by
  induction l generalizing m a with
  | nil => exact h
  | cons b r ih => exact ih _ _ (Memory.wf_write m a b h)
/-- What is left of a memory after cells are dropped is canonical. -/
theorem Memory.wf_filter (m : Memory) (f : Host.Cell → Bool) (h : m.wf = true) : Memory.wf (m.filter f) = true := by
  rw [Memory.wf_iff] at h ⊢
  exact ⟨h.1.filter _, fun c k => h.2 c (List.mem_of_mem_filter k)⟩
theorem Memory.wf_clear (m : Memory) (a n : Nat) (h : m.wf = true) : (m.clear a n).wf = true := Memory.wf_filter m _ h
/-- Two memories, the first below an address and the second from it on, are together canonical. -/
theorem Memory.wf_append (m o : Memory) (a : Nat) (hm : m.wf = true) (ho : o.wf = true) (lo : ∀ c ∈ m, c.1 < a)
    (hi : ∀ c ∈ o, a ≤ c.1) : Memory.wf (m ++ o) = true := by
  rw [Memory.wf_iff] at hm ho ⊢
  refine ⟨List.pairwise_append.2 ⟨hm.1, ho.1, fun c k d k' => lt_of_lt_of_le (lo c k) (hi d k')⟩, ?_⟩
  intro c k
  rcases List.mem_append.1 k with k | k
  · exact hm.2 c k
  · exact ho.2 c k
theorem Memory.wf_copy (m : Memory) (dst : Nat) (o : Memory) (src n : Nat) (hm : m.wf = true) (ho : o.wf = true) :
    (m.copy dst o src n).wf = true := by
  unfold Memory.copy
  refine Memory.wf_append _ _ (dst + n) (Memory.wf_append _ _ dst (Memory.wf_filter m _ hm) ?_ ?_ ?_) (Memory.wf_filter m _ hm) ?_ ?_
  · have h := Memory.wf_filter o (fun c => decide (src ≤ c.1) && decide (c.1 < src + n)) ho
    rw [Memory.wf_iff] at h ⊢
    constructor
    · rw [List.pairwise_map]
      refine h.1.imp_of_mem ?_
      intro c d hc hd lt
      simp only [List.mem_filter, Bool.and_eq_true, decide_eq_true_eq] at hc hd
      dsimp only
      omega
    · intro c k
      obtain ⟨d, k', rfl⟩ := List.mem_map.1 k
      exact h.2 d k'
  · intro c k; simpa using (List.mem_filter.1 k).2
  · intro c k
    obtain ⟨d, k', rfl⟩ := List.mem_map.1 k
    dsimp only
    omega
  · intro c k
    rcases List.mem_append.1 k with k | k
    · have : c.1 < dst := by simpa using (List.mem_filter.1 k).2
      omega
    · obtain ⟨d, k', rfl⟩ := List.mem_map.1 k
      simp only [List.mem_filter, Bool.and_eq_true, decide_eq_true_eq] at k'
      dsimp only
      omega
  · intro c k; simpa using (List.mem_filter.1 k).2
theorem Memory.mem_ofBytes {a : Nat} {l : List Byte} {c : Host.Cell} (h : c ∈ Memory.ofBytes a l) : a ≤ c.1 ∧ c.1 < a + l.length := by
  induction l generalizing a with
  | nil => simp [Memory.ofBytes] at h
  | cons b r ih =>
    unfold Memory.ofBytes at h
    split at h
    · have := ih h; simp only [List.length_cons]; omega
    · rcases List.mem_cons.1 h with e | h
      · subst e; simp
      · have := ih h; simp only [List.length_cons]; omega
theorem Memory.wf_ofBytes (a : Nat) (l : List Byte) : Memory.wf (Memory.ofBytes a l) = true := by
  induction l generalizing a with
  | nil => rfl
  | cons b r ih =>
    unfold Memory.ofBytes
    split
    · exact ih _
    · next z =>
      have h := ih (a + 1)
      rw [Memory.wf_iff] at h ⊢
      refine ⟨List.pairwise_cons.2 ⟨fun d k => by have := (Memory.mem_ofBytes k).1; dsimp only; omega, h.1⟩, ?_⟩
      intro c k
      rcases List.mem_cons.1 k with e | k
      · subst e; simpa using z
      · exact h.2 c k

/-- A read after a write: the value written at its address, and every other byte as it was. -/
theorem Memory.read_write (m : Memory) (a b : Nat) (v : Byte) (h : m.wf = true) :
    (m.write a v).read b = if b = a then v else m.read b := by
  have low : ∀ (x : Nat) (r : Memory), Memory.above (some x) r = true → ∀ y, y ≤ x → Memory.read r y = 0#8 := by
    intro x r
    induction r generalizing x with
    | nil => intro _ _ _; rfl
    | cons c r ih =>
      intro h y le
      simp only [Memory.above, Bool.and_eq_true, decide_eq_true_eq] at h
      have hn : (c.1 == y) = false := by simp; omega
      simp only [Memory.read, hn]
      exact ih c.1 h.2 y (by omega)
  unfold Memory.wf at h
  revert h
  generalize (none : Option Nat) = w
  induction m generalizing w with
  | nil =>
    intro _
    by_cases z : v = 0#8
    · simp [Memory.write, z, Memory.read]
    · have hz : (v == 0#8) = false := by simpa using z
      simp only [Memory.write, hz, Memory.read, Bool.false_eq_true, if_false, beq_iff_eq]
      by_cases e : b = a
      · simp [e]
      · simp [e, Ne.symm e]
  | cons c r ih =>
    intro h
    simp only [Memory.above, Bool.and_eq_true] at h
    have hr := h.2
    unfold Memory.write
    split
    · next lt =>
      by_cases z : v = 0#8
      · have hz : (v == 0#8) = true := by simpa using z
        simp only [hz, if_true]
        split
        · next e =>
          subst e; rw [z]
          have hn : (c.1 == b) = false := by simp; omega
          simp only [Memory.read, hn]
          exact low c.1 r hr b (by omega)
        · rfl
      · have hz : (v == 0#8) = false := by simpa using z
        simp only [hz, Bool.false_eq_true, if_false]
        by_cases e : b = a
        · simp [Memory.read, e]
        · have hn : (a == b) = false := by simpa using Ne.symm e
          simp [Memory.read, e, hn]
    · split
      · next ge e =>
        subst e
        by_cases z : v = 0#8
        · have hz : (v == 0#8) = true := by simpa using z
          simp only [hz, if_true]
          by_cases e : b = c.1
          · subst e; simp [z, low c.1 r hr c.1 (le_refl _)]
          · have hn : (c.1 == b) = false := by simpa using Ne.symm e
            simp [Memory.read, e, hn]
        · have hz : (v == 0#8) = false := by simpa using z
          simp only [hz, Bool.false_eq_true, if_false]
          by_cases e : b = c.1
          · simp [Memory.read, e]
          · have hn : (c.1 == b) = false := by simpa using Ne.symm e
            simp [Memory.read, e, hn]
      · next ge ne =>
        by_cases e : c.1 = b
        · have : ¬ b = a := by omega
          simp [Memory.read, e, this]
        · have hn : (c.1 == b) = false := by simpa using e
          simp only [Memory.read, hn]
          exact ih (some c.1) hr

end Sys2Proof.Machine
end

