-- ==== Sys2Proof/Laws/State.lean ====
section
/-! SUPPORT. What each update of one part of the state leaves alone, a lemma per field and update, each true by `rfl`; and
reading back what an update of a port, a tile, a core, a ring or a feed wrote. -/
namespace Sys2Proof.Machine

variable (s : State)

/-! ### modPort -/
@[simp] theorem State.modPort_tiles (p : PortId) (f : Port → Port) : (s.modPort p f).tiles = s.tiles := rfl
@[simp] theorem State.modPort_feedA (p : PortId) (f : Port → Port) : (s.modPort p f).feedA = s.feedA := rfl
@[simp] theorem State.modPort_feedB (p : PortId) (f : Port → Port) : (s.modPort p f).feedB = s.feedB := rfl
@[simp] theorem State.modPort_cfg (p : PortId) (f : Port → Port) : (s.modPort p f).cfg = s.cfg := rfl
@[simp] theorem State.modPort_board (p : PortId) (f : Port → Port) : (s.modPort p f).board = s.board := rfl
@[simp] theorem State.modPort_link (p : PortId) (f : Port → Port) : (s.modPort p f).link = s.link := rfl
@[simp] theorem State.modPort_rings (p : PortId) (f : Port → Port) : (s.modPort p f).rings = s.rings := rfl
@[simp] theorem State.modPort_ref (p : PortId) (f : Port → Port) : (s.modPort p f).ref = s.ref := rfl
@[simp] theorem State.modPort_pwr (p : PortId) (f : Port → Port) : (s.modPort p f).pwr = s.pwr := rfl
@[simp] theorem State.modPort_hud (p : PortId) (f : Port → Port) : (s.modPort p f).hud = s.hud := rfl
@[simp] theorem State.modPort_meas (p : PortId) (f : Port → Port) : (s.modPort p f).meas = s.meas := rfl
@[simp] theorem State.modPort_cores (p : PortId) (f : Port → Port) : (s.modPort p f).cores = s.cores := rfl
@[simp] theorem State.modPort_fuse (p : PortId) (f : Port → Port) : (s.modPort p f).fuse = s.fuse := rfl
@[simp] theorem State.modPort_svc (p : PortId) (f : Port → Port) : (s.modPort p f).svc = s.svc := rfl
@[simp] theorem State.modPort_upd (p : PortId) (f : Port → Port) : (s.modPort p f).upd = s.upd := rfl
@[simp] theorem State.modPort_bus (p : PortId) (f : Port → Port) : (s.modPort p f).bus = s.bus := rfl
@[simp] theorem State.modPort_core (p : PortId) (f : Port → Port) : (s.modPort p f).core = s.core := rfl
@[simp] theorem State.modPort_rtc (p : PortId) (f : Port → Port) : (s.modPort p f).rtc = s.rtc := rfl
@[simp] theorem State.modPort_aon (p : PortId) (f : Port → Port) : (s.modPort p f).aon = s.aon := rfl
@[simp] theorem State.modPort_hub (p : PortId) (f : Port → Port) : (s.modPort p f).hub = s.hub := rfl
@[simp] theorem State.modPort_freeCtr (p : PortId) (f : Port → Port) : (s.modPort p f).freeCtr = s.freeCtr := rfl
@[simp] theorem State.modPort_pending (p : PortId) (f : Port → Port) : (s.modPort p f).pending = s.pending := rfl

/-! ### modTile -/
@[simp] theorem State.modTile_ports (t : TileId) (f : Tile → Tile) : (s.modTile t f).ports = s.ports := rfl
@[simp] theorem State.modTile_feedA (t : TileId) (f : Tile → Tile) : (s.modTile t f).feedA = s.feedA := rfl
@[simp] theorem State.modTile_feedB (t : TileId) (f : Tile → Tile) : (s.modTile t f).feedB = s.feedB := rfl
@[simp] theorem State.modTile_cfg (t : TileId) (f : Tile → Tile) : (s.modTile t f).cfg = s.cfg := rfl
@[simp] theorem State.modTile_board (t : TileId) (f : Tile → Tile) : (s.modTile t f).board = s.board := rfl
@[simp] theorem State.modTile_link (t : TileId) (f : Tile → Tile) : (s.modTile t f).link = s.link := rfl
@[simp] theorem State.modTile_rings (t : TileId) (f : Tile → Tile) : (s.modTile t f).rings = s.rings := rfl
@[simp] theorem State.modTile_ref (t : TileId) (f : Tile → Tile) : (s.modTile t f).ref = s.ref := rfl
@[simp] theorem State.modTile_pwr (t : TileId) (f : Tile → Tile) : (s.modTile t f).pwr = s.pwr := rfl
@[simp] theorem State.modTile_hud (t : TileId) (f : Tile → Tile) : (s.modTile t f).hud = s.hud := rfl
@[simp] theorem State.modTile_meas (t : TileId) (f : Tile → Tile) : (s.modTile t f).meas = s.meas := rfl
@[simp] theorem State.modTile_cores (t : TileId) (f : Tile → Tile) : (s.modTile t f).cores = s.cores := rfl
@[simp] theorem State.modTile_fuse (t : TileId) (f : Tile → Tile) : (s.modTile t f).fuse = s.fuse := rfl
@[simp] theorem State.modTile_svc (t : TileId) (f : Tile → Tile) : (s.modTile t f).svc = s.svc := rfl
@[simp] theorem State.modTile_upd (t : TileId) (f : Tile → Tile) : (s.modTile t f).upd = s.upd := rfl
@[simp] theorem State.modTile_bus (t : TileId) (f : Tile → Tile) : (s.modTile t f).bus = s.bus := rfl
@[simp] theorem State.modTile_core (t : TileId) (f : Tile → Tile) : (s.modTile t f).core = s.core := rfl
@[simp] theorem State.modTile_rtc (t : TileId) (f : Tile → Tile) : (s.modTile t f).rtc = s.rtc := rfl
@[simp] theorem State.modTile_aon (t : TileId) (f : Tile → Tile) : (s.modTile t f).aon = s.aon := rfl
@[simp] theorem State.modTile_hub (t : TileId) (f : Tile → Tile) : (s.modTile t f).hub = s.hub := rfl
@[simp] theorem State.modTile_freeCtr (t : TileId) (f : Tile → Tile) : (s.modTile t f).freeCtr = s.freeCtr := rfl
@[simp] theorem State.modTile_pending (t : TileId) (f : Tile → Tile) : (s.modTile t f).pending = s.pending := rfl

/-! ### modCfg -/
@[simp] theorem State.modCfg_ports (f : Cfg → Cfg) : (s.modCfg f).ports = s.ports := rfl
@[simp] theorem State.modCfg_tiles (f : Cfg → Cfg) : (s.modCfg f).tiles = s.tiles := rfl
@[simp] theorem State.modCfg_feedA (f : Cfg → Cfg) : (s.modCfg f).feedA = s.feedA := rfl
@[simp] theorem State.modCfg_feedB (f : Cfg → Cfg) : (s.modCfg f).feedB = s.feedB := rfl
@[simp] theorem State.modCfg_cfg (f : Cfg → Cfg) : (s.modCfg f).cfg = f s.cfg := rfl
@[simp] theorem State.modCfg_board (f : Cfg → Cfg) : (s.modCfg f).board = s.board := rfl
@[simp] theorem State.modCfg_link (f : Cfg → Cfg) : (s.modCfg f).link = s.link := rfl
@[simp] theorem State.modCfg_rings (f : Cfg → Cfg) : (s.modCfg f).rings = s.rings := rfl
@[simp] theorem State.modCfg_ref (f : Cfg → Cfg) : (s.modCfg f).ref = s.ref := rfl
@[simp] theorem State.modCfg_pwr (f : Cfg → Cfg) : (s.modCfg f).pwr = s.pwr := rfl
@[simp] theorem State.modCfg_hud (f : Cfg → Cfg) : (s.modCfg f).hud = s.hud := rfl
@[simp] theorem State.modCfg_meas (f : Cfg → Cfg) : (s.modCfg f).meas = s.meas := rfl
@[simp] theorem State.modCfg_cores (f : Cfg → Cfg) : (s.modCfg f).cores = s.cores := rfl
@[simp] theorem State.modCfg_fuse (f : Cfg → Cfg) : (s.modCfg f).fuse = s.fuse := rfl
@[simp] theorem State.modCfg_svc (f : Cfg → Cfg) : (s.modCfg f).svc = s.svc := rfl
@[simp] theorem State.modCfg_upd (f : Cfg → Cfg) : (s.modCfg f).upd = s.upd := rfl
@[simp] theorem State.modCfg_bus (f : Cfg → Cfg) : (s.modCfg f).bus = s.bus := rfl
@[simp] theorem State.modCfg_core (f : Cfg → Cfg) : (s.modCfg f).core = s.core := rfl
@[simp] theorem State.modCfg_rtc (f : Cfg → Cfg) : (s.modCfg f).rtc = s.rtc := rfl
@[simp] theorem State.modCfg_aon (f : Cfg → Cfg) : (s.modCfg f).aon = s.aon := rfl
@[simp] theorem State.modCfg_hub (f : Cfg → Cfg) : (s.modCfg f).hub = s.hub := rfl
@[simp] theorem State.modCfg_freeCtr (f : Cfg → Cfg) : (s.modCfg f).freeCtr = s.freeCtr := rfl
@[simp] theorem State.modCfg_pending (f : Cfg → Cfg) : (s.modCfg f).pending = s.pending := rfl

/-! ### modBoard -/
@[simp] theorem State.modBoard_ports (f : Board → Board) : (s.modBoard f).ports = s.ports := rfl
@[simp] theorem State.modBoard_tiles (f : Board → Board) : (s.modBoard f).tiles = s.tiles := rfl
@[simp] theorem State.modBoard_feedA (f : Board → Board) : (s.modBoard f).feedA = s.feedA := rfl
@[simp] theorem State.modBoard_feedB (f : Board → Board) : (s.modBoard f).feedB = s.feedB := rfl
@[simp] theorem State.modBoard_cfg (f : Board → Board) : (s.modBoard f).cfg = s.cfg := rfl
@[simp] theorem State.modBoard_board (f : Board → Board) : (s.modBoard f).board = f s.board := rfl
@[simp] theorem State.modBoard_link (f : Board → Board) : (s.modBoard f).link = s.link := rfl
@[simp] theorem State.modBoard_rings (f : Board → Board) : (s.modBoard f).rings = s.rings := rfl
@[simp] theorem State.modBoard_ref (f : Board → Board) : (s.modBoard f).ref = s.ref := rfl
@[simp] theorem State.modBoard_pwr (f : Board → Board) : (s.modBoard f).pwr = s.pwr := rfl
@[simp] theorem State.modBoard_hud (f : Board → Board) : (s.modBoard f).hud = s.hud := rfl
@[simp] theorem State.modBoard_meas (f : Board → Board) : (s.modBoard f).meas = s.meas := rfl
@[simp] theorem State.modBoard_cores (f : Board → Board) : (s.modBoard f).cores = s.cores := rfl
@[simp] theorem State.modBoard_fuse (f : Board → Board) : (s.modBoard f).fuse = s.fuse := rfl
@[simp] theorem State.modBoard_svc (f : Board → Board) : (s.modBoard f).svc = s.svc := rfl
@[simp] theorem State.modBoard_upd (f : Board → Board) : (s.modBoard f).upd = s.upd := rfl
@[simp] theorem State.modBoard_bus (f : Board → Board) : (s.modBoard f).bus = s.bus := rfl
@[simp] theorem State.modBoard_core (f : Board → Board) : (s.modBoard f).core = s.core := rfl
@[simp] theorem State.modBoard_rtc (f : Board → Board) : (s.modBoard f).rtc = s.rtc := rfl
@[simp] theorem State.modBoard_aon (f : Board → Board) : (s.modBoard f).aon = s.aon := rfl
@[simp] theorem State.modBoard_hub (f : Board → Board) : (s.modBoard f).hub = s.hub := rfl
@[simp] theorem State.modBoard_freeCtr (f : Board → Board) : (s.modBoard f).freeCtr = s.freeCtr := rfl
@[simp] theorem State.modBoard_pending (f : Board → Board) : (s.modBoard f).pending = s.pending := rfl

/-! ### modLink -/
@[simp] theorem State.modLink_ports (f : Link → Link) : (s.modLink f).ports = s.ports := rfl
@[simp] theorem State.modLink_tiles (f : Link → Link) : (s.modLink f).tiles = s.tiles := rfl
@[simp] theorem State.modLink_feedA (f : Link → Link) : (s.modLink f).feedA = s.feedA := rfl
@[simp] theorem State.modLink_feedB (f : Link → Link) : (s.modLink f).feedB = s.feedB := rfl
@[simp] theorem State.modLink_cfg (f : Link → Link) : (s.modLink f).cfg = s.cfg := rfl
@[simp] theorem State.modLink_board (f : Link → Link) : (s.modLink f).board = s.board := rfl
@[simp] theorem State.modLink_link (f : Link → Link) : (s.modLink f).link = f s.link := rfl
@[simp] theorem State.modLink_rings (f : Link → Link) : (s.modLink f).rings = s.rings := rfl
@[simp] theorem State.modLink_ref (f : Link → Link) : (s.modLink f).ref = s.ref := rfl
@[simp] theorem State.modLink_pwr (f : Link → Link) : (s.modLink f).pwr = s.pwr := rfl
@[simp] theorem State.modLink_hud (f : Link → Link) : (s.modLink f).hud = s.hud := rfl
@[simp] theorem State.modLink_meas (f : Link → Link) : (s.modLink f).meas = s.meas := rfl
@[simp] theorem State.modLink_cores (f : Link → Link) : (s.modLink f).cores = s.cores := rfl
@[simp] theorem State.modLink_fuse (f : Link → Link) : (s.modLink f).fuse = s.fuse := rfl
@[simp] theorem State.modLink_svc (f : Link → Link) : (s.modLink f).svc = s.svc := rfl
@[simp] theorem State.modLink_upd (f : Link → Link) : (s.modLink f).upd = s.upd := rfl
@[simp] theorem State.modLink_bus (f : Link → Link) : (s.modLink f).bus = s.bus := rfl
@[simp] theorem State.modLink_core (f : Link → Link) : (s.modLink f).core = s.core := rfl
@[simp] theorem State.modLink_rtc (f : Link → Link) : (s.modLink f).rtc = s.rtc := rfl
@[simp] theorem State.modLink_aon (f : Link → Link) : (s.modLink f).aon = s.aon := rfl
@[simp] theorem State.modLink_hub (f : Link → Link) : (s.modLink f).hub = s.hub := rfl
@[simp] theorem State.modLink_freeCtr (f : Link → Link) : (s.modLink f).freeCtr = s.freeCtr := rfl
@[simp] theorem State.modLink_pending (f : Link → Link) : (s.modLink f).pending = s.pending := rfl

/-! ### modRef -/
@[simp] theorem State.modRef_ports (f : Ref → Ref) : (s.modRef f).ports = s.ports := rfl
@[simp] theorem State.modRef_tiles (f : Ref → Ref) : (s.modRef f).tiles = s.tiles := rfl
@[simp] theorem State.modRef_feedA (f : Ref → Ref) : (s.modRef f).feedA = s.feedA := rfl
@[simp] theorem State.modRef_feedB (f : Ref → Ref) : (s.modRef f).feedB = s.feedB := rfl
@[simp] theorem State.modRef_cfg (f : Ref → Ref) : (s.modRef f).cfg = s.cfg := rfl
@[simp] theorem State.modRef_board (f : Ref → Ref) : (s.modRef f).board = s.board := rfl
@[simp] theorem State.modRef_link (f : Ref → Ref) : (s.modRef f).link = s.link := rfl
@[simp] theorem State.modRef_rings (f : Ref → Ref) : (s.modRef f).rings = s.rings := rfl
@[simp] theorem State.modRef_ref (f : Ref → Ref) : (s.modRef f).ref = f s.ref := rfl
@[simp] theorem State.modRef_pwr (f : Ref → Ref) : (s.modRef f).pwr = s.pwr := rfl
@[simp] theorem State.modRef_hud (f : Ref → Ref) : (s.modRef f).hud = s.hud := rfl
@[simp] theorem State.modRef_meas (f : Ref → Ref) : (s.modRef f).meas = s.meas := rfl
@[simp] theorem State.modRef_cores (f : Ref → Ref) : (s.modRef f).cores = s.cores := rfl
@[simp] theorem State.modRef_fuse (f : Ref → Ref) : (s.modRef f).fuse = s.fuse := rfl
@[simp] theorem State.modRef_svc (f : Ref → Ref) : (s.modRef f).svc = s.svc := rfl
@[simp] theorem State.modRef_upd (f : Ref → Ref) : (s.modRef f).upd = s.upd := rfl
@[simp] theorem State.modRef_bus (f : Ref → Ref) : (s.modRef f).bus = s.bus := rfl
@[simp] theorem State.modRef_core (f : Ref → Ref) : (s.modRef f).core = s.core := rfl
@[simp] theorem State.modRef_rtc (f : Ref → Ref) : (s.modRef f).rtc = s.rtc := rfl
@[simp] theorem State.modRef_aon (f : Ref → Ref) : (s.modRef f).aon = s.aon := rfl
@[simp] theorem State.modRef_hub (f : Ref → Ref) : (s.modRef f).hub = s.hub := rfl
@[simp] theorem State.modRef_freeCtr (f : Ref → Ref) : (s.modRef f).freeCtr = s.freeCtr := rfl
@[simp] theorem State.modRef_pending (f : Ref → Ref) : (s.modRef f).pending = s.pending := rfl

/-! ### modPwr -/
@[simp] theorem State.modPwr_ports (f : Pwr → Pwr) : (s.modPwr f).ports = s.ports := rfl
@[simp] theorem State.modPwr_tiles (f : Pwr → Pwr) : (s.modPwr f).tiles = s.tiles := rfl
@[simp] theorem State.modPwr_feedA (f : Pwr → Pwr) : (s.modPwr f).feedA = s.feedA := rfl
@[simp] theorem State.modPwr_feedB (f : Pwr → Pwr) : (s.modPwr f).feedB = s.feedB := rfl
@[simp] theorem State.modPwr_cfg (f : Pwr → Pwr) : (s.modPwr f).cfg = s.cfg := rfl
@[simp] theorem State.modPwr_board (f : Pwr → Pwr) : (s.modPwr f).board = s.board := rfl
@[simp] theorem State.modPwr_link (f : Pwr → Pwr) : (s.modPwr f).link = s.link := rfl
@[simp] theorem State.modPwr_rings (f : Pwr → Pwr) : (s.modPwr f).rings = s.rings := rfl
@[simp] theorem State.modPwr_ref (f : Pwr → Pwr) : (s.modPwr f).ref = s.ref := rfl
@[simp] theorem State.modPwr_pwr (f : Pwr → Pwr) : (s.modPwr f).pwr = f s.pwr := rfl
@[simp] theorem State.modPwr_hud (f : Pwr → Pwr) : (s.modPwr f).hud = s.hud := rfl
@[simp] theorem State.modPwr_meas (f : Pwr → Pwr) : (s.modPwr f).meas = s.meas := rfl
@[simp] theorem State.modPwr_cores (f : Pwr → Pwr) : (s.modPwr f).cores = s.cores := rfl
@[simp] theorem State.modPwr_fuse (f : Pwr → Pwr) : (s.modPwr f).fuse = s.fuse := rfl
@[simp] theorem State.modPwr_svc (f : Pwr → Pwr) : (s.modPwr f).svc = s.svc := rfl
@[simp] theorem State.modPwr_upd (f : Pwr → Pwr) : (s.modPwr f).upd = s.upd := rfl
@[simp] theorem State.modPwr_bus (f : Pwr → Pwr) : (s.modPwr f).bus = s.bus := rfl
@[simp] theorem State.modPwr_core (f : Pwr → Pwr) : (s.modPwr f).core = s.core := rfl
@[simp] theorem State.modPwr_rtc (f : Pwr → Pwr) : (s.modPwr f).rtc = s.rtc := rfl
@[simp] theorem State.modPwr_aon (f : Pwr → Pwr) : (s.modPwr f).aon = s.aon := rfl
@[simp] theorem State.modPwr_hub (f : Pwr → Pwr) : (s.modPwr f).hub = s.hub := rfl
@[simp] theorem State.modPwr_freeCtr (f : Pwr → Pwr) : (s.modPwr f).freeCtr = s.freeCtr := rfl
@[simp] theorem State.modPwr_pending (f : Pwr → Pwr) : (s.modPwr f).pending = s.pending := rfl

/-! ### modCores -/
@[simp] theorem State.modCores_ports (f : Cores → Cores) : (s.modCores f).ports = s.ports := rfl
@[simp] theorem State.modCores_tiles (f : Cores → Cores) : (s.modCores f).tiles = s.tiles := rfl
@[simp] theorem State.modCores_feedA (f : Cores → Cores) : (s.modCores f).feedA = s.feedA := rfl
@[simp] theorem State.modCores_feedB (f : Cores → Cores) : (s.modCores f).feedB = s.feedB := rfl
@[simp] theorem State.modCores_cfg (f : Cores → Cores) : (s.modCores f).cfg = s.cfg := rfl
@[simp] theorem State.modCores_board (f : Cores → Cores) : (s.modCores f).board = s.board := rfl
@[simp] theorem State.modCores_link (f : Cores → Cores) : (s.modCores f).link = s.link := rfl
@[simp] theorem State.modCores_rings (f : Cores → Cores) : (s.modCores f).rings = s.rings := rfl
@[simp] theorem State.modCores_ref (f : Cores → Cores) : (s.modCores f).ref = s.ref := rfl
@[simp] theorem State.modCores_pwr (f : Cores → Cores) : (s.modCores f).pwr = s.pwr := rfl
@[simp] theorem State.modCores_hud (f : Cores → Cores) : (s.modCores f).hud = s.hud := rfl
@[simp] theorem State.modCores_meas (f : Cores → Cores) : (s.modCores f).meas = s.meas := rfl
@[simp] theorem State.modCores_cores (f : Cores → Cores) : (s.modCores f).cores = f s.cores := rfl
@[simp] theorem State.modCores_fuse (f : Cores → Cores) : (s.modCores f).fuse = s.fuse := rfl
@[simp] theorem State.modCores_svc (f : Cores → Cores) : (s.modCores f).svc = s.svc := rfl
@[simp] theorem State.modCores_upd (f : Cores → Cores) : (s.modCores f).upd = s.upd := rfl
@[simp] theorem State.modCores_bus (f : Cores → Cores) : (s.modCores f).bus = s.bus := rfl
@[simp] theorem State.modCores_core (f : Cores → Cores) : (s.modCores f).core = s.core := rfl
@[simp] theorem State.modCores_rtc (f : Cores → Cores) : (s.modCores f).rtc = s.rtc := rfl
@[simp] theorem State.modCores_aon (f : Cores → Cores) : (s.modCores f).aon = s.aon := rfl
@[simp] theorem State.modCores_hub (f : Cores → Cores) : (s.modCores f).hub = s.hub := rfl
@[simp] theorem State.modCores_freeCtr (f : Cores → Cores) : (s.modCores f).freeCtr = s.freeCtr := rfl
@[simp] theorem State.modCores_pending (f : Cores → Cores) : (s.modCores f).pending = s.pending := rfl

/-! ### modFuse -/
@[simp] theorem State.modFuse_ports (f : Fuse → Fuse) : (s.modFuse f).ports = s.ports := rfl
@[simp] theorem State.modFuse_tiles (f : Fuse → Fuse) : (s.modFuse f).tiles = s.tiles := rfl
@[simp] theorem State.modFuse_feedA (f : Fuse → Fuse) : (s.modFuse f).feedA = s.feedA := rfl
@[simp] theorem State.modFuse_feedB (f : Fuse → Fuse) : (s.modFuse f).feedB = s.feedB := rfl
@[simp] theorem State.modFuse_cfg (f : Fuse → Fuse) : (s.modFuse f).cfg = s.cfg := rfl
@[simp] theorem State.modFuse_board (f : Fuse → Fuse) : (s.modFuse f).board = s.board := rfl
@[simp] theorem State.modFuse_link (f : Fuse → Fuse) : (s.modFuse f).link = s.link := rfl
@[simp] theorem State.modFuse_rings (f : Fuse → Fuse) : (s.modFuse f).rings = s.rings := rfl
@[simp] theorem State.modFuse_ref (f : Fuse → Fuse) : (s.modFuse f).ref = s.ref := rfl
@[simp] theorem State.modFuse_pwr (f : Fuse → Fuse) : (s.modFuse f).pwr = s.pwr := rfl
@[simp] theorem State.modFuse_hud (f : Fuse → Fuse) : (s.modFuse f).hud = s.hud := rfl
@[simp] theorem State.modFuse_meas (f : Fuse → Fuse) : (s.modFuse f).meas = s.meas := rfl
@[simp] theorem State.modFuse_cores (f : Fuse → Fuse) : (s.modFuse f).cores = s.cores := rfl
@[simp] theorem State.modFuse_fuse (f : Fuse → Fuse) : (s.modFuse f).fuse = f s.fuse := rfl
@[simp] theorem State.modFuse_svc (f : Fuse → Fuse) : (s.modFuse f).svc = s.svc := rfl
@[simp] theorem State.modFuse_upd (f : Fuse → Fuse) : (s.modFuse f).upd = s.upd := rfl
@[simp] theorem State.modFuse_bus (f : Fuse → Fuse) : (s.modFuse f).bus = s.bus := rfl
@[simp] theorem State.modFuse_core (f : Fuse → Fuse) : (s.modFuse f).core = s.core := rfl
@[simp] theorem State.modFuse_rtc (f : Fuse → Fuse) : (s.modFuse f).rtc = s.rtc := rfl
@[simp] theorem State.modFuse_aon (f : Fuse → Fuse) : (s.modFuse f).aon = s.aon := rfl
@[simp] theorem State.modFuse_hub (f : Fuse → Fuse) : (s.modFuse f).hub = s.hub := rfl
@[simp] theorem State.modFuse_freeCtr (f : Fuse → Fuse) : (s.modFuse f).freeCtr = s.freeCtr := rfl
@[simp] theorem State.modFuse_pending (f : Fuse → Fuse) : (s.modFuse f).pending = s.pending := rfl

/-! ### modHud -/
@[simp] theorem State.modHud_ports (f : Huddle → Huddle) : (s.modHud f).ports = s.ports := rfl
@[simp] theorem State.modHud_tiles (f : Huddle → Huddle) : (s.modHud f).tiles = s.tiles := rfl
@[simp] theorem State.modHud_feedA (f : Huddle → Huddle) : (s.modHud f).feedA = s.feedA := rfl
@[simp] theorem State.modHud_feedB (f : Huddle → Huddle) : (s.modHud f).feedB = s.feedB := rfl
@[simp] theorem State.modHud_cfg (f : Huddle → Huddle) : (s.modHud f).cfg = s.cfg := rfl
@[simp] theorem State.modHud_board (f : Huddle → Huddle) : (s.modHud f).board = s.board := rfl
@[simp] theorem State.modHud_link (f : Huddle → Huddle) : (s.modHud f).link = s.link := rfl
@[simp] theorem State.modHud_rings (f : Huddle → Huddle) : (s.modHud f).rings = s.rings := rfl
@[simp] theorem State.modHud_ref (f : Huddle → Huddle) : (s.modHud f).ref = s.ref := rfl
@[simp] theorem State.modHud_pwr (f : Huddle → Huddle) : (s.modHud f).pwr = s.pwr := rfl
@[simp] theorem State.modHud_hud (f : Huddle → Huddle) : (s.modHud f).hud = f s.hud := rfl
@[simp] theorem State.modHud_meas (f : Huddle → Huddle) : (s.modHud f).meas = s.meas := rfl
@[simp] theorem State.modHud_cores (f : Huddle → Huddle) : (s.modHud f).cores = s.cores := rfl
@[simp] theorem State.modHud_fuse (f : Huddle → Huddle) : (s.modHud f).fuse = s.fuse := rfl
@[simp] theorem State.modHud_svc (f : Huddle → Huddle) : (s.modHud f).svc = s.svc := rfl
@[simp] theorem State.modHud_upd (f : Huddle → Huddle) : (s.modHud f).upd = s.upd := rfl
@[simp] theorem State.modHud_bus (f : Huddle → Huddle) : (s.modHud f).bus = s.bus := rfl
@[simp] theorem State.modHud_core (f : Huddle → Huddle) : (s.modHud f).core = s.core := rfl
@[simp] theorem State.modHud_rtc (f : Huddle → Huddle) : (s.modHud f).rtc = s.rtc := rfl
@[simp] theorem State.modHud_aon (f : Huddle → Huddle) : (s.modHud f).aon = s.aon := rfl
@[simp] theorem State.modHud_hub (f : Huddle → Huddle) : (s.modHud f).hub = s.hub := rfl
@[simp] theorem State.modHud_freeCtr (f : Huddle → Huddle) : (s.modHud f).freeCtr = s.freeCtr := rfl
@[simp] theorem State.modHud_pending (f : Huddle → Huddle) : (s.modHud f).pending = s.pending := rfl

/-! ### modSvc -/
@[simp] theorem State.modSvc_ports (f : Svc → Svc) : (s.modSvc f).ports = s.ports := rfl
@[simp] theorem State.modSvc_tiles (f : Svc → Svc) : (s.modSvc f).tiles = s.tiles := rfl
@[simp] theorem State.modSvc_feedA (f : Svc → Svc) : (s.modSvc f).feedA = s.feedA := rfl
@[simp] theorem State.modSvc_feedB (f : Svc → Svc) : (s.modSvc f).feedB = s.feedB := rfl
@[simp] theorem State.modSvc_cfg (f : Svc → Svc) : (s.modSvc f).cfg = s.cfg := rfl
@[simp] theorem State.modSvc_board (f : Svc → Svc) : (s.modSvc f).board = s.board := rfl
@[simp] theorem State.modSvc_link (f : Svc → Svc) : (s.modSvc f).link = s.link := rfl
@[simp] theorem State.modSvc_rings (f : Svc → Svc) : (s.modSvc f).rings = s.rings := rfl
@[simp] theorem State.modSvc_ref (f : Svc → Svc) : (s.modSvc f).ref = s.ref := rfl
@[simp] theorem State.modSvc_pwr (f : Svc → Svc) : (s.modSvc f).pwr = s.pwr := rfl
@[simp] theorem State.modSvc_hud (f : Svc → Svc) : (s.modSvc f).hud = s.hud := rfl
@[simp] theorem State.modSvc_meas (f : Svc → Svc) : (s.modSvc f).meas = s.meas := rfl
@[simp] theorem State.modSvc_cores (f : Svc → Svc) : (s.modSvc f).cores = s.cores := rfl
@[simp] theorem State.modSvc_fuse (f : Svc → Svc) : (s.modSvc f).fuse = s.fuse := rfl
@[simp] theorem State.modSvc_svc (f : Svc → Svc) : (s.modSvc f).svc = f s.svc := rfl
@[simp] theorem State.modSvc_upd (f : Svc → Svc) : (s.modSvc f).upd = s.upd := rfl
@[simp] theorem State.modSvc_bus (f : Svc → Svc) : (s.modSvc f).bus = s.bus := rfl
@[simp] theorem State.modSvc_core (f : Svc → Svc) : (s.modSvc f).core = s.core := rfl
@[simp] theorem State.modSvc_rtc (f : Svc → Svc) : (s.modSvc f).rtc = s.rtc := rfl
@[simp] theorem State.modSvc_aon (f : Svc → Svc) : (s.modSvc f).aon = s.aon := rfl
@[simp] theorem State.modSvc_hub (f : Svc → Svc) : (s.modSvc f).hub = s.hub := rfl
@[simp] theorem State.modSvc_freeCtr (f : Svc → Svc) : (s.modSvc f).freeCtr = s.freeCtr := rfl
@[simp] theorem State.modSvc_pending (f : Svc → Svc) : (s.modSvc f).pending = s.pending := rfl

/-! ### modUpd -/
@[simp] theorem State.modUpd_ports (f : Upd → Upd) : (s.modUpd f).ports = s.ports := rfl
@[simp] theorem State.modUpd_tiles (f : Upd → Upd) : (s.modUpd f).tiles = s.tiles := rfl
@[simp] theorem State.modUpd_feedA (f : Upd → Upd) : (s.modUpd f).feedA = s.feedA := rfl
@[simp] theorem State.modUpd_feedB (f : Upd → Upd) : (s.modUpd f).feedB = s.feedB := rfl
@[simp] theorem State.modUpd_cfg (f : Upd → Upd) : (s.modUpd f).cfg = s.cfg := rfl
@[simp] theorem State.modUpd_board (f : Upd → Upd) : (s.modUpd f).board = s.board := rfl
@[simp] theorem State.modUpd_link (f : Upd → Upd) : (s.modUpd f).link = s.link := rfl
@[simp] theorem State.modUpd_rings (f : Upd → Upd) : (s.modUpd f).rings = s.rings := rfl
@[simp] theorem State.modUpd_ref (f : Upd → Upd) : (s.modUpd f).ref = s.ref := rfl
@[simp] theorem State.modUpd_pwr (f : Upd → Upd) : (s.modUpd f).pwr = s.pwr := rfl
@[simp] theorem State.modUpd_hud (f : Upd → Upd) : (s.modUpd f).hud = s.hud := rfl
@[simp] theorem State.modUpd_meas (f : Upd → Upd) : (s.modUpd f).meas = s.meas := rfl
@[simp] theorem State.modUpd_cores (f : Upd → Upd) : (s.modUpd f).cores = s.cores := rfl
@[simp] theorem State.modUpd_fuse (f : Upd → Upd) : (s.modUpd f).fuse = s.fuse := rfl
@[simp] theorem State.modUpd_svc (f : Upd → Upd) : (s.modUpd f).svc = s.svc := rfl
@[simp] theorem State.modUpd_upd (f : Upd → Upd) : (s.modUpd f).upd = f s.upd := rfl
@[simp] theorem State.modUpd_bus (f : Upd → Upd) : (s.modUpd f).bus = s.bus := rfl
@[simp] theorem State.modUpd_core (f : Upd → Upd) : (s.modUpd f).core = s.core := rfl
@[simp] theorem State.modUpd_rtc (f : Upd → Upd) : (s.modUpd f).rtc = s.rtc := rfl
@[simp] theorem State.modUpd_aon (f : Upd → Upd) : (s.modUpd f).aon = s.aon := rfl
@[simp] theorem State.modUpd_hub (f : Upd → Upd) : (s.modUpd f).hub = s.hub := rfl
@[simp] theorem State.modUpd_freeCtr (f : Upd → Upd) : (s.modUpd f).freeCtr = s.freeCtr := rfl
@[simp] theorem State.modUpd_pending (f : Upd → Upd) : (s.modUpd f).pending = s.pending := rfl

/-! ### modCore -/
@[simp] theorem State.modCore_ports (k : CoreId) (f : Core → Core) : (s.modCore k f).ports = s.ports := rfl
@[simp] theorem State.modCore_tiles (k : CoreId) (f : Core → Core) : (s.modCore k f).tiles = s.tiles := rfl
@[simp] theorem State.modCore_feedA (k : CoreId) (f : Core → Core) : (s.modCore k f).feedA = s.feedA := rfl
@[simp] theorem State.modCore_feedB (k : CoreId) (f : Core → Core) : (s.modCore k f).feedB = s.feedB := rfl
@[simp] theorem State.modCore_cfg (k : CoreId) (f : Core → Core) : (s.modCore k f).cfg = s.cfg := rfl
@[simp] theorem State.modCore_board (k : CoreId) (f : Core → Core) : (s.modCore k f).board = s.board := rfl
@[simp] theorem State.modCore_link (k : CoreId) (f : Core → Core) : (s.modCore k f).link = s.link := rfl
@[simp] theorem State.modCore_rings (k : CoreId) (f : Core → Core) : (s.modCore k f).rings = s.rings := rfl
@[simp] theorem State.modCore_ref (k : CoreId) (f : Core → Core) : (s.modCore k f).ref = s.ref := rfl
@[simp] theorem State.modCore_pwr (k : CoreId) (f : Core → Core) : (s.modCore k f).pwr = s.pwr := rfl
@[simp] theorem State.modCore_hud (k : CoreId) (f : Core → Core) : (s.modCore k f).hud = s.hud := rfl
@[simp] theorem State.modCore_meas (k : CoreId) (f : Core → Core) : (s.modCore k f).meas = s.meas := rfl
@[simp] theorem State.modCore_cores (k : CoreId) (f : Core → Core) : (s.modCore k f).cores = s.cores := rfl
@[simp] theorem State.modCore_fuse (k : CoreId) (f : Core → Core) : (s.modCore k f).fuse = s.fuse := rfl
@[simp] theorem State.modCore_svc (k : CoreId) (f : Core → Core) : (s.modCore k f).svc = s.svc := rfl
@[simp] theorem State.modCore_upd (k : CoreId) (f : Core → Core) : (s.modCore k f).upd = s.upd := rfl
@[simp] theorem State.modCore_bus (k : CoreId) (f : Core → Core) : (s.modCore k f).bus = s.bus := rfl
@[simp] theorem State.modCore_rtc (k : CoreId) (f : Core → Core) : (s.modCore k f).rtc = s.rtc := rfl
@[simp] theorem State.modCore_aon (k : CoreId) (f : Core → Core) : (s.modCore k f).aon = s.aon := rfl
@[simp] theorem State.modCore_hub (k : CoreId) (f : Core → Core) : (s.modCore k f).hub = s.hub := rfl
@[simp] theorem State.modCore_freeCtr (k : CoreId) (f : Core → Core) : (s.modCore k f).freeCtr = s.freeCtr := rfl
@[simp] theorem State.modCore_pending (k : CoreId) (f : Core → Core) : (s.modCore k f).pending = s.pending := rfl

/-! ### A port's records are updated through modPort -/
@[simp] theorem State.modCc_eq (p : PortId) (f : Cc → Cc) : s.modCc p f = s.modPort p fun q => { q with cc := f q.cc } := rfl
@[simp] theorem State.modPd_eq (p : PortId) (f : Pd → Pd) : s.modPd p f = s.modPort p fun q => { q with pd := f q.pd } := rfl
@[simp] theorem State.modPol_eq (p : PortId) (f : Pol → Pol) : s.modPol p f = s.modPort p fun q => { q with pol := f q.pol } := rfl
@[simp] theorem State.modRally_eq (p : PortId) (f : Rally → Rally) : s.modRally p f = s.modPort p fun q => { q with rally := f q.rally } := rfl
@[simp] theorem State.modPath_eq (p : PortId) (f : Path → Path) : s.modPath p f = s.modPort p fun q => { q with path := f q.path } := rfl
@[simp] theorem State.modRetry_eq (p : PortId) (f : Retry → Retry) : s.modRetry p f = s.modPort p fun q => { q with retry := f q.retry } := rfl
@[simp] theorem State.modSb_eq (p : PortId) (f : Sb → Sb) : s.modSb p f = s.modPort p fun q => { q with sb := f q.sb } := rfl
@[simp] theorem State.modSc_eq (p : PortId) (f : Sched → Sched) : s.modSc p f = s.modPort p fun q => { q with sc := f q.sc } := rfl
@[simp] theorem State.modCnt_eq (p : PortId) (f : Cnts → Cnts) : s.modCnt p f = s.modPort p fun q => { q with cnt := f q.cnt } := rfl
@[simp] theorem State.setFence_eq (k : Nat) (b : Bool) : s.setFence k b = s.modPwr fun q => { q with fenced := setBit q.fenced k b } := rfl

/-! ### Rings and feeds -/
@[simp] theorem State.modRing_ports (n : Nat) (f : Ring → Ring) : (s.modRing n f).ports = s.ports := by unfold State.modRing; split <;> rfl
@[simp] theorem State.modRing_tiles (n : Nat) (f : Ring → Ring) : (s.modRing n f).tiles = s.tiles := by unfold State.modRing; split <;> rfl
@[simp] theorem State.modRing_feedA (n : Nat) (f : Ring → Ring) : (s.modRing n f).feedA = s.feedA := by unfold State.modRing; split <;> rfl
@[simp] theorem State.modRing_feedB (n : Nat) (f : Ring → Ring) : (s.modRing n f).feedB = s.feedB := by unfold State.modRing; split <;> rfl
@[simp] theorem State.modRing_cfg (n : Nat) (f : Ring → Ring) : (s.modRing n f).cfg = s.cfg := by unfold State.modRing; split <;> rfl
@[simp] theorem State.modRing_board (n : Nat) (f : Ring → Ring) : (s.modRing n f).board = s.board := by unfold State.modRing; split <;> rfl
@[simp] theorem State.modRing_link (n : Nat) (f : Ring → Ring) : (s.modRing n f).link = s.link := by unfold State.modRing; split <;> rfl
@[simp] theorem State.modRing_ref (n : Nat) (f : Ring → Ring) : (s.modRing n f).ref = s.ref := by unfold State.modRing; split <;> rfl
@[simp] theorem State.modRing_pwr (n : Nat) (f : Ring → Ring) : (s.modRing n f).pwr = s.pwr := by unfold State.modRing; split <;> rfl
@[simp] theorem State.modRing_hud (n : Nat) (f : Ring → Ring) : (s.modRing n f).hud = s.hud := by unfold State.modRing; split <;> rfl
@[simp] theorem State.modRing_meas (n : Nat) (f : Ring → Ring) : (s.modRing n f).meas = s.meas := by unfold State.modRing; split <;> rfl
@[simp] theorem State.modRing_cores (n : Nat) (f : Ring → Ring) : (s.modRing n f).cores = s.cores := by unfold State.modRing; split <;> rfl
@[simp] theorem State.modRing_fuse (n : Nat) (f : Ring → Ring) : (s.modRing n f).fuse = s.fuse := by unfold State.modRing; split <;> rfl
@[simp] theorem State.modRing_svc (n : Nat) (f : Ring → Ring) : (s.modRing n f).svc = s.svc := by unfold State.modRing; split <;> rfl
@[simp] theorem State.modRing_upd (n : Nat) (f : Ring → Ring) : (s.modRing n f).upd = s.upd := by unfold State.modRing; split <;> rfl
@[simp] theorem State.modRing_bus (n : Nat) (f : Ring → Ring) : (s.modRing n f).bus = s.bus := by unfold State.modRing; split <;> rfl
@[simp] theorem State.modRing_core (n : Nat) (f : Ring → Ring) : (s.modRing n f).core = s.core := by unfold State.modRing; split <;> rfl
@[simp] theorem State.modRing_rtc (n : Nat) (f : Ring → Ring) : (s.modRing n f).rtc = s.rtc := by unfold State.modRing; split <;> rfl
@[simp] theorem State.modRing_aon (n : Nat) (f : Ring → Ring) : (s.modRing n f).aon = s.aon := by unfold State.modRing; split <;> rfl
@[simp] theorem State.modRing_hub (n : Nat) (f : Ring → Ring) : (s.modRing n f).hub = s.hub := by unfold State.modRing; split <;> rfl
@[simp] theorem State.modRing_freeCtr (n : Nat) (f : Ring → Ring) : (s.modRing n f).freeCtr = s.freeCtr := by unfold State.modRing; split <;> rfl
@[simp] theorem State.modRing_pending (n : Nat) (f : Ring → Ring) : (s.modRing n f).pending = s.pending := by unfold State.modRing; split <;> rfl
@[simp] theorem State.modFeed_ports (d : FeedId) (g : Feed → Feed) : (s.modFeed d g).ports = s.ports := by cases d <;> rfl
@[simp] theorem State.modFeed_tiles (d : FeedId) (g : Feed → Feed) : (s.modFeed d g).tiles = s.tiles := by cases d <;> rfl
@[simp] theorem State.modFeed_cfg (d : FeedId) (g : Feed → Feed) : (s.modFeed d g).cfg = s.cfg := by cases d <;> rfl
@[simp] theorem State.modFeed_board (d : FeedId) (g : Feed → Feed) : (s.modFeed d g).board = s.board := by cases d <;> rfl
@[simp] theorem State.modFeed_link (d : FeedId) (g : Feed → Feed) : (s.modFeed d g).link = s.link := by cases d <;> rfl
@[simp] theorem State.modFeed_rings (d : FeedId) (g : Feed → Feed) : (s.modFeed d g).rings = s.rings := by cases d <;> rfl
@[simp] theorem State.modFeed_ref (d : FeedId) (g : Feed → Feed) : (s.modFeed d g).ref = s.ref := by cases d <;> rfl
@[simp] theorem State.modFeed_pwr (d : FeedId) (g : Feed → Feed) : (s.modFeed d g).pwr = s.pwr := by cases d <;> rfl
@[simp] theorem State.modFeed_hud (d : FeedId) (g : Feed → Feed) : (s.modFeed d g).hud = s.hud := by cases d <;> rfl
@[simp] theorem State.modFeed_meas (d : FeedId) (g : Feed → Feed) : (s.modFeed d g).meas = s.meas := by cases d <;> rfl
@[simp] theorem State.modFeed_cores (d : FeedId) (g : Feed → Feed) : (s.modFeed d g).cores = s.cores := by cases d <;> rfl
@[simp] theorem State.modFeed_fuse (d : FeedId) (g : Feed → Feed) : (s.modFeed d g).fuse = s.fuse := by cases d <;> rfl
@[simp] theorem State.modFeed_svc (d : FeedId) (g : Feed → Feed) : (s.modFeed d g).svc = s.svc := by cases d <;> rfl
@[simp] theorem State.modFeed_upd (d : FeedId) (g : Feed → Feed) : (s.modFeed d g).upd = s.upd := by cases d <;> rfl
@[simp] theorem State.modFeed_bus (d : FeedId) (g : Feed → Feed) : (s.modFeed d g).bus = s.bus := by cases d <;> rfl
@[simp] theorem State.modFeed_core (d : FeedId) (g : Feed → Feed) : (s.modFeed d g).core = s.core := by cases d <;> rfl
@[simp] theorem State.modFeed_rtc (d : FeedId) (g : Feed → Feed) : (s.modFeed d g).rtc = s.rtc := by cases d <;> rfl
@[simp] theorem State.modFeed_aon (d : FeedId) (g : Feed → Feed) : (s.modFeed d g).aon = s.aon := by cases d <;> rfl
@[simp] theorem State.modFeed_hub (d : FeedId) (g : Feed → Feed) : (s.modFeed d g).hub = s.hub := by cases d <;> rfl
@[simp] theorem State.modFeed_freeCtr (d : FeedId) (g : Feed → Feed) : (s.modFeed d g).freeCtr = s.freeCtr := by cases d <;> rfl
@[simp] theorem State.modFeed_pending (d : FeedId) (g : Feed → Feed) : (s.modFeed d g).pending = s.pending := by cases d <;> rfl

/-! ### Reading back -/

theorem State.port_of_ports {s t : State} (h : t.ports = s.ports) (p : PortId) : t.port p = s.port p := by
  unfold State.port; rw [h]
theorem State.tile_of_tiles {s t : State} (h : t.tiles = s.tiles) (k : TileId) : t.tile k = s.tile k := by
  unfold State.tile; rw [h]
theorem State.modPort_port (p q : PortId) (f : Port → Port) :
    (s.modPort p f).port q = if p = q then f (s.port p) else s.port q := by
  simp only [State.modPort, State.port, Vector.getElem_set, Fin.ext_iff]
@[simp] theorem State.modPort_port_self (p : PortId) (f : Port → Port) : (s.modPort p f).port p = f (s.port p) := by
  simp [State.modPort_port]
theorem State.modPort_port_ne {p q : PortId} (f : Port → Port) (h : p ≠ q) : (s.modPort p f).port q = s.port q := by
  simp [State.modPort_port, h]
theorem State.modTile_tile (p q : TileId) (f : Tile → Tile) :
    (s.modTile p f).tile q = if p = q then f (s.tile p) else s.tile q := by
  simp only [State.modTile, State.tile, Vector.getElem_set, Fin.ext_iff]
@[simp] theorem State.modTile_tile_self (p : TileId) (f : Tile → Tile) : (s.modTile p f).tile p = f (s.tile p) := by
  simp [State.modTile_tile]
theorem State.modCore_coreAt (p q : CoreId) (f : Core → Core) :
    (s.modCore p f).coreAt q = if p = q then f (s.coreAt p) else s.coreAt q := by
  simp only [State.modCore, State.coreAt, Vector.getElem_set, Fin.ext_iff]
@[simp] theorem State.modCore_coreAt_self (p : CoreId) (f : Core → Core) : (s.modCore p f).coreAt p = f (s.coreAt p) := by
  simp [State.modCore_coreAt]

@[simp] theorem State.modPort_tile (p : PortId) (f : Port → Port) (q : TileId) : (s.modPort p f).tile q = s.tile q := rfl
@[simp] theorem State.modPort_coreAt (p : PortId) (f : Port → Port) (q : CoreId) : (s.modPort p f).coreAt q = s.coreAt q := rfl
@[simp] theorem State.modPort_ring (p : PortId) (f : Port → Port) (n : Nat) : (s.modPort p f).ring n = s.ring n := rfl
@[simp] theorem State.modTile_port (t : TileId) (f : Tile → Tile) (q : PortId) : (s.modTile t f).port q = s.port q := rfl
@[simp] theorem State.modTile_coreAt (t : TileId) (f : Tile → Tile) (q : CoreId) : (s.modTile t f).coreAt q = s.coreAt q := rfl
@[simp] theorem State.modTile_ring (t : TileId) (f : Tile → Tile) (n : Nat) : (s.modTile t f).ring n = s.ring n := rfl
@[simp] theorem State.modCfg_port (f : Cfg → Cfg) (q : PortId) : (s.modCfg f).port q = s.port q := rfl
@[simp] theorem State.modCfg_tile (f : Cfg → Cfg) (q : TileId) : (s.modCfg f).tile q = s.tile q := rfl
@[simp] theorem State.modCfg_coreAt (f : Cfg → Cfg) (q : CoreId) : (s.modCfg f).coreAt q = s.coreAt q := rfl
@[simp] theorem State.modCfg_ring (f : Cfg → Cfg) (n : Nat) : (s.modCfg f).ring n = s.ring n := rfl
@[simp] theorem State.modBoard_port (f : Board → Board) (q : PortId) : (s.modBoard f).port q = s.port q := rfl
@[simp] theorem State.modBoard_tile (f : Board → Board) (q : TileId) : (s.modBoard f).tile q = s.tile q := rfl
@[simp] theorem State.modBoard_coreAt (f : Board → Board) (q : CoreId) : (s.modBoard f).coreAt q = s.coreAt q := rfl
@[simp] theorem State.modBoard_ring (f : Board → Board) (n : Nat) : (s.modBoard f).ring n = s.ring n := rfl
@[simp] theorem State.modLink_port (f : Link → Link) (q : PortId) : (s.modLink f).port q = s.port q := rfl
@[simp] theorem State.modLink_tile (f : Link → Link) (q : TileId) : (s.modLink f).tile q = s.tile q := rfl
@[simp] theorem State.modLink_coreAt (f : Link → Link) (q : CoreId) : (s.modLink f).coreAt q = s.coreAt q := rfl
@[simp] theorem State.modLink_ring (f : Link → Link) (n : Nat) : (s.modLink f).ring n = s.ring n := rfl
@[simp] theorem State.modRef_port (f : Ref → Ref) (q : PortId) : (s.modRef f).port q = s.port q := rfl
@[simp] theorem State.modRef_tile (f : Ref → Ref) (q : TileId) : (s.modRef f).tile q = s.tile q := rfl
@[simp] theorem State.modRef_coreAt (f : Ref → Ref) (q : CoreId) : (s.modRef f).coreAt q = s.coreAt q := rfl
@[simp] theorem State.modRef_ring (f : Ref → Ref) (n : Nat) : (s.modRef f).ring n = s.ring n := rfl
@[simp] theorem State.modPwr_port (f : Pwr → Pwr) (q : PortId) : (s.modPwr f).port q = s.port q := rfl
@[simp] theorem State.modPwr_tile (f : Pwr → Pwr) (q : TileId) : (s.modPwr f).tile q = s.tile q := rfl
@[simp] theorem State.modPwr_coreAt (f : Pwr → Pwr) (q : CoreId) : (s.modPwr f).coreAt q = s.coreAt q := rfl
@[simp] theorem State.modPwr_ring (f : Pwr → Pwr) (n : Nat) : (s.modPwr f).ring n = s.ring n := rfl
@[simp] theorem State.modCores_port (f : Cores → Cores) (q : PortId) : (s.modCores f).port q = s.port q := rfl
@[simp] theorem State.modCores_tile (f : Cores → Cores) (q : TileId) : (s.modCores f).tile q = s.tile q := rfl
@[simp] theorem State.modCores_coreAt (f : Cores → Cores) (q : CoreId) : (s.modCores f).coreAt q = s.coreAt q := rfl
@[simp] theorem State.modCores_ring (f : Cores → Cores) (n : Nat) : (s.modCores f).ring n = s.ring n := rfl
@[simp] theorem State.modFuse_port (f : Fuse → Fuse) (q : PortId) : (s.modFuse f).port q = s.port q := rfl
@[simp] theorem State.modFuse_tile (f : Fuse → Fuse) (q : TileId) : (s.modFuse f).tile q = s.tile q := rfl
@[simp] theorem State.modFuse_coreAt (f : Fuse → Fuse) (q : CoreId) : (s.modFuse f).coreAt q = s.coreAt q := rfl
@[simp] theorem State.modFuse_ring (f : Fuse → Fuse) (n : Nat) : (s.modFuse f).ring n = s.ring n := rfl
@[simp] theorem State.modHud_port (f : Huddle → Huddle) (q : PortId) : (s.modHud f).port q = s.port q := rfl
@[simp] theorem State.modHud_tile (f : Huddle → Huddle) (q : TileId) : (s.modHud f).tile q = s.tile q := rfl
@[simp] theorem State.modHud_coreAt (f : Huddle → Huddle) (q : CoreId) : (s.modHud f).coreAt q = s.coreAt q := rfl
@[simp] theorem State.modHud_ring (f : Huddle → Huddle) (n : Nat) : (s.modHud f).ring n = s.ring n := rfl
@[simp] theorem State.modSvc_port (f : Svc → Svc) (q : PortId) : (s.modSvc f).port q = s.port q := rfl
@[simp] theorem State.modSvc_tile (f : Svc → Svc) (q : TileId) : (s.modSvc f).tile q = s.tile q := rfl
@[simp] theorem State.modSvc_coreAt (f : Svc → Svc) (q : CoreId) : (s.modSvc f).coreAt q = s.coreAt q := rfl
@[simp] theorem State.modSvc_ring (f : Svc → Svc) (n : Nat) : (s.modSvc f).ring n = s.ring n := rfl
@[simp] theorem State.modUpd_port (f : Upd → Upd) (q : PortId) : (s.modUpd f).port q = s.port q := rfl
@[simp] theorem State.modUpd_tile (f : Upd → Upd) (q : TileId) : (s.modUpd f).tile q = s.tile q := rfl
@[simp] theorem State.modUpd_coreAt (f : Upd → Upd) (q : CoreId) : (s.modUpd f).coreAt q = s.coreAt q := rfl
@[simp] theorem State.modUpd_ring (f : Upd → Upd) (n : Nat) : (s.modUpd f).ring n = s.ring n := rfl
@[simp] theorem State.modCore_port (k : CoreId) (f : Core → Core) (q : PortId) : (s.modCore k f).port q = s.port q := rfl
@[simp] theorem State.modCore_tile (k : CoreId) (f : Core → Core) (q : TileId) : (s.modCore k f).tile q = s.tile q := rfl
@[simp] theorem State.modCore_ring (k : CoreId) (f : Core → Core) (n : Nat) : (s.modCore k f).ring n = s.ring n := rfl
@[simp] theorem State.modRing_port (n : Nat) (f : Ring → Ring) (q : PortId) : (s.modRing n f).port q = s.port q := State.port_of_ports (by simp) q
@[simp] theorem State.modRing_tile (n : Nat) (f : Ring → Ring) (q : TileId) : (s.modRing n f).tile q = s.tile q := State.tile_of_tiles (by simp) q
@[simp] theorem State.modFeed_port (d : FeedId) (g : Feed → Feed) (q : PortId) : (s.modFeed d g).port q = s.port q := State.port_of_ports (by simp) q
@[simp] theorem State.modFeed_tile (d : FeedId) (g : Feed → Feed) (q : TileId) : (s.modFeed d g).tile q = s.tile q := State.tile_of_tiles (by simp) q

theorem State.modRing_ring {n : Nat} (h : n < 14) (f : Ring → Ring) (k : Nat) :
    (s.modRing n f).ring k = if n = k then f (s.ring n) else s.ring k := by
  unfold State.modRing State.ring
  rw [dif_pos h]
  by_cases e : n = k
  · subst e; simp [h]
  · by_cases hk : k < 14
    · simp [e, Vector.getElem?_set]
    · simp [e, Vector.getElem?_set]

end Sys2Proof.Machine
end

