-- ==== Sys2Proof/Laws/Ops.lean ====
section
/-! SUPPORT. What the shared operations can do, one lemma for each: an operation on the ports `P` leaves every other port, the
feeds, the configuration and the memories alone, closes no gate, touches of a tile only its substitute lane and its capture, of the
referee only the errors that stand in the memories, and of the power state only IDLE. -/
namespace Sys2Proof.Machine

/-- A fact about one part of the state that each round of a fold leaves alone is left alone by the fold. -/
theorem foldl_keeps {σ α τ : Type} (part : σ → τ) (f : σ → α → σ) (h : ∀ s a, part (f s a) = part s) (l : List α) (s : σ) :
    part (l.foldl f s) = part s := by
  induction l generalizing s with
  | nil => rfl
  | cons a l ih => rw [List.foldl_cons, ih, h]

/-- From `s` to `u` nothing but the ports of `P`, the substitute lane and the capture of tiles, events, completions, interrupts, the
counters of the scheduler and the device state has changed, and no gate has closed. -/
structure State.Frame (P : PortId → Prop) (s u : State) : Prop where
  others : ∀ q, ¬ P q → u.port q = s.port q
  gate : ∀ q, (s.port q).path.gate = false → (u.port q).path.gate = false
  tiles : ∀ t, ∃ on ph c, u.tile t = { s.tile t with laneOn := on, phase := ph, cap := c }
  feeds : u.feedA = s.feedA ∧ u.feedB = s.feedB
  board : u.cfg = s.cfg ∧ u.board = s.board ∧ u.hud = s.hud ∧ u.meas = s.meas
  power : ∃ d, u.pwr = { s.pwr with dev := d }
  referee : ∃ b c, u.ref = { s.ref with poison := b, soft := c }
  safety : u.fuse = s.fuse ∧ u.svc = s.svc ∧ u.upd = s.upd
  mem : u.cores.code = s.cores.code ∧ u.cores.roster = s.cores.roster ∧ u.cores.bench = s.cores.bench ∧ u.core = s.core ∧ u.bus = s.bus
  clock : u.rtc = s.rtc ∧ u.aon = s.aon ∧ u.freeCtr = s.freeCtr ∧ u.pending = s.pending

variable {P : PortId → Prop} {s t u : State} {p : PortId}

theorem State.Frame.refl (P : PortId → Prop) (s : State) : State.Frame P s s :=
  ⟨fun _ _ => rfl, fun _ h => h, fun _ => ⟨_, _, _, rfl⟩, ⟨rfl, rfl⟩, ⟨rfl, rfl, rfl, rfl⟩, ⟨_, rfl⟩, ⟨_, _, rfl⟩, ⟨rfl, rfl, rfl⟩,
    ⟨rfl, rfl, rfl, rfl, rfl⟩, ⟨rfl, rfl, rfl, rfl⟩⟩

theorem State.Frame.trans (h : State.Frame P s t) (k : State.Frame P t u) : State.Frame P s u where
  others q n := (k.others q n).trans (h.others q n)
  gate q g := k.gate q (h.gate q g)
  tiles t' := by
    obtain ⟨_, _, _, e⟩ := h.tiles t'
    obtain ⟨c, d, x, e'⟩ := k.tiles t'
    exact ⟨c, d, x, by rw [e', e]⟩
  feeds := ⟨k.feeds.1.trans h.feeds.1, k.feeds.2.trans h.feeds.2⟩
  board := by obtain ⟨a, b, c, d⟩ := h.board; obtain ⟨a', b', c', d'⟩ := k.board
              exact ⟨a'.trans a, b'.trans b, c'.trans c, d'.trans d⟩
  power := by obtain ⟨_, e⟩ := h.power; obtain ⟨d, e'⟩ := k.power
              exact ⟨d, by rw [e', e]⟩
  referee := by obtain ⟨_, _, e⟩ := h.referee; obtain ⟨b, c, e'⟩ := k.referee
                exact ⟨b, c, by rw [e', e]⟩
  safety := by obtain ⟨a, b, c⟩ := h.safety; obtain ⟨a', b', c'⟩ := k.safety
               exact ⟨a'.trans a, b'.trans b, c'.trans c⟩
  mem := by obtain ⟨a, b, c, d, e⟩ := h.mem; obtain ⟨a', b', c', d', e'⟩ := k.mem
            exact ⟨a'.trans a, b'.trans b, c'.trans c, d'.trans d, e'.trans e⟩
  clock := by obtain ⟨a, b, c, d⟩ := h.clock; obtain ⟨a', b', c', d'⟩ := k.clock
              exact ⟨a'.trans a, b'.trans b, c'.trans c, d'.trans d⟩

theorem State.Frame.mono {Q : PortId → Prop} (h : State.Frame P s u) (sub : ∀ q, P q → Q q) : State.Frame Q s u :=
  { h with others := fun q n => h.others q fun k => n (sub q k) }

theorem State.Frame.foldl {α : Type} (f : State → α → State) (h : ∀ s a, State.Frame P s (f s a)) (l : List α) (s : State) :
    State.Frame P s (l.foldl f s) := by
  induction l generalizing s with
  | nil => exact .refl P s
  | cons a l ih => exact (h s a).trans (ih _)

theorem State.Frame.ite {c : Prop} [Decidable c] (h : State.Frame P s t) (k : State.Frame P s u) :
    State.Frame P s (if c then t else u) := by split <;> assumption

/-! ### Updates of one record -/

theorem State.modLink_frame (s : State) (f : Link → Link) : State.Frame P s (s.modLink f) := { State.Frame.refl P s with }
theorem State.modRing_frame (s : State) (n : Nat) (f : Ring → Ring) : State.Frame P s (s.modRing n f) := by
  unfold State.modRing; split
  · exact { State.Frame.refl P s with }
  · exact .refl P s
/-- An update of the scheduler's records that keeps the memories. -/
theorem State.modCores_frame (s : State) (f : Cores → Cores)
    (h : (f s.cores).code = s.cores.code ∧ (f s.cores).roster = s.cores.roster ∧ (f s.cores).bench = s.cores.bench) :
    State.Frame P s (s.modCores f) :=
  { State.Frame.refl P s with mem := ⟨h.1, h.2.1, h.2.2, rfl, rfl⟩ }
/-- An update of a port that closes no gate. -/
theorem State.modPort_frame (s : State) (p : PortId) (f : Port → Port) (h : (s.port p).path.gate = false → (f (s.port p)).path.gate = false) :
    State.Frame (· = p) s (s.modPort p f) :=
  { State.Frame.refl (· = p) s with
    others := fun q n => s.modPort_port_ne f fun e => n e.symm
    gate := fun q g => by
      rw [State.modPort_port]
      split
      · next e => exact h (by rw [e]; exact g)
      · exact g }
theorem State.modSc_frame (s : State) (p : PortId) (f : Sched → Sched) : State.Frame (· = p) s (s.modSc p f) := s.modPort_frame p _ id
theorem State.modPol_frame (s : State) (p : PortId) (f : Pol → Pol) : State.Frame (· = p) s (s.modPol p f) := s.modPort_frame p _ id
theorem State.modPd_frame (s : State) (p : PortId) (f : Pd → Pd) : State.Frame (· = p) s (s.modPd p f) := s.modPort_frame p _ id
theorem State.modCc_frame (s : State) (p : PortId) (f : Cc → Cc) : State.Frame (· = p) s (s.modCc p f) := s.modPort_frame p _ id
theorem State.modCnt_frame (s : State) (p : PortId) (f : Cnts → Cnts) : State.Frame (· = p) s (s.modCnt p f) := s.modPort_frame p _ id
theorem State.modRally_frame (s : State) (p : PortId) (f : Rally → Rally) : State.Frame (· = p) s (s.modRally p f) := s.modPort_frame p _ id
theorem State.modRetry_frame (s : State) (p : PortId) (f : Retry → Retry) : State.Frame (· = p) s (s.modRetry p f) := s.modPort_frame p _ id
theorem State.modSb_frame (s : State) (p : PortId) (f : Sb → Sb) : State.Frame (· = p) s (s.modSb p f) := s.modPort_frame p _ id
theorem State.modPath_frame (s : State) (p : PortId) (f : Path → Path) (h : (s.port p).path.gate = false → (f (s.port p).path).gate = false) :
    State.Frame (· = p) s (s.modPath p f) := s.modPort_frame p _ h

/-! ### Interrupts, rings, events and completions -/

theorem State.raise_frame (s : State) (v : Nat) : State.Frame P s (s.raise v) := .ite (.refl P s) (.ite (s.modLink_frame _) (s.modLink_frame _))
theorem State.ringWrite_frame (s : State) (n : Nat) (e : OutEntry) (now : Bool) : State.Frame P s (s.ringWrite n e now) :=
  .ite ((s.modRing_frame n _).trans (State.raise_frame _ _)) (s.modRing_frame n _)
theorem State.markSummary_frame (s : State) (q : Option PortId) : State.Frame P s (s.markSummary q) := s.modLink_frame _
theorem State.writeEvt_frame (s : State) (e : Evt) : State.Frame P s (s.writeEvt e) :=
  (s.modLink_frame _).trans (State.ringWrite_frame _ _ _ _)
theorem State.holdEvt_frame (s : State) (e : Evt) : State.Frame P s (s.holdEvt e) := .ite (s.modLink_frame _) (s.markSummary_frame _)
theorem State.postEvt_frame (s : State) (q : Option PortId) (b : EvtBody) : State.Frame P s (s.postEvt q b) :=
  .ite (.refl P s) (.ite (.ite (s.writeEvt_frame _) (s.holdEvt_frame _))
    (.ite (s.markSummary_frame q) (.ite (s.writeEvt_frame _) (s.holdEvt_frame _))))
theorem State.drainBacklog_frame (s : State) (k : Nat) : State.Frame P s (s.drainBacklog k) := by
  induction k generalizing s with
  | zero => exact .refl P s
  | succ k ih =>
    unfold State.drainBacklog
    split
    · exact .ite (((s.modLink_frame _).trans (State.writeEvt_frame _ _)).trans (ih _)) (.refl P s)
    · exact .ite ((s.modLink_frame _).trans (State.writeEvt_frame _ _)) (.refl P s)
theorem State.drained_frame (s : State) (n : Nat) : State.Frame P s (s.drained n) := .ite (s.modRing_frame n _) (.refl P s)
theorem State.complete_frame (s : State) (c : Cpl) (irq : Bool) : State.Frame P s (s.complete c irq) :=
  (State.Frame.ite (.refl P s) (s.ringWrite_frame _ _ _)).trans (State.drained_frame _ _)
theorem State.cplDesc_frame (s : State) (d : Desc) (op : Nat) (code : CplCode) (detail : Nat) (data : List Byte) :
    State.Frame P s (s.cplDesc d op code detail data) := s.complete_frame _ _
theorem State.cplOk_frame (s : State) (d : Desc) (op : Nat) : State.Frame P s (s.cplOk d op) := s.complete_frame _ _
theorem State.finish_frame (s : State) (f : Waiting → Bool) (code : CplCode) (detail : Nat) (data : List Byte) :
    State.Frame P s (s.finish f code detail data) :=
  (s.modLink_frame _).trans (State.Frame.foldl _ (fun s _ => .ite (s.complete_frame _ _) (s.complete_frame _ _)) _ _)
theorem State.finishPort_frame (s : State) (q : PortId) (k : WaitFor) (code : CplCode) (data : List Byte) :
    State.Frame P s (s.finishPort q k code data) := by
  unfold State.finishPort
  exact (s.finish_frame _ _ _ _).trans (State.modLink_frame _ _)
theorem State.wait_frame (s : State) (d : Desc) (op : Nat) (q : Option PortId) (k : WaitFor) : State.Frame P s (s.wait d op q k) :=
  s.modLink_frame _

/-! ### Port event queues -/

theorem State.toRun_frame (s : State) : State.Frame P s s.toRun := .ite { State.Frame.refl P s with power := ⟨_, rfl⟩ } (.refl P s)
theorem State.arrive_frame (s : State) : State.Frame P s s.arrive := (s.modCores_frame _ ⟨rfl, rfl, rfl⟩).trans (State.toRun_frame _)
theorem State.unpoison_frame (s : State) (mem lo n : Nat) : State.Frame P s (s.unpoison mem lo n) :=
  .ite (.refl P s) { State.Frame.refl P s with referee := ⟨_, _, rfl⟩ }
theorem State.enqueue_frame (s : State) (p : PortId) (e : QEv) : State.Frame (· = p) s (s.enqueue p e) :=
  ((s.modSc_frame p _).trans (State.unpoison_frame _ _ _ _)).trans (State.Frame.foldl _ (fun s _ => s.unpoison_frame _ _ _) _ _)
theorem State.queueFault_frame (s : State) (p : PortId) (code : Nat) (d : Word) : State.Frame (· = p) s (s.queueFault p code d) :=
  (State.Frame.ite (.refl _ s) (.ite (s.enqueue_frame p _) (s.modSc_frame p _))).trans (State.arrive_frame _)
theorem State.dropReport_frame (s : State) (p : PortId) : State.Frame (· = p) s (s.dropReport p) :=
  have h : State.Frame (· = p) s (s.modCores fun c => { c with drop := c.drop.inc32 }) := s.modCores_frame _ ⟨rfl, rfl, rfl⟩
  .ite (h.trans ((State.modSc_frame _ p _).trans (State.queueFault_frame _ p _ _)))
    (h.trans ((State.modSc_frame _ p _).trans (State.queueFault_frame _ p _ _)))
theorem State.queueEv_frame (s : State) (p : PortId) (e : QEv) : State.Frame (· = p) s (s.queueEv p e) := by
  refine s.arrive_frame.trans ?_
  unfold State.queueEv
  dsimp only
  refine .ite (.refl _ _) ?_
  have one : State.Frame (· = p) s.arrive ((s.arrive.enqueue p e).modCores fun c => { c with minFree := min c.minFree (s.arrive.enqueue p e).freeCells }) :=
    (State.enqueue_frame _ p e).trans (State.modCores_frame _ _ ⟨rfl, rfl, rfl⟩)
  split
  · exact State.queueFault_frame _ p _ _
  · exact .ite (State.enqueue_frame _ p e) (State.modSc_frame _ p _)
  · exact .ite one (State.dropReport_frame _ p)
  · exact .ite one (.refl _ _)
  · exact .ite (State.modSc_frame _ p _) (.ite (State.enqueue_frame _ p e) (State.modSc_frame _ p _))
theorem State.queueMsg_frame (s : State) (p : PortId) (code : Nat) (d : Word) : State.Frame (· = p) s (s.queueMsg p code d) :=
  s.queueEv_frame p _
theorem State.queueHk_frame (s : State) (p : PortId) (code : Nat) (d : Word) : State.Frame (· = p) s (s.queueHk p code d) :=
  s.queueEv_frame p _

/-! ### The power path -/

theorem State.sigSend_frame (s : State) (p : PortId) (g : Signal) : State.Frame (· = p) s (s.sigSend p g) :=
  (s.modPath_frame p _ id).trans (State.queueMsg_frame _ p _ _)
theorem State.abandonTable_frame (s : State) (p : PortId) : State.Frame (· = p) s (s.abandonTable p) :=
  .ite ((s.modPath_frame p _ id).trans (State.sigSend_frame _ p _)) (s.modPath_frame p _ id)
/-- An update of a tile's substitute lane and capture. -/
theorem State.modTile_frame (s : State) (t : TileId) (f : Tile → Tile)
    (h : ∃ on ph c, f (s.tile t) = { s.tile t with laneOn := on, phase := ph, cap := c }) : State.Frame P s (s.modTile t f) :=
  { State.Frame.refl P s with
    tiles := fun q => by
      rw [State.modTile_tile]
      split
      · next e => subst e; exact h
      · exact ⟨_, _, _, rfl⟩ }
theorem State.capFire_frame (s : State) (p : PortId) (k : CapTrigger) : State.Frame P s (s.capFire p k) := s.modTile_frame _ _ ⟨_, _, _, rfl⟩
theorem State.calAbort_frame (s : State) (p : PortId) : State.Frame (· = p) s (s.calAbort p) :=
  .ite ((s.modTile_frame _ _ ⟨_, _, _, rfl⟩).trans (State.modPort_frame _ p _ id)) (.refl _ s)
theorem State.startTable_frame (s : State) (p : PortId) (n : Nat) (r : Post) : State.Frame (· = p) s (s.startTable p n r) := by
  unfold State.startTable
  exact (((s.calAbort_frame p).trans (State.capFire_frame _ p _)).trans (State.modPath_frame _ p _ id)).trans (State.modRetry_frame _ p _)
theorem State.post_frame (s : State) (p : PortId) (r : Post) : State.Frame (· = p) s (s.post p r) :=
  .ite (.refl _ s) (.ite (s.sigSend_frame p _) (.ite ((s.abandonTable_frame p).trans (State.startTable_frame _ p _ r))
    (.ite (s.sigSend_frame p _) (.ite (s.modPath_frame p _ id) (s.startTable_frame p _ r)))))
theorem State.portSafe_frame (s : State) (p : PortId) : State.Frame (· = p) s (s.portSafe p) :=
  ((s.calAbort_frame p).trans (State.abandonTable_frame _ p)).trans (State.modPath_frame _ p _ fun _ => rfl)
theorem State.portForce_frame (s : State) (p : PortId) : State.Frame (· = p) s (s.portForce p) :=
  ((s.calAbort_frame p).trans (State.abandonTable_frame _ p)).trans (State.modPath_frame _ p _ fun _ => rfl)
theorem State.retryFail_frame (s : State) (p : PortId) : State.Frame (· = p) s (s.retryFail p) :=
  .ite ((s.modRetry_frame p _).trans (State.postEvt_frame _ _ _))
    (((s.modRetry_frame p _).trans (State.postEvt_frame _ _ _)).trans (State.queueFault_frame _ p _ _))
theorem State.retryTrip_frame (s : State) (p : PortId) (c : TripCause) : State.Frame (· = p) s (s.retryTrip p c) :=
  .ite ((s.modRetry_frame p _).trans (State.modRetry_frame _ p _)) ((s.modRetry_frame p _).trans (State.retryFail_frame _ p))

/-! ### The policy -/

theorem State.toTx_frame (s : State) (p : PortId) (m : TxMsg) : State.Frame (· = p) s (s.toTx p m) := s.modPort_frame p _ id
theorem State.send_frame (s : State) (p : PortId) (m : TxMsg) : State.Frame (· = p) s (s.send p m) :=
  .ite (.refl _ s) (.ite (s.toTx_frame p m) (s.modPol_frame p _))
theorem State.sendNext_frame (s : State) (p : PortId) : State.Frame (· = p) s (s.sendNext p) := by
  unfold State.sendNext
  split
  · exact .refl _ s
  · split
    · exact (s.modPol_frame p _).trans (State.toTx_frame _ p _)
    · exact .refl _ s
theorem State.sendCtl_frame (s : State) (p : PortId) (k : MsgKind) (e : Expect) : State.Frame (· = p) s (s.sendCtl p k e) := s.send_frame p _
theorem State.endContract_frame (s : State) (p : PortId) (c : LostCause) : State.Frame (· = p) s (s.endContract p c) := by
  unfold State.endContract
  exact .ite (s.modPol_frame p _) (.ite ((s.modPol_frame p _).trans (State.modSc_frame _ p _))
    ((s.modPol_frame p _).trans (State.postEvt_frame _ _ _)))
theorem State.rallyEnd_frame (s : State) (p : PortId) (b : Bool) : State.Frame (· = p) s (s.rallyEnd p b) := by
  unfold State.rallyEnd
  exact .ite ((s.modRally_frame p _).trans (State.postEvt_frame _ _ _)) (s.modRally_frame p _)
theorem State.reportHold_frame (s : State) (p : PortId) : State.Frame (· = p) s (s.reportHold p) := by
  unfold State.reportHold
  dsimp only
  split
  · exact .ite (.refl _ s) ((s.modPort_frame p _ id).trans (State.queueEv_frame _ p _))
  · exact .refl _ s
theorem State.pdStop_frame (s : State) (p : PortId) : State.Frame (· = p) s (s.pdStop p) := by
  unfold State.pdStop
  exact .ite (((s.reportHold_frame p).trans (State.modPd_frame _ p _)).trans (State.queueMsg_frame _ p _ _))
    ((s.reportHold_frame p).trans (State.modPd_frame _ p _))
theorem State.abortDescs_frame (s : State) (p : PortId) (f : WaitFor → Bool) : State.Frame P s (s.abortDescs p f) := s.finish_frame _ _ _ _
theorem State.attachEnds_frame (s : State) (p : PortId) : State.Frame (· = p) s (s.attachEnds p) := by
  unfold State.attachEnds
  exact State.Frame.trans (((s.rallyEnd_frame p false).trans (State.pdStop_frame _ p)).trans (State.modPort_frame _ p _ id)) (State.abortDescs_frame _ p _)
theorem State.errorRecovery_frame (s : State) (p : PortId) (c : LostCause) : State.Frame (· = p) s (s.errorRecovery p c) := by
  unfold State.errorRecovery
  exact ((((((s.endContract_frame p c).trans (State.rallyEnd_frame _ p true)).trans (State.pdStop_frame _ p)).trans
    (State.abortDescs_frame _ p _)).trans (State.modPol_frame _ p _)).trans (State.modSb_frame _ p _)).trans (State.post_frame _ p _)
theorem State.hardResetDone_frame (s : State) (p : PortId) (c : LostCause) : State.Frame (· = p) s (s.hardResetDone p c) := by
  unfold State.hardResetDone
  exact ((((s.reportHold_frame p).trans (State.endContract_frame _ p c)).trans (State.rallyEnd_frame _ p true)).trans (State.modPort_frame _ p _ id)).trans (State.post_frame _ p _)
theorem State.hardResetSent_frame (s : State) (p : PortId) (c : LostCause) (k : Bool) : State.Frame (· = p) s (s.hardResetSent p c k) := by
  unfold State.hardResetSent
  exact (((s.finish_frame _ _ _ _).trans (State.modPol_frame _ p _)).trans (State.hardResetDone_frame _ p c)).trans (State.modPd_frame _ p _)
theorem State.hardReset_frame (s : State) (p : PortId) (c : LostCause) (k : Bool) : State.Frame (· = p) s (s.hardReset p c k) := by
  unfold State.hardReset
  exact .ite (s.errorRecovery_frame p _) (s.hardResetSent_frame p c k)
theorem State.softReset_frame (s : State) (p : PortId) : State.Frame (· = p) s (s.softReset p) := by
  unfold State.softReset State.softLeave
  exact ((s.modPort_frame p _ id).trans (State.modPd_frame _ p _)).trans (State.send_frame _ p _)
theorem State.offerGoes_frame (s : State) (p : PortId) (o : Offer) (epr : Bool) (m : TxMsg) : State.Frame (· = p) s (s.offerGoes p o epr m) := by
  unfold State.offerGoes
  exact (s.modPol_frame p _).trans (State.send_frame _ p _)
theorem State.sendOffer_frame (s : State) (p : PortId) (epr reply : Bool) : State.Frame (· = p) s (s.sendOffer p epr reply) := by
  unfold State.sendOffer
  exact .ite (s.modPol_frame p _) (.ite (s.hardReset_frame p _ _) (.ite (s.modPol_frame p _) (.ite (s.modPol_frame p _)
    ((s.modPol_frame p _).trans (State.offerGoes_frame _ p _ _ _)))))
theorem State.protocolError_frame (s : State) (p : PortId) : State.Frame (· = p) s (s.protocolError p) :=
  .ite (s.hardReset_frame p _ _) (s.softReset_frame p)
theorem State.portTrip_frame (s : State) (p : PortId) (c : TripCause) (seg : Nat) : State.Frame (· = p) s (s.portTrip p c seg) := by
  unfold State.portTrip
  have a : State.Frame (· = p) s _ := ((s.capFire_frame p .trip).trans (State.portForce_frame _ p)).trans (State.postEvt_frame _ (some p) (.trip c seg ((s.port p).path.peak / 5)))
  have b := a.trans (State.modPort_frame _ p
    (fun q => { q with cnt := { q.cnt with trip := q.cnt.trip.inc32 },
                       pol := { q.pol with ocp := q.pol.ocp || c == .fast || c == .breaker, ovp := q.pol.ovp || c == .overvolt } }) id)
  have d := (((b.trans (State.queueFault_frame _ p 1 (BitVec.ofNat 32 (seg * 256 + c.num)))).trans (State.endContract_frame _ p .trip)).trans
    (State.rallyEnd_frame _ p true)).trans (State.pdStop_frame _ p)
  have e := (d.trans (State.modPol_frame _ p fun q => { q with state := .detached, outq := [], flight := none, expect := .none })).trans
    (State.modSb_frame _ p Sb.voidDecrease)
  exact ((State.Frame.ite (((e.trans (State.postEvt_frame _ _ _)).trans (State.modCnt_frame _ p _)).trans (State.modCc_frame _ p _)) e).trans
    (State.abortDescs_frame _ p _)).trans (State.retryTrip_frame _ p c)

end Sys2Proof.Machine
end

