-- ==== Sys2Proof/WellFormed.lean ====
section
/-! DEFINITION. Which commands the encodings of the spec allow: lengths and ring numbers that the operands' types leave open. A
meaning is total and takes any command; a claim that needs these bounds names them. -/
namespace Sys2Proof

open Machine

/-- A descriptor lies in a host ring (R322) and fills at most its entry: 56 bytes after the header of a 64 B command, 504 after
that of a 512 B message (R331, R335). -/
def Machine.Desc.wf (d : Desc) : Bool :=
  if d.ring == 0 || d.ring == 1 then decide (d.body.length ≤ 56)
  else (d.ring == 9 || d.ring == 10) && decide (d.body.length ≤ 504)
/-- A service frame carries at most 4,104 bytes of payload (R440). -/
def Machine.SvcFrame.wf (f : SvcFrame) : Bool := decide (f.payload.length ≤ 4104)
def Machine.FuseSrc.wf : FuseSrc → Bool
  | .host => true
  | .svc f => f.wf
/-- A post lies within what PP_PATH_CTRL and MSG.POST can carry (R167, R289). -/
def Machine.Post.wf (r : Post) : Bool := decide (r.mv < 2 ^ 17) && decide (r.ma < 2 ^ 15)
/-- A PD message carries at most 260 bytes of data and an extended header (R73, R335). -/
def Machine.Msg.wf (m : Msg) : Bool := decide (m.data.length ≤ 262)

/-- A code of a 12-bit converter (R242). -/
def adcCode (n : Nat) : Bool := decide (n < 4096)

/-- A command that the encodings allow. -/
def Instr.wf : Instr → Bool
  | .tileLinkPacket _ _ _ payload _ => decide (payload.length ≤ 32)
  | .tileLinkResendTimeout _ _ seq => decide (seq < 64)
  | .tileLinkIdle _ _ => true
  | .linkLoss _ => true
  | .safeWireRelease _ _ => true
  | .tileLinkTrainRetry _ => true
  | .tileLinkTrained _ => true
  | .tileReloadDone _ => true
  | .tileSafeExit _ => true
  | .watchSample _ _ _ => true
  | .rpHoldTimeout _ => true
  | .attachWaitSample _ _ _ => true
  | .ccDebounceDone _ _ _ _ _ => true
  | .attachVbusCleared _ _ _ => true
  | .detachSample _ _ _ _ _ => true
  | .ccOvervolt _ _ _ => true
  | .ccHoldOffEnd _ => true
  | .ccComparatorTest _ _ _ => true
  | .bootSinkAttach _ _ _ => true
  | .bootRdRelease _ => true
  | .bootSinkDetach _ => true
  | .frameReceived _ _ => true
  | .rxAbort _ _ _ => true
  | .hardResetRx _ => true
  | .cableResetRx _ => true
  | .mtNop _ => true
  | .mtTx _ => true
  | .mtDeliver _ => true
  | .mtMatch _ => true
  | .mtCount _ => true
  | .mtSetRp _ => true
  | .mtReport _ => true
  | .mtCompose _ => true
  | .msgWaitTimeout _ => true
  | .msgLineIdle _ => true
  | .txDone _ => true
  | .holdExpired _ => true
  | .txOk _ => true
  | .txFail _ => true
  | .txDiscarded _ => true
  | .chunkFail _ => true
  | .holdAnswered _ => true
  | .request _ _ _ _ _ => true
  | .getSourceCap _ => true
  | .eprGetSourceCap _ => true
  | .getSourceCapExtended _ => true
  | .getSourceInfo _ => true
  | .getStatus _ => true
  | .getPpsStatus _ => true
  | .getRevision _ => true
  | .getManufacturerInfo _ => true
  | .softReset _ => true
  | .vconnSwap _ => true
  | .prSwap _ => true
  | .drSwap _ => true
  | .frSwap _ => true
  | .eprModeEnter _ _ => true
  | .eprModeExit _ => true
  | .eprKeepalive _ => true
  | .sinkCapabilities _ _ _ objs => decide (objs.length ≤ 11)
  | .alert _ _ _ => true
  | .informationMessage _ m => m.wf
  | .unsupportedRequest _ => true
  | .bistRequest _ _ => true
  | .unexpectedMessage _ => true
  | .unchunkedExtended _ => true
  | .unrecognisedMessage _ => true
  | .srcTransitionExpiry _ => true
  | .senderResponseExpiry _ => true
  | .sourceCapResend _ => true
  | .noResponseExpiry _ => true
  | .ppsKeepaliveExpiry _ => true
  | .eprKeepaliveExpiry _ => true
  | .vconnSourceExpiry _ => true
  | .vconnSwapRetry _ => true
  | .feedObjectWithdraw _ _ => true
  | .feedObjectRestore _ _ => true
  | .eprCapsSend _ => true
  | .vdmRequest _ _ vdos => decide (vdos.length ≤ 6)
  | .unstructuredVdm _ _ _ vdos => decide (vdos.length ≤ 6)
  | .vdmResponse _ _ _ _ _ vdos => decide (vdos.length ≤ 6)
  | .vdmResponseTimeout _ => true
  | .vdmBusyRetry _ => true
  | .discoverIdentityAttempt _ => true
  | .attention _ _ _ _ => true
  | .rallyNoticeDue _ => true
  | .curtailConfirm _ => true
  | .curtailReactionExpiry _ => true
  | .curtailHoldExpiry _ => true
  | .brokenHoldoffExpiry _ => true
  | .powerPathPost _ r => r.wf
  | .queuedPostStart _ => true
  | .stNop _ => true
  | .stSetGate _ _ _ _ => true
  | .stSetDis _ _ => true
  | .stSetTarget _ _ => true
  | .stSetRp _ _ => true
  | .stSetVconn _ _ => true
  | .stSignal _ => true
  | .stArmLimit _ => true
  | .stLoadWindow _ => true
  | .stepWaitSuccess _ _ => true
  | .stepWaitTimeout _ => true
  | .vsafe5vOk _ => true
  | .transitionDone _ => true
  | .transitionFail _ => true
  | .vsafe0vOk _ => true
  | .retryQualified _ => true
  | .retryFailed _ => true
  | .limitSet _ => true
  | .vconnReady _ => true
  | .vconnFail _ => true
  | .vconnOff _ => true
  | .rpSet _ => true
  | .refused _ => true
  | .undervoltTrip _ _ _ => true
  | .breakerTick _ _ _ => true
  | .breakerTrip _ _ => true
  | .fastTrip _ _ _ => true
  | .vbusOvervolt _ _ _ => true
  | .reverseCurrent _ _ _ => true
  | .vconnOvercurrent _ _ => true
  | .tripDischargeDone _ => true
  | .retryProbeDue _ => true
  | .retryQualifyClear _ => true
  | .retryHoldExpiry _ => true
  | .openPortVbus _ => true
  | .stuckSwitch _ _ => true
  | .stuckDischargeEnd _ => true
  | .detachDischargeDone _ => true
  | .seatQualified => true
  | .seatReleased => true
  | .feedWindowChange _ _ => true
  | .insertDelayExpiry _ _ => true
  | .priorityReturn _ => true
  | .inrushComplete _ _ _ _ => true
  | .inrushTimeout _ => true
  | .feedBreakerTick _ _ _ _ => true
  | .feedBreakerTrip _ _ => true
  | .feedFastTrip _ _ _ => true
  | .feedReverse _ _ _ => true
  | .feedOvervolt _ _ _ => true
  | .feedUndervolt _ _ _ => true
  | .offConfirmed _ _ _ => true
  | .deadTimeEnd => true
  | .stuckBank _ => true
  | .feedRetryDue _ => true
  | .feedRetryClear _ => true
  | .feedReseatHoldExpiry => true
  | .scoreboardBoundary => true
  | .graceExpiry _ => true
  | .newcomerGraceExpiry _ => true
  | .decreaseSampleConfirm _ => true
  | .usageCapRelease _ => true
  | .emergencyShedStart => true
  | .emergencyShedStage => true
  | .emergencyShedEnd => true
  | .vconnChargeSettle _ => true
  | .vconnBudgetExcess _ => true
  | .adcFault _ _ frames => frames.length == 16 && frames.all fun e => adcCode e.1 && adcCode e.2.2
  | .measSample _ codes _ => codes.all fun e => adcCode e.1 && adcCode e.2
  | .telemetryRecord _ _ _ _ samples => samples.length == 16
  | .tlmDecimationHalve => true
  | .captureTrigger _ _ _ => true
  | .captureReadingsDone _ _ _ _ _ => true
  | .snapshotWritten vals => vals.length == 192
  | .sublaneSlotStart _ _ => true
  | .quietTest _ _ _ _ _ _ => true
  | .calReconnect _ vz vl vh iz il ih => [vz, vl, vh, iz, il, ih].all adcCode
  | .verifyHandback _ _ _ _ _ => true
  | .sublaneSelfCal _ vz vl vh iz il ih => [vz, vl, vh, iz, il, ih].all adcCode
  | .calPendingSkip _ => true
  | .dacReadback _ _ _ _ => true
  | .ntcMean _ _ _ => true
  | .ntcFaultFlag _ => true
  | .ntcFaultClear _ => true
  | .moveRow _ => true
  | .aluAddT _ => true
  | .aluSubT _ => true
  | .aluAndT _ => true
  | .aluOrT _ => true
  | .aluXorT _ => true
  | .aluShlT _ => true
  | .aluShrT _ => true
  | .aluSarT _ => true
  | .aluEqT _ => true
  | .aluLtuT _ => true
  | .aluLtsT _ => true
  | .aluMinuT _ => true
  | .aluMaxuT _ => true
  | .aluPassT _ => true
  | .mulMuluT _ => true
  | .mulMulsT _ => true
  | .mulDivuT _ => true
  | .mulDivsT _ => true
  | .lsuLd32T _ => true
  | .lsuLd16T _ => true
  | .lsuLd16sT _ => true
  | .lsuLd8T _ => true
  | .lsuLd8sT _ => true
  | .lsuSt32T _ => true
  | .lsuSt16T _ => true
  | .lsuSt8T _ => true
  | .lsuAaddT _ => true
  | .brJmpT _ => true
  | .brRelT _ => true
  | .brCallT _ => true
  | .brRetT _ => true
  | .tmrUsT _ => true
  | .tmrMsT _ => true
  | .tmrStopT _ => true
  | .evtWaitT _ => true
  | .evtPostT _ => true
  | .evtHevtT _ => true
  | .evtHcplT _ => true
  | .msgSendT _ => true
  | .msgPostT _ => true
  | .msgHrstT _ => true
  | .crcInitT _ => true
  | .crcB8T _ => true
  | .crcW32T _ => true
  | .sysTrapT _ => true
  | .timerExpired _ _ => true
  | .overrun _ => true
  | .schedulerDecision _ _ => true
  | .pageInDone _ _ => true
  | .agePromotion _ _ => true
  | .deepTransferDone _ _ _ => true
  | .doorbell _ _ _ slots => slots.all Desc.wf
  | .phaseReread _ slots => slots.all Desc.wf
  | .hostlinkStall _ => true
  | .chainTimeout _ => true
  | .descriptorStartTimeout d => d.wf
  | .pdSendReplyTimeout _ => true
  | .msixTimeTrigger _ => true
  | .unknownOpcode d => d.wf
  | .nop d => d.wf
  | .portEnable d => d.wf
  | .portDisable d => d.wf
  | .portProfile d => d.wf
  | .portPdoSet d => d.wf
  | .portErrorRecovery d => d.wf
  | .portHardReset d => d.wf
  | .pdSend d => d.wf
  | .vdmSend d => d.wf
  | .vconnSwapRequest d => d.wf
  | .cableDiscover d => d.wf
  | .budgetStage d => d.wf
  | .classStage d => d.wf
  | .huddleCheck d => d.wf
  | .kickoffArm d => d.wf
  | .huddleDiscard d => d.wf
  | .snapshot d => d.wf
  | .captureArm d => d.wf
  | .tlmConfig d => d.wf
  | .stepTableLoad _ => true
  | .breakerCurveStage d => d.wf
  | .msgTableLoad _ => true
  | .paramSet d => d.wf
  | .paramGet d => d.wf
  | .ctxExport d => d.wf
  | .hostPagesBind d => d.wf
  | .hostPagesWithdraw d => d.wf
  | .sessionOpen d => d.wf
  | .sessionProve d => d.wf
  | .sessionClose d => d.wf
  | .expertUnlock d => d.wf
  | .expertRelock d => d.wf
  | .feedEnable d => d.wf
  | .feedDisable d => d.wf
  | .feedClearRetry d => d.wf
  | .rtcSet d => d.wf
  | .hostSessionTimeout => true
  | .tilesReady => true
  | .kickoffCommit => true
  | .kickoffApply _ => true
  | .applyPacket _ => true
  | .kickFire _ => true
  | .kickTimeout _ => true
  | .digestReceived _ _ _ ports _ => ports.length == 24
  | .digestLost _ => true
  | .clockMonitorWindow _ _ _ => true
  | .coreHang _ => true
  | .coreRestart => true
  | .allocationMirrorCheck _ => true
  | .mirrorLate => true
  | .romHubCheck _ => true
  | .romTileCheck _ _ => true
  | .supplyHub _ _ => true
  | .supplyTile _ _ => true
  | .portReactionTimeout _ => true
  | .sramScrub _ _ _ => true
  | .idleEntry => true
  | .deepEntry _ => true
  | .wake _ _ _ => true
  | .pllLocked => true
  | .pllLockTimeout => true
  | .tileRelease _ _ => true
  | .tileSupplyRecover _ _ => true
  | .bootImageLoaded => true
  | .powerOnReset => true
  | .deviceReset _ => true
  | .domainRelease _ _ _ _ => true
  | .refereeSelftestDone _ => true
  | .xaCrystalFail => true
  | .xaCrystalRecover => true
  | .perstNFall => true
  | .perstNRise => true
  | .functionLevelReset => true
  | .d3hotEntry => true
  | .d0Return _ _ => true
  | .pcieLinkTrained _ _ => true
  | .programWord src _ _ => src.wf
  | .integrity src _ _ => src.wf
  | .lock src _ _ => src.wf
  | .forceLock src _ _ => src.wf
  | .readLock src _ _ => src.wf
  | .reinforce src _ _ => src.wf
  | .audit src _ _ => src.wf
  | .floorAdvance src _ => src.wf
  | .fuseReservedOp src _ _ => src.wf
  | .fuseAuditPeriodic _ => true
  | .fuseHeldOpStart _ => true
  | .fuRaddrWrite _ => true
  | .svcFrameDiscard _ => true
  | .svcFrameGap _ => true
  | .autobaudLock _ => true
  | .svcLineIdle => true
  | .hello f => f.wf
  | .svcSessionOpen f => f.wf
  | .svcSessionProve f => f.wf
  | .svcSessionClose f => f.wf
  | .passwordSet f => f.wf
  | .svcExpertUnlock f => f.wf
  | .svcExpertRelock f => f.wf
  | .regRead f => f.wf
  | .regWrite f _ slots => f.wf && slots.all Desc.wf
  | .svcHuddleCheck f => f.wf
  | .svcHuddleArmNextBoundary f => f.wf
  | .svcHuddleArmKick f => f.wf
  | .svcHuddleDiscard f => f.wf
  | .logRead f => f.wf
  | .settingsSave f => f.wf
  | .imageBegin f _ => f.wf
  | .imageBlock f _ => f.wf
  | .imageResume f => f.wf
  | .imageEnd f _ => f.wf
  | .activateNow f => f.wf
  | .activateAtTime f => f.wf
  | .activateKick f => f.wf
  | .confirm f _ => f.wf
  | .cancel f => f.wf
  | .svcUnknownCommand f _ => f.wf
  | .svcSessionTimeout => true
  | .sessionLockoutEnd => true
  | .trialWindowExpiry _ => true
  | .activationInstant => true
  | .activationLoadDone => true
  | .registerWrite _ _ _ => true
  | .eventCounterOvfClear _ _ => true
  | .errorCounterRead _ _ => true
  | .scStoreRead _ => true
  | .scLatRead _ => true
  | .wideValueLowRead _ _ => true
  | .upActivateAtWrite _ _ => true
  | .pathCtrlWrite _ _ => true
  | .refCfgWrite _ => true
  | .pwCtrlReset => true
  | .upCtrlArm _ => true
  | .upCtrlCancel => true
  | .upCtrlSave => true
  | .upCtrlConfirm _ => true
  | .ringEnable _ _ => true
  | .ringDisable _ _ slots => slots.all Desc.wf
  | .kickJoinWrite _ => true
  | .illegalMove _ => true
  | .kickLineLow => true
  | .fuseOperationDone _ => true
  | .fuseSupplyLost _ _ _ => true
  | .triplicatedRegisterDisagree => true

end Sys2Proof
end

