-- ==== Sys2Proof/Tests/Slice0.lean ====
section
/-! SUPPORT. The tests of the model: ill-formed terms that the checks refuse, examples of single commands from the spec's own numbers,
and for each statement a state and operands that meet its hypotheses. -/


namespace Sys2Proof.Machine
set_option Elab.async false

/-- A state for the witnesses: as after reset, some hours later, with no bootstrap ports, the tiles released, a feed of 54 V and a
rate locked on the service port. -/
def wB : State :=
  { State.reset with
    ports := Vector.replicate 192 (Port.reset false), tiles := Vector.replicate 8 { Tile.reset with released := true }
    svc := { State.reset.svc with baud := 115200 }
    board := { State.reset.board with vFeed := 54000 }
    pwr := { State.reset.pwr with powered := 0x3FFF#14, fenced := 0#14, domUp := true, coresUp := true }
    aon := 500000000 }
/-- The next state an outcome holds. -/
def wNext (o : Out) : State := match o with | .next u => u | _ => wB
/-- A policy as after reset, with what it has offered. -/
def wPol (acked : List Word) (epr : Bool) : Pol := { Pol.reset with acked := acked, epr := epr }
/-- The port is attached to a sink and its policy is READY. -/
def State.wOn (s : State) (p : PortId) : State :=
  s.modPort p fun q => { q with
    cc := { q.cc with state := .attached, partner := .sink }
    pol := { q.pol with state := .ready, outq := [], flight := none }
    pd := { q.pd with tx := none } }
/-- Nothing of the port's policy waits. -/
def State.wCalm (s : State) (p : PortId) : State :=
  s.modPort p fun q => { q with
    pol := { q.pol with swapDue := false, outq := [], newOffer := false, cable := .cable3A }
    rally := { q.rally with owed := .none, step := .ended, noticeDue := false } }
/-- The port's RAM message table holds one entry, next to act. -/
def State.wEntry (s : State) (p : PortId) (act arg wait opd : Nat) : State :=
  (s.modTile (tileOf p) fun t => { t with mtRam := [stepEntry act arg wait opd 1 2 3 0] }).modPd p fun q =>
    { q with table := .ram, waiting := false, entry := 0 }
/-- The port's sequencer runs step table 16, whose one entry is next to act. -/
def State.wStep (s : State) (p : PortId) (act arg wait thr flags : Nat) : State :=
  (s.modCfg fun c => { c with stRam := List.replicate 16 ⟨[stepEntry act arg wait thr 1 2 3 flags], 0#32, true⟩ }).modPath p fun q =>
    { q with run := true, waiting := false, table := 16, entry := 0 }
/-- The port's sequencer waits on the one entry of step table 16. -/
def State.wWaits (s : State) (p : PortId) (wait flags : Nat) : State :=
  (s.wStep p 0 0 wait 0 flags).modPath p fun q => { q with waiting := true }
/-- The port's message table waits on the one entry of its RAM table. -/
def State.wMsgWaits (s : State) (p : PortId) (wait : Nat) : State :=
  (s.wEntry p 0 0 wait 0).modPd p fun q => { q with waiting := true }
/-- An event of the housekeeping class. -/
def wEv (c : QClass) (code : Nat) : QEv := ⟨c, code, 0#16, 5#32, 0, [], 0, 0, 0, none, none⟩
/-- A host descriptor of ring 0 (9 for the PD rows), with a body. -/
def wDesc (op port : Nat) (body : List Byte) : Desc :=
  ⟨if op == 0x10 || op == 0x11 then 9 else 0, 0#16, BitVec.ofNat 8 op, 0#8, 7#16, BitVec.ofNat 16 port, 0#16, body⟩
/-- Rings of descriptors and completions are enabled with 256 slots and empty. -/
def State.wRings (s : State) : State :=
  [0, 2].foldl (fun s n => s.modRing n fun g => { g with enable := true, size := 8, state := .running, hostIdx := 0#16, devIdx := 0#16, chain := none })
    ([1, 9, 10].foldl (fun s n => s.modRing n fun g => { g with enable := false, state := .disabled }) (s.modLink fun l => { l with fetched := [], waiting := [], loads := [] }))
/-- The descriptor has been fetched, and the completion rings are enabled. -/
def State.wFetched (s : State) (d : Desc) : State :=
  ((s.modLink fun l => { l with fetched := [d], level := .tech, unlocked := true, sess := 5 }).modRing 2 fun g => { g with enable := true, size := 8 }).modRing 11
    fun g => { g with enable := true, size := 8 }
/-- An open TECH session of the service port, whose password is its own. -/
def State.wTech (s : State) : State :=
  s.modSvc fun v => { v with sess := 7, level := .tech, techKey := some (List.replicate 32 1#8) }
/-- A service frame of that session. -/
def wFrame (l : List Byte) : SvcFrame := ⟨7#8, 3#8, l⟩
/-- A TECH session of the host with EXPERT_UNLOCK. -/
def State.wExpert (s : State) : State := s.modLink fun l => { l with level := .tech, unlocked := true, sess := 5 }
/-- A head page: 4 KiB of code, S1 and S2 of core 3 of 4 KiB at 0x2000 and 0x3000, 256 bytes of S4. -/
def wHead : List Byte :=
  List.replicate 0x54 0#8 ++ [0#8, 0x10#8, 0#8, 0#8, 0#8, 0#8, 0#8, 0#8, 0#8, 1#8, 0#8, 0#8] ++ List.replicate 0x18 0#8 ++
    [0#8, 0x20#8, 0#8, 0#8, 0#8, 0x10#8, 0#8, 0#8] ++ List.replicate 0x18 0#8 ++ [0#8, 0x30#8, 0#8, 0#8, 0#8, 0x10#8, 0#8, 0#8]
/-- Core 3 runs a dispatch of port 191 and its next move is `w`. -/
def State.wMove (s : State) (w : Word) : State :=
  ((s.modCores fun c => { c with code := Memory.ofBytes 0 (bytesLE 4 w.toNat) }).modCore 3 fun c =>
    { c with state := .run, port := some 191, pc := 0, moves := 0, sp := 0xFFC, seg := 1, aluA := 0x80000000#32, lsuD := 0x12345678#32 }).modUpd
      fun u => { u with run := some .a, runHead := wHead }
/-- What a fetch answers where the word lies in the code and is not poisoned. -/
theorem wFetch_eq {s : State} {k : CoreId} {w : Word}
    (h : (decide ((s.coreAt k).pc + 4 ≤ (s.seg k 0).limit) && (s.poisoned k .code (s.coreAt k).pc 4).isNone &&
      BitVec.ofNat 32 (valLE (Memory.reads s.cores.code (s.coreAt k).pc 4)) == w) = true) : s.fetch k = (w, none) := by
  simp only [Bool.and_eq_true, decide_eq_true_eq, Option.isNone_iff_eq_none, beq_iff_eq] at h
  unfold State.fetch
  simp only [gt_iff_lt, Nat.not_lt.2 h.1.1, if_false, h.1.2, h.2]
/-- A free port with no sequence of its own that has answered no Wait may answer. -/
theorem wMay {s : State} {p : PortId} {k : MsgKind} (f : s.policyFree p)
    (h : (! s.ownSeq p && (s.port p).pol.waited.isNone) = true) : s.mayAnswer p k := by
  simp only [Bool.and_eq_true, Bool.not_eq_true'] at h
  refine ⟨f, h.1, fun n e => ?_⟩
  rw [e] at h
  cases h.2
/-- Such a port judges a Request at once. -/
theorem wAsk {s : State} {p : PortId} {e : Bool} (f : s.policyFree p)
    (h : (! s.ownSeqReq p && (s.port p).pol.waited.isNone) = true) : s.mayRequest p e := by
  simp only [Bool.and_eq_true, Bool.not_eq_true'] at h
  refine ⟨f, h.1, fun n e => ?_⟩
  rw [e] at h
  cases h.2
/-- The word of a move of an immediate to a port, not guarded. -/
def wImm (dst v : Nat) : Word := BitVec.ofNat 32 (2 ^ 30 + v * 4096 + dst)
/-- The word of a move of one port to another, not guarded. -/
def wPort (dst src : Nat) : Word := BitVec.ofNat 32 (src * 4096 + dst)
/-- A signed image of one block: its magic, SKU 0, code of 4 bytes, a public key, the CRC of an empty block, the signature. -/
def wImgHead : List Byte :=
  [0x48#8, 0x5A#8, 0x46#8, 0x31#8, 0x01#8, 0x00#8] ++
    List.replicate 0x14 0#8 ++
    [0x01#8, 0x00#8] ++
    List.replicate 0x14 0#8 ++
    [0x01#8] ++
    List.replicate 0x23 0#8 ++
    [0x04#8, 0x00#8, 0x00#8, 0x00#8, 0x04#8, 0x00#8, 0x00#8, 0x00#8] ++
    List.replicate 0x44 0#8
def wImgPub : List Byte :=
  [0x26#8, 0xEF#8, 0xCE#8, 0xBD#8, 0x0E#8, 0xE9#8, 0xE3#8, 0x4A#8, 0x66#8, 0x91#8, 0x87#8, 0xE1#8, 0x8B#8, 0x3A#8, 0x91#8, 0x22#8] ++
    [0xB2#8, 0xF7#8, 0x33#8, 0x94#8, 0x5B#8, 0x64#8, 0x9C#8, 0xC9#8, 0xF9#8, 0xF9#8, 0x21#8, 0xE9#8, 0xF9#8, 0xDA#8, 0xD8#8, 0x12#8] ++
    [0x90#8, 0x23#8, 0x8B#8, 0xDE#8, 0x9C#8, 0xC7#8, 0xBB#8, 0x33#8, 0x0D#8, 0x15#8, 0x0C#8, 0x67#8, 0x70#8, 0x4D#8, 0xD2#8, 0x5A#8] ++
    [0xE7#8, 0x05#8, 0x52#8, 0x05#8, 0x74#8, 0x4B#8, 0x6F#8, 0x31#8, 0xBF#8, 0x40#8, 0x70#8, 0x74#8, 0x58#8, 0x72#8, 0xD0#8, 0xE6#8]
def wImgSig : List Byte :=
  [0x15#8, 0x0F#8, 0x73#8, 0xA4#8, 0x4D#8, 0xFF#8, 0xAD#8, 0xAF#8, 0x8F#8, 0x14#8, 0x3D#8, 0x00#8, 0x61#8, 0xFA#8, 0x54#8, 0xC3#8] ++
    [0x1A#8, 0xFD#8, 0xAF#8, 0xD8#8, 0xFC#8, 0x15#8, 0x44#8, 0xD1#8, 0xE3#8, 0xAE#8, 0xE7#8, 0x36#8, 0x35#8, 0x63#8, 0x72#8, 0xAD#8] ++
    [0x2B#8, 0x08#8, 0x9A#8, 0x04#8, 0xB4#8, 0xF7#8, 0x23#8, 0x6C#8, 0x6C#8, 0x95#8, 0x67#8, 0x8D#8, 0xC3#8, 0xDD#8, 0x36#8, 0xC3#8] ++
    [0xAD#8, 0xA8#8, 0x1D#8, 0x57#8, 0x92#8, 0x67#8, 0xA6#8, 0x7B#8, 0xCE#8, 0x02#8, 0x26#8, 0x13#8, 0x20#8, 0x47#8, 0xA8#8, 0xCD#8]
def wImg : List Byte := wImgHead ++ wImgPub ++ List.replicate 0x124 0#8 ++ wImgSig ++ List.replicate 0xDBC 0#8
/-- The fuse array holds the hash of that key in its slot 0. -/
def wKeyFuse : BitVec 8192 := 0x31801ACFDE846D0985AED2B3C39217F8B0CBC4905819ACA7E35FDCF336CFC1CB#8192 <<< 1280
/-- The crypto engine accepts that image: IDENT and KEYHASH were LOCKED at boot. -/
def State.wSigned (s : State) : State :=
  s.modFuse fun f => { f with read := true, boot := List.replicate 8 .locked, aLow := 0, aNorm := wKeyFuse, aHigh := 0, bLow := 0, bNorm := 0, bHigh := 0 }
/-- Every domain is powered and unfenced, the device runs, no recovery agent and no download. -/
def State.wUp (s : State) : State :=
  { s with
    pwr := { s.pwr with dev := .run, powered := 0x3FFF#14, fenced := 0#14, domUp := true, coresUp := true }
    upd := { s.upd with recovery := false, dl := none }
    link := { s.link with waiting := [], trained := true, perst := true } }
/-- The regions of the fuse array were LOCKED at boot. -/
def State.wBoot (s : State) : State := s.modFuse fun f => { f with read := true, boot := List.replicate 8 .locked }
/-- The service port is up with an open TECH session, whose passwords are its own. -/
def State.wSess (s : State) : State :=
  s.wUp.modSvc fun v => { v with
    sess := 7, viewKey := some (List.replicate 32 9#8), sessReq := .view, level := .tech, techKey := some (List.replicate 32 1#8)
    unlocked := false, lockN := 2, lockEnd := none }
/-- Such a session of a unit that accepts the signed image and has nothing armed. -/
def State.wImages (s : State) : State :=
  { s.wSess.wSigned with upd := { s.upd with dl := none, recovery := false, armed := none, activating := false, trial := false, boot0 := default } }
/-- The host is up with an unlocked TECH session, and an image is staged. -/
def State.wHost (s : State) : State :=
  { s.wUp with
    upd := { s.upd with recovery := false, dl := none, staged := some .b, armed := none, activating := false, trial := false, run := some .a }
    link := { s.link with level := .tech, unlocked := true, sess := 5, trained := true, perst := true } }
/-- The fuse controller is free, its array reads `norm` and its data register `w`. -/
def State.wFuses (s : State) (norm : BitVec 8192) (w : Word) : State :=
  s.wExpert.modFuse fun q => { q with
    job := none, held := none, auditing := false, wdata := w, aNorm := norm, bNorm := 0, aHigh := 0, aLow := 0, bHigh := 0, bLow := 0 }
/-- Every core is idle and no port has an event waiting. -/
def State.wIdle (s : State) : State :=
  (List.range 4).foldl (fun s j => s.modCore (Fin.ofNat 4 j) fun c => { c with state := .idle, port := none, assign := none, resv := none })
    (allPorts.foldl (fun s p => s.modSc p fun q => { q with deep := false, q := [] }) s)
/-- The checks of a head page ask nothing of the state but its fuse array. -/
theorem headCheck_fuse {s u : State} (h : s.fuse = u.fuse) (b : List Byte) (a : Bool) : s.headCheck b a = u.headCheck b a := by
  unfold State.headCheck State.headTests State.unitKey State.bootStatus
  rw [h]
/-- The signature of the image verifies. -/
theorem wImg_sig : ecdsaOk ((wImg.drop 0xA0).take 64) ((wImg.drop (0x200 + 4 * headBlocks wImg)).take 64)
    (wImg.take (0x200 + 4 * headBlocks wImg)) = true := by decide +kernel
/-- The image passes every check. -/
theorem wImg_checked {s : State} (h : s.fuse = wB.wSigned.fuse) (a : Bool) : s.headCheck wImg a = none := by
  rw [headCheck_fuse h]
  unfold State.headCheck State.headTests
  dsimp only
  rw [wImg_sig]
  cases a <;> decide +kernel
/-- A slot with the image and its one empty block loads. -/
theorem wImg_loads {s : State} {k : Slot} (h : s.fuse = wB.wSigned.fuse) (e : s.upd.slot k = ⟨wImg, [[]]⟩) : s.slotLoads k = true := by
  unfold State.slotLoads State.slotValid
  rw [e, wImg_checked h]
  decide +kernel
/-- The block table of a head page with one entry gives that entry. -/
theorem wHeadCrc (c : Word) : headCrc (wImg.take 0x200 ++ bytesLE 4 c.toNat) 0 = c := by
  have e : (wImg.take 0x200).length = 0x200 := by decide +kernel
  have l : (bytesLE 4 c.toNat).length = 4 := rfl
  unfold headCrc headAt
  rw [List.drop_left' (by rw [e]), List.take_of_length_le (Nat.le_of_eq l)]
  simp [bytesLE, valLE, List.range, List.range.loop]
  apply BitVec.eq_of_toNat_eq
  simp
  omega

end Sys2Proof.Machine

/-! ### Ill-formed commands that the checks refuse -/

namespace Sys2Proof.Tests
set_option Elab.async false
open Sys2Proof Sys2Proof.Machine

/-- A descriptor of a device ring (R322). -/
def badRing : Desc := ⟨2, 0#16, 0#8, 0#8, 0#16, 0#16, 0#16, []⟩
/-- A command entry with 57 bytes after its header (R331). -/
def badBody : Desc := ⟨0, 0#16, 0#8, 0#8, 0#16, 0#16, 0#16, List.replicate 57 0#8⟩
/-- A message entry with 505 bytes after its header (R335). -/
def badMessage : Desc := ⟨9, 0#16, 0x10#8, 0#8, 0#16, 0#16, 0#16, List.replicate 505 0#8⟩
/-- A service payload of 4,105 bytes (R440). -/
def badFrame : SvcFrame := ⟨0#8, 0#8, List.replicate 4105 0#8⟩

theorem test_wf_ring : (Instr.nop badRing).wf = false := by decide
theorem test_wf_entry_length : (Instr.nop badBody).wf = false := by decide
theorem test_wf_message_length : (Instr.pdSend badMessage).wf = false := by decide +kernel
theorem test_wf_entry_full : (Instr.nop { badBody with body := List.replicate 56 0#8 }).wf = true := by decide
theorem test_wf_service_length : (Instr.hello badFrame).wf = false := by decide +kernel
theorem test_wf_fuse_source : (Instr.lock (.svc badFrame) 0 0).wf = false := by decide +kernel
theorem test_wf_post_target : (Instr.powerPathPost 0 ⟨.attach, 2 ^ 17, 0, .fixed, .dflt, 0⟩).wf = false := by decide
theorem test_wf_post_current : (Instr.powerPathPost 0 ⟨.attach, 5000, 2 ^ 15, .fixed, .dflt, 0⟩).wf = false := by decide
theorem test_wf_message : (Instr.informationMessage 0 ⟨.sop, .ping, 0#16, List.replicate 263 0#8⟩).wf = false := by decide +kernel
theorem test_wf_link_payload : (Instr.tileLinkPacket 0 true 0#32 (List.replicate 33 0#32) 0#32).wf = false := by decide
theorem test_wf_link_sequence : (Instr.tileLinkResendTimeout 0 true 64).wf = false := by decide
theorem test_wf_capabilities : (Instr.sinkCapabilities 0 0#16 true (List.replicate 12 0#32)).wf = false := by decide
theorem test_wf_vdm_request : (Instr.vdmRequest 0 0#32 (List.replicate 7 0#32)).wf = false := by decide
theorem test_wf_unstructured : (Instr.unstructuredVdm 0 0#16 0#32 (List.replicate 7 0#32)).wf = false := by decide
theorem test_wf_sample : (Instr.measSample 0 [(0, 4096)] 0).wf = false := by decide
theorem test_wf_self_check : (Instr.adcFault 0 true []).wf = false := by decide
theorem test_wf_self_check_code : (Instr.adcFault 0 true (List.replicate 16 (4096, true, 0))).wf = false := by decide
theorem test_wf_calibration : (Instr.calReconnect 0 0 500 3500 0 320 4096).wf = false := by decide
theorem test_wf_self_calibration : (Instr.sublaneSelfCal 0 4096 500 3500 0 320 3200).wf = false := by decide
theorem test_wf_vdm_response : (Instr.vdmResponse 0 0#16 .sop .nak 0#32 (List.replicate 7 0#32)).wf = false := by decide
theorem test_wf_telemetry : (Instr.telemetryRecord 0 0#16 0 0 []).wf = false := by decide
theorem test_wf_snapshot : (Instr.snapshotWritten []).wf = false := by decide
theorem test_wf_digest : (Instr.digestReceived 0 0 true [] []).wf = false := by decide
theorem test_wf_doorbell : (Instr.doorbell 0 0#32 true [badRing]).wf = false := by decide
theorem test_wf_reread : (Instr.phaseReread 0 [badRing]).wf = false := by decide
theorem test_wf_ring_disable : (Instr.ringDisable 0 0#32 [badRing]).wf = false := by decide
theorem test_wf_reg_write_slots : (Instr.regWrite ⟨0#8, 0#8, []⟩ 0 [badRing]).wf = false := by decide

/-! ### Numbers of the spec's own examples -/

/-- P137 is T5, L17, and its block starts at 0xC480 (the example under R8). -/
theorem test_port_137 : (tileOf 137).val = 5 ∧ 137 % 24 = 17 ∧ ppOff 137 0 = 0xC480 := by decide
/-- PP_ENERGY_LO[137] lies at 0xC4E0 and PP_ENERGY_HI[137] at 0xC4E4 (the example of chapter 18). -/
theorem test_energy_offsets : ppOff 137 0x60 = 0xC4E0 ∧ ppOff 137 0x64 = 0xC4E4 := by decide
/-- The STEADY window of 20 V is 19.0 V to 21.0 V (R165). -/
theorem test_steady_20 : ({ Path.reset with target := 20000 }.withWindow .steady).winLo = 19000 ∧
    ({ Path.reset with target := 20000 }.withWindow .steady).winHi = 21000 := by decide
/-- The STEADY window of 5 V is 4.5 V to 5.5 V (R165). -/
theorem test_steady_5 : ({ Path.reset with target := 5000 }.withWindow .steady).winLo = 4500 ∧
    ({ Path.reset with target := 5000 }.withWindow .steady).winHi = 5500 := by decide
/-- The STEADY window of 48 V is 45.6 V to 50.4 V (R165). -/
theorem test_steady_48 : ({ Path.reset with target := 48000 }.withWindow .steady).winLo = 45600 ∧
    ({ Path.reset with target := 48000 }.withWindow .steady).winHi = 50400 := by decide
/-- The words of the example of a 32-bit constant (R270). -/
theorem test_long_immediate : decodeMove 0x80003000#32 = some ⟨.imm 49152#32, 0x000, none⟩ := by decide
theorem test_short_immediate : decodeMove 0x43B80010#32 = some ⟨.imm (-1152), 0x010, some (0, false)⟩ := by decide
theorem test_port_move : decodeMove 0x00001504#32 = some ⟨.port 0x001, 0x504, some (0, false)⟩ := by decide
theorem test_constant : AluOp.add.result 49152#32 (-1152) = 48000#32 := by decide
/-- The two guarded jumps of the example of the repeat request: not G1, and G2 (R270). -/
theorem test_guard_inverted : decodeMove 0x4C100310#32 = some ⟨.imm 0x100#32, 0x310, some (1, true)⟩ := by decide
theorem test_guard : decodeMove 0x50180310#32 = some ⟨.imm 0x180#32, 0x310, some (2, false)⟩ := by decide
/-- The header of that Accept, its MessageID left 0, is 0x01A3. -/
theorem test_accept_header : msgHeader .accept true 0 0 = 0x01A3#16 := by decide
/-- The step adds the short immediate to ALU.A: the second move of that example. -/
theorem test_add_step : (match exec (.aluAddT 3) ((wB.wMove 0x43B80010#32).modCore 3 fun c => { c with aluA := 49152#32 }) with
    | .next s => (s.coreAt 3).aluR | _ => 0#32) = 48000#32 := by decide +kernel
/-- A load of 1.4 × ILIM counts on the segments of 18/16 and 20/16 and not on that of 24/16 (the example under R174). -/
theorem test_breaker_counts : accTick breakerB0 3000 4200 (List.replicate 8 0) = [8, 8, 0, 0, 0, 0, 0, 0] := by decide
/-! ### Known answers of the checks that the spec names (log entries 8 and 10) -/

theorem test_crc32 : crc32 [0x31#8, 0x32#8, 0x33#8, 0x34#8, 0x35#8, 0x36#8, 0x37#8, 0x38#8, 0x39#8] = 0xCBF43926#32 := by decide +kernel
theorem test_sha256 : (sha256 [0x61#8, 0x62#8, 0x63#8]).take 8 = [0xBA#8, 0x78#8, 0x16#8, 0xBF#8, 0x8F#8, 0x01#8, 0xCF#8, 0xEA#8] := by
  decide +kernel

/-! ### Entries as bytes (R325, R340, R342, R343, R346) -/

theorem test_entry_trip : ({ port := some 3, body := .trip .breaker 2 (-1), time := 0x18001, seq := 0x0102#16 } : Evt).bytes true =
    [0x05#8, 0x80#8, 0x02#8, 0x01#8, 3#8, 0#8, 0#8, 0#8, 0x01#8, 0x80#8, 0x01#8, 0#8, 0#8, 0#8, 0#8, 0#8, 2#8, 2#8, 0xFF#8, 0xFF#8] ++
      List.replicate 12 0#8 := by decide
theorem test_entry_summary : (({ port := none, body := .summary 0x100#192 true, time := 7 } : Evt).bytes false).take 10 =
    [0x0F#8, 0#8, 0#8, 0#8, 0xFF#8, 0xFF#8, 1#8, 0#8, 0#8, 1#8] := by decide
theorem test_entry_sample : ((⟨1, true, 8, 3, 0#16, -2, 0, [(250, -1)]⟩ : TlmRec).bytes true).take 19 =
    [0xC0#8, 0x83#8, 1#8, 0#8, 0#8, 0#8, 0xFE#8, 0xFF#8, 0#8, 0#8, 0#8, 0#8, 0#8, 0#8, 0#8, 0#8, 0xFA#8, 0xF0#8, 0xFF#8] := by decide

end Sys2Proof.Tests


/-! ### Witnesses: states and operands that meet the hypotheses of each clause of a statement -/

namespace Sys2Proof.Tests
set_option Elab.async false
open Sys2Proof Sys2Proof.Machine

theorem witness_TileLinkPacketsAcknowledged :
    (∃ (t : Fin 8) (h : BitVec 32) (pl : List (BitVec 32)) (s : State), (s.tile t).link = .up ∧ pl.length ≤ 32 ∧ hdrLen h = pl.length ∧ hdrSeq h = ((s.tile t).tileSeq + 1) % 64 ∧ (∀ e ∈ (s.tile t).tileUn, e.1 ≠ hdrSeq h) ∧ (s.tile t).tileUn.length < 8) ∧
    (∃ (t : Fin 8) (h : BitVec 32) (pl : List (BitVec 32)) (s : State), (s.tile t).link = .up ∧ pl.length ≤ 32 ∧ hdrLen h = pl.length ∧ (∃ e ∈ (s.tile t).hubUn, e.1 = hdrSeq h) ∧ (s.tile t).hubWait = []) ∧
    (∃ (t : Fin 8) (h : BitVec 32) (pl : List (BitVec 32)) (c : BitVec 32) (s : State), (s.tile t).link = .up ∧ c ≠ packetCrc h pl ∧ hdrSeq h = ((s.tile t).tileSeq + 1) % 64 ∧ (∀ e ∈ (s.tile t).tileUn, e.1 ≠ hdrSeq h) ∧ (s.tile t).tileUn.length < 8) ∧
    (∃ (t : Fin 8) (h : BitVec 32) (pl : List (BitVec 32)) (c : BitVec 32) (s : State), (s.tile t).link = .up ∧ c ≠ packetCrc h pl ∧ (∃ e ∈ (s.tile t).tileUn, e.1 = hdrSeq h) ∧ 8 ≤ sendsOf (s.tile t).tileUn (hdrSeq h)) ∧
    (∃ (t : Fin 8) (h : BitVec 32) (s : State), (s.tile t).link = .up ∧ hdrSeq h = ((s.tile t).tileSeq + 1) % 64 ∧ (∀ e ∈ (s.tile t).tileUn, e.1 ≠ hdrSeq h) ∧ (s.tile t).tileUn.length = 8) ∧
    (∃ (l : List LinkPkt), l.Pairwise (fun a b => a.pri ≤ b.pri)) ∧
    (∃ (t : Fin 8) (seq : Nat) (s : State), (s.tile t).link = .up ∧ (∃ e ∈ (s.tile t).hubUn, e.1 = seq) ∧ sendsOf (s.tile t).hubUn seq < 8) ∧
    (∃ (t : Fin 8) (seq : Nat) (s : State), (s.tile t).link = .up ∧ (∃ e ∈ (s.tile t).tileUn, e.1 = seq) ∧ 8 ≤ sendsOf (s.tile t).tileUn seq) ∧
    (∃ (t : Fin 8) (s : State), (s.tile t).link = .up ∧ (s.tile t).tileUn = [] ∧ (s.tile t).tileWait = []) ∧
    (∃ (t : Fin 8) (s : State), (s.tile t).link = .up ∧ (s.tile t).hubUn = [] ∧ (s.tile t).hubWait = []) :=
  ⟨⟨7, (0x400#32 : BitVec 32), [], wB.modTile 7 fun z => { z with link := .up }, by decide +kernel⟩,
   ⟨7, (0x400#32 : BitVec 32), [], ((wB.modTile 7 fun y => { y with hubUn := [(1, 1)] }).modTile 7 fun z => { z with link := .up }).modTile 7 fun z => { z with hubWait := [] }, by decide +kernel⟩,
   ⟨7, (0x400#32 : BitVec 32), [], 0, wB.modTile 7 fun z => { z with link := .up }, by decide +kernel⟩,
   ⟨7, (0x400#32 : BitVec 32), [], 0, (wB.modTile 7 fun y => { y with tileUn := [(1, 8)] }).modTile 7 fun z => { z with link := .up }, by decide +kernel⟩,
   ⟨7, (0x400#32 : BitVec 32), (wB.modTile 7 fun y => { y with tileUn := List.replicate 8 (40, 1) }).modTile 7 fun z => { z with link := .up }, by decide +kernel⟩,
   ⟨[], by decide +kernel⟩,
   ⟨7, 1, (wB.modTile 7 fun y => { y with hubUn := [(1, 1)] }).modTile 7 fun z => { z with link := .up }, by decide +kernel⟩,
   ⟨7, 63, (wB.modTile 7 fun y => { y with tileUn := [(63, 8)] }).modTile 7 fun z => { z with link := .up }, by decide +kernel⟩,
   ⟨7, ((wB.modTile 7 fun z => { z with link := .up }).modTile 7 fun z => { z with tileUn := [] }).modTile 7 fun z => { z with tileWait := [] }, by decide +kernel⟩,
   ⟨7, ((wB.modTile 7 fun z => { z with link := .up }).modTile 7 fun z => { z with hubUn := [] }).modTile 7 fun z => { z with hubWait := [] }, by decide +kernel⟩⟩

theorem witness_LinkLossAndReturn :
    (∃ (t : Fin 8) (l : Fin 24) (s : State), (s.tile t).link = .up ∧ (s.tile t).safe = false ∧ (s.port (portAt t l)).cc.state ≠ .bootSink) ∧
    (∃ (t : Fin 8) (l : Fin 24) (s : State), (s.tile t).link = .up ∧ (s.tile t).safe = false ∧ (s.port (portAt t l)).cc.state = .bootSink) ∧
    (∃ (t : Fin 8) (s : State), (s.tile t).link = .lost ∧ s.pwr.powered.getLsbD (domTile t) = true) ∧
    (∃ (t : Fin 8) (s : State), (s.tile t).link = .training ∧ (s.tile t).wires = []) ∧
    (∃ (t : Fin 8) (s : State), (s.tile t).link = .reloading ∧ (s.tile t).safe = true ∧ s.domFenced domFeed = false) ∧
    (∃ (t : Fin 8) (s : State), (s.tile t).wires = [.digestLost] ∧ (s.tile t).link = .up ∧ 20 ≤ (s.tile t).digGood) ∧
    (∃ (t : Fin 8) (s : State), (s.tile t).wires = [.supply] ∧ (s.tile t).link = .up ∧ (s.tile t).late = false ∧ msCycles 100 ≤ s.aon - (s.tile t).vtAt) ∧
    (∃ (t : Fin 8) (s : State), (s.tile t).safe = true ∧ (s.tile t).wires = [] ∧ (s.tile t).link = .up ∧ (s.tile t).reloaded = true ∧ msCycles 40 ≤ s.aon - (s.tile t).safeAt) :=
  ⟨⟨7, 23, (wB.modTile 7 fun z => { z with link := .up }).modTile 7 fun z => { z with safe := false }, by decide +kernel⟩,
   ⟨7, 23, ((wB.modTile 7 fun z => { z with link := .up }).modTile 7 fun z => { z with safe := false }).modCc (portAt 7 23) fun z => { z with state := .bootSink }, by decide +kernel⟩,
   ⟨7, wB.modTile 7 fun z => { z with link := .lost }, by decide +kernel⟩,
   ⟨7, (wB.modTile 7 fun z => { z with link := .training }).modTile 7 fun z => { z with wires := [] }, by decide +kernel⟩,
   ⟨7, (wB.modTile 7 fun z => { z with link := .reloading }).modTile 7 fun z => { z with safe := true }, by decide +kernel⟩,
   ⟨7, (((wB.modTile 7 fun y => { y with digGood := 20 }).modTile 7 fun z => { z with wires := [.digestLost] }).modTile 7 fun z => { z with link := .up }).modTile 7 fun z => { z with digGood := 20 }, by decide +kernel⟩,
   ⟨7, ((wB.modTile 7 fun z => { z with wires := [.supply] }).modTile 7 fun z => { z with link := .up }).modTile 7 fun z => { z with late := false }, by decide +kernel⟩,
   ⟨7, (((wB.modTile 7 fun z => { z with safe := true }).modTile 7 fun z => { z with wires := [] }).modTile 7 fun z => { z with link := .up }).modTile 7 fun z => { z with reloaded := true }, by decide +kernel⟩⟩

theorem witness_WatchSampleFilters :
    (∃ (p : Fin 192) (a : LineCode) (b : LineCode) (s : State), ((s.port p).cc.state = .watch ∨ (s.port p).cc.state = .rpHold) ∧ (s.port p).pol.enabled = true ∧ (pairing a b).1.attaches = true ∧ ((pairing a b :: (s.port p).cc.filt).take (s.tileCfg (tileOf p)).filtM).count (pairing a b) < (s.tileCfg (tileOf p)).filtN) ∧
    (∃ (p : Fin 192) (a : LineCode) (b : LineCode) (s : State), ((s.port p).cc.state = .watch ∨ (s.port p).cc.state = .rpHold) ∧ (s.port p).pol.enabled = true ∧ (pairing a b).1.attaches = true ∧ (s.tileCfg (tileOf p)).filtN ≤ ((pairing a b :: (s.port p).cc.filt).take (s.tileCfg (tileOf p)).filtM).count (pairing a b)) ∧
    (∃ (p : Fin 192) (a : LineCode) (b : LineCode) (s : State), ((s.port p).cc.state = .watch ∨ (s.port p).cc.state = .rpHold) ∧ (s.port p).pol.enabled = true ∧ (pairing a b).1.attaches = false) ∧
    (∃ (p : Fin 192) (s : State), (s.port p).cc.state = .rpHold) ∧
    (∃ (p : Fin 192) (s : State), ((s.port p).cc.state = .watch ∨ (s.port p).cc.state = .rpHold) ∧ (s.port p).pol.enabled = false) :=
  ⟨⟨191, .rd, .opn, (wB.modCc 191 fun z => { z with state := .watch }).modPol 191 fun z => { z with enabled := true }, by decide +kernel⟩,
   ⟨191, .rd, .opn, ((wB.modCc 191 fun y => { y with filt := List.replicate 3 (.sink, false) }).modCc 191 fun z => { z with state := .watch }).modPol 191 fun z => { z with enabled := true }, by decide +kernel⟩,
   ⟨191, .opn, .opn, (wB.modCc 191 fun z => { z with state := .watch }).modPol 191 fun z => { z with enabled := true }, by decide +kernel⟩,
   ⟨191, wB.modCc 191 fun z => { z with state := .rpHold }, by decide +kernel⟩,
   ⟨191, (wB.modCc 191 fun z => { z with state := .watch }).modPol 191 fun z => { z with enabled := false }, by decide +kernel⟩⟩

theorem witness_AttachAndDetachDecided :
    (∃ (p : Fin 192) (a : LineCode) (b : LineCode) (s : State), (s.port p).cc.state = .attachWait ∧ (s.port p).pol.enabled = true ∧ (pairing a b).1.attaches = false ∧ (s.port p).cc.latched ≠ some (pairing a b) ∧ (s.port p).cc.nonAttach = 3) ∧
    (∃ (p : Fin 192) (a : LineCode) (b : LineCode) (s : State), (s.port p).cc.state = .attachWait ∧ (pairing a b).1.attaches = true ∧ (s.port p).cc.latched ≠ some (pairing a b) ∧ (s.port p).cc.differ = 3 ∧ pairing (s.port p).cc.line1 (s.port p).cc.line2 = pairing a b) ∧
    (∃ (p : Fin 192) (a : LineCode) (b : LineCode) (vb : Nat) (vs0 : Bool) (s : State), (s.port p).cc.state = .attachWait ∧ (pairing a b).1.attaches = true ∧ (s.port p).cc.latched = some (pairing a b) ∧ (800 < vb ∨ vs0 = false)) ∧
    (∃ (p : Fin 192) (a : LineCode) (b : LineCode) (vb : Nat) (o : Bool) (s : State), (s.port p).cc.state = .attachWait ∧ vb ≤ 800 ∧ pairing a b = (.sink, o) ∧ (s.port p).cc.latched = some (.sink, o) ∧ s.tileDeaf p = false ∧ (s.port p).retry.lock = .none ∧ (s.port p).retry.due = none ∧ (s.port p).path.run = false ∧ (s.port p).path.queued = none ∧ (s.tileCfg (tileOf p)).stOvr.getLsbD 0 = false) ∧
    (∃ (p : Fin 192) (a : LineCode) (b : LineCode) (s : State), (s.port p).cc.state = .attachWait ∧ (s.port p).pol.enabled = true ∧ (s.port p).cc.latched = some (.debugAcc, false) ∧ (a = .opn ∨ b = .opn) ∧ (s.port p).cc.openRun = 3) ∧
    (∃ (p : Fin 192) (vb : Nat) (o : Bool) (s : State), (s.port p).cc.state = .attachWait ∧ (s.port p).cc.debounced = true ∧ vb ≤ 800 ∧ (s.port p).cc.line1 = .ra ∧ (s.port p).cc.line2 = .ra ∧ (s.port p).cc.latched = some (.audioAcc, o) ∧ s.tileDeaf p = false) ∧
    (∃ (p : Fin 192) (vb : Nat) (s : State), (s.port p).cc.state = .attachWait ∧ (s.port p).cc.debounced = true ∧ vb ≤ 800 ∧ (s.port p).cc.line1 = .driven) ∧
    (∃ (p : Fin 192) (v1 : Nat) (v2 : Nat) (s : State), (s.port p).cc.state = .attached ∧ (s.port p).cc.partner = .sink ∧ (s.port p).pd.txActive = false ∧ (s.port p).pd.gcActive = false ∧ (s.port p).cc.rpNow.openMv ≤ (bif (s.port p).cc.cc2 then v2 else v1) ∧ (s.port p).cc.detachRun = 3) ∧
    (∃ (p : Fin 192) (v1 : Nat) (v2 : Nat) (s : State), (s.port p).cc.state = .attached ∧ (s.port p).cc.partner = .sink ∧ (s.port p).pd.txActive = false ∧ (s.port p).pd.gcActive = false ∧ (bif (s.port p).cc.cc2 then v2 else v1) < (s.port p).cc.rpNow.openMv) ∧
    (∃ (p : Fin 192) (c : Bool) (s : State), s.pwr.dev ≠ .deep ∧ (s.port p).cc.state = .attached ∧ (c = false ∨ (s.port p).pd.txActive = true ∨ (s.port p).pd.gcActive = true)) :=
  ⟨⟨191, .opn, .opn, ((wB.modCc 191 fun z => { z with state := .attachWait }).modPol 191 fun z => { z with enabled := true }).modCc 191 fun z => { z with nonAttach := 3 }, by decide +kernel⟩,
   ⟨191, .rd, .opn, ((wB.modCc 191 fun y => { y with line1 := .rd, line2 := .opn }).modCc 191 fun z => { z with state := .attachWait }).modCc 191 fun z => { z with differ := 3 }, by decide +kernel⟩,
   ⟨191, .rd, .opn, 0, false, (wB.modCc 191 fun z => { z with state := .attachWait }).modCc 191 fun z => { z with latched := some (pairing .rd .opn) }, by decide +kernel⟩,
   ⟨191, .rd, .opn, 0, false, (((((wB.modCc 191 fun z => { z with state := .attachWait }).modCc 191 fun z => { z with latched := some (.sink, false) }).modRetry 191 fun z => { z with lock := .none }).modRetry 191 fun z => { z with due := none }).modPath 191 fun z => { z with run := false }).modPath 191 fun z => { z with queued := none }, by decide +kernel⟩,
   ⟨191, .opn, .opn, (((wB.modCc 191 fun z => { z with state := .attachWait }).modPol 191 fun z => { z with enabled := true }).modCc 191 fun z => { z with latched := some (.debugAcc, false) }).modCc 191 fun z => { z with openRun := 3 }, by decide +kernel⟩,
   ⟨191, 0, false, ((((wB.modCc 191 fun z => { z with state := .attachWait }).modCc 191 fun z => { z with debounced := true }).modCc 191 fun z => { z with line1 := .ra }).modCc 191 fun z => { z with line2 := .ra }).modCc 191 fun z => { z with latched := some (.audioAcc, false) }, by decide +kernel⟩,
   ⟨191, 0, ((wB.modCc 191 fun z => { z with state := .attachWait }).modCc 191 fun z => { z with debounced := true }).modCc 191 fun z => { z with line1 := .driven }, by decide +kernel⟩,
   ⟨191, 3000, 3000, ((((wB.modCc 191 fun z => { z with state := .attached }).modCc 191 fun z => { z with partner := .sink }).modPd 191 fun z => { z with txActive := false }).modPd 191 fun z => { z with gcActive := false }).modCc 191 fun z => { z with detachRun := 3 }, by decide +kernel⟩,
   ⟨191, 0, 0, (((wB.modCc 191 fun z => { z with state := .attached }).modCc 191 fun z => { z with partner := .sink }).modPd 191 fun z => { z with txActive := false }).modPd 191 fun z => { z with gcActive := false }, by decide +kernel⟩,
   ⟨191, false, wB.modCc 191 fun z => { z with state := .attached }, by decide +kernel⟩⟩

theorem witness_CcFaultsAndBootstrapPorts :
    (∃ (p : Fin 192) (mv : Nat) (s : State), 5500 < mv ∧ (s.port p).cc.state = .attached ∧ (s.port p).path.gate = true) ∧
    (∃ (p : Fin 192) (s : State), (s.port p).cc.state = .ccHoldOff ∧ (s.port p).pol.enabled = true ∧ secCycles 1 ≤ s.aon - (s.port p).cc.ovAt) ∧
    (∃ (p : Fin 192) (i : Nat) (s : State), (s.port p).cc.cmpFails = [i] ∧ (s.port p).retry.lock = .none) ∧
    (∃ (p : Fin 192) (i : Nat) (s : State), (s.port p).cc.cmpFails.contains i = false) ∧
    (∃ (p : Fin 192) (i : Nat) (s : State), (s.port p).cc.cmpRetest = true ∧ (s.port p).retry.lock = .cmpStuck ∧ (s.port p).cc.cmpStuck = [i] ∧ (s.port p).cc.cmpFails = []) ∧
    (∃ (p : Fin 192) (i : Nat) (k : Nat) (s : State), (s.port p).cc.cmpRetest = true ∧ (s.port p).retry.lock = .cmpStuck ∧ k < 6 ∧ i ≠ k ∧ (s.port p).cc.cmpStuck = [k] ∧ (s.port p).cc.cmpFails = []) ∧
    (∃ (p : Fin 192) (s : State), (s.port p).cc.cmpRetest = false) ∧
    (∃ (p : Fin 192) (s : State), (s.port p).cc.state = .bootRd ∧ s.pwr.domUp = true) ∧
    (∃ (p : Fin 192) (s : State), (s.port p).cc.state = .bootRd ∧ (s.port p).cc.disablePend = false ∧ (s.port p).pol.enabled = true ∧ (s.tile (tileOf p)).released = true) ∧
    (∃ (p : Fin 192) (s : State), (s.port p).cc.state = .bootSink ∧ (s.port p).cc.disablePend = false) :=
  ⟨⟨191, 6000, (wB.modCc 191 fun z => { z with state := .attached }).modPath 191 fun z => { z with gate := true }, by decide +kernel⟩,
   ⟨191, (wB.modCc 191 fun z => { z with state := .ccHoldOff }).modPol 191 fun z => { z with enabled := true }, by decide +kernel⟩,
   ⟨191, 0, (wB.modCc 191 fun z => { z with cmpFails := [0] }).modRetry 191 fun z => { z with lock := .none }, by decide +kernel⟩,
   ⟨191, 0, wB, by decide +kernel⟩,
   ⟨191, 0, (((wB.modCc 191 fun z => { z with cmpRetest := true }).modRetry 191 fun z => { z with lock := .cmpStuck }).modCc 191 fun z => { z with cmpStuck := [0] }).modCc 191 fun z => { z with cmpFails := [] }, by decide +kernel⟩,
   ⟨191, 1, 0, (((wB.modCc 191 fun z => { z with cmpRetest := true }).modRetry 191 fun z => { z with lock := .cmpStuck }).modCc 191 fun z => { z with cmpStuck := [0] }).modCc 191 fun z => { z with cmpFails := [] }, by decide +kernel⟩,
   ⟨191, wB.modCc 191 fun z => { z with cmpRetest := false }, by decide +kernel⟩,
   ⟨191, (wB.modCc 191 fun z => { z with state := .bootRd }).modPwr fun z => { z with domUp := true }, by decide +kernel⟩,
   ⟨191, (((wB.modCc 191 fun z => { z with state := .bootRd }).modCc 191 fun z => { z with disablePend := false }).modPol 191 fun z => { z with enabled := true }).modTile (tileOf 191) fun z => { z with released := true }, by decide +kernel⟩,
   ⟨191, (wB.modCc 191 fun z => { z with state := .bootSink }).modCc 191 fun z => { z with disablePend := false }, by decide +kernel⟩⟩

theorem witness_ReceptionsCheckedAndCounted :
    (∃ (p : Fin 192) (f : FrameIn) (s : State), (s.port p).hears = true ∧ s.tileDeaf p = false ∧ f.sop = .sop ∧ f.codeOk = false) ∧
    (∃ (p : Fin 192) (f : FrameIn) (s : State), (s.port p).hears = true ∧ s.tileDeaf p = false ∧ f.sop = .sop ∧ f.codeOk = true ∧ f.eop = true ∧ f.data.length ≤ 262 ∧ f.crc ≠ crc32 (bytesLE 2 f.hdr.toNat ++ f.data)) ∧
    (∃ (p : Fin 192) (f : FrameIn) (s : State), s.atWait p 1 ∧ (s.port p).hears = true ∧ f.sop = .sop ∧ f.codeOk = true ∧ f.eop = true ∧ f.data.length ≤ 262 ∧ f.crc = crc32 (bytesLE 2 f.hdr.toNat ++ f.data)) ∧
    (∃ (p : Fin 192) (s : State), (s.port p).hears = true ∧ s.tileDeaf p = false) ∧
    (∃ (p : Fin 192) (s : State), (s.tileCfg (tileOf p)).slicer = 0) ∧
    (∃ (p : Fin 192) (s : State), (s.port p).cc.state = .attached ∧ (s.port p).cc.partner = .sink ∧ s.tileDeaf p = false) ∧
    (∃ (p : Fin 192) (s : State), (s.port p).pd.table = .hold ∧ (s.port p).pd.resume = false) ∧
    (∃ (p : Fin 192) (m : TxMsg) (s : State), (s.port p).pd.table = .hold ∧ (s.port p).pd.tx = some m ∧ (s.port p).pd.txStarted = true ∧ (s.port p).pd.retry < (s.port p).pd.retries) :=
  ⟨⟨191, ⟨.sop, false, true, 0x1161#16, [], 0#32, none, 0⟩, wB.wOn 191, by decide +kernel⟩,
   ⟨191, ⟨.sop, true, true, 0x1161#16, [], 0#32, none, 0⟩, wB.wOn 191, by decide +kernel⟩,
   ⟨191, ⟨.sop, true, true, 0x0161#16, [], crc32 [0x61#8, 0x01#8], none, 0⟩, (wB.wOn 191).wMsgWaits 191 1, by unfold State.atWait; decide +kernel, by decide +kernel⟩,
   ⟨191, wB.wOn 191, by decide +kernel⟩,
   ⟨191, wB, by decide +kernel⟩,
   ⟨191, (wB.modCc 191 fun z => { z with state := .attached }).modCc 191 fun z => { z with partner := .sink }, by decide +kernel⟩,
   ⟨191, (wB.modPd 191 fun z => { z with table := .hold }).modPd 191 fun z => { z with resume := false }, by decide +kernel⟩,
   ⟨191, default, ((wB.modPd 191 fun z => { z with table := .hold }).modPd 191 fun z => { z with tx := some default }).modPd 191 fun z => { z with txStarted := true }, by decide +kernel⟩⟩

theorem witness_MessageTableEntriesAct :
    (∃ (p : Fin 192) (s : State), s.atEntry p 0 0) ∧
    (∃ (p : Fin 192) (a : Nat) (s : State), s.atEntry p 3 a) ∧
    (∃ (p : Fin 192) (s : State), s.atEntry p 4 0) ∧
    (∃ (p : Fin 192) (s : State), s.atEntry p 4 1) ∧
    (∃ (p : Fin 192) (s : State), s.atEntry p 4 2 ∧ (s.port p).pd.lastSop = .sop) ∧
    (∃ (p : Fin 192) (m : Msg) (s : State), s.atEntry p 4 3 ∧ (s.port p).pd.rx = some m ∧ m.sop = .sop) ∧
    (∃ (p : Fin 192) (a : Fin 2) (s : State), s.atEntry p 5 a.val ∧ (s.port p).pol.hasContract = true ∧ (s.port p).pd.rev3 = true) ∧
    (∃ (p : Fin 192) (a : Nat) (s : State), s.atEntry p 5 a ∧ (s.port p).pol.hasContract = false) ∧
    (∃ (p : Fin 192) (s : State), s.atEntry p 6 0) ∧
    (∃ (p : Fin 192) (s : State), s.atEntry p 6 1) ∧
    (∃ (p : Fin 192) (s : State), s.atEntry p 6 3) ∧
    (∃ (p : Fin 192) (s : State), s.atEntry p 1 4) ∧
    (∃ (p : Fin 192) (s : State), s.atEntry p 7 0) ∧
    (∃ (p : Fin 192) (s : State), s.atEntry p 2 1 ∧ (s.port p).pd.rx = none) ∧
    (∃ (p : Fin 192) (m : TxMsg) (s : State), (s.port p).pd.table = .rom ∧ (s.port p).pd.waiting = false ∧ s.tileDeaf p = false ∧ (s.port p).pd.entry = 0x26 ∧ (s.port p).pd.tx = some m ∧ (s.port p).pd.rxHeld = none) ∧
    (∃ (p : Fin 192) (s : State), s.atWait p 2) ∧
    (∃ (p : Fin 192) (s : State), s.atWait p 5) ∧
    (∃ (p : Fin 192) (s : State), s.atWait p 3) ∧
    (∃ (p : Fin 192) (s : State), s.atWait p 6) :=
  ⟨⟨191, wB.wEntry 191 0 0 0 0, by unfold State.atEntry; decide +kernel⟩,
   ⟨191, 0, wB.wEntry 191 3 0 0 0, by unfold State.atEntry; decide +kernel⟩,
   ⟨191, wB.wEntry 191 4 0 0 0, by unfold State.atEntry; decide +kernel⟩,
   ⟨191, wB.wEntry 191 4 1 0 0, by unfold State.atEntry; decide +kernel⟩,
   ⟨191, (wB.wEntry 191 4 2 0 0).modPd 191 fun z => { z with lastSop := .sop }, by unfold State.atEntry; decide +kernel, by decide +kernel⟩,
   ⟨191, default, (wB.wEntry 191 4 3 0 0).modPd 191 fun z => { z with rx := some default }, by unfold State.atEntry; decide +kernel, by decide +kernel⟩,
   ⟨191, (1 : Fin 2), ((wB.modPol 191 fun y => { y with kind := .fixed }).wEntry 191 5 1 0 0).modPd 191 fun z => { z with rev3 := true }, by unfold State.atEntry; decide +kernel, by decide +kernel⟩,
   ⟨191, 0, (wB.modPol 191 fun y => { y with kind := .none }).wEntry 191 5 0 0 0, by unfold State.atEntry; decide +kernel, by decide +kernel⟩,
   ⟨191, wB.wEntry 191 6 0 0 0, by unfold State.atEntry; decide +kernel⟩,
   ⟨191, wB.wEntry 191 6 1 0 0, by unfold State.atEntry; decide +kernel⟩,
   ⟨191, wB.wEntry 191 6 3 0 0, by unfold State.atEntry; decide +kernel⟩,
   ⟨191, wB.wEntry 191 1 4 0 0, by unfold State.atEntry; decide +kernel⟩,
   ⟨191, wB.wEntry 191 7 0 0 0, by unfold State.atEntry; decide +kernel⟩,
   ⟨191, (wB.wEntry 191 2 1 0 0).modPd 191 fun z => { z with rx := none }, by unfold State.atEntry; decide +kernel, by decide +kernel⟩,
   ⟨191, default, ((((wB.modPd 191 fun z => { z with table := .rom }).modPd 191 fun z => { z with waiting := false }).modPd 191 fun z => { z with entry := 0x26 }).modPd 191 fun z => { z with tx := some default }).modPd 191 fun z => { z with rxHeld := none }, by decide +kernel⟩,
   ⟨191, wB.wMsgWaits 191 2, by unfold State.atWait; decide +kernel⟩,
   ⟨191, wB.wMsgWaits 191 5, by unfold State.atWait; decide +kernel⟩,
   ⟨191, wB.wMsgWaits 191 3, by unfold State.atWait; decide +kernel⟩,
   ⟨191, wB.wMsgWaits 191 6, by unfold State.atWait; decide +kernel⟩⟩

theorem witness_RequestsJudgedByTheTable :
    (∃ (rdo : Word), bits rdo 28 4 = 0) ∧
    (∃ (q : Pol) (rdo : Word), q.acked.length < bits rdo 28 4) ∧
    (∃ (q : Pol) (rdo : Word), q.acked[bits rdo 28 4 - 1]? = some 0#32) ∧
    (∃ (q : Pol) (epr : Bool), q.epr ≠ epr) ∧
    (∃ (q : Pol) (rdo : Word), q.epr = false ∧ 8 ≤ bits rdo 28 4) ∧
    (∃ (q : Pol) (epr : Bool) (rdo : Word) (pdo : Word) (w : _), q.acked[bits rdo 28 4 - 1]? = some w ∧ epr = true ∧ w ≠ pdo) ∧
    (∃ (q : Pol) (epr : Bool) (rdo : Word) (pdo : Word) (w : _) (mv : _) (ma : _), bits rdo 28 4 ≠ 0 ∧ q.acked[bits rdo 28 4 - 1]? = some w ∧ w ≠ 0#32 ∧ q.epr = epr ∧ (epr = true → w = pdo) ∧ (epr = false → bits rdo 28 4 < 8) ∧ decodePdo w = .fixed mv ma) ∧
    (∃ (q : Pol) (epr : Bool) (rdo : Word) (pdo : Word) (w : _) (lo : _) (hi : _) (ma : _), bits rdo 28 4 ≠ 0 ∧ q.acked[bits rdo 28 4 - 1]? = some w ∧ w ≠ 0#32 ∧ q.epr = epr ∧ (epr = true → w = pdo) ∧ (epr = false → bits rdo 28 4 < 8) ∧ decodePdo w = .pps lo hi ma) ∧
    (∃ (q : Pol) (epr : Bool) (rdo : Word) (pdo : Word) (w : _) (lo : _) (hi : _) (pdp : _), bits rdo 28 4 ≠ 0 ∧ q.acked[bits rdo 28 4 - 1]? = some w ∧ w ≠ 0#32 ∧ q.epr = epr ∧ (epr = true → w = pdo) ∧ (epr = false → bits rdo 28 4 < 8) ∧ decodePdo w = .avs lo hi pdp) :=
  ⟨⟨0x00000000#32, by decide +kernel⟩,
   ⟨wPol [fixedPdo 5000 3000] false, 0x20000000#32, by decide +kernel⟩,
   ⟨wPol [0#32] false, 0x10000000#32, by decide +kernel⟩,
   ⟨wPol [fixedPdo 5000 3000] true, false, by decide +kernel⟩,
   ⟨wPol (List.replicate 9 0#32) false, 0x80000000#32, by decide +kernel⟩,
   ⟨wPol [fixedPdo 5000 3000] true, true, 0x10000000#32, fixedPdo 5000 2000, fixedPdo 5000 3000, by decide +kernel⟩,
   ⟨wPol [fixedPdo 5000 3000] false, false, 0x1004B12C#32, 0, fixedPdo 5000 3000, 5000, 3000, by decide +kernel⟩,
   ⟨wPol [fixedPdo 5000 3000, ppsPdo 3300 21000 3000 false] false, false, 0x2008343C#32, 0, ppsPdo 3300 21000 3000 false, 3300, 21000, 3000, by decide +kernel⟩,
   ⟨wPol (List.replicate 7 (fixedPdo 5000 3000) ++ [avsPdo 15000 48000 240]) true, true, 0x800F003C#32, avsPdo 15000 48000 240, avsPdo 15000 48000 240, 15000, 48000, 240, by decide +kernel⟩⟩

theorem witness_RequestToContract :
    (∃ (p : Fin 192) (epr : Bool) (rdo : BitVec 32) (pdo : BitVec 32) (a : Ask) (s : State), s.mayRequest p epr ∧ (s.port p).pol.state = .negotiate ∧ (s.port p).pol.kind = .none ∧ (s.port p).pol.answer epr rdo pdo = some a) ∧
    (∃ (p : Fin 192) (epr : Bool) (rdo : BitVec 32) (pdo : BitVec 32) (s : State), s.mayRequest p epr ∧ (s.port p).pol.state = .negotiate ∧ (s.port p).pol.answer epr rdo pdo = none) ∧
    (∃ (p : Fin 192) (rdo : BitVec 32) (pdo : BitVec 32) (a : Ask) (s : State), s.mayRequest p false ∧ (s.port p).pol.state = .ready ∧ (s.port p).pol.kind = .pps ∧ (s.port p).pol.rdo = rdo ∧ (s.port p).pol.answer false rdo pdo = some a) ∧
    (∃ (p : Fin 192) (s : State), s.mayHardReset p ∧ s.policyOn p = true ∧ (s.port p).pol.state = .transition) ∧
    (∃ (p : Fin 192) (m : TxMsg) (s : State), (s.port p).pol.flight = some m ∧ m.expect = .request) ∧
    (∃ (p : Fin 192) (m : TxMsg) (s : State), (s.port p).pol.flight = some m ∧ m.expect = .acceptReq ∧ m.kind = .accept) ∧
    (∃ (p : Fin 192) (a : Ask) (s : State), (s.port p).pol.state = .transition ∧ (s.port p).pol.expect = .acceptReq ∧ judge (s.port p).pol.acked (s.port p).pol.req = some a ∧ a.kind = .fixed ∧ 3300 ≤ a.mv ∧ a.mv ≤ 50000 ∧ s.tileDeaf p = false ∧ (s.port p).path.safeHeld = false ∧ (s.port p).path.run = false ∧ (s.port p).path.queued = none ∧ (s.port p).cc.noTable 1 = false ∧ (s.tileCfg (tileOf p)).stOvr = 0#16) ∧
    (∃ (p : Fin 192) (m : TxMsg) (s : State), (s.port p).pol.flight = some m ∧ m.expect = .psRdyReq ∧ (s.port p).pol.repeat_ = true ∧ (s.port p).pol.eprExit = false ∧ (s.port p).pol.newOffer = false ∧ (s.port p).pol.cable ≠ .unknown) ∧
    (∃ (p : Fin 192) (m : TxMsg) (a : Ask) (s : State), (s.port p).pol.flight = some m ∧ m.expect = .psRdyReq ∧ judge (s.port p).pol.acked (s.port p).pol.req = some a ∧ (s.port p).pol.repeat_ = false ∧ (s.port p).pol.newOffer = false ∧ (s.port p).pol.cable ≠ .unknown) ∧
    (∃ (p : Fin 192) (m : TxMsg) (s : State), (s.port p).pol.flight = some m ∧ m.expect = .psRdyReq ∧ (s.port p).pol.repeat_ = true ∧ (s.port p).pol.eprExit = true ∧ (s.port p).pol.pos ≤ 7 ∧ (s.port p).pol.eprEntry = 0 ∧ (s.port p).pol.outq = [] ∧ (s.port p).pd.tx = none ∧ (s.port p).pd.table ≠ .hold ∧ s.tileDeaf p = false ∧ (s.port p).rally.req = .none) ∧
    (∃ (p : Fin 192) (m : TxMsg) (s : State), s.nothingWaits p ∧ (s.port p).pol.flight = some m ∧ m.expect = .offered) :=
  ⟨⟨191, false, 0x1004B12C#32, 0, ⟨.fixed, 5000, 3000, 3000, 5000⟩, (((wB.modPol 191 fun y => { y with acked := [fixedPdo 5000 3000], epr := false }).wOn 191).modPol 191 fun z => { z with state := .negotiate }).modPol 191 fun z => { z with kind := .none }, wAsk (by unfold State.policyFree; decide +kernel) (by decide +kernel), by decide +kernel⟩,
   ⟨191, false, 0, 0, ((wB.modPol 191 fun y => { y with acked := [fixedPdo 5000 3000], epr := false }).wOn 191).modPol 191 fun z => { z with state := .negotiate }, wAsk (by unfold State.policyFree; decide +kernel) (by decide +kernel), by decide +kernel⟩,
   ⟨191, 0x2002083C#32, 0, ⟨.pps, 5200, 3000, 3000, 3300⟩, ((((wB.modPol 191 fun y => { y with acked := [fixedPdo 5000 3000, ppsPdo 3300 21000 3000 false], epr := false }).wOn 191).modPol 191 fun z => { z with state := .ready }).modPol 191 fun z => { z with kind := .pps }).modPol 191 fun z => { z with rdo := 0x2002083C#32 }, wAsk (by unfold State.policyFree; decide +kernel) (by decide +kernel), by decide +kernel⟩,
   ⟨191, (wB.wOn 191).modPol 191 fun z => { z with state := .transition }, by unfold State.mayHardReset; decide +kernel, by decide +kernel⟩,
   ⟨191, ctlMsg .ping .request, wB.modPol 191 fun z => { z with flight := some (ctlMsg .ping .request) }, by decide +kernel⟩,
   ⟨191, ctlMsg .accept .acceptReq, wB.modPol 191 fun z => { z with flight := some (ctlMsg .accept .acceptReq) }, by decide +kernel⟩,
   ⟨191, ⟨.fixed, 5000, 3000, 3000, 5000⟩, (((((wB.modPol 191 fun y => { y with acked := [fixedPdo 5000 3000], req := 0x1004B12C#32 }).modPol 191 fun z => { z with state := .transition }).modPol 191 fun z => { z with expect := .acceptReq }).modPath 191 fun z => { z with safeHeld := false }).modPath 191 fun z => { z with run := false }).modPath 191 fun z => { z with queued := none }, by decide +kernel⟩,
   ⟨191, ctlMsg .ping .psRdyReq, ((((wB.modPol 191 fun z => { z with flight := some (ctlMsg .ping .psRdyReq) }).modPol 191 fun z => { z with repeat_ := true }).modPol 191 fun z => { z with eprExit := false }).modPol 191 fun z => { z with newOffer := false }).modPol 191 fun z => { z with cable := .cable3A }, by decide +kernel⟩,
   ⟨191, ctlMsg .ping .psRdyReq, ⟨.fixed, 5000, 3000, 3000, 5000⟩, ((((wB.modPol 191 fun y => { y with acked := [fixedPdo 5000 3000], req := 0x1004B12C#32 }).modPol 191 fun z => { z with flight := some (ctlMsg .ping .psRdyReq) }).modPol 191 fun z => { z with repeat_ := false }).modPol 191 fun z => { z with newOffer := false }).modPol 191 fun z => { z with cable := .cable3A }, by decide +kernel⟩,
   ⟨191, ctlMsg .psRdy .psRdyReq, ((((((wB.modPol 191 fun z => { z with flight := some (ctlMsg .psRdy .psRdyReq) }).modPol 191 fun z => { z with repeat_ := true }).modPol 191 fun z => { z with eprExit := true }).modPol 191 fun z => { z with eprEntry := 0 }).modPol 191 fun z => { z with outq := [] }).modPd 191 fun z => { z with tx := none }).modRally 191 fun z => { z with req := .none }, by decide +kernel⟩,
   ⟨191, objMsg .sourceCaps [] .offered, (wB.modPol 191 fun z => { z with flight := some (objMsg .sourceCaps [] .offered) }).wCalm 191, by unfold State.nothingWaits; decide +kernel, by decide +kernel⟩⟩

theorem witness_MessagesAnswered :
    (∃ (p : Fin 192) (s : State) (c : Instr × MsgKind), s.policyFree p ∧ s.ownSeq p = true ∧ c ∈ [(.getSourceCap p, .getSourceCap), (.eprGetSourceCap p, .eprGetSourceCap), (.getSourceCapExtended p, .getSourceCapExt), (.getSourceInfo p, .getSourceInfo), (.getStatus p, .getStatus), (.getPpsStatus p, .getPpsStatus), (.getRevision p, .getRevision), (.getManufacturerInfo p, .getManufacturerInfo), (.vconnSwap p, .vconnSwap)]) ∧
    (∃ (p : Fin 192) (s : State), s.mayAnswer p .getSourceCap ∧ ((s.port p).pol.state = .ready ∨ (s.port p).pol.state = .sendCaps) ∧ (s.port p).pol.epr = false ∧ (s.port p).pol.eprDue = false ∧ (s.buildOffer p).spr ≠ [] ∧ (s.port p).holdsAlloc = true) ∧
    (∃ (p : Fin 192) (s : State), s.mayAnswer p .getSourceCap ∧ (s.port p).pol.state = .typecOnly ∧ (s.buildOffer p).spr ≠ [] ∧ (s.port p).holdsAlloc = true) ∧
    (∃ (p : Fin 192) (s : State), s.mayAnswer p .eprGetSourceCap ∧ ((s.port p).pol.state = .ready ∨ (s.port p).pol.state = .readyEpr) ∧ (s.port p).pd.rev3 = true ∧ (s.buildOffer p).spr ≠ [] ∧ (s.port p).holdsAlloc = true ∧ (s.profileWords p).any (fun w => (decodePdo w).isEpr) = true) ∧
    (∃ (p : Fin 192) (s : State), s.mayAnswer p .eprGetSourceCap ∧ (s.port p).pd.rev3 = true ∧ (s.profileWords p).any (fun w => (decodePdo w).isEpr) = false) ∧
    (∃ (p : Fin 192) (s : State), s.mayAnswer p .getSourceCapExt) ∧
    (∃ (p : Fin 192) (s : State), s.mayAnswer p .getSourceInfo) ∧
    (∃ (p : Fin 192) (s : State), s.mayAnswer p .getStatus) ∧
    (∃ (p : Fin 192) (s : State), s.mayAnswer p .getPpsStatus ∧ (s.port p).pol.kind = .pps) ∧
    (∃ (p : Fin 192) (s : State), s.mayAnswer p .getPpsStatus ∧ (s.port p).pol.kind ≠ .pps ∧ (s.port p).pd.rev3 = true) ∧
    (∃ (p : Fin 192) (s : State), s.mayAnswer p .getRevision) ∧
    (∃ (p : Fin 192) (s : State), s.mayAnswer p .getManufacturerInfo) ∧
    (∃ (p : Fin 192) (s : State), s.policyFree p) ∧
    (∃ (p : Fin 192) (s : State), s.policyFree p ∧ (s.port p).pd.rev3 = true) ∧
    (∃ (p : Fin 192) (s : State), s.nothingWaits p ∧ (s.port p).pd.rev3 = false) ∧
    (∃ (p : Fin 192) (s : State), s.policyFree p ∧ s.seqBusy p (ctlMsg .getStatus .status) = false) ∧
    (∃ (p : Fin 192) (s : State), s.policyOn p = true ∧ (s.port p).path.gate = true ∧ (s.port p).path.target = 5000 ∧ (s.port p).path.slewTo = none) ∧
    (∃ (p : Fin 192) (s : State), s.nothingWaits p ∧ (s.port p).path.gate = false) ∧
    (∃ (p : Fin 192) (m : Msg) (s : State), s.nothingWaits p ∧ s.policyOn p = true ∧ m.kind = .batteryStatus) ∧
    (∃ (p : Fin 192) (m : Msg) (s : State), (s.port p).pd.rx = some m ∧ (s.port p).pd.holdReply ≠ .none) :=
  ⟨⟨191, (wB.wOn 191).modRally 191 fun y => { y with req := .notice }, (.getStatus 191, .getStatus), by unfold State.policyFree; decide +kernel, by decide +kernel⟩,
   ⟨191, ((((wB.wOn 191).modPol 191 fun z => { z with state := .ready }).modPol 191 fun z => { z with epr := false }).modPol 191 fun z => { z with eprDue := false }).modSb 191 fun z => { z with state := .funded }, wMay (by unfold State.policyFree; decide +kernel) (by decide +kernel), by decide +kernel⟩,
   ⟨191, ((wB.wOn 191).modPol 191 fun z => { z with state := .typecOnly }).modSb 191 fun z => { z with state := .funded }, wMay (by unfold State.policyFree; decide +kernel) (by decide +kernel), by decide +kernel⟩,
   ⟨191, (((((wB.modPol 191 fun y => { y with profile := 15, custom := some [fixedPdo 5000 3000, fixedPdo 28000 5000] }).modPort 191 fun y => { y with smp := { y.smp with limited := false } }).wOn 191).modPol 191 fun z => { z with state := .ready }).modPd 191 fun z => { z with rev3 := true }).modSb 191 fun z => { z with state := .funded }, wMay (by unfold State.policyFree; decide +kernel) (by decide +kernel), by decide +kernel⟩,
   ⟨191, (wB.wOn 191).modPd 191 fun z => { z with rev3 := true }, wMay (by unfold State.policyFree; decide +kernel) (by decide +kernel), by decide +kernel⟩,
   ⟨191, wB.wOn 191, wMay (by unfold State.policyFree; decide +kernel) (by decide +kernel)⟩,
   ⟨191, wB.wOn 191, wMay (by unfold State.policyFree; decide +kernel) (by decide +kernel)⟩,
   ⟨191, wB.wOn 191, wMay (by unfold State.policyFree; decide +kernel) (by decide +kernel)⟩,
   ⟨191, (wB.wOn 191).modPol 191 fun z => { z with kind := .pps }, wMay (by unfold State.policyFree; decide +kernel) (by decide +kernel), by decide +kernel⟩,
   ⟨191, (wB.wOn 191).modPd 191 fun z => { z with rev3 := true }, wMay (by unfold State.policyFree; decide +kernel) (by decide +kernel), by decide +kernel⟩,
   ⟨191, wB.wOn 191, wMay (by unfold State.policyFree; decide +kernel) (by decide +kernel)⟩,
   ⟨191, wB.wOn 191, wMay (by unfold State.policyFree; decide +kernel) (by decide +kernel)⟩,
   ⟨191, wB.wOn 191, by unfold State.policyFree; decide +kernel⟩,
   ⟨191, (wB.wOn 191).modPd 191 fun z => { z with rev3 := true }, by unfold State.policyFree; decide +kernel, by decide +kernel⟩,
   ⟨191, (wB.modPd 191 fun z => { z with rev3 := false }).wCalm 191, by unfold State.nothingWaits; decide +kernel, by decide +kernel⟩,
   ⟨191, wB.wOn 191, by unfold State.policyFree; decide +kernel, by decide +kernel⟩,
   ⟨191, (((wB.wOn 191).modPath 191 fun z => { z with gate := true }).modPath 191 fun z => { z with target := 5000 }).modPath 191 fun z => { z with slewTo := none }, by decide +kernel⟩,
   ⟨191, (wB.modPath 191 fun z => { z with gate := false }).wCalm 191, by unfold State.nothingWaits; decide +kernel, by decide +kernel⟩,
   ⟨191, ⟨.sop, .batteryStatus, 0x1045#16, []⟩, (wB.wOn 191).wCalm 191, by unfold State.nothingWaits; decide +kernel, by decide +kernel⟩,
   ⟨191, default, (wB.modPd 191 fun y => { y with holdReply := .wait }).modPd 191 fun z => { z with rx := some default }, by decide +kernel⟩⟩

theorem witness_TimerLadder :
    (∃ (p : Fin 192) (s : State), s.mayHardReset p ∧ s.policyOn p = true ∧ (s.port p).pol.expect = .acceptSoft) ∧
    (∃ (p : Fin 192) (s : State), s.policyOn p = true ∧ (s.port p).pol.expect = .request ∧ (s.port p).txFree = true ∧ (s.port p).pd.table ≠ .hold) ∧
    (∃ (p : Fin 192) (s : State), s.mayHardReset p ∧ s.policyOn p = true ∧ (s.port p).pol.kind = .pps) ∧
    (∃ (p : Fin 192) (s : State), s.mayHardReset p ∧ s.policyOn p = true ∧ (s.port p).pol.epr = true) ∧
    (∃ (p : Fin 192) (s : State), ¬ s.mayHardReset p ∧ s.policyOn p = true ∧ (s.port p).pol.kind = .pps) ∧
    (∃ (p : Fin 192) (s : State), s.mayHardReset p ∧ s.policyOn p = true ∧ (s.port p).pol.state = .vconnSwap ∧ (s.port p).pol.expect = .swapPsRdy) ∧
    (∃ (p : Fin 192) (s : State), s.mayHardReset p ∧ (s.port p).cc.state = .attached ∧ (s.port p).pol.pdSeen = true ∧ (s.port p).pol.state = .hardReset ∧ (s.port p).pol.noResp = true) ∧
    (∃ (p : Fin 192) (s : State), s.policyOn p = true ∧ (s.port p).pol.state = .sendCaps ∧ (s.port p).txFree = true ∧ s.param 0x3000 ≤ (s.port p).pol.capsSends ∧ (s.port p).pol.pdSeen = false) ∧
    (∃ (p : Fin 192) (s : State), s.policyFree p ∧ (s.port p).pol.state = .sendCaps ∧ (s.port p).pol.pdSeen = true ∧ (s.port p).pol.epr = false ∧ (s.port p).pol.eprDue = false ∧ (s.buildOffer p).spr ≠ [] ∧ (s.port p).holdsAlloc = true ∧ (s.port p).pol.eprEntry = 0 ∧ (s.port p).rally.req = .none) ∧
    (∃ (p : Fin 192) (m : TxMsg) (s : State), (s.port p).pol.flight = some m ∧ m.sop = .sop ∧ m.kind = .sourceCaps ∧ (s.port p).pol.state ≠ .transition) ∧
    (∃ (p : Fin 192) (m : TxMsg) (s : State), (s.port p).pol.flight = some m ∧ m.expect = .request) ∧
    (∃ (p : Fin 192) (s : State), s.policyOn p = true ∧ (s.port p).pol.state = .ready ∧ (s.port p).txFree = true ∧ (s.port p).pd.table ≠ .hold) ∧
    (∃ (p : Fin 192) (s : State), s.mayHardReset p ∧ s.policyOn p = true ∧ (s.port p).pol.state = .transition) :=
  ⟨⟨191, (wB.wOn 191).modPol 191 fun z => { z with expect := .acceptSoft }, by unfold State.mayHardReset; decide +kernel, by decide +kernel⟩,
   ⟨191, (wB.wOn 191).modPol 191 fun z => { z with expect := .request }, by decide +kernel⟩,
   ⟨191, (wB.wOn 191).modPol 191 fun z => { z with kind := .pps }, by unfold State.mayHardReset; decide +kernel, by decide +kernel⟩,
   ⟨191, (wB.wOn 191).modPol 191 fun z => { z with epr := true }, by unfold State.mayHardReset; decide +kernel, by decide +kernel⟩,
   ⟨191, ((wB.modPol 191 fun y => { y with hardResets := 9 }).wOn 191).modPol 191 fun z => { z with kind := .pps }, by unfold State.mayHardReset; decide +kernel, by decide +kernel⟩,
   ⟨191, ((wB.wOn 191).modPol 191 fun z => { z with state := .vconnSwap }).modPol 191 fun z => { z with expect := .swapPsRdy }, by unfold State.mayHardReset; decide +kernel, by decide +kernel⟩,
   ⟨191, (((wB.modCc 191 fun z => { z with state := .attached }).modPol 191 fun z => { z with pdSeen := true }).modPol 191 fun z => { z with state := .hardReset }).modPol 191 fun z => { z with noResp := true }, by unfold State.mayHardReset; decide +kernel, by decide +kernel⟩,
   ⟨191, (((wB.wOn 191).modPol 191 fun z => { z with state := .sendCaps }).modPol 191 fun z => { z with capsSends := wB.param 0x3000 }).modPol 191 fun z => { z with pdSeen := false }, by decide +kernel⟩,
   ⟨191, (((((((wB.wOn 191).modPol 191 fun z => { z with state := .sendCaps }).modPol 191 fun z => { z with pdSeen := true }).modPol 191 fun z => { z with epr := false }).modPol 191 fun z => { z with eprDue := false }).modSb 191 fun z => { z with state := .funded }).modPol 191 fun z => { z with eprEntry := 0 }).modRally 191 fun z => { z with req := .none }, by unfold State.policyFree; decide +kernel, by decide +kernel⟩,
   ⟨191, { ctlMsg .ping .none with kind := .sourceCaps }, wB.modPol 191 fun z => { z with flight := some ({ ctlMsg .ping .none with kind := .sourceCaps }) }, by decide +kernel⟩,
   ⟨191, ctlMsg .ping .request, wB.modPol 191 fun z => { z with flight := some (ctlMsg .ping .request) }, by decide +kernel⟩,
   ⟨191, (wB.wOn 191).modPol 191 fun z => { z with state := .ready }, by decide +kernel⟩,
   ⟨191, (wB.wOn 191).modPol 191 fun z => { z with state := .transition }, by unfold State.mayHardReset; decide +kernel, by decide +kernel⟩⟩

theorem witness_SwapsEprAndDemand :
    (∃ (p : Fin 192) (s : State), s.mayAnswer p .vconnSwap ∧ (s.port p).pol.state = .ready ∧ (s.port p).pol.eprEntry = 0 ∧ (s.port p).path.vconn = 0 ∧ s.param 0x5000 = 1 ∧ s.vcAdmits (tileOf p) = true) ∧
    (∃ (p : Fin 192) (s : State), s.mayAnswer p .vconnSwap ∧ (s.port p).pol.state = .ready ∧ (s.port p).pol.eprEntry = 0 ∧ (s.port p).path.vconn ≠ 0 ∧ s.param 0x5000 = 1) ∧
    (∃ (p : Fin 192) (s : State), s.mayAnswer p .vconnSwap ∧ (s.port p).pol.state = .ready ∧ (s.port p).pol.eprEntry = 0 ∧ (s.port p).path.vconn = 0 ∧ s.vcAdmits (tileOf p) = false) ∧
    (∃ (p : Fin 192) (s : State), s.mayAnswer p .vconnSwap ∧ (s.port p).pol.isReady = false) ∧
    (∃ (p : Fin 192) (n : Nat) (s : State), s.policyFree p ∧ (s.port p).pol.waited = some (.vconnSwap, n) ∧ s.aon - n < holdoffCycles) ∧
    (∃ (p : Fin 192) (s : State), s.mayAnswer p .eprMode ∧ (s.port p).pol.state = .ready ∧ (s.port p).pd.rev3 = true ∧ (s.port p).pol.eprEntry = 0) ∧
    (∃ (p : Fin 192) (s : State), s.mayHardReset p ∧ s.policyOn p = true ∧ (s.port p).pol.epr = true ∧ 7 < (s.port p).pol.pos) ∧
    (∃ (p : Fin 192) (s : State), s.policyOn p = true ∧ (s.port p).pol.epr = true ∧ (s.port p).pol.pos ≤ 7) ∧
    (∃ (p : Fin 192) (s : State), s.policyFree p ∧ (s.port p).pol.epr = true) ∧
    (∃ (p : Fin 192) (s : State), s.policyFree p ∧ (s.port p).pol.epr = true ∧ (s.port p).pol.eprEntry = 4 ∧ (s.buildOffer p).spr ≠ [] ∧ (s.port p).holdsAlloc = true ∧ (s.port p).rally.req = .none) ∧
    (∃ (p : Fin 192) (s : State), s.nothingWaits p ∧ s.policyOn p = true ∧ (s.port p).pol.expect = .none) ∧
    (∃ (p : Fin 192) (s : State), s.policyFree p ∧ (s.port p).pol.state = .ready ∧ (s.port p).pol.expect = .none ∧ (s.port p).rally.req = .none ∧ (s.port p).pol.swapTries = 1 ∧ (s.port p).pol.swapDue = false) ∧
    (∃ (p : Fin 192) (o : Fin 11) (w : BitVec 32) (s : State), (s.profileWords p)[o.val]? = some w ∧ s.feedShort w = true ∧ w ∈ (s.port p).pol.live) ∧
    (∃ (p : Fin 192) (o : Fin 11) (w : BitVec 32) (s : State), (s.profileWords p)[o.val]? = some w ∧ s.feedShort w = false) ∧
    (∃ (p : Fin 192) (o : Fin 11) (w : BitVec 32) (s : State), (s.profileWords p)[o.val]? = some w ∧ s.feedShort w = false ∧ w ∈ (s.port p).pol.withdrawn) ∧
    (∃ (p : Fin 192) (o : Fin 11) (w : BitVec 32) (s : State), (s.profileWords p)[o.val]? = some w ∧ s.feedShort w = true) :=
  ⟨⟨191, ((((allPorts.foldl (fun s q => s.modPath q fun y => { y with vconn := 0 }) (wB)).wOn 191).modPol 191 fun z => { z with state := .ready }).modPol 191 fun z => { z with eprEntry := 0 }).modPath 191 fun z => { z with vconn := 0 }, wMay (by unfold State.policyFree; decide +kernel) (by decide +kernel), by decide +kernel⟩,
   ⟨191, (((wB.wOn 191).modPol 191 fun z => { z with state := .ready }).modPol 191 fun z => { z with eprEntry := 0 }).modPath 191 fun z => { z with vconn := 1 }, wMay (by unfold State.policyFree; decide +kernel) (by decide +kernel), by decide +kernel⟩,
   ⟨191, (((((allPorts.filter fun q => tileOf q == 7 && q != 191).foldl (fun s q => s.modPath q fun y => { y with vconn := 1, vcFresh := true }) (wB)).wOn 191).modPol 191 fun z => { z with state := .ready }).modPol 191 fun z => { z with eprEntry := 0 }).modPath 191 fun z => { z with vconn := 0 }, wMay (by unfold State.policyFree; decide +kernel) (by decide +kernel), by decide +kernel⟩,
   ⟨191, (wB.wOn 191).modPol 191 fun y => { y with state := .negotiate }, wMay (by unfold State.policyFree; decide +kernel) (by decide +kernel), by decide +kernel⟩,
   ⟨191, 500000000, (wB.wOn 191).modPol 191 fun z => { z with waited := some (.vconnSwap, 500000000) }, by unfold State.policyFree; decide +kernel, by decide +kernel⟩,
   ⟨191, (((wB.wOn 191).modPol 191 fun z => { z with state := .ready }).modPd 191 fun z => { z with rev3 := true }).modPol 191 fun z => { z with eprEntry := 0 }, wMay (by unfold State.policyFree; decide +kernel) (by decide +kernel), by decide +kernel⟩,
   ⟨191, ((wB.wOn 191).modPol 191 fun z => { z with epr := true }).modPol 191 fun z => { z with pos := 7 + 1 }, by unfold State.mayHardReset; decide +kernel, by decide +kernel⟩,
   ⟨191, (wB.wOn 191).modPol 191 fun z => { z with epr := true }, by decide +kernel⟩,
   ⟨191, (wB.wOn 191).modPol 191 fun z => { z with epr := true }, by unfold State.policyFree; decide +kernel, by decide +kernel⟩,
   ⟨191, ((((wB.wOn 191).modPol 191 fun z => { z with epr := true }).modPol 191 fun z => { z with eprEntry := 4 }).modSb 191 fun z => { z with state := .funded }).modRally 191 fun z => { z with req := .none }, by unfold State.policyFree; decide +kernel, by decide +kernel⟩,
   ⟨191, ((wB.wOn 191).modPol 191 fun z => { z with expect := .none }).wCalm 191, by unfold State.nothingWaits; decide +kernel, by decide +kernel⟩,
   ⟨191, (((((wB.wOn 191).modPol 191 fun z => { z with state := .ready }).modPol 191 fun z => { z with expect := .none }).modRally 191 fun z => { z with req := .none }).modPol 191 fun z => { z with swapTries := 1 }).modPol 191 fun z => { z with swapDue := false }, by unfold State.policyFree; decide +kernel, by decide +kernel⟩,
   ⟨191, (0 : Fin 11), fixedPdo 5000 3000, (wB.modPol 191 fun y => { y with profile := 15, custom := some [(fixedPdo 5000 3000)], live := [(fixedPdo 5000 3000)], withdrawn := [] }).modBoard fun y => { y with vFeed := 0 }, by decide +kernel⟩,
   ⟨191, (0 : Fin 11), fixedPdo 5000 3000, wB.modPol 191 fun y => { y with profile := 15, custom := some [(fixedPdo 5000 3000)], live := [(fixedPdo 5000 3000)], withdrawn := [] }, by decide +kernel⟩,
   ⟨191, (0 : Fin 11), fixedPdo 5000 3000, wB.modPol 191 fun y => { y with profile := 15, custom := some [(fixedPdo 5000 3000)], live := [], withdrawn := [(fixedPdo 5000 3000)] }, by decide +kernel⟩,
   ⟨191, (0 : Fin 11), fixedPdo 5000 3000, (wB.modPol 191 fun y => { y with profile := 15, custom := some [(fixedPdo 5000 3000)], live := [], withdrawn := [(fixedPdo 5000 3000)] }).modBoard fun y => { y with vFeed := 0 }, by decide +kernel⟩⟩

theorem witness_CableClassFirstMatchingRow :
    (∃ (vdos : List Word), bits (vdos[0]?.getD 0#32) 27 3 = 6) ∧
    (∃ (vdos : List Word), bits (vdos[0]?.getD 0#32) 27 3 ∉ [3, 4, 6]) ∧
    (∃ (vdos : List Word), bits (vdos[0]?.getD 0#32) 27 3 ∈ [3, 4] ∧ vdos.length < 4) ∧
    (∃ (vdos : List Word) (v : _), bits (vdos[0]?.getD 0#32) 27 3 ∈ [3, 4] ∧ vdos[3]? = some v ∧ bits v 5 2 = 1) ∧
    (∃ (vdos : List Word) (v : _), bits (vdos[0]?.getD 0#32) 27 3 ∈ [3, 4] ∧ vdos[3]? = some v ∧ bits v 5 2 = 2 ∧ bit v 17 = true ∧ bits v 9 2 = 3) ∧
    (∃ (vdos : List Word) (v : _), bits (vdos[0]?.getD 0#32) 27 3 ∈ [3, 4] ∧ vdos[3]? = some v ∧ bits v 5 2 = 2 ∧ (bit v 17 = false ∨ bits v 9 2 ≠ 3)) ∧
    (∃ (vdos : List Word) (v : _), bits (vdos[0]?.getD 0#32) 27 3 ∈ [3, 4] ∧ vdos[3]? = some v ∧ (bits v 5 2 = 0 ∨ bits v 5 2 = 3)) :=
  ⟨⟨[0x30000000#32], by decide +kernel⟩,
   ⟨[0x28000000#32], by decide +kernel⟩,
   ⟨[0x20000000#32, 0, 0], by decide +kernel⟩,
   ⟨[0x18000000#32, 0, 0, 0x20#32], 0x20#32, by decide +kernel⟩,
   ⟨[0x18000000#32, 0, 0, 0x20640#32], 0x20640#32, by decide +kernel⟩,
   ⟨[0x18000000#32, 0, 0, 0x20440#32], 0x20440#32, by decide +kernel⟩,
   ⟨[0x18000000#32, 0, 0, 0x60#32], 0x60#32, by decide +kernel⟩⟩

theorem witness_VdmsAndRally :
    (∃ (p : Fin 192) (h : BitVec 32) (s : State), s.policyFree p ∧ vdmCmd h = 1) ∧
    (∃ (p : Fin 192) (h : BitVec 32) (s : State), s.policyFree p ∧ vdmCmd h ≠ 1) ∧
    (∃ (p : Fin 192) (s : State), s.policyFree p ∧ (s.port p).pd.rev3 = true) ∧
    (∃ (p : Fin 192) (s : State), s.nothingWaits p ∧ (s.port p).pd.rev3 = false) ∧
    (∃ (p : Fin 192) (s : State), s.nothingWaits p ∧ s.policyOn p = true ∧ (s.port p).rally.req = .none) ∧
    (∃ (p : Fin 192) (h : BitVec 32) (vs : List (BitVec 32)) (s : State), s.policyOn p = true ∧ (s.port p).rally.req = .cableIdentity ∧ (s.port p).rally.reqSop = .sopP ∧ vdmCmd h = vdmCmd (s.port p).rally.reqHdr ∧ vdmSvid h = vdmSvid (s.port p).rally.reqHdr ∧ (s.port p).pol.eprEntry = 0 ∧ (s.port p).pol.newOffer = false ∧ (s.port p).pol.offLimit = cableLimit (cableClass vs)) ∧
    (∃ (p : Fin 192) (h : BitVec 32) (v : BitVec 32) (s : State), s.nothingWaits p ∧ s.policyOn p = true ∧ (s.port p).rally.req = .notice ∧ (s.port p).rally.reqSop = .sop ∧ vdmCmd h = vdmCmd (s.port p).rally.reqHdr ∧ vdmSvid h = vdmSvid (s.port p).rally.reqHdr ∧ pledgeVoid (s.port p).rally v = false) ∧
    (∃ (p : Fin 192) (h : BitVec 32) (s : State), s.policyOn p = true ∧ (s.port p).rally.req = .notice ∧ (s.port p).rally.reqSop = .sop ∧ vdmCmd h = vdmCmd (s.port p).rally.reqHdr ∧ vdmSvid h = vdmSvid (s.port p).rally.reqHdr ∧ (s.port p).rally.busyN = 0) ∧
    (∃ (p : Fin 192) (s : State), s.offers5V p ∧ s.policyOn p = true ∧ (s.port p).rally.req = .curtail ∧ (s.port p).pol.flight = none ∧ s.rallyOn p = true) ∧
    (∃ (p : Fin 192) (s : State), s.policyFree p ∧ (s.port p).pol.state = .ready ∧ (s.port p).pol.eprEntry = 0 ∧ (s.port p).pol.expect = .none ∧ (s.port p).rally.busyReq = .notice ∧ (s.port p).rally.req = .none) ∧
    (∃ (p : Fin 192) (s : State), s.policyFree p ∧ (s.port p).pol.discRun = true ∧ (s.port p).pol.state = .ready ∧ (s.port p).path.vconn ≠ 0 ∧ (s.port p).rally.req = .none ∧ (s.port p).pol.expect = .none ∧ (s.port p).pol.discTries < s.param 0x7001) ∧
    (∃ (p : Fin 192) (s : State), s.offers5V p ∧ s.policyOn p = true ∧ (s.port p).pol.discRun = true ∧ (s.port p).pol.state = .ready ∧ (s.port p).rally.req = .none ∧ (s.port p).pol.flight = none ∧ s.param 0x7001 ≤ (s.port p).pol.discTries) ∧
    (∃ (p : Fin 192) (m : TxMsg) (s : State), (s.port p).pol.flight = some m ∧ m.expect = .vdm ∧ m.kind = .vdm ∧ (s.port p).rally.req = .cableIdentity ∧ (s.port p).pol.discRun = true ∧ (s.port p).pol.newOffer = false) ∧
    (∃ (p : Fin 192) (h : BitVec 32) (s : State), s.offers5V p ∧ s.policyOn p = true ∧ vdmSvid h = rallySvid ∧ (s.port p).rally.active = true ∧ (s.port p).rally.attn = true ∧ s.rallyOn p = true) ∧
    (∃ (p : Fin 192) (s : State), s.policyFree p ∧ (s.port p).pol.state = .ready ∧ (s.port p).rally.active = true ∧ (s.port p).rally.req = .none ∧ (s.port p).rally.busyReq = .none ∧ s.rallyOn p = true ∧ s.noticeMay p = true ∧ (s.port p).pol.eprEntry = 0 ∧ (s.port p).pol.expect = .none ∧ ((s.port p).rally.noticeDue = true ∨ ∀ t, (s.port p).rally.noticeAt = some t → t + secCycles (s.param 0x9006) ≤ s.aon)) ∧
    (∃ (p : Fin 192) (s : State), s.policyOn p = true ∧ (s.port p).rally.active = true ∧ s.noticeMay p = false) ∧
    (∃ (p : Fin 192) (t : Nat) (s : State), s.policyOn p = true ∧ (s.port p).rally.noticeDue = false ∧ (s.port p).rally.noticeAt = some t ∧ s.aon < t + secCycles (s.param 0x9006)) ∧
    (∃ (p : Fin 192) (t : Nat) (s : State), (s.port p).rally.curtail = some t ∧ (s.port p).rally.curtConf = false ∧ 8 ≤ (s.port p).sb.curRun) ∧
    (∃ (p : Fin 192) (t : Nat) (s : State), s.offers5V p ∧ (s.port p).rally.curtail = some t ∧ (s.port p).rally.curtConf = false ∧ (s.port p).rally.owed ≠ .curtail ∧ (s.port p).rally.req ≠ .curtail) ∧
    (∃ (p : Fin 192) (t : Nat) (s : State), (s.port p).rally.curtail = some t ∧ (s.port p).rally.curtHold ≠ 0 ∧ (s.port p).rally.curtAt + secCycles (60 * (s.port p).rally.curtHold) ≤ s.aon ∧ (s.port p).sb.decided = none ∧ (s.port p).rally.preAlloc ≤ (s.port p).sb.alloc) ∧
    (∃ (p : Fin 192) (t : Nat) (s : State), (s.port p).rally.curtail = some t ∧ (s.port p).rally.curtHold ≠ 0 ∧ (s.port p).rally.curtAt + secCycles (60 * (s.port p).rally.curtHold) ≤ s.aon ∧ (s.port p).sb.alloc < (s.port p).rally.preAlloc) ∧
    (∃ (p : Fin 192) (s : State), (s.port p).rally.curtHold = 0) :=
  ⟨⟨191, 1#32, wB.wOn 191, by unfold State.policyFree; decide +kernel, by decide +kernel⟩,
   ⟨191, 0, wB.wOn 191, by unfold State.policyFree; decide +kernel, by decide +kernel⟩,
   ⟨191, (wB.wOn 191).modPd 191 fun z => { z with rev3 := true }, by unfold State.policyFree; decide +kernel, by decide +kernel⟩,
   ⟨191, (wB.modPd 191 fun z => { z with rev3 := false }).wCalm 191, by unfold State.nothingWaits; decide +kernel, by decide +kernel⟩,
   ⟨191, ((wB.wOn 191).modRally 191 fun z => { z with req := .none }).wCalm 191, by unfold State.nothingWaits; decide +kernel, by decide +kernel⟩,
   ⟨191, 0, [], (((((wB.wOn 191).modRally 191 fun z => { z with req := .cableIdentity }).modRally 191 fun z => { z with reqSop := .sopP }).modPol 191 fun z => { z with eprEntry := 0 }).modPol 191 fun z => { z with newOffer := false }).modPol 191 fun z => { z with offLimit := cableLimit (cableClass ([])) }, by decide +kernel⟩,
   ⟨191, 0, 0, (((wB.wOn 191).modRally 191 fun z => { z with req := .notice }).modRally 191 fun z => { z with reqSop := .sop }).wCalm 191, by unfold State.nothingWaits; decide +kernel, by decide +kernel⟩,
   ⟨191, 0, (((wB.wOn 191).modRally 191 fun z => { z with req := .notice }).modRally 191 fun z => { z with reqSop := .sop }).modRally 191 fun z => { z with busyN := 0 }, by decide +kernel⟩,
   ⟨191, ((wB.wOn 191).modRally 191 fun z => { z with req := .curtail }).modPol 191 fun z => { z with flight := none }, by unfold State.offers5V; decide +kernel, by decide +kernel⟩,
   ⟨191, (((((wB.wOn 191).modPol 191 fun z => { z with state := .ready }).modPol 191 fun z => { z with eprEntry := 0 }).modPol 191 fun z => { z with expect := .none }).modRally 191 fun z => { z with busyReq := .notice }).modRally 191 fun z => { z with req := .none }, by unfold State.policyFree; decide +kernel, by decide +kernel⟩,
   ⟨191, (((((wB.wOn 191).modPol 191 fun z => { z with discRun := true }).modPol 191 fun z => { z with state := .ready }).modPath 191 fun z => { z with vconn := 1 }).modRally 191 fun z => { z with req := .none }).modPol 191 fun z => { z with expect := .none }, by unfold State.policyFree; decide +kernel, by decide +kernel⟩,
   ⟨191, (((((wB.wOn 191).modPol 191 fun z => { z with discRun := true }).modPol 191 fun z => { z with state := .ready }).modRally 191 fun z => { z with req := .none }).modPol 191 fun z => { z with flight := none }).modPol 191 fun z => { z with discTries := wB.param 0x7001 }, by unfold State.offers5V; decide +kernel, by decide +kernel⟩,
   ⟨191, ctlMsg .vdm .vdm, (((wB.modPol 191 fun z => { z with flight := some (ctlMsg .vdm .vdm) }).modRally 191 fun z => { z with req := .cableIdentity }).modPol 191 fun z => { z with discRun := true }).modPol 191 fun z => { z with newOffer := false }, by decide +kernel⟩,
   ⟨191, BitVec.ofNat 32 (rallySvid * 65536), ((wB.wOn 191).modRally 191 fun z => { z with active := true }).modRally 191 fun z => { z with attn := true }, by unfold State.offers5V; decide +kernel, by decide +kernel⟩,
   ⟨191, (((((((wB.wOn 191).modPol 191 fun z => { z with state := .ready }).modRally 191 fun z => { z with active := true }).modRally 191 fun z => { z with req := .none }).modRally 191 fun z => { z with busyReq := .none }).modPol 191 fun z => { z with eprEntry := 0 }).modPol 191 fun z => { z with expect := .none }).modRally 191 fun z => { z with noticeDue := true }, by unfold State.policyFree; decide +kernel, by decide +kernel⟩,
   ⟨191, ((wB.wOn 191).modRally 191 fun z => { z with active := true }).modRally 191 fun y => { y with noticeAt := some 500000000 }, by decide +kernel⟩,
   ⟨191, 500000000, (((wB.wOn 191).modRally 191 fun z => { z with noticeDue := false }).modRally 191 fun z => { z with noticeAt := some 500000000 }), by decide +kernel⟩,
   ⟨191, 0, ((wB.modRally 191 fun z => { z with curtail := some 0 }).modRally 191 fun z => { z with curtConf := false }).modSb 191 fun z => { z with curRun := 8 }, by decide +kernel⟩,
   ⟨191, 0, (wB.modRally 191 fun z => { z with curtail := some 0 }).modRally 191 fun z => { z with curtConf := false }, by unfold State.offers5V; decide +kernel, by decide +kernel⟩,
   ⟨191, 0, (((wB.modRally 191 fun z => { z with curtail := some 0 }).modRally 191 fun z => { z with curtHold := 1 }).modSb 191 fun z => { z with decided := none }).modSb 191 fun z => { z with alloc := (wB.port 191).rally.preAlloc }, by decide +kernel⟩,
   ⟨191, 0, ((wB.modRally 191 fun z => { z with curtail := some 0 }).modRally 191 fun z => { z with curtHold := 1 }).modRally 191 fun z => { z with preAlloc := (wB.port 191).sb.alloc + 1 }, by decide +kernel⟩,
   ⟨191, wB.modRally 191 fun z => { z with curtHold := 0 }, by decide +kernel⟩⟩

theorem witness_StepActionsAct :
    (∃ (p : Fin 192) (s : State), s.atStep p 0 0) ∧
    (∃ (p : Fin 192) (s : State), s.atStep p 1 0) ∧
    (∃ (p : Fin 192) (s : State), s.atStep p 2 1) ∧
    (∃ (p : Fin 192) (s : State), s.atStep p 2 0) ∧
    (∃ (p : Fin 192) (a : Nat) (v : Nat) (s : State), s.atStep p 3 a ∧ (s.port p).path.table ≠ 1 ∧ (s.port p).path.table ≠ 2 ∧ (s.port p).path.table ≠ 17 ∧ (s.port p).path.table ≠ 18 ∧ (a = 0 ∧ v = (s.port p).path.post.mv ∨ a = 1 ∧ v = seThr (s.stepEntryOf p) * 20 ∨ a = 2 ∧ v = 5000)) ∧
    (∃ (p : Fin 192) (s : State), s.atStep p 3 3) ∧
    (∃ (p : Fin 192) (a : Nat) (s : State), s.atStep p 3 a) ∧
    (∃ (p : Fin 192) (a : Nat) (l : RpLevel) (s : State), s.atStep p 4 a ∧ (a = 1 ∧ l = .dflt ∨ a = 2 ∧ l = .a15 ∨ a = 3 ∧ l = .a30 ∨ a = 4 ∧ l = (s.port p).path.post.rp)) ∧
    (∃ (p : Fin 192) (a : Nat) (s : State), s.atStep p 4 a ∧ a ≠ 0) ∧
    (∃ (p : Fin 192) (s : State), s.atStep p 4 0 ∧ (s.port p).path.table = 4 ∧ (s.port p).cc.state = .attached) ∧
    (∃ (p : Fin 192) (s : State), s.atStep p 5 0) ∧
    (∃ (p : Fin 192) (s : State), s.atStep p 5 3 ∧ (s.port p).cc.partner = .sinkPoweredCable ∧ (s.port p).path.vcLocked = false ∧ (s.port p).path.vconn ≠ vconnLine (s.port p).cc ∧ s.vcAdmits (tileOf p) = true) ∧
    (∃ (p : Fin 192) (r : Bool) (s : State), s.atStep p 5 3 ∧ (s.port p).path.vconn = 0 ∧ (r = true ∨ (s.port p).cc.partner ≠ .sinkPoweredCable ∨ s.vcAdmits (tileOf p) = false)) ∧
    (∃ (p : Fin 192) (a : Nat) (g : Signal) (s : State), s.atStep p 6 a ∧ signalOf a = some g) ∧
    (∃ (p : Fin 192) (g : Signal) (s : State), (s.port p).path.run = true ∧ (s.port p).path.waiting = false ∧ s.tileDeaf p = false ∧ seAct (s.stepEntryOf p) = 6 ∧ seWait (s.stepEntryOf p) = 0 ∧ seEnd (s.stepEntryOf p) = true ∧ signalOf (seArg (s.stepEntryOf p)) = some g) ∧
    (∃ (p : Fin 192) (k : Nat) (m : Nat) (i : Nat) (s : State), s.atStep p 7 (4 * k + m) ∧ (m = 0 ∧ (s.port p).path.hardLimit = none ∧ i = (s.port p).path.post.ma ∨ m = 1 ∧ i = seThr (s.stepEntryOf p) * 5)) ∧
    (∃ (p : Fin 192) (k : Nat) (s : State), s.atStep p 7 (4 * k + 2)) ∧
    (∃ (p : Fin 192) (k : Nat) (h : Nat) (s : State), s.atStep p 7 (4 * k + 3) ∧ (s.port p).path.hardLimit = some h) ∧
    (∃ (p : Fin 192) (s : State), s.atStep p 8 0) ∧
    (∃ (p : Fin 192) (s : State), s.atStep p 8 2) :=
  ⟨⟨191, wB.wStep 191 0 0 0 0 0, by unfold State.atStep; decide +kernel⟩,
   ⟨191, wB.wStep 191 1 0 0 0 0, by unfold State.atStep; decide +kernel⟩,
   ⟨191, wB.wStep 191 2 1 0 0 0, by unfold State.atStep; decide +kernel⟩,
   ⟨191, wB.wStep 191 2 0 0 0 0, by unfold State.atStep; decide +kernel⟩,
   ⟨191, 0, 50000, (wB.modPath 191 fun y => { y with post := ⟨.fixed, 50000, 3000, .fixed, .dflt, 3300⟩ }).wStep 191 3 0 0 0 0, by unfold State.atStep; decide +kernel, by decide +kernel⟩,
   ⟨191, wB.wStep 191 3 3 0 0 0, by unfold State.atStep; decide +kernel⟩,
   ⟨191, 0, wB.wStep 191 3 0 0 0 0, by unfold State.atStep; decide +kernel⟩,
   ⟨191, 3, .a30, wB.wStep 191 4 3 0 0 0, by unfold State.atStep; decide +kernel, by decide +kernel⟩,
   ⟨191, 1, wB.wStep 191 4 1 0 0 0, by unfold State.atStep; decide +kernel, by decide +kernel⟩,
   ⟨191, ((wB.wStep 191 4 0 0 0 0).modPath 191 fun z => { z with table := 4 }).modCc 191 fun z => { z with state := .attached }, by unfold State.atStep; decide +kernel, by decide +kernel⟩,
   ⟨191, wB.wStep 191 5 0 0 0 0, by unfold State.atStep; decide +kernel⟩,
   ⟨191, (((allPorts.foldl (fun s q => s.modPath q fun y => { y with vconn := 0 }) (wB)).wStep 191 5 3 0 0 0).modCc 191 fun z => { z with partner := .sinkPoweredCable }).modPath 191 fun z => { z with vcLocked := false }, by unfold State.atStep; decide +kernel, by decide +kernel⟩,
   ⟨191, false, (wB.wStep 191 5 3 0 0 0).modPath 191 fun z => { z with vconn := 0 }, by unfold State.atStep; decide +kernel, by decide +kernel⟩,
   ⟨191, 10, .rpSet, wB.wStep 191 6 10 0 0 0, by unfold State.atStep; decide +kernel, by decide +kernel⟩,
   ⟨191, .rpSet, ((wB.wStep 191 6 10 0 0 1).modPath 191 fun z => { z with run := true }).modPath 191 fun z => { z with waiting := false }, by decide +kernel⟩,
   ⟨191, 0, 0, 3000, (wB.modPath 191 fun y => { y with post := ⟨.fixed, 50000, 3000, .fixed, .dflt, 3300⟩ }).wStep 191 7 (4 * 0 + 0) 0 0 0, by unfold State.atStep; decide +kernel, by decide +kernel⟩,
   ⟨191, 0, wB.wStep 191 7 (4 * 0 + 2) 0 0 0, by unfold State.atStep; decide +kernel⟩,
   ⟨191, 0, 0, (wB.wStep 191 7 (4 * 0 + 3) 0 0 0).modPath 191 fun z => { z with hardLimit := some 0 }, by unfold State.atStep; decide +kernel, by decide +kernel⟩,
   ⟨191, wB.wStep 191 8 0 0 0 0, by unfold State.atStep; decide +kernel⟩,
   ⟨191, wB.wStep 191 8 2 0 0 0, by unfold State.atStep; decide +kernel⟩⟩

theorem witness_InterlockGovernsClosing :
    (∃ (p : Fin 192) (vb : Nat) (s : State), s.atStep p 1 1 ∧ (s.port p).path.gate = false ∧ vb ≤ 800 ∧ (s.port p).path.target = 5000 ∧ (s.port p).retry.lock = .none) ∧
    (∃ (p : Fin 192) (vb : Nat) (v0 : Bool) (r : Bool) (s : State) (t : State), exec (.stSetGate p vb v0 r) s = .next t ∧ (s.port p).path.gate = false ∧ (t.port p).path.gate = true) ∧
    (∃ (p : Fin 192) (vb : Nat) (v0 : Bool) (s : State), s.atStep p 1 1 ∧ (s.port p).path.gate = false ∧ seFault (s.stepEntryOf p) = true ∧ (800 < vb ∨ v0 = false ∨ (s.port p).path.target ≠ 5000 ∨ (s.port p).retry.lock ≠ .none)) ∧
    (∃ (p : Fin 192) (vb : Nat) (v0 : Bool) (s : State), s.atStep p 1 1 ∧ (s.port p).path.gate = false ∧ seFault (s.stepEntryOf p) = false ∧ (800 < vb ∨ v0 = false ∨ (s.port p).path.target ≠ 5000 ∨ (s.port p).retry.lock ≠ .none)) ∧
    (∃ (p : Fin 192) (q : Fin 192) (vb : Nat) (v0 : Bool) (r : Bool) (s : State) (t : State), exec (.stSetGate p vb v0 r) s = .next t ∧ q ≠ p) ∧
    (∃ (p : Fin 192) (r : Bool) (s : State), s.atStep p 1 1 ∧ (r = true ∨ (s.port p).path.gate = true)) :=
  ⟨⟨191, 800, (((wB.wStep 191 1 1 0 0 0).modPath 191 fun z => { z with gate := false }).modPath 191 fun z => { z with target := 5000 }).modRetry 191 fun z => { z with lock := .none }, by unfold State.atStep; decide +kernel, by decide +kernel⟩,
   ⟨191, 800, true, false, ((State.wStep wB 191 1 1 0 0 0).modPath 191 fun y => { y with gate := false, target := 5000, slewTo := none }).modRetry 191 fun y => { y with lock := .none }, wNext (exec (.stSetGate 191 800 true false) (((State.wStep wB 191 1 1 0 0 0).modPath 191 fun y => { y with gate := false, target := 5000, slewTo := none }).modRetry 191 fun y => { y with lock := .none })), rfl, by decide +kernel⟩,
   ⟨191, 801, false, State.wStep ((wB.wStep 191 1 1 0 0 0).modPath 191 fun z => { z with gate := false }) 191 1 1 0 0 2, by unfold State.atStep; decide +kernel, by decide +kernel⟩,
   ⟨191, 801, false, (wB.wStep 191 1 1 0 0 0).modPath 191 fun z => { z with gate := false }, by unfold State.atStep; decide +kernel, by decide +kernel⟩,
   ⟨191, 0, 0, false, false, wB, wNext (exec (.stSetGate 191 0 false false) wB), rfl, by decide +kernel⟩,
   ⟨191, true, wB.wStep 191 1 1 0 0 0, by unfold State.atStep; decide +kernel, by decide +kernel⟩⟩

theorem witness_WaitsAndPosts :
    (∃ (p : Fin 192) (w : WaitView) (s : State), s.stepWaits p ∧ s.waitMet p (s.stepEntryOf p) w = true ∧ seWait (s.stepEntryOf p) ≠ 1 ∧ seEnd (s.stepEntryOf p) = false) ∧
    (∃ (p : Fin 192) (w : WaitView) (s : State), s.stepWaits p ∧ s.waitMet p (s.stepEntryOf p) w = false) ∧
    (∃ (e : BitVec 64), seWait e = 2) ∧
    (∃ (e : BitVec 64), seWait e = 3) ∧
    (∃ (e : BitVec 64), seWait e = 4) ∧
    (∃ (e : BitVec 64), seWait e = 8) ∧
    (∃ (p : Fin 192) (w : WaitView) (s : State), s.stepWaits p ∧ seWait (s.stepEntryOf p) = 1 ∧ seThr (s.stepEntryOf p) = 40 ∧ (w.vb[0]?).getD 0 < 800 ∧ w.vs0 = true ∧ (s.port p).path.gate = false ∧ seEnd (s.stepEntryOf p) = false) ∧
    (∃ (p : Fin 192) (w : WaitView) (s : State), s.stepWaits p ∧ s.waitMet p (s.stepEntryOf p) w = true ∧ seWait (s.stepEntryOf p) ≠ 1 ∧ seEnd (s.stepEntryOf p) = true) ∧
    (∃ (p : Fin 192) (s : State), s.stepWaits p ∧ seWait (s.stepEntryOf p) = 5 ∧ seEnd (s.stepEntryOf p) = false) ∧
    (∃ (p : Fin 192) (s : State), s.stepWaits p ∧ seWait (s.stepEntryOf p) ≠ 5 ∧ seFault (s.stepEntryOf p) = true) ∧
    (∃ (p : Fin 192) (s : State), s.stepWaits p ∧ seWait (s.stepEntryOf p) ≠ 5 ∧ seFault (s.stepEntryOf p) = false ∧ seEnd (s.stepEntryOf p) = false) ∧
    (∃ (p : Fin 192) (r : Post) (s : State), s.tileDeaf p = false ∧ (s.port p).path.safeHeld = false ∧ 3300 ≤ r.mv ∧ r.mv ≤ 50000 ∧ (s.port p).path.run = false ∧ (s.port p).path.queued = none ∧ (s.port p).cc.noTable (s.tableFor p r.purpose) = false) ∧
    (∃ (p : Fin 192) (r : Post) (s : State), s.tileDeaf p = false ∧ (s.port p).path.safeHeld = false ∧ 3300 ≤ r.mv ∧ r.mv ≤ 50000 ∧ (s.port p).path.run = true ∧ (s.port p).path.queued = none ∧ (s.port p).cc.noTable (s.tableFor p r.purpose) = false ∧ r.purpose ≠ .hardReset ∧ r.purpose ≠ .errRec ∧ r.purpose ≠ .disc) ∧
    (∃ (p : Fin 192) (r : Post) (s : State), s.tileDeaf p = false ∧ (s.port p).path.safeHeld = false ∧ 3300 ≤ r.mv ∧ r.mv ≤ 50000 ∧ (s.port p).cc.noTable (s.tableFor p r.purpose) = false ∧ (r.purpose = .hardReset ∨ r.purpose = .errRec ∨ r.purpose = .disc)) ∧
    (∃ (p : Fin 192) (r : Post) (s : State), s.tileDeaf p = false ∧ ((s.port p).path.safeHeld = true ∧ r.purpose ≠ .attach ∧ r.purpose ≠ .errRec ∧ r.purpose ≠ .probe ∨ r.mv < 3300 ∨ 50000 < r.mv ∨ (s.port p).cc.noTable (s.tableFor p r.purpose) = true)) ∧
    (∃ (p : Fin 192) (s : State), s.tileDeaf p = true) ∧
    (∃ (c : Cc), c.state = .bootSink) ∧
    (∃ (c : Cc) (n : Nat), c.state = .attached ∧ (c.partner = .debugAcc ∨ c.partner = .audioAcc) ∧ n ≠ 4 ∧ n ≠ 20) ∧
    (∃ (c : Cc), c.state = .attached ∧ (c.partner = .sink ∨ c.partner = .sinkPoweredCable)) ∧
    (∃ (p : Fin 192) (r : Post) (s : State), (s.port p).path.queued = some r ∧ s.tileDeaf p = false ∧ (s.port p).path.safeHeld = false ∧ 3300 ≤ r.mv ∧ r.mv ≤ 50000 ∧ (s.port p).path.run = false ∧ (s.port p).cc.noTable (s.tableFor p r.purpose) = false) :=
  ⟨⟨191, ⟨List.replicate 8 5000, true, 0, 0⟩, State.wWaits (wB.wWaits 191 1 0) 191 8 0, by unfold State.stepWaits; decide +kernel, by decide +kernel⟩,
   ⟨191, ⟨List.replicate 8 5000, true, 0, 0⟩, wB.wWaits 191 1 0, by unfold State.stepWaits; decide +kernel, by decide +kernel⟩,
   ⟨stepEntry 0 0 2 0 1 2 3 0, by decide +kernel⟩,
   ⟨stepEntry 0 0 3 0 1 2 3 0, by decide +kernel⟩,
   ⟨stepEntry 0 0 4 0 1 2 3 0, by decide +kernel⟩,
   ⟨stepEntry 0 0 8 0 1 2 3 0, by decide +kernel⟩,
   ⟨191, ⟨[100], true, 0, 0⟩, (State.wStep ((wB.wWaits 191 1 0).modPath 191 fun z => { z with gate := false }) 191 0 0 1 40 0).modPath 191 fun y => { y with waiting := true }, by unfold State.stepWaits; decide +kernel, by decide +kernel⟩,
   ⟨191, ⟨List.replicate 8 5000, true, 0, 0⟩, State.wWaits (wB.wWaits 191 1 0) 191 8 1, by unfold State.stepWaits; decide +kernel, by decide +kernel⟩,
   ⟨191, State.wWaits (wB.wWaits 191 1 0) 191 5 0, by unfold State.stepWaits; decide +kernel, by decide +kernel⟩,
   ⟨191, State.wWaits (wB.wWaits 191 1 0) 191 1 2, by unfold State.stepWaits; decide +kernel, by decide +kernel⟩,
   ⟨191, wB.wWaits 191 1 0, by unfold State.stepWaits; decide +kernel, by decide +kernel⟩,
   ⟨191, ⟨.fixed, 50000, 3000, .fixed, .dflt, 3300⟩, ((wB.modPath 191 fun z => { z with safeHeld := false }).modPath 191 fun z => { z with run := false }).modPath 191 fun z => { z with queued := none }, by decide +kernel⟩,
   ⟨191, ⟨.fixed, 50000, 3000, .fixed, .dflt, 3300⟩, ((wB.modPath 191 fun z => { z with safeHeld := false }).modPath 191 fun z => { z with run := true }).modPath 191 fun z => { z with queued := none }, by decide +kernel⟩,
   ⟨191, ⟨.hardReset, 3300, 3000, .fixed, .dflt, 3300⟩, wB.modPath 191 fun z => { z with safeHeld := false }, by decide +kernel⟩,
   ⟨191, default, wB, by decide +kernel⟩,
   ⟨191, wB.modTile 7 fun y => { y with safe := true }, by decide +kernel⟩,
   ⟨{ Cc.reset false with state := .bootSink }, by decide +kernel⟩,
   ⟨{ Cc.reset false with state := .attached, partner := .debugAcc }, 0, by decide +kernel⟩,
   ⟨{ Cc.reset false with state := .attached, partner := .sink }, by decide +kernel⟩,
   ⟨191, ⟨.fixed, 50000, 3000, .fixed, .dflt, 3300⟩, ((wB.modPath 191 fun z => { z with queued := some (⟨.fixed, 50000, 3000, .fixed, .dflt, 3300⟩) }).modPath 191 fun z => { z with safeHeld := false }).modPath 191 fun z => { z with run := false }, by decide +kernel⟩⟩

theorem witness_ProtectionsTrip :
    (∃ (p : Fin 192) (s : State), s.pwr.dev ≠ .deep ∧ (s.port p).path.regulate = false ∧ (s.port p).path.slewTo = none) ∧
    (∃ (s : State), s.pwr.dev = .deep) ∧
    (∃ (p : Fin 192) (ma : Int) (s : State), s.pwr.dev ≠ .deep ∧ (s.port p).path.regulate = true ∧ (s.port p).path.slewTo = none ∧ ((s.port p).path.ilim : Int) < ma) ∧
    (∃ (p : Fin 192) (v : Nat) (s : State), s.pwr.dev ≠ .deep ∧ (s.port p).path.regulate = false ∧ (s.port p).path.fold = 0 ∧ (s.port p).path.slewTo = some v ∧ (s.port p).path.target < v) ∧
    (∃ (p : Fin 192) (k : Nat) (s : State), s.breakerHit p = some k ∧ (s.port p).mayTrip = true) ∧
    (∃ (p : Fin 192) (mv : Nat) (s : State), (s.port p).path.window = .steady ∧ (s.port p).path.run = false ∧ ((s.port p).path.regulate = false ∨ (s.port p).path.fold = 0) ∧ (s.port p).mayTrip = true ∧ mv < (s.port p).path.winLo) ∧
    (∃ (p : Fin 192) (mv : Nat) (s : State), ((s.port p).path.run = true ∨ (s.port p).path.winLo ≤ mv)) ∧
    (∃ (p : Fin 192) (ma : Nat) (s : State), (s.port p).mayTrip = true ∧ 500 * (s.pathCfg p).1 * 95 ≤ ma * 100) ∧
    (∃ (p : Fin 192) (mv : Nat) (s : State), (s.port p).mayTrip = true ∧ (s.port p).path.gate = true ∧ (s.port p).path.window ≠ .off ∧ (s.port p).path.winHi * 99 ≤ mv * 100) ∧
    (∃ (p : Fin 192) (s : State), (s.port p).path.gate = false) ∧
    (∃ (p : Fin 192) (s : State), (s.port p).path.window = .off) ∧
    (∃ (p : Fin 192) (ma : Nat) (s : State), (s.port p).mayTrip = true ∧ 200 ≤ ma) ∧
    (∃ (p : Fin 192) (ma : Nat) (s : State), (s.port p).path.gate = false ∧ (s.port p).path.disTrip = true ∧ (s.port p).cc.state ≠ .bootSink ∧ 200 ≤ ma) ∧
    (∃ (p : Fin 192) (q : Fin 192) (ma : Nat) (l : List Tripping) (s : State) (t : State), exec (.fastTrip p ma l) s = .next t ∧ q ≠ p) ∧
    (∃ (p : Fin 192) (ma : Nat) (s : State), (s.port p).path.vconn ≠ 0 ∧ 250 < ma) :=
  ⟨⟨191, (wB.modPath 191 fun z => { z with regulate := false }).modPath 191 fun z => { z with slewTo := none }, by decide +kernel⟩,
   ⟨wB.modPwr fun z => { z with dev := .deep }, by decide +kernel⟩,
   ⟨191, 3001, ((wB.modPath 191 fun y => { y with ilim := 3000 }).modPath 191 fun z => { z with regulate := true }).modPath 191 fun z => { z with slewTo := none }, by decide +kernel⟩,
   ⟨191, 9000, (((wB.modPath 191 fun z => { z with regulate := false }).modPath 191 fun z => { z with fold := 0 }).modPath 191 fun z => { z with slewTo := some 9000 }).modPath 191 fun y => { y with target := 5000 }, by decide +kernel⟩,
   ⟨191, 7, wB.modPath 191 fun y => { y with acc := List.replicate 7 0 ++ [100000000] }, by decide +kernel⟩,
   ⟨191, 0, (((wB.modPath 191 fun z => { z with window := .steady }).modPath 191 fun z => { z with run := false }).modPath 191 fun z => { z with regulate := false }).modPath 191 fun z => { z with winLo := 0 + 1 }, by decide +kernel⟩,
   ⟨191, 0, wB.modPath 191 fun z => { z with run := true }, by decide +kernel⟩,
   ⟨191, 200000, wB, by decide +kernel⟩,
   ⟨191, 200000, (wB.modPath 191 fun y => { y with window := .steady }).modPath 191 fun z => { z with gate := true }, by decide +kernel⟩,
   ⟨191, wB.modPath 191 fun z => { z with gate := false }, by decide +kernel⟩,
   ⟨191, wB.modPath 191 fun z => { z with window := .off }, by decide +kernel⟩,
   ⟨191, 500, wB, by decide +kernel⟩,
   ⟨191, 500, (wB.modPath 191 fun z => { z with gate := false }).modPath 191 fun z => { z with disTrip := true }, by decide +kernel⟩,
   ⟨191, 0, 0, [], wB, wNext (exec (.fastTrip 191 0 ([])) wB), rfl, by decide +kernel⟩,
   ⟨191, 500, wB.modPath 191 fun z => { z with vconn := 1 }, by decide +kernel⟩⟩

theorem witness_RetryAndStuckSwitch :
    (∃ (p : Fin 192) (s : State), (s.port p).path.disTrip = true ∧ (s.port p).path.detachMid = none) ∧
    (∃ (p : Fin 192) (d : Nat) (s : State), (s.port p).retry.due = some d ∧ d ≤ s.aon ∧ (s.port p).cc.state = .attached ∧ (s.port p).cc.partner.isSink = true ∧ (s.port p).retry.lock = .none ∧ s.tileDeaf p = false ∧ (s.port p).path.run = false ∧ (s.port p).path.queued = none ∧ (s.tileCfg (tileOf p)).stOvr = 0#16) ∧
    (∃ (p : Fin 192) (d : Nat) (s : State), (s.port p).retry.due = some d ∧ s.aon < d) ∧
    (∃ (p : Fin 192) (s : State), (s.port p).retry.qualified = true) ∧
    (∃ (p : Fin 192) (s : State), (s.port p).retry.hold = true ∧ (s.port p).cc.state ≠ .attached) ∧
    (∃ (p : Fin 192) (s : State), (s.port p).cc.state = .attached ∧ (s.port p).cc.attachPend = false ∧ (s.port p).retry.f < 15) ∧
    (∃ (p : Fin 192) (s : State), (s.port p).cc.attachPend = false ∧ (s.port p).retry.f = 15 ∧ (s.port p).retry.lock = .none) ∧
    (∃ (p : Fin 192) (s : State), (s.port p).cc.state = .attached ∧ (s.port p).cc.attachPend = false) ∧
    (∃ (p : Fin 192) (s : State), (s.port p).path.gate = false ∧ (s.port p).cc.state ≠ .bootSink ∧ (s.port p).cc.state ≠ .bootRd ∧ s.pwr.dev = .deep) ∧
    (∃ (p : Fin 192) (s : State), (s.port p).path.gate = true) ∧
    (∃ (p : Fin 192) (mv : Nat) (s : State), (s.port p).path.gate = false ∧ (s.port p).path.dis = true ∧ 800 < mv ∧ s.pwr.dev ≠ .deep ∧ (s.port p).cc.state ≠ .bootSink ∧ (s.port p).retry.lock ≠ .stuckSwitch) ∧
    (∃ (p : Fin 192) (s : State), (s.port p).path.stuckDis = true) ∧
    (∃ (p : Fin 192) (m : Bool) (s : State), (s.port p).path.detachMid = some m ∧ (s.port p).pol.enabled = true ∧ (s.port p).sb.state ≠ .disabled) :=
  ⟨⟨191, (wB.modPath 191 fun z => { z with disTrip := true }).modPath 191 fun z => { z with detachMid := none }, by decide +kernel⟩,
   ⟨191, 0, (((({ (wB.wOn 191).modRetry 191 fun z => { z with due := some 0 } with aon := 0 }).modCc 191 fun z => { z with state := .attached }).modRetry 191 fun z => { z with lock := .none }).modPath 191 fun z => { z with run := false }).modPath 191 fun z => { z with queued := none }, by decide +kernel⟩,
   ⟨191, 600000000, wB.modRetry 191 fun z => { z with due := some 600000000 }, by decide +kernel⟩,
   ⟨191, wB.modRetry 191 fun z => { z with qualified := true }, by decide +kernel⟩,
   ⟨191, (wB.modCc 191 fun y => { y with state := .watch }).modRetry 191 fun z => { z with hold := true }, by decide +kernel⟩,
   ⟨191, (wB.modCc 191 fun z => { z with state := .attached }).modCc 191 fun z => { z with attachPend := false }, by decide +kernel⟩,
   ⟨191, ((wB.modCc 191 fun z => { z with attachPend := false }).modRetry 191 fun z => { z with f := 15 }).modRetry 191 fun z => { z with lock := .none }, by decide +kernel⟩,
   ⟨191, (wB.modCc 191 fun z => { z with state := .attached }).modCc 191 fun z => { z with attachPend := false }, by decide +kernel⟩,
   ⟨191, (wB.modPath 191 fun z => { z with gate := false }).modPwr fun z => { z with dev := .deep }, by decide +kernel⟩,
   ⟨191, wB.modPath 191 fun z => { z with gate := true }, by decide +kernel⟩,
   ⟨191, 1000, (wB.modPath 191 fun z => { z with gate := false }).modPath 191 fun z => { z with dis := true }, by decide +kernel⟩,
   ⟨191, wB.modPath 191 fun z => { z with stuckDis := true }, by decide +kernel⟩,
   ⟨191, false, (wB.modPath 191 fun z => { z with detachMid := some false }).modPol 191 fun z => { z with enabled := true }, by decide +kernel⟩⟩

theorem witness_SignalsAtTheHub :
    (∃ (p : Fin 192) (s : State), (s.port p).pol.state ≠ .hardReset ∧ (s.port p).cc.state = .attached ∧ (s.port p).cc.partner = .sink ∧ (s.port p).cc.attachPend = false ∧ (s.port p).sb.state = .idle) ∧
    (∃ (p : Fin 192) (s : State), s.policyFree p ∧ (s.port p).pol.state = .transition) ∧
    (∃ (p : Fin 192) (s : State), (s.port p).pol.state ≠ .transition) ∧
    (∃ (p : Fin 192) (s : State), s.mayHardReset p ∧ (s.port p).pol.state = .transition) ∧
    (∃ (p : Fin 192) (s : State), (s.port p).pol.state = .detached ∧ (s.port p).cc.state = .detaching ∧ (s.port p).sb.disconnecting = false ∧ (s.port p).pol.enabled = true ∧ (s.port p).sb.state ≠ .disabled) ∧
    (∃ (p : Fin 192) (s : State), (s.port p).pol.state = .ready ∧ (s.port p).sb.disconnecting = true ∧ (s.port p).pol.enabled = true ∧ (s.port p).sb.state ≠ .disabled) ∧
    (∃ (p : Fin 192) (d : Nat) (s : State), (s.port p).sb.floorLim = false ∧ (s.port p).sb.decided = some d ∧ (s.port p).sb.step = 3) ∧
    (∃ (p : Fin 192) (d : Nat) (s : State), (s.port p).sb.floorLim = true ∧ (s.port p).sb.decided = some d) ∧
    (∃ (p : Fin 192) (s : State), s.policyFree p ∧ (s.port p).pol.state = .vconnSwap ∧ (s.port p).pol.swapTake = true) ∧
    (∃ (p : Fin 192) (s : State), s.mayHardReset p ∧ (s.port p).pol.state = .vconnSwap ∧ (s.port p).pol.swapTake = true) ∧
    (∃ (p : Fin 192) (s : State), (s.port p).pol.state = .vconnSwap ∧ (s.port p).pol.swapTake = false ∧ (s.port p).pol.eprEntry ≠ 2 ∧ (s.port p).pol.outq = [] ∧ (s.port p).pol.newOffer = false ∧ (s.port p).pol.cable ≠ .unknown) :=
  ⟨⟨191, (((wB.modCc 191 fun z => { z with state := .attached }).modCc 191 fun z => { z with partner := .sink }).modCc 191 fun z => { z with attachPend := false }).modSb 191 fun z => { z with state := .idle }, by decide +kernel⟩,
   ⟨191, (wB.wOn 191).modPol 191 fun z => { z with state := .transition }, by unfold State.policyFree; decide +kernel, by decide +kernel⟩,
   ⟨191, wB, by decide +kernel⟩,
   ⟨191, wB.modPol 191 fun z => { z with state := .transition }, by unfold State.mayHardReset; decide +kernel, by decide +kernel⟩,
   ⟨191, (((wB.modPol 191 fun z => { z with state := .detached }).modCc 191 fun z => { z with state := .detaching }).modSb 191 fun z => { z with disconnecting := false }).modPol 191 fun z => { z with enabled := true }, by decide +kernel⟩,
   ⟨191, ((wB.modPol 191 fun z => { z with state := .ready }).modSb 191 fun z => { z with disconnecting := true }).modPol 191 fun z => { z with enabled := true }, by decide +kernel⟩,
   ⟨191, 0, ((wB.modSb 191 fun z => { z with floorLim := false }).modSb 191 fun z => { z with decided := some 0 }).modSb 191 fun z => { z with step := 3 }, by decide +kernel⟩,
   ⟨191, 0, (wB.modSb 191 fun z => { z with floorLim := true }).modSb 191 fun z => { z with decided := some 0 }, by decide +kernel⟩,
   ⟨191, ((wB.wOn 191).modPol 191 fun z => { z with state := .vconnSwap }).modPol 191 fun z => { z with swapTake := true }, by unfold State.policyFree; decide +kernel, by decide +kernel⟩,
   ⟨191, (wB.modPol 191 fun z => { z with state := .vconnSwap }).modPol 191 fun z => { z with swapTake := true }, by unfold State.mayHardReset; decide +kernel, by decide +kernel⟩,
   ⟨191, ((((wB.modPol 191 fun z => { z with state := .vconnSwap }).modPol 191 fun z => { z with swapTake := false }).modPol 191 fun z => { z with outq := [] }).modPol 191 fun z => { z with newOffer := false }).modPol 191 fun z => { z with cable := .cable3A }, by decide +kernel⟩⟩

theorem witness_FeedsQualifyAndConnect :
    (∃ (s : State), s.board.changeover = none ∧ (s.feedA.state = .active ∨ s.feedB.state = .active)) ∧
    (∃ (mv : Nat) (s : State), s.feedUp = true ∧ s.feedA.state = .waitWindow ∧ s.feedA.ready = true ∧ s.board.seated = true ∧ s.feedB.state = .active ∧ s.feedA.use.uvq * 100 ≤ mv ∧ mv + 1000 ≤ s.feedA.use.ov * 100) ∧
    (∃ (mv : Nat) (s : State), s.feedUp = true ∧ s.feedA.state = .standby ∧ s.feedA.ready = true ∧ s.feedB.state = .active ∧ (mv < s.feedA.use.uvq * 100 ∨ s.feedA.use.ov * 100 < mv + 1000)) ∧
    (∃ (s : State), s.feedA.state = .active) ∧
    (∃ (s : State), s.feedUp = true ∧ s.feedA.state = .insertDelay ∧ s.feedSettled .fda = true ∧ s.feedB.state = .active ∧ s.feedA.use.ret ≠ 0) ∧
    (∃ (s : State), s.feedUp = true ∧ s.feedA.state = .insertDelay ∧ s.feedSettled .fda = true ∧ s.feedB.state = .standby ∧ s.board.changeover = none ∧ s.ref.safe = false) ∧
    (∃ (s : State), s.feedUp = true ∧ s.feedA.state = .insertDelay ∧ s.feedB.state = .insertDelay ∧ s.feedSettled .fda = true ∧ s.feedSettled .fdb = true ∧ s.board.changeover = none ∧ s.ref.safe = false) ∧
    (∃ (s : State), s.feedSettled .fda = false) ∧
    (∃ (s : State), s.feedUp = true ∧ s.feedB.state = .active ∧ s.feedA.state = .standby ∧ s.board.changeover = none ∧ s.ref.safe = false ∧ s.feedA.use.ret ≠ 0) ∧
    (∃ (mv : Nat) (s : State), s.feedUp = true ∧ s.feedB.state = .active ∧ s.feedA.state = .standby ∧ s.board.changeover = none ∧ s.ref.safe = false ∧ s.feedA.use.ret ≠ 0 ∧ s.feedB.use.ftmv < mv) ∧
    (∃ (vgs : Nat) (mv : Nat) (vbusc : Nat) (s : State), s.feedUp = true ∧ s.feedA.state = .inrush ∧ 9000 ≤ vgs ∧ mv ≤ vbusc + 1000 ∧ vbusc ≤ mv + 1000) ∧
    (∃ (vgs : Nat) (ma : Int) (s : State), s.feedUp = true ∧ s.feedA.state = .opening ∧ s.feedA.gate = false ∧ s.feedA.enabled = true ∧ s.feedA.after = .backoff ∧ s.feedA.ready = true ∧ s.feedB.state = .active ∧ s.feedA.isOff vgs ma = true) ∧
    (∃ (vgs : Nat) (ma : Int) (s : State), s.feedA.state = .opening ∧ s.feedA.isOff vgs ma = false) ∧
    (∃ (s : State) (c : FeedCause), s.feedUp = true ∧ s.board.changeover = some (.fdb, c) ∧ s.feedA.offOk = true ∧ s.feedA.state = .backoff ∧ s.board.seated = true ∧ s.feedB.state = .standby) ∧
    (∃ (d : Nat) (s : State), s.feedUp = true ∧ s.feedA.state = .backoff ∧ s.ref.safe = false ∧ s.feedB.state = .active ∧ s.feedA.due = some d ∧ d ≤ s.aon ∧ s.feedSettled .fda = true ∧ s.feedA.inWin = true ∧ s.board.seated = true) ∧
    (∃ (d : Nat) (s : State), s.feedA.due = some d ∧ s.aon < d) ∧
    (∃ (s : State), s.feedUp = true ∧ s.feedA.state = .active ∧ s.feedA.activeRun = true) ∧
    (∃ (s : State), s.board.seated = false) :=
  ⟨⟨{ wB.modBoard fun z => { z with changeover := none } with feedA := { (wB.modBoard fun z => { z with changeover := none }).feedA with state := .active } }, by decide +kernel⟩,
   ⟨54000, { ({ { wB with feedA := { (wB).feedA with enabled := true, use := { (wB).feedA.use with rated := 20000, shunt := 100, ins := 1, ret := 1, ov := 600, uvq := 400, uvt := 380 } } } with feedA := { ({ wB with feedA := { (wB).feedA with enabled := true, use := { (wB).feedA.use with rated := 20000, shunt := 100, ins := 1, ret := 1, ov := 600, uvq := 400, uvt := 380 } } }).feedA with state := .waitWindow } }).modBoard fun z => { z with seated := true } with feedB := { (({ { wB with feedA := { (wB).feedA with enabled := true, use := { (wB).feedA.use with rated := 20000, shunt := 100, ins := 1, ret := 1, ov := 600, uvq := 400, uvt := 380 } } } with feedA := { ({ wB with feedA := { (wB).feedA with enabled := true, use := { (wB).feedA.use with rated := 20000, shunt := 100, ins := 1, ret := 1, ov := 600, uvq := 400, uvt := 380 } } }).feedA with state := .waitWindow } }).modBoard fun z => { z with seated := true }).feedB with state := .active } }, by decide +kernel⟩,
   ⟨0, { { { wB with feedA := { (wB).feedA with enabled := true, use := { (wB).feedA.use with rated := 20000, shunt := 100, ins := 1, ret := 1, ov := 600, uvq := 400, uvt := 380 } } } with feedA := { ({ wB with feedA := { (wB).feedA with enabled := true, use := { (wB).feedA.use with rated := 20000, shunt := 100, ins := 1, ret := 1, ov := 600, uvq := 400, uvt := 380 } } }).feedA with state := .standby } } with feedB := { ({ { wB with feedA := { (wB).feedA with enabled := true, use := { (wB).feedA.use with rated := 20000, shunt := 100, ins := 1, ret := 1, ov := 600, uvq := 400, uvt := 380 } } } with feedA := { ({ wB with feedA := { (wB).feedA with enabled := true, use := { (wB).feedA.use with rated := 20000, shunt := 100, ins := 1, ret := 1, ov := 600, uvq := 400, uvt := 380 } } }).feedA with state := .standby } }).feedB with state := .active } }, by decide +kernel⟩,
   ⟨{ wB with feedA := { wB.feedA with state := .active } }, by decide +kernel⟩,
   ⟨{ { { wB with feedA := { (wB).feedA with enabled := true, use := { (wB).feedA.use with rated := 20000, shunt := 100, ins := 1, ret := 1, ov := 600, uvq := 400, uvt := 380 }, qualAt := some 0 } } with feedA := { ({ wB with feedA := { (wB).feedA with enabled := true, use := { (wB).feedA.use with rated := 20000, shunt := 100, ins := 1, ret := 1, ov := 600, uvq := 400, uvt := 380 }, qualAt := some 0 } }).feedA with state := .insertDelay } } with feedB := { ({ { wB with feedA := { (wB).feedA with enabled := true, use := { (wB).feedA.use with rated := 20000, shunt := 100, ins := 1, ret := 1, ov := 600, uvq := 400, uvt := 380 }, qualAt := some 0 } } with feedA := { ({ wB with feedA := { (wB).feedA with enabled := true, use := { (wB).feedA.use with rated := 20000, shunt := 100, ins := 1, ret := 1, ov := 600, uvq := 400, uvt := 380 }, qualAt := some 0 } }).feedA with state := .insertDelay } }).feedB with state := .active } }, by decide +kernel⟩,
   ⟨(({ { { wB with feedA := { (wB).feedA with enabled := true, use := { (wB).feedA.use with rated := 20000, shunt := 100, ins := 1, ret := 1, ov := 600, uvq := 400, uvt := 380 }, qualAt := some 0 } } with feedA := { ({ wB with feedA := { (wB).feedA with enabled := true, use := { (wB).feedA.use with rated := 20000, shunt := 100, ins := 1, ret := 1, ov := 600, uvq := 400, uvt := 380 }, qualAt := some 0 } }).feedA with state := .insertDelay } } with feedB := { ({ { wB with feedA := { (wB).feedA with enabled := true, use := { (wB).feedA.use with rated := 20000, shunt := 100, ins := 1, ret := 1, ov := 600, uvq := 400, uvt := 380 }, qualAt := some 0 } } with feedA := { ({ wB with feedA := { (wB).feedA with enabled := true, use := { (wB).feedA.use with rated := 20000, shunt := 100, ins := 1, ret := 1, ov := 600, uvq := 400, uvt := 380 }, qualAt := some 0 } }).feedA with state := .insertDelay } }).feedB with state := .standby } }).modBoard fun z => { z with changeover := none }).modRef fun z => { z with safe := false }, by decide +kernel⟩,
   ⟨(({ { { wB with feedA := { (wB).feedA with enabled := true, use := { (wB).feedA.use with rated := 20000, shunt := 100, ins := 1, ret := 1, ov := 600, uvq := 400, uvt := 380 }, qualAt := some 0 }, feedB := { (wB).feedB with enabled := true, use := { (wB).feedB.use with rated := 20000, shunt := 100, ins := 1 }, qualAt := some 0 } } with feedA := { ({ wB with feedA := { (wB).feedA with enabled := true, use := { (wB).feedA.use with rated := 20000, shunt := 100, ins := 1, ret := 1, ov := 600, uvq := 400, uvt := 380 }, qualAt := some 0 }, feedB := { (wB).feedB with enabled := true, use := { (wB).feedB.use with rated := 20000, shunt := 100, ins := 1 }, qualAt := some 0 } }).feedA with state := .insertDelay } } with feedB := { ({ { wB with feedA := { (wB).feedA with enabled := true, use := { (wB).feedA.use with rated := 20000, shunt := 100, ins := 1, ret := 1, ov := 600, uvq := 400, uvt := 380 }, qualAt := some 0 }, feedB := { (wB).feedB with enabled := true, use := { (wB).feedB.use with rated := 20000, shunt := 100, ins := 1 }, qualAt := some 0 } } with feedA := { ({ wB with feedA := { (wB).feedA with enabled := true, use := { (wB).feedA.use with rated := 20000, shunt := 100, ins := 1, ret := 1, ov := 600, uvq := 400, uvt := 380 }, qualAt := some 0 }, feedB := { (wB).feedB with enabled := true, use := { (wB).feedB.use with rated := 20000, shunt := 100, ins := 1 }, qualAt := some 0 } }).feedA with state := .insertDelay } }).feedB with state := .insertDelay } }).modBoard fun z => { z with changeover := none }).modRef fun z => { z with safe := false }, by decide +kernel⟩,
   ⟨wB, by decide +kernel⟩,
   ⟨{ (({ { wB with feedB := { wB.feedB with state := .active } } with feedA := { ({ wB with feedB := { wB.feedB with state := .active } }).feedA with state := .standby } }).modBoard fun z => { z with changeover := none }).modRef fun z => { z with safe := false } with feedA := { ((({ { wB with feedB := { wB.feedB with state := .active } } with feedA := { ({ wB with feedB := { wB.feedB with state := .active } }).feedA with state := .standby } }).modBoard fun z => { z with changeover := none }).modRef fun z => { z with safe := false }).feedA with use := { ((({ { wB with feedB := { wB.feedB with state := .active } } with feedA := { ({ wB with feedB := { wB.feedB with state := .active } }).feedA with state := .standby } }).modBoard fun z => { z with changeover := none }).modRef fun z => { z with safe := false }).feedA.use with ret := 1 } } }, by decide +kernel⟩,
   ⟨1000, { (({ { wB with feedB := { wB.feedB with state := .active } } with feedA := { ({ wB with feedB := { wB.feedB with state := .active } }).feedA with state := .standby } }).modBoard fun z => { z with changeover := none }).modRef fun z => { z with safe := false } with feedA := { ((({ { wB with feedB := { wB.feedB with state := .active } } with feedA := { ({ wB with feedB := { wB.feedB with state := .active } }).feedA with state := .standby } }).modBoard fun z => { z with changeover := none }).modRef fun z => { z with safe := false }).feedA with use := { ((({ { wB with feedB := { wB.feedB with state := .active } } with feedA := { ({ wB with feedB := { wB.feedB with state := .active } }).feedA with state := .standby } }).modBoard fun z => { z with changeover := none }).modRef fun z => { z with safe := false }).feedA.use with ret := 1 } } }, by decide +kernel⟩,
   ⟨9500, 54000, 54000, { wB with feedA := { wB.feedA with state := .inrush } }, by decide +kernel⟩,
   ⟨0, 0, { { { { { { wB with feedA := { (wB).feedA with enabled := true, use := { (wB).feedA.use with rated := 20000, shunt := 100, ins := 1, ret := 1, ov := 600, uvq := 400, uvt := 380 } } } with feedA := { ({ wB with feedA := { (wB).feedA with enabled := true, use := { (wB).feedA.use with rated := 20000, shunt := 100, ins := 1, ret := 1, ov := 600, uvq := 400, uvt := 380 } } }).feedA with state := .opening } } with feedA := { ({ { wB with feedA := { (wB).feedA with enabled := true, use := { (wB).feedA.use with rated := 20000, shunt := 100, ins := 1, ret := 1, ov := 600, uvq := 400, uvt := 380 } } } with feedA := { ({ wB with feedA := { (wB).feedA with enabled := true, use := { (wB).feedA.use with rated := 20000, shunt := 100, ins := 1, ret := 1, ov := 600, uvq := 400, uvt := 380 } } }).feedA with state := .opening } }).feedA with gate := false } } with feedA := { ({ { { wB with feedA := { (wB).feedA with enabled := true, use := { (wB).feedA.use with rated := 20000, shunt := 100, ins := 1, ret := 1, ov := 600, uvq := 400, uvt := 380 } } } with feedA := { ({ wB with feedA := { (wB).feedA with enabled := true, use := { (wB).feedA.use with rated := 20000, shunt := 100, ins := 1, ret := 1, ov := 600, uvq := 400, uvt := 380 } } }).feedA with state := .opening } } with feedA := { ({ { wB with feedA := { (wB).feedA with enabled := true, use := { (wB).feedA.use with rated := 20000, shunt := 100, ins := 1, ret := 1, ov := 600, uvq := 400, uvt := 380 } } } with feedA := { ({ wB with feedA := { (wB).feedA with enabled := true, use := { (wB).feedA.use with rated := 20000, shunt := 100, ins := 1, ret := 1, ov := 600, uvq := 400, uvt := 380 } } }).feedA with state := .opening } }).feedA with gate := false } }).feedA with enabled := true } } with feedA := { ({ { { { wB with feedA := { (wB).feedA with enabled := true, use := { (wB).feedA.use with rated := 20000, shunt := 100, ins := 1, ret := 1, ov := 600, uvq := 400, uvt := 380 } } } with feedA := { ({ wB with feedA := { (wB).feedA with enabled := true, use := { (wB).feedA.use with rated := 20000, shunt := 100, ins := 1, ret := 1, ov := 600, uvq := 400, uvt := 380 } } }).feedA with state := .opening } } with feedA := { ({ { wB with feedA := { (wB).feedA with enabled := true, use := { (wB).feedA.use with rated := 20000, shunt := 100, ins := 1, ret := 1, ov := 600, uvq := 400, uvt := 380 } } } with feedA := { ({ wB with feedA := { (wB).feedA with enabled := true, use := { (wB).feedA.use with rated := 20000, shunt := 100, ins := 1, ret := 1, ov := 600, uvq := 400, uvt := 380 } } }).feedA with state := .opening } }).feedA with gate := false } } with feedA := { ({ { { wB with feedA := { (wB).feedA with enabled := true, use := { (wB).feedA.use with rated := 20000, shunt := 100, ins := 1, ret := 1, ov := 600, uvq := 400, uvt := 380 } } } with feedA := { ({ wB with feedA := { (wB).feedA with enabled := true, use := { (wB).feedA.use with rated := 20000, shunt := 100, ins := 1, ret := 1, ov := 600, uvq := 400, uvt := 380 } } }).feedA with state := .opening } } with feedA := { ({ { wB with feedA := { (wB).feedA with enabled := true, use := { (wB).feedA.use with rated := 20000, shunt := 100, ins := 1, ret := 1, ov := 600, uvq := 400, uvt := 380 } } } with feedA := { ({ wB with feedA := { (wB).feedA with enabled := true, use := { (wB).feedA.use with rated := 20000, shunt := 100, ins := 1, ret := 1, ov := 600, uvq := 400, uvt := 380 } } }).feedA with state := .opening } }).feedA with gate := false } }).feedA with enabled := true } }).feedA with after := .backoff } } with feedB := { ({ { { { { wB with feedA := { (wB).feedA with enabled := true, use := { (wB).feedA.use with rated := 20000, shunt := 100, ins := 1, ret := 1, ov := 600, uvq := 400, uvt := 380 } } } with feedA := { ({ wB with feedA := { (wB).feedA with enabled := true, use := { (wB).feedA.use with rated := 20000, shunt := 100, ins := 1, ret := 1, ov := 600, uvq := 400, uvt := 380 } } }).feedA with state := .opening } } with feedA := { ({ { wB with feedA := { (wB).feedA with enabled := true, use := { (wB).feedA.use with rated := 20000, shunt := 100, ins := 1, ret := 1, ov := 600, uvq := 400, uvt := 380 } } } with feedA := { ({ wB with feedA := { (wB).feedA with enabled := true, use := { (wB).feedA.use with rated := 20000, shunt := 100, ins := 1, ret := 1, ov := 600, uvq := 400, uvt := 380 } } }).feedA with state := .opening } }).feedA with gate := false } } with feedA := { ({ { { wB with feedA := { (wB).feedA with enabled := true, use := { (wB).feedA.use with rated := 20000, shunt := 100, ins := 1, ret := 1, ov := 600, uvq := 400, uvt := 380 } } } with feedA := { ({ wB with feedA := { (wB).feedA with enabled := true, use := { (wB).feedA.use with rated := 20000, shunt := 100, ins := 1, ret := 1, ov := 600, uvq := 400, uvt := 380 } } }).feedA with state := .opening } } with feedA := { ({ { wB with feedA := { (wB).feedA with enabled := true, use := { (wB).feedA.use with rated := 20000, shunt := 100, ins := 1, ret := 1, ov := 600, uvq := 400, uvt := 380 } } } with feedA := { ({ wB with feedA := { (wB).feedA with enabled := true, use := { (wB).feedA.use with rated := 20000, shunt := 100, ins := 1, ret := 1, ov := 600, uvq := 400, uvt := 380 } } }).feedA with state := .opening } }).feedA with gate := false } }).feedA with enabled := true } } with feedA := { ({ { { { wB with feedA := { (wB).feedA with enabled := true, use := { (wB).feedA.use with rated := 20000, shunt := 100, ins := 1, ret := 1, ov := 600, uvq := 400, uvt := 380 } } } with feedA := { ({ wB with feedA := { (wB).feedA with enabled := true, use := { (wB).feedA.use with rated := 20000, shunt := 100, ins := 1, ret := 1, ov := 600, uvq := 400, uvt := 380 } } }).feedA with state := .opening } } with feedA := { ({ { wB with feedA := { (wB).feedA with enabled := true, use := { (wB).feedA.use with rated := 20000, shunt := 100, ins := 1, ret := 1, ov := 600, uvq := 400, uvt := 380 } } } with feedA := { ({ wB with feedA := { (wB).feedA with enabled := true, use := { (wB).feedA.use with rated := 20000, shunt := 100, ins := 1, ret := 1, ov := 600, uvq := 400, uvt := 380 } } }).feedA with state := .opening } }).feedA with gate := false } } with feedA := { ({ { { wB with feedA := { (wB).feedA with enabled := true, use := { (wB).feedA.use with rated := 20000, shunt := 100, ins := 1, ret := 1, ov := 600, uvq := 400, uvt := 380 } } } with feedA := { ({ wB with feedA := { (wB).feedA with enabled := true, use := { (wB).feedA.use with rated := 20000, shunt := 100, ins := 1, ret := 1, ov := 600, uvq := 400, uvt := 380 } } }).feedA with state := .opening } } with feedA := { ({ { wB with feedA := { (wB).feedA with enabled := true, use := { (wB).feedA.use with rated := 20000, shunt := 100, ins := 1, ret := 1, ov := 600, uvq := 400, uvt := 380 } } } with feedA := { ({ wB with feedA := { (wB).feedA with enabled := true, use := { (wB).feedA.use with rated := 20000, shunt := 100, ins := 1, ret := 1, ov := 600, uvq := 400, uvt := 380 } } }).feedA with state := .opening } }).feedA with gate := false } }).feedA with enabled := true } }).feedA with after := .backoff } }).feedB with state := .active } }, by decide +kernel⟩,
   ⟨5000, 0, { wB with feedA := { wB.feedA with state := .opening } }, by decide +kernel⟩,
   ⟨{ ({ { wB.modBoard fun z => { z with changeover := some (.fdb, .fast) } with feedA := { (wB.modBoard fun z => { z with changeover := some (.fdb, .fast) }).feedA with offOk := true } } with feedA := { ({ wB.modBoard fun z => { z with changeover := some (.fdb, .fast) } with feedA := { (wB.modBoard fun z => { z with changeover := some (.fdb, .fast) }).feedA with offOk := true } }).feedA with state := .backoff } }).modBoard fun z => { z with seated := true } with feedB := { (({ { wB.modBoard fun z => { z with changeover := some (.fdb, .fast) } with feedA := { (wB.modBoard fun z => { z with changeover := some (.fdb, .fast) }).feedA with offOk := true } } with feedA := { ({ wB.modBoard fun z => { z with changeover := some (.fdb, .fast) } with feedA := { (wB.modBoard fun z => { z with changeover := some (.fdb, .fast) }).feedA with offOk := true } }).feedA with state := .backoff } }).modBoard fun z => { z with seated := true }).feedB with state := .standby } }, .fast, by decide +kernel⟩,
   ⟨0, ({ { { ({ { wB with feedA := { (wB).feedA with qualAt := some 0 } } with feedA := { ({ wB with feedA := { (wB).feedA with qualAt := some 0 } }).feedA with state := .backoff } }).modRef fun z => { z with safe := false } with feedB := { (({ { wB with feedA := { (wB).feedA with qualAt := some 0 } } with feedA := { ({ wB with feedA := { (wB).feedA with qualAt := some 0 } }).feedA with state := .backoff } }).modRef fun z => { z with safe := false }).feedB with state := .active } } with feedA := { ({ ({ { wB with feedA := { (wB).feedA with qualAt := some 0 } } with feedA := { ({ wB with feedA := { (wB).feedA with qualAt := some 0 } }).feedA with state := .backoff } }).modRef fun z => { z with safe := false } with feedB := { (({ { wB with feedA := { (wB).feedA with qualAt := some 0 } } with feedA := { ({ wB with feedA := { (wB).feedA with qualAt := some 0 } }).feedA with state := .backoff } }).modRef fun z => { z with safe := false }).feedB with state := .active } }).feedA with due := some 0 } } with feedA := { ({ { ({ { wB with feedA := { (wB).feedA with qualAt := some 0 } } with feedA := { ({ wB with feedA := { (wB).feedA with qualAt := some 0 } }).feedA with state := .backoff } }).modRef fun z => { z with safe := false } with feedB := { (({ { wB with feedA := { (wB).feedA with qualAt := some 0 } } with feedA := { ({ wB with feedA := { (wB).feedA with qualAt := some 0 } }).feedA with state := .backoff } }).modRef fun z => { z with safe := false }).feedB with state := .active } } with feedA := { ({ ({ { wB with feedA := { (wB).feedA with qualAt := some 0 } } with feedA := { ({ wB with feedA := { (wB).feedA with qualAt := some 0 } }).feedA with state := .backoff } }).modRef fun z => { z with safe := false } with feedB := { (({ { wB with feedA := { (wB).feedA with qualAt := some 0 } } with feedA := { ({ wB with feedA := { (wB).feedA with qualAt := some 0 } }).feedA with state := .backoff } }).modRef fun z => { z with safe := false }).feedB with state := .active } }).feedA with due := some 0 } }).feedA with inWin := true } }).modBoard fun z => { z with seated := true }, by decide +kernel⟩,
   ⟨600000000, { wB with feedA := { wB.feedA with due := some 600000000 } }, by decide +kernel⟩,
   ⟨{ { wB with feedA := { wB.feedA with state := .active } } with feedA := { ({ wB with feedA := { wB.feedA with state := .active } }).feedA with activeRun := true } }, by decide +kernel⟩,
   ⟨wB.modBoard fun z => { z with seated := false }, by decide +kernel⟩⟩

theorem witness_FeedsTripAndOpen :
    (∃ (vb : Nat) (ma : Int) (s : State), s.feedUp = true ∧ s.board.changeover = none ∧ s.feedA.state = .active ∧ s.board.pg = false ∧ s.feedA.uvq * 100 ≤ vb ∧ vb + 1000 ≤ s.feedA.ov * 100 ∧ s.feedA.acc = List.replicate 8 0 ∧ ma ≤ (s.feedA.rated * 250 : Nat) ∧ s.feedA.fb1 = false ∧ s.cfg.fdaCurve = false ∧ s.board.suspended = false) ∧
    (∃ (s : State), s.feedUp = true ∧ s.board.changeover = none ∧ s.feedA.state = .active ∧ s.board.pg = true ∧ s.board.pgHold ≠ 0) ∧
    (∃ (vb : Nat) (s : State), s.feedUp = true ∧ s.board.changeover = none ∧ s.feedA.state = .active ∧ s.board.pg = true ∧ s.board.pgHold = 0 ∧ 1 ≤ s.board.pgOut ∧ vb < s.feedA.uvt * 100) ∧
    (∃ (ma : Int) (s : State), s.feedUp = false ∧ ma * 32 ≤ (s.feedA.use.rated * 250 : Nat)) ∧
    (∃ (mv : Nat) (s : State), s.feedA.state = .active ∧ s.feedB.state = .standby ∧ s.ref.safe = false ∧ s.feedA.use.ftmv < mv) ∧
    (∃ (mv : Nat) (s : State), mv ≤ s.feedA.use.ftmv) ∧
    (∃ (s : State), s.feedUp = true ∧ s.feedA.state = .active ∧ (accTripped (s.feedCurve .fda) s.feedA.acc).isSome = true) ∧
    (∃ (ma : Nat) (s : State), s.feedA.state = .active ∧ s.feedA.use.rated * 250 < ma * 16) ∧
    (∃ (s : State), s.feedUp = true ∧ s.feedA.state = .inrush) ∧
    (∃ (mv : Nat) (s : State), s.feedA.state = .active ∧ s.feedA.use.ov * 100 < mv) ∧
    (∃ (mv : Nat) (s : State), s.feedUp = true ∧ s.feedA.state = .active ∧ mv < s.feedA.use.uvt * 100) ∧
    (∃ (s : State), s.feedA.state = .active ∧ s.feedB.state = .standby ∧ s.board.changeover = none ∧ s.board.pgHold = 0) ∧
    (∃ (s : State), s.feedUp = true ∧ s.feedA.state = .opening ∧ s.feedA.offOk = false) :=
  ⟨⟨48000, 0, (({ { ({ ({ wB with feedA := { (wB).feedA with uvq := 480, ov := 600 } }).modBoard fun z => { z with changeover := none } with feedA := { (({ wB with feedA := { (wB).feedA with uvq := 480, ov := 600 } }).modBoard fun z => { z with changeover := none }).feedA with state := .active } }).modBoard fun z => { z with pg := false } with feedA := { (({ ({ wB with feedA := { (wB).feedA with uvq := 480, ov := 600 } }).modBoard fun z => { z with changeover := none } with feedA := { (({ wB with feedA := { (wB).feedA with uvq := 480, ov := 600 } }).modBoard fun z => { z with changeover := none }).feedA with state := .active } }).modBoard fun z => { z with pg := false }).feedA with acc := List.replicate 8 0 } } with feedA := { ({ ({ ({ wB with feedA := { (wB).feedA with uvq := 480, ov := 600 } }).modBoard fun z => { z with changeover := none } with feedA := { (({ wB with feedA := { (wB).feedA with uvq := 480, ov := 600 } }).modBoard fun z => { z with changeover := none }).feedA with state := .active } }).modBoard fun z => { z with pg := false } with feedA := { (({ ({ wB with feedA := { (wB).feedA with uvq := 480, ov := 600 } }).modBoard fun z => { z with changeover := none } with feedA := { (({ wB with feedA := { (wB).feedA with uvq := 480, ov := 600 } }).modBoard fun z => { z with changeover := none }).feedA with state := .active } }).modBoard fun z => { z with pg := false }).feedA with acc := List.replicate 8 0 } }).feedA with fb1 := false } }).modCfg fun z => { z with fdaCurve := false }).modBoard fun z => { z with suspended := false }, by decide +kernel⟩,
   ⟨(({ wB.modBoard fun z => { z with changeover := none } with feedA := { (wB.modBoard fun z => { z with changeover := none }).feedA with state := .active } }).modBoard fun z => { z with pg := true }).modBoard fun z => { z with pgHold := 1 }, by decide +kernel⟩,
   ⟨0, ((({ wB.modBoard fun z => { z with changeover := none } with feedA := { (wB.modBoard fun z => { z with changeover := none }).feedA with state := .active } }).modBoard fun z => { z with pg := true }).modBoard fun z => { z with pgHold := 0 }).modBoard fun z => { z with pgOut := 1 }, by decide +kernel⟩,
   ⟨0, wB.modPwr fun y => { y with domUp := false }, by decide +kernel⟩,
   ⟨1000, ({ { wB with feedA := { wB.feedA with state := .active } } with feedB := { ({ wB with feedA := { wB.feedA with state := .active } }).feedB with state := .standby } }).modRef fun z => { z with safe := false }, by decide +kernel⟩,
   ⟨0, { wB with feedA := { wB.feedA with use := { wB.feedA.use with ftmv := 0 } } }, by decide +kernel⟩,
   ⟨{ { wB with feedA := { (wB).feedA with acc := [100000000, 0, 0, 0, 0, 0, 0, 0] } } with feedA := { ({ wB with feedA := { (wB).feedA with acc := [100000000, 0, 0, 0, 0, 0, 0, 0] } }).feedA with state := .active } }, by decide +kernel⟩,
   ⟨1000000, { wB with feedA := { wB.feedA with state := .active } }, by decide +kernel⟩,
   ⟨{ wB with feedA := { wB.feedA with state := .inrush } }, by decide +kernel⟩,
   ⟨70000, { wB with feedA := { wB.feedA with state := .active } }, by decide +kernel⟩,
   ⟨0, { wB with feedA := { wB.feedA with state := .active } }, by decide +kernel⟩,
   ⟨(({ { wB with feedA := { wB.feedA with state := .active } } with feedB := { ({ wB with feedA := { wB.feedA with state := .active } }).feedB with state := .standby } }).modBoard fun z => { z with changeover := none }).modBoard fun z => { z with pgHold := 0 }, by decide +kernel⟩,
   ⟨{ { wB with feedA := { wB.feedA with state := .opening } } with feedA := { ({ wB with feedA := { wB.feedA with state := .opening } }).feedA with offOk := false } }, by decide +kernel⟩⟩

theorem witness_BoundaryWithinBudget :
    (∃ (s : State), s.pwr.domUp = true) :=
  ⟨wB.modPwr fun z => { z with domUp := true }, by decide +kernel⟩

theorem witness_BudgetFollowsFeed :
    (∃ (s : State), s.board.changeover = none ∧ s.feedA.state = .active) ∧
    (∃ (s : State), s.board.changeover = none ∧ s.feedA.state ≠ .active ∧ s.feedB.state = .active ∧ s.cfg.budgetB ≠ 0) ∧
    (∃ (s : State), s.board.changeover = none ∧ s.feedA.state ≠ .active ∧ s.feedB.state = .active ∧ s.cfg.budgetB = 0) ∧
    (∃ (s : State), s.board.changeover ≠ none) ∧
    (∃ (s : State), s.pwr.domUp = false) ∧
    (∃ (s : State), s.pwr.domUp = true) :=
  ⟨⟨{ wB.modBoard fun z => { z with changeover := none } with feedA := { (wB.modBoard fun z => { z with changeover := none }).feedA with state := .active } }, by decide +kernel⟩,
   ⟨({ ({ wB with feedA := { (wB).feedA with state := .standby } }).modBoard fun z => { z with changeover := none } with feedB := { (({ wB with feedA := { (wB).feedA with state := .standby } }).modBoard fun z => { z with changeover := none }).feedB with state := .active } }).modCfg fun z => { z with budgetB := 1 }, by decide +kernel⟩,
   ⟨({ ({ wB with feedA := { (wB).feedA with state := .standby } }).modBoard fun z => { z with changeover := none } with feedB := { (({ wB with feedA := { (wB).feedA with state := .standby } }).modBoard fun z => { z with changeover := none }).feedB with state := .active } }).modCfg fun z => { z with budgetB := 0 }, by decide +kernel⟩,
   ⟨wB.modBoard fun y => { y with changeover := some (.fda, .fast) }, by decide +kernel⟩,
   ⟨wB.modPwr fun z => { z with domUp := false }, by decide +kernel⟩,
   ⟨wB.modPwr fun z => { z with domUp := true }, by decide +kernel⟩⟩

theorem witness_ScoreboardTimedSteps :
    (∃ (p : Fin 192) (d : Nat) (s : State), (s.port p).sb.decided = some d ∧ (s.port p).sb.confirmed = false ∧ (s.port p).sb.floorLim = false ∧ (s.port p).sb.step < 3 ∧ (s.port p).pol.kind = .none) ∧
    (∃ (p : Fin 192) (s : State), (s.port p).sb.decided = some s.board.reserve ∧ (s.port p).sb.confirmed = false ∧ (s.port p).sb.floorLim = false ∧ (s.port p).sb.step < 3 ∧ (s.port p).pol.kind ≠ .none) ∧
    (∃ (p : Fin 192) (s : State), (s.port p).sb.state = .unfunded ∧ (s.port p).pol.state = .startup ∧ (s.port p).pol.kind = .none) ∧
    (∃ (p : Fin 192) (s : State), (s.port p).sb.state ≠ .unfunded ∨ (s.port p).pol.state ≠ .startup) ∧
    (∃ (p : Fin 192) (s : State), (s.port p).sb.decided ≠ none ∧ (s.port p).pol.state = .typecOnly ∧ (s.port p).sb.rpWait = false ∧ 8 ≤ (s.port p).sb.loRun) ∧
    (∃ (p : Fin 192) (s : State), ((s.port p).sb.loRun < 8 ∨ (s.port p).sb.rpWait = true)) ∧
    (∃ (p : Fin 192) (s : State), 100 ≤ (s.port p).sb.hiRun) ∧
    (∃ (p : Fin 192) (s : State), (s.port p).path.vconn ≠ 0) ∧
    (∃ (t : Fin 8) (s : State), s.tileCharge t ≤ s.board.vcBudget * 2) ∧
    (∃ (t : Fin 8) (p : Fin 192) (l : List PortId) (s : State), s.board.vcBudget * 2 < s.tileCharge t ∧ s.vcCandidates t = p :: l) ∧
    (∃ (s : State), s.board.emerg = 0 ∧ 20 ≤ s.board.feedHi) ∧
    (∃ (s : State), s.board.feedHi < 20) ∧
    (∃ (s : State), s.board.emerg ≠ 0 ∧ s.board.emerg < 7 ∧ 20 ≤ s.board.feedHi) ∧
    (∃ (s : State), s.board.emerg ≠ 0 ∧ 1000 ≤ s.board.feedLo) :=
  ⟨⟨191, 0, (((wB.modSb 191 fun z => { z with decided := some 0 }).modSb 191 fun z => { z with confirmed := false }).modSb 191 fun z => { z with floorLim := false }).modPol 191 fun z => { z with kind := .none }, by decide +kernel⟩,
   ⟨191, (((wB.modPol 191 fun y => { y with kind := .fixed }).modSb 191 fun z => { z with decided := some wB.board.reserve }).modSb 191 fun z => { z with confirmed := false }).modSb 191 fun z => { z with floorLim := false }, by decide +kernel⟩,
   ⟨191, ((wB.modSb 191 fun z => { z with state := .unfunded }).modPol 191 fun z => { z with state := .startup }).modPol 191 fun z => { z with kind := .none }, by decide +kernel⟩,
   ⟨191, wB, by decide +kernel⟩,
   ⟨191, (((wB.modSb 191 fun y => { y with decided := some 5 }).modPol 191 fun z => { z with state := .typecOnly }).modSb 191 fun z => { z with rpWait := false }).modSb 191 fun z => { z with loRun := 8 }, by decide +kernel⟩,
   ⟨191, wB, by decide +kernel⟩,
   ⟨191, wB.modSb 191 fun z => { z with hiRun := 100 }, by decide +kernel⟩,
   ⟨191, wB.modPath 191 fun z => { z with vconn := 1 }, by decide +kernel⟩,
   ⟨7, wB, by decide +kernel⟩,
   ⟨7, 191, [], (((allPorts.foldl (fun s q => s.modPath q fun y => { y with vconn := 0 }) (wB)).modCfg fun y => { y with vcBudget := 1 }).modPort 191 fun y => { y with path := { y.path with vconn := 1, vcFresh := true }, pol := { y.pol with cable := .cable5A, discRun := false, vcIncapable := false, epr := false, eprEntry := 0 } }).modBoard fun y => { y with vcBudget := 1 }, by decide +kernel⟩,
   ⟨(wB.modBoard fun z => { z with emerg := 0 }).modBoard fun z => { z with feedHi := 20 }, by decide +kernel⟩,
   ⟨wB, by decide +kernel⟩,
   ⟨(wB.modBoard fun z => { z with emerg := 1 }).modBoard fun z => { z with feedHi := 20 }, by decide +kernel⟩,
   ⟨(wB.modBoard fun z => { z with emerg := 1 }).modBoard fun z => { z with feedLo := 1000 }, by decide +kernel⟩⟩

theorem witness_SamplesCapturesSnapshots :
    (∃ (p : Fin 192) (codes : List (Nat × Nat)) (s : State), codes ≠ [] ∧ s.portFenced p = false) ∧
    (∃ (p : Fin 192) (codes : List (Nat × Nat)) (s : State), codes ≠ [] ∧ s.portFenced p = true) ∧
    (∃ (p : Fin 192) (k : Coef) (s : State), s.laneHolds p = true ∧ (s.tile (tileOf p)).subCoef = some k) ∧
    (∃ (p : Fin 192) (k : Coef) (s : State), (s.tile (tileOf p)).laneOn = false ∧ (s.port p).smp.coef = some k) ∧
    (∃ (p : Fin 192) (l : List (Nat × Int)) (s : State), l.length = 16 ∧ (s.port p).smp.tlmRate ≠ 0 ∧ s.portFenced p = false ∧ (s.port p).smp.tlmRing = 0 ∧ (s.ring 5).enable = true ∧ (s.ring 5).room = true ∧ s.link.tlmBuf = [] ∧ (s.port p).smp.tlmNext = none ∧ (s.ring 5).irqCount = 2 ∧ (s.ring 5).unsig = 0) ∧
    (∃ (p : Fin 192) (r : Nat) (g : Nat) (l : List (Nat × Int)) (s : State), l.length = 16 ∧ (s.port p).smp.tlmRate ≠ 0 ∧ s.portFenced p = false ∧ (s.port p).smp.tlmNext = some (r, g) ∧ (∀ w ∈ s.link.waiting, w.what = .tlm → w.also = [])) ∧
    (∃ (s : State), s.link.tlmBuf.length * 4 < 32768) ∧
    (∃ (s : State), 32768 ≤ s.link.tlmBuf.length * 4) ∧
    (∃ (t : Fin 8) (c : Capture) (mv : Nat) (ma : Int) (s : State), (s.tile t).cap = some c ∧ c.phase = .armed ∧ (c.trigger = .vbAbove ∧ c.thresh * 20 < mv ∨ c.trigger = .vbBelow ∧ mv < c.thresh * 20 ∨ c.trigger = .ibAbove ∧ (c.thresh * 5 : Nat) < ma)) ∧
    (∃ (t : Fin 8) (c : Capture) (r : List Int) (g : List Nat) (s : State), (s.tile t).cap = some c ∧ c.phase = .running ∧ r.length = 2 ^ (c.len + 10) ∧ c.gapsFit g = true ∧ (s.ring 13).enable = false) ∧
    (∃ (t : Fin 8) (b : Bool) (l : List (Nat × Bool × Nat)) (s : State), (∀ f ∈ l, adcOff t b f = true) ∧ (s.tile t).adcFaultA = false ∧ (s.tile t).adcFaultB = false ∧ l.length = 16) ∧
    (∃ (l : List (Nat × Bool × Nat)), l.length ≠ 16) ∧
    (∃ (s : State), s.meas.snapBusy = true) :=
  ⟨⟨191, [(100, 100)], wB, by decide +kernel⟩,
   ⟨191, [(100, 100)], wB.setFence (domTile 7) true, by decide +kernel⟩,
   ⟨191, default, (wB.modTile 7 fun y => { y with laneOn := true, phase := .cal, lanePort := 23 }).modTile (tileOf 191) fun z => { z with subCoef := some default }, by decide +kernel⟩,
   ⟨191, default, (wB.modTile (tileOf 191) fun z => { z with laneOn := false }).modPort 191 fun z => { z with smp := { z.smp with coef := some default } }, by decide +kernel⟩,
   ⟨191, List.replicate 16 (9000, 1000), ((((((wB.modPort 191 fun z => { z with smp := { z.smp with tlmRate := 1 } }).modPort 191 fun z => { z with smp := { z.smp with tlmRing := 0 } }).modRing 5 fun z => { z with enable := true }).modLink fun z => { z with tlmBuf := [] }).modPort 191 fun z => { z with smp := { z.smp with tlmNext := none } }).modRing 5 fun z => { z with irqCount := 2 }).modRing 5 fun z => { z with unsig := 0 }, by decide +kernel⟩,
   ⟨191, 0, 0, List.replicate 16 (0, 0), (wB.modPort 191 fun z => { z with smp := { z.smp with tlmRate := 1 } }).modPort 191 fun z => { z with smp := { z.smp with tlmNext := some (0, 0) } }, by decide +kernel⟩,
   ⟨wB, by decide +kernel⟩,
   ⟨wB.modLink fun y => { y with tlmBuf := List.replicate 8192 ⟨0, 5, ⟨191, false, 0, 0, 0, 0, 0, []⟩⟩ }, by decide +kernel⟩,
   ⟨7, ⟨191, 0, 0, 0, .vbAbove, 0, 100, .armed, [], 0, 0, 0⟩, 5000, 0, wB.modTile 7 fun z => { z with cap := some (⟨191, 0, 0, 0, .vbAbove, 0, 100, .armed, [], 0, 0, 0⟩) }, by decide +kernel⟩,
   ⟨7, ⟨191, 0, 0, 0, .immediate, 0, 0, .running, [], 0, 0, 0⟩, List.replicate 1024 0, [], (wB.modTile 7 fun z => { z with cap := some (⟨191, 0, 0, 0, .immediate, 0, 0, .running, [], 0, 0, 0⟩) }).modRing 13 fun z => { z with enable := false }, by decide +kernel⟩,
   ⟨7, false, List.replicate 16 ((Config.adcTrim 7 false).1.toNat + 9, false, 0), (wB.modTile 7 fun z => { z with adcFaultA := false }).modTile 7 fun z => { z with adcFaultB := false }, (by
      intro f e
      rw [List.eq_of_mem_replicate e]
      have h7 : (7 : Fin 8).val = 7 := rfl
      simp only [adcOff, Bool.or_eq_true, decide_eq_true_eq, h7]
      exact .inl (by omega)), by decide +kernel⟩,
   ⟨[], by decide +kernel⟩,
   ⟨{ wB with meas := { wB.meas with snapBusy := true } }, by decide +kernel⟩⟩

theorem witness_SubstituteLaneSlot :
    (∃ (t : Fin 8) (l : Fin 24) (s : State), (s.tile t).subFault = false ∧ l.val = (s.tile t).slotNext ∧ (s.tile t).laneFree = true) ∧
    (∃ (t : Fin 8) (dv : Int) (di : Int) (s : State), (s.tile t).subFault = false ∧ (s.tile t).phase = .compare ∧ (s.tile t).laneOn = false ∧ (s.port (lanePortOf t (s.tile t).slot)).smp.limited = false ∧ dv.natAbs ≤ 50 ∧ di.natAbs ≤ 50 ∧ (s.port (lanePortOf t (s.tile t).slot)).quiet false = true) ∧
    (∃ (t : Fin 8) (dv : Int) (mv : Nat) (s : State), (s.tile t).subFault = false ∧ (s.tile t).phase = .compare ∧ (s.tile t).laneOn = false ∧ (s.port (lanePortOf t (s.tile t).slot)).smp.limited = false ∧ 50 < dv.natAbs ∧ mv * 10 < dv.natAbs * 1000) ∧
    (∃ (t : Fin 8) (vz : Nat) (vl : Nat) (vh : Nat) (iz : Nat) (il : Nat) (ih : Nat) (gv : Rat) (gi : Rat) (s : State), (s.tile t).phase = .cal ∧ (s.tile t).laneOn = true ∧ calGain refV vz vl vh = some gv ∧ calGain refI iz il ih = some gi) ∧
    (∃ (t : Fin 8) (l : Fin 24) (s : State), (l.val ≠ (s.tile t).slotNext ∨ (s.tile t).laneFree = false)) ∧
    (∃ (t : Fin 8) (vz : Nat) (vl : Nat) (vh : Nat) (iz : Nat) (il : Nat) (ih : Nat) (c : Coef) (s : State), (s.tile t).phase = .cal ∧ (s.tile t).laneOn = true ∧ calGain refV vz vl vh = none ∧ calGain refI iz il ih = none ∧ (s.port (lanePortOf t (s.tile t).lanePort)).smp.coef = some c) ∧
    (∃ (t : Fin 8) (vz : Nat) (vl : Nat) (vh : Nat) (iz : Nat) (il : Nat) (ih : Nat) (c : Coef) (gv : Rat) (s : State), (s.tile t).phase = .cal ∧ (s.tile t).laneOn = true ∧ calGain refV vz vl vh = some gv ∧ calGain refI iz il ih = none ∧ (s.port (lanePortOf t (s.tile t).lanePort)).smp.coef = some c) ∧
    (∃ (t : Fin 8) (dv : Int) (di : Int) (s : State), (s.tile t).phase = .verify ∧ (s.tile t).calFail = false ∧ dv.natAbs ≤ 25 ∧ di.natAbs ≤ 25 ∧ (s.port (lanePortOf t (s.tile t).lanePort)).smp.limited = false) ∧
    (∃ (t : Fin 8) (dv : Int) (mv : Nat) (s : State), (s.tile t).phase = .verify ∧ (s.tile t).calFail = false ∧ 25 < dv.natAbs ∧ mv * 5 < dv.natAbs * 1000) ∧
    (∃ (t : Fin 8) (vz : Nat) (vl : Nat) (vh : Nat) (iz : Nat) (il : Nat) (ih : Nat) (gv : Rat) (gi : Rat) (s : State), (s.tile t).drift = none ∧ (s.tile t).laneFree = true ∧ calGain refV vz vl vh = some gv ∧ calGain refI iz il ih = some gi) ∧
    (∃ (t : Fin 8) (vz : Nat) (vl : Nat) (vh : Nat) (iz : Nat) (il : Nat) (ih : Nat) (s : State), (s.tile t).drift = none ∧ (s.tile t).subFault = false ∧ (s.tile t).subFails = 1 ∧ (calGain refV vz vl vh = none ∨ calGain refI iz il ih = none)) ∧
    (∃ (p : Fin 192) (s : State), (s.port p).smp.calPend = true ∧ secCycles 1 ≤ s.aon - (s.port p).smp.pendAt) ∧
    (∃ (p : Fin 192) (s : State), s.aon - (s.port p).smp.pendAt < secCycles 1) ∧
    (∃ (p : Fin 192) (d : Fin 12) (v : Nat) (n : Nat) (tol : Nat) (s : State), (s.port p).smp.dacTest = false ∧ s.dacNominal p d.val = some (n, tol) ∧ n ≤ v + tol ∧ v ≤ n + tol) ∧
    (∃ (p : Fin 192) (d : Fin 12) (v : Nat) (s : State), 6 ≤ d.val ∧ s.dacGood p d.val v = false ∧ (s.port p).smp.dacFails.find? (fun e => e.1 == d.val) = some (d.val, 1) ∧ (s.port p).retry.lock ≠ .dacFault) ∧
    (∃ (p : Fin 192) (d : Fin 12) (v : Nat) (s : State), s.dacGood p d.val v = false ∧ (s.port p).smp.dacFails.find? (fun e => e.1 == d.val) = none) ∧
    (∃ (t : Fin 8) (r : Nat) (vt : Nat) (x : Int) (s : State), s.tileFenced t = false ∧ vt ≤ 65535 ∧ ntcTemp r s.meas.ntcR25 s.meas.ntcB = some x ∧ -880 ≤ x ∧ x ≤ 2400) ∧
    (∃ (t : Fin 8) (s : State), s.tileFenced t = true) ∧
    (∃ (t : Fin 8) (s : State), (s.tile t).ntcOut = true ∧ (s.tile t).ntcFault = false ∧ s.tileFenced t = false ∧ 100 ≤ (s.tile t).ntcRun) ∧
    (∃ (t : Fin 8) (s : State), (s.tile t).ntcFault = true ∧ (s.tile t).ntcOut = false ∧ s.tileFenced t = false ∧ 1000 ≤ (s.tile t).ntcRun) :=
  ⟨⟨7, (0 : Fin 24), wB.modTile 7 fun z => { z with subFault := false }, by decide +kernel⟩,
   ⟨7, 0, 0, (((wB.modTile 7 fun z => { z with subFault := false }).modTile 7 fun z => { z with phase := .compare }).modTile 7 fun z => { z with laneOn := false }).modPort (lanePortOf 7 (wB.tile 7).slot) fun z => { z with smp := { z.smp with limited := false } }, by decide +kernel⟩,
   ⟨7, 51, 5099, (((wB.modTile 7 fun z => { z with subFault := false }).modTile 7 fun z => { z with phase := .compare }).modTile 7 fun z => { z with laneOn := false }).modPort (lanePortOf 7 (wB.tile 7).slot) fun z => { z with smp := { z.smp with limited := false } }, by decide +kernel⟩,
   ⟨7, 0, 500, 3500, 0, 320, 3200, 1 / 2000, 1 / 2000, (wB.modTile 7 fun z => { z with phase := .cal }).modTile 7 fun z => { z with laneOn := true }, by decide +kernel⟩,
   ⟨7, 23, wB, by decide +kernel⟩,
   ⟨7, 0, 0, 0, 0, 0, 0, default, ((wB.modTile 7 fun z => { z with phase := .cal }).modTile 7 fun z => { z with laneOn := true }).modPort (lanePortOf 7 (wB.tile 7).lanePort) fun z => { z with smp := { z.smp with coef := some default } }, by decide +kernel⟩,
   ⟨7, 0, 500, 3500, 0, 100, 100, default, 1 / 2000, ((wB.modTile 7 fun z => { z with phase := .cal }).modTile 7 fun z => { z with laneOn := true }).modPort (lanePortOf 7 (wB.tile 7).lanePort) fun z => { z with smp := { z.smp with coef := some default } }, by decide +kernel⟩,
   ⟨7, 0, 0, ((wB.modTile 7 fun z => { z with phase := .verify }).modTile 7 fun z => { z with calFail := false }).modPort (lanePortOf 7 (wB.tile 7).lanePort) fun z => { z with smp := { z.smp with limited := false } }, by decide +kernel⟩,
   ⟨7, -26, 5199, (wB.modTile 7 fun z => { z with phase := .verify }).modTile 7 fun z => { z with calFail := false }, by decide +kernel⟩,
   ⟨7, 0, 500, 3500, 0, 320, 3200, 1 / 2000, 1 / 2000, (wB.modTile 7 fun z => { z with drift := none }).modTile 7 fun y => { y with phase := .compare }, by decide +kernel⟩,
   ⟨7, 0, 0, 0, 0, 0, 0, ((wB.modTile 7 fun z => { z with drift := none }).modTile 7 fun z => { z with subFault := false }).modTile 7 fun z => { z with subFails := 1 }, by decide +kernel⟩,
   ⟨191, wB.modPort 191 fun z => { z with smp := { z.smp with calPend := true } }, by decide +kernel⟩,
   ⟨191, wB.modPort 191 fun y => { y with smp := { y.smp with pendAt := wB.aon } }, by decide +kernel⟩,
   ⟨191, (4 : Fin 12), 5500, 5500, 40, wB.modPort 191 fun z => { z with smp := { z.smp with dacTest := false } }, by decide +kernel⟩,
   ⟨191, (11 : Fin 12), 0, wB.modPort 191 fun y => { y with smp := { y.smp with dacFails := [(11, 1)] } }, by decide +kernel⟩,
   ⟨191, (11 : Fin 12), 0, wB, by decide +kernel⟩,
   ⟨7, 10000000, 0, 400, wB, by decide +kernel⟩,
   ⟨7, wB.setFence (domTile 7) true, by decide +kernel⟩,
   ⟨7, ((wB.modTile 7 fun z => { z with ntcOut := true }).modTile 7 fun z => { z with ntcFault := false }).modTile 7 fun z => { z with ntcRun := 100 }, by decide +kernel⟩,
   ⟨7, ((wB.modTile 7 fun z => { z with ntcFault := true }).modTile 7 fun z => { z with ntcOut := false }).modTile 7 fun z => { z with ntcRun := 1000 }, by decide +kernel⟩⟩

theorem witness_AluMoves :
    (∃ (k : Fin 4) (w : BitVec 32) (b : BitVec 32) (A : BitVec 32) (s : State) (s1 : State), s.nextMove k 0x010 w b s1 ∧ (s1.coreAt k).aluA = A) ∧
    (∃ (k : Fin 4) (w : BitVec 32) (b : BitVec 32) (A : BitVec 32) (s : State) (s1 : State), s.nextMove k 0x011 w b s1 ∧ (s1.coreAt k).aluA = A) ∧
    (∃ (k : Fin 4) (w : BitVec 32) (b : BitVec 32) (A : BitVec 32) (s : State) (s1 : State), s.nextMove k 0x012 w b s1 ∧ (s1.coreAt k).aluA = A) ∧
    (∃ (k : Fin 4) (w : BitVec 32) (b : BitVec 32) (A : BitVec 32) (s : State) (s1 : State), s.nextMove k 0x013 w b s1 ∧ (s1.coreAt k).aluA = A) ∧
    (∃ (k : Fin 4) (w : BitVec 32) (b : BitVec 32) (A : BitVec 32) (s : State) (s1 : State), s.nextMove k 0x014 w b s1 ∧ (s1.coreAt k).aluA = A) ∧
    (∃ (k : Fin 4) (w : BitVec 32) (b : BitVec 32) (A : BitVec 32) (s : State) (s1 : State), s.nextMove k 0x015 w b s1 ∧ (s1.coreAt k).aluA = A) ∧
    (∃ (k : Fin 4) (w : BitVec 32) (b : BitVec 32) (A : BitVec 32) (s : State) (s1 : State), s.nextMove k 0x016 w b s1 ∧ (s1.coreAt k).aluA = A) ∧
    (∃ (k : Fin 4) (w : BitVec 32) (b : BitVec 32) (A : BitVec 32) (s : State) (s1 : State), s.nextMove k 0x017 w b s1 ∧ (s1.coreAt k).aluA = A) ∧
    (∃ (k : Fin 4) (w : BitVec 32) (b : BitVec 32) (A : BitVec 32) (s : State) (s1 : State), s.nextMove k 0x018 w b s1 ∧ (s1.coreAt k).aluA = A) ∧
    (∃ (k : Fin 4) (w : BitVec 32) (b : BitVec 32) (A : BitVec 32) (s : State) (s1 : State), s.nextMove k 0x019 w b s1 ∧ (s1.coreAt k).aluA = A) ∧
    (∃ (k : Fin 4) (w : BitVec 32) (b : BitVec 32) (A : BitVec 32) (s : State) (s1 : State), s.nextMove k 0x01A w b s1 ∧ (s1.coreAt k).aluA = A) ∧
    (∃ (k : Fin 4) (w : BitVec 32) (b : BitVec 32) (A : BitVec 32) (s : State) (s1 : State), s.nextMove k 0x01B w b s1 ∧ (s1.coreAt k).aluA = A) ∧
    (∃ (k : Fin 4) (w : BitVec 32) (b : BitVec 32) (A : BitVec 32) (s : State) (s1 : State), s.nextMove k 0x01C w b s1 ∧ (s1.coreAt k).aluA = A) ∧
    (∃ (k : Fin 4) (w : BitVec 32) (b : BitVec 32) (A : BitVec 32) (s : State) (s1 : State), s.nextMove k 0x01D w b s1 ∧ (s1.coreAt k).aluA = A) :=
  ⟨⟨3, wImm 0x010 4, 4#32, 0x80000000#32, (State.wMove wB (wImm 0x010 4)).modCore 3 fun z => { z with aluA := 0x80000000#32 }, (State.wMove wB (wImm 0x010 4)).modCore 3 fun z => { z with aluA := 0x80000000#32 }, ⟨by decide +kernel, wFetch_eq (by decide +kernel), by decide +kernel, _, rfl, by decide +kernel, by decide +kernel, rfl⟩, by decide +kernel⟩,
   ⟨3, wImm 0x011 4, 4#32, 0x80000000#32, (State.wMove wB (wImm 0x011 4)).modCore 3 fun z => { z with aluA := 0x80000000#32 }, (State.wMove wB (wImm 0x011 4)).modCore 3 fun z => { z with aluA := 0x80000000#32 }, ⟨by decide +kernel, wFetch_eq (by decide +kernel), by decide +kernel, _, rfl, by decide +kernel, by decide +kernel, rfl⟩, by decide +kernel⟩,
   ⟨3, wImm 0x012 4, 4#32, 0x80000000#32, (State.wMove wB (wImm 0x012 4)).modCore 3 fun z => { z with aluA := 0x80000000#32 }, (State.wMove wB (wImm 0x012 4)).modCore 3 fun z => { z with aluA := 0x80000000#32 }, ⟨by decide +kernel, wFetch_eq (by decide +kernel), by decide +kernel, _, rfl, by decide +kernel, by decide +kernel, rfl⟩, by decide +kernel⟩,
   ⟨3, wImm 0x013 4, 4#32, 0x80000000#32, (State.wMove wB (wImm 0x013 4)).modCore 3 fun z => { z with aluA := 0x80000000#32 }, (State.wMove wB (wImm 0x013 4)).modCore 3 fun z => { z with aluA := 0x80000000#32 }, ⟨by decide +kernel, wFetch_eq (by decide +kernel), by decide +kernel, _, rfl, by decide +kernel, by decide +kernel, rfl⟩, by decide +kernel⟩,
   ⟨3, wImm 0x014 4, 4#32, 0x80000000#32, (State.wMove wB (wImm 0x014 4)).modCore 3 fun z => { z with aluA := 0x80000000#32 }, (State.wMove wB (wImm 0x014 4)).modCore 3 fun z => { z with aluA := 0x80000000#32 }, ⟨by decide +kernel, wFetch_eq (by decide +kernel), by decide +kernel, _, rfl, by decide +kernel, by decide +kernel, rfl⟩, by decide +kernel⟩,
   ⟨3, wImm 0x015 4, 4#32, 0x80000000#32, (State.wMove wB (wImm 0x015 4)).modCore 3 fun z => { z with aluA := 0x80000000#32 }, (State.wMove wB (wImm 0x015 4)).modCore 3 fun z => { z with aluA := 0x80000000#32 }, ⟨by decide +kernel, wFetch_eq (by decide +kernel), by decide +kernel, _, rfl, by decide +kernel, by decide +kernel, rfl⟩, by decide +kernel⟩,
   ⟨3, wImm 0x016 4, 4#32, 0x80000000#32, (State.wMove wB (wImm 0x016 4)).modCore 3 fun z => { z with aluA := 0x80000000#32 }, (State.wMove wB (wImm 0x016 4)).modCore 3 fun z => { z with aluA := 0x80000000#32 }, ⟨by decide +kernel, wFetch_eq (by decide +kernel), by decide +kernel, _, rfl, by decide +kernel, by decide +kernel, rfl⟩, by decide +kernel⟩,
   ⟨3, wImm 0x017 4, 4#32, 0x80000000#32, (State.wMove wB (wImm 0x017 4)).modCore 3 fun z => { z with aluA := 0x80000000#32 }, (State.wMove wB (wImm 0x017 4)).modCore 3 fun z => { z with aluA := 0x80000000#32 }, ⟨by decide +kernel, wFetch_eq (by decide +kernel), by decide +kernel, _, rfl, by decide +kernel, by decide +kernel, rfl⟩, by decide +kernel⟩,
   ⟨3, wImm 0x018 4, 4#32, 0x80000000#32, (State.wMove wB (wImm 0x018 4)).modCore 3 fun z => { z with aluA := 0x80000000#32 }, (State.wMove wB (wImm 0x018 4)).modCore 3 fun z => { z with aluA := 0x80000000#32 }, ⟨by decide +kernel, wFetch_eq (by decide +kernel), by decide +kernel, _, rfl, by decide +kernel, by decide +kernel, rfl⟩, by decide +kernel⟩,
   ⟨3, wImm 0x019 4, 4#32, 0x80000000#32, (State.wMove wB (wImm 0x019 4)).modCore 3 fun z => { z with aluA := 0x80000000#32 }, (State.wMove wB (wImm 0x019 4)).modCore 3 fun z => { z with aluA := 0x80000000#32 }, ⟨by decide +kernel, wFetch_eq (by decide +kernel), by decide +kernel, _, rfl, by decide +kernel, by decide +kernel, rfl⟩, by decide +kernel⟩,
   ⟨3, wImm 0x01A 4, 4#32, 0x80000000#32, (State.wMove wB (wImm 0x01A 4)).modCore 3 fun z => { z with aluA := 0x80000000#32 }, (State.wMove wB (wImm 0x01A 4)).modCore 3 fun z => { z with aluA := 0x80000000#32 }, ⟨by decide +kernel, wFetch_eq (by decide +kernel), by decide +kernel, _, rfl, by decide +kernel, by decide +kernel, rfl⟩, by decide +kernel⟩,
   ⟨3, wImm 0x01B 4, 4#32, 0x80000000#32, (State.wMove wB (wImm 0x01B 4)).modCore 3 fun z => { z with aluA := 0x80000000#32 }, (State.wMove wB (wImm 0x01B 4)).modCore 3 fun z => { z with aluA := 0x80000000#32 }, ⟨by decide +kernel, wFetch_eq (by decide +kernel), by decide +kernel, _, rfl, by decide +kernel, by decide +kernel, rfl⟩, by decide +kernel⟩,
   ⟨3, wImm 0x01C 4, 4#32, 0x80000000#32, (State.wMove wB (wImm 0x01C 4)).modCore 3 fun z => { z with aluA := 0x80000000#32 }, (State.wMove wB (wImm 0x01C 4)).modCore 3 fun z => { z with aluA := 0x80000000#32 }, ⟨by decide +kernel, wFetch_eq (by decide +kernel), by decide +kernel, _, rfl, by decide +kernel, by decide +kernel, rfl⟩, by decide +kernel⟩,
   ⟨3, wImm 0x01D 4, 4#32, 0x80000000#32, (State.wMove wB (wImm 0x01D 4)).modCore 3 fun z => { z with aluA := 0x80000000#32 }, (State.wMove wB (wImm 0x01D 4)).modCore 3 fun z => { z with aluA := 0x80000000#32 }, ⟨by decide +kernel, wFetch_eq (by decide +kernel), by decide +kernel, _, rfl, by decide +kernel, by decide +kernel, rfl⟩, by decide +kernel⟩⟩

theorem witness_MulAndLsuMoves :
    (∃ (k : Fin 4) (w : BitVec 32) (b : BitVec 32) (s : State) (s1 : State), s.nextMove k 0x110 w b s1) ∧
    (∃ (k : Fin 4) (w : BitVec 32) (b : BitVec 32) (s : State) (s1 : State), s.nextMove k 0x111 w b s1) ∧
    (∃ (k : Fin 4) (w : BitVec 32) (b : BitVec 32) (s : State) (s1 : State), s.nextMove k 0x112 w b s1 ∧ b ≠ 0#32) ∧
    (∃ (k : Fin 4) (w : BitVec 32) (s : State) (s1 : State), s.nextMove k 0x112 w 0#32 s1) ∧
    (∃ (k : Fin 4) (w : BitVec 32) (b : BitVec 32) (s : State) (s1 : State), s.nextMove k 0x113 w b s1 ∧ b ≠ 0#32) ∧
    (∃ (k : Fin 4) (w : BitVec 32) (s : State) (s1 : State), s.nextMove k 0x113 w 0#32 s1) ∧
    (∃ (k : Fin 4) (w : BitVec 32) (b : BitVec 32) (s : State) (s1 : State) (cy : Nat), s.nextMove k 0x210 w b s1 ∧ segCycles (s1.coreAt k).seg cy ∧ s1.accessOk k b.toNat 4 false false) ∧
    (∃ (k : Fin 4) (w : BitVec 32) (b : BitVec 32) (s : State) (s1 : State) (cy : Nat), s.nextMove k 0x211 w b s1 ∧ segCycles (s1.coreAt k).seg cy ∧ s1.accessOk k b.toNat 2 false false) ∧
    (∃ (k : Fin 4) (w : BitVec 32) (b : BitVec 32) (s : State) (s1 : State) (cy : Nat), s.nextMove k 0x212 w b s1 ∧ segCycles (s1.coreAt k).seg cy ∧ s1.accessOk k b.toNat 2 false false) ∧
    (∃ (k : Fin 4) (w : BitVec 32) (b : BitVec 32) (s : State) (s1 : State) (cy : Nat), s.nextMove k 0x213 w b s1 ∧ segCycles (s1.coreAt k).seg cy ∧ s1.accessOk k b.toNat 1 false false) ∧
    (∃ (k : Fin 4) (w : BitVec 32) (b : BitVec 32) (s : State) (s1 : State) (cy : Nat), s.nextMove k 0x214 w b s1 ∧ segCycles (s1.coreAt k).seg cy ∧ s1.accessOk k b.toNat 1 false false) ∧
    (∃ (k : Fin 4) (w : BitVec 32) (b : BitVec 32) (s : State) (s1 : State) (cy : Nat), s.nextMove k 0x218 w b s1 ∧ segCycles (s1.coreAt k).seg cy ∧ s1.accessOk k b.toNat 4 true false) ∧
    (∃ (k : Fin 4) (w : BitVec 32) (b : BitVec 32) (s : State) (s1 : State) (cy : Nat), s.nextMove k 0x219 w b s1 ∧ segCycles (s1.coreAt k).seg cy ∧ s1.accessOk k b.toNat 2 true false) ∧
    (∃ (k : Fin 4) (w : BitVec 32) (b : BitVec 32) (s : State) (s1 : State) (cy : Nat), s.nextMove k 0x21A w b s1 ∧ segCycles (s1.coreAt k).seg cy ∧ s1.accessOk k b.toNat 1 true false) ∧
    (∃ (k : Fin 4) (w : BitVec 32) (b : BitVec 32) (s : State) (s1 : State), s.nextMove k 0x21C w b s1 ∧ s1.accessOk k b.toNat 4 false true ∧ (s1.coreAt k).seg = 4) ∧
    (∃ (k : Fin 4) (w : BitVec 32) (b : BitVec 32) (s : State) (s1 : State) (sub : Nat), s.nextMove k 0x210 w b s1 ∧ s1.accessFault k (s1.coreAt k).seg b.toNat 4 false false = some sub) :=
  ⟨⟨3, wImm 0x110 5, 5#32, State.wMove wB (wImm 0x110 5), State.wMove wB (wImm 0x110 5), ⟨by decide +kernel, wFetch_eq (by decide +kernel), by decide +kernel, _, rfl, by decide +kernel, by decide +kernel, rfl⟩⟩,
   ⟨3, wImm 0x111 4, 4#32, State.wMove wB (wImm 0x111 4), State.wMove wB (wImm 0x111 4), ⟨by decide +kernel, wFetch_eq (by decide +kernel), by decide +kernel, _, rfl, by decide +kernel, by decide +kernel, rfl⟩⟩,
   ⟨3, wImm 0x112 4, 4#32, State.wMove wB (wImm 0x112 4), State.wMove wB (wImm 0x112 4), ⟨by decide +kernel, wFetch_eq (by decide +kernel), by decide +kernel, _, rfl, by decide +kernel, by decide +kernel, rfl⟩, by decide +kernel⟩,
   ⟨3, wImm 0x112 0, State.wMove wB (wImm 0x112 0), State.wMove wB (wImm 0x112 0), ⟨by decide +kernel, wFetch_eq (by decide +kernel), by decide +kernel, _, rfl, by decide +kernel, by decide +kernel, rfl⟩⟩,
   ⟨3, wImm 0x113 4, 4#32, State.wMove wB (wImm 0x113 4), State.wMove wB (wImm 0x113 4), ⟨by decide +kernel, wFetch_eq (by decide +kernel), by decide +kernel, _, rfl, by decide +kernel, by decide +kernel, rfl⟩, by decide +kernel⟩,
   ⟨3, wImm 0x113 0, State.wMove wB (wImm 0x113 0), State.wMove wB (wImm 0x113 0), ⟨by decide +kernel, wFetch_eq (by decide +kernel), by decide +kernel, _, rfl, by decide +kernel, by decide +kernel, rfl⟩⟩,
   ⟨3, wImm 0x210 4, 4#32, State.wMove wB (wImm 0x210 4), State.wMove wB (wImm 0x210 4), 2, ⟨by decide +kernel, wFetch_eq (by decide +kernel), by decide +kernel, _, rfl, by decide +kernel, by decide +kernel, rfl⟩, by unfold segCycles; decide +kernel, by unfold State.accessOk; decide +kernel⟩,
   ⟨3, wImm 0x211 4, 4#32, State.wMove wB (wImm 0x211 4), State.wMove wB (wImm 0x211 4), 2, ⟨by decide +kernel, wFetch_eq (by decide +kernel), by decide +kernel, _, rfl, by decide +kernel, by decide +kernel, rfl⟩, by unfold segCycles; decide +kernel, by unfold State.accessOk; decide +kernel⟩,
   ⟨3, wImm 0x212 4, 4#32, State.wMove wB (wImm 0x212 4), State.wMove wB (wImm 0x212 4), 2, ⟨by decide +kernel, wFetch_eq (by decide +kernel), by decide +kernel, _, rfl, by decide +kernel, by decide +kernel, rfl⟩, by unfold segCycles; decide +kernel, by unfold State.accessOk; decide +kernel⟩,
   ⟨3, wImm 0x213 4, 4#32, State.wMove wB (wImm 0x213 4), State.wMove wB (wImm 0x213 4), 2, ⟨by decide +kernel, wFetch_eq (by decide +kernel), by decide +kernel, _, rfl, by decide +kernel, by decide +kernel, rfl⟩, by unfold segCycles; decide +kernel, by unfold State.accessOk; decide +kernel⟩,
   ⟨3, wImm 0x214 4, 4#32, State.wMove wB (wImm 0x214 4), State.wMove wB (wImm 0x214 4), 2, ⟨by decide +kernel, wFetch_eq (by decide +kernel), by decide +kernel, _, rfl, by decide +kernel, by decide +kernel, rfl⟩, by unfold segCycles; decide +kernel, by unfold State.accessOk; decide +kernel⟩,
   ⟨3, wImm 0x218 4, 4#32, State.wMove wB (wImm 0x218 4), State.wMove wB (wImm 0x218 4), 2, ⟨by decide +kernel, wFetch_eq (by decide +kernel), by decide +kernel, _, rfl, by decide +kernel, by decide +kernel, rfl⟩, by unfold segCycles; decide +kernel, by unfold State.accessOk; decide +kernel⟩,
   ⟨3, wImm 0x219 4, 4#32, State.wMove wB (wImm 0x219 4), State.wMove wB (wImm 0x219 4), 2, ⟨by decide +kernel, wFetch_eq (by decide +kernel), by decide +kernel, _, rfl, by decide +kernel, by decide +kernel, rfl⟩, by unfold segCycles; decide +kernel, by unfold State.accessOk; decide +kernel⟩,
   ⟨3, wImm 0x21A 4, 4#32, State.wMove wB (wImm 0x21A 4), State.wMove wB (wImm 0x21A 4), 2, ⟨by decide +kernel, wFetch_eq (by decide +kernel), by decide +kernel, _, rfl, by decide +kernel, by decide +kernel, rfl⟩, by unfold segCycles; decide +kernel, by unfold State.accessOk; decide +kernel⟩,
   ⟨3, wImm 0x21C 4, 4#32, (State.wMove wB (wImm 0x21C 4)).modCore 3 fun y => { y with seg := 4 }, (State.wMove wB (wImm 0x21C 4)).modCore 3 fun y => { y with seg := 4 }, ⟨by decide +kernel, wFetch_eq (by decide +kernel), by decide +kernel, _, rfl, by decide +kernel, by decide +kernel, rfl⟩, by unfold State.accessOk; decide +kernel, by decide +kernel⟩,
   ⟨3, wImm 0x210 6, 6#32, State.wMove wB (wImm 0x210 6), State.wMove wB (wImm 0x210 6), 2, ⟨by decide +kernel, wFetch_eq (by decide +kernel), by decide +kernel, _, rfl, by decide +kernel, by decide +kernel, rfl⟩, by decide +kernel⟩⟩

theorem witness_BranchTimerAndPlainMoves :
    (∃ (k : Fin 4) (w : BitVec 32) (b : BitVec 32) (s : State) (s1 : State) (n : Nat), s.nextMove k (0x500 + n) w b s1 ∧ n < 32) ∧
    (∃ (k : Fin 4) (w : BitVec 32) (b : BitVec 32) (s : State) (s1 : State) (n : Nat), s.nextMove k (0x400 + n) w b s1 ∧ 1 ≤ n ∧ n < 8) ∧
    (∃ (k : Fin 4) (w : BitVec 32) (s : State) (a : Nat) (m : Mv), s.fetch k = (w, none) ∧ s.canMove k = true ∧ moveFault w = none ∧ decodeMove w = some m ∧ m.dst = a ∧ portKind a ≠ some .t ∧ (s.coreAt k).guardOk m.guard = false) ∧
    (∃ (k : Fin 4) (w : BitVec 32) (s : State) (c : CtxCause) (sub : Nat), s.fetch k = (w, none) ∧ s.canMove k = true ∧ moveFault w = some (c, sub)) ∧
    (∃ (k : Fin 4) (s : State) (p : Fin 192), (s.coreAt k).port = some p) ∧
    (∃ (k : Fin 4) (w : BitVec 32) (b : BitVec 32) (s : State) (s1 : State), s.nextMove k 0xB10 w b s1) ∧
    (∃ (k : Fin 4) (w : BitVec 32) (b : BitVec 32) (s : State) (s1 : State), s.nextMove k 0x310 w b s1 ∧ b.toNat % 4 = 0 ∧ b.toNat + 4 ≤ (s1.seg k 0).limit) ∧
    (∃ (k : Fin 4) (w : BitVec 32) (b : BitVec 32) (s : State) (s1 : State), s.nextMove k 0x310 w b s1 ∧ b.toNat % 4 ≠ 0) ∧
    (∃ (k : Fin 4) (w : BitVec 32) (b : BitVec 32) (s : State) (s1 : State) (t : Nat), s.nextMove k 0x311 w b s1 ∧ t = (BitVec.ofNat 32 (s1.coreAt k).pc + 4#32 * b).toNat ∧ t % 4 = 0 ∧ t + 4 ≤ (s1.seg k 0).limit) ∧
    (∃ (k : Fin 4) (w : BitVec 32) (b : BitVec 32) (s : State) (s1 : State), s.nextMove k 0x312 w b s1 ∧ b.toNat % 4 = 0 ∧ b.toNat + 4 ≤ (s1.seg k 0).limit ∧ 4 ≤ (s1.coreAt k).sp ∧ s1.poisoned k .code ((s1.seg k 2).base + ((s1.coreAt k).sp - 4)) 4 = none) ∧
    (∃ (k : Fin 4) (w : BitVec 32) (b : BitVec 32) (s : State) (s1 : State) (t : Nat), s.nextMove k 0x313 w b s1 ∧ (s1.coreAt k).sp + 4 ≤ (s1.seg k 2).limit ∧ s1.poisoned k .code ((s1.seg k 2).base + (s1.coreAt k).sp) 4 = none ∧ t = valLE (s1.memReads .code ((s1.seg k 2).base + (s1.coreAt k).sp) 4) ∧ t % 4 = 0 ∧ t + 4 ≤ (s1.seg k 0).limit) ∧
    (∃ (k : Fin 4) (w : BitVec 32) (b : BitVec 32) (s : State) (s1 : State) (p : Fin 192), s.nextMove k 0x610 w b s1 ∧ (s1.coreAt k).port = some p ∧ (s1.coreAt k).tmrSel < 8 ∧ (s1.port p).sc.timers.length = 8 ∧ bits b 0 24 ≠ 0) ∧
    (∃ (k : Fin 4) (w : BitVec 32) (b : BitVec 32) (s : State) (s1 : State) (p : Fin 192), s.nextMove k 0x611 w b s1 ∧ (s1.coreAt k).port = some p ∧ (s1.coreAt k).tmrSel < 8 ∧ (s1.port p).sc.timers.length = 8 ∧ bits b 0 24 ≠ 0) ∧
    (∃ (k : Fin 4) (w : BitVec 32) (b : BitVec 32) (s : State) (s1 : State) (p : Fin 192), s.nextMove k 0x612 w b s1 ∧ (s1.coreAt k).port = some p ∧ (s1.coreAt k).tmrSel < 8 ∧ (s1.port p).sc.timers.length = 8) ∧
    (∃ (k : Fin 4) (w : BitVec 32) (b : BitVec 32) (s : State) (s1 : State) (p : Fin 192), s.nextMove k 0x710 w b s1 ∧ (s1.coreAt k).port = some p) ∧
    (∃ (k : Fin 4) (w : BitVec 32) (b : BitVec 32) (s : State) (s1 : State), s.nextMove k 0x910 w b s1) ∧
    (∃ (k : Fin 4) (w : BitVec 32) (b : BitVec 32) (s : State) (s1 : State), s.nextMove k 0x911 w b s1) ∧
    (∃ (k : Fin 4) (w : BitVec 32) (b : BitVec 32) (s : State) (s1 : State), s.nextMove k 0x912 w b s1) :=
  ⟨⟨3, wImm (0x500 + 31) 4, 4#32, State.wMove wB (wImm (0x500 + 31) 4), State.wMove wB (wImm (0x500 + 31) 4), 31, ⟨by decide +kernel, wFetch_eq (by decide +kernel), by decide +kernel, _, rfl, by decide +kernel, by decide +kernel, rfl⟩, by decide +kernel⟩,
   ⟨3, wImm (0x400 + 7) 4, 4#32, State.wMove wB (wImm (0x400 + 7) 4), State.wMove wB (wImm (0x400 + 7) 4), 7, ⟨by decide +kernel, wFetch_eq (by decide +kernel), by decide +kernel, _, rfl, by decide +kernel, by decide +kernel, rfl⟩, by decide +kernel⟩,
   ⟨3, wImm 0x500 4 ||| 0x08000000#32, (State.wMove wB (wImm 0x500 4 ||| 0x08000000#32)).modCore 3 fun y => { y with g := 1#8 }, 0x500, ⟨.imm 4#32, 0x500, some (1, false)⟩, wFetch_eq (by decide +kernel), by decide +kernel⟩,
   ⟨3, 0xFFFFFFFF#32, State.wMove wB 0xFFFFFFFF#32, .illegal, 0, wFetch_eq (by decide +kernel), by decide +kernel⟩,
   ⟨3, wB.modCore 3 fun z => { z with port := some 191 }, 191, by decide +kernel⟩,
   ⟨3, wImm 0xB10 4, 4#32, State.wMove wB (wImm 0xB10 4), State.wMove wB (wImm 0xB10 4), ⟨by decide +kernel, wFetch_eq (by decide +kernel), by decide +kernel, _, rfl, by decide +kernel, by decide +kernel, rfl⟩⟩,
   ⟨3, wImm 0x310 4, 4#32, State.wMove wB (wImm 0x310 4), State.wMove wB (wImm 0x310 4), ⟨by decide +kernel, wFetch_eq (by decide +kernel), by decide +kernel, _, rfl, by decide +kernel, by decide +kernel, rfl⟩, by decide +kernel⟩,
   ⟨3, wImm 0x310 5, 5#32, State.wMove wB (wImm 0x310 5), State.wMove wB (wImm 0x310 5), ⟨by decide +kernel, wFetch_eq (by decide +kernel), by decide +kernel, _, rfl, by decide +kernel, by decide +kernel, rfl⟩, by decide +kernel⟩,
   ⟨3, wImm 0x311 4, 4#32, State.wMove wB (wImm 0x311 4), State.wMove wB (wImm 0x311 4), 16, ⟨by decide +kernel, wFetch_eq (by decide +kernel), by decide +kernel, _, rfl, by decide +kernel, by decide +kernel, rfl⟩, by decide +kernel⟩,
   ⟨3, wImm 0x312 4, 4#32, State.wMove wB (wImm 0x312 4), State.wMove wB (wImm 0x312 4), ⟨by decide +kernel, wFetch_eq (by decide +kernel), by decide +kernel, _, rfl, by decide +kernel, by decide +kernel, rfl⟩, by decide +kernel⟩,
   ⟨3, wImm 0x313 4, 4#32, State.wMove wB (wImm 0x313 4), State.wMove wB (wImm 0x313 4), 0, ⟨by decide +kernel, wFetch_eq (by decide +kernel), by decide +kernel, _, rfl, by decide +kernel, by decide +kernel, rfl⟩, by decide +kernel⟩,
   ⟨3, wImm 0x610 4, 4#32, (State.wMove wB (wImm 0x610 4)).modCore 3 fun z => { z with port := some 191 }, (State.wMove wB (wImm 0x610 4)).modCore 3 fun z => { z with port := some 191 }, 191, ⟨by decide +kernel, wFetch_eq (by decide +kernel), by decide +kernel, _, rfl, by decide +kernel, by decide +kernel, rfl⟩, by decide +kernel⟩,
   ⟨3, wImm 0x611 4, 4#32, (State.wMove wB (wImm 0x611 4)).modCore 3 fun z => { z with port := some 191 }, (State.wMove wB (wImm 0x611 4)).modCore 3 fun z => { z with port := some 191 }, 191, ⟨by decide +kernel, wFetch_eq (by decide +kernel), by decide +kernel, _, rfl, by decide +kernel, by decide +kernel, rfl⟩, by decide +kernel⟩,
   ⟨3, wImm 0x612 4, 4#32, (State.wMove wB (wImm 0x612 4)).modCore 3 fun z => { z with port := some 191 }, (State.wMove wB (wImm 0x612 4)).modCore 3 fun z => { z with port := some 191 }, 191, ⟨by decide +kernel, wFetch_eq (by decide +kernel), by decide +kernel, _, rfl, by decide +kernel, by decide +kernel, rfl⟩, by decide +kernel⟩,
   ⟨3, wImm 0x710 4, 4#32, (State.wMove wB (wImm 0x710 4)).modCore 3 fun z => { z with port := some 191 }, (State.wMove wB (wImm 0x710 4)).modCore 3 fun z => { z with port := some 191 }, 191, ⟨by decide +kernel, wFetch_eq (by decide +kernel), by decide +kernel, _, rfl, by decide +kernel, by decide +kernel, rfl⟩, by decide +kernel⟩,
   ⟨3, wImm 0x910 4, 4#32, State.wMove wB (wImm 0x910 4), State.wMove wB (wImm 0x910 4), ⟨by decide +kernel, wFetch_eq (by decide +kernel), by decide +kernel, _, rfl, by decide +kernel, by decide +kernel, rfl⟩⟩,
   ⟨3, wImm 0x911 4, 4#32, State.wMove wB (wImm 0x911 4), State.wMove wB (wImm 0x911 4), ⟨by decide +kernel, wFetch_eq (by decide +kernel), by decide +kernel, _, rfl, by decide +kernel, by decide +kernel, rfl⟩⟩,
   ⟨3, wImm 0x912 4, 4#32, State.wMove wB (wImm 0x912 4), State.wMove wB (wImm 0x912 4), ⟨by decide +kernel, wFetch_eq (by decide +kernel), by decide +kernel, _, rfl, by decide +kernel, by decide +kernel, rfl⟩⟩⟩

theorem witness_EvtAndMsgMoves :
    (∃ (k : Fin 4) (w : BitVec 32) (b : BitVec 32) (s : State) (s1 : State) (p : Fin 192), s.nextMove k 0x711 w b s1 ∧ (s1.coreAt k).evTo = BitVec.ofNat 32 p.val ∧ (s1.port p).sc.quar = false ∧ (s1.port p).sc.q = []) ∧
    (∃ (k : Fin 4) (w : BitVec 32) (b : BitVec 32) (s : State) (s1 : State), s.nextMove k 0x711 w b s1 ∧ 192 ≤ (s1.coreAt k).evTo.toNat) ∧
    (∃ (k : Fin 4) (w : BitVec 32) (b : BitVec 32) (s : State) (s1 : State), s.nextMove k 0x712 w b s1) ∧
    (∃ (k : Fin 4) (w : BitVec 32) (b : BitVec 32) (s : State) (s1 : State), s.nextMove k 0x713 w b s1 ∧ s1.hostFenced = true) ∧
    (∃ (k : Fin 4) (w : BitVec 32) (b : BitVec 32) (s : State) (s1 : State) (ws : List (BitVec 32)) (w1 : BitVec 32) (w2 : BitVec 32), s.nextMove k 0x713 w b s1 ∧ s1.hostFenced = false ∧ (s1.coreAt k).hw = ws ∧ ws[1]? = some w1 ∧ ws[2]? = some w2 ∧ bits w2 0 8 = 0 ∧ bits w1 16 8 ≤ 15 ∧ (s1.ring 2).room = true ∧ (s1.ring 2).irqCount = 0 ∧ (s1.ring 2).irqTime = 1 ∧ s1.link.waiting = []) ∧
    (∃ (k : Fin 4) (w : BitVec 32) (b : BitVec 32) (s : State) (s1 : State) (p : Fin 192), s.nextMove k 0x810 w b s1 ∧ (s1.coreAt k).port = some p ∧ (b.toNat < 2 ∨ 264 < b.toNat)) ∧
    (∃ (k : Fin 4) (w : BitVec 32) (b : BitVec 32) (s : State) (s1 : State) (p : Fin 192), s.nextMove k 0x810 w b s1 ∧ (s1.coreAt k).port = some p ∧ 2 ≤ b.toNat ∧ b.toNat ≤ 264 ∧ (s1.coreAt k).txFlags = 0#32 ∧ s1.portFenced p = false ∧ (s1.port p).cc.state = .attached ∧ (s1.port p).pd.tx = none ∧ s1.poisoned k .bench ((s1.seg k 5).base + 0x202) b.toNat = none) ∧
    (∃ (k : Fin 4) (w : BitVec 32) (b : BitVec 32) (s : State) (s1 : State) (p : Fin 192), s.nextMove k 0x810 w b s1 ∧ (s1.coreAt k).port = some p ∧ 2 ≤ b.toNat ∧ b.toNat ≤ 264 ∧ (s1.coreAt k).txFlags = 0#32 ∧ s1.portFenced p = false ∧ (s1.port p).cc.state ≠ .attached) ∧
    (∃ (k : Fin 4) (w : BitVec 32) (b : BitVec 32) (s : State) (s1 : State) (p : Fin 192), s.nextMove k 0x812 w b s1 ∧ (s1.coreAt k).port = some p ∧ bits b 0 4 = 1 ∧ bits b 6 2 = 0 ∧ s1.tileDeaf p = false ∧ (s1.port p).path.safeHeld = false ∧ (s1.port p).path.run = false ∧ (s1.port p).path.queued = none ∧ (s1.port p).cc.noTable 1 = false ∧ 3300 ≤ bits b 20 12 * 20 ∧ bits b 20 12 * 20 ≤ 50000 ∧ (s1.tileCfg (tileOf p)).stOvr = 0#16) ∧
    (∃ (k : Fin 4) (w : BitVec 32) (b : BitVec 32) (s : State) (s1 : State) (p : Fin 192), s.nextMove k 0x812 w b s1 ∧ (s1.coreAt k).port = some p ∧ bits b 0 4 = 0xF ∧ bits b 6 2 ≠ 3 ∧ s1.portFenced p = false ∧ (s1.port p).path.run = true ∧ (s1.port p).path.waiting = true ∧ s1.tileDeaf p = false ∧ seWait (s1.stepEntryOf p) = 7 ∧ seThr (s1.stepEntryOf p) = 1 ∧ seEnd (s1.stepEntryOf p) = false) ∧
    (∃ (k : Fin 4) (w : BitVec 32) (b : BitVec 32) (s : State) (s1 : State) (p : Fin 192), s.nextMove k 0x812 w b s1 ∧ (s1.coreAt k).port = some p ∧ (bits b 0 4 = 3 ∨ bits b 6 2 = 3)) ∧
    (∃ (k : Fin 4) (w : BitVec 32) (b : BitVec 32) (s : State) (s1 : State) (p : Fin 192), s.nextMove k 0x813 w b s1 ∧ (s1.coreAt k).port = some p ∧ s1.portFenced p = false ∧ (s1.port p).cc.state = .attached) :=
  ⟨⟨3, wImm 0x711 4, 4#32, (((State.wMove wB (wImm 0x711 4)).modCore 3 fun z => { z with evTo := BitVec.ofNat 32 191 }).modSc 191 fun z => { z with quar := false }).modSc 191 fun z => { z with q := [] }, (((State.wMove wB (wImm 0x711 4)).modCore 3 fun z => { z with evTo := BitVec.ofNat 32 191 }).modSc 191 fun z => { z with quar := false }).modSc 191 fun z => { z with q := [] }, 191, ⟨by decide +kernel, wFetch_eq (by decide +kernel), by decide +kernel, _, rfl, by decide +kernel, by decide +kernel, rfl⟩, by decide +kernel⟩,
   ⟨3, wImm 0x711 4, 4#32, (State.wMove wB (wImm 0x711 4)).modCore 3 fun y => { y with evTo := 192#32 }, (State.wMove wB (wImm 0x711 4)).modCore 3 fun y => { y with evTo := 192#32 }, ⟨by decide +kernel, wFetch_eq (by decide +kernel), by decide +kernel, _, rfl, by decide +kernel, by decide +kernel, rfl⟩, by decide +kernel⟩,
   ⟨3, wImm 0x712 4, 4#32, State.wMove wB (wImm 0x712 4), State.wMove wB (wImm 0x712 4), ⟨by decide +kernel, wFetch_eq (by decide +kernel), by decide +kernel, _, rfl, by decide +kernel, by decide +kernel, rfl⟩⟩,
   ⟨3, wImm 0x713 4, 4#32, (State.wMove wB (wImm 0x713 4)).modPwr fun y => { y with fenced := 0x3FFF#14 }, (State.wMove wB (wImm 0x713 4)).modPwr fun y => { y with fenced := 0x3FFF#14 }, ⟨by decide +kernel, wFetch_eq (by decide +kernel), by decide +kernel, _, rfl, by decide +kernel, by decide +kernel, rfl⟩, by decide +kernel⟩,
   ⟨3, wImm 0x713 4, 4#32, (((((State.wMove wB (wImm 0x713 4)).modRing 2 fun y => { y with enable := true, size := 8 }).modCore 3 fun z => { z with hw := ([0, 0x00020000#32, 0, 0]) }).modRing 2 fun z => { z with irqCount := 0 }).modRing 2 fun z => { z with irqTime := 1 }).modLink fun z => { z with waiting := [] }, (((((State.wMove wB (wImm 0x713 4)).modRing 2 fun y => { y with enable := true, size := 8 }).modCore 3 fun z => { z with hw := ([0, 0x00020000#32, 0, 0]) }).modRing 2 fun z => { z with irqCount := 0 }).modRing 2 fun z => { z with irqTime := 1 }).modLink fun z => { z with waiting := [] }, [0, 0x00020000#32, 0, 0], 0x00020000#32, 0, ⟨by decide +kernel, wFetch_eq (by decide +kernel), by decide +kernel, _, rfl, by decide +kernel, by decide +kernel, rfl⟩, by decide +kernel⟩,
   ⟨3, wImm 0x810 265, 265#32, (State.wMove wB (wImm 0x810 265)).modCore 3 fun z => { z with port := some 191 }, (State.wMove wB (wImm 0x810 265)).modCore 3 fun z => { z with port := some 191 }, 191, ⟨by decide +kernel, wFetch_eq (by decide +kernel), by decide +kernel, _, rfl, by decide +kernel, by decide +kernel, rfl⟩, by decide +kernel⟩,
   ⟨3, wImm 0x810 264, 264#32, (((((State.wMove wB (wImm 0x810 264)).wOn 191).modCore 3 fun z => { z with port := some 191 }).modCore 3 fun z => { z with txFlags := 0#32 }).modCc 191 fun z => { z with state := .attached }).modPd 191 fun z => { z with tx := none }, (((((State.wMove wB (wImm 0x810 264)).wOn 191).modCore 3 fun z => { z with port := some 191 }).modCore 3 fun z => { z with txFlags := 0#32 }).modCc 191 fun z => { z with state := .attached }).modPd 191 fun z => { z with tx := none }, 191, ⟨by decide +kernel, wFetch_eq (by decide +kernel), by decide +kernel, _, rfl, by decide +kernel, by decide +kernel, rfl⟩, by decide +kernel⟩,
   ⟨3, wImm 0x810 4, 4#32, (((State.wMove wB (wImm 0x810 4)).modCc 191 fun y => { y with state := .watch }).modCore 3 fun z => { z with port := some 191 }).modCore 3 fun z => { z with txFlags := 0#32 }, (((State.wMove wB (wImm 0x810 4)).modCc 191 fun y => { y with state := .watch }).modCore 3 fun z => { z with port := some 191 }).modCore 3 fun z => { z with txFlags := 0#32 }, 191, ⟨by decide +kernel, wFetch_eq (by decide +kernel), by decide +kernel, _, rfl, by decide +kernel, by decide +kernel, rfl⟩, by decide +kernel⟩,
   ⟨3, wPort 0x812 0x501, 0x0A500001#32, (((((State.wMove wB (wPort 0x812 0x501)).modCore 3 fun y => { y with x := [0, 0x0A500001#32] }).modCore 3 fun z => { z with port := some 191 }).modPath 191 fun z => { z with safeHeld := false }).modPath 191 fun z => { z with run := false }).modPath 191 fun z => { z with queued := none }, (((((State.wMove wB (wPort 0x812 0x501)).modCore 3 fun y => { y with x := [0, 0x0A500001#32] }).modCore 3 fun z => { z with port := some 191 }).modPath 191 fun z => { z with safeHeld := false }).modPath 191 fun z => { z with run := false }).modPath 191 fun z => { z with queued := none }, 191, ⟨by decide +kernel, wFetch_eq (by decide +kernel), by decide +kernel, _, rfl, by decide +kernel, by decide +kernel, rfl⟩, by decide +kernel⟩,
   ⟨3, wImm 0x812 15, 15#32, ((((State.wMove wB (wImm 0x812 15)).wStep 191 0 0 7 1 0).modCore 3 fun z => { z with port := some 191 }).modPath 191 fun z => { z with run := true }).modPath 191 fun z => { z with waiting := true }, ((((State.wMove wB (wImm 0x812 15)).wStep 191 0 0 7 1 0).modCore 3 fun z => { z with port := some 191 }).modPath 191 fun z => { z with run := true }).modPath 191 fun z => { z with waiting := true }, 191, ⟨by decide +kernel, wFetch_eq (by decide +kernel), by decide +kernel, _, rfl, by decide +kernel, by decide +kernel, rfl⟩, by decide +kernel⟩,
   ⟨3, wImm 0x812 3, 3#32, (State.wMove wB (wImm 0x812 3)).modCore 3 fun z => { z with port := some 191 }, (State.wMove wB (wImm 0x812 3)).modCore 3 fun z => { z with port := some 191 }, 191, ⟨by decide +kernel, wFetch_eq (by decide +kernel), by decide +kernel, _, rfl, by decide +kernel, by decide +kernel, rfl⟩, by decide +kernel⟩,
   ⟨3, wImm 0x813 4, 4#32, (((State.wMove wB (wImm 0x813 4)).wOn 191).modCore 3 fun z => { z with port := some 191 }).modCc 191 fun z => { z with state := .attached }, (((State.wMove wB (wImm 0x813 4)).wOn 191).modCore 3 fun z => { z with port := some 191 }).modCc 191 fun z => { z with state := .attached }, 191, ⟨by decide +kernel, wFetch_eq (by decide +kernel), by decide +kernel, _, rfl, by decide +kernel, by decide +kernel, rfl⟩, by decide +kernel⟩⟩

theorem witness_SchedulerSteps :
    (∃ (p : Fin 192) (i : Fin 16) (e : QEv) (s : State), (s.port p).sc.q[i.val]? = some e ∧ msCycles (s.param 0xB000 * (e.aged + 1)) ≤ s.aon - e.born) ∧
    (∃ (p : Fin 192) (i : Fin 16) (e : QEv) (s : State), (s.port p).sc.q[i.val]? = some e ∧ s.aon - e.born < msCycles (s.param 0xB000 * (e.aged + 1))) ∧
    (∃ (p : Fin 192) (t : Fin 8) (x : PortTimer) (s : State), (s.port p).sc.timers[t.val]? = some (some x) ∧ s.timerLeft x ≠ 0) ∧
    (∃ (p : Fin 192) (t : Fin 8) (x : PortTimer) (s : State), (s.port p).sc.timers[t.val]? = some (some x) ∧ s.timerLeft x = 0 ∧ (s.port p).sc.quar = false ∧ (s.port p).sc.q = []) ∧
    (∃ (p : Fin 192) (t : Fin 8) (s : State), (s.port p).sc.timers[t.val]? = some none) ∧
    (∃ (k : Fin 4) (p : Fin 192) (s : State), (s.coreAt k).port = some p ∧ (s.coreAt k).state = .run ∧ s.param 0xB004 ≤ (s.coreAt k).moves) ∧
    (∃ (p : Fin 192) (s : State), (s.port p).sc.deep = true) ∧
    (∃ (p : Fin 192) (d : List (BitVec 8)) (s : State), (s.port p).sc.deep = true ∧ s.deepUp = true ∧ bit (s.deepReq p) 29 = true ∧ bit (s.deepReq p) 30 = false ∧ (s.port p).sc.bench = none ∧ d.length = 1024) ∧
    (∃ (k : Fin 4) (p : Fin 192) (e : QEv) (s : State), (s.coreAt k).assign = some p ∧ (s.port p).ready = true ∧ (s.port p).sc.bench = some k ∧ (s.coreAt k).state = .idle ∧ firstEvent (s.port p).sc.q = some e ∧ s.ref.poison = [] ∧ s.ref.restarting = none ∧ s.upd.activating = false ∧ s.victim k ≠ none ∧ (s.victim k).map Prod.snd = some none) ∧
    (∃ (k : Fin 4) (s : State), s.ref.restarting = some k) ∧
    (∃ (s : State), s.ref.restarting = none ∧ s.upd.activating = false ∧ (∀ p : Fin 192, (s.port p).ready = false) ∧ (∀ k : Fin 4, (s.coreAt k).resv = none) ∧ s.ref.hb.length = 4) ∧
    (∃ (k : Fin 4) (p : Fin 192) (e : QEv) (s : State), s.ref.restarting = none ∧ s.upd.activating = false ∧ (∀ j : Fin 4, (s.coreAt j).state = .idle ∧ (s.coreAt j).assign = none ∧ (s.coreAt j).resv = none) ∧ s.readyList = [p] ∧ (s.port p).sc.bench = some k ∧ (s.port p).sc.pin = false ∧ (s.port p).sc.resv = none ∧ firstEvent (s.port p).sc.q = some e ∧ s.ref.poison = []) ∧
    (∃ (k : Fin 4) (j : Fin 4) (s : State), s.pwr.coresUp = true ∧ s.pwr.dev ≠ .deep ∧ s.ref.restarting = none ∧ s.ref.lastHang = none ∧ s.silent k = true ∧ s.silent j = false) ∧
    (∃ (s : State), s.pwr.coresUp = true ∧ s.pwr.dev ≠ .deep ∧ s.ref.restarting = none ∧ s.ref.lastHang = none ∧ (∀ j : Fin 4, s.silent j = true)) ∧
    (∃ (k : Fin 4) (a : Nat) (s : State), s.pwr.coresUp = true ∧ s.pwr.dev ≠ .deep ∧ s.ref.lastHang = some a ∧ s.aon - a < secCycles 3600 ∧ s.silent k = true) ∧
    (∃ (k : Fin 4) (s : State), s.silent k = false) ∧
    (∃ (k : Fin 4) (s : State), s.ref.restarting = some k ∧ (∀ j : Fin 4, (s.coreAt j).state = .idle) ∧ (s.coreAt k).port = none) ∧
    (∃ (s : State), s.pwr.dev ≠ .deep ∧ s.pwr.domUp = true) ∧
    (∃ (s : State), (s.pwr.dev = .deep ∨ s.pwr.domUp = false)) ∧
    (∃ (q : List QEv) (e : QEv) (x : QEv), firstEvent q = some e ∧ x ∈ q) :=
  ⟨⟨191, 15, wEv .timer 1, wB.modSc 191 fun y => { y with q := List.replicate 16 (wEv .timer 1) }, by decide +kernel⟩,
   ⟨191, 15, ⟨.timer, 1, 0#16, 5#32, 0, [], 0, 0, 500000000, none, none⟩, wB.modSc 191 fun y => { y with q := List.replicate 16 ⟨.timer, 1, 0#16, 5#32, 0, [], 0, 0, 500000000, none, none⟩ }, by decide +kernel⟩,
   ⟨191, 7, ⟨true, 5, 500000000⟩, wB.modSc 191 fun y => { y with timers := List.replicate 8 (some ⟨true, 5, 500000000⟩) }, by decide +kernel⟩,
   ⟨191, 7, ⟨true, 0, 0⟩, ((wB.modSc 191 fun y => { y with timers := List.replicate 8 (some ⟨true, 0, 0⟩) }).modSc 191 fun z => { z with quar := false }).modSc 191 fun z => { z with q := [] }, by decide +kernel⟩,
   ⟨191, 7, wB, by decide +kernel⟩,
   ⟨3, 191, ((wB.modCore 3 fun z => { z with port := some 191 }).modCore 3 fun z => { z with state := .run }).modCore 3 fun z => { z with moves := wB.param 0xB004 }, by decide +kernel⟩,
   ⟨191, wB.modSc 191 fun z => { z with deep := true }, by decide +kernel⟩,
   ⟨191, List.replicate 1024 1#8, ((((wB.wUp).modSc 191 fun y => { y with bench := none }).pageWrite 191 0 (bytesLE 4 0x20000000)).modSc 191 fun z => { z with deep := true }).modSc 191 fun z => { z with bench := none }, by decide +kernel⟩,
   ⟨3, 191, wEv .timer 1, (((((((allPorts.foldl (fun s j => s.modSc j fun y => { y with bench := none }) (wB)).modSc 191 fun y => { y with q := [wEv .timer 1] }).modCore 3 fun z => { z with assign := some 191 }).modSc 191 fun z => { z with bench := some 3 }).modCore 3 fun z => { z with state := .idle }).modRef fun z => { z with poison := [] }).modRef fun z => { z with restarting := none }).modUpd fun z => { z with activating := false }, by decide +kernel⟩,
   ⟨3, wB.modRef fun z => { z with restarting := some 3 }, by decide +kernel⟩,
   ⟨((allPorts.foldl (fun s j => s.modSc j fun y => { y with q := [] }) (wB)).modRef fun z => { z with restarting := none }).modUpd fun z => { z with activating := false }, by decide +kernel⟩,
   ⟨3, 191, wEv .timer 1, ((((((wB.wIdle.modSc 191 fun y => { y with q := [wEv .timer 1], bench := some 3 }).modRef fun z => { z with restarting := none }).modUpd fun z => { z with activating := false }).modSc 191 fun z => { z with bench := some 3 }).modSc 191 fun z => { z with pin := false }).modSc 191 fun z => { z with resv := none }).modRef fun z => { z with poison := [] }, by decide +kernel⟩,
   ⟨3, (0 : Fin 4), (((wB.modPwr fun z => { z with coresUp := true }).modRef fun z => { z with restarting := none }).modRef fun z => { z with lastHang := none }).modRef fun y => { y with hb := [(((wB.modPwr fun z => { z with coresUp := true }).modRef fun z => { z with restarting := none }).modRef fun z => { z with lastHang := none }).aon, (((wB.modPwr fun z => { z with coresUp := true }).modRef fun z => { z with restarting := none }).modRef fun z => { z with lastHang := none }).aon, (((wB.modPwr fun z => { z with coresUp := true }).modRef fun z => { z with restarting := none }).modRef fun z => { z with lastHang := none }).aon, 0] }, by decide +kernel⟩,
   ⟨((wB.modPwr fun z => { z with coresUp := true }).modRef fun z => { z with restarting := none }).modRef fun z => { z with lastHang := none }, by decide +kernel⟩,
   ⟨3, 499999999, (wB.modPwr fun z => { z with coresUp := true }).modRef fun z => { z with lastHang := some 499999999 }, by decide +kernel⟩,
   ⟨3, wB.modRef fun y => { y with hb := [wB.aon, wB.aon, wB.aon, wB.aon] }, by decide +kernel⟩,
   ⟨3, (((List.range 4).foldl (fun s j => s.modCore (Fin.ofNat 4 j) fun y => { y with state := .idle, port := none, assign := none, resv := none }) (wB)).modRef fun z => { z with restarting := some 3 }).modCore 3 fun z => { z with port := none }, by decide +kernel⟩,
   ⟨wB.modPwr fun z => { z with domUp := true }, by decide +kernel⟩,
   ⟨wB.modPwr fun z => { z with dev := .deep }, by decide +kernel⟩,
   ⟨[wEv .timer 1, wEv .fault 2], wEv .fault 2, wEv .timer 1, by decide +kernel⟩⟩

theorem witness_RingsAndDoorbells :
    (∃ (n : Fin 14) (v : BitVec 32) (full : Bool) (s : State), s.hostUp = true ∧ (full = false ∨ v >>> 16 ≠ 0#32 ∨ (s.ring n.val).enable = false)) ∧
    (∃ (n : Fin 14) (v : BitVec 32) (s : State), s.hostUp = true ∧ v >>> 16 = 0#32 ∧ (s.ring n.val).enable = true ∧ (n.val = 2 ∨ n.val = 3 ∨ n.val = 11 ∨ n.val = 12) ∧ (s.ring n.val).accepts false (v.setWidth 16) = true ∧ (s.ring n.val).state ≠ .draining) ∧
    (∃ (d : Desc) (s : State), (∀ k : Nat, k = 1 ∨ k = 9 ∨ k = 10 → (s.ring k).state = .disabled) ∧ s.hostUp = true ∧ (s.ring 0).enable = true ∧ (s.ring 0).state ≠ .draining ∧ (s.ring 0).chain = none ∧ (s.ring 0).hostIdx = (s.ring 0).devIdx ∧ 4 ≤ (s.ring 0).size ∧ s.cplRoom 0 = true ∧ s.link.fetched.length < 256 ∧ d.ring = 0 ∧ d.idx = (s.ring 0).devIdx ∧ d.phase = (s.ring 0).phase ∧ d.isTable = false) ∧
    (∃ (n : Fin 14) (d : Desc) (s : State), s.hostUp = true ∧ isHostRing n.val = true ∧ (s.ring n.val).state = .phaseWait ∧ (s.ring n.val).hostIdx ≠ (s.ring n.val).devIdx ∧ s.cplRoom n.val = true ∧ s.link.fetched.length < 256 ∧ d.ring = n.val ∧ d.idx = (s.ring n.val).devIdx ∧ d.phase ≠ (s.ring n.val).phase) ∧
    (∃ (n : Fin 14) (d : Desc) (s : State), s.hostUp = true ∧ isHostRing n.val = true ∧ (s.ring n.val).state = .phaseWait ∧ (s.ring n.val).chain = none ∧ (s.ring n.val).hostIdx = (s.ring n.val).devIdx + 1#16 ∧ s.cplRoom n.val = true ∧ s.link.fetched.length < 256 ∧ d.ring = n.val ∧ d.idx = (s.ring n.val).devIdx ∧ d.phase = (s.ring n.val).phase ∧ d.isTable = false) ∧
    (∃ (n : Fin 14) (s : State), isHostRing n.val = true ∧ (s.ring n.val).state = .phaseWait ∧ msCycles (s.param 0xA009) ≤ s.aon - (s.ring n.val).stallAt) ∧
    (∃ (n : Fin 14) (s : State), ((s.ring n.val).state ≠ .phaseWait ∨ s.aon - (s.ring n.val).stallAt < msCycles (s.param 0xA009))) ∧
    (∃ (n : Fin 14) (c : Chain) (s : State), isHostRing n.val = true ∧ (s.ring n.val).chain = some c ∧ c.ring = n.val ∧ msCycles (s.param 0xA007) ≤ s.aon - c.since) ∧
    (∃ (n : Fin 14) (c : Chain) (s : State), (s.ring n.val).chain = some c ∧ s.aon - c.since < msCycles (s.param 0xA007)) ∧
    (∃ (n : Fin 14) (s : State), (s.ring n.val).irqTime ≠ 0 ∧ (s.ring n.val).unsig ≠ 0 ∧ isHostRing n.val = false ∧ s.hostFenced = false) ∧
    (∃ (k : Fin 32) (e : MsixEntry) (s : State), s.hostUp = true ∧ s.link.msix[k.val]? = some e) ∧
    (∃ (off : Fin 4096), 0xE0 ≤ off.val ∧ (off.val < 0x800 ∨ 0xA00 ≤ off.val)) ∧
    (∃ (n : Fin 14) (v : BitVec 32) (s : State), s.hostUp = true ∧ bit v 31 = true ∧ 4 ≤ bits v 24 5 ∧ bits v 24 5 ≤ 16 ∧ (s.ring n.val).enable = false ∧ (s.ring n.val).state ≠ .draining ∧ (isHostRing n.val = true → (s.ring (cplRing n.val)).enable = true) ∧ (isHostRing n.val = true ∨ n.val = 2 ∨ n.val = 3 ∨ n.val = 11 ∨ n.val = 12)) ∧
    (∃ (n : Fin 14) (v : BitVec 32) (s : State), s.hostUp = true ∧ bit v 31 = true ∧ (s.ring n.val).enable = false ∧ (bits v 24 5 < 4 ∨ 16 < bits v 24 5 ∨ (s.ring n.val).state = .draining ∨ isHostRing n.val = true ∧ (s.ring (cplRing n.val)).enable = false)) ∧
    (∃ (n : Fin 14) (v : BitVec 32) (s : State), s.hostUp = true ∧ bit v 31 = false ∧ (s.ring n.val).enable = true ∧ isHostRing n.val = false ∧ (n.val = 2 ∨ n.val = 3 → s.cplInUse n.val = false)) ∧
    (∃ (n : Fin 14) (v : BitVec 32) (s : State), s.hostUp = true ∧ bit v 31 = false ∧ (s.ring n.val).enable = true ∧ (n.val = 2 ∨ n.val = 3) ∧ s.cplInUse n.val = true) ∧
    (∃ (n : Fin 14) (v : BitVec 32) (s : State), s.hostUp = true ∧ bit v 31 = false ∧ (s.ring n.val).enable = true ∧ isHostRing n.val = true) ∧
    (∃ (n : Fin 14) (s : State), isHostRing n.val = true ∧ (s.ring n.val).state = .phaseWait ∧ msCycles (s.param 0xA009) ≤ s.aon - (s.ring n.val).stallAt ∧ s.evtRoom = true ∧ s.link.backlog = [] ∧ s.summaryPending = false ∧ (s.ring 4).out.length = (s.ring 4).occ) :=
  ⟨⟨(13 : Fin 14), 0, false, wB, by decide +kernel⟩,
   ⟨(2 : Fin 14), 0, ((State.wRings wB)).modRing 2 fun z => { z with enable := true }, by decide +kernel⟩,
   ⟨⟨0, 0#16, 0#8, 0x80#8, 7#16, 0xFFFF#16, 0#16, []⟩, (((((State.wRings wB)).modRing 0 fun z => { z with enable := true }).modRing 0 fun z => { z with chain := none }).modRing 0 fun z => { z with hostIdx := (wB.ring 0).devIdx }).modRing 0 fun z => { z with size := 4 }, (by
      rintro k (rfl | rfl | rfl) <;> decide +kernel), by decide +kernel⟩,
   ⟨(0 : Fin 14), ⟨0, 0#16, 0#8, 0x00#8, 7#16, 0xFFFF#16, 0#16, []⟩, ((State.wRings wB).modRing 0 fun y => { y with hostIdx := 3#16 }).modRing 0 fun z => { z with state := .phaseWait }, by decide +kernel⟩,
   ⟨(0 : Fin 14), ⟨0, 0#16, 0#8, 0x80#8, 7#16, 0xFFFF#16, 0#16, []⟩, ((((State.wRings wB)).modRing 0 fun z => { z with state := .phaseWait }).modRing 0 fun z => { z with chain := none }).modRing 0 fun z => { z with hostIdx := (wB.ring 0).devIdx + 1#16 }, by decide +kernel⟩,
   ⟨(0 : Fin 14), wB.modRing 0 fun z => { z with state := .phaseWait }, by decide +kernel⟩,
   ⟨(13 : Fin 14), wB, by decide +kernel⟩,
   ⟨(0 : Fin 14), ⟨0, 0x40#8, 7#16, 0#16, false, 0xFFFF#16, 0, 4, 0#32, [], false, 0⟩, wB.modRing 0 fun z => { z with chain := some (⟨0, 0x40#8, 7#16, 0#16, false, 0xFFFF#16, 0, 4, 0#32, [], false, 0⟩) }, by decide +kernel⟩,
   ⟨(0 : Fin 14), ⟨0, 0x40#8, 7#16, 0#16, false, 0xFFFF#16, 0, 4, 0#32, [], false, 500000000⟩, wB.modRing 0 fun z => { z with chain := some (⟨0, 0x40#8, 7#16, 0#16, false, 0xFFFF#16, 0, 4, 0#32, [], false, 500000000⟩) }, by decide +kernel⟩,
   ⟨(13 : Fin 14), (wB.modRing 13 fun z => { z with irqTime := 1 }).modRing 13 fun z => { z with unsig := 1 }, by decide +kernel⟩,
   ⟨(31 : Fin 32), default, wB.modLink fun y => { y with msix := List.replicate 32 default }, by decide +kernel⟩,
   ⟨(4092 : Fin 4096), by decide +kernel⟩,
   ⟨(2 : Fin 14), 0x90000000#32, ((State.wRings wB)).modRing 2 fun z => { z with enable := false }, by decide +kernel⟩,
   ⟨(13 : Fin 14), 0x80000000#32, wB.modRing 13 fun z => { z with enable := false }, by decide +kernel⟩,
   ⟨(13 : Fin 14), 0, wB.modRing 13 fun z => { z with enable := true }, by decide +kernel⟩,
   ⟨(2 : Fin 14), 0, ((State.wRings wB)).modRing 2 fun z => { z with enable := true }, by decide +kernel⟩,
   ⟨(0 : Fin 14), 0, ((State.wRings wB)).modRing 0 fun z => { z with enable := true }, by decide +kernel⟩,
   ⟨(0 : Fin 14), ((((State.wRings wB).modRing 4 fun y => { y with enable := true, size := 4, devIdx := 20#16, hostIdx := 20#16 }).modRing 0 fun y => { y with state := .phaseWait, stallIdx := 3#16 }).modRing 0 fun z => { z with state := .phaseWait }).modLink fun z => { z with backlog := [] }, by decide +kernel⟩⟩

theorem witness_DescriptorChecks :
    (∃ (d : Desc) (s : State), ¬ d.opn ∈ definedOps ∧ s.descNext d = true) ∧
    (∃ (d : Desc) (s : State), s.fetchWait d < msCycles (s.param 0xB005)) ∧
    (∃ (d : Desc) (s : State), d ∈ s.link.fetched ∧ msCycles (s.param 0xB005) ≤ s.fetchWait d) ∧
    (∃ (d : Desc) (c : CplCode) (k : Nat) (b : List Byte) (s : State), d.opn = 0x00 ∧ s.descNext d = true ∧ s.descCheck d = some (c, k, b)) ∧
    (∃ (d : Desc) (p : Fin 192) (s : State), d.opn = 0x52 ∧ s.descNext d = true ∧ s.descCheck d = none ∧ d.portId = some p ∧ s.portFenced p = true) ∧
    (∃ (d : Desc) (s : State), s.descNext d = false) ∧
    (∃ (d : Desc) (s : State), d.isX = true ∧ s.expertOn .host = false) ∧
    (∃ (p : Fin 192) (s : State), (s.port p).pol.expect = .hostReply ∧ (s.port p).pol.outq = [] ∧ (∀ w ∈ s.link.waiting, w.what = .reply → w.also = [])) :=
  ⟨⟨wDesc 0xFF 0xFFFF [], wB.wFetched (wDesc 0xFF 0xFFFF []), by decide +kernel⟩,
   ⟨default, wB, by decide +kernel⟩,
   ⟨wDesc 0x00 0xFFFF [], (wB.wFetched (wDesc 0x00 0xFFFF [])).modLink fun y => { y with fetchAt := [(0, 0, 0)] }, by decide +kernel⟩,
   ⟨wDesc 0x00 0xFFFE [], .badField, 0, [4#8, 0#8], wB.wFetched (wDesc 0x00 0xFFFE []), by decide +kernel⟩,
   ⟨wDesc 0x52 191 [0#8, 0x10#8], 191, (wB.wFetched (wDesc 0x52 191 [0#8, 0x10#8])).modPwr fun y => { y with fenced := 0x3FFF#14 }, by decide +kernel⟩,
   ⟨default, wB, by decide +kernel⟩,
   ⟨wDesc 0x70 0xFFFF [0#8, 3#8], wB, by decide +kernel⟩,
   ⟨191, (wB.modPol 191 fun z => { z with expect := .hostReply }).modPol 191 fun z => { z with outq := [] }, by decide +kernel⟩⟩

theorem witness_PortDescriptors :
    (∃ (d : Desc) (s : State), s.starts d 0x00) ∧
    (∃ (d : Desc) (p : Fin 192) (s : State), s.starts d 0x01 ∧ d.portId = some p ∧ (s.port p).sb.state ≠ .disabled ∧ s.sealed = false ∧ (s.port p).retry.lock ≠ .stuckSwitch) ∧
    (∃ (d : Desc) (p : Fin 192) (s : State), s.starts d 0x01 ∧ d.portId = some p ∧ (s.port p).sb.state = .disabled ∧ (s.port p).pol.enabled = false ∧ (s.board.bEff : Int) - s.allocSum < s.board.reserve) ∧
    (∃ (d : Desc) (p : Fin 192) (s : State), s.starts d 0x01 ∧ d.portId = some p ∧ (s.port p).sb.state ≠ .disabled ∧ s.sealed = false ∧ (s.port p).retry.lock = .stuckSwitch ∧ 800 < (s.port p).smp.mv) ∧
    (∃ (d : Desc) (s : State), s.starts d 0x01 ∧ d.all = true ∧ s.sealed = false ∧ (∀ p : Fin 192, (s.port p).sb.state ≠ .disabled ∧ (s.port p).retry.lock ≠ .stuckSwitch ∧ s.portFenced p = false)) ∧
    (∃ (d : Desc) (p : Fin 192) (s : State), s.starts d 0x02 ∧ d.portId = some p ∧ (s.port p).pol.enabled = false ∧ (s.port p).pol.state ≠ .errorRecovery ∧ (s.port p).cc.state ≠ .bootRd ∧ (s.port p).cc.state ≠ .bootSink ∧ (s.tile (tileOf p)).cap = none ∧ s.link.waiting = [] ∧ (∀ e ∈ s.link.fetched, e ≠ d → e.portId ≠ some p)) ∧
    (∃ (d : Desc) (p : Fin 192) (s : State), s.starts d 0x02 ∧ d.portId = some p ∧ (s.port p).pol.enabled = true ∧ (s.port p).cc.state = .attached) ∧
    (∃ (d : Desc) (p : Fin 192) (s : State), s.starts d 0x02 ∧ d.portId = some p ∧ ((s.port p).cc.state = .bootRd ∨ (s.port p).cc.state = .bootSink) ∧ (s.port p).pol.state ≠ .errorRecovery) ∧
    (∃ (d : Desc) (p : Fin 192) (s : State), s.starts d 0x03 ∧ d.portId = some p ∧ s.hostRoom p = true) ∧
    (∃ (d : Desc) (p : Fin 192) (s : State), s.starts d 0x04 ∧ d.portId = some p ∧ s.hostRoom p = true ∧ (s.port p).pol.profile ≠ 15) ∧
    (∃ (d : Desc) (p : Fin 192) (s : State), s.starts d 0x05 ∧ d.portId = some p ∧ s.hostRoom p = true) ∧
    (∃ (d : Desc) (p : Fin 192) (s : State), s.starts d 0x06 ∧ d.portId = some p ∧ s.hostRoom p = true ∧ ((s.port p).pol.state = .detached ∨ (s.port p).pol.state = .typecOnly ∨ (s.port p).pol.state = .errorRecovery)) ∧
    (∃ (d : Desc) (p : Fin 192) (s : State), s.starts d 0x06 ∧ s.mayHardReset p ∧ d.portId = some p ∧ s.hostRoom p = true ∧ (s.port p).pol.state = .ready) ∧
    (∃ (d : Desc) (p : Fin 192) (s : State), s.starts d 0x10 ∧ d.portId = some p ∧ s.hostRoom p = true ∧ s.mayMessage p = true ∧ s.tileDeaf p = false ∧ (s.port p).pd.table ≠ .hold ∧ d.byte 9 = 0) ∧
    (∃ (d : Desc) (p : Fin 192) (s : State), s.starts d 0x10 ∧ d.portId = some p ∧ s.mayMessage p = false) ∧
    (∃ (d : Desc) (p : Fin 192) (s : State), s.starts d 0x11 ∧ d.portId = some p ∧ s.hostRoom p = true ∧ s.mayMessage p = true ∧ (s.port p).rally.idle = true ∧ s.tileDeaf p = false ∧ (s.port p).pd.table ≠ .hold ∧ vdmSvid (BitVec.ofNat 32 (d.fld 16 4)) ≠ rallySvid ∧ d.byte 8 = 0) ∧
    (∃ (d : Desc) (p : Fin 192) (s : State), s.starts d 0x11 ∧ d.portId = some p ∧ s.hostRoom p = true ∧ vdmSvid (BitVec.ofNat 32 (d.fld 16 4)) = rallySvid) ∧
    (∃ (d : Desc) (p : Fin 192) (s : State), s.starts d 0x12 ∧ d.portId = some p ∧ s.hostRoom p = true ∧ s.mayMessage p = true ∧ s.tileDeaf p = false ∧ (s.port p).pd.table ≠ .hold ∧ d.byte 8 = 2 ∧ (s.port p).path.vconn ≠ 0 ∧ (s.port p).pol.vcIncapable = false) ∧
    (∃ (d : Desc) (p : Fin 192) (s : State), s.starts d 0x12 ∧ d.portId = some p ∧ s.hostRoom p = true ∧ d.byte 8 = 1 ∧ (s.port p).path.vconn ≠ 0) ∧
    (∃ (d : Desc) (p : Fin 192) (s : State), s.starts d 0x13 ∧ d.portId = some p ∧ s.hostRoom p = true ∧ (s.port p).cc.state = .attached ∧ (s.port p).cc.partner = .sinkPoweredCable ∧ (s.port p).pol.discRun = false ∧ ((s.port p).pol.isReady = true → s.param 0x7000 ≠ 0 ∧ (s.port p).path.vconn ≠ 0)) ∧
    (∃ (d : Desc) (p : Fin 192) (s : State), s.starts d 0x13 ∧ d.portId = some p ∧ s.hostRoom p = true ∧ (s.port p).cc.state ≠ .attached) ∧
    (∃ (d : Desc) (p : Fin 192) (s : State), s.starts d 0x32 ∧ d.portId = some p ∧ (s.port p).smp.tlmRate = 0) ∧
    (∃ (d : Desc) (p : Fin 192) (s : State), s.starts d 0x32 ∧ d.portId = some p ∧ (s.port p).smp.tlmRate ≠ 0) ∧
    (∃ (d : Desc) (p : Fin 192) (s : State), s.starts d 0x31 ∧ d.portId = some p ∧ (s.tile (tileOf p)).cap = none ∧ (s.tile (tileOf p)).adcFaultA = false ∧ (s.tile (tileOf p)).adcFaultB = false) ∧
    (∃ (d : Desc) (s : State), s.starts d 0x31 ∧ d.portId = none ∧ (∀ t : Fin 8, (s.tile t).cap = none)) ∧
    (∃ (d : Desc) (p : Fin 192) (s : State), s.starts d 0x52 ∧ d.portId = some p ∧ (s.port p).sc.running = none ∧ (s.port p).sc.deep = false ∧ (s.link.waiting.filter fun w => w.port == some p && w.what == .ctxOut) = []) :=
  ⟨⟨wDesc 0x00 65535 [], wB.wFetched (wDesc 0x00 65535 []), by unfold State.starts; decide +kernel⟩,
   ⟨wDesc 0x01 191 [], 191, (wB.modSb 191 fun y => { y with state := .idle }).wFetched (wDesc 0x01 191 []), by unfold State.starts; decide +kernel, by decide +kernel⟩,
   ⟨wDesc 0x01 191 [], 191, ((((wB.modBoard fun y => { y with bEff := 0 }).wFetched (wDesc 0x01 191 [])).modSb 191 fun z => { z with state := .disabled }).modPol 191 fun z => { z with enabled := false }).modBoard fun y => { y with bEff := 0, reserve := 10 }, by unfold State.starts; decide +kernel, by decide +kernel⟩,
   ⟨wDesc 0x01 191 [], 191, (((wB.modSb 191 fun y => { y with state := .idle }).wFetched (wDesc 0x01 191 [])).modRetry 191 fun z => { z with lock := .stuckSwitch }).modPort 191 fun z => { z with smp := { z.smp with mv := 800 + 1 } }, by unfold State.starts; decide +kernel, by decide +kernel⟩,
   ⟨wDesc 0x01 65535 [], (allPorts.foldl (fun s j => s.modSb j fun y => { y with state := .idle }) (wB)).wFetched (wDesc 0x01 65535 []), by unfold State.starts; decide +kernel, by decide +kernel⟩,
   ⟨wDesc 0x02 191 [], 191, ((((wB.modCc 191 fun y => { y with state := .watch }).wFetched (wDesc 0x02 191 [])).modPol 191 fun z => { z with enabled := false }).modTile (tileOf 191) fun z => { z with cap := none }).modLink fun z => { z with waiting := [] }, by unfold State.starts; decide +kernel, by decide +kernel⟩,
   ⟨wDesc 0x02 191 [], 191, ((wB.wFetched (wDesc 0x02 191 [])).modPol 191 fun z => { z with enabled := true }).modCc 191 fun z => { z with state := .attached }, by unfold State.starts; decide +kernel, by decide +kernel⟩,
   ⟨wDesc 0x02 191 [], 191, (wB.wFetched (wDesc 0x02 191 [])).modCc 191 fun z => { z with state := .bootRd }, by unfold State.starts; decide +kernel, by decide +kernel⟩,
   ⟨wDesc 0x03 191 [5#8], 191, wB.wFetched (wDesc 0x03 191 [5#8]), by unfold State.starts; decide +kernel, by decide +kernel⟩,
   ⟨wDesc 0x04 191 [1#8, 0#8, 0#8, 0#8, 0#8, 0#8, 0#8, 0#8, 0x2C#8, 0x91#8, 1#8], 191, (wB.modPol 191 fun y => { y with profile := 5 }).wFetched (wDesc 0x04 191 [1#8, 0#8, 0#8, 0#8, 0#8, 0#8, 0#8, 0#8, 0x2C#8, 0x91#8, 1#8]), by unfold State.starts; decide +kernel, by decide +kernel⟩,
   ⟨wDesc 0x05 191 [], 191, wB.wFetched (wDesc 0x05 191 []), by unfold State.starts; decide +kernel, by decide +kernel⟩,
   ⟨wDesc 0x06 191 [], 191, (wB.wFetched (wDesc 0x06 191 [])).modPol 191 fun z => { z with state := .detached }, by unfold State.starts; decide +kernel, by decide +kernel⟩,
   ⟨wDesc 0x06 191 [], 191, ((wB.wOn 191).wFetched (wDesc 0x06 191 [])).modPol 191 fun z => { z with state := .ready }, by unfold State.starts; decide +kernel, by unfold State.mayHardReset; decide +kernel, by decide +kernel⟩,
   ⟨wDesc 0x10 191 [0#8, 0#8, 2#8, 0#8, 0#8, 0#8, 0#8, 0#8, 0x61#8, 1#8], 191, ((wB.wOn 191).modPol 191 fun y => { y with expect := .none }).wFetched (wDesc 0x10 191 [0#8, 0#8, 2#8, 0#8, 0#8, 0#8, 0#8, 0#8, 0x61#8, 1#8]), by unfold State.starts; decide +kernel, by decide +kernel⟩,
   ⟨wDesc 0x10 191 [0#8, 0#8, 2#8, 0#8, 0#8, 0#8, 0#8, 0#8, 0x61#8, 1#8], 191, (wB.modPol 191 fun y => { y with state := .detached }).wFetched (wDesc 0x10 191 [0#8, 0#8, 2#8, 0#8, 0#8, 0#8, 0#8, 0#8, 0x61#8, 1#8]), by unfold State.starts; decide +kernel, by decide +kernel⟩,
   ⟨wDesc 0x11 191 [0#8, 0#8, 0#8, 0#8, 0#8, 0#8, 0#8, 0#8, 1#8, 0x80#8, 0x34#8, 0x12#8], 191, ((wB.wOn 191).modPort 191 fun y => { y with rally := Rally.reset }).wFetched (wDesc 0x11 191 [0#8, 0#8, 0#8, 0#8, 0#8, 0#8, 0#8, 0#8, 1#8, 0x80#8, 0x34#8, 0x12#8]), by unfold State.starts; decide +kernel, by decide +kernel⟩,
   ⟨wDesc 0x11 191 [0#8, 0#8, 0#8, 0#8, 0#8, 0#8, 0#8, 0#8, 1#8, 0x80#8, 0x5D#8, 0x3C#8], 191, wB.wFetched (wDesc 0x11 191 [0#8, 0#8, 0#8, 0#8, 0#8, 0#8, 0#8, 0#8, 1#8, 0x80#8, 0x5D#8, 0x3C#8]), by unfold State.starts; decide +kernel, by decide +kernel⟩,
   ⟨wDesc 0x12 191 [2#8], 191, ((((wB.wOn 191).modPath 191 fun y => { y with vconn := 1 }).wFetched (wDesc 0x12 191 [2#8])).modPath 191 fun z => { z with vconn := 1 }).modPol 191 fun z => { z with vcIncapable := false }, by unfold State.starts; decide +kernel, by decide +kernel⟩,
   ⟨wDesc 0x12 191 [1#8], 191, ((wB.modPath 191 fun y => { y with vconn := 1 }).wFetched (wDesc 0x12 191 [1#8])).modPath 191 fun z => { z with vconn := 1 }, by unfold State.starts; decide +kernel, by decide +kernel⟩,
   ⟨wDesc 0x13 191 [], 191, (((wB.wFetched (wDesc 0x13 191 [])).modCc 191 fun z => { z with state := .attached }).modCc 191 fun z => { z with partner := .sinkPoweredCable }).modPol 191 fun z => { z with discRun := false }, by unfold State.starts; decide +kernel, by decide +kernel⟩,
   ⟨wDesc 0x13 191 [], 191, (wB.modCc 191 fun y => { y with state := .watch }).wFetched (wDesc 0x13 191 []), by unfold State.starts; decide +kernel, by decide +kernel⟩,
   ⟨wDesc 0x32 191 [1#8, 0#8], 191, (wB.wFetched (wDesc 0x32 191 [1#8, 0#8])).modPort 191 fun z => { z with smp := { z.smp with tlmRate := 0 } }, by unfold State.starts; decide +kernel, by decide +kernel⟩,
   ⟨wDesc 0x32 191 [1#8, 0#8], 191, (wB.wFetched (wDesc 0x32 191 [1#8, 0#8])).modPort 191 fun z => { z with smp := { z.smp with tlmRate := 1 } }, by unfold State.starts; decide +kernel, by decide +kernel⟩,
   ⟨wDesc 0x31 191 [1#8, 0#8, 0#8, 0#8, 0#8], 191, (((wB.wFetched (wDesc 0x31 191 [1#8, 0#8, 0#8, 0#8, 0#8])).modTile (tileOf 191) fun z => { z with cap := none }).modTile (tileOf 191) fun z => { z with adcFaultA := false }).modTile (tileOf 191) fun z => { z with adcFaultB := false }, by unfold State.starts; decide +kernel, by decide +kernel⟩,
   ⟨wDesc 0x31 65535 [1#8, 0#8, 0#8, 0#8, 0#8], (allTiles.foldl (fun s j => s.modTile j fun y => { y with cap := none }) (wB)).wFetched (wDesc 0x31 65535 [1#8, 0#8, 0#8, 0#8, 0#8]), by unfold State.starts; decide +kernel, by decide +kernel⟩,
   ⟨wDesc 0x52 191 [0#8, 0x10#8], 191, (((wB.modLink fun y => { y with waiting := [] }).wFetched (wDesc 0x52 191 [0#8, 0x10#8])).modSc 191 fun z => { z with running := none }).modSc 191 fun z => { z with deep := false }, by unfold State.starts; decide +kernel, by decide +kernel⟩⟩

theorem witness_DeviceDescriptors :
    (∃ (d : Desc) (s : State), s.starts d 0x20 ∧ s.sealed = false ∧ d.byte 16 = 1) ∧
    (∃ (d : Desc) (s : State), s.starts d 0x20 ∧ s.sealed = true) ∧
    (∃ (d : Desc) (p : Fin 192) (s : State), s.starts d 0x21 ∧ d.portId = some p ∧ s.sealed = false ∧ d.byte 14 = 2) ∧
    (∃ (d : Desc) (s : State), s.starts d 0x22 ∧ s.hud.state = .empty ∧ s.hud.staged = [] ∧ s.hud.curves = [] ∧ s.hud.newSteps = [] ∧ s.hud.newMsgs = []) ∧
    (∃ (d : Desc) (s : State), s.starts d 0x22 ∧ s.hud.state = .staged ∧ s.hud.staged = [] ∧ s.hud.curves = [] ∧ s.hud.newSteps = [] ∧ s.hud.newMsgs = []) ∧
    (∃ (d : Desc) (s : State), s.starts d 0x23 ∧ d.byte 8 = 0 ∧ (s.hud.state = .empty ∨ s.hud.state = .checked)) ∧
    (∃ (d : Desc) (s : State), s.starts d 0x23 ∧ d.byte 8 ≠ 1 ∧ s.sealed = true) ∧
    (∃ (d : Desc) (s : State), s.starts d 0x23 ∧ d.byte 8 = 1 ∧ s.armTimeBad (d.fld 16 8) = true) ∧
    (∃ (d : Desc) (s : State), s.starts d 0x24 ∧ s.hud.state ≠ .committed ∧ s.hud.svcSeq = none ∧ s.link.waiting = []) ∧
    (∃ (d : Desc) (s : State), s.starts d 0x30 ∧ s.meas.snapBusy = false ∧ s.meas.snapArmed = false ∧ d.byte 8 = 0) ∧
    (∃ (d : Desc) (s : State), s.starts d 0x30 ∧ s.meas.snapBusy = false ∧ s.meas.snapArmed = false ∧ d.byte 8 = 1) ∧
    (∃ (d : Desc) (s : State), s.starts d 0x30 ∧ s.meas.snapBusy = true) ∧
    (∃ (n : Fin 14) (c : Chain) (s : State), s.link.loads = [c] ∧ c.ring = n.val ∧ c.op = 0x40#8 ∧ c.busy = false ∧ 16 ≤ c.target ∧ c.target < 32 ∧ s.cfg.stRam.length = 16) ∧
    (∃ (n : Fin 14) (c : Chain) (s : State), s.link.loads = [c] ∧ c.ring = n.val ∧ c.op = 0x40#8 ∧ c.busy = true) ∧
    (∃ (n : Fin 14) (c : Chain) (t : Fin 8) (s : State), s.link.loads = [c] ∧ c.ring = n.val ∧ c.op = 0x42#8 ∧ c.busy = false ∧ c.target.testBit t.val = true) ∧
    (∃ (d : Desc) (s : State), s.starts d 0x41 ∧ s.sealed = false) ∧
    (∃ (d : Desc) (s : State), s.starts d 0x50 ∧ d.fld 8 2 ≠ 0xA006 ∧ d.fld 8 2 ≠ 0x8001 ∧ s.cfg.params = []) ∧
    (∃ (d : Desc) (s : State), s.starts d 0x51 ∧ d.fld 8 2 ≠ 0x8001) ∧
    (∃ (d : Desc) (s : State), s.starts d 0x53 ∧ d.byte 8 = 1 ∧ d.byte 12 = 1) ∧
    (∃ (d : Desc) (s : State), s.starts d 0x53 ∧ d.byte 8 = 2 ∧ d.byte 12 = 1 ∧ s.link.waiting = [] ∧ (∀ p : Fin 192, (s.port p).sc.deep = false)) ∧
    (∃ (d : Desc) (s : State), s.starts d 0x71 ∧ s.upd.armed ≠ some .atTime) ∧
    (∃ (d : Desc) (s : State), s.starts d 0x71 ∧ s.upd.armed = some .atTime) :=
  ⟨⟨wDesc 0x20 65535 [0x64#8, 0#8, 0#8, 0#8, 0#8, 0#8, 0#8, 0#8, 1#8], wB.wFetched (wDesc 0x20 65535 [0x64#8, 0#8, 0#8, 0#8, 0#8, 0#8, 0#8, 0#8, 1#8]), by unfold State.starts; decide +kernel, by decide +kernel⟩,
   ⟨wDesc 0x20 65535 [0x64#8, 0#8, 0#8, 0#8, 0#8, 0#8, 0#8, 0#8, 1#8], (wB.modHud fun y => { y with state := .armed }).wFetched (wDesc 0x20 65535 [0x64#8, 0#8, 0#8, 0#8, 0#8, 0#8, 0#8, 0#8, 1#8]), by unfold State.starts; decide +kernel, by decide +kernel⟩,
   ⟨wDesc 0x21 191 [1#8, 7#8, 0x32#8, 0#8, 0x0A#8, 0#8, 2#8], 191, wB.wFetched (wDesc 0x21 191 [1#8, 7#8, 0x32#8, 0#8, 0x0A#8, 0#8, 2#8]), by unfold State.starts; decide +kernel, by decide +kernel⟩,
   ⟨wDesc 0x22 65535 [], (((((wB.wFetched (wDesc 0x22 65535 [])).modHud fun z => { z with state := .empty }).modHud fun z => { z with staged := [] }).modHud fun z => { z with curves := [] }).modHud fun z => { z with newSteps := [] }).modHud fun z => { z with newMsgs := [] }, by unfold State.starts; decide +kernel, by decide +kernel⟩,
   ⟨wDesc 0x22 65535 [], (((((wB.wFetched (wDesc 0x22 65535 [])).modHud fun z => { z with state := .staged }).modHud fun z => { z with staged := [] }).modHud fun z => { z with curves := [] }).modHud fun z => { z with newSteps := [] }).modHud fun z => { z with newMsgs := [] }, by unfold State.starts; decide +kernel, by decide +kernel⟩,
   ⟨wDesc 0x23 65535 [0#8], (wB.wFetched (wDesc 0x23 65535 [0#8])).modHud fun z => { z with state := .empty }, by unfold State.starts; decide +kernel, by decide +kernel⟩,
   ⟨wDesc 0x23 65535 [0#8], (wB.modHud fun y => { y with state := .armed }).wFetched (wDesc 0x23 65535 [0#8]), by unfold State.starts; decide +kernel, by decide +kernel⟩,
   ⟨wDesc 0x23 65535 [1#8, 0#8, 0#8, 0#8, 0#8, 0#8, 0#8, 0#8, 1#8], wB.wFetched (wDesc 0x23 65535 [1#8, 0#8, 0#8, 0#8, 0#8, 0#8, 0#8, 0#8, 1#8]), by unfold State.starts; decide +kernel, by decide +kernel⟩,
   ⟨wDesc 0x24 65535 [], (((wB.modLink fun y => { y with waiting := [] }).wFetched (wDesc 0x24 65535 [])).modHud fun z => { z with svcSeq := none }).modLink fun z => { z with waiting := [] }, by unfold State.starts; decide +kernel, by decide +kernel⟩,
   ⟨wDesc 0x30 65535 [0#8], { { wB.wFetched (wDesc 0x30 65535 [0#8]) with meas := { (wB.wFetched (wDesc 0x30 65535 [0#8])).meas with snapBusy := false } } with meas := { ({ wB.wFetched (wDesc 0x30 65535 [0#8]) with meas := { (wB.wFetched (wDesc 0x30 65535 [0#8])).meas with snapBusy := false } }).meas with snapArmed := false } }, by unfold State.starts; decide +kernel, by decide +kernel⟩,
   ⟨wDesc 0x30 65535 [1#8], { { wB.wFetched (wDesc 0x30 65535 [1#8]) with meas := { (wB.wFetched (wDesc 0x30 65535 [1#8])).meas with snapBusy := false } } with meas := { ({ wB.wFetched (wDesc 0x30 65535 [1#8]) with meas := { (wB.wFetched (wDesc 0x30 65535 [1#8])).meas with snapBusy := false } }).meas with snapArmed := false } }, by unfold State.starts; decide +kernel, by decide +kernel⟩,
   ⟨wDesc 0x30 65535 [0#8], { wB.wFetched (wDesc 0x30 65535 [0#8]) with meas := { (wB.wFetched (wDesc 0x30 65535 [0#8])).meas with snapBusy := true } }, by unfold State.starts; decide +kernel, by decide +kernel⟩,
   ⟨(13 : Fin 14), ⟨13, 0x40#8, 7#16, 0#16, false, 0xFFFF#16, 31, 1, 0#32, [], false, 0⟩, (wB.modCfg fun y => { y with stRam := List.replicate 16 ⟨[], 0#32, false⟩ }).modLink fun z => { z with loads := [(⟨13, 0x40#8, 7#16, 0#16, false, 0xFFFF#16, 31, 1, 0#32, [], false, 0⟩)] }, by decide +kernel⟩,
   ⟨(13 : Fin 14), ⟨13, 0x40#8, 7#16, 0#16, false, 0xFFFF#16, 31, 1, 0#32, [], true, 0⟩, wB.modLink fun z => { z with loads := [(⟨13, 0x40#8, 7#16, 0#16, false, 0xFFFF#16, 31, 1, 0#32, [], true, 0⟩)] }, by decide +kernel⟩,
   ⟨(13 : Fin 14), ⟨13, 0x42#8, 7#16, 0#16, false, 0xFFFF#16, 128, 1, 0#32, [], false, 0⟩, (7 : Fin 8), wB.modLink fun z => { z with loads := [(⟨13, 0x42#8, 7#16, 0#16, false, 0xFFFF#16, 128, 1, 0#32, [], false, 0⟩)] }, by decide +kernel⟩,
   ⟨wDesc 0x41 65535 [2#8, 0#8, 0#8, 0#8, 0#8, 0#8, 0#8, 0#8, 0x14#8, 0#8, 1#8, 0#8, 0x14#8, 0#8, 1#8, 0#8, 0x14#8, 0#8, 1#8, 0#8, 0x14#8, 0#8, 1#8, 0#8, 0x14#8, 0#8, 1#8, 0#8, 0x14#8, 0#8, 1#8, 0#8, 0x14#8, 0#8, 1#8, 0#8, 0x14#8, 0#8, 1#8], wB.wFetched (wDesc 0x41 65535 [2#8, 0#8, 0#8, 0#8, 0#8, 0#8, 0#8, 0#8, 0x14#8, 0#8, 1#8, 0#8, 0x14#8, 0#8, 1#8, 0#8, 0x14#8, 0#8, 1#8, 0#8, 0x14#8, 0#8, 1#8, 0#8, 0x14#8, 0#8, 1#8, 0#8, 0x14#8, 0#8, 1#8, 0#8, 0x14#8, 0#8, 1#8, 0#8, 0x14#8, 0#8, 1#8]), by unfold State.starts; decide +kernel, by decide +kernel⟩,
   ⟨wDesc 0x50 65535 [0#8, 0x10#8, 0#8, 0#8, 0xC8#8], (wB.wFetched (wDesc 0x50 65535 [0#8, 0x10#8, 0#8, 0#8, 0xC8#8])).modCfg fun z => { z with params := [] }, by unfold State.starts; decide +kernel, by decide +kernel⟩,
   ⟨wDesc 0x51 65535 [0#8, 0x10#8], wB.wFetched (wDesc 0x51 65535 [0#8, 0x10#8]), by unfold State.starts; decide +kernel, by decide +kernel⟩,
   ⟨wDesc 0x53 65535 [1#8, 0#8, 4#8, 0#8, 1#8, 0#8, 0#8, 0#8, 0#8, 0x10#8], wB.wFetched (wDesc 0x53 65535 [1#8, 0#8, 4#8, 0#8, 1#8, 0#8, 0#8, 0#8, 0#8, 0x10#8]), by unfold State.starts; decide +kernel, by decide +kernel⟩,
   ⟨wDesc 0x53 65535 [2#8, 0#8, 4#8, 0#8, 1#8], (wB.wFetched (wDesc 0x53 65535 [2#8, 0#8, 4#8, 0#8, 1#8])).modLink fun z => { z with waiting := [] }, by unfold State.starts; decide +kernel, by decide +kernel⟩,
   ⟨wDesc 0x71 65535 [9#8], wB.wFetched (wDesc 0x71 65535 [9#8]), by unfold State.starts; decide +kernel, by decide +kernel⟩,
   ⟨wDesc 0x71 65535 [9#8], (wB.wFetched (wDesc 0x71 65535 [9#8])).modUpd fun z => { z with armed := some .atTime }, by unfold State.starts; decide +kernel, by decide +kernel⟩⟩

theorem witness_SessionsAndFeedControl :
    (∃ (d : Desc) (s : State) (uk : List Byte) (l : Level), s.starts d 0x60 ∧ s.link.sess = 0 ∧ s.unitKey = some uk ∧ levelOf (d.byte 8) = some l ∧ s.lockSecs = 0 ∧ d.fld 16 8 = 0) ∧
    (∃ (d : Desc) (s : State), s.starts d 0x60 ∧ s.link.sess ≠ 0) ∧
    (∃ (d : Desc) (s : State) (uk : List Byte) (l : Level), s.starts d 0x60 ∧ s.link.sess = 0 ∧ s.unitKey = some uk ∧ levelOf (d.byte 8) = some l ∧ s.lockSecs ≠ 0) ∧
    (∃ (d : Desc) (s : State) (uk : List Byte), s.starts d 0x61 ∧ s.link.sess ≠ 0 ∧ d.byte 8 = s.link.sess ∧ s.aon - s.link.openAt ≤ 60 * 32768 ∧ s.link.sessReq = .view ∧ s.unitKey = some uk ∧ (List.range 32).map (fun i => BitVec.ofNat 8 (d.byte (32 + i))) = hmac (s.levelKey uk .view) (chalBytes s.link.challenge ++ [Level.view.byte, BitVec.ofNat 8 s.link.sess])) ∧
    (∃ (d : Desc) (s : State), s.starts d 0x61 ∧ s.link.sess ≠ 0 ∧ d.byte 8 = s.link.sess ∧ s.unitKey = none) ∧
    (∃ (d : Desc) (s : State), s.starts d 0x62 ∧ s.link.sess ≠ 0 ∧ d.byte 8 = s.link.sess) ∧
    (∃ (d : Desc) (s : State), s.starts d 0x62 ∧ s.link.sess = 0) ∧
    (∃ (d : Desc) (s : State), s.starts d 0x63 ∧ s.link.level.isTech = true ∧ d.byte 8 = 1) ∧
    (∃ (d : Desc) (s : State), s.starts d 0x63 ∧ s.link.level.isTech = true ∧ d.byte 8 = 0) ∧
    (∃ (d : Desc) (s : State), s.starts d 0x63 ∧ s.link.level = .view ∧ s.link.sess ≠ 0 ∧ d.byte 8 = 1) ∧
    (∃ (s : State), s.aon - s.link.sessAt < secCycles 900) ∧
    (∃ (s : State), s.link.sess ≠ 0 ∧ secCycles 900 ≤ s.aon - s.link.sessAt) ∧
    (∃ (d : Desc) (s : State), s.starts d 0x70 ∧ d.byte 8 = 0 ∧ d.byte 9 = 1 ∧ s.ref.safe = false ∧ s.feedA.rated ≠ 0 ∧ s.feedA.shunt ≠ 0 ∧ s.feedA.use.rated ≠ 0 ∧ s.feedA.use.shunt ≠ 0 ∧ s.feedA.state = .disabled ∧ s.feedA.cause ≠ .stuckBank ∧ s.feedA.inWindow s.feedA.mv = false ∧ s.feedB.state = .active) ∧
    (∃ (d : Desc) (s : State), s.starts d 0x70 ∧ d.byte 8 = 0 ∧ d.byte 9 = 1 ∧ s.ref.safe = true) ∧
    (∃ (d : Desc) (s : State), s.starts d 0x70 ∧ d.byte 8 = 0 ∧ d.byte 9 = 2 ∧ s.ref.safe = false ∧ s.board.changeover = none ∧ s.feedA.state = .active ∧ s.feedB.state = .standby ∧ s.feedStuck = false) ∧
    (∃ (d : Desc) (s : State), s.starts d 0x70 ∧ d.byte 8 = 0 ∧ d.byte 9 = 2 ∧ s.board.changeover = none ∧ s.feedA.state = .active ∧ s.feedB.state ≠ .standby) ∧
    (∃ (d : Desc) (s : State), s.starts d 0x70 ∧ d.byte 8 = 0 ∧ d.byte 9 = 3 ∧ s.feedA.state = .backoff ∧ s.feedB.state = .active) :=
  ⟨⟨wDesc 0x60 65535 [1#8, 0#8, 0#8, 0#8, 0#8, 0#8, 0#8, 0#8, 0#8], (wB.wBoot.wFetched (wDesc 0x60 65535 [1#8, 0#8, 0#8, 0#8, 0#8, 0#8, 0#8, 0#8, 0#8])).modLink fun z => { z with sess := 0 }, (wB).wBoot.fuse.regionBytes .unitkey, .view, by unfold State.starts; decide +kernel, by decide +kernel⟩,
   ⟨wDesc 0x60 65535 [2#8], (wB.wFetched (wDesc 0x60 65535 [2#8])).modLink fun z => { z with sess := 1 }, by unfold State.starts; decide +kernel, by decide +kernel⟩,
   ⟨wDesc 0x60 65535 [1#8], ((((wB.wBoot).modSvc fun y => { y with lockN := 5, lockEnd := some ((wB).aon + 100000) }).wFetched (wDesc 0x60 65535 [1#8])).modLink fun z => { z with sess := 0 }).modLink fun y => { y with sess := 0, level := .none }, (wB).wBoot.fuse.regionBytes .unitkey, .view, by unfold State.starts; decide +kernel, by decide +kernel⟩,
   ⟨wDesc 0x61 0xFFFF ([1#8] ++ List.replicate 23 0#8 ++ hmac (List.replicate 32 9#8) (chalBytes wB.link.challenge ++ [Level.view.byte, 1#8])), ((((((wB.wBoot).modSvc fun y => { y with viewKey := some (List.replicate 32 9#8) })).wFetched (wDesc 0x61 0xFFFF ([1#8] ++ List.replicate 23 0#8 ++ hmac (List.replicate 32 9#8) (chalBytes wB.link.challenge ++ [Level.view.byte, 1#8])))).modLink fun z => { z with sess := 1 }).modLink fun z => { z with sessReq := .view }).modLink fun y => { y with openAt := wB.aon, sessReq := .view, level := .none }, (wB).wBoot.fuse.regionBytes .unitkey, by unfold State.starts; decide +kernel, by decide +kernel⟩,
   ⟨wDesc 0x61 65535 [1#8], ((wB.modFuse fun y => { y with read := false }).wFetched (wDesc 0x61 65535 [1#8])).modLink fun z => { z with sess := 1 }, by unfold State.starts; decide +kernel, by decide +kernel⟩,
   ⟨wDesc 0x62 65535 [1#8], (wB.wFetched (wDesc 0x62 65535 [1#8])).modLink fun z => { z with sess := 1 }, by unfold State.starts; decide +kernel, by decide +kernel⟩,
   ⟨wDesc 0x62 65535 [5#8], ((wB.wFetched (wDesc 0x62 65535 [5#8])).modLink fun z => { z with sess := 0 }).modLink fun y => { y with sess := 0, level := .none }, by unfold State.starts; decide +kernel, by decide +kernel⟩,
   ⟨wDesc 0x63 65535 [1#8], wB.wFetched (wDesc 0x63 65535 [1#8]), by unfold State.starts; decide +kernel, by decide +kernel⟩,
   ⟨wDesc 0x63 65535 [0#8], wB.wFetched (wDesc 0x63 65535 [0#8]), by unfold State.starts; decide +kernel, by decide +kernel⟩,
   ⟨wDesc 0x63 65535 [1#8], ((wB.wFetched (wDesc 0x63 65535 [1#8])).modLink fun z => { z with level := .view }).modLink fun z => { z with sess := 1 }, by unfold State.starts; decide +kernel, by decide +kernel⟩,
   ⟨wB.modLink fun y => { y with sessAt := wB.aon }, by decide +kernel⟩,
   ⟨wB.modLink fun z => { z with sess := 1 }, by decide +kernel⟩,
   ⟨wDesc 0x70 65535 [0#8, 1#8], { ({ { { { { { (({ wB with feedA := { (wB).feedA with gate := false } }).wFetched (wDesc 0x70 65535 [0#8, 1#8])).modRef fun z => { z with safe := false } with feedA := { ((({ wB with feedA := { (wB).feedA with gate := false } }).wFetched (wDesc 0x70 65535 [0#8, 1#8])).modRef fun z => { z with safe := false }).feedA with rated := 1 } } with feedA := { ({ (({ wB with feedA := { (wB).feedA with gate := false } }).wFetched (wDesc 0x70 65535 [0#8, 1#8])).modRef fun z => { z with safe := false } with feedA := { ((({ wB with feedA := { (wB).feedA with gate := false } }).wFetched (wDesc 0x70 65535 [0#8, 1#8])).modRef fun z => { z with safe := false }).feedA with rated := 1 } }).feedA with shunt := 1 } } with feedA := { ({ { (({ wB with feedA := { (wB).feedA with gate := false } }).wFetched (wDesc 0x70 65535 [0#8, 1#8])).modRef fun z => { z with safe := false } with feedA := { ((({ wB with feedA := { (wB).feedA with gate := false } }).wFetched (wDesc 0x70 65535 [0#8, 1#8])).modRef fun z => { z with safe := false }).feedA with rated := 1 } } with feedA := { ({ (({ wB with feedA := { (wB).feedA with gate := false } }).wFetched (wDesc 0x70 65535 [0#8, 1#8])).modRef fun z => { z with safe := false } with feedA := { ((({ wB with feedA := { (wB).feedA with gate := false } }).wFetched (wDesc 0x70 65535 [0#8, 1#8])).modRef fun z => { z with safe := false }).feedA with rated := 1 } }).feedA with shunt := 1 } }).feedA with use := { ({ { (({ wB with feedA := { (wB).feedA with gate := false } }).wFetched (wDesc 0x70 65535 [0#8, 1#8])).modRef fun z => { z with safe := false } with feedA := { ((({ wB with feedA := { (wB).feedA with gate := false } }).wFetched (wDesc 0x70 65535 [0#8, 1#8])).modRef fun z => { z with safe := false }).feedA with rated := 1 } } with feedA := { ({ (({ wB with feedA := { (wB).feedA with gate := false } }).wFetched (wDesc 0x70 65535 [0#8, 1#8])).modRef fun z => { z with safe := false } with feedA := { ((({ wB with feedA := { (wB).feedA with gate := false } }).wFetched (wDesc 0x70 65535 [0#8, 1#8])).modRef fun z => { z with safe := false }).feedA with rated := 1 } }).feedA with shunt := 1 } }).feedA.use with rated := 1 } } } with feedA := { ({ { { (({ wB with feedA := { (wB).feedA with gate := false } }).wFetched (wDesc 0x70 65535 [0#8, 1#8])).modRef fun z => { z with safe := false } with feedA := { ((({ wB with feedA := { (wB).feedA with gate := false } }).wFetched (wDesc 0x70 65535 [0#8, 1#8])).modRef fun z => { z with safe := false }).feedA with rated := 1 } } with feedA := { ({ (({ wB with feedA := { (wB).feedA with gate := false } }).wFetched (wDesc 0x70 65535 [0#8, 1#8])).modRef fun z => { z with safe := false } with feedA := { ((({ wB with feedA := { (wB).feedA with gate := false } }).wFetched (wDesc 0x70 65535 [0#8, 1#8])).modRef fun z => { z with safe := false }).feedA with rated := 1 } }).feedA with shunt := 1 } } with feedA := { ({ { (({ wB with feedA := { (wB).feedA with gate := false } }).wFetched (wDesc 0x70 65535 [0#8, 1#8])).modRef fun z => { z with safe := false } with feedA := { ((({ wB with feedA := { (wB).feedA with gate := false } }).wFetched (wDesc 0x70 65535 [0#8, 1#8])).modRef fun z => { z with safe := false }).feedA with rated := 1 } } with feedA := { ({ (({ wB with feedA := { (wB).feedA with gate := false } }).wFetched (wDesc 0x70 65535 [0#8, 1#8])).modRef fun z => { z with safe := false } with feedA := { ((({ wB with feedA := { (wB).feedA with gate := false } }).wFetched (wDesc 0x70 65535 [0#8, 1#8])).modRef fun z => { z with safe := false }).feedA with rated := 1 } }).feedA with shunt := 1 } }).feedA with use := { ({ { (({ wB with feedA := { (wB).feedA with gate := false } }).wFetched (wDesc 0x70 65535 [0#8, 1#8])).modRef fun z => { z with safe := false } with feedA := { ((({ wB with feedA := { (wB).feedA with gate := false } }).wFetched (wDesc 0x70 65535 [0#8, 1#8])).modRef fun z => { z with safe := false }).feedA with rated := 1 } } with feedA := { ({ (({ wB with feedA := { (wB).feedA with gate := false } }).wFetched (wDesc 0x70 65535 [0#8, 1#8])).modRef fun z => { z with safe := false } with feedA := { ((({ wB with feedA := { (wB).feedA with gate := false } }).wFetched (wDesc 0x70 65535 [0#8, 1#8])).modRef fun z => { z with safe := false }).feedA with rated := 1 } }).feedA with shunt := 1 } }).feedA.use with rated := 1 } } }).feedA with use := { ({ { { (({ wB with feedA := { (wB).feedA with gate := false } }).wFetched (wDesc 0x70 65535 [0#8, 1#8])).modRef fun z => { z with safe := false } with feedA := { ((({ wB with feedA := { (wB).feedA with gate := false } }).wFetched (wDesc 0x70 65535 [0#8, 1#8])).modRef fun z => { z with safe := false }).feedA with rated := 1 } } with feedA := { ({ (({ wB with feedA := { (wB).feedA with gate := false } }).wFetched (wDesc 0x70 65535 [0#8, 1#8])).modRef fun z => { z with safe := false } with feedA := { ((({ wB with feedA := { (wB).feedA with gate := false } }).wFetched (wDesc 0x70 65535 [0#8, 1#8])).modRef fun z => { z with safe := false }).feedA with rated := 1 } }).feedA with shunt := 1 } } with feedA := { ({ { (({ wB with feedA := { (wB).feedA with gate := false } }).wFetched (wDesc 0x70 65535 [0#8, 1#8])).modRef fun z => { z with safe := false } with feedA := { ((({ wB with feedA := { (wB).feedA with gate := false } }).wFetched (wDesc 0x70 65535 [0#8, 1#8])).modRef fun z => { z with safe := false }).feedA with rated := 1 } } with feedA := { ({ (({ wB with feedA := { (wB).feedA with gate := false } }).wFetched (wDesc 0x70 65535 [0#8, 1#8])).modRef fun z => { z with safe := false } with feedA := { ((({ wB with feedA := { (wB).feedA with gate := false } }).wFetched (wDesc 0x70 65535 [0#8, 1#8])).modRef fun z => { z with safe := false }).feedA with rated := 1 } }).feedA with shunt := 1 } }).feedA with use := { ({ { (({ wB with feedA := { (wB).feedA with gate := false } }).wFetched (wDesc 0x70 65535 [0#8, 1#8])).modRef fun z => { z with safe := false } with feedA := { ((({ wB with feedA := { (wB).feedA with gate := false } }).wFetched (wDesc 0x70 65535 [0#8, 1#8])).modRef fun z => { z with safe := false }).feedA with rated := 1 } } with feedA := { ({ (({ wB with feedA := { (wB).feedA with gate := false } }).wFetched (wDesc 0x70 65535 [0#8, 1#8])).modRef fun z => { z with safe := false } with feedA := { ((({ wB with feedA := { (wB).feedA with gate := false } }).wFetched (wDesc 0x70 65535 [0#8, 1#8])).modRef fun z => { z with safe := false }).feedA with rated := 1 } }).feedA with shunt := 1 } }).feedA.use with rated := 1 } } }).feedA.use with shunt := 1 } } } with feedA := { ({ { { { (({ wB with feedA := { (wB).feedA with gate := false } }).wFetched (wDesc 0x70 65535 [0#8, 1#8])).modRef fun z => { z with safe := false } with feedA := { ((({ wB with feedA := { (wB).feedA with gate := false } }).wFetched (wDesc 0x70 65535 [0#8, 1#8])).modRef fun z => { z with safe := false }).feedA with rated := 1 } } with feedA := { ({ (({ wB with feedA := { (wB).feedA with gate := false } }).wFetched (wDesc 0x70 65535 [0#8, 1#8])).modRef fun z => { z with safe := false } with feedA := { ((({ wB with feedA := { (wB).feedA with gate := false } }).wFetched (wDesc 0x70 65535 [0#8, 1#8])).modRef fun z => { z with safe := false }).feedA with rated := 1 } }).feedA with shunt := 1 } } with feedA := { ({ { (({ wB with feedA := { (wB).feedA with gate := false } }).wFetched (wDesc 0x70 65535 [0#8, 1#8])).modRef fun z => { z with safe := false } with feedA := { ((({ wB with feedA := { (wB).feedA with gate := false } }).wFetched (wDesc 0x70 65535 [0#8, 1#8])).modRef fun z => { z with safe := false }).feedA with rated := 1 } } with feedA := { ({ (({ wB with feedA := { (wB).feedA with gate := false } }).wFetched (wDesc 0x70 65535 [0#8, 1#8])).modRef fun z => { z with safe := false } with feedA := { ((({ wB with feedA := { (wB).feedA with gate := false } }).wFetched (wDesc 0x70 65535 [0#8, 1#8])).modRef fun z => { z with safe := false }).feedA with rated := 1 } }).feedA with shunt := 1 } }).feedA with use := { ({ { (({ wB with feedA := { (wB).feedA with gate := false } }).wFetched (wDesc 0x70 65535 [0#8, 1#8])).modRef fun z => { z with safe := false } with feedA := { ((({ wB with feedA := { (wB).feedA with gate := false } }).wFetched (wDesc 0x70 65535 [0#8, 1#8])).modRef fun z => { z with safe := false }).feedA with rated := 1 } } with feedA := { ({ (({ wB with feedA := { (wB).feedA with gate := false } }).wFetched (wDesc 0x70 65535 [0#8, 1#8])).modRef fun z => { z with safe := false } with feedA := { ((({ wB with feedA := { (wB).feedA with gate := false } }).wFetched (wDesc 0x70 65535 [0#8, 1#8])).modRef fun z => { z with safe := false }).feedA with rated := 1 } }).feedA with shunt := 1 } }).feedA.use with rated := 1 } } } with feedA := { ({ { { (({ wB with feedA := { (wB).feedA with gate := false } }).wFetched (wDesc 0x70 65535 [0#8, 1#8])).modRef fun z => { z with safe := false } with feedA := { ((({ wB with feedA := { (wB).feedA with gate := false } }).wFetched (wDesc 0x70 65535 [0#8, 1#8])).modRef fun z => { z with safe := false }).feedA with rated := 1 } } with feedA := { ({ (({ wB with feedA := { (wB).feedA with gate := false } }).wFetched (wDesc 0x70 65535 [0#8, 1#8])).modRef fun z => { z with safe := false } with feedA := { ((({ wB with feedA := { (wB).feedA with gate := false } }).wFetched (wDesc 0x70 65535 [0#8, 1#8])).modRef fun z => { z with safe := false }).feedA with rated := 1 } }).feedA with shunt := 1 } } with feedA := { ({ { (({ wB with feedA := { (wB).feedA with gate := false } }).wFetched (wDesc 0x70 65535 [0#8, 1#8])).modRef fun z => { z with safe := false } with feedA := { ((({ wB with feedA := { (wB).feedA with gate := false } }).wFetched (wDesc 0x70 65535 [0#8, 1#8])).modRef fun z => { z with safe := false }).feedA with rated := 1 } } with feedA := { ({ (({ wB with feedA := { (wB).feedA with gate := false } }).wFetched (wDesc 0x70 65535 [0#8, 1#8])).modRef fun z => { z with safe := false } with feedA := { ((({ wB with feedA := { (wB).feedA with gate := false } }).wFetched (wDesc 0x70 65535 [0#8, 1#8])).modRef fun z => { z with safe := false }).feedA with rated := 1 } }).feedA with shunt := 1 } }).feedA with use := { ({ { (({ wB with feedA := { (wB).feedA with gate := false } }).wFetched (wDesc 0x70 65535 [0#8, 1#8])).modRef fun z => { z with safe := false } with feedA := { ((({ wB with feedA := { (wB).feedA with gate := false } }).wFetched (wDesc 0x70 65535 [0#8, 1#8])).modRef fun z => { z with safe := false }).feedA with rated := 1 } } with feedA := { ({ (({ wB with feedA := { (wB).feedA with gate := false } }).wFetched (wDesc 0x70 65535 [0#8, 1#8])).modRef fun z => { z with safe := false } with feedA := { ((({ wB with feedA := { (wB).feedA with gate := false } }).wFetched (wDesc 0x70 65535 [0#8, 1#8])).modRef fun z => { z with safe := false }).feedA with rated := 1 } }).feedA with shunt := 1 } }).feedA.use with rated := 1 } } }).feedA with use := { ({ { { (({ wB with feedA := { (wB).feedA with gate := false } }).wFetched (wDesc 0x70 65535 [0#8, 1#8])).modRef fun z => { z with safe := false } with feedA := { ((({ wB with feedA := { (wB).feedA with gate := false } }).wFetched (wDesc 0x70 65535 [0#8, 1#8])).modRef fun z => { z with safe := false }).feedA with rated := 1 } } with feedA := { ({ (({ wB with feedA := { (wB).feedA with gate := false } }).wFetched (wDesc 0x70 65535 [0#8, 1#8])).modRef fun z => { z with safe := false } with feedA := { ((({ wB with feedA := { (wB).feedA with gate := false } }).wFetched (wDesc 0x70 65535 [0#8, 1#8])).modRef fun z => { z with safe := false }).feedA with rated := 1 } }).feedA with shunt := 1 } } with feedA := { ({ { (({ wB with feedA := { (wB).feedA with gate := false } }).wFetched (wDesc 0x70 65535 [0#8, 1#8])).modRef fun z => { z with safe := false } with feedA := { ((({ wB with feedA := { (wB).feedA with gate := false } }).wFetched (wDesc 0x70 65535 [0#8, 1#8])).modRef fun z => { z with safe := false }).feedA with rated := 1 } } with feedA := { ({ (({ wB with feedA := { (wB).feedA with gate := false } }).wFetched (wDesc 0x70 65535 [0#8, 1#8])).modRef fun z => { z with safe := false } with feedA := { ((({ wB with feedA := { (wB).feedA with gate := false } }).wFetched (wDesc 0x70 65535 [0#8, 1#8])).modRef fun z => { z with safe := false }).feedA with rated := 1 } }).feedA with shunt := 1 } }).feedA with use := { ({ { (({ wB with feedA := { (wB).feedA with gate := false } }).wFetched (wDesc 0x70 65535 [0#8, 1#8])).modRef fun z => { z with safe := false } with feedA := { ((({ wB with feedA := { (wB).feedA with gate := false } }).wFetched (wDesc 0x70 65535 [0#8, 1#8])).modRef fun z => { z with safe := false }).feedA with rated := 1 } } with feedA := { ({ (({ wB with feedA := { (wB).feedA with gate := false } }).wFetched (wDesc 0x70 65535 [0#8, 1#8])).modRef fun z => { z with safe := false } with feedA := { ((({ wB with feedA := { (wB).feedA with gate := false } }).wFetched (wDesc 0x70 65535 [0#8, 1#8])).modRef fun z => { z with safe := false }).feedA with rated := 1 } }).feedA with shunt := 1 } }).feedA.use with rated := 1 } } }).feedA.use with shunt := 1 } } }).feedA with state := .disabled } } with feedB := { ({ { { { { (({ wB with feedA := { (wB).feedA with gate := false } }).wFetched (wDesc 0x70 65535 [0#8, 1#8])).modRef fun z => { z with safe := false } with feedA := { ((({ wB with feedA := { (wB).feedA with gate := false } }).wFetched (wDesc 0x70 65535 [0#8, 1#8])).modRef fun z => { z with safe := false }).feedA with rated := 1 } } with feedA := { ({ (({ wB with feedA := { (wB).feedA with gate := false } }).wFetched (wDesc 0x70 65535 [0#8, 1#8])).modRef fun z => { z with safe := false } with feedA := { ((({ wB with feedA := { (wB).feedA with gate := false } }).wFetched (wDesc 0x70 65535 [0#8, 1#8])).modRef fun z => { z with safe := false }).feedA with rated := 1 } }).feedA with shunt := 1 } } with feedA := { ({ { (({ wB with feedA := { (wB).feedA with gate := false } }).wFetched (wDesc 0x70 65535 [0#8, 1#8])).modRef fun z => { z with safe := false } with feedA := { ((({ wB with feedA := { (wB).feedA with gate := false } }).wFetched (wDesc 0x70 65535 [0#8, 1#8])).modRef fun z => { z with safe := false }).feedA with rated := 1 } } with feedA := { ({ (({ wB with feedA := { (wB).feedA with gate := false } }).wFetched (wDesc 0x70 65535 [0#8, 1#8])).modRef fun z => { z with safe := false } with feedA := { ((({ wB with feedA := { (wB).feedA with gate := false } }).wFetched (wDesc 0x70 65535 [0#8, 1#8])).modRef fun z => { z with safe := false }).feedA with rated := 1 } }).feedA with shunt := 1 } }).feedA with use := { ({ { (({ wB with feedA := { (wB).feedA with gate := false } }).wFetched (wDesc 0x70 65535 [0#8, 1#8])).modRef fun z => { z with safe := false } with feedA := { ((({ wB with feedA := { (wB).feedA with gate := false } }).wFetched (wDesc 0x70 65535 [0#8, 1#8])).modRef fun z => { z with safe := false }).feedA with rated := 1 } } with feedA := { ({ (({ wB with feedA := { (wB).feedA with gate := false } }).wFetched (wDesc 0x70 65535 [0#8, 1#8])).modRef fun z => { z with safe := false } with feedA := { ((({ wB with feedA := { (wB).feedA with gate := false } }).wFetched (wDesc 0x70 65535 [0#8, 1#8])).modRef fun z => { z with safe := false }).feedA with rated := 1 } }).feedA with shunt := 1 } }).feedA.use with rated := 1 } } } with feedA := { ({ { { (({ wB with feedA := { (wB).feedA with gate := false } }).wFetched (wDesc 0x70 65535 [0#8, 1#8])).modRef fun z => { z with safe := false } with feedA := { ((({ wB with feedA := { (wB).feedA with gate := false } }).wFetched (wDesc 0x70 65535 [0#8, 1#8])).modRef fun z => { z with safe := false }).feedA with rated := 1 } } with feedA := { ({ (({ wB with feedA := { (wB).feedA with gate := false } }).wFetched (wDesc 0x70 65535 [0#8, 1#8])).modRef fun z => { z with safe := false } with feedA := { ((({ wB with feedA := { (wB).feedA with gate := false } }).wFetched (wDesc 0x70 65535 [0#8, 1#8])).modRef fun z => { z with safe := false }).feedA with rated := 1 } }).feedA with shunt := 1 } } with feedA := { ({ { (({ wB with feedA := { (wB).feedA with gate := false } }).wFetched (wDesc 0x70 65535 [0#8, 1#8])).modRef fun z => { z with safe := false } with feedA := { ((({ wB with feedA := { (wB).feedA with gate := false } }).wFetched (wDesc 0x70 65535 [0#8, 1#8])).modRef fun z => { z with safe := false }).feedA with rated := 1 } } with feedA := { ({ (({ wB with feedA := { (wB).feedA with gate := false } }).wFetched (wDesc 0x70 65535 [0#8, 1#8])).modRef fun z => { z with safe := false } with feedA := { ((({ wB with feedA := { (wB).feedA with gate := false } }).wFetched (wDesc 0x70 65535 [0#8, 1#8])).modRef fun z => { z with safe := false }).feedA with rated := 1 } }).feedA with shunt := 1 } }).feedA with use := { ({ { (({ wB with feedA := { (wB).feedA with gate := false } }).wFetched (wDesc 0x70 65535 [0#8, 1#8])).modRef fun z => { z with safe := false } with feedA := { ((({ wB with feedA := { (wB).feedA with gate := false } }).wFetched (wDesc 0x70 65535 [0#8, 1#8])).modRef fun z => { z with safe := false }).feedA with rated := 1 } } with feedA := { ({ (({ wB with feedA := { (wB).feedA with gate := false } }).wFetched (wDesc 0x70 65535 [0#8, 1#8])).modRef fun z => { z with safe := false } with feedA := { ((({ wB with feedA := { (wB).feedA with gate := false } }).wFetched (wDesc 0x70 65535 [0#8, 1#8])).modRef fun z => { z with safe := false }).feedA with rated := 1 } }).feedA with shunt := 1 } }).feedA.use with rated := 1 } } }).feedA with use := { ({ { { (({ wB with feedA := { (wB).feedA with gate := false } }).wFetched (wDesc 0x70 65535 [0#8, 1#8])).modRef fun z => { z with safe := false } with feedA := { ((({ wB with feedA := { (wB).feedA with gate := false } }).wFetched (wDesc 0x70 65535 [0#8, 1#8])).modRef fun z => { z with safe := false }).feedA with rated := 1 } } with feedA := { ({ (({ wB with feedA := { (wB).feedA with gate := false } }).wFetched (wDesc 0x70 65535 [0#8, 1#8])).modRef fun z => { z with safe := false } with feedA := { ((({ wB with feedA := { (wB).feedA with gate := false } }).wFetched (wDesc 0x70 65535 [0#8, 1#8])).modRef fun z => { z with safe := false }).feedA with rated := 1 } }).feedA with shunt := 1 } } with feedA := { ({ { (({ wB with feedA := { (wB).feedA with gate := false } }).wFetched (wDesc 0x70 65535 [0#8, 1#8])).modRef fun z => { z with safe := false } with feedA := { ((({ wB with feedA := { (wB).feedA with gate := false } }).wFetched (wDesc 0x70 65535 [0#8, 1#8])).modRef fun z => { z with safe := false }).feedA with rated := 1 } } with feedA := { ({ (({ wB with feedA := { (wB).feedA with gate := false } }).wFetched (wDesc 0x70 65535 [0#8, 1#8])).modRef fun z => { z with safe := false } with feedA := { ((({ wB with feedA := { (wB).feedA with gate := false } }).wFetched (wDesc 0x70 65535 [0#8, 1#8])).modRef fun z => { z with safe := false }).feedA with rated := 1 } }).feedA with shunt := 1 } }).feedA with use := { ({ { (({ wB with feedA := { (wB).feedA with gate := false } }).wFetched (wDesc 0x70 65535 [0#8, 1#8])).modRef fun z => { z with safe := false } with feedA := { ((({ wB with feedA := { (wB).feedA with gate := false } }).wFetched (wDesc 0x70 65535 [0#8, 1#8])).modRef fun z => { z with safe := false }).feedA with rated := 1 } } with feedA := { ({ (({ wB with feedA := { (wB).feedA with gate := false } }).wFetched (wDesc 0x70 65535 [0#8, 1#8])).modRef fun z => { z with safe := false } with feedA := { ((({ wB with feedA := { (wB).feedA with gate := false } }).wFetched (wDesc 0x70 65535 [0#8, 1#8])).modRef fun z => { z with safe := false }).feedA with rated := 1 } }).feedA with shunt := 1 } }).feedA.use with rated := 1 } } }).feedA.use with shunt := 1 } } } with feedA := { ({ { { { (({ wB with feedA := { (wB).feedA with gate := false } }).wFetched (wDesc 0x70 65535 [0#8, 1#8])).modRef fun z => { z with safe := false } with feedA := { ((({ wB with feedA := { (wB).feedA with gate := false } }).wFetched (wDesc 0x70 65535 [0#8, 1#8])).modRef fun z => { z with safe := false }).feedA with rated := 1 } } with feedA := { ({ (({ wB with feedA := { (wB).feedA with gate := false } }).wFetched (wDesc 0x70 65535 [0#8, 1#8])).modRef fun z => { z with safe := false } with feedA := { ((({ wB with feedA := { (wB).feedA with gate := false } }).wFetched (wDesc 0x70 65535 [0#8, 1#8])).modRef fun z => { z with safe := false }).feedA with rated := 1 } }).feedA with shunt := 1 } } with feedA := { ({ { (({ wB with feedA := { (wB).feedA with gate := false } }).wFetched (wDesc 0x70 65535 [0#8, 1#8])).modRef fun z => { z with safe := false } with feedA := { ((({ wB with feedA := { (wB).feedA with gate := false } }).wFetched (wDesc 0x70 65535 [0#8, 1#8])).modRef fun z => { z with safe := false }).feedA with rated := 1 } } with feedA := { ({ (({ wB with feedA := { (wB).feedA with gate := false } }).wFetched (wDesc 0x70 65535 [0#8, 1#8])).modRef fun z => { z with safe := false } with feedA := { ((({ wB with feedA := { (wB).feedA with gate := false } }).wFetched (wDesc 0x70 65535 [0#8, 1#8])).modRef fun z => { z with safe := false }).feedA with rated := 1 } }).feedA with shunt := 1 } }).feedA with use := { ({ { (({ wB with feedA := { (wB).feedA with gate := false } }).wFetched (wDesc 0x70 65535 [0#8, 1#8])).modRef fun z => { z with safe := false } with feedA := { ((({ wB with feedA := { (wB).feedA with gate := false } }).wFetched (wDesc 0x70 65535 [0#8, 1#8])).modRef fun z => { z with safe := false }).feedA with rated := 1 } } with feedA := { ({ (({ wB with feedA := { (wB).feedA with gate := false } }).wFetched (wDesc 0x70 65535 [0#8, 1#8])).modRef fun z => { z with safe := false } with feedA := { ((({ wB with feedA := { (wB).feedA with gate := false } }).wFetched (wDesc 0x70 65535 [0#8, 1#8])).modRef fun z => { z with safe := false }).feedA with rated := 1 } }).feedA with shunt := 1 } }).feedA.use with rated := 1 } } } with feedA := { ({ { { (({ wB with feedA := { (wB).feedA with gate := false } }).wFetched (wDesc 0x70 65535 [0#8, 1#8])).modRef fun z => { z with safe := false } with feedA := { ((({ wB with feedA := { (wB).feedA with gate := false } }).wFetched (wDesc 0x70 65535 [0#8, 1#8])).modRef fun z => { z with safe := false }).feedA with rated := 1 } } with feedA := { ({ (({ wB with feedA := { (wB).feedA with gate := false } }).wFetched (wDesc 0x70 65535 [0#8, 1#8])).modRef fun z => { z with safe := false } with feedA := { ((({ wB with feedA := { (wB).feedA with gate := false } }).wFetched (wDesc 0x70 65535 [0#8, 1#8])).modRef fun z => { z with safe := false }).feedA with rated := 1 } }).feedA with shunt := 1 } } with feedA := { ({ { (({ wB with feedA := { (wB).feedA with gate := false } }).wFetched (wDesc 0x70 65535 [0#8, 1#8])).modRef fun z => { z with safe := false } with feedA := { ((({ wB with feedA := { (wB).feedA with gate := false } }).wFetched (wDesc 0x70 65535 [0#8, 1#8])).modRef fun z => { z with safe := false }).feedA with rated := 1 } } with feedA := { ({ (({ wB with feedA := { (wB).feedA with gate := false } }).wFetched (wDesc 0x70 65535 [0#8, 1#8])).modRef fun z => { z with safe := false } with feedA := { ((({ wB with feedA := { (wB).feedA with gate := false } }).wFetched (wDesc 0x70 65535 [0#8, 1#8])).modRef fun z => { z with safe := false }).feedA with rated := 1 } }).feedA with shunt := 1 } }).feedA with use := { ({ { (({ wB with feedA := { (wB).feedA with gate := false } }).wFetched (wDesc 0x70 65535 [0#8, 1#8])).modRef fun z => { z with safe := false } with feedA := { ((({ wB with feedA := { (wB).feedA with gate := false } }).wFetched (wDesc 0x70 65535 [0#8, 1#8])).modRef fun z => { z with safe := false }).feedA with rated := 1 } } with feedA := { ({ (({ wB with feedA := { (wB).feedA with gate := false } }).wFetched (wDesc 0x70 65535 [0#8, 1#8])).modRef fun z => { z with safe := false } with feedA := { ((({ wB with feedA := { (wB).feedA with gate := false } }).wFetched (wDesc 0x70 65535 [0#8, 1#8])).modRef fun z => { z with safe := false }).feedA with rated := 1 } }).feedA with shunt := 1 } }).feedA.use with rated := 1 } } }).feedA with use := { ({ { { (({ wB with feedA := { (wB).feedA with gate := false } }).wFetched (wDesc 0x70 65535 [0#8, 1#8])).modRef fun z => { z with safe := false } with feedA := { ((({ wB with feedA := { (wB).feedA with gate := false } }).wFetched (wDesc 0x70 65535 [0#8, 1#8])).modRef fun z => { z with safe := false }).feedA with rated := 1 } } with feedA := { ({ (({ wB with feedA := { (wB).feedA with gate := false } }).wFetched (wDesc 0x70 65535 [0#8, 1#8])).modRef fun z => { z with safe := false } with feedA := { ((({ wB with feedA := { (wB).feedA with gate := false } }).wFetched (wDesc 0x70 65535 [0#8, 1#8])).modRef fun z => { z with safe := false }).feedA with rated := 1 } }).feedA with shunt := 1 } } with feedA := { ({ { (({ wB with feedA := { (wB).feedA with gate := false } }).wFetched (wDesc 0x70 65535 [0#8, 1#8])).modRef fun z => { z with safe := false } with feedA := { ((({ wB with feedA := { (wB).feedA with gate := false } }).wFetched (wDesc 0x70 65535 [0#8, 1#8])).modRef fun z => { z with safe := false }).feedA with rated := 1 } } with feedA := { ({ (({ wB with feedA := { (wB).feedA with gate := false } }).wFetched (wDesc 0x70 65535 [0#8, 1#8])).modRef fun z => { z with safe := false } with feedA := { ((({ wB with feedA := { (wB).feedA with gate := false } }).wFetched (wDesc 0x70 65535 [0#8, 1#8])).modRef fun z => { z with safe := false }).feedA with rated := 1 } }).feedA with shunt := 1 } }).feedA with use := { ({ { (({ wB with feedA := { (wB).feedA with gate := false } }).wFetched (wDesc 0x70 65535 [0#8, 1#8])).modRef fun z => { z with safe := false } with feedA := { ((({ wB with feedA := { (wB).feedA with gate := false } }).wFetched (wDesc 0x70 65535 [0#8, 1#8])).modRef fun z => { z with safe := false }).feedA with rated := 1 } } with feedA := { ({ (({ wB with feedA := { (wB).feedA with gate := false } }).wFetched (wDesc 0x70 65535 [0#8, 1#8])).modRef fun z => { z with safe := false } with feedA := { ((({ wB with feedA := { (wB).feedA with gate := false } }).wFetched (wDesc 0x70 65535 [0#8, 1#8])).modRef fun z => { z with safe := false }).feedA with rated := 1 } }).feedA with shunt := 1 } }).feedA.use with rated := 1 } } }).feedA.use with shunt := 1 } } }).feedA with state := .disabled } }).feedB with state := .active } }) with feedA := { (({ { { { { { (({ wB with feedA := { (wB).feedA with gate := false } }).wFetched (wDesc 0x70 65535 [0#8, 1#8])).modRef fun z => { z with safe := false } with feedA := { ((({ wB with feedA := { (wB).feedA with gate := false } }).wFetched (wDesc 0x70 65535 [0#8, 1#8])).modRef fun z => { z with safe := false }).feedA with rated := 1 } } with feedA := { ({ (({ wB with feedA := { (wB).feedA with gate := false } }).wFetched (wDesc 0x70 65535 [0#8, 1#8])).modRef fun z => { z with safe := false } with feedA := { ((({ wB with feedA := { (wB).feedA with gate := false } }).wFetched (wDesc 0x70 65535 [0#8, 1#8])).modRef fun z => { z with safe := false }).feedA with rated := 1 } }).feedA with shunt := 1 } } with feedA := { ({ { (({ wB with feedA := { (wB).feedA with gate := false } }).wFetched (wDesc 0x70 65535 [0#8, 1#8])).modRef fun z => { z with safe := false } with feedA := { ((({ wB with feedA := { (wB).feedA with gate := false } }).wFetched (wDesc 0x70 65535 [0#8, 1#8])).modRef fun z => { z with safe := false }).feedA with rated := 1 } } with feedA := { ({ (({ wB with feedA := { (wB).feedA with gate := false } }).wFetched (wDesc 0x70 65535 [0#8, 1#8])).modRef fun z => { z with safe := false } with feedA := { ((({ wB with feedA := { (wB).feedA with gate := false } }).wFetched (wDesc 0x70 65535 [0#8, 1#8])).modRef fun z => { z with safe := false }).feedA with rated := 1 } }).feedA with shunt := 1 } }).feedA with use := { ({ { (({ wB with feedA := { (wB).feedA with gate := false } }).wFetched (wDesc 0x70 65535 [0#8, 1#8])).modRef fun z => { z with safe := false } with feedA := { ((({ wB with feedA := { (wB).feedA with gate := false } }).wFetched (wDesc 0x70 65535 [0#8, 1#8])).modRef fun z => { z with safe := false }).feedA with rated := 1 } } with feedA := { ({ (({ wB with feedA := { (wB).feedA with gate := false } }).wFetched (wDesc 0x70 65535 [0#8, 1#8])).modRef fun z => { z with safe := false } with feedA := { ((({ wB with feedA := { (wB).feedA with gate := false } }).wFetched (wDesc 0x70 65535 [0#8, 1#8])).modRef fun z => { z with safe := false }).feedA with rated := 1 } }).feedA with shunt := 1 } }).feedA.use with rated := 1 } } } with feedA := { ({ { { (({ wB with feedA := { (wB).feedA with gate := false } }).wFetched (wDesc 0x70 65535 [0#8, 1#8])).modRef fun z => { z with safe := false } with feedA := { ((({ wB with feedA := { (wB).feedA with gate := false } }).wFetched (wDesc 0x70 65535 [0#8, 1#8])).modRef fun z => { z with safe := false }).feedA with rated := 1 } } with feedA := { ({ (({ wB with feedA := { (wB).feedA with gate := false } }).wFetched (wDesc 0x70 65535 [0#8, 1#8])).modRef fun z => { z with safe := false } with feedA := { ((({ wB with feedA := { (wB).feedA with gate := false } }).wFetched (wDesc 0x70 65535 [0#8, 1#8])).modRef fun z => { z with safe := false }).feedA with rated := 1 } }).feedA with shunt := 1 } } with feedA := { ({ { (({ wB with feedA := { (wB).feedA with gate := false } }).wFetched (wDesc 0x70 65535 [0#8, 1#8])).modRef fun z => { z with safe := false } with feedA := { ((({ wB with feedA := { (wB).feedA with gate := false } }).wFetched (wDesc 0x70 65535 [0#8, 1#8])).modRef fun z => { z with safe := false }).feedA with rated := 1 } } with feedA := { ({ (({ wB with feedA := { (wB).feedA with gate := false } }).wFetched (wDesc 0x70 65535 [0#8, 1#8])).modRef fun z => { z with safe := false } with feedA := { ((({ wB with feedA := { (wB).feedA with gate := false } }).wFetched (wDesc 0x70 65535 [0#8, 1#8])).modRef fun z => { z with safe := false }).feedA with rated := 1 } }).feedA with shunt := 1 } }).feedA with use := { ({ { (({ wB with feedA := { (wB).feedA with gate := false } }).wFetched (wDesc 0x70 65535 [0#8, 1#8])).modRef fun z => { z with safe := false } with feedA := { ((({ wB with feedA := { (wB).feedA with gate := false } }).wFetched (wDesc 0x70 65535 [0#8, 1#8])).modRef fun z => { z with safe := false }).feedA with rated := 1 } } with feedA := { ({ (({ wB with feedA := { (wB).feedA with gate := false } }).wFetched (wDesc 0x70 65535 [0#8, 1#8])).modRef fun z => { z with safe := false } with feedA := { ((({ wB with feedA := { (wB).feedA with gate := false } }).wFetched (wDesc 0x70 65535 [0#8, 1#8])).modRef fun z => { z with safe := false }).feedA with rated := 1 } }).feedA with shunt := 1 } }).feedA.use with rated := 1 } } }).feedA with use := { ({ { { (({ wB with feedA := { (wB).feedA with gate := false } }).wFetched (wDesc 0x70 65535 [0#8, 1#8])).modRef fun z => { z with safe := false } with feedA := { ((({ wB with feedA := { (wB).feedA with gate := false } }).wFetched (wDesc 0x70 65535 [0#8, 1#8])).modRef fun z => { z with safe := false }).feedA with rated := 1 } } with feedA := { ({ (({ wB with feedA := { (wB).feedA with gate := false } }).wFetched (wDesc 0x70 65535 [0#8, 1#8])).modRef fun z => { z with safe := false } with feedA := { ((({ wB with feedA := { (wB).feedA with gate := false } }).wFetched (wDesc 0x70 65535 [0#8, 1#8])).modRef fun z => { z with safe := false }).feedA with rated := 1 } }).feedA with shunt := 1 } } with feedA := { ({ { (({ wB with feedA := { (wB).feedA with gate := false } }).wFetched (wDesc 0x70 65535 [0#8, 1#8])).modRef fun z => { z with safe := false } with feedA := { ((({ wB with feedA := { (wB).feedA with gate := false } }).wFetched (wDesc 0x70 65535 [0#8, 1#8])).modRef fun z => { z with safe := false }).feedA with rated := 1 } } with feedA := { ({ (({ wB with feedA := { (wB).feedA with gate := false } }).wFetched (wDesc 0x70 65535 [0#8, 1#8])).modRef fun z => { z with safe := false } with feedA := { ((({ wB with feedA := { (wB).feedA with gate := false } }).wFetched (wDesc 0x70 65535 [0#8, 1#8])).modRef fun z => { z with safe := false }).feedA with rated := 1 } }).feedA with shunt := 1 } }).feedA with use := { ({ { (({ wB with feedA := { (wB).feedA with gate := false } }).wFetched (wDesc 0x70 65535 [0#8, 1#8])).modRef fun z => { z with safe := false } with feedA := { ((({ wB with feedA := { (wB).feedA with gate := false } }).wFetched (wDesc 0x70 65535 [0#8, 1#8])).modRef fun z => { z with safe := false }).feedA with rated := 1 } } with feedA := { ({ (({ wB with feedA := { (wB).feedA with gate := false } }).wFetched (wDesc 0x70 65535 [0#8, 1#8])).modRef fun z => { z with safe := false } with feedA := { ((({ wB with feedA := { (wB).feedA with gate := false } }).wFetched (wDesc 0x70 65535 [0#8, 1#8])).modRef fun z => { z with safe := false }).feedA with rated := 1 } }).feedA with shunt := 1 } }).feedA.use with rated := 1 } } }).feedA.use with shunt := 1 } } } with feedA := { ({ { { { (({ wB with feedA := { (wB).feedA with gate := false } }).wFetched (wDesc 0x70 65535 [0#8, 1#8])).modRef fun z => { z with safe := false } with feedA := { ((({ wB with feedA := { (wB).feedA with gate := false } }).wFetched (wDesc 0x70 65535 [0#8, 1#8])).modRef fun z => { z with safe := false }).feedA with rated := 1 } } with feedA := { ({ (({ wB with feedA := { (wB).feedA with gate := false } }).wFetched (wDesc 0x70 65535 [0#8, 1#8])).modRef fun z => { z with safe := false } with feedA := { ((({ wB with feedA := { (wB).feedA with gate := false } }).wFetched (wDesc 0x70 65535 [0#8, 1#8])).modRef fun z => { z with safe := false }).feedA with rated := 1 } }).feedA with shunt := 1 } } with feedA := { ({ { (({ wB with feedA := { (wB).feedA with gate := false } }).wFetched (wDesc 0x70 65535 [0#8, 1#8])).modRef fun z => { z with safe := false } with feedA := { ((({ wB with feedA := { (wB).feedA with gate := false } }).wFetched (wDesc 0x70 65535 [0#8, 1#8])).modRef fun z => { z with safe := false }).feedA with rated := 1 } } with feedA := { ({ (({ wB with feedA := { (wB).feedA with gate := false } }).wFetched (wDesc 0x70 65535 [0#8, 1#8])).modRef fun z => { z with safe := false } with feedA := { ((({ wB with feedA := { (wB).feedA with gate := false } }).wFetched (wDesc 0x70 65535 [0#8, 1#8])).modRef fun z => { z with safe := false }).feedA with rated := 1 } }).feedA with shunt := 1 } }).feedA with use := { ({ { (({ wB with feedA := { (wB).feedA with gate := false } }).wFetched (wDesc 0x70 65535 [0#8, 1#8])).modRef fun z => { z with safe := false } with feedA := { ((({ wB with feedA := { (wB).feedA with gate := false } }).wFetched (wDesc 0x70 65535 [0#8, 1#8])).modRef fun z => { z with safe := false }).feedA with rated := 1 } } with feedA := { ({ (({ wB with feedA := { (wB).feedA with gate := false } }).wFetched (wDesc 0x70 65535 [0#8, 1#8])).modRef fun z => { z with safe := false } with feedA := { ((({ wB with feedA := { (wB).feedA with gate := false } }).wFetched (wDesc 0x70 65535 [0#8, 1#8])).modRef fun z => { z with safe := false }).feedA with rated := 1 } }).feedA with shunt := 1 } }).feedA.use with rated := 1 } } } with feedA := { ({ { { (({ wB with feedA := { (wB).feedA with gate := false } }).wFetched (wDesc 0x70 65535 [0#8, 1#8])).modRef fun z => { z with safe := false } with feedA := { ((({ wB with feedA := { (wB).feedA with gate := false } }).wFetched (wDesc 0x70 65535 [0#8, 1#8])).modRef fun z => { z with safe := false }).feedA with rated := 1 } } with feedA := { ({ (({ wB with feedA := { (wB).feedA with gate := false } }).wFetched (wDesc 0x70 65535 [0#8, 1#8])).modRef fun z => { z with safe := false } with feedA := { ((({ wB with feedA := { (wB).feedA with gate := false } }).wFetched (wDesc 0x70 65535 [0#8, 1#8])).modRef fun z => { z with safe := false }).feedA with rated := 1 } }).feedA with shunt := 1 } } with feedA := { ({ { (({ wB with feedA := { (wB).feedA with gate := false } }).wFetched (wDesc 0x70 65535 [0#8, 1#8])).modRef fun z => { z with safe := false } with feedA := { ((({ wB with feedA := { (wB).feedA with gate := false } }).wFetched (wDesc 0x70 65535 [0#8, 1#8])).modRef fun z => { z with safe := false }).feedA with rated := 1 } } with feedA := { ({ (({ wB with feedA := { (wB).feedA with gate := false } }).wFetched (wDesc 0x70 65535 [0#8, 1#8])).modRef fun z => { z with safe := false } with feedA := { ((({ wB with feedA := { (wB).feedA with gate := false } }).wFetched (wDesc 0x70 65535 [0#8, 1#8])).modRef fun z => { z with safe := false }).feedA with rated := 1 } }).feedA with shunt := 1 } }).feedA with use := { ({ { (({ wB with feedA := { (wB).feedA with gate := false } }).wFetched (wDesc 0x70 65535 [0#8, 1#8])).modRef fun z => { z with safe := false } with feedA := { ((({ wB with feedA := { (wB).feedA with gate := false } }).wFetched (wDesc 0x70 65535 [0#8, 1#8])).modRef fun z => { z with safe := false }).feedA with rated := 1 } } with feedA := { ({ (({ wB with feedA := { (wB).feedA with gate := false } }).wFetched (wDesc 0x70 65535 [0#8, 1#8])).modRef fun z => { z with safe := false } with feedA := { ((({ wB with feedA := { (wB).feedA with gate := false } }).wFetched (wDesc 0x70 65535 [0#8, 1#8])).modRef fun z => { z with safe := false }).feedA with rated := 1 } }).feedA with shunt := 1 } }).feedA.use with rated := 1 } } }).feedA with use := { ({ { { (({ wB with feedA := { (wB).feedA with gate := false } }).wFetched (wDesc 0x70 65535 [0#8, 1#8])).modRef fun z => { z with safe := false } with feedA := { ((({ wB with feedA := { (wB).feedA with gate := false } }).wFetched (wDesc 0x70 65535 [0#8, 1#8])).modRef fun z => { z with safe := false }).feedA with rated := 1 } } with feedA := { ({ (({ wB with feedA := { (wB).feedA with gate := false } }).wFetched (wDesc 0x70 65535 [0#8, 1#8])).modRef fun z => { z with safe := false } with feedA := { ((({ wB with feedA := { (wB).feedA with gate := false } }).wFetched (wDesc 0x70 65535 [0#8, 1#8])).modRef fun z => { z with safe := false }).feedA with rated := 1 } }).feedA with shunt := 1 } } with feedA := { ({ { (({ wB with feedA := { (wB).feedA with gate := false } }).wFetched (wDesc 0x70 65535 [0#8, 1#8])).modRef fun z => { z with safe := false } with feedA := { ((({ wB with feedA := { (wB).feedA with gate := false } }).wFetched (wDesc 0x70 65535 [0#8, 1#8])).modRef fun z => { z with safe := false }).feedA with rated := 1 } } with feedA := { ({ (({ wB with feedA := { (wB).feedA with gate := false } }).wFetched (wDesc 0x70 65535 [0#8, 1#8])).modRef fun z => { z with safe := false } with feedA := { ((({ wB with feedA := { (wB).feedA with gate := false } }).wFetched (wDesc 0x70 65535 [0#8, 1#8])).modRef fun z => { z with safe := false }).feedA with rated := 1 } }).feedA with shunt := 1 } }).feedA with use := { ({ { (({ wB with feedA := { (wB).feedA with gate := false } }).wFetched (wDesc 0x70 65535 [0#8, 1#8])).modRef fun z => { z with safe := false } with feedA := { ((({ wB with feedA := { (wB).feedA with gate := false } }).wFetched (wDesc 0x70 65535 [0#8, 1#8])).modRef fun z => { z with safe := false }).feedA with rated := 1 } } with feedA := { ({ (({ wB with feedA := { (wB).feedA with gate := false } }).wFetched (wDesc 0x70 65535 [0#8, 1#8])).modRef fun z => { z with safe := false } with feedA := { ((({ wB with feedA := { (wB).feedA with gate := false } }).wFetched (wDesc 0x70 65535 [0#8, 1#8])).modRef fun z => { z with safe := false }).feedA with rated := 1 } }).feedA with shunt := 1 } }).feedA.use with rated := 1 } } }).feedA.use with shunt := 1 } } }).feedA with state := .disabled } } with feedB := { ({ { { { { (({ wB with feedA := { (wB).feedA with gate := false } }).wFetched (wDesc 0x70 65535 [0#8, 1#8])).modRef fun z => { z with safe := false } with feedA := { ((({ wB with feedA := { (wB).feedA with gate := false } }).wFetched (wDesc 0x70 65535 [0#8, 1#8])).modRef fun z => { z with safe := false }).feedA with rated := 1 } } with feedA := { ({ (({ wB with feedA := { (wB).feedA with gate := false } }).wFetched (wDesc 0x70 65535 [0#8, 1#8])).modRef fun z => { z with safe := false } with feedA := { ((({ wB with feedA := { (wB).feedA with gate := false } }).wFetched (wDesc 0x70 65535 [0#8, 1#8])).modRef fun z => { z with safe := false }).feedA with rated := 1 } }).feedA with shunt := 1 } } with feedA := { ({ { (({ wB with feedA := { (wB).feedA with gate := false } }).wFetched (wDesc 0x70 65535 [0#8, 1#8])).modRef fun z => { z with safe := false } with feedA := { ((({ wB with feedA := { (wB).feedA with gate := false } }).wFetched (wDesc 0x70 65535 [0#8, 1#8])).modRef fun z => { z with safe := false }).feedA with rated := 1 } } with feedA := { ({ (({ wB with feedA := { (wB).feedA with gate := false } }).wFetched (wDesc 0x70 65535 [0#8, 1#8])).modRef fun z => { z with safe := false } with feedA := { ((({ wB with feedA := { (wB).feedA with gate := false } }).wFetched (wDesc 0x70 65535 [0#8, 1#8])).modRef fun z => { z with safe := false }).feedA with rated := 1 } }).feedA with shunt := 1 } }).feedA with use := { ({ { (({ wB with feedA := { (wB).feedA with gate := false } }).wFetched (wDesc 0x70 65535 [0#8, 1#8])).modRef fun z => { z with safe := false } with feedA := { ((({ wB with feedA := { (wB).feedA with gate := false } }).wFetched (wDesc 0x70 65535 [0#8, 1#8])).modRef fun z => { z with safe := false }).feedA with rated := 1 } } with feedA := { ({ (({ wB with feedA := { (wB).feedA with gate := false } }).wFetched (wDesc 0x70 65535 [0#8, 1#8])).modRef fun z => { z with safe := false } with feedA := { ((({ wB with feedA := { (wB).feedA with gate := false } }).wFetched (wDesc 0x70 65535 [0#8, 1#8])).modRef fun z => { z with safe := false }).feedA with rated := 1 } }).feedA with shunt := 1 } }).feedA.use with rated := 1 } } } with feedA := { ({ { { (({ wB with feedA := { (wB).feedA with gate := false } }).wFetched (wDesc 0x70 65535 [0#8, 1#8])).modRef fun z => { z with safe := false } with feedA := { ((({ wB with feedA := { (wB).feedA with gate := false } }).wFetched (wDesc 0x70 65535 [0#8, 1#8])).modRef fun z => { z with safe := false }).feedA with rated := 1 } } with feedA := { ({ (({ wB with feedA := { (wB).feedA with gate := false } }).wFetched (wDesc 0x70 65535 [0#8, 1#8])).modRef fun z => { z with safe := false } with feedA := { ((({ wB with feedA := { (wB).feedA with gate := false } }).wFetched (wDesc 0x70 65535 [0#8, 1#8])).modRef fun z => { z with safe := false }).feedA with rated := 1 } }).feedA with shunt := 1 } } with feedA := { ({ { (({ wB with feedA := { (wB).feedA with gate := false } }).wFetched (wDesc 0x70 65535 [0#8, 1#8])).modRef fun z => { z with safe := false } with feedA := { ((({ wB with feedA := { (wB).feedA with gate := false } }).wFetched (wDesc 0x70 65535 [0#8, 1#8])).modRef fun z => { z with safe := false }).feedA with rated := 1 } } with feedA := { ({ (({ wB with feedA := { (wB).feedA with gate := false } }).wFetched (wDesc 0x70 65535 [0#8, 1#8])).modRef fun z => { z with safe := false } with feedA := { ((({ wB with feedA := { (wB).feedA with gate := false } }).wFetched (wDesc 0x70 65535 [0#8, 1#8])).modRef fun z => { z with safe := false }).feedA with rated := 1 } }).feedA with shunt := 1 } }).feedA with use := { ({ { (({ wB with feedA := { (wB).feedA with gate := false } }).wFetched (wDesc 0x70 65535 [0#8, 1#8])).modRef fun z => { z with safe := false } with feedA := { ((({ wB with feedA := { (wB).feedA with gate := false } }).wFetched (wDesc 0x70 65535 [0#8, 1#8])).modRef fun z => { z with safe := false }).feedA with rated := 1 } } with feedA := { ({ (({ wB with feedA := { (wB).feedA with gate := false } }).wFetched (wDesc 0x70 65535 [0#8, 1#8])).modRef fun z => { z with safe := false } with feedA := { ((({ wB with feedA := { (wB).feedA with gate := false } }).wFetched (wDesc 0x70 65535 [0#8, 1#8])).modRef fun z => { z with safe := false }).feedA with rated := 1 } }).feedA with shunt := 1 } }).feedA.use with rated := 1 } } }).feedA with use := { ({ { { (({ wB with feedA := { (wB).feedA with gate := false } }).wFetched (wDesc 0x70 65535 [0#8, 1#8])).modRef fun z => { z with safe := false } with feedA := { ((({ wB with feedA := { (wB).feedA with gate := false } }).wFetched (wDesc 0x70 65535 [0#8, 1#8])).modRef fun z => { z with safe := false }).feedA with rated := 1 } } with feedA := { ({ (({ wB with feedA := { (wB).feedA with gate := false } }).wFetched (wDesc 0x70 65535 [0#8, 1#8])).modRef fun z => { z with safe := false } with feedA := { ((({ wB with feedA := { (wB).feedA with gate := false } }).wFetched (wDesc 0x70 65535 [0#8, 1#8])).modRef fun z => { z with safe := false }).feedA with rated := 1 } }).feedA with shunt := 1 } } with feedA := { ({ { (({ wB with feedA := { (wB).feedA with gate := false } }).wFetched (wDesc 0x70 65535 [0#8, 1#8])).modRef fun z => { z with safe := false } with feedA := { ((({ wB with feedA := { (wB).feedA with gate := false } }).wFetched (wDesc 0x70 65535 [0#8, 1#8])).modRef fun z => { z with safe := false }).feedA with rated := 1 } } with feedA := { ({ (({ wB with feedA := { (wB).feedA with gate := false } }).wFetched (wDesc 0x70 65535 [0#8, 1#8])).modRef fun z => { z with safe := false } with feedA := { ((({ wB with feedA := { (wB).feedA with gate := false } }).wFetched (wDesc 0x70 65535 [0#8, 1#8])).modRef fun z => { z with safe := false }).feedA with rated := 1 } }).feedA with shunt := 1 } }).feedA with use := { ({ { (({ wB with feedA := { (wB).feedA with gate := false } }).wFetched (wDesc 0x70 65535 [0#8, 1#8])).modRef fun z => { z with safe := false } with feedA := { ((({ wB with feedA := { (wB).feedA with gate := false } }).wFetched (wDesc 0x70 65535 [0#8, 1#8])).modRef fun z => { z with safe := false }).feedA with rated := 1 } } with feedA := { ({ (({ wB with feedA := { (wB).feedA with gate := false } }).wFetched (wDesc 0x70 65535 [0#8, 1#8])).modRef fun z => { z with safe := false } with feedA := { ((({ wB with feedA := { (wB).feedA with gate := false } }).wFetched (wDesc 0x70 65535 [0#8, 1#8])).modRef fun z => { z with safe := false }).feedA with rated := 1 } }).feedA with shunt := 1 } }).feedA.use with rated := 1 } } }).feedA.use with shunt := 1 } } } with feedA := { ({ { { { (({ wB with feedA := { (wB).feedA with gate := false } }).wFetched (wDesc 0x70 65535 [0#8, 1#8])).modRef fun z => { z with safe := false } with feedA := { ((({ wB with feedA := { (wB).feedA with gate := false } }).wFetched (wDesc 0x70 65535 [0#8, 1#8])).modRef fun z => { z with safe := false }).feedA with rated := 1 } } with feedA := { ({ (({ wB with feedA := { (wB).feedA with gate := false } }).wFetched (wDesc 0x70 65535 [0#8, 1#8])).modRef fun z => { z with safe := false } with feedA := { ((({ wB with feedA := { (wB).feedA with gate := false } }).wFetched (wDesc 0x70 65535 [0#8, 1#8])).modRef fun z => { z with safe := false }).feedA with rated := 1 } }).feedA with shunt := 1 } } with feedA := { ({ { (({ wB with feedA := { (wB).feedA with gate := false } }).wFetched (wDesc 0x70 65535 [0#8, 1#8])).modRef fun z => { z with safe := false } with feedA := { ((({ wB with feedA := { (wB).feedA with gate := false } }).wFetched (wDesc 0x70 65535 [0#8, 1#8])).modRef fun z => { z with safe := false }).feedA with rated := 1 } } with feedA := { ({ (({ wB with feedA := { (wB).feedA with gate := false } }).wFetched (wDesc 0x70 65535 [0#8, 1#8])).modRef fun z => { z with safe := false } with feedA := { ((({ wB with feedA := { (wB).feedA with gate := false } }).wFetched (wDesc 0x70 65535 [0#8, 1#8])).modRef fun z => { z with safe := false }).feedA with rated := 1 } }).feedA with shunt := 1 } }).feedA with use := { ({ { (({ wB with feedA := { (wB).feedA with gate := false } }).wFetched (wDesc 0x70 65535 [0#8, 1#8])).modRef fun z => { z with safe := false } with feedA := { ((({ wB with feedA := { (wB).feedA with gate := false } }).wFetched (wDesc 0x70 65535 [0#8, 1#8])).modRef fun z => { z with safe := false }).feedA with rated := 1 } } with feedA := { ({ (({ wB with feedA := { (wB).feedA with gate := false } }).wFetched (wDesc 0x70 65535 [0#8, 1#8])).modRef fun z => { z with safe := false } with feedA := { ((({ wB with feedA := { (wB).feedA with gate := false } }).wFetched (wDesc 0x70 65535 [0#8, 1#8])).modRef fun z => { z with safe := false }).feedA with rated := 1 } }).feedA with shunt := 1 } }).feedA.use with rated := 1 } } } with feedA := { ({ { { (({ wB with feedA := { (wB).feedA with gate := false } }).wFetched (wDesc 0x70 65535 [0#8, 1#8])).modRef fun z => { z with safe := false } with feedA := { ((({ wB with feedA := { (wB).feedA with gate := false } }).wFetched (wDesc 0x70 65535 [0#8, 1#8])).modRef fun z => { z with safe := false }).feedA with rated := 1 } } with feedA := { ({ (({ wB with feedA := { (wB).feedA with gate := false } }).wFetched (wDesc 0x70 65535 [0#8, 1#8])).modRef fun z => { z with safe := false } with feedA := { ((({ wB with feedA := { (wB).feedA with gate := false } }).wFetched (wDesc 0x70 65535 [0#8, 1#8])).modRef fun z => { z with safe := false }).feedA with rated := 1 } }).feedA with shunt := 1 } } with feedA := { ({ { (({ wB with feedA := { (wB).feedA with gate := false } }).wFetched (wDesc 0x70 65535 [0#8, 1#8])).modRef fun z => { z with safe := false } with feedA := { ((({ wB with feedA := { (wB).feedA with gate := false } }).wFetched (wDesc 0x70 65535 [0#8, 1#8])).modRef fun z => { z with safe := false }).feedA with rated := 1 } } with feedA := { ({ (({ wB with feedA := { (wB).feedA with gate := false } }).wFetched (wDesc 0x70 65535 [0#8, 1#8])).modRef fun z => { z with safe := false } with feedA := { ((({ wB with feedA := { (wB).feedA with gate := false } }).wFetched (wDesc 0x70 65535 [0#8, 1#8])).modRef fun z => { z with safe := false }).feedA with rated := 1 } }).feedA with shunt := 1 } }).feedA with use := { ({ { (({ wB with feedA := { (wB).feedA with gate := false } }).wFetched (wDesc 0x70 65535 [0#8, 1#8])).modRef fun z => { z with safe := false } with feedA := { ((({ wB with feedA := { (wB).feedA with gate := false } }).wFetched (wDesc 0x70 65535 [0#8, 1#8])).modRef fun z => { z with safe := false }).feedA with rated := 1 } } with feedA := { ({ (({ wB with feedA := { (wB).feedA with gate := false } }).wFetched (wDesc 0x70 65535 [0#8, 1#8])).modRef fun z => { z with safe := false } with feedA := { ((({ wB with feedA := { (wB).feedA with gate := false } }).wFetched (wDesc 0x70 65535 [0#8, 1#8])).modRef fun z => { z with safe := false }).feedA with rated := 1 } }).feedA with shunt := 1 } }).feedA.use with rated := 1 } } }).feedA with use := { ({ { { (({ wB with feedA := { (wB).feedA with gate := false } }).wFetched (wDesc 0x70 65535 [0#8, 1#8])).modRef fun z => { z with safe := false } with feedA := { ((({ wB with feedA := { (wB).feedA with gate := false } }).wFetched (wDesc 0x70 65535 [0#8, 1#8])).modRef fun z => { z with safe := false }).feedA with rated := 1 } } with feedA := { ({ (({ wB with feedA := { (wB).feedA with gate := false } }).wFetched (wDesc 0x70 65535 [0#8, 1#8])).modRef fun z => { z with safe := false } with feedA := { ((({ wB with feedA := { (wB).feedA with gate := false } }).wFetched (wDesc 0x70 65535 [0#8, 1#8])).modRef fun z => { z with safe := false }).feedA with rated := 1 } }).feedA with shunt := 1 } } with feedA := { ({ { (({ wB with feedA := { (wB).feedA with gate := false } }).wFetched (wDesc 0x70 65535 [0#8, 1#8])).modRef fun z => { z with safe := false } with feedA := { ((({ wB with feedA := { (wB).feedA with gate := false } }).wFetched (wDesc 0x70 65535 [0#8, 1#8])).modRef fun z => { z with safe := false }).feedA with rated := 1 } } with feedA := { ({ (({ wB with feedA := { (wB).feedA with gate := false } }).wFetched (wDesc 0x70 65535 [0#8, 1#8])).modRef fun z => { z with safe := false } with feedA := { ((({ wB with feedA := { (wB).feedA with gate := false } }).wFetched (wDesc 0x70 65535 [0#8, 1#8])).modRef fun z => { z with safe := false }).feedA with rated := 1 } }).feedA with shunt := 1 } }).feedA with use := { ({ { (({ wB with feedA := { (wB).feedA with gate := false } }).wFetched (wDesc 0x70 65535 [0#8, 1#8])).modRef fun z => { z with safe := false } with feedA := { ((({ wB with feedA := { (wB).feedA with gate := false } }).wFetched (wDesc 0x70 65535 [0#8, 1#8])).modRef fun z => { z with safe := false }).feedA with rated := 1 } } with feedA := { ({ (({ wB with feedA := { (wB).feedA with gate := false } }).wFetched (wDesc 0x70 65535 [0#8, 1#8])).modRef fun z => { z with safe := false } with feedA := { ((({ wB with feedA := { (wB).feedA with gate := false } }).wFetched (wDesc 0x70 65535 [0#8, 1#8])).modRef fun z => { z with safe := false }).feedA with rated := 1 } }).feedA with shunt := 1 } }).feedA.use with rated := 1 } } }).feedA.use with shunt := 1 } } }).feedA with state := .disabled } }).feedB with state := .active } })).feedA with mv := 0 } }, by unfold State.starts; decide +kernel, by decide +kernel⟩,
   ⟨wDesc 0x70 65535 [0#8, 1#8], (wB.wFetched (wDesc 0x70 65535 [0#8, 1#8])).modRef fun z => { z with safe := true }, by unfold State.starts; decide +kernel, by decide +kernel⟩,
   ⟨wDesc 0x70 65535 [0#8, 2#8], { { ((({ wB with feedA := { (wB).feedA with state := .active }, board := { (wB).board with changeover := none }, feedB := { (wB).feedB with cause := .none } }).wFetched (wDesc 0x70 65535 [0#8, 2#8])).modRef fun z => { z with safe := false }).modBoard fun z => { z with changeover := none } with feedA := { (((({ wB with feedA := { (wB).feedA with state := .active }, board := { (wB).board with changeover := none }, feedB := { (wB).feedB with cause := .none } }).wFetched (wDesc 0x70 65535 [0#8, 2#8])).modRef fun z => { z with safe := false }).modBoard fun z => { z with changeover := none }).feedA with state := .active } } with feedB := { ({ ((({ wB with feedA := { (wB).feedA with state := .active }, board := { (wB).board with changeover := none }, feedB := { (wB).feedB with cause := .none } }).wFetched (wDesc 0x70 65535 [0#8, 2#8])).modRef fun z => { z with safe := false }).modBoard fun z => { z with changeover := none } with feedA := { (((({ wB with feedA := { (wB).feedA with state := .active }, board := { (wB).board with changeover := none }, feedB := { (wB).feedB with cause := .none } }).wFetched (wDesc 0x70 65535 [0#8, 2#8])).modRef fun z => { z with safe := false }).modBoard fun z => { z with changeover := none }).feedA with state := .active } }).feedB with state := .standby } }, by unfold State.starts; decide +kernel, by decide +kernel⟩,
   ⟨wDesc 0x70 65535 [0#8, 2#8], { (({ wB with feedA := { (wB).feedA with state := .active }, board := { (wB).board with changeover := none }, feedB := { (wB).feedB with cause := .none } } |> fun (y : State) => { y with feedB := { y.feedB with state := .waitWindow } }).wFetched (wDesc 0x70 65535 [0#8, 2#8])).modBoard fun z => { z with changeover := none } with feedA := { ((({ wB with feedA := { (wB).feedA with state := .active }, board := { (wB).board with changeover := none }, feedB := { (wB).feedB with cause := .none } } |> fun (y : State) => { y with feedB := { y.feedB with state := .waitWindow } }).wFetched (wDesc 0x70 65535 [0#8, 2#8])).modBoard fun z => { z with changeover := none }).feedA with state := .active } }, by unfold State.starts; decide +kernel, by decide +kernel⟩,
   ⟨wDesc 0x70 65535 [0#8, 3#8], { { wB.wFetched (wDesc 0x70 65535 [0#8, 3#8]) with feedA := { (wB.wFetched (wDesc 0x70 65535 [0#8, 3#8])).feedA with state := .backoff } } with feedB := { ({ wB.wFetched (wDesc 0x70 65535 [0#8, 3#8]) with feedA := { (wB.wFetched (wDesc 0x70 65535 [0#8, 3#8])).feedA with state := .backoff } }).feedB with state := .active } }, by unfold State.starts; decide +kernel, by decide +kernel⟩⟩

theorem witness_KickoffAppliesTheHuddle :
    (∃ (s : State), s.hud.state = .armed) ∧
    (∃ (s : State), s.hud.state ≠ .armed) ∧
    (∃ (s : State), s.hud.state = .armed ∧ s.hud.source = some .nextBoundary ∧ s.hud.ready = true ∧ s.hud.readyAt < s.aon) ∧
    (∃ (s : State), s.hud.state = .armed ∧ s.hud.source = some .atTime ∧ s.hud.dueAt ≤ s.aon + 1) ∧
    (∃ (s : State), s.hud.source = some .nextBoundary ∧ (s.hud.ready = false ∨ s.aon ≤ s.hud.readyAt)) ∧
    (∃ (s : State), s.hud.source = some .atTime ∧ s.aon + 1 < s.hud.dueAt) ∧
    (∃ (s : State), s.hud.source = some .kick) ∧
    (∃ (s : State), s.hud.state = .committed ∧ s.hud.svcSeq = none ∧ (s.hud.source = some .atTime → s.hud.dueAt ≤ s.aon)) ∧
    (∃ (s : State), s.hud.source = some .atTime ∧ s.aon < s.hud.dueAt) ∧
    (∃ (v : Word) (s : State), s.hud.state = .committed ∧ s.hud.staged = [⟨0x1000, v⟩] ∧ s.hud.curves = [] ∧ (s.hud.source = some .atTime → s.hud.dueAt ≤ s.aon)) ∧
    (∃ (p : Fin 192) (v : Word) (s : State), s.hud.state = .committed ∧ s.hud.staged = [⟨ppOff p.val 0x44, v⟩] ∧ s.hud.curves = [] ∧ (s.hud.source = some .atTime → s.hud.dueAt ≤ s.aon)) ∧
    (∃ (s : State), s.hud.state ≠ .committed) ∧
    (∃ (b : BitVec 8) (t : Fin 8) (v : Word) (s : State), s.hud.state = .committed ∧ s.hud.staged = [⟨0x1000, v⟩] ∧ s.hud.curves = [] ∧ b.getLsbD t.val = true ∧ s.tileFenced t = false ∧ (s.hud.source = some .atTime → s.hud.dueAt ≤ s.aon)) ∧
    (∃ (t : Fin 8) (s : State), (s.tile t).missed = true) ∧
    (∃ (t : Fin 8) (s : State), (s.tile t).missed = false) ∧
    (∃ (v : BitVec 32) (s : State), s.pwr.dev = .run ∧ s.pwr.domUp = true ∧ (bit v 0 = true ∨ s.kickArmed = false) ∧ bits v 8 8 ≠ 0) ∧
    (∃ (v : BitVec 32) (s : State), s.pwr.dev = .run ∧ s.pwr.domUp = true ∧ (bit v 0 = true ∨ s.kickArmed = false) ∧ bits v 8 8 = 0) ∧
    (∃ (v : BitVec 32) (s : State), (s.pwr.dev = .run ∧ bit v 0 = false ∧ s.kickArmed = true) ∨ s.pwr.dev = .deep ∨ s.pwr.domUp = false) :=
  ⟨⟨wB.modHud fun z => { z with state := .armed }, by decide +kernel⟩,
   ⟨wB, by decide +kernel⟩,
   ⟨{ ((wB.modHud fun z => { z with state := .armed }).modHud fun z => { z with source := some .nextBoundary }).modHud fun z => { z with ready := true } with aon := wB.hud.readyAt + 1 }, by decide +kernel⟩,
   ⟨(wB.modHud fun z => { z with state := .armed }).modHud fun z => { z with source := some .atTime }, by decide +kernel⟩,
   ⟨(wB.modHud fun z => { z with source := some .nextBoundary }).modHud fun z => { z with ready := false }, by decide +kernel⟩,
   ⟨(wB.modHud fun z => { z with source := some .atTime }).modHud fun z => { z with dueAt := wB.aon + 1 + 1 }, by decide +kernel⟩,
   ⟨wB.modHud fun z => { z with source := some .kick }, by decide +kernel⟩,
   ⟨((wB.modHud fun z => { z with state := .committed }).modHud fun z => { z with svcSeq := none }).modHud fun y => { y with source := some .nextBoundary }, by decide +kernel⟩,
   ⟨(wB.modHud fun z => { z with source := some .atTime }).modHud fun z => { z with dueAt := wB.aon + 1 }, by decide +kernel⟩,
   ⟨0, (((wB.modHud fun z => { z with state := .committed }).modHud fun z => { z with staged := [⟨0x1000, 0⟩] }).modHud fun z => { z with curves := [] }).modHud fun y => { y with source := some .nextBoundary }, by decide +kernel⟩,
   ⟨191, 0, (((wB.modHud fun z => { z with state := .committed }).modHud fun z => { z with staged := [⟨ppOff 191 0x44, 0⟩] }).modHud fun z => { z with curves := [] }).modHud fun y => { y with source := some .nextBoundary }, by decide +kernel⟩,
   ⟨wB, by decide +kernel⟩,
   ⟨0x80#8, 7, 0, (((wB.modHud fun z => { z with state := .committed }).modHud fun z => { z with staged := [⟨0x1000, 0⟩] }).modHud fun z => { z with curves := [] }).modHud fun y => { y with source := some .nextBoundary }, by decide +kernel⟩,
   ⟨7, wB.modTile 7 fun z => { z with missed := true }, by decide +kernel⟩,
   ⟨7, wB.modTile 7 fun z => { z with missed := false }, by decide +kernel⟩,
   ⟨0x00000501#32, (wB.modPwr fun z => { z with dev := .run }).modPwr fun z => { z with domUp := true }, by decide +kernel⟩,
   ⟨0, (wB.modPwr fun z => { z with dev := .run }).modPwr fun z => { z with domUp := true }, by decide +kernel⟩,
   ⟨0, wB.modHud fun y => { y with state := .armed, source := some .kick }, by decide +kernel⟩⟩

theorem witness_RefereeChecksReact :
    (∃ (r : HubRail) (mv : Nat) (s : State), s.ref.safe = false ∧ (∀ t : Fin 8, (s.tile t).safe = false) ∧ s.pwr.domUp = true ∧ (r = .vhub ∧ (mv < 740 ∨ 860 < mv) ∨ r = .vio ∧ (mv < 1620 ∨ 1980 < mv) ∨ r = .vaux ∧ (mv < 2970 ∨ 3630 < mv))) ∧
    (∃ (r : HubRail) (mv : Nat) (s : State), (r = .vhub ∧ 740 ≤ mv ∧ mv ≤ 860 ∨ r = .vio ∧ 1620 ≤ mv ∧ mv ≤ 1980 ∨ r = .vaux ∧ 2970 ≤ mv ∧ mv ≤ 3630 ∨ s.pwr.domUp = false)) ∧
    (∃ (s : State), s.ref.safe = true ∧ s.pwr.domUp = true) ∧
    (∃ (s : State), s.pwr.domUp = true) ∧
    (∃ (s : State), s.pwr.domUp = false) ∧
    (∃ (t : Fin 8) (s : State), (s.tile t).safe = false ∧ s.pwr.domUp = true) ∧
    (∃ (t : Fin 8) (mv : Nat) (s : State), (s.tile t).safe = false ∧ s.pwr.domUp = true ∧ (s.tile t).released = true ∧ (mv < 4500 ∨ 5500 < mv)) ∧
    (∃ (t : Fin 8) (mv : Nat) (s : State), (4500 ≤ mv ∧ mv ≤ 5500 ∨ (s.tile t).released = false)) ∧
    (∃ (s : State), s.pwr.pllRun = true) ∧
    (∃ (s : State), s.pwr.pllRun = false ∧ s.pwr.domUp = true) ∧
    (∃ (s : State), s.ref.selfOk = false ∧ s.pwr.domUp = true) ∧
    (∃ (s : State), (s.ref.selfOk = true ∨ s.pwr.domUp = false)) ∧
    (∃ (d : Int) (s : State), s.pwr.domUp = true ∧ d.natAbs ≤ 125) ∧
    (∃ (d : Int) (s : State), s.pwr.domUp = true ∧ 125 < d.natAbs ∧ s.ref.pllBad < 3) ∧
    (∃ (d : Int) (s : State), s.pwr.domUp = true ∧ 125 < d.natAbs ∧ 3 ≤ s.ref.pllBad) ∧
    (∃ (s : State), s.pwr.domUp = true ∧ 3 ≤ s.ref.rcBad) ∧
    (∃ (d : Int) (s : State), s.pwr.domUp = true ∧ 125 < d.natAbs) ∧
    (∃ (s : State), s.pwr.domUp = true ∧ s.ref.mirrorDue = true ∧ s.mirrorOk = true) ∧
    (∃ (s : State), s.pwr.domUp = true ∧ s.ref.mirrorDue = true ∧ s.board.suspended = false ∧ s.ref.mirrorBeff < s.ref.mirror.sum) ∧
    (∃ (s : State), s.pwr.domUp = true ∧ s.ref.mirrorDue = true) ∧
    (∃ (s : State), (s.ref.mirrorDue = false ∨ s.pwr.domUp = false)) :=
  ⟨⟨.vio, 0, ((allTiles.foldl (fun s j => s.modTile j fun y => { y with safe := false, wires := [] }) (wB)).modRef fun z => { z with safe := false }).modPwr fun z => { z with domUp := true }, by decide +kernel⟩,
   ⟨.vio, 1800, wB, by decide +kernel⟩,
   ⟨(wB.modRef fun z => { z with safe := true }).modPwr fun z => { z with domUp := true }, by decide +kernel⟩,
   ⟨wB.modPwr fun z => { z with domUp := true }, by decide +kernel⟩,
   ⟨wB.modPwr fun z => { z with domUp := false }, by decide +kernel⟩,
   ⟨7, (wB.modTile 7 fun z => { z with safe := false }).modPwr fun z => { z with domUp := true }, by decide +kernel⟩,
   ⟨7, 0, ((wB.modTile 7 fun z => { z with safe := false }).modPwr fun z => { z with domUp := true }).modTile 7 fun z => { z with released := true }, by decide +kernel⟩,
   ⟨7, 5000, wB, by decide +kernel⟩,
   ⟨wB.modPwr fun z => { z with pllRun := true }, by decide +kernel⟩,
   ⟨(wB.modPwr fun z => { z with pllRun := false }).modPwr fun z => { z with domUp := true }, by decide +kernel⟩,
   ⟨(wB.modRef fun z => { z with selfOk := false }).modPwr fun z => { z with domUp := true }, by decide +kernel⟩,
   ⟨wB.modRef fun z => { z with selfOk := true }, by decide +kernel⟩,
   ⟨-125, wB.modPwr fun z => { z with domUp := true }, by decide +kernel⟩,
   ⟨-126, wB.modPwr fun z => { z with domUp := true }, by decide +kernel⟩,
   ⟨126, (wB.modPwr fun z => { z with domUp := true }).modRef fun z => { z with pllBad := 3 }, by decide +kernel⟩,
   ⟨(wB.modPwr fun z => { z with domUp := true }).modRef fun z => { z with rcBad := 3 }, by decide +kernel⟩,
   ⟨126, wB.modPwr fun z => { z with domUp := true }, by decide +kernel⟩,
   ⟨(({ wB with board := { (wB).board with sum := 0, suspended := false }, ref := { (wB).ref with mirror := [], mirrorBeff := 0 } }).modPwr fun z => { z with domUp := true }).modRef fun z => { z with mirrorDue := true }, by decide +kernel⟩,
   ⟨((({ wB with board := { (wB).board with sum := 0, suspended := false }, ref := { (wB).ref with mirror := [5], mirrorBeff := 0 } }).modPwr fun z => { z with domUp := true }).modRef fun z => { z with mirrorDue := true }).modBoard fun z => { z with suspended := false }, by decide +kernel⟩,
   ⟨(wB.modPwr fun z => { z with domUp := true }).modRef fun z => { z with mirrorDue := true }, by decide +kernel⟩,
   ⟨wB.modRef fun z => { z with mirrorDue := false }, by decide +kernel⟩⟩

theorem witness_DigestsEvaluated :
    (∃ (t : Fin 8) (k : Fin 64) (l : List DigPort) (s : State), (s.tile t).link = .up ∧ s.pwr.domUp = true ∧ (s.tile t).digTick = some ((k.val + 63) % 64) ∧ (∀ d ∈ l, d.upper = true ∧ d.v0low = false ∧ 600 ≤ d.mv ∧ d.mv ≤ 800) ∧ (∀ e ∈ s.ref.ccRun, e.2 < 20)) ∧
    (∃ (t : Fin 8) (k : Fin 64) (j : Nat) (s : State), (s.tile t).link = .up ∧ s.pwr.domUp = true ∧ (s.tile t).digTick = some j ∧ k.val ≠ (j + 1) % 64 ∧ 2 ≤ (s.tile t).digBad ∧ (s.tile t).safe = false ∧ ¬ .digestLost ∈ (s.tile t).wires) ∧
    (∃ (t : Fin 8) (p : Fin 192) (l : List DigPort) (d : DigPort) (s : State), (∀ (j : Nat) (e : DigPort), l[j]? = some e → j ≠ localIdx p → e.upper = true ∧ e.v0low = false ∧ 600 ≤ e.mv ∧ e.mv ≤ 800) ∧ (s.tile t).link = .up ∧ s.pwr.domUp = true ∧ (s.tile t).digTick = none ∧ tileOf p = t ∧ l[localIdx p]? = some d ∧ d.gate = true ∧ d.window ≠ .off ∧ d.upper = false ∧ d.winHi * 102 ≤ d.mv * 100 ∧ p.val ∈ s.ref.ovRun ∧ (s.port p).retry.lock = .none ∧ (∀ e ∈ s.ref.ccRun, e.2 < 20)) ∧
    (∃ (t : Fin 8) (j : Fin 24) (k : Fin 64) (l : List DigPort) (ma : Nat) (s : State), (s.tile t).link = .up ∧ s.pwr.domUp = true ∧ (s.tile t).digTick = some ((k.val + 63) % 64) ∧ (∀ d ∈ l, d.upper = true ∧ d.v0low = false ∧ 600 ≤ d.mv ∧ d.mv ≤ 800) ∧ (∀ e ∈ s.ref.ccRun, e.2 < 20) ∧ (s.port (portAt t j)).mayTrip = true ∧ 200 ≤ ma) ∧
    (∃ (t : Fin 8) (b : Bool) (s : State), (b = false ∨ (s.tile t).link ≠ .up ∨ s.pwr.domUp = false)) ∧
    (∃ (t : Fin 8) (s : State), (s.tile t).link = .up ∧ s.pwr.domUp = true ∧ ¬ .digestLost ∈ (s.tile t).wires ∧ (s.tile t).safe = false) ∧
    (∃ (t : Fin 8) (s : State), ((s.tile t).link ≠ .up ∨ s.pwr.domUp = false)) ∧
    (∃ (p : Fin 192) (s : State), ¬ p.val ∈ s.ref.cmdDue) ∧
    (∃ (p : Fin 192) (s : State), (s.tile (tileOf p)).safe = false ∧ p.val ∈ s.ref.cmdDue) :=
  ⟨⟨7, 0, List.replicate 24 ⟨700, false, false, true, false, false, false, .steady, 8800, 8000, false⟩, ((wB.modTile 7 fun z => { z with link := .up }).modPwr fun z => { z with domUp := true }).modTile 7 fun z => { z with digTick := some ((0 + 63) % 64) }, by decide +kernel⟩,
   ⟨7, 7, 5, ((((wB.modTile 7 fun z => { z with link := .up }).modPwr fun z => { z with domUp := true }).modTile 7 fun z => { z with digTick := some 5 }).modTile 7 fun z => { z with digBad := 2 }).modTile 7 fun z => { z with safe := false }, by decide +kernel⟩,
   ⟨0, 0, [⟨9000, true, false, false, false, false, false, .steady, 8800, 8000, false⟩], ⟨9000, true, false, false, false, false, false, .steady, 8800, 8000, false⟩, ((((wB.modRef fun y => { y with ovRun := [0] }).modTile 0 fun z => { z with link := .up }).modPwr fun z => { z with domUp := true }).modTile 0 fun z => { z with digTick := none }).modRetry 0 fun z => { z with lock := .none }, (by
      rintro (_ | j) e h hj
      · exact absurd rfl hj
      · simp at h), by decide +kernel⟩,
   ⟨7, 23, 63, [], 500, ((wB.modTile 7 fun z => { z with link := .up }).modPwr fun z => { z with domUp := true }).modTile 7 fun z => { z with digTick := some ((63 + 63) % 64) }, by decide +kernel⟩,
   ⟨7, false, wB, by decide +kernel⟩,
   ⟨7, ((wB.modTile 7 fun z => { z with link := .up }).modPwr fun z => { z with domUp := true }).modTile 7 fun z => { z with safe := false }, by decide +kernel⟩,
   ⟨7, wB.modTile 7 fun y => { y with link := .down }, by decide +kernel⟩,
   ⟨191, wB, by decide +kernel⟩,
   ⟨191, (wB.modTile (tileOf 191) fun z => { z with safe := false }).modRef fun y => { y with cmdDue := [191] }, by decide +kernel⟩⟩

theorem witness_HostFenceAndAon :
    (∃ (s : State), s.pwr.dev ≠ .deep ∧ (∀ p : Fin 192, (s.port p).sc.deep = false)) ∧
    (∃ (s : State), s.pwr.dev = .deep) ∧
    (∃ (s : State), s.pwr.dev = .run) ∧
    (∃ (s : State), s.hostUp = true ∧ (∀ p : Fin 192, (s.port p).sc.deep = false)) ∧
    (∃ (v : Fin 16) (w : Fin 16) (s : State), s.link.d3 = true ∧ s.link.perst = true ∧ s.pwr.dev ≠ .deep ∧ 1 ≤ v.val ∧ v.val ≤ 3 ∧ 1 ≤ w.val ∧ w.val ≤ 2) ∧
    (∃ (v : Fin 16) (w : Fin 16) (s : State), s.link.perst = true ∧ s.link.d3 = false ∧ s.pwr.dev ≠ .deep ∧ s.pwr.pllRun = true ∧ s.pwr.powered.getLsbD domHost = true ∧ 1 ≤ v.val ∧ v.val ≤ 3 ∧ 1 ≤ w.val ∧ w.val ≤ 2) ∧
    (∃ (v : Fin 16) (w : Fin 16) (s : State), (s.link.perst = false ∨ v.val = 0 ∨ 3 < v.val ∨ w.val = 0 ∨ 2 < w.val)) ∧
    (∃ (s : State), s.pwr.dev = .run ∧ (∀ k : Fin 4, (s.coreAt k).state = .idle ∧ (s.coreAt k).assign = none) ∧ s.readyList = [] ∧ s.link.fetched = [] ∧ s.link.loads = [] ∧ (∀ p : Fin 192, (s.port p).sc.deep = false)) ∧
    (∃ (s : State), s.link.fetched ≠ []) ∧
    (∃ (s : State), s.pwr.dev ≠ .deep ∧ s.pwr.domUp = true ∧ s.pwr.pllRun = false) ∧
    (∃ (s : State), s.pwr.pllRun = true) ∧
    (∃ (s : State), s.pwr.pllRun = false) :=
  ⟨⟨(allPorts.foldl (fun s j => s.modSc j fun y => { y with deep := false }) (wB)), by decide +kernel⟩,
   ⟨wB.modPwr fun z => { z with dev := .deep }, by decide +kernel⟩,
   ⟨wB.modPwr fun z => { z with dev := .run }, by decide +kernel⟩,
   ⟨(allPorts.foldl (fun s j => s.modSc j fun y => { y with deep := false }) (wB)), by decide +kernel⟩,
   ⟨(3 : Fin 16), (2 : Fin 16), (wB.modLink fun z => { z with d3 := true }).modLink fun z => { z with perst := true }, by decide +kernel⟩,
   ⟨(3 : Fin 16), (2 : Fin 16), ((wB.modLink fun z => { z with perst := true }).modLink fun z => { z with d3 := false }).modPwr fun z => { z with pllRun := true }, by decide +kernel⟩,
   ⟨(0 : Fin 16), (0 : Fin 16), wB.modLink fun z => { z with perst := false }, by decide +kernel⟩,
   ⟨((wB.wIdle.modPwr fun z => { z with dev := .run }).modLink fun z => { z with fetched := [] }).modLink fun z => { z with loads := [] }, by decide +kernel⟩,
   ⟨wB.modLink fun y => { y with fetched := [default] }, by decide +kernel⟩,
   ⟨(wB.modPwr fun z => { z with domUp := true }).modPwr fun z => { z with pllRun := false }, by decide +kernel⟩,
   ⟨wB.modPwr fun z => { z with pllRun := true }, by decide +kernel⟩,
   ⟨wB.modPwr fun z => { z with pllRun := false }, by decide +kernel⟩⟩

theorem witness_ResetsDeepAndWake :
    (∃ (s : State), s.upd.dl = none) ∧
    (∃ (s : State), s.pwr.ctrlReset = false) ∧
    (∃ (c : ResetCause) (s : State), s.upd.dl = none ∧ (c = .ctrl → s.pwr.ctrlReset = true)) ∧
    (∃ (s : State), s.pwr.domUp = false ∧ s.pwr.dev ≠ .deep) ∧
    (∃ (s : State), s.pwr.domUp = true) ∧
    (∃ (t : Fin 8) (mv : Nat) (s : State), s.pwr.dev ≠ .deep ∧ s.pwr.domUp = true ∧ s.pwr.pllLock = true ∧ s.ref.selfOk = true ∧ s.ref.factoryOk = true ∧ s.ref.safe = false ∧ s.pwr.testHold = false ∧ (s.tile t).released = false ∧ (s.tile t).late = false ∧ (∀ q : Fin 8, q < t → (s.tile q).released = true) ∧ 4500 ≤ mv ∧ mv ≤ 5500) ∧
    (∃ (t : Fin 8) (mv : Nat) (s : State), s.pwr.dev ≠ .deep ∧ s.pwr.domUp = true ∧ s.pwr.pllLock = true ∧ s.ref.selfOk = true ∧ s.ref.factoryOk = true ∧ s.ref.safe = false ∧ s.pwr.testHold = false ∧ (s.tile t).released = false ∧ (s.tile t).late = false ∧ (∀ q : Fin 8, q < t → (s.tile q).released = true) ∧ (mv < 4500 ∨ 5500 < mv) ∧ (s.tile t).safe = false) ∧
    (∃ (s : State), (s.ref.selfOk = false ∨ s.ref.factoryOk = false ∨ s.pwr.pllLock = false ∨ s.ref.safe = true ∨ s.pwr.testHold = true)) ∧
    (∃ (t : Fin 8) (mv : Nat) (s : State), (mv < 4500 ∨ 5500 < mv ∨ (s.tile t).late = false)) ∧
    (∃ (t : Fin 8) (mv : Nat) (s : State), (s.tile t).late = true ∧ s.pwr.dev ≠ .deep ∧ s.ref.safe = false ∧ 4500 ≤ mv ∧ mv ≤ 5500) ∧
    (∃ (a : Nat) (s : State), s.pwr.dev = .idle ∧ (∀ b ∈ s.deepConds, b = true) ∧ s.fuse.busy = false ∧ s.pwr.deepSince = some a ∧ secCycles s.pwr.deepDwell ≤ s.aon - a ∧ s.ref.poison = []) ∧
    (∃ (s : State), s.pwr.dev = .idle ∧ (∃ b ∈ s.deepConds, b = false)) ∧
    (∃ (a : Nat) (s : State), s.pwr.deepSince = some a ∧ s.aon - a < secCycles s.pwr.deepDwell) ∧
    (∃ (k : Fin 5) (w : BitVec 8) (a : Nat) (s : State), s.pwr.dev = .idle ∧ (∀ b ∈ s.deepConds, b = true) ∧ s.fuse.busy = false ∧ s.pwr.deepSince = some a ∧ secCycles s.pwr.deepDwell ≤ s.aon - a ∧ s.ref.poison = [] ∧ k.val < 4 ∧ w ≠ 0#8) ∧
    (∃ (n : Nat), n < 16 ∧ n ≠ 2 ∧ n ≠ 5 ∧ n ≠ 7) ∧
    (∃ (svc : Bool) (s : State), s.pwr.dev = .deep ∧ s.wakeSources svc ≠ 0#16 ∧ (∀ t : Fin 8, (s.tile t).released = false ∧ (s.tile t).late = false)) ∧
    (∃ (svc : Bool) (s : State), (s.pwr.dev ≠ .deep ∨ s.wakeSources svc = 0#16)) :=
  ⟨⟨wB.modUpd fun z => { z with dl := none }, by decide +kernel⟩,
   ⟨wB.modPwr fun z => { z with ctrlReset := false }, by decide +kernel⟩,
   ⟨.resetN, wB.modUpd fun z => { z with dl := none }, by decide +kernel⟩,
   ⟨wB.modPwr fun z => { z with domUp := false }, by decide +kernel⟩,
   ⟨wB.modPwr fun z => { z with domUp := true }, by decide +kernel⟩,
   ⟨7, 5000, ((((((((allTiles.foldl (fun (s : State) j => s.modTile j fun y => { y with released := true, safe := false }) (wB)).modPwr fun z => { z with domUp := true }).modPwr fun z => { z with pllLock := true }).modRef fun z => { z with selfOk := true }).modRef fun z => { z with factoryOk := true }).modRef fun z => { z with safe := false }).modPwr fun z => { z with testHold := false }).modTile 7 fun z => { z with released := false }).modTile 7 fun z => { z with late := false }, by decide +kernel⟩,
   ⟨7, 0, (((((((((allTiles.foldl (fun (s : State) j => s.modTile j fun y => { y with released := true, safe := false }) (wB)).modPwr fun z => { z with domUp := true }).modPwr fun z => { z with pllLock := true }).modRef fun z => { z with selfOk := true }).modRef fun z => { z with factoryOk := true }).modRef fun z => { z with safe := false }).modPwr fun z => { z with testHold := false }).modTile 7 fun z => { z with released := false }).modTile 7 fun z => { z with late := false }).modTile 7 fun z => { z with safe := false }, by decide +kernel⟩,
   ⟨(wB.modPwr fun y => { y with pllLock := false }).modRef fun z => { z with selfOk := false }, by decide +kernel⟩,
   ⟨7, 0, wB, by decide +kernel⟩,
   ⟨7, 5000, (wB.modTile 7 fun z => { z with late := true }).modRef fun z => { z with safe := false }, by decide +kernel⟩,
   ⟨0, ((((allPorts.foldl (fun (s : State) j => s.modPort j fun w => { w with path := { w.path with gate := false }, pol := Pol.reset, cc := { w.cc with state := .watch }, sc := { w.sc with deep := false, timers := [none] } })
   { (wB) with hud := { (wB).hud with state := .empty }, link := { (wB).link with perst := false, sess := 0 }, svc := { (wB).svc with sess := 0 }, pwr := { (wB).pwr with deepEn := true }, board := { (wB).board with changeover := none }, feedA := { (wB).feedA with state := .standby }, feedB := { (wB).feedB with state := .standby }, ref := { (wB).ref with safe := false } })).modPwr fun z => { z with dev := .idle }).modPwr fun z => { z with deepSince := some 0 }).modRef fun z => { z with poison := [] }, by decide +kernel⟩,
   ⟨(wB.modPwr fun y => { y with deepEn := false }).modPwr fun z => { z with dev := .idle }, by decide +kernel⟩,
   ⟨499999999, wB.modPwr fun z => { z with deepSince := some 499999999 }, by decide +kernel⟩,
   ⟨(2 : Fin 5), 0x10#8, 0, ((((allPorts.foldl (fun (s : State) j => s.modPort j fun w => { w with path := { w.path with gate := false }, pol := Pol.reset, cc := { w.cc with state := .watch }, sc := { w.sc with deep := false, timers := [none] } })
   { (wB) with hud := { (wB).hud with state := .empty }, link := { (wB).link with perst := false, sess := 0 }, svc := { (wB).svc with sess := 0 }, pwr := { (wB).pwr with deepEn := true }, board := { (wB).board with changeover := none }, feedA := { (wB).feedA with state := .standby }, feedB := { (wB).feedB with state := .standby }, ref := { (wB).ref with safe := false } })).modPwr fun z => { z with dev := .idle }).modPwr fun z => { z with deepSince := some 0 }).modRef fun z => { z with poison := [] }, by decide +kernel⟩,
   ⟨0, by decide +kernel⟩,
   ⟨true, ({ wB with tiles := Vector.replicate 8 Tile.reset }).modPwr fun z => { z with dev := .deep }, by decide +kernel⟩,
   ⟨false, wB, by decide +kernel⟩⟩

theorem witness_FuseOperationsStart :
    (∃ (a : BitVec 8) (s : State), s.fuseFree ∧ regionAt a.toNat ≠ .floor ∧ regionAt a.toNat ≠ .locks ∧ s.fuse.wdata &&& reservedBits a.toNat = 0#32 ∧ s.fuse.sealed (regionAt a.toNat) = none) ∧
    (∃ (a : BitVec 8) (s : State), s.fuseFree ∧ (regionAt a.toNat = .floor ∨ regionAt a.toNat = .locks)) ∧
    (∃ (a : BitVec 8) (s : State), s.fuseFree ∧ regionAt a.toNat ≠ .floor ∧ regionAt a.toNat ≠ .locks ∧ s.fuse.wdata &&& reservedBits a.toNat = 0#32 ∧ (s.fuse.wl (regionAt a.toNat) = true ∨ s.fuse.force (regionAt a.toNat) = true)) ∧
    (∃ (k : Fin 16) (r : FuseRegion) (s : State), s.fuseFree ∧ lockable k.val = some r ∧ s.fuse.wl r = false ∧ s.fuse.force r = false ∧ s.fuse.iv r = false ∧ s.fuse.intWord r = 0#32) ∧
    (∃ (k : Fin 16) (r : FuseRegion) (s : State), s.fuseFree ∧ lockable k.val = some r ∧ s.fuse.wl r = false ∧ s.fuse.force r = false ∧ s.fuse.iv r = true) ∧
    (∃ (k : Fin 16) (r : FuseRegion) (s : State), s.fuseFree ∧ lockable k.val = some r ∧ s.fuse.wl r = false ∧ s.fuse.force r = false ∧ s.fuse.iv r = true ∧ s.fuse.intWord r = s.fuse.intCrc r) ∧
    (∃ (k : Fin 16) (r : FuseRegion) (s : State), s.fuseFree ∧ lockable k.val = some r ∧ s.fuse.wl r = false ∧ s.fuse.force r = false ∧ (s.fuse.iv r = false ∨ s.fuse.intWord r ≠ s.fuse.intCrc r)) ∧
    (∃ (k : Fin 16) (s : State), s.fuseFree ∧ lockable k.val = none) ∧
    (∃ (k : Fin 16) (r : FuseRegion) (s : State), s.fuseFree ∧ lockable k.val = some r) ∧
    (∃ (k : Fin 16) (r : FuseRegion) (s : State), s.fuseFree ∧ (k.val = 4 ∧ r = .patch ∨ k.val = 6 ∧ r = .oem)) ∧
    (∃ (k : Fin 16) (s : State), s.fuseFree ∧ k.val ≠ 4 ∧ k.val ≠ 6) ∧
    (∃ (k : Fin 16) (s : State), s.fuseFree ∧ (k.val < 8 ∨ k.val = 15)) ∧
    (∃ (k : Fin 16) (s : State), s.fuseFree ∧ 8 ≤ k.val ∧ k.val ≠ 15) ∧
    (∃ (s : State), s.fuseFree ∧ s.fuse.floorValue ≤ s.fuse.wdata.toNat % 256 ∧ s.fuse.wdata.toNat % 256 ≤ 128) ∧
    (∃ (s : State), s.fuseFree ∧ (s.fuse.wdata.toNat % 256 < s.fuse.floorValue ∨ 128 < s.fuse.wdata.toNat % 256)) ∧
    (∃ (s : State), s.fuseFree) ∧
    (∃ (v : Nat) (s : State), s.fuseFree ∧ ((1000 ≤ v ∧ v < 6200) ∨ 6800 < v)) ∧
    (∃ (s : State), s.hostUp = true ∧ s.fuse.busy = false ∧ s.techOn .host = true ∧ s.expertOn .host = false) ∧
    (∃ (s : State), s.pwr.dev = .run ∧ s.fuse.busy = true) ∧
    (∃ (s : State), s.hostUp = true ∧ s.fuse.busy = false ∧ s.fuse.auditing = true ∧ s.techOn .host = true) :=
  ⟨⟨0x4A, wB.wFuses (0) (0), by unfold State.fuseFree; decide +kernel, by decide +kernel⟩,
   ⟨0xC8, wB.wFuses (0) (0), by unfold State.fuseFree; decide +kernel, by decide +kernel⟩,
   ⟨0x4A, wB.wFuses ((1#8192 <<< (lockIdx (regionAt 0x4A) 0).val)) 5#32, by unfold State.fuseFree; decide +kernel, by decide +kernel⟩,
   ⟨6, .oem, wB.wFuses (0) (0), by unfold State.fuseFree; decide +kernel, by decide +kernel⟩,
   ⟨6, .oem, wB.wFuses ((1#8192 <<< (lockIdx .oem 3).val)) 5#32, by unfold State.fuseFree; decide +kernel, by decide +kernel⟩,
   ⟨1, .ident, wB.wFuses (1#8192 <<< 7783 ||| 0x190A55AD#8192 <<< 7584) 0, by unfold State.fuseFree; decide +kernel, by decide +kernel⟩,
   ⟨6, .oem, wB.wFuses (0) (0), by unfold State.fuseFree; decide +kernel, by decide +kernel⟩,
   ⟨9, wB.wFuses (0) (0), by unfold State.fuseFree; decide +kernel, by decide +kernel⟩,
   ⟨6, .oem, wB.wFuses (0) (0), by unfold State.fuseFree; decide +kernel, by decide +kernel⟩,
   ⟨6, .oem, wB.wFuses (0) (0), by unfold State.fuseFree; decide +kernel, by decide +kernel⟩,
   ⟨5, wB.wFuses (0) (0), by unfold State.fuseFree; decide +kernel, by decide +kernel⟩,
   ⟨6, wB.wFuses (0) (0), by unfold State.fuseFree; decide +kernel, by decide +kernel⟩,
   ⟨9, wB.wFuses (0) (0), by unfold State.fuseFree; decide +kernel, by decide +kernel⟩,
   ⟨wB.wFuses 0 128#32, by unfold State.fuseFree; decide +kernel, by decide +kernel⟩,
   ⟨wB.wFuses 0 129#32, by unfold State.fuseFree; decide +kernel, by decide +kernel⟩,
   ⟨wB.wFuses (0) (0), by unfold State.fuseFree; decide +kernel⟩,
   ⟨6801, wB.wFuses (0) (0), by unfold State.fuseFree; decide +kernel, by decide +kernel⟩,
   ⟨(wB.wFuses 0 0).modLink fun y => { y with unlocked := false }, by decide +kernel⟩,
   ⟨(wB.modFuse fun y => { y with job := some ⟨.program, 6, 0x4A#8, 5#32, [bitIdx 3000, bitIdx 3001], false, none⟩ }).modPwr fun z => { z with dev := .run }, by decide +kernel⟩,
   ⟨(wB.wFuses 0 0).modFuse fun z => { z with auditing := true }, by decide +kernel⟩⟩

theorem witness_FuseOperationsEnd :
    (∃ (j : FuseJob) (s : State), s.fuse.job = some j ∧ j.op ≠ .audit ∧ j.op ≠ .reinforce ∧ j.svc = none ∧ j.agent = false ∧ s.fuse.auditDue = false) ∧
    (∃ (j : FuseJob) (e : FuseFail) (s : State), s.fuse.job = some j ∧ j.op ≠ .audit ∧ j.op ≠ .reinforce ∧ j.svc = none ∧ j.agent = false ∧ e.bit ∈ j.todo ∧ (if e.copyB then s.fuse.bHigh else s.fuse.aHigh).getLsbD e.bit.val = false ∧ s.fuse.auditDue = false) ∧
    (∃ (j : FuseJob) (s : State), (∀ k ∈ j.todo, s.fuse.norm.getLsbD k.val = true) ∧ s.fuse.job = some j ∧ j.op = .reinforce ∧ j.svc = none ∧ j.agent = false) ∧
    (∃ (s : State), s.fuse.job = none) ∧
    (∃ (j : FuseJob) (v : Nat) (a : Nat) (s : State), s.fuse.job = some j ∧ j.op ≠ .audit ∧ j.svc = none ∧ j.agent = false ∧ s.fuse.auditDue = false ∧ (s.fuse.source = true ∧ (v < 6200 ∨ 6800 < v) ∨ a < 3135)) ∧
    (∃ (v : Nat) (a : Nat) (s : State), 3135 ≤ a ∧ (s.fuse.source = false ∨ 6200 ≤ v ∧ v ≤ 6800)) ∧
    (∃ (s : State), s.aon < s.fuse.periodAt) ∧
    (∃ (s : State), s.pwr.dev ≠ .deep ∧ s.fuse.read = true ∧ s.fuse.periodAt ≤ s.aon ∧ s.fuse.busy = true) ∧
    (∃ (s : State), s.pwr.dev ≠ .deep ∧ s.fuse.read = true ∧ s.fuse.periodAt ≤ s.aon ∧ s.fuse.busy = false ∧ s.fuse.auditing = false) ∧
    (∃ (j : FuseJob) (s : State), s.fuse.auditing = true ∧ s.fuse.job = none ∧ s.fuse.held = some j ∧ j.op = .forceLock ∧ j.region.val = 6 ∧ j.svc = none ∧ s.fuse.auditDue = false) ∧
    (∃ (s : State), s.pwr.dev = .run ∧ s.pwr.domUp = true) ∧
    (∃ (w : Nat) (s : State), (s.fuse.rl (regionAt w) = true ∨ regionAt w = .unitkey)) :=
  ⟨⟨⟨.program, 6, 0x4A#8, 5#32, [bitIdx 3000, bitIdx 3001], false, none⟩, (wB.modFuse fun z => { z with job := some (⟨.program, 6, 0x4A#8, 5#32, [bitIdx 3000, bitIdx 3001], false, none⟩) }).modFuse fun z => { z with auditDue := false }, by decide +kernel⟩,
   ⟨⟨.program, 6, 0x4A#8, 5#32, [bitIdx 3000, bitIdx 3001], false, none⟩, ⟨bitIdx 3001, false, true, false⟩, (wB.modFuse fun z => { z with job := some (⟨.program, 6, 0x4A#8, 5#32, [bitIdx 3000, bitIdx 3001], false, none⟩) }).modFuse fun z => { z with auditDue := false }, by decide +kernel⟩,
   ⟨⟨.reinforce, 6, 0x4A#8, 5#32, [bitIdx 0, bitIdx 1], false, none⟩, (wB.modFuse fun y => { y with aNorm := 3#8192 }).modFuse fun z => { z with job := some (⟨.reinforce, 6, 0x4A#8, 5#32, [bitIdx 0, bitIdx 1], false, none⟩) }, (by
      intro k h
      rcases List.mem_cons.1 h with rfl | h
      · decide +kernel
      · rw [List.mem_singleton.1 h]; decide +kernel), by decide +kernel⟩,
   ⟨wB.modFuse fun z => { z with job := none }, by decide +kernel⟩,
   ⟨⟨.program, 6, 0x4A#8, 5#32, [bitIdx 3000, bitIdx 3001], false, none⟩, 0, 0, (wB.modFuse fun z => { z with job := some (⟨.program, 6, 0x4A#8, 5#32, [bitIdx 3000, bitIdx 3001], false, none⟩) }).modFuse fun z => { z with auditDue := false }, by decide +kernel⟩,
   ⟨0, 3300, wB.modFuse fun z => { z with source := false }, by decide +kernel⟩,
   ⟨wB.modFuse fun z => { z with periodAt := wB.aon + 1 }, by decide +kernel⟩,
   ⟨{ (wB.modFuse fun y => { y with job := some ⟨.program, 6, 0x4A#8, 5#32, [bitIdx 3000, bitIdx 3001], false, none⟩ }).modFuse fun z => { z with read := true } with aon := wB.fuse.periodAt }, by decide +kernel⟩,
   ⟨({ wB.modFuse fun z => { z with read := true } with aon := wB.fuse.periodAt }).modFuse fun z => { z with auditing := false }, by decide +kernel⟩,
   ⟨⟨.forceLock, 6, 0x4A#8, 5#32, [bitIdx 3000, bitIdx 3001], false, none⟩, (((wB.modFuse fun z => { z with auditing := true }).modFuse fun z => { z with job := none }).modFuse fun z => { z with held := some (⟨.forceLock, 6, 0x4A#8, 5#32, [bitIdx 3000, bitIdx 3001], false, none⟩) }).modFuse fun z => { z with auditDue := false }, by decide +kernel⟩,
   ⟨(wB.modPwr fun z => { z with dev := .run }).modPwr fun z => { z with domUp := true }, by decide +kernel⟩,
   ⟨0x40, wB, by decide +kernel⟩⟩

theorem witness_ServiceSessions :
    (∃ (n : Nat) (s : State), s.svcUp = true ∧ s.svc.baud = 0 ∧ 115200 ≤ n ∧ n ≤ 12000000) ∧
    (∃ (n : Nat) (s : State), (s.svc.baud ≠ 0 ∨ n < 115200 ∨ 12000000 < n)) ∧
    (∃ (s : State), s.svcUp = true) ∧
    (∃ (n : Nat) (d : List (BitVec 8)) (tail : List (BitVec 8)) (s : State), s.svcUp = true ∧ s.svc.baud ≠ 0 ∧ d.length = n + 3 ∧ tail.length = 4 ∧ (4104 < n ∨ BitVec.ofNat 32 (valLE tail) ≠ crc32 (bytesLE 2 n ++ d)) ∧ n < 65536) ∧
    (∃ (d : List (BitVec 8)), 3 ≤ d.length ∧ d.length ≤ 4107) ∧
    (∃ (n : Nat) (s : State), s.svcUp = true ∧ s.svc.baud ≠ 0 ∧ 2000 < n) ∧
    (∃ (s : State), (s.svc.baud = 0 ∨ s.svcUp = false)) ∧
    (∃ (c : BitVec 8) (s : State), s.svcHears = true ∧ s.upd.recovery = false ∧ ¬ c.toNat ∈ svcCommands) ∧
    (∃ (f : SvcFrame) (s : State), s.svcHears = true ∧ f.payload = []) ∧
    (∃ (f : SvcFrame) (uk : List Byte) (l : Level) (s : State), s.svcHears = true ∧ s.unitKey = some uk ∧ f.payload.length = 1 ∧ levelOf (f.fld 0 1) = some l ∧ s.lockSecs = 0 ∧ s.upd.dl = none) ∧
    (∃ (f : SvcFrame) (uk : List Byte) (l : Level) (s : State), s.svcHears = true ∧ s.unitKey = some uk ∧ f.payload.length = 1 ∧ levelOf (f.fld 0 1) = some l ∧ s.lockSecs ≠ 0) ∧
    (∃ (f : SvcFrame) (uk : List Byte) (s : State), s.svcHears = true ∧ s.svc.sess ≠ 0 ∧ f.sess.toNat = s.svc.sess ∧ s.aon - s.svc.openAt ≤ 60 * 32768 ∧ s.unitKey = some uk ∧ s.svc.sessReq ≠ .none ∧ (s.svc.level ≠ .tech ∨ s.pwDue = false) ∧ f.payload.length = 32 ∧ f.payload = hmac (s.levelKey uk s.svc.sessReq) (chalBytes s.svc.challenge ++ [s.svc.sessReq.byte, BitVec.ofNat 8 s.svc.sess])) ∧
    (∃ (f : SvcFrame) (s : State), s.svcHears = true ∧ s.svc.sess ≠ 0 ∧ f.sess.toNat = s.svc.sess ∧ f.payload.length = 32 ∧ 60 * 32768 < s.aon - s.svc.openAt ∧ (s.svc.level ≠ .tech ∨ s.pwDue = false) ∧ s.upd.dl = none) ∧
    (∃ (f : SvcFrame) (s : State), s.svcHears = true ∧ s.svc.sess ≠ 0 ∧ f.sess.toNat = s.svc.sess ∧ f.payload = [] ∧ s.upd.dl = none) ∧
    (∃ (f : SvcFrame) (s : State), s.svcHears = true ∧ f.sess.toNat ≠ s.svc.sess) ∧
    (∃ (f : SvcFrame) (s : State), s.svcHears = true ∧ f.sess.toNat ≠ s.svc.sess ∧ s.upd.recovery = false) ∧
    (∃ (s : State), s.svc.sess ≠ 0 ∧ secCycles 900 ≤ s.aon - s.svc.usedAt) ∧
    (∃ (f : SvcFrame) (s : State), s.svcHears = true ∧ s.svc.sess ≠ 0 ∧ f.sess.toNat = s.svc.sess ∧ f.payload = []) ∧
    (∃ (s : State), (s.svc.sess = 0 ∨ s.aon - s.svc.usedAt < secCycles 900)) ∧
    (∃ (f : SvcFrame) (uk : List Byte) (new : List Byte) (s : State), s.svcHears = true ∧ s.svc.sess ≠ 0 ∧ f.sess.toNat = s.svc.sess ∧ s.svc.level = .tech ∧ s.unitKey = some uk ∧ f.payload.length = 33 ∧ f.fld 0 1 = 2 ∧ new = List.zipWith (· ^^^ ·) (f.payload.drop 1) (hmac (s.levelKey uk .tech) (ascii "HZPWSET" ++ chalBytes s.svc.challenge)) ∧ new ≠ sha256 (saltOf uk .tech)) ∧
    (∃ (f : SvcFrame) (s : State), s.svcTech f ∧ f.payload = [0x01#8]) ∧
    (∃ (f : SvcFrame) (s : State), s.svcTech f ∧ f.payload = [0x00#8]) ∧
    (∃ (s : State), s.lockSecs = 0) ∧
    (∃ (s : State), s.lockSecs ≠ 0) :=
  ⟨⟨12000000, (wB.wUp.modSvc fun z => { z with baud := 0 }).modSvc fun y => { y with baud := 0 }, by decide +kernel⟩,
   ⟨115199, wB.wUp.modSvc fun z => { z with baud := 1 }, by decide +kernel⟩,
   ⟨wB.wUp, by decide +kernel⟩,
   ⟨0, [1#8, 2#8, 3#8], [0#8, 0#8, 0#8, 0#8], wB.wUp.modSvc fun z => { z with baud := 1 }, by decide +kernel⟩,
   ⟨[1#8, 2#8, 3#8], by decide +kernel⟩,
   ⟨3000, wB.wUp.modSvc fun z => { z with baud := 1 }, by decide +kernel⟩,
   ⟨wB.wUp.modSvc fun z => { z with baud := 0 }, by decide +kernel⟩,
   ⟨0x07#8, wB.wUp.modUpd fun z => { z with recovery := false }, by decide +kernel⟩,
   ⟨wFrame [], wB.wUp, by decide +kernel⟩,
   ⟨wFrame (List.replicate 1 1#8), (wB).wBoot.fuse.regionBytes .unitkey, .view, (wB.wUp.wBoot.modUpd fun z => { z with dl := none }).modSvc fun y => { y with lockEnd := none }, by decide +kernel⟩,
   ⟨wFrame (List.replicate 1 1#8), (wB).wBoot.fuse.regionBytes .unitkey, .view, wB.wUp.wBoot.modSvc fun y => { y with lockN := 5, lockEnd := some ((wB).aon + 100000) }, by decide +kernel⟩,
   ⟨wFrame (hmac (List.replicate 32 9#8) (chalBytes wB.svc.challenge ++ [Level.view.byte, 7#8])), (wB).wBoot.fuse.regionBytes .unitkey, wB.wSess.wBoot.modSvc fun y => { y with openAt := (wB).aon }, by decide +kernel⟩,
   ⟨wFrame (List.replicate 32 1#8), ((wB.wSess |> fun (y : State) => { y with aon := y.aon + 3000000 }).modUpd fun z => { z with dl := none }).modSvc fun y => { y with openAt := (wB).aon }, by decide +kernel⟩,
   ⟨wFrame [], wB.wSess.modUpd fun z => { z with dl := none }, by decide +kernel⟩,
   ⟨⟨6#8, 3#8, []⟩, wB.wSess, by decide +kernel⟩,
   ⟨⟨6#8, 3#8, []⟩, wB.wSess.modUpd fun z => { z with recovery := false }, by decide +kernel⟩,
   ⟨wB.wUp.modSvc fun z => { z with sess := 1 }, by decide +kernel⟩,
   ⟨wFrame [], (wB.wUp.modSvc fun z => { z with sess := 1 }).modSvc fun y => { y with sess := 7 }, by decide +kernel⟩,
   ⟨wB.wUp.modSvc fun z => { z with sess := 0 }, by decide +kernel⟩,
   ⟨wFrame (2#8 :: List.replicate 32 5#8), (wB).wBoot.fuse.regionBytes .unitkey, List.zipWith (· ^^^ ·) (List.replicate 32 5#8) (hmac (List.replicate 32 1#8) (ascii "HZPWSET" ++ chalBytes wB.svc.challenge)), wB.wSess.wBoot.modSvc fun z => { z with level := .tech }, by decide +kernel⟩,
   ⟨wFrame [0x01#8], wB.wUp.wTech, by unfold State.svcTech; decide +kernel, by decide +kernel⟩,
   ⟨wFrame [0x00#8], wB.wUp.wTech, by unfold State.svcTech; decide +kernel, by decide +kernel⟩,
   ⟨wB.wUp, by decide +kernel⟩,
   ⟨wB.wUp.modSvc fun y => { y with lockEnd := some (wB.wUp.aon + 100000) }, by decide +kernel⟩⟩

theorem witness_ServiceCommands :
    (∃ (f : SvcFrame) (o : Nat) (s : State), s.svcTech f ∧ f.payload = bytesLE 2 o ++ [0x01#8] ∧ o % 4 = 0 ∧ o < 65536) ∧
    (∃ (f : SvcFrame) (s : State), s.svcTech f ∧ (f.payload.length ≠ 3 ∨ f.fld 0 2 % 4 ≠ 0 ∨ f.fld 2 1 = 0 ∨ 64 < f.fld 2 1)) ∧
    (∃ (f : SvcFrame) (o : Nat) (v : Word) (s : State), s.svcTech f ∧ f.payload = bytesLE 2 o ++ bytesLE 4 v.toNat ∧ o % 4 = 0 ∧ o < 65536) ∧
    (∃ (f : SvcFrame) (s : State), s.svcTech f ∧ f.payload.length ≠ 6) ∧
    (∃ (f : SvcFrame) (s : State), s.svcTech f ∧ f.payload = [0x01#8] ∧ s.hud.state = .staged ∧ s.hud.staged = [] ∧ s.hud.curves = [] ∧ s.hud.newSteps = [] ∧ s.hud.newMsgs = []) ∧
    (∃ (f : SvcFrame) (s : State), s.svcTech f ∧ f.payload = [0x02#8] ∧ (s.hud.state = .empty ∨ s.hud.state = .checked)) ∧
    (∃ (f : SvcFrame) (s : State), s.svcTech f ∧ f.payload = [0x03#8] ∧ (s.hud.state = .empty ∨ s.hud.state = .checked) ∧ s.hud.join = true ∧ s.upd.armed ≠ some .kick) ∧
    (∃ (f : SvcFrame) (s : State), s.svcTech f ∧ f.payload = [0x03#8] ∧ s.sealed = false ∧ s.hud.join = false) ∧
    (∃ (f : SvcFrame) (s : State), s.svcTech f ∧ f.payload = [0x02#8] ∧ s.sealed = true) ∧
    (∃ (f : SvcFrame) (s : State), s.svcTech f ∧ f.payload = [0x04#8] ∧ s.hud.state ≠ .committed) ∧
    (∃ (f : SvcFrame) (s : State), s.svcTech f ∧ f.payload.length = 5 ∧ 1 ≤ f.fld 4 1 ∧ f.fld 4 1 ≤ 64) ∧
    (∃ (f : SvcFrame) (k : Slot) (s : State), s.svcTech f ∧ f.payload = [] ∧ s.upd.run = some k) ∧
    (∃ (f : SvcFrame) (s : State), s.svcTech f ∧ f.payload = [] ∧ s.upd.run = none) :=
  ⟨⟨wFrame [0#8, 0x10#8, 1#8], 0x1000, (wB.wSess |> fun (y : State) => { y with hud := { y.hud with state := .staged, join := false } }).wTech, by unfold State.svcTech; decide +kernel, by decide +kernel⟩,
   ⟨wFrame [1#8, 0x10#8, 1#8], (wB.wSess |> fun (y : State) => { y with hud := { y.hud with state := .staged, join := false } }).wTech, by unfold State.svcTech; decide +kernel, by decide +kernel⟩,
   ⟨wFrame [0#8, 0x10#8, 0x78#8, 0x56#8, 0x34#8, 0x12#8], 0x1000, 0x12345678#32, (wB.wSess |> fun (y : State) => { y with hud := { y.hud with state := .staged, join := false } }).wTech, by unfold State.svcTech; decide +kernel, by decide +kernel⟩,
   ⟨wFrame [], (wB.wSess |> fun (y : State) => { y with hud := { y.hud with state := .staged, join := false } }).wTech, by unfold State.svcTech; decide +kernel, by decide +kernel⟩,
   ⟨wFrame [0x01#8], ((((((wB.wSess |> fun (y : State) => { y with hud := { y.hud with state := .staged, join := false } }).wTech).modHud fun z => { z with state := .staged }).modHud fun z => { z with staged := [] }).modHud fun z => { z with curves := [] }).modHud fun z => { z with newSteps := [] }).modHud fun z => { z with newMsgs := [] }, by unfold State.svcTech; decide +kernel, by decide +kernel⟩,
   ⟨wFrame [0x02#8], ((wB.wSess |> fun (y : State) => { y with hud := { y.hud with state := .staged, join := false } }).wTech).modHud fun z => { z with state := .empty }, by unfold State.svcTech; decide +kernel, by decide +kernel⟩,
   ⟨wFrame [0x03#8], (((wB.wSess |> fun (y : State) => { y with hud := { y.hud with state := .staged, join := false } }).wTech).modHud fun z => { z with state := .empty }).modHud fun z => { z with join := true }, by unfold State.svcTech; decide +kernel, by decide +kernel⟩,
   ⟨wFrame [0x03#8], ((wB.wSess |> fun (y : State) => { y with hud := { y.hud with state := .staged, join := false } }).wTech).modHud fun z => { z with join := false }, by unfold State.svcTech; decide +kernel, by decide +kernel⟩,
   ⟨wFrame [0x02#8], ((wB.wSess |> fun (y : State) => { y with hud := { y.hud with state := .staged, join := false } }).wTech).modHud fun y => { y with state := .armed }, by unfold State.svcTech; decide +kernel, by decide +kernel⟩,
   ⟨wFrame [0x04#8], (wB.wSess |> fun (y : State) => { y with hud := { y.hud with state := .staged, join := false } }).wTech, by unfold State.svcTech; decide +kernel, by decide +kernel⟩,
   ⟨wFrame [0#8, 0#8, 0#8, 0#8, 2#8], (wB.wSess |> fun (y : State) => { y with hud := { y.hud with state := .staged, join := false } }).wTech, by unfold State.svcTech; decide +kernel, by decide +kernel⟩,
   ⟨wFrame [], .b, ((wB.wSess |> fun (y : State) => { y with hud := { y.hud with state := .staged, join := false } }).wTech).modUpd fun z => { z with run := some .b }, by unfold State.svcTech; decide +kernel, by decide +kernel⟩,
   ⟨wFrame [], ((wB.wSess |> fun (y : State) => { y with hud := { y.hud with state := .staged, join := false } }).wTech).modUpd fun z => { z with run := none }, by unfold State.svcTech; decide +kernel, by decide +kernel⟩⟩

theorem witness_DownloadsAndActivation :
    (∃ (f : SvcFrame) (s : State), s.svcTech f ∧ s.headCheck f.payload true = none ∧ f.payload.length = 4096 ∧ s.upd.dl = none ∧ s.upd.armed = none ∧ s.upd.activating = false ∧ s.upd.trial = false) ∧
    (∃ (f : SvcFrame) (e : Nat) (s : State), s.svcTech f ∧ f.payload.length = 4096 ∧ s.upd.dl = none ∧ s.upd.armed = none ∧ s.upd.activating = false ∧ s.upd.trial = false ∧ s.headCheck f.payload true = some e) ∧
    (∃ (f : SvcFrame) (s : State), s.svcTech f ∧ f.payload.length = 4096 ∧ (s.upd.dl ≠ none ∨ s.upd.armed ≠ none ∨ s.upd.trial = true)) ∧
    (∃ (f : SvcFrame) (d : Download) (s : State), s.svcTech f ∧ crc32 (f.payload.drop 8) = headCrc (s.upd.slot d.slot).head d.next ∧ f.payload.length = 4104 ∧ s.upd.dl = some d ∧ f.fld 4 4 = d.token.toNat ∧ f.fld 2 2 = 0 ∧ f.fld 0 2 = d.next ∧ d.next < headBlocks (s.upd.slot d.slot).head) ∧
    (∃ (f : SvcFrame) (d : Download) (s : State), s.svcTech f ∧ f.payload.length = 4104 ∧ s.upd.dl = some d ∧ f.fld 4 4 = d.token.toNat ∧ f.fld 2 2 = 0 ∧ f.fld 0 2 ≠ d.next) ∧
    (∃ (f : SvcFrame) (d : Download) (s : State), s.svcTech f ∧ f.payload.length = 4 ∧ s.upd.dl = some d ∧ f.fld 0 4 = d.token.toNat) ∧
    (∃ (f : SvcFrame) (d : Download) (s : State), s.svcTech f ∧ f.payload.length = 4 ∧ s.upd.dl = some d ∧ f.fld 0 4 = d.token.toNat ∧ d.next = headBlocks (s.upd.slot d.slot).head ∧ (s.upd.slot d.slot).blocksOk = true) ∧
    (∃ (f : SvcFrame) (d : Download) (s : State), s.svcTech f ∧ f.payload.length = 4 ∧ s.upd.dl = some d ∧ f.fld 0 4 = d.token.toNat ∧ d.next = headBlocks (s.upd.slot d.slot).head) ∧
    (∃ (f : SvcFrame) (k : Slot) (s : State), s.svcTech f ∧ s.upd.staged = some k ∧ s.upd.armed = none ∧ s.upd.activating = false ∧ f.payload = [0x01#8]) ∧
    (∃ (f : SvcFrame) (k : Slot) (s : State), s.svcTech f ∧ s.upd.staged = some k ∧ s.upd.armed = none ∧ s.upd.activating = false ∧ f.payload = [0x03#8]) ∧
    (∃ (f : SvcFrame) (k : Slot) (s : State), s.svcTech f ∧ s.upd.staged = some k ∧ s.upd.armed = none ∧ s.upd.activating = false ∧ f.payload.length = 7 ∧ f.fld 0 1 = 2 ∧ s.timeAhead (f.fld 1 6) = true) ∧
    (∃ (f : SvcFrame) (s : State), s.svcTech f ∧ (s.upd.staged = none ∨ s.upd.armed ≠ none) ∧ f.payload = [0x01#8]) ∧
    (∃ (f : SvcFrame) (s : State), s.svcTech f ∧ f.payload = [] ∧ s.upd.trial = true ∧ s.upd.healthy = true ∧ headAt s.upd.runHead 0x16 2 = 0) ∧
    (∃ (f : SvcFrame) (s : State), s.svcTech f ∧ f.payload = [] ∧ (s.upd.trial = false ∨ s.upd.healthy = false)) ∧
    (∃ (f : SvcFrame) (s : State), s.svcTech f ∧ f.payload = [] ∧ s.upd.armed ≠ none) ∧
    (∃ (k : Slot) (s : State), s.upd.armed = some .now ∧ s.upd.staged = some k ∧ s.upd.activating = false ∧ s.upd.recovery = false ∧ s.upd.loading = none ∧ s.pwr.dev ≠ .deep) ∧
    (∃ (s : State), (s.upd.armed = none ∨ s.upd.loading ≠ none)) ∧
    (∃ (k : Slot) (s : State), s.slotLoads k = true ∧ s.upd.activating = true ∧ s.upd.staged = some k ∧ (∀ j : Fin 4, (s.coreAt j).state = .idle) ∧ (s.upd.bootRec.map (·.trial)) = some true) ∧
    (∃ (e : Nat) (s : State), s.upd.trial = true ∧ s.upd.trialEnd = some e ∧ e ≤ s.aon ∧ s.pwr.dev ≠ .deep ∧ (s.upd.autoConfirm = false ∨ s.upd.healthy = false)) ∧
    (∃ (e : Nat) (s : State), s.upd.trial = true ∧ s.upd.trialEnd = some e ∧ s.aon < e) ∧
    (∃ (e : Nat) (s : State), s.upd.trial = true ∧ s.upd.trialEnd = some e ∧ e ≤ s.aon ∧ s.pwr.dev ≠ .deep ∧ s.upd.autoConfirm = true ∧ s.upd.healthy = true ∧ headAt s.upd.runHead 0x16 2 = 0) ∧
    (∃ (s : State), s.hud.join = true ∧ s.hud.onKick = true ∧ s.hud.ready = true ∧ s.hud.seenLow = true ∧ s.upd.armed = none ∧ s.pwr.dev ≠ .deep) ∧
    (∃ (s : State), (s.hud.join = false ∨ s.hud.seenLow = false ∨ s.kickArmed = false)) ∧
    (∃ (s : State), s.hud.onKick = true ∧ s.upd.armed = none ∧ s.hud.svcSeq = none ∧ msCycles (100 * s.hud.timeout) ≤ s.aon - s.hud.kickAt) ∧
    (∃ (s : State), s.aon - s.hud.kickAt < msCycles (100 * s.hud.timeout)) ∧
    (∃ (k : Slot) (s : State), s.slotLoads k = true ∧ s.pwr.dev ≠ .deep ∧ s.pwr.domUp = true ∧ s.fuse.job = none ∧ s.fuse.held = none ∧ s.upd.loading = some k ∧ s.upd.reverting = false) ∧
    (∃ (k : Slot) (s : State), s.pwr.dev ≠ .deep ∧ s.pwr.domUp = true ∧ s.fuse.job = none ∧ s.fuse.held = none ∧ s.upd.loading = some k ∧ s.slotLoads k = false ∧ s.upd.reverting = false ∧ s.fallbackMode = 2) ∧
    (∃ (s : State), s.upd.loading = none) :=
  ⟨⟨wFrame wImg, (((wB.wImages.wTech.modUpd fun z => { z with dl := none }).modUpd fun z => { z with armed := none }).modUpd fun z => { z with activating := false }).modUpd fun z => { z with trial := false }, by unfold State.svcTech; decide +kernel, (by
      exact wImg_checked rfl true), by decide +kernel⟩,
   ⟨wFrame (List.replicate 4096 1#8), 1, (((wB.wImages.wTech.modUpd fun z => { z with dl := none }).modUpd fun z => { z with armed := none }).modUpd fun z => { z with activating := false }).modUpd fun z => { z with trial := false }, by unfold State.svcTech; decide +kernel, by decide +kernel⟩,
   ⟨wFrame (List.replicate 4096 1#8), wB.wImages.wTech.modUpd fun y => { y with trial := true }, by unfold State.svcTech; decide +kernel, by decide +kernel⟩,
   ⟨wFrame ([0#8, 0#8, 0#8, 0#8, 9#8, 0#8, 0#8, 0#8] ++ List.replicate 4096 0#8), ⟨.b, 9#32, 0⟩, (wB.wImages.wTech.modUpd fun z => { z with dl := some (⟨.b, 9#32, 0⟩) }).modUpd fun y => { y with slotB := ⟨wImg.take 0x200 ++ bytesLE 4 (crc32 (List.replicate 4096 0#8)).toNat, []⟩ }, by unfold State.svcTech; decide +kernel, (by
      exact (wHeadCrc _).symm), by decide +kernel⟩,
   ⟨wFrame ([0#8, 0#8, 0#8, 0#8, 9#8, 0#8, 0#8, 0#8] ++ List.replicate 4096 0#8), ⟨.b, 9#32, 3⟩, wB.wImages.wTech.modUpd fun z => { z with dl := some (⟨.b, 9#32, 3⟩) }, by unfold State.svcTech; decide +kernel, by decide +kernel⟩,
   ⟨wFrame [9#8, 0#8, 0#8, 0#8], ⟨.b, 9#32, 3⟩, wB.wImages.wTech.modUpd fun z => { z with dl := some (⟨.b, 9#32, 3⟩) }, by unfold State.svcTech; decide +kernel, by decide +kernel⟩,
   ⟨wFrame [9#8, 0#8, 0#8, 0#8], ⟨.b, 9#32, 1⟩, (wB.wImages.wTech.modUpd fun z => { z with dl := some (⟨.b, 9#32, 1⟩) }).modUpd fun y => { y with slotB := ⟨wImg, [[]]⟩ }, by unfold State.svcTech; decide +kernel, by decide +kernel⟩,
   ⟨wFrame [9#8, 0#8, 0#8, 0#8], ⟨.b, 9#32, 1⟩, (wB.wImages.wTech.modUpd fun z => { z with dl := some (⟨.b, 9#32, 1⟩) }).modUpd fun y => { y with slotB := ⟨wImg, [[]]⟩ }, by unfold State.svcTech; decide +kernel, by decide +kernel⟩,
   ⟨wFrame [0x01#8], .b, ((wB.wImages.wTech.modUpd fun z => { z with staged := some .b }).modUpd fun z => { z with armed := none }).modUpd fun z => { z with activating := false }, by unfold State.svcTech; decide +kernel, by decide +kernel⟩,
   ⟨wFrame [0x03#8], .b, ((wB.wImages.wTech.modUpd fun z => { z with staged := some .b }).modUpd fun z => { z with armed := none }).modUpd fun z => { z with activating := false }, by unfold State.svcTech; decide +kernel, by decide +kernel⟩,
   ⟨wFrame [2#8, 0x00#8, 0x40#8, 0#8, 0#8, 0#8, 0#8], .b, ((((wB.wImages |> fun (y : State) => { y with rtc := 0x3FFF * 32768 }).wTech).modUpd fun z => { z with staged := some .b }).modUpd fun z => { z with armed := none }).modUpd fun z => { z with activating := false }, by unfold State.svcTech; decide +kernel, by decide +kernel⟩,
   ⟨wFrame [0x01#8], wB.wImages.wTech.modUpd fun z => { z with staged := none }, by unfold State.svcTech; decide +kernel, by decide +kernel⟩,
   ⟨wFrame [], (wB.wImages.wTech.modUpd fun z => { z with trial := true }).modUpd fun y => { y with seen := 0xF#4, bad := false, runHead := List.replicate 4096 0#8 }, by unfold State.svcTech; decide +kernel, by decide +kernel⟩,
   ⟨wFrame [], wB.wImages.wTech.modUpd fun z => { z with trial := false }, by unfold State.svcTech; decide +kernel, by decide +kernel⟩,
   ⟨wFrame [], wB.wImages.wTech.modUpd fun y => { y with armed := some .now }, by unfold State.svcTech; decide +kernel, by decide +kernel⟩,
   ⟨.b, ((((wB.wImages.modUpd fun z => { z with armed := some .now }).modUpd fun z => { z with staged := some .b }).modUpd fun z => { z with activating := false }).modUpd fun z => { z with recovery := false }).modUpd fun z => { z with loading := none }, by decide +kernel⟩,
   ⟨wB.wImages.modUpd fun z => { z with armed := none }, by decide +kernel⟩,
   ⟨.b, ((wB.wIdle.wImages.modUpd fun z => { z with activating := true }).modUpd fun z => { z with staged := some .b }).modUpd fun y => { y with slotB := ⟨wImg, [[]]⟩, boot0 := ⟨.b, true, 1, false, 1, true⟩, boot1 := default }, (by
      exact wImg_loads rfl rfl), by decide +kernel⟩,
   ⟨0, ({ (wB.wImages.modUpd fun z => { z with trial := true }).modUpd fun z => { z with trialEnd := some 0 } with aon := 0 }).modUpd fun z => { z with autoConfirm := false }, by decide +kernel⟩,
   ⟨600000000, (wB.wUp.modUpd fun z => { z with trial := true }).modUpd fun z => { z with trialEnd := some 600000000 }, by decide +kernel⟩,
   ⟨0, (({ (wB.wImages.modUpd fun z => { z with trial := true }).modUpd fun z => { z with trialEnd := some 0 } with aon := 0 }).modUpd fun z => { z with autoConfirm := true }).modUpd fun y => { y with seen := 0xF#4, bad := false, runHead := List.replicate 4096 0#8 }, by decide +kernel⟩,
   ⟨((((wB.wImages |> fun (y : State) => { y with hud := { y.hud with state := .armed, source := some .kick } }).modHud fun z => { z with join := true }).modHud fun z => { z with ready := true }).modHud fun z => { z with seenLow := true }).modUpd fun z => { z with armed := none }, by decide +kernel⟩,
   ⟨wB.wImages.modHud fun z => { z with join := false }, by decide +kernel⟩,
   ⟨((wB.wImages |> fun (y : State) => { y with hud := { y.hud with state := .armed, source := some .kick } }).modUpd fun z => { z with armed := none }).modHud fun z => { z with svcSeq := none }, by decide +kernel⟩,
   ⟨wB.wUp.modHud fun y => { y with kickAt := wB.wUp.aon }, by decide +kernel⟩,
   ⟨.b, (((((wB.wImages.modPwr fun z => { z with domUp := true }).modFuse fun z => { z with job := none }).modFuse fun z => { z with held := none }).modUpd fun z => { z with loading := some .b }).modUpd fun z => { z with reverting := false }).modUpd fun y => { y with slotB := ⟨wImg, [[]]⟩ }, (by
      exact wImg_loads rfl rfl), by decide +kernel⟩,
   ⟨.b, (((((wB.wImages.modPwr fun z => { z with domUp := true }).modFuse fun z => { z with job := none }).modFuse fun z => { z with held := none }).modUpd fun z => { z with loading := some .b }).modUpd fun z => { z with reverting := false }).modUpd fun y => { y with slotB := ⟨[], []⟩, fallback := 2 }, by decide +kernel⟩,
   ⟨wB.wImages.modUpd fun z => { z with loading := none }, by decide +kernel⟩⟩

theorem witness_RegisterWrites :
    (∃ (s : State), s.hostUp = true ∧ s.pwr.dev = .run ∧ s.sealed = false ∧ s.hud.state = .empty) ∧
    (∃ (s : State), s.hostUp = true ∧ s.pwr.dev = .run ∧ s.sealed = true) ∧
    (∃ (s : State), s.hostUp = true ∧ s.pwr.dev = .run ∧ s.sealed = false ∧ s.hud.state = .empty ∧ s.expertOn .host = false) ∧
    (∃ (s : State), s.hostUp = true ∧ s.pwr.dev = .run) ∧
    (∃ (o : Fin 65536) (e : BitVec 4) (s : State), s.pwr.dev = .run ∧ (o.val % 4 ≠ 0 ∨ s.hostUp = false ∨ e ≠ 0xF#4)) ∧
    (∃ (p : Fin 192) (s : State), s.hostUp = true ∧ s.pwr.dev = .run ∧ s.portFenced p = true) ∧
    (∃ (p : Fin 192) (o : Fin 65536) (s : State), s.hostUp = true ∧ s.pwr.dev = .run ∧ o.val = ppOff p.val 0x7C) ∧
    (∃ (s : State), s.hostUp = true ∧ s.pwr.dev = .run ∧ s.expertOn .host = true) ∧
    (∃ (w : BitVec 32) (s : State), s.hostUp = true ∧ s.pwr.dev = .run ∧ s.expertOn .host = true ∧ s.upd.atLow = some w) ∧
    (∃ (s : State), s.hostUp = true ∧ s.pwr.dev = .run ∧ s.expertOn .host = false) ∧
    (∃ (p : Fin 192) (v : BitVec 32) (s : State), s.hostUp = true ∧ s.pwr.dev = .run ∧ s.portFenced p = false ∧ (s.expertOn .host = false ∨ bits v 6 2 = 3)) ∧
    (∃ (p : Fin 192) (v : BitVec 32) (s : State), s.hostUp = true ∧ s.pwr.dev = .run ∧ s.tileDeaf p = false ∧ s.expertOn .host = true ∧ bits v 6 2 ≠ 3 ∧ (s.port p).path.run = false ∧ bits v 0 5 < 16 ∧ (s.port p).cc.noTable (bits v 0 5) = false ∧ 165 ≤ bits v 20 12 ∧ bits v 20 12 ≤ 2500) ∧
    (∃ (p : Fin 192) (v : BitVec 32) (s : State), s.hostUp = true ∧ s.pwr.dev = .run ∧ s.tileDeaf p = false ∧ s.expertOn .host = true ∧ bits v 6 2 ≠ 3 ∧ ((s.port p).path.run = true ∨ (s.port p).cc.noTable (bits v 0 5) = true ∨ bits v 20 12 < 165 ∨ 2500 < bits v 20 12)) ∧
    (∃ (s : State), s.hostUp = true ∧ s.pwr.dev = .run ∧ s.expertOn .host = true ∧ s.upd.armable = true ∧ s.upd.recovery = false ∧ s.hud.onKick = false) ∧
    (∃ (s : State), s.hostUp = true ∧ s.pwr.dev = .run ∧ s.expertOn .host = true ∧ s.upd.armable = true ∧ s.upd.recovery = false ∧ s.hud.onKick = false ∧ s.timeAhead s.upd.actAt = true) ∧
    (∃ (s : State), s.hostUp = true ∧ s.pwr.dev = .run ∧ (s.expertOn .host = false ∨ s.upd.armable = false)) ∧
    (∃ (s : State), s.hostUp = true ∧ s.pwr.dev = .run ∧ s.upd.armed ≠ none) ∧
    (∃ (s : State), s.hostUp = true ∧ s.pwr.dev = .run ∧ s.upd.armed = none ∧ s.upd.dl = none) ∧
    (∃ (k : Slot) (s : State), s.hostUp = true ∧ s.pwr.dev = .run ∧ s.upd.run = some k) ∧
    (∃ (s : State), s.hostUp = true ∧ s.pwr.dev = .run ∧ s.upd.trial = true ∧ s.upd.healthy = true ∧ headAt s.upd.runHead 0x16 2 = 0) ∧
    (∃ (s : State), s.hostUp = true ∧ s.pwr.dev = .run ∧ (s.upd.trial = false ∨ s.upd.healthy = false)) :=
  ⟨⟨(wB.wHost.modPwr fun z => { z with dev := .run }).modHud fun z => { z with state := .empty }, by decide +kernel⟩,
   ⟨(wB.wHost.modPwr fun z => { z with dev := .run }).modHud fun y => { y with state := .armed }, by decide +kernel⟩,
   ⟨((wB.wHost.modPwr fun z => { z with dev := .run }).modHud fun z => { z with state := .empty }).modLink fun y => { y with unlocked := false }, by decide +kernel⟩,
   ⟨wB.wHost.modPwr fun z => { z with dev := .run }, by decide +kernel⟩,
   ⟨0x1001, 0, wB.wHost.modPwr fun z => { z with dev := .run }, by decide +kernel⟩,
   ⟨191, (wB.wHost.modPwr fun z => { z with dev := .run }).modPwr fun y => { y with fenced := 0x2000#14 }, by decide +kernel⟩,
   ⟨191, (0xDFFC : Fin 65536), wB.wHost.modPwr fun z => { z with dev := .run }, by decide +kernel⟩,
   ⟨wB.wHost.modPwr fun z => { z with dev := .run }, by decide +kernel⟩,
   ⟨0x77#32, (wB.wHost.modPwr fun z => { z with dev := .run }).modUpd fun z => { z with atLow := some 0x77#32 }, by decide +kernel⟩,
   ⟨(wB.wHost.modPwr fun z => { z with dev := .run }).modLink fun y => { y with unlocked := false }, by decide +kernel⟩,
   ⟨191, 0x000000C0#32, wB.wHost.modPwr fun z => { z with dev := .run }, by decide +kernel⟩,
   ⟨191, 0x9C400103#32, (wB.wHost.modPwr fun z => { z with dev := .run }).modPath 191 fun z => { z with run := false }, by decide +kernel⟩,
   ⟨191, 0x9C500003#32, (wB.wHost.modPwr fun z => { z with dev := .run }).modPath 191 fun z => { z with run := true }, by decide +kernel⟩,
   ⟨(wB.wHost.modPwr fun z => { z with dev := .run }).modUpd fun z => { z with recovery := false }, by decide +kernel⟩,
   ⟨((wB.wHost.modPwr fun z => { z with dev := .run }).modUpd fun z => { z with recovery := false }).modUpd fun y => { y with actAt := (wB).rtc / 32768 + 2 }, by decide +kernel⟩,
   ⟨(wB.wHost.modPwr fun z => { z with dev := .run }).modLink fun y => { y with unlocked := false }, by decide +kernel⟩,
   ⟨(wB.wHost.modPwr fun z => { z with dev := .run }).modUpd fun y => { y with armed := some .kick }, by decide +kernel⟩,
   ⟨((wB.wHost.modPwr fun z => { z with dev := .run }).modUpd fun z => { z with armed := none }).modUpd fun z => { z with dl := none }, by decide +kernel⟩,
   ⟨.b, (wB.wHost.modPwr fun z => { z with dev := .run }).modUpd fun z => { z with run := some .b }, by decide +kernel⟩,
   ⟨((wB.wHost.modPwr fun z => { z with dev := .run }).modUpd fun z => { z with trial := true }).modUpd fun y => { y with seen := 0xF#4, bad := false, runHead := List.replicate 4096 0#8 }, by decide +kernel⟩,
   ⟨(wB.wHost.modPwr fun z => { z with dev := .run }).modUpd fun z => { z with trial := false }, by decide +kernel⟩⟩

theorem witness_RegisterReads :
    (∃ (s : State), s.hostUp = true ∧ s.pwr.dev = .run) ∧
    (∃ (p : Fin 192) (o : Fin 65536) (s : State), s.hostUp = true ∧ s.pwr.dev = .run ∧ s.portFenced p = false ∧ o.val = ppOff p.val 0x10) ∧
    (∃ (s : State), s.pwr.coresUp = true ∧ s.pwr.dev = .run) ∧
    (∃ (o : Fin 65536), errorReg o.val = false) ∧
    (∃ (o : Fin 65536) (s : State), s.wide o.val = none) ∧
    (∃ (a : Path6) (h : Word) (s : State), s.latchOf a 0x2008 = some h) ∧
    (∃ (s : State), (s.fuse.rl (regionAt s.fuse.raddr.toNat) = true ∨ regionAt s.fuse.raddr.toNat = .unitkey)) ∧
    (∃ (t : Fin 8) (s : State), s.tileFenced t = true) :=
  ⟨⟨wB.wHost.modPwr fun z => { z with dev := .run }, by decide +kernel⟩,
   ⟨191, (0xDF90 : Fin 65536), wB.wHost.modPwr fun z => { z with dev := .run }, by decide +kernel⟩,
   ⟨(wB.wHost.modPwr fun z => { z with coresUp := true }).modPwr fun z => { z with dev := .run }, by decide +kernel⟩,
   ⟨(0x1000 : Fin 65536), by decide +kernel⟩,
   ⟨(0x1000 : Fin 65536), wB.wHost, by decide +kernel⟩,
   ⟨.svc, 0x55#32, wB.setLatch .svc 0x2008 0x55#32, by decide +kernel⟩,
   ⟨wB.modFuse fun y => { y with raddr := 0x40#8 }, by decide +kernel⟩,
   ⟨(7 : Fin 8), wB.setFence (domTile 7) true, by decide +kernel⟩⟩

theorem witness_PortsTilesAndBlocks :
    (∃ (r : Nat), r < 0x80) ∧
    (∃ (o : Nat) (p : Fin 192) (r : Nat), ppPort o = some (p, r)) ∧
    (∃ (o : Nat) (r : Nat), ppPort o = some (191, r)) :=
  ⟨⟨127, by decide +kernel⟩,
   ⟨0xDFFF, 191, 127, by decide +kernel⟩,
   ⟨0xDFFF, 127, by decide +kernel⟩⟩

theorem witness_AttachStateCodes :
    (∃ (p : Fin 192) (s : State), s.portFenced p = false) ∧
    (∃ (p : Fin 192) (s : State), s.portFenced p = false) :=
  ⟨⟨191, wB.modCc 191 fun y => { y with state := .attached }, by decide +kernel⟩,
   ⟨191, wB, by decide +kernel⟩⟩

theorem witness_StepRunsFrontCommand :
    (∃ (c : Instr) (r : List Instr) (s : State), s.pending = c :: r) ∧
    (∃ (s : State), s.pending = []) :=
  ⟨⟨.cableResetRx 0, [], { wB with pending := (.cableResetRx 0) :: ([]) }, by decide +kernel⟩,
   ⟨{ wB with pending := [] }, by decide +kernel⟩⟩

theorem witness_MemoriesStayCanonical :
    (∃ (s : State) (t : State), step s = .next t ∧ s.memWf = true) :=
  ⟨{ wB with pending := [.kickLineLow] }, wNext (step ({ wB with pending := [.kickLineLow] })), rfl, by decide +kernel⟩

theorem witness_CommandsKeepTheQueue :
    (∃ (c : Instr) (s : State) (t : State), exec c s = .next t) :=
  ⟨.kickLineLow, wB, wNext (exec .kickLineLow wB), rfl⟩

theorem witness_OnlySequencerClosesGate :
    (∃ (c : Instr) (p : Fin 192) (s : State) (t : State), (∀ (vb : Nat) (vs0 rival : Bool), c ≠ .stSetGate p vb vs0 rival) ∧ exec c s = .next t ∧ (s.port p).path.gate = false) :=
  ⟨.kickLineLow, 191, (wB.modPath 191 fun y => { y with gate := false }).modPath 191 fun z => { z with gate := false }, wNext (exec .kickLineLow ((wB.modPath 191 fun y => { y with gate := false }).modPath 191 fun z => { z with gate := false })), (by
      exact fun _ _ _ h => by cases h), rfl, by decide +kernel⟩

end Sys2Proof.Tests
end

section
/-! SUPPORT. Where an offset of BAR0 lies (R479), and what queued events, signals, table starts and update states leave alone. -/
namespace Sys2Proof.Machine

/-! ### Offsets (R479) -/

theorem ppPort_ppOff (p : PortId) {r : Nat} (h : r < 0x80) : ppPort (ppOff p.val r) = some (p, r) := by
  have := p.isLt
  unfold ppPort ppOff
  rw [dif_pos (by omega)]
  simp only [Option.some.injEq, Prod.mk.injEq, Fin.ext_iff]
  omega

theorem ppPort_eq_some {o : Nat} {p : PortId} {r : Nat} (h : ppPort o = some (p, r)) : o = ppOff p.val r ∧ r < 0x80 := by
  unfold ppPort at h
  split at h
  · simp only [Option.some.injEq, Prod.mk.injEq, Fin.ext_iff] at h
    unfold ppOff
    omega
  · cases h

theorem portAt_tileOf (p : PortId) : portAt (tileOf p) ⟨p.val % 24, Nat.mod_lt _ (by decide)⟩ = p :=
  Fin.ext (Nat.div_add_mod' p.val 24)

theorem ppOff_mod_four (p : PortId) (r : Nat) : ppOff p.val r % 4 = r % 4 := by
  unfold ppOff
  omega

/-! ### Ports and paths that an operation leaves alone -/

/-- An operation on no port leaves the ports alone. -/
theorem State.Frame.ports {s u : State} (h : State.Frame (fun _ => False) s u) : u.ports = s.ports :=
  Vector.ext fun i hi => h.others ⟨i, hi⟩ id

theorem State.modSc_path (s : State) (p q : PortId) (f : Sched → Sched) : ((s.modSc p f).port q).path = (s.port q).path := by
  rw [State.modSc_eq, State.modPort_port]
  split
  · next e => rw [e]
  · rfl

@[simp] theorem State.arrive_port (s : State) (q : PortId) : s.arrive.port q = s.port q :=
  (s.arrive_frame (P := fun _ => False)).others q id

@[simp] theorem State.unpoison_port (s : State) (mem lo n : Nat) (q : PortId) : (s.unpoison mem lo n).port q = s.port q :=
  (s.unpoison_frame (P := fun _ => False) mem lo n).others q id

@[simp] theorem State.enqueue_path (s : State) (p : PortId) (e : QEv) (q : PortId) : ((s.enqueue p e).port q).path = (s.port q).path :=
  (congrArg Port.path (foldl_keeps (State.port · q) _ (fun s _ => s.unpoison_port _ _ _ q) _ _)).trans <|
    (congrArg Port.path (State.unpoison_port _ _ _ _ q)).trans (s.modSc_path p q _)

@[simp] theorem State.queueFault_path (s : State) (p : PortId) (code : Nat) (d : Word) (q : PortId) :
    ((s.queueFault p code d).port q).path = (s.port q).path := by
  unfold State.queueFault
  rw [State.arrive_port]
  split
  · rfl
  · split
    · exact s.enqueue_path p _ q
    · exact s.modSc_path p q _

@[simp] theorem State.dropReport_path (s : State) (p q : PortId) : ((s.dropReport p).port q).path = (s.port q).path := by
  unfold State.dropReport
  dsimp only
  split <;> rw [State.queueFault_path, State.modSc_path] <;> rfl

/-- A queued event leaves every port's power path alone (R302, R303). -/
@[simp] theorem State.queueEv_path (s : State) (p : PortId) (e : QEv) (q : PortId) : ((s.queueEv p e).port q).path = (s.port q).path := by
  rw [← s.arrive_port q]
  unfold State.queueEv
  dsimp only
  split
  · rfl
  · split
    · exact State.queueFault_path _ p _ _ q
    · split
      · exact State.enqueue_path _ p e q
      · exact State.modSc_path _ p q _
    · split
      · exact State.enqueue_path _ p e q
      · exact State.dropReport_path _ p q
    · split
      · exact State.enqueue_path _ p e q
      · rfl
    · split
      · exact State.modSc_path _ p q _
      · split
        · exact State.enqueue_path _ p e q
        · exact State.modSc_path _ p q _

/-- A signal shows in its port's power path and changes nothing else of it (R163). -/
theorem State.sigSend_path (s : State) (p : PortId) (g : Signal) :
    ((s.sigSend p g).port p).path = { (s.port p).path with lastSignal := some g } := by
  unfold State.sigSend State.queueMsg
  rw [State.queueEv_path, State.modPath_eq, State.modPort_port_self]

theorem State.calAbort_path (s : State) (p : PortId) : ((s.calAbort p).port p).path = (s.port p).path := by
  unfold State.calAbort
  dsimp only
  split
  · rw [State.modPort_port_self, State.modTile_port]
  · rfl

/-- A table that starts runs from entry 0 with its request, and changes nothing else of the port's power path (R167). -/
theorem State.startTable_path (s : State) (p : PortId) (n : Nat) (r : Post) :
    ((s.startTable p n r).port p).path =
      { (s.port p).path with run := true, table := n, entry := 0, waiting := false, post := r, moved := false, safeHeld := false } := by
  unfold State.startTable State.capFire
  simp [State.calAbort_path]

/-- An update state that is posted changes of the update block its state and its log (R467). -/
@[simp] theorem State.postUpd_upd (s : State) (st : UpdState) (ver : Word) :
    (s.postUpd st ver).upd = { s.upd with state := st, log := logPut s.upd.log { st := st, ver := ver, time := s.rtc } } :=
  (State.postEvt_frame (P := fun _ => False) _ none (.updateState st ver)).safety.2.2

@[simp] theorem State.postUpd_ports (s : State) (st : UpdState) (ver : Word) : (s.postUpd st ver).ports = s.ports :=
  (State.postEvt_frame (s.modUpd _) none (.updateState st ver)).ports

@[simp] theorem State.postUpd_hud (s : State) (st : UpdState) (ver : Word) : (s.postUpd st ver).hud = s.hud :=
  (State.postEvt_frame (P := fun _ => False) (s.modUpd _) none (.updateState st ver)).board.2.2.1

end Sys2Proof.Machine
end

section
/-! SUPPORT. What a write of BAR0 reaches (R355, R410, R470–R473), and what each command of the host that writes a register comes to. -/
namespace Sys2Proof.Machine

/-! ### What a write reaches -/

theorem State.toRun_of_run {s : State} (h : s.pwr.dev = .run) : s.toRun = s := by
  simp [State.toRun, h]

theorem State.portFenced_of_hears {s : State} {p : PortId} (h : s.tileDeaf p = false) : s.portFenced p = false := by
  unfold State.tileDeaf at h
  simp_all

theorem State.offFenced_ppOff (s : State) (p : PortId) {r : Nat} (h : r < 0x80) :
    s.offFenced (ppOff p.val r) = (ppTile r && s.portFenced p) := by
  simp [State.offFenced, ppPort_ppOff p h]

theorem State.offFenced_of_global (s : State) {off : Nat} (h : ppPort off = none) : s.offFenced off = false := by
  simp [State.offFenced, h]

variable (s : State) (a : Path6) (v : Word) (vpp : Nat) (slots : List Desc)

/-- A register with RWS fields outside the ports' blocks is staged (R355). -/
theorem State.busWrite_staged {off : Nat} (al : off % 4 = 0) (gl : ppPort off = none) (m : rwsMask off ≠ (0#32, 0#32)) :
    s.busWrite a off v vpp slots = s.stageWrite off v (s.expertOn a) := by
  simp [State.busWrite, al, s.offFenced_of_global gl, m]

/-- A register of the CK_, PW_ and REF_ blocks. -/
theorem State.busWrite_pw {off : Nat} (al : off % 4 = 0) (gl : ppPort off = none) (m : rwsMask off = (0#32, 0#32))
    (lo : 0x2000 ≤ off) (hi : off < 0x3000) : s.busWrite a off v vpp slots = s.writePw a off v := by
  have h0 : ¬ off < 0x1000 := by omega
  have h1 : off ≠ 0x1800 := by omega
  have h2 : off ≠ 0x180C := by omega
  simp [State.busWrite, al, s.offFenced_of_global gl, m, gl, h0, h1, h2, hi]

/-- A register of the FU_ and UP_ blocks. -/
theorem State.busWrite_fuUp {off : Nat} (al : off % 4 = 0) (gl : ppPort off = none) (m : rwsMask off = (0#32, 0#32))
    (lo : 0x3000 ≤ off) (hi : off < 0x4000) : s.busWrite a off v vpp slots = s.writeFuUp a off v vpp := by
  have h0 : ¬ off < 0x1000 := by omega
  have h1 : off ≠ 0x1800 := by omega
  have h2 : off ≠ 0x180C := by omega
  have h3 : ¬ off < 0x3000 := by omega
  simp [State.busWrite, al, s.offFenced_of_global gl, m, gl, h0, h1, h2, h3, hi]

/-- A per-port register without RWS fields, in a tile that is not fenced or outside the tile. -/
theorem State.busWrite_port (p : PortId) {r : Nat} (al : r % 4 = 0) (lt : r < 0x80) (m : rwsMask (ppOff p.val r) = (0#32, 0#32))
    (f : (ppTile r && s.portFenced p) = false) : s.busWrite a (ppOff p.val r) v vpp slots = s.writePp a p r v := by
  simp [State.busWrite, ppOff_mod_four, al, s.offFenced_ppOff p lt, f, m, ppPort_ppOff p lt]

/-- A write of a fenced tile's register is dropped and told (R410, R473). -/
theorem State.busWrite_fenced (p : PortId) {r : Nat} (al : r % 4 = 0) (lt : r < 0x80) (f : (ppTile r && s.portFenced p) = true) :
    s.busWrite a (ppOff p.val r) v vpp slots = s.modPwr fun w => { w with writeDrop := true } := by
  simp only [State.busWrite, ppOff_mod_four, al, s.offFenced_ppOff p lt, f]
  rfl

theorem State.busWrite_unaligned {off : Nat} (h : off % 4 ≠ 0) : s.busWrite a off v vpp slots = s := by
  simp [State.busWrite, h]

theorem rwsMask_pathCtrl (p : PortId) : rwsMask (ppOff p.val 0x34) = (0#32, 0#32) := by
  simp [rwsMask, ppPort_ppOff p (r := 0x34) (by decide)]

theorem rwsMask_ovfClear (p : PortId) : rwsMask (ppOff p.val 0x7C) = (0#32, 0#32) := by
  simp [rwsMask, ppPort_ppOff p (r := 0x7C) (by decide)]

/-! ### Staging (R355–R357) -/

theorem State.stageMask_of_empty {s : State} (h : s.hud.state = .empty) (off : Nat) {mask : Word} (m : mask ≠ 0#32) (v : Word) :
    s.stageMask off mask v = { s with hud := { s.hud with
      state := .staged
      staged := insertStaged s.hud.staged ⟨off, (s.stagedOr off &&& ~~~ mask) ||| (v &&& mask)⟩ } } := by
  have u : s.sealed = false := by simp [State.sealed, h, HuddleState.sealed]
  simp [State.stageMask, State.hudTouch, State.modHud, m, u, h]

theorem State.stageMask_of_sealed {s : State} (h : s.sealed = true) (off : Nat) {mask : Word} (m : mask ≠ 0#32) (v : Word) :
    s.stageMask off mask v = { s with hud := { s.hud with sealedWrite := true } } := by
  simp [State.stageMask, State.modHud, m, h]

/-- Every field of SB_BUDGET may be staged without R5. -/
theorem stageWrite_budget (v : Word) (x : Bool) : s.stageWrite 0x1000 v x = s.stageMask 0x1000 0x000FFFFF#32 v := by
  cases x <;> rfl

/-- Without R5 a write of TL_WATCH_CFG stages its TICK field alone. -/
theorem stageWrite_tick_of_noExpert (v : Word) : s.stageWrite 0x4800 v false = s.stageMask 0x4800 0x7#32 v := rfl

/-! ### The parts of UP_CTRL (R468) -/

theorem State.ctrlArm_of_noSource {v : Word} (h : bits v 4 2 = 0) : s.ctrlArm a v = s := by
  simp [State.ctrlArm, h]

theorem State.ctrlCancel_of_clear {v : Word} (h : bit v 3 = false) : s.ctrlCancel v = s := by
  simp [State.ctrlCancel, h]

theorem State.ctrlSave_of_clear {v : Word} (h : bit v 2 = false) : s.ctrlSave v = s := by
  simp [State.ctrlSave, h]

theorem State.ctrlConfirm_of_clear {v : Word} (h : bit v 0 = false) : s.ctrlConfirm v vpp = s := by
  simp [State.ctrlConfirm, h]

/-- UP_CTRL with a code of ARM. -/
def armWord (k : Fin 4) : Word := packWord [(k.val, 4, 2)]

theorem writeUpCtrl_arm (k : Fin 4) : s.writeUpCtrl a (armWord k) vpp = s.ctrlArm a (armWord k) := by
  have clear : ∀ k : Fin 4, bit (armWord k) 3 = false ∧ bit (armWord k) 2 = false ∧ bit (armWord k) 0 = false := by decide
  obtain ⟨c3, c2, c0⟩ := clear k
  rw [State.writeUpCtrl, State.ctrlCancel_of_clear _ c3, State.ctrlSave_of_clear _ c2, State.ctrlConfirm_of_clear _ _ c0]

theorem writeUpCtrl_cancel : s.writeUpCtrl a 8#32 vpp = s.ctrlCancel 8#32 := by
  rw [State.writeUpCtrl, State.ctrlArm_of_noSource s a (by decide), State.ctrlSave_of_clear _ (by decide),
    State.ctrlConfirm_of_clear _ _ (by decide)]

theorem writeUpCtrl_save : s.writeUpCtrl a 4#32 vpp = s.ctrlSave 4#32 := by
  rw [State.writeUpCtrl, State.ctrlArm_of_noSource s a (by decide), State.ctrlCancel_of_clear _ (by decide),
    State.ctrlConfirm_of_clear _ _ (by decide)]

theorem writeUpCtrl_confirm : s.writeUpCtrl a 1#32 vpp = s.ctrlConfirm 1#32 vpp := by
  rw [State.writeUpCtrl, State.ctrlArm_of_noSource s a (by decide), State.ctrlCancel_of_clear _ (by decide),
    State.ctrlSave_of_clear _ (by decide)]

end Sys2Proof.Machine
end

section
/-! SUPPORT. What each command of the host that writes a register comes to while the host is up and the device in RUN. -/
namespace Sys2Proof.Machine

variable {s : State}

theorem hostWrite_of_up (hup : s.hostUp = true) (hrun : s.pwr.dev = .run) (off : Nat) (v : Word) (vpp : Nat) :
    s.hostWrite off v vpp = s.busWrite .host off v vpp [] := by
  rw [State.hostWrite, if_pos hup, State.toRun_of_run hrun]

/-- REGISTER_WRITE of a register that has no row of its own. -/
theorem exec_registerWrite (hup : s.hostUp = true) (hrun : s.pwr.dev = .run) (o : Fin 65536) (own : ownRow o.val = false) (v : Word) :
    exec (.registerWrite o 0xF#4 v) s = .next (s.busWrite .host o.val v 0 []) := by
  change execRegisterWrite o 0xF#4 v s = _
  simp [execRegisterWrite, own, hostWrite_of_up hup hrun, ok]

/-- A write that does not reach BAR0, of less than a word or not on a word, changes nothing (R471, R472). -/
theorem exec_registerWrite_ignored (hrun : s.pwr.dev = .run) (o : Fin 65536) (e : BitVec 4) (v : Word)
    (h : o.val % 4 ≠ 0 ∨ s.hostUp = false ∨ e ≠ 0xF#4) : exec (.registerWrite o e v) s = .next s := by
  change execRegisterWrite o e v s = _
  unfold execRegisterWrite ok
  split
  · rfl
  · next g =>
    unfold State.hostWrite
    split
    · next hup =>
      rw [State.toRun_of_run hrun, State.busWrite_unaligned]
      simp_all
    · rfl

theorem exec_registerWrite_staged (hup : s.hostUp = true) (hrun : s.pwr.dev = .run) (o : Fin 65536) (own : ownRow o.val = false)
    (al : o.val % 4 = 0) (gl : ppPort o.val = none) (m : rwsMask o.val ≠ (0#32, 0#32)) (v : Word) :
    exec (.registerWrite o 0xF#4 v) s = .next (s.stageWrite o.val v (s.expertOn .host)) := by
  rw [exec_registerWrite hup hrun o own, State.busWrite_staged s _ v _ _ al gl m]

section
variable (hup : s.hostUp = true) (hrun : s.pwr.dev = .run)
include hup hrun

theorem exec_pathCtrlWrite (p : Fin 192) (v : Word) (f : s.portFenced p = false) :
    exec (.pathCtrlWrite p v) s = .next (s.writePathCtrl .host p v) := by
  change Host.Outcome.next (s.hostWrite (ppOff p.val 0x34) v 0) = _
  rw [hostWrite_of_up hup hrun, State.busWrite_port s _ v _ _ p (by decide) (by decide) (rwsMask_pathCtrl p) (by simp [f])]
  rfl

theorem exec_pathCtrlWrite_fenced (p : Fin 192) (v : Word) (f : s.portFenced p = true) :
    exec (.pathCtrlWrite p v) s = .next { s with pwr := { s.pwr with writeDrop := true } } := by
  change Host.Outcome.next (s.hostWrite (ppOff p.val 0x34) v 0) = _
  rw [hostWrite_of_up hup hrun, State.busWrite_fenced s _ v _ _ p (by decide) (by decide) (by simp [f, ppTile])]
  rfl

theorem exec_eventCounterOvfClear_port (p : Fin 192) (o : Fin 65536) (h : o.val = ppOff p.val 0x7C) (v : Word) :
    exec (.eventCounterOvfClear o v) s = .next (s.modCnt p fun c =>
      { c with onSec := c.onSec.wipe (bit (v &&& 0xF#32) 3), hrst := c.hrst.wipe (bit (v &&& 0xF#32) 2)
               attach := c.attach.wipe (bit (v &&& 0xF#32) 1), trip := c.trip.wipe (bit (v &&& 0xF#32) 0) }) := by
  have m : ovfMask o.val = 0xF#32 := by simp [ovfMask, h, ppPort_ppOff p (r := 0x7C) (by decide)]
  change execEventCounterOvfClear o v s = _
  simp only [execEventCounterOvfClear, m, ok]
  rw [if_neg (by decide), hostWrite_of_up hup hrun, h,
    State.busWrite_port s _ _ _ _ p (by decide) (by decide) (rwsMask_ovfClear p) (by simp [ppTile])]
  rfl

theorem exec_eventCounterOvfClear_huddle (v : Word) :
    exec (.eventCounterOvfClear 0x1800 v) s = .next (s.modHud fun h =>
      { h with sealedWrite := h.sealedWrite && ! bit (v &&& 0x180000#32) 23, applyCnt := h.applyCnt.wipe (bit (v &&& 0x180000#32) 20)
               kickCnt := h.kickCnt.wipe (bit (v &&& 0x180000#32) 19) }) := by
  change Host.Outcome.next (s.hostWrite 0x1800 (v &&& 0x180000#32) 0) = _
  rw [hostWrite_of_up hup hrun]
  rfl

theorem exec_refCfgWrite (v : Word) : exec (.refCfgWrite v) s = .next (s.writeRefCfg .host v) := by
  change Host.Outcome.next (s.hostWrite 0x280C v 0) = _
  rw [hostWrite_of_up hup hrun, State.busWrite_pw s _ v _ _ rfl rfl rfl (by decide) (by decide)]
  rfl

theorem exec_pwCtrlReset : exec .pwCtrlReset s = .next (s.writePwCtrl .host 1#32) := by
  change Host.Outcome.next (s.hostWrite 0x2114 1#32 0) = _
  rw [hostWrite_of_up hup hrun, State.busWrite_pw s _ _ _ _ rfl rfl rfl (by decide) (by decide)]
  rfl

theorem exec_upActivateAtWrite (high : Bool) (v : Word) :
    exec (.upActivateAtWrite high v) s = .next (s.writeActAt .host high v) := by
  change Host.Outcome.next (s.hostWrite (if high then 0x3214 else 0x3210) v 0) = _
  rw [hostWrite_of_up hup hrun]
  cases high <;> exact congrArg Host.Outcome.next (State.busWrite_fuUp s _ v _ _ rfl rfl rfl (by decide) (by decide))

theorem hostWrite_upCtrl (v : Word) (vpp : Nat) : s.hostWrite 0x3208 v vpp = s.writeUpCtrl .host v vpp := by
  rw [hostWrite_of_up hup hrun, State.busWrite_fuUp s _ v _ _ rfl rfl rfl (by decide) (by decide)]
  rfl

theorem exec_upCtrlArm (k : Fin 4) : exec (.upCtrlArm k) s = .next (s.ctrlArm .host (armWord k)) := by
  change Host.Outcome.next (s.hostWrite 0x3208 (armWord k) 0) = _
  rw [hostWrite_upCtrl hup hrun, writeUpCtrl_arm]

theorem exec_upCtrlCancel : exec .upCtrlCancel s = .next (s.ctrlCancel 8#32) := by
  change Host.Outcome.next (s.hostWrite 0x3208 8#32 0) = _
  rw [hostWrite_upCtrl hup hrun, writeUpCtrl_cancel]

theorem exec_upCtrlSave : exec .upCtrlSave s = .next (s.ctrlSave 4#32) := by
  change Host.Outcome.next (s.hostWrite 0x3208 4#32 0) = _
  rw [hostWrite_upCtrl hup hrun, writeUpCtrl_save]

theorem exec_upCtrlConfirm (vpp : Nat) : exec (.upCtrlConfirm vpp) s = .next (s.ctrlConfirm 1#32 vpp) := by
  change Host.Outcome.next (s.hostWrite 0x3208 1#32 vpp) = _
  rw [hostWrite_upCtrl hup hrun, writeUpCtrl_confirm]

end

end Sys2Proof.Machine
end

section
/-! SUPPORT. Arming, cancelling, saving and confirming through UP_CTRL (R459, R463, R464), and the starts and refusals of PP_PATH_CTRL
(R168). -/
namespace Sys2Proof.Machine

variable {s : State} {a : Path6}

/-! ### Arming (R464) -/

theorem Upd.armed_of_armable {u : Upd} (h : u.armable = true) : u.armed = none := by
  simp_all [Upd.armable]

theorem armBad_of_armable (h : s.upd.armable = true) (r : s.upd.recovery = false) {src : ArmSource} {t : Nat}
    (ahead : src = .atTime → s.timeAhead t = true) : s.armBad src t = none := by
  cases src <;> simp_all [State.armBad]

theorem armBad_of_not_armable (h : s.upd.armable = false) (src : ArmSource) (t : Nat) : (s.armBad src t).isSome = true := by
  unfold State.armBad
  split
  · rfl
  · simp [h]

/-- An arming that R5 or the state of the update refuses is ignored. -/
theorem ctrlArm_of_refused (h : s.expertOn a = false ∨ s.upd.armable = false) (v : Word) : s.ctrlArm a v = s := by
  unfold State.ctrlArm
  obtain x | n := h
  · simp [x]
  · simp only [armBad_of_not_armable n, if_true]
    split
    · rfl
    · split <;> rfl

theorem ctrlArm_atTime (x : s.expertOn a = true) (h : s.armBad .atTime s.upd.actAt = none) :
    s.ctrlArm a (armWord 1) = s.armUpd .atTime := by
  simp [State.ctrlArm, x, h, show bits (armWord 1) 4 2 = 1 by decide]

theorem ctrlArm_kick (x : s.expertOn a = true) (h : s.armBad .kick s.upd.actAt = none) : s.ctrlArm a (armWord 2) = s.armUpd .kick := by
  simp [State.ctrlArm, x, h, show bits (armWord 2) 4 2 = 2 by decide]

theorem ctrlArm_now (x : s.expertOn a = true) (h : s.armBad .now s.upd.actAt = none) : s.ctrlArm a (armWord 3) = s.armUpd .now := by
  simp [State.ctrlArm, x, h, show bits (armWord 3) 4 2 = 3 by decide]

/-- Arming on KICK begins with the line alone. -/
theorem kickArming_eq (s : State) : ∃ b n, s.kickArming = s.modHud fun h => { h with seenLow := b, kickAt := n } := by
  unfold State.kickArming
  split
  · exact ⟨s.hud.seenLow, s.hud.kickAt, rfl⟩
  · exact ⟨_, _, rfl⟩

/-- The update block once an activation is armed: its source, and SCHEDULED. -/
theorem armUpd_upd (s : State) (src : ArmSource) :
    ∃ r l, (s.armUpd src).upd = { s.upd with armed := some src, kickReady := r, state := .scheduled, log := l } := by
  obtain ⟨b, n, k⟩ := kickArming_eq s
  unfold State.armUpd
  rw [State.postUpd_upd, k]
  cases src <;> exact ⟨_, _, rfl⟩

theorem armUpd_ports (s : State) (src : ArmSource) : (s.armUpd src).ports = s.ports := by
  obtain ⟨b, n, k⟩ := kickArming_eq s
  unfold State.armUpd
  rw [State.postUpd_ports, k]
  cases src <;> rfl

/-- The first action armed on KICK has the line seen low from here on (R368; log entry 50). -/
theorem armUpd_kick_hud (h : s.kickArmed = false) : (s.armUpd .kick).hud = { s.hud with seenLow := ! s.hud.kickIn, kickAt := s.aon } := by
  unfold State.armUpd
  rw [State.postUpd_hud]
  simp [State.kickArming, h]

/-! ### Cancelling, saving and confirming (R457, R459, R463) -/

theorem ctrlCancel_of_armed (h : s.upd.armed ≠ none) : s.ctrlCancel 8#32 = s.updDisarm := by
  have b : bit 8#32 3 = true := by decide
  simp [State.ctrlCancel, State.updCancel, b, Option.isSome_iff_ne_none.mpr h]

theorem ctrlCancel_of_nothing (h : s.upd.armed = none) (d : s.upd.dl = none) : s.ctrlCancel 8#32 = s := by
  simp [State.ctrlCancel, State.updCancel, h, d]

theorem updDisarm_upd (s : State) :
    ∃ l, s.updDisarm.upd = { s.upd with armed := none, kickReady := false, state := .cancelled, log := l } :=
  ⟨_, State.postUpd_upd _ _ _⟩

theorem Upd.record_setRecord (u : Upd) (k : Slot) (r : Settings) : (u.setRecord k r).record k = some r := by
  cases k <;> rfl

theorem ctrlSave_of_running {k : Slot} (h : s.upd.run = some k) :
    s.ctrlSave 4#32 = s.modUpd fun u =>
      u.setRecord k { fmt := BitVec.ofNat 32 (headW u.runHead 0x10), params := s.cfg.params, cfg := u.cfgWord } := by
  have b : bit 4#32 2 = true := by decide
  simp [State.ctrlSave, State.saveSettings, b, h]

/-- A trial of an image whose head page asks for no floor ends at once when it is confirmed. -/
theorem confirm_upd (h : headAt s.upd.runHead 0x16 2 = 0) (vpp : Nat) :
    (s.confirm vpp).upd.trial = false ∧ (s.confirm vpp).upd.trialEnd = none ∧ (s.confirm vpp).upd.state = .confirmed := by
  have b : bit (BitVec.ofNat 32 0) 1 = false := by decide
  simp [State.confirm, h, b, State.confirmDone, State.postUpd_upd]

theorem ctrlConfirm_of_trial (t : s.upd.trial = true) (g : s.upd.healthy = true) (vpp : Nat) :
    s.ctrlConfirm 1#32 vpp = s.confirm vpp := by
  have b : bit 1#32 0 = true := by decide
  simp [State.ctrlConfirm, b, t, g]

theorem ctrlConfirm_of_refused (h : s.upd.trial = false ∨ s.upd.healthy = false) (v : Word) (vpp : Nat) :
    s.ctrlConfirm v vpp = s := by
  obtain h | h := h <;> simp [State.ctrlConfirm, h]

/-! ### PP_PATH_CTRL (R168) -/

variable {p : PortId} {v : Word}

theorem writePathCtrl_ignored (h : s.expertOn a = false ∨ bits v 6 2 = 3) : s.writePathCtrl a p v = s := by
  obtain h | h := h <;> simp [State.writePathCtrl, h]

/-- What of a write of PP_PATH_CTRL the sequencer refuses, on a port whose tile hears it. -/
def State.pathCtrlBad (s : State) (p : PortId) (v : Word) : Bool :=
  (s.port p).path.run || (decide (16 ≤ bits v 0 5) && ! s.stValid (bits v 0 5 - 16)) || bits v 20 12 * 20 < 3300 ||
    bits v 20 12 * 20 > 50000 || (s.port p).cc.noTable (bits v 0 5)

theorem writePathCtrl_of_bad (x : s.expertOn a = true) (k : bits v 6 2 ≠ 3) (t : s.tileDeaf p = false) (b : s.pathCtrlBad p v = true) :
    s.writePathCtrl a p v = (s.modPath p fun q => { q with ctrl := v &&& 0xFFFFFFDF#32 }).sigSend p .refused := by
  unfold State.pathCtrlBad at b
  have kind := beq_eq_false_iff_ne.mpr k
  simp only [State.writePathCtrl, x, kind, t, b]
  rfl

theorem writePathCtrl_of_good (x : s.expertOn a = true) (k : bits v 6 2 ≠ 3) (t : s.tileDeaf p = false) (b : s.pathCtrlBad p v = false) :
    s.writePathCtrl a p v = (s.modPath p fun q => { q with ctrl := v &&& 0xFFFFFFDF#32 }).startTable p (bits v 0 5)
      { purpose := .fixed, mv := bits v 20 12 * 20, ma := bits v 8 12 * 5, kind := kindOfCode (bits v 6 2), rp := .dflt, minMv := 3300 } := by
  unfold State.pathCtrlBad at b
  have kind := beq_eq_false_iff_ne.mpr k
  simp only [State.writePathCtrl, x, kind, t, b]
  rfl

end Sys2Proof.Machine
end

section
/-! SUPPORT. What a host write does, register by register. -/
namespace Sys2Proof.Machine

/-! ### The clauses on the counters, the path and the update block -/

section
variable {s : State} (hup : s.hostUp = true) (hrun : s.pwr.dev = .run)
include hup hrun

/-- A write of SB_BUDGET while the huddle is empty. -/
theorem registerWrite_budget (emp : s.hud.state = .empty) (v : BitVec 32) :
    exec (.registerWrite 0x1000 0xF#4 v) s = .next { s with hud := { s.hud with
      state := .staged
      staged := insertStaged s.hud.staged ⟨0x1000, (s.stagedOr 0x1000 &&& 0xFFF00000#32) ||| (v &&& 0x000FFFFF#32)⟩ } } := by
  rw [exec_registerWrite_staged hup hrun 0x1000 rfl rfl rfl (by decide)]
  exact congrArg _ ((stageWrite_budget s v _).trans (State.stageMask_of_empty emp _ (by decide) v))

theorem registerWrite_budget_sealed (sl : s.sealed = true) (v : BitVec 32) :
    exec (.registerWrite 0x1000 0xF#4 v) s = .next { s with hud := { s.hud with sealedWrite := true } } := by
  rw [exec_registerWrite_staged hup hrun 0x1000 rfl rfl rfl (by decide)]
  exact congrArg _ ((stageWrite_budget s v _).trans (State.stageMask_of_sealed sl _ (by decide) v))

/-- Without R5 a write of TL_WATCH_CFG while the huddle is empty keeps the staged copies of its X fields (R6, R355). -/
theorem registerWrite_tick_of_noExpert (emp : s.hud.state = .empty) (x : s.expertOn .host = false) (v : BitVec 32) :
    exec (.registerWrite 0x4800 0xF#4 v) s = .next { s with hud := { s.hud with
      state := .staged
      staged := insertStaged s.hud.staged ⟨0x4800, (s.stagedOr 0x4800 &&& 0xFFFFFFF8#32) ||| (v &&& 0x7#32)⟩ } } := by
  rw [exec_registerWrite_staged hup hrun 0x4800 rfl rfl rfl (by decide), x]
  exact congrArg _ ((stageWrite_tick_of_noExpert s v).trans (State.stageMask_of_empty emp _ (by decide) v))

theorem registerWrite_fuWdata (v : BitVec 32) :
    exec (.registerWrite 0x3004 0xF#4 v) s = .next { s with fuse := { s.fuse with wdata := v } } := by
  rw [exec_registerWrite hup hrun 0x3004 rfl]
  exact congrArg _ (State.busWrite_fuUp s _ v _ _ rfl rfl rfl (by decide) (by decide))

theorem registerWrite_scratch0 (v : BitVec 32) :
    exec (.registerWrite 0x2120 0xF#4 v) s = .next { s with pwr := { s.pwr with scratch0 := v } } := by
  rw [exec_registerWrite hup hrun 0x2120 rfl]
  exact congrArg _ (State.busWrite_pw s _ v _ _ rfl rfl rfl (by decide) (by decide))

theorem registerWrite_resetCause (v : BitVec 32) :
    exec (.registerWrite 0x2110 0xF#4 v) s = .next { s with pwr := { s.pwr with cause := s.pwr.cause &&& ~~~ v.setWidth 6 } } := by
  rw [exec_registerWrite hup hrun 0x2110 rfl]
  exact congrArg _ (State.busWrite_pw s _ v _ _ rfl rfl rfl (by decide) (by decide))

/-- A write of 1 to an OVF bit clears the counter it belongs to, on one port only (R475). -/
theorem ovfClear_port (p : Fin 192) (v : BitVec 32) (o : Fin 65536) (h : o.val = ppOff p.val 0x7C) :
    ∃ u, exec (.eventCounterOvfClear o v) s = .next u ∧
      (u.port p).cnt.trip = (if v.getLsbD 0 && (s.port p).cnt.trip.ovf then cntZero else (s.port p).cnt.trip) ∧
      (u.port p).cnt.attach = (if v.getLsbD 1 && (s.port p).cnt.attach.ovf then cntZero else (s.port p).cnt.attach) ∧
      (u.port p).path = (s.port p).path ∧ (∀ q : Fin 192, q ≠ p → u.port q = s.port q) ∧ u.hud = s.hud ∧ u.link = s.link := by
  refine ⟨_, exec_eventCounterOvfClear_port hup hrun p o h v, ?_⟩
  refine ⟨?_, ?_, ?_, (s.modCnt_frame p _).others, rfl, rfl⟩ <;> simp [Cnt.wipe, bit]

theorem ovfClear_huddle (v : BitVec 32) :
    ∃ u, exec (.eventCounterOvfClear 0x1800 v) s = .next u ∧ u.hud.sealedWrite = s.hud.sealedWrite ∧ u.hud.staged = s.hud.staged ∧
      u.hud.applyCnt = (if v.getLsbD 20 && s.hud.applyCnt.ovf then cntZero else s.hud.applyCnt) ∧ u.ports = s.ports := by
  refine ⟨_, exec_eventCounterOvfClear_huddle hup hrun v, ?_⟩
  simp [Cnt.wipe, bit]

/-- The low word waits for the high one, which brings the value into force (R478). -/
theorem activateAt_words (x : s.expertOn .host = true) (v w : BitVec 32) :
    exec (.upActivateAtWrite false v) s = .next { s with upd := { s.upd with atLow := some v } } ∧
    (s.upd.atLow = some w → ∃ u, exec (.upActivateAtWrite true v) s = .next u ∧
      u.upd = { s.upd with actAt := v.toNat % 65536 * 2 ^ 32 + w.toNat, atLow := none } ∧ s.sameBut u []) := by
  refine ⟨?_, fun low => ⟨_, exec_upActivateAtWrite hup hrun true v, ?_⟩⟩
  · rw [exec_upActivateAtWrite hup hrun, State.writeActAt, x]
    rfl
  · simp [State.writeActAt, x, low, bits, State.sameBut]

theorem activateAt_withoutR5 (x : s.expertOn .host = false) (h : Bool) (v : BitVec 32) : exec (.upActivateAtWrite h v) s = .next s := by
  rw [exec_upActivateAtWrite hup hrun, State.writeActAt, x]
  rfl

theorem pathCtrl_ignored (p : Fin 192) (v : BitVec 32) (f : s.portFenced p = false) (h : s.expertOn .host = false ∨ bits v 6 2 = 3) :
    exec (.pathCtrlWrite p v) s = .next s := by
  rw [exec_pathCtrlWrite hup hrun p v f, writePathCtrl_ignored h]

/-- A table starts from PP_PATH_CTRL with the target, the current and the kind that the word gives (R168). -/
theorem pathCtrl_starts (p : Fin 192) (v : BitVec 32) (t : s.tileDeaf p = false) (x : s.expertOn .host = true) (k : bits v 6 2 ≠ 3)
    (r : (s.port p).path.run = false) (n : bits v 0 5 < 16) (c : (s.port p).cc.noTable (bits v 0 5) = false) (lo : 165 ≤ bits v 20 12)
    (hi : bits v 20 12 ≤ 2500) :
    ∃ u, exec (.pathCtrlWrite p v) s = .next u ∧ (u.port p).path.run = true ∧ (u.port p).path.table = bits v 0 5 ∧
      (u.port p).path.entry = 0 ∧ (u.port p).path.ctrl = v &&& 0xFFFFFFDF#32 ∧ (u.port p).path.post.mv = bits v 20 12 * 20 ∧
      (u.port p).path.post.ma = bits v 8 12 * 5 ∧ (u.port p).path.gate = (s.port p).path.gate ∧
      (∀ q : Fin 192, q ≠ p → u.port q = s.port q) := by
  have good : s.pathCtrlBad p v = false := by
    have h0 : ¬ 16 ≤ bits v 0 5 := by omega
    have h1 : ¬ bits v 20 12 * 20 < 3300 := by omega
    have h2 : ¬ bits v 20 12 * 20 > 50000 := by omega
    simp [State.pathCtrlBad, r, c, h0, h1, h2]
  refine ⟨_, exec_pathCtrlWrite hup hrun p v (State.portFenced_of_hears t), ?_⟩
  rw [writePathCtrl_of_good x k t good, State.startTable_path]
  refine ⟨rfl, rfl, rfl, ?_, rfl, rfl, ?_, fun q n => ?_⟩
  · simp
  · simp
  · rw [(State.startTable_frame _ p _ _).others q n]
    exact (s.modPath_frame p _ id).others q n

/-- A start that the sequencer refuses is told by the REFUSED signal, and the table that runs goes on (R167, R168). -/
theorem pathCtrl_refused (p : Fin 192) (v : BitVec 32) (t : s.tileDeaf p = false) (x : s.expertOn .host = true) (k : bits v 6 2 ≠ 3)
    (b : (s.port p).path.run = true ∨ (s.port p).cc.noTable (bits v 0 5) = true ∨ bits v 20 12 < 165 ∨ 2500 < bits v 20 12) :
    ∃ u, exec (.pathCtrlWrite p v) s = .next u ∧ (u.port p).path.run = (s.port p).path.run ∧
      (u.port p).path.table = (s.port p).path.table ∧ (u.port p).path.ctrl = v &&& 0xFFFFFFDF#32 ∧
      (u.port p).path.lastSignal = some .refused := by
  have bad : s.pathCtrlBad p v = true := by
    have m : bits v 20 12 < 165 ∨ 2500 < bits v 20 12 → bits v 20 12 * 20 < 3300 ∨ bits v 20 12 * 20 > 50000 := by omega
    unfold State.pathCtrlBad
    obtain r | c | d := b
    · simp [r]
    · simp [c]
    · obtain h | h := m d <;> simp [h]
  refine ⟨_, exec_pathCtrlWrite hup hrun p v (State.portFenced_of_hears t), ?_⟩
  rw [writePathCtrl_of_bad x k t bad, State.sigSend_path]
  simp

theorem refCfg_written (v : BitVec 32) :
    ∃ u, exec (.refCfgWrite v) s = .next u ∧ u.ref.irqEn = v.getLsbD 8 ∧ u.ref.vector = bits v 0 5 ∧
      u.ref.faultTest = (if s.expertOn .host then v.getLsbD 9 else s.ref.faultTest) ∧ u.ref.fault = s.ref.fault ∧ u.ports = s.ports :=
  ⟨_, exec_refCfgWrite hup hrun v, rfl, rfl, rfl, rfl, rfl⟩

theorem pwCtrlReset_withR5 (x : s.expertOn .host = true) :
    exec .pwCtrlReset s = .next { s with pwr := { s.pwr with ctrlReset := true } } := by
  rw [exec_pwCtrlReset hup hrun, State.writePwCtrl, x]
  rfl

theorem pwCtrlReset_withoutR5 (x : s.expertOn .host = false) : exec .pwCtrlReset s = .next s := by
  rw [exec_pwCtrlReset hup hrun, State.writePwCtrl, x]
  rfl

/-- An activation of a staged image is armed with the source that ARM names, and code 0 names none (R464). -/
theorem upCtrl_arms (x : s.expertOn .host = true) (h : s.upd.armable = true) (r : s.upd.recovery = false) (k : s.hud.onKick = false) :
    (∃ u, exec (.upCtrlArm 3) s = .next u ∧ u.upd.armed = some .now ∧ u.upd.state = .scheduled ∧ u.upd.staged = s.upd.staged ∧
      u.ports = s.ports) ∧
    (∃ u, exec (.upCtrlArm 2) s = .next u ∧ u.upd.armed = some .kick ∧ u.hud.seenLow = (! s.hud.kickIn) ∧ u.ports = s.ports) ∧
    (s.timeAhead s.upd.actAt = true → ∃ u, exec (.upCtrlArm 1) s = .next u ∧ u.upd.armed = some .atTime ∧ u.upd.actAt = s.upd.actAt) ∧
    exec (.upCtrlArm 0) s = .next s := by
  have arms (n : Fin 4) (src : ArmSource) (e : s.ctrlArm .host (armWord n) = s.armUpd src) :
      exec (.upCtrlArm n) s = .next (s.armUpd src) := by rw [exec_upCtrlArm hup hrun, e]
  refine ⟨?_, ?_, fun ahead => ?_, ?_⟩
  · obtain ⟨_, _, e⟩ := armUpd_upd s .now
    exact ⟨_, arms 3 _ (ctrlArm_now x (armBad_of_armable h r nofun)), by rw [e], by rw [e], by rw [e], armUpd_ports s _⟩
  · obtain ⟨_, _, e⟩ := armUpd_upd s .kick
    have free : s.kickArmed = false := by simp [State.kickArmed, k, Upd.armed_of_armable h]
    exact ⟨_, arms 2 _ (ctrlArm_kick x (armBad_of_armable h r nofun)), by rw [e], by rw [armUpd_kick_hud free], armUpd_ports s _⟩
  · obtain ⟨_, _, e⟩ := armUpd_upd s .atTime
    exact ⟨_, arms 1 _ (ctrlArm_atTime x (armBad_of_armable h r fun _ => ahead)), by rw [e], by rw [e]⟩
  · rw [exec_upCtrlArm hup hrun, State.ctrlArm_of_noSource s _ (by decide)]

theorem upCtrl_arm_ignored (k : Fin 4) (h : s.expertOn .host = false ∨ s.upd.armable = false) :
    exec (.upCtrlArm k) s = .next s := by
  rw [exec_upCtrlArm hup hrun, ctrlArm_of_refused h]

theorem upCtrl_cancels (h : s.upd.armed ≠ none) :
    ∃ u, exec .upCtrlCancel s = .next u ∧ u.upd.armed = none ∧ u.upd.state = .cancelled ∧ u.upd.staged = s.upd.staged := by
  obtain ⟨_, e⟩ := updDisarm_upd s
  refine ⟨s.updDisarm, ?_, by rw [e], by rw [e], by rw [e]⟩
  rw [exec_upCtrlCancel hup hrun, ctrlCancel_of_armed h]

theorem upCtrl_cancel_ignored (h : s.upd.armed = none) (d : s.upd.dl = none) : exec .upCtrlCancel s = .next s := by
  rw [exec_upCtrlCancel hup hrun, ctrlCancel_of_nothing h d]

theorem upCtrl_saves (k : Slot) (h : s.upd.run = some k) :
    ∃ u, exec .upCtrlSave s = .next u ∧ s.sameBut u [] ∧
      u.upd.record k = some { fmt := BitVec.ofNat 32 (headW s.upd.runHead 0x10), params := s.cfg.params, cfg := s.upd.cfgWord } := by
  refine ⟨_, (exec_upCtrlSave hup hrun).trans (congrArg _ (ctrlSave_of_running h)), ?_, Upd.record_setRecord _ _ _⟩
  exact ⟨fun _ _ => rfl, rfl, rfl, rfl, rfl, rfl, rfl, rfl, rfl⟩

theorem upCtrl_confirms (v : Nat) (t : s.upd.trial = true) (g : s.upd.healthy = true) (h : headAt s.upd.runHead 0x16 2 = 0) :
    ∃ u, exec (.upCtrlConfirm v) s = .next u ∧ u.upd.trial = false ∧ u.upd.trialEnd = none ∧ u.upd.state = .confirmed :=
  ⟨s.confirm v, (exec_upCtrlConfirm hup hrun v).trans (congrArg _ (ctrlConfirm_of_trial t g v)), confirm_upd h v⟩

theorem upCtrl_confirm_ignored (v : Nat) (h : s.upd.trial = false ∨ s.upd.healthy = false) :
    exec (.upCtrlConfirm v) s = .next s := by
  rw [exec_upCtrlConfirm hup hrun, ctrlConfirm_of_refused h]

end

/-- Settles O51: a host write reaches one block of BAR0, and each block's own lemma says what the write does there. -/
theorem registerWrites : Obligations.RegisterWrites := by
  unfold Obligations.RegisterWrites
  exact ⟨fun v s hup hrun _ emp => registerWrite_budget hup hrun emp v,
    fun v s hup hrun sl => registerWrite_budget_sealed hup hrun sl v,
    fun v s hup hrun _ emp x => registerWrite_tick_of_noExpert hup hrun emp x v,
    fun v s hup hrun =>
      ⟨registerWrite_fuWdata hup hrun v, registerWrite_scratch0 hup hrun v, registerWrite_resetCause hup hrun v⟩,
    fun o e v s hrun h => exec_registerWrite_ignored hrun o e v h,
    fun p v s hup hrun f => exec_pathCtrlWrite_fenced hup hrun p v f,
    fun p v o s hup hrun h => ovfClear_port hup hrun p v o h,
    fun v s hup hrun => ovfClear_huddle hup hrun v,
    fun v w s hup hrun x => activateAt_words hup hrun x v w,
    fun h v s hup hrun x => activateAt_withoutR5 hup hrun x h v,
    fun p v s hup hrun f h => pathCtrl_ignored hup hrun p v f h,
    fun p v s hup hrun t x k r n c lo hi => pathCtrl_starts hup hrun p v t x k r n c lo hi,
    fun p v s hup hrun t x k b => pathCtrl_refused hup hrun p v t x k b,
    fun v s hup hrun => refCfg_written hup hrun v,
    fun s hup hrun x => pwCtrlReset_withR5 hup hrun x,
    fun s hup hrun x => pwCtrlReset_withoutR5 hup hrun x,
    fun s hup hrun x h r k => upCtrl_arms hup hrun x h r k,
    fun k s hup hrun h => upCtrl_arm_ignored hup hrun k h,
    fun s hup hrun h => upCtrl_cancels hup hrun h,
    fun s hup hrun h d => upCtrl_cancel_ignored hup hrun h d,
    fun k s hup hrun h => upCtrl_saves hup hrun k h,
    fun v s hup hrun t g h => upCtrl_confirms hup hrun v t g h,
    fun v s hup hrun h => upCtrl_confirm_ignored hup hrun v h⟩

end Sys2Proof.Machine
end

section
/-! SUPPORT. The tile, the local index and the register block of a port (R8, R479). -/
namespace Sys2Proof.Machine

/-- Settles O53: the offsets of a port's block are those that lead back to the port. -/
theorem portsTilesAndBlocks : Obligations.PortsTilesAndBlocks := by
  unfold Obligations.PortsTilesAndBlocks
  refine ⟨fun p => ⟨rfl, rfl, portAt_tileOf p⟩, fun p => rfl, fun p r lt => ppPort_ppOff p lt, fun o p r h => ppPort_eq_some h,
    fun o r h => ?_⟩
  obtain ⟨at_, lt⟩ := ppPort_eq_some h
  rw [at_, ppOff, show ((191 : PortId) : Nat) = 191 from rfl]
  omega

end Sys2Proof.Machine
end

section
/-! SUPPORT. The end of the host's wait for a reply lets what waited behind it go on, a table start included (R108, R127, R336). -/
namespace Sys2Proof.Machine

/-- A capture armed on port P191, which a step table starting there triggers (R249, R250). -/
def armedCapture : Capture :=
  { port := 191, chans := 1, rate := 5, len := 16, trigger := .tableStart, pre := 0, thresh := 0, phase := .armed, left := [],
    written := 0, snaps := 0, snapsPre := 0 }

/-- Port P191 stands in READY under a contract and waits for the reply to a message of the host. Behind that waits the offer that its
change to profile 0x1 has made due; the profile has no object, so R108 ends the contract with Hard_Reset. -/
def replyAwaited : State :=
  ((State.reset.modTile 7 fun t => { t with released := true, cap := some armedCapture }).modPwr
      fun w => { w with fenced := 0#14 }).modPort 191 fun q =>
    { q with
      cc := { q.cc with state := .attached, partner := .sink }
      pol := { q.pol with state := .ready, kind := .fixed, profile := 1, profChange := true, newOffer := true, expect := .hostReply,
                          outq := [], flight := none } }

/-- The phase of the capture of tile T7 in the next state an outcome holds. -/
def capturePhase (o : Out) : Option CapPhase :=
  match o with
  | .next u => (u.tile 7).cap.map (·.phase)
  | _ => none

/-- The Hard_Reset posts its table, whose start triggers the capture. -/
theorem replyTimeout_runs_capture : capturePhase (exec (.pdSendReplyTimeout 191) replyAwaited) = some .running := by decide +kernel

/-- Refutes O37, in its last clause: the offer that was due behind the awaited reply can end in a Hard_Reset, and the table that this
starts triggers a capture of the port's tile, so that the tiles are not as before. -/
theorem not_descriptorChecks : ¬ Obligations.DescriptorChecks := by
  unfold Obligations.DescriptorChecks
  rintro ⟨-, -, -, -, -, -, -, h⟩
  obtain ⟨u, run, -, -, -, tiles, -⟩ := h 191 replyAwaited (by decide +kernel) (by decide +kernel) (by decide +kernel)
  have before : capturePhase (.next replyAwaited) = some .armed := by decide +kernel
  have after := replyTimeout_runs_capture
  rw [run] at after
  have same : capturePhase (.next u) = capturePhase (.next replyAwaited) := by
    simp only [capturePhase, State.tile_of_tiles tiles 7]
  rw [same, before] at after
  cases after

end Sys2Proof.Machine
end

section
/-! SUPPORT. A pass switch that is open stays open, and the queue as it was: what this asks of an operation, and of the updates of one record. -/
namespace Sys2Proof.Machine

/-! ### The functions on a path or on a port that say nothing of the gate -/

theorem Path.withWindow_gate (q : Path) (w : Window) : (q.withWindow w).gate = q.gate := by cases w <;> rfl

theorem Path.slewTick_gate (q : Path) (r : Nat) : (q.slewTick r).gate = q.gate := by
  unfold Path.slewTick
  split <;> rfl

theorem Path.regulateTick_gate (q : Path) (ma : Int) : (q.regulateTick ma).gate = q.gate := by
  unfold Path.regulateTick
  split <;> rfl

theorem Port.standRdo_path (q : Port) : q.standRdo.path = q.path := by
  unfold Port.standRdo
  split
  · split <;> rfl
  · rfl

theorem Port.unattached_path (q : Port) : q.unattached.path = q.path := by
  unfold Port.unattached
  split <;> rfl

theorem Port.reported_path (r : Nat) (q : Port) : (q.reported r).path = q.path := by
  unfold Port.reported
  dsimp only
  split <;> split <;> rfl

/-- From `s` to `u` no pass switch but those of the ports `P` has closed, and the queue of waiting commands is as it was. -/
structure State.LeavesOpen (P : PortId → Prop) (s u : State) : Prop where
  gate : ∀ q, ¬ P q → (s.port q).path.gate = false → (u.port q).path.gate = false
  pending : u.pending = s.pending

/-- A meaning ends in a next state, up to which no pass switch but those of the ports `P` has closed, and the queue is as it was. -/
def State.EndsOpen (P : PortId → Prop) (s : State) (o : Out) : Prop := ∃ u, o = .next u ∧ State.LeavesOpen P s u

/-- A move of a core leaves open the pass switches of all ports but `P`, and the queue as it was. -/
def MoveEnd.LeavesOpen (P : PortId → Prop) (s : State) : MoveEnd → Prop
  | .done u _ _ => State.LeavesOpen P s u
  | .wait u _ => State.LeavesOpen P s u
  | .fault .. => True

theorem State.reset_port (q : PortId) : State.reset.port q = Port.reset (isBoot q) := by
  have h : isBoot q = (q.val % 24 == 0) := rfl
  simp [State.port, State.reset, h]

theorem State.reset_gate (q : PortId) : (State.reset.port q).path.gate = false := by
  rw [State.reset_port]
  rfl

theorem State.deviceReset_port (s : State) (cause : Nat) (q : PortId) : (s.deviceReset cause).port q = resetPort q (s.svcClose.port q) := by
  simp [State.port, State.deviceReset]

theorem State.deviceReset_gate (s : State) (cause : Nat) (q : PortId) : ((s.deviceReset cause).port q).path.gate = false := by
  rw [State.deviceReset_port]
  rfl

theorem State.deviceReset_pending (s : State) (cause : Nat) : (s.deviceReset cause).pending = s.svcClose.pending := by simp only [State.deviceReset]

theorem State.deepOff_port (s : State) (wake : BitVec 8) (q : PortId) :
    (s.deepOff wake).port q = deepPort s.hostFence.board.reserve (s.hostFence.port q) := by
  simp [State.port, State.deepOff]

theorem State.deepOff_gate (s : State) (wake : BitVec 8) (q : PortId) : ((s.deepOff wake).port q).path.gate = false := by
  rw [State.deepOff_port]
  rfl

theorem State.deepOff_pending (s : State) (wake : BitVec 8) : (s.deepOff wake).pending = s.hostFence.pending := by simp only [State.deepOff]

variable {P : PortId → Prop} {s t u : State}

namespace State.LeavesOpen

theorem refl (P : PortId → Prop) (s : State) : LeavesOpen P s s := ⟨fun _ _ h => h, rfl⟩

theorem trans (h : LeavesOpen P s t) (k : LeavesOpen P t u) : LeavesOpen P s u :=
  ⟨fun q n g => k.gate q n (h.gate q n g), k.pending.trans h.pending⟩

/-- What the frame lemmas say of a shared operation is more than is asked here. -/
theorem frame {Q : PortId → Prop} (h : LeavesOpen P s t) (k : State.Frame Q t u) : LeavesOpen P s u :=
  h.trans ⟨fun q _ => k.gate q, k.clock.2.2.2⟩

theorem of_ports
    (h : LeavesOpen P s t) (e : u.ports = t.ports := by rfl) (k : u.pending = t.pending := by rfl) : LeavesOpen P s u :=
  h.trans ⟨fun q _ g => by rw [State.port_of_ports e]; exact g, k⟩

theorem of_reset (e : u.ports = State.reset.ports) (k : u.pending = s.pending) : LeavesOpen P s u :=
  ⟨fun q _ _ => by rw [State.port_of_ports e]; exact State.reset_gate q, k⟩

theorem of_fst {α : Type} {x : State × α} {a : α} (h : LeavesOpen P s x.1) (e : x = (u, a)) : LeavesOpen P s u := by
  rw [e] at h
  exact h

theorem of_snd {α : Type} {x : α × State} {a : α} (h : LeavesOpen P s x.2) (e : x = (a, u)) : LeavesOpen P s u := by
  rw [e] at h
  exact h

/-- The first of a pair that is written out. -/
theorem pair {α : Type} {a : α} (h : LeavesOpen P s t) : LeavesOpen P s (t, a).1 := h

theorem getD {o : Option State} (h : LeavesOpen P s t) (ho : ∀ u, o = some u → LeavesOpen P s u) : LeavesOpen P s (o.getD t) := by
  cases o with
  | none => exact h
  | some u => exact ho u rfl

/-- Both branches of a decision leave the switches open. -/
theorem either {c : Prop} [Decidable c] (h : LeavesOpen P s t) (k : LeavesOpen P s u) : LeavesOpen P s (if c then t else u) := by
  split <;> assumption

theorem foldl {α : Type} {f : State → α → State} {l : List α} (h : LeavesOpen P s t)
    (hf : ∀ t a, LeavesOpen P s t → LeavesOpen P s (f t a)) : LeavesOpen P s (l.foldl f t) := by
  induction l generalizing t with
  | nil => exact h
  | cons a l ih => exact ih (hf t a h)

theorem foldlFst {α β : Type} {f : State × β → α → State × β} {l : List α} {a : State × β} (h : LeavesOpen P s a.1)
    (hf : ∀ a x, LeavesOpen P s a.1 → LeavesOpen P s (f a x).1) : LeavesOpen P s (l.foldl f a).1 := by
  induction l generalizing a with
  | nil => exact h
  | cons x l ih => exact ih (hf a x h)

theorem of_none (e : none = some u) : LeavesOpen P s u := nomatch e

/-- What both answers of a decision between two outcomes end in, the decision's outcome ends in. -/
theorem of_ite {c : Prop} [Decidable c] {a b : Option State} (ha : a = some u → LeavesOpen P s u) (hb : b = some u → LeavesOpen P s u)
    (e : (if c then a else b) = some u) : LeavesOpen P s u := by
  split at e
  exacts [ha e, hb e]

/-! ### Updates of one record -/

/-- An update of a port that closes no gate; that it leaves the gate alone is found by unfolding it. -/
theorem modPort {p : PortId} {f : Port → Port} (h : LeavesOpen P s t)
    (hf : ∀ q, q.path.gate = false → (f q).path.gate = false := by exact fun _ g => g) : LeavesOpen P s (t.modPort p f) := h.frame (t.modPort_frame p f (hf _))
theorem modPath {p : PortId} {f : Path → Path} (h : LeavesOpen P s t)
    (hf : ∀ q, q.gate = false → (f q).gate = false := by exact fun _ g => g) : LeavesOpen P s (t.modPath p f) := h.modPort fun q => hf q.path
theorem modCc {p : PortId} {f : Cc → Cc} (h : LeavesOpen P s t) : LeavesOpen P s (t.modCc p f) := h.modPort fun _ g => g
theorem modPd {p : PortId} {f : Pd → Pd} (h : LeavesOpen P s t) : LeavesOpen P s (t.modPd p f) := h.modPort fun _ g => g
theorem modPol {p : PortId} {f : Pol → Pol} (h : LeavesOpen P s t) : LeavesOpen P s (t.modPol p f) := h.modPort fun _ g => g
theorem modRally {p : PortId} {f : Rally → Rally}
    (h : LeavesOpen P s t) : LeavesOpen P s (t.modRally p f) := h.modPort fun _ g => g
theorem modRetry {p : PortId} {f : Retry → Retry}
    (h : LeavesOpen P s t) : LeavesOpen P s (t.modRetry p f) := h.modPort fun _ g => g
theorem modSb {p : PortId} {f : Sb → Sb} (h : LeavesOpen P s t) : LeavesOpen P s (t.modSb p f) := h.modPort fun _ g => g
theorem modSc {p : PortId} {f : Sched → Sched} (h : LeavesOpen P s t) : LeavesOpen P s (t.modSc p f) := h.modPort fun _ g => g
theorem modCnt {p : PortId} {f : Cnts → Cnts} (h : LeavesOpen P s t) : LeavesOpen P s (t.modCnt p f) := h.modPort fun _ g => g
theorem modTile {k : TileId} {f : Tile → Tile} (h : LeavesOpen P s t) : LeavesOpen P s (t.modTile k f) := h.of_ports rfl rfl
theorem modCfg {f : Cfg → Cfg} (h : LeavesOpen P s t) : LeavesOpen P s (t.modCfg f) := h.of_ports rfl rfl
theorem modBoard {f : Board → Board} (h : LeavesOpen P s t) : LeavesOpen P s (t.modBoard f) := h.of_ports rfl rfl
theorem modLink {f : Link → Link} (h : LeavesOpen P s t) : LeavesOpen P s (t.modLink f) := h.of_ports rfl rfl
theorem modRef {f : Ref → Ref} (h : LeavesOpen P s t) : LeavesOpen P s (t.modRef f) := h.of_ports rfl rfl
theorem modPwr {f : Pwr → Pwr} (h : LeavesOpen P s t) : LeavesOpen P s (t.modPwr f) := h.of_ports rfl rfl
theorem modCores {f : Cores → Cores} (h : LeavesOpen P s t) : LeavesOpen P s (t.modCores f) := h.of_ports rfl rfl
theorem modFuse {f : Fuse → Fuse} (h : LeavesOpen P s t) : LeavesOpen P s (t.modFuse f) := h.of_ports rfl rfl
theorem modHud {f : Huddle → Huddle} (h : LeavesOpen P s t) : LeavesOpen P s (t.modHud f) := h.of_ports rfl rfl
theorem modSvc {f : Svc → Svc} (h : LeavesOpen P s t) : LeavesOpen P s (t.modSvc f) := h.of_ports rfl rfl
theorem modUpd {f : Upd → Upd} (h : LeavesOpen P s t) : LeavesOpen P s (t.modUpd f) := h.of_ports rfl rfl
theorem withMeas {m : Meas} (h : LeavesOpen P s t) : LeavesOpen P s { t with meas := m } := h.of_ports rfl rfl
theorem withCore {c : Vector Core 4} (h : LeavesOpen P s t) : LeavesOpen P s { t with core := c } := h.of_ports rfl rfl
theorem modCore {k : CoreId} {f : Core → Core} (h : LeavesOpen P s t) : LeavesOpen P s (t.modCore k f) := h.of_ports rfl rfl
theorem modRing {n : Nat} {f : Ring → Ring} (h : LeavesOpen P s t) : LeavesOpen P s (t.modRing n f) :=
  h.of_ports (t.modRing_ports n f) (t.modRing_pending n f)

theorem modFeed {d : FeedId} {f : Feed → Feed} (h : LeavesOpen P s t) : LeavesOpen P s (t.modFeed d f) :=
  h.of_ports (t.modFeed_ports d f) (t.modFeed_pending d f)

end State.LeavesOpen

namespace State.EndsOpen

theorem ok (h : State.LeavesOpen P s t) : EndsOpen P s (ok t) := ⟨t, rfl, h⟩

theorem ite {c : Prop} [Decidable c] {a b : Out} (h : EndsOpen P s a) (k : EndsOpen P s b) : EndsOpen P s (if c then a else b) := by
  split <;> assumption

end State.EndsOpen

end Sys2Proof.Machine
end

section
/-! SUPPORT. The operations that several chapters share close no pass switch and leave the queue. -/
set_option Elab.async false
namespace Sys2Proof.Machine

variable {P : PortId → Prop} {s t u : State}

namespace State.LeavesOpen

/-! ### The operations several chapters share -/

theorem setFence {k : Nat} {b : Bool} (h : LeavesOpen P s t) :
    LeavesOpen P s (t.setFence k b) := h.modPwr
theorem setPowered {k : Nat} {b : Bool} (h : LeavesOpen P s t) :
    LeavesOpen P s (t.setPowered k b) := h.modPwr
theorem raise {v : Nat} (h : LeavesOpen P s t) :
    LeavesOpen P s (t.raise v) := h.frame (Q := P) (State.raise_frame ..)
theorem ringWrite {n : Nat} {e : OutEntry} {now : Bool} (h : LeavesOpen P s t) :
    LeavesOpen P s (t.ringWrite n e now) := h.frame (Q := P) (State.ringWrite_frame ..)
theorem markSummary {p : Option PortId} (h : LeavesOpen P s t) :
    LeavesOpen P s (t.markSummary p) := h.frame (Q := P) (State.markSummary_frame ..)
theorem writeEvt {e : Evt} (h : LeavesOpen P s t) :
    LeavesOpen P s (t.writeEvt e) := h.frame (Q := P) (State.writeEvt_frame ..)
theorem holdEvt {e : Evt} (h : LeavesOpen P s t) :
    LeavesOpen P s (t.holdEvt e) := h.frame (Q := P) (State.holdEvt_frame ..)
theorem postEvt {p : Option PortId} {b : EvtBody} (h : LeavesOpen P s t) :
    LeavesOpen P s (t.postEvt p b) := h.frame (Q := P) (State.postEvt_frame ..)
theorem drainBacklog {a : Nat} (h : LeavesOpen P s t) :
    LeavesOpen P s (t.drainBacklog a) := h.frame (Q := P) (State.drainBacklog_frame ..)

theorem refRecord {c : Nat} {tile : Option TileId} {port : Option PortId} (h : LeavesOpen P s t) :
    LeavesOpen P s (t.refRecord c tile port) := by
  unfold State.refRecord
  exact either h.modRef.raise h.modRef

theorem eccError {mem : Nat} {off : Nat} (h : LeavesOpen P s t) :
    LeavesOpen P s (t.eccError mem off) := h.modRef.refRecord
theorem unpoison {mem : Nat} {lo : Nat} {n : Nat} (h : LeavesOpen P s t) :
    LeavesOpen P s (t.unpoison mem lo n) := h.frame (Q := P) (State.unpoison_frame ..)

theorem softFix {mem : Nat} {lo : Nat} {n : Nat} (h : LeavesOpen P s t) :
    LeavesOpen P s (t.softFix mem lo n) := by
  unfold State.softFix
  exact either h h.modRef

theorem toRun (h : LeavesOpen P s t) :
    LeavesOpen P s (t.toRun) := h.frame (Q := P) (State.toRun_frame ..)
theorem arrive (h : LeavesOpen P s t) :
    LeavesOpen P s (t.arrive) := h.frame (Q := P) (State.arrive_frame ..)
theorem enqueue {p : PortId} {e : QEv} (h : LeavesOpen P s t) :
    LeavesOpen P s (t.enqueue p e) := h.frame (State.enqueue_frame ..)
theorem queueFault {p : PortId} {code : Nat} {data : Word} (h : LeavesOpen P s t) :
    LeavesOpen P s (t.queueFault p code data) := h.frame (State.queueFault_frame ..)
theorem dropReport {p : PortId} (h : LeavesOpen P s t) :
    LeavesOpen P s (t.dropReport p) := h.frame (State.dropReport_frame ..)
theorem queueEv {p : PortId} {e : QEv} (h : LeavesOpen P s t) :
    LeavesOpen P s (t.queueEv p e) := h.frame (State.queueEv_frame ..)
theorem queueMsg {p : PortId} {code : Nat} {data : Word} (h : LeavesOpen P s t) :
    LeavesOpen P s (t.queueMsg p code data) := h.frame (State.queueMsg_frame ..)
theorem queueHk {p : PortId} {code : Nat} {data : Word} (h : LeavesOpen P s t) :
    LeavesOpen P s (t.queueHk p code data) := h.frame (State.queueHk_frame ..)

theorem refillQueue {p : PortId} (h : LeavesOpen P s t) : LeavesOpen P s (t.refillQueue p) := by
  unfold State.refillQueue
  extract_lets c s1 c1 s2 c2 s3
  have h1 : LeavesOpen P s s1 := either h.modSc.queueFault h
  have h2 : LeavesOpen P s s2 := by
    unfold s2
    split
    · exact either h1.modSc.queueEv h1
    · exact h1
  have h3 : LeavesOpen P s s3 := by
    unfold s3
    split
    · exact either h2.modSc.queueHk h2
    · exact h2
  split
  · exact either h3.modSc.postEvt h3
  · exact h3

theorem drained {n : Nat} (h : LeavesOpen P s t) :
    LeavesOpen P s (t.drained n) := h.frame (Q := P) (State.drained_frame ..)
theorem complete {c : Cpl} {irq : Bool} (h : LeavesOpen P s t) :
    LeavesOpen P s (t.complete c irq) := h.frame (Q := P) (State.complete_frame ..)
theorem dropFetched {d : Desc} (h : LeavesOpen P s t) :
    LeavesOpen P s (t.dropFetched d) := h.modLink
theorem cplDesc {d : Desc} {op : Nat} {code : CplCode} {detail : Nat} {data : List Byte} (h : LeavesOpen P s t) :
    LeavesOpen P s (t.cplDesc d op code detail data) := h.frame (Q := P) (State.cplDesc_frame ..)
theorem cplOk {d : Desc} {op : Nat} (h : LeavesOpen P s t) :
    LeavesOpen P s (t.cplOk d op) := h.frame (Q := P) (State.cplOk_frame ..)
theorem finish {f : Waiting → Bool} {code : CplCode} {detail : Nat} {data : List Byte} (h : LeavesOpen P s t) :
    LeavesOpen P s (t.finish f code detail data) := h.frame (Q := P) (State.finish_frame ..)
theorem finishPort {p : PortId} {k : WaitFor} {code : CplCode} {data : List Byte} (h : LeavesOpen P s t) :
    LeavesOpen P s (t.finishPort p k code data) := h.frame (Q := P) (State.finishPort_frame ..)
theorem wait {d : Desc} {op : Nat} {port : Option PortId} {k : WaitFor} (h : LeavesOpen P s t) :
    LeavesOpen P s (t.wait d op port k) := h.frame (Q := P) (State.wait_frame ..)

theorem freeWord (h : LeavesOpen P s t) :
    LeavesOpen P s (t.freeWord).2 := h.of_ports

/-! ### The power path -/

theorem holdTile {t1 : TileId} (h : LeavesOpen P s t) :
    LeavesOpen P s (t.holdTile t1) := h.modTile
theorem sigSend {p : PortId} {g : Signal} (h : LeavesOpen P s t) :
    LeavesOpen P s (t.sigSend p g) := h.frame (State.sigSend_frame ..)
theorem abandonTable {p : PortId} (h : LeavesOpen P s t) :
    LeavesOpen P s (t.abandonTable p) := h.frame (State.abandonTable_frame ..)
theorem calAbort {p : PortId} (h : LeavesOpen P s t) :
    LeavesOpen P s (t.calAbort p) := h.frame (State.calAbort_frame ..)
theorem capFire {p : PortId} {k : CapTrigger} (h : LeavesOpen P s t) :
    LeavesOpen P s (t.capFire p k) := h.frame (Q := P) (State.capFire_frame ..)
theorem startTable {p : PortId} {n : Nat} {r : Post} (h : LeavesOpen P s t) :
    LeavesOpen P s (t.startTable p n r) := h.frame (State.startTable_frame ..)
theorem post {p : PortId} {r : Post} (h : LeavesOpen P s t) :
    LeavesOpen P s (t.post p r) := h.frame (State.post_frame ..)
theorem portSafe {p : PortId} (h : LeavesOpen P s t) :
    LeavesOpen P s (t.portSafe p) := h.frame (State.portSafe_frame ..)
theorem portForce {p : PortId} (h : LeavesOpen P s t) :
    LeavesOpen P s (t.portForce p) := h.frame (State.portForce_frame ..)
theorem retryFail {p : PortId} (h : LeavesOpen P s t) :
    LeavesOpen P s (t.retryFail p) := h.frame (State.retryFail_frame ..)

theorem retryTrip {p : PortId} {c : TripCause} (h : LeavesOpen P s t) :
    LeavesOpen P s (t.retryTrip p c) := h.frame (State.retryTrip_frame ..)

/-! ### The policy -/

theorem toTx {p : PortId} {m : TxMsg} (h : LeavesOpen P s t) :
    LeavesOpen P s (t.toTx p m) := h.frame (State.toTx_frame ..)
theorem send {p : PortId} {m : TxMsg} (h : LeavesOpen P s t) :
    LeavesOpen P s (t.send p m) := h.frame (State.send_frame ..)
theorem sendNext {p : PortId} (h : LeavesOpen P s t) :
    LeavesOpen P s (t.sendNext p) := h.frame (State.sendNext_frame ..)
theorem sendCtl {p : PortId} {k : MsgKind} {e : Expect} (h : LeavesOpen P s t) :
    LeavesOpen P s (t.sendCtl p k e) := h.frame (State.sendCtl_frame ..)
theorem endContract {p : PortId} {c : LostCause} (h : LeavesOpen P s t) :
    LeavesOpen P s (t.endContract p c) := h.frame (State.endContract_frame ..)
theorem rallyEnd {p : PortId} {post : Bool} (h : LeavesOpen P s t) :
    LeavesOpen P s (t.rallyEnd p post) := h.frame (State.rallyEnd_frame ..)
theorem reportHold {p : PortId} (h : LeavesOpen P s t) :
    LeavesOpen P s (t.reportHold p) := h.frame (State.reportHold_frame ..)
theorem pdStop {p : PortId} (h : LeavesOpen P s t) :
    LeavesOpen P s (t.pdStop p) := h.frame (State.pdStop_frame ..)
theorem abortDescs {p : PortId} {extra : WaitFor → Bool} (h : LeavesOpen P s t) :
    LeavesOpen P s (t.abortDescs p extra) := h.frame (Q := P) (State.abortDescs_frame ..)
theorem attachEnds {p : PortId} (h : LeavesOpen P s t) :
    LeavesOpen P s (t.attachEnds p) := h.frame (State.attachEnds_frame ..)
theorem errorRecovery {p : PortId} {c : LostCause} (h : LeavesOpen P s t) :
    LeavesOpen P s (t.errorRecovery p c) := h.frame (State.errorRecovery_frame ..)
theorem hardResetDone {p : PortId} {c : LostCause} (h : LeavesOpen P s t) :
    LeavesOpen P s (t.hardResetDone p c) := h.frame (State.hardResetDone_frame ..)
theorem hardResetSent {p : PortId} {c : LostCause} {keep : Bool} (h : LeavesOpen P s t) :
    LeavesOpen P s (t.hardResetSent p c keep) := h.frame (State.hardResetSent_frame ..)
theorem hardReset {p : PortId} {c : LostCause} {keep : Bool} (h : LeavesOpen P s t) :
    LeavesOpen P s (t.hardReset p c keep) := h.frame (State.hardReset_frame ..)
theorem softLeave {p : PortId} (h : LeavesOpen P s t) :
    LeavesOpen P s (t.softLeave p) := h.modPort
theorem softReset {p : PortId} (h : LeavesOpen P s t) :
    LeavesOpen P s (t.softReset p) := h.frame (State.softReset_frame ..)
theorem protocolError {p : PortId} (h : LeavesOpen P s t) :
    LeavesOpen P s (t.protocolError p) := h.frame (State.protocolError_frame ..)
theorem offerGoes {p : PortId} {o : Offer} {epr : Bool} {m : TxMsg} (h : LeavesOpen P s t) :
    LeavesOpen P s (t.offerGoes p o epr m) := h.frame (State.offerGoes_frame ..)
theorem sendOffer {p : PortId} {epr : Bool} {reply : Bool} (h : LeavesOpen P s t) :
    LeavesOpen P s (t.sendOffer p epr reply) := h.frame (State.sendOffer_frame ..)
theorem abandonVdm {p : PortId} (h : LeavesOpen P s t) :
    LeavesOpen P s (t.abandonVdm p) := either h h.modPort
theorem demandRose {p : PortId} {was : Nat} (h : LeavesOpen P s t) :
    LeavesOpen P s (t.demandRose p was) := either h.modSb h
theorem portTrip {p : PortId} {c : TripCause} {seg : Nat} (h : LeavesOpen P s t) :
    LeavesOpen P s (t.portTrip p c seg) := h.frame (State.portTrip_frame ..)

theorem tripCycle {p : PortId} {xs : List Tripping} (h : LeavesOpen P s t) : LeavesOpen P s (t.tripCycle p xs) := by
  unfold State.tripCycle
  extract_lets ys cause s1
  have h1 : LeavesOpen P s s1 := h.foldl fun _ _ h => by
    split
    · exact h.postEvt
    · exact h.postEvt
    · exact h
  unfold cause
  split
  · exact h
  · exact either h1.portTrip (either h h1)

/-! ### Replies and completions -/

theorem passMsg {p : PortId} {m : Msg} (h : LeavesOpen P s t) :
    LeavesOpen P s (t.passMsg p m) := by
  unfold State.passMsg
  exact either h.modPol (either h.modPol.ringWrite.modLink h.modPol.modLink)

theorem replyToHost {p : PortId} {k : WaitFor} {m : Msg} (h : LeavesOpen P s t) :
    LeavesOpen P s (t.replyToHost p k m) := by
  unfold State.replyToHost
  split; exacts [h, either h.ringWrite.finishPort h.finishPort]

theorem sendVdm {p : PortId} {k : Sop} {r : VdmReq} {h1 : Word} {vdos : List Word} (h : LeavesOpen P s t) :
    LeavesOpen P s (t.sendVdm p k r h1 vdos) := h.modRally.send

theorem sopNext {p : PortId} (h : LeavesOpen P s t) :
    LeavesOpen P s (t.sopNext p) := by
  unfold State.sopNext
  dsimp only
  refine either h ?_
  split
  · exact either h h.modRally.sendVdm
  · exact either h h.modRally.sendVdm
  · exact h.sendVdm
  · exact h.sendVdm
  · exact either h.sendVdm h.modRally
  · exact h

theorem discAttempt {p : PortId} (h : LeavesOpen P s t) :
    LeavesOpen P s (t.discAttempt p) := by
  unfold State.discAttempt
  exact either h.sendVdm h

theorem swapSend {p : PortId} {take : Bool} {host : Bool} (h : LeavesOpen P s t) :
    LeavesOpen P s (t.swapSend p take host) := h.modPol.send
theorem eprFail {p : PortId} {reason : Nat} (h : LeavesOpen P s t) :
    LeavesOpen P s (t.eprFail p reason) := h.modPol.send

theorem eprCheck {p : PortId} (h : LeavesOpen P s t) :
    LeavesOpen P s (t.eprCheck p) := by
  unfold State.eprCheck
  dsimp only
  refine either h.eprFail ?_
  refine either h.eprFail ?_
  refine either (either h.eprFail h.modPol.swapSend) ?_
  split
  · exact h.modPol.send
  · exact either h h.modPol.discAttempt
  · exact h.eprFail

theorem offerDue {p : PortId} (h : LeavesOpen P s t) :
    LeavesOpen P s (t.offerDue p) := by
  unfold State.offerDue
  exact either h.sendOffer h

theorem offerChange {p : PortId} (h : LeavesOpen P s t) :
    LeavesOpen P s (t.offerChange p) := by
  unfold State.offerChange
  exact either h h.modPol.offerDue

theorem vdmTell {p : PortId} {sub : Nat} {m : Option Msg} {h1 : Word} (h : LeavesOpen P s t) :
    LeavesOpen P s (t.vdmTell p sub m h1) := by
  unfold State.vdmTell
  split; exacts [h.postEvt.passMsg, h.postEvt]

theorem rallyExit {p : PortId} (h : LeavesOpen P s t) :
    LeavesOpen P s (t.rallyExit p) := either h.rallyEnd.sendVdm h

theorem noticeCheck {p : PortId} (h : LeavesOpen P s t) :
    LeavesOpen P s (t.noticeCheck p) := by
  unfold State.noticeCheck
  exact either h.modRally h

theorem noticeNext {p : PortId} (h : LeavesOpen P s t) :
    LeavesOpen P s (t.noticeNext p) := by
  unfold State.noticeNext
  exact either (either h.rallyExit h.modRally.sendVdm) h

theorem owedNext {p : PortId} (h : LeavesOpen P s t) :
    LeavesOpen P s (t.owedNext p) := by
  unfold State.owedNext
  dsimp only
  exact either h (by split; exacts [h.modRally.sendVdm, h.modRally.sendVdm, h])

theorem curtailSend {p : PortId} {target : Nat} {pre : Nat} (h : LeavesOpen P s t) :
    LeavesOpen P s (t.curtailSend p target pre) := h.modPort.owedNext
theorem restoreSend {p : PortId} (h : LeavesOpen P s t) :
    LeavesOpen P s (t.restoreSend p) := h.modRally.owedNext

theorem cableEnd {p : PortId} {c : CableClass} {vid : BitVec 16} {pid : BitVec 16} {vdo : Word} (h : LeavesOpen P s t) :
    LeavesOpen P s (t.cableEnd p c vid pid vdo) := by
  unfold State.cableEnd
  extract_lets s1 s2 s3
  have h2 : LeavesOpen P s s2 := h.modPol.postEvt.finishPort
  have h3 : LeavesOpen P s s3 := either h2.eprCheck h2
  exact (either h3.offerChange h3).sopNext

theorem startCable {p : PortId} (h : LeavesOpen P s t) :
    LeavesOpen P s (t.startCable p) := by
  unfold State.startCable
  dsimp only
  exact either h (by split; exacts [h.cableEnd, either h.cableEnd (either h h.modPol.discAttempt), h])

theorem swapAgain {p : PortId} (h : LeavesOpen P s t) :
    LeavesOpen P s (t.swapAgain p) := by
  unfold State.swapAgain
  exact either h (either h.swapSend (either h.modPol.finishPort.eprCheck h.modPol.finishPort))

theorem goNext {p : PortId} (h : LeavesOpen P s t) :
    LeavesOpen P s (t.goNext p) := by
  unfold State.goNext
  exact h.swapAgain.sendNext.offerDue.startCable.owedNext.sopNext.noticeNext

theorem enterReady {p : PortId} (h : LeavesOpen P s t) :
    LeavesOpen P s (t.enterReady p) := h.modPol.goNext
theorem seqEnds {p : PortId} (h : LeavesOpen P s t) :
    LeavesOpen P s (t.seqEnds p) := h.modPol.goNext
theorem notSupported {p : PortId} (h : LeavesOpen P s t) :
    LeavesOpen P s (t.notSupported p) := either h.sendCtl h.goNext

theorem swapDone {p : PortId} {c : CplCode} (h : LeavesOpen P s t) : LeavesOpen P s (t.swapDone p c) := by
  unfold State.swapDone
  extract_lets q s1 s2
  have h1 : LeavesOpen P s s1 := h.modPol.finishPort
  have h2 : LeavesOpen P s s2 := either (either h1.eprCheck h1.eprFail) h1
  exact either h2.goNext h2

theorem ladderOn {p : PortId} (h : LeavesOpen P s t) :
    LeavesOpen P s (t.ladderOn p) := h.modRally.offerChange
theorem pledgeBroken {p : PortId} {m : Option Msg} (h : LeavesOpen P s t) :
    LeavesOpen P s (t.pledgeBroken p m) := h.modPort.vdmTell.ladderOn

theorem noticeNak {p : PortId} {counts : Bool} {m : Option Msg} (h : LeavesOpen P s t) :
    LeavesOpen P s (t.noticeNak p counts m) := by
  unfold State.noticeNak
  exact either h.modRally.rallyExit h.modRally

theorem svidsEnd {p : PortId} {m : Option Msg} (h : LeavesOpen P s t) :
    LeavesOpen P s (t.svidsEnd p m) := h.modRally.vdmTell

theorem vdmNak {p : PortId} {r : VdmReq} {m : Option Msg} (h : LeavesOpen P s t) :
    LeavesOpen P s (t.vdmNak p r m) := by
  unfold State.vdmNak
  dsimp only
  split
  · exact either h.cableEnd (either (either h.eprFail h).cableEnd (either h.eprFail h))
  · exact h.svidsEnd
  · exact h.modRally
  · exact h.modRally
  · exact h.modRally
  · exact h.noticeNak
  · exact h.pledgeBroken
  · exact h.finishPort
  · exact h

theorem policyReply {p : PortId} {m : Msg} (h : LeavesOpen P s t) :
    LeavesOpen P s (t.policyReply p m) := by
  unfold State.policyReply
  dsimp only
  refine either h.modRally.finishPort.goNext ?_
  split
  · exact either h.modPol.sendOffer h
  · split
    · exact h.modPol.finishPort.goNext
    · exact h.modPol.replyToHost.goNext
  · refine either h ?_
    split
    · exact either h.modPol.modPol.post h.modPol.modPol
    · exact either h.modPol.swapDone h.modPol.modPol
    · exact h.modPol.modPol.swapDone
    · exact h.modPol.modPol.swapDone
    · exact h
  · exact either h.modPol.post h
  · exact either h.modPol.goNext h
  · exact either h.modPol.goNext h
  · exact h

end State.LeavesOpen

end Sys2Proof.Machine
end

section
/-! SUPPORT. The CC watch closes no pass switch, nor does the power path but at SET_GATE. -/
set_option Elab.async false
namespace Sys2Proof.Machine

variable {P : PortId → Prop} {s t u : State}

namespace State.LeavesOpen

/-! ### The CC watch -/

theorem wakeReq {k : Nat} (h : LeavesOpen P s t) :
    LeavesOpen P s (t.wakeReq k) := by
  unfold State.wakeReq
  split; exacts [h.modPwr, either h.toRun h, h]

theorem attach {p : PortId} (h : LeavesOpen P s t) :
    LeavesOpen P s (t.attach p) := by
  unfold State.attach
  dsimp only
  split
  · exact h
  · refine either h ?_
    refine either h.modPort.postEvt.modCnt ?_
    exact either h.modPort.modRetry.postEvt.modCnt (either h.modPort.modRetry.modCc h.modPort.modRetry.modCc.post)

theorem detach {p : PortId} {mid : Bool} (h : LeavesOpen P s t) :
    LeavesOpen P s (t.detach p mid) := h.portForce.attachEnds.modPort

theorem cmpStuck {p : PortId} {idx : Nat} (h : LeavesOpen P s t) :
    LeavesOpen P s (t.cmpStuck p idx) := by
  unfold State.cmpStuck
  exact h.portSafe.endContract.attachEnds.modPort.postEvt.queueFault.refRecord

theorem watchPairing {p : PortId} {l1 : LineCode} {l2 : LineCode} (h : LeavesOpen P s t) :
    LeavesOpen P s (t.watchPairing p l1 l2) := by
  unfold State.watchPairing
  exact either (either h.modCc.modCc.modCc.wakeReq h.modCc.modCc) h.modCc

theorem execWatchSample {p : Fin 192} {l1 : LineCode} {l2 : LineCode} (h : LeavesOpen P s t) :
    EndsOpen P s (execWatchSample p l1 l2 t) := by
  unfold Machine.execWatchSample
  dsimp only
  split
  · exact .ite (.ok h.watchPairing) (.ok h)
  · exact .ite (.ok h.watchPairing) (.ok h)
  · exact .ite (.ite (.ok h.modPort.watchPairing) (.ok h.modPort)) (.ok h)
  · exact .ite (.ite (.ok h.modPort.watchPairing) (.ok h.modPort)) (.ok h)
  · exact .ite (.ite (.ok h.modCc.detach) (.ok h.modCc)) (.ok h)
  · exact .ok h

theorem execRpHoldTimeout {p : Fin 192} (h : LeavesOpen P s t) :
    EndsOpen P s (execRpHoldTimeout p t) := .ite (.ok h.modCc) (.ok h)

theorem waitSample {p : PortId} {l1 : LineCode} {l2 : LineCode} (h : LeavesOpen P s t) :
    LeavesOpen P s (t.waitSample p l1 l2) := by
  unfold State.waitSample
  exact either h.modCc.modCc (either (either h.modCc.modCc h.modCc.modCc) (either h.modCc.modPort.modCc h.modCc.modCc))

theorem attachIfDue {p : PortId} (h : LeavesOpen P s t) :
    LeavesOpen P s (t.attachIfDue p) := by
  unfold State.attachIfDue
  exact either h.attach h

theorem execAttachWaitSample {p : Fin 192} {l1 : LineCode} {l2 : LineCode} (h : LeavesOpen P s t) :
    EndsOpen P s (execAttachWaitSample p l1 l2 t) := .ite (.ok h.waitSample.attachIfDue) (.ok h)

theorem execCcDebounceDone {p : Fin 192} {l1 : LineCode} {l2 : LineCode} {vb : Nat} {vs0 : Bool} (h : LeavesOpen P s t) :
    EndsOpen P s (execCcDebounceDone p l1 l2 vb vs0 t) := by
  exact .ite (.ite (.ok h.waitSample.modPort.modCc) (.ite (.ok h.waitSample.modCc.attachIfDue) (.ok h.waitSample))) (.ok h)

theorem execAttachVbusCleared {p : Fin 192} {vb : Nat} {vs0 : Bool} (h : LeavesOpen P s t) :
    EndsOpen P s (execAttachVbusCleared p vb vs0 t) := .ite (.ok h.modCc.attachIfDue) (.ok h)

theorem execDetachSample {p : Fin 192} {mv1 : Nat} {mv2 : Nat} {counted : Bool} {also_ : List Tripping} (h : LeavesOpen P s t) :
    EndsOpen P s (execDetachSample p mv1 mv2 counted also_ t) := by
  unfold Machine.execDetachSample
  refine .ite (.ok h) ?_
  exact .ite (.ok h.modCc) (.ite (.ite (.ite (.ok h.modCc.tripCycle.detach) (.ok h.modCc.modCc)) (.ok h.modCc)) (.ok h))

theorem execCcOvervolt {p : Fin 192} {line2 : Bool} {mv : Nat} (h : LeavesOpen P s t) :
    EndsOpen P s (execCcOvervolt p line2 mv t) := by
  refine .ite (.ok h) ?_
  refine .ok ?_
  refine modCc ?_
  refine either (either h.portSafe h).postEvt.queueFault.endContract ?_
  exact (either h.portSafe h).postEvt.queueFault.endContract.attachEnds.modRetry

theorem execCcHoldOffEnd {p : Fin 192} (h : LeavesOpen P s t) :
    EndsOpen P s (execCcHoldOffEnd p t) := .ite (.ok h) (.ite (.ok h.modCc.modPort) (.ok h.modCc))

theorem execCcComparatorTest {p : Fin 192} {idx : Nat} {pass : Bool} (h : LeavesOpen P s t) :
    EndsOpen P s (execCcComparatorTest p idx pass t) := by
  unfold Machine.execCcComparatorTest
  exact .ite (.ok h.modPort) (.ite (.ok h.modCc) (.ite (.ok h) (.ok h.cmpStuck)))

theorem bootAttach {p : PortId} (h : LeavesOpen P s t) :
    LeavesOpen P s (t.bootAttach p) := h.postEvt.modCnt.modCc
theorem execBootSinkAttach {p : Fin 192} {line2 : Bool} {mv : Nat} (h : LeavesOpen P s t) :
    EndsOpen P s (execBootSinkAttach p line2 mv t) := .ite (.ite (.ok h.modCc.bootAttach) (.ok h.modCc)) (.ok h)
theorem execBootRdRelease {p : Fin 192} (h : LeavesOpen P s t) :
    EndsOpen P s (execBootRdRelease p t) := .ite (.ite (.ok h.modPort.modSb) (.ok h.modPort)) (.ok h)

theorem execBootSinkDetach {p : Fin 192} (h : LeavesOpen P s t) :
    EndsOpen P s (execBootSinkDetach p t) := by
  exact .ite (.ite (.ok h.calAbort.postEvt.queueFault.modPort.modSb) (.ok h.calAbort.postEvt.queueFault.modPort)) (.ok h)

/-! ### The power-path sequencer -/

theorem endTable {p : PortId} {e : BitVec 64} (h : LeavesOpen P s t) :
    LeavesOpen P s (t.endTable p e) := h.modPath
theorem stepOk {p : PortId} {e : BitVec 64} (h : LeavesOpen P s t) :
    LeavesOpen P s (t.stepOk p e) := either h.endTable h.modPath
theorem stepTo {p : PortId} {e : BitVec 64} {c : TripCause} (h : LeavesOpen P s t) :
    LeavesOpen P s (t.stepTo p e c) := either h.portTrip (either h.endTable h.modPath)
theorem stepWait {p : PortId} {e : BitVec 64} (h : LeavesOpen P s t) :
    LeavesOpen P s (t.stepWait p e) := either h.stepOk h.modPath
theorem stepAct {p : PortId} {act : Nat} {f : BitVec 64 → State} (h : LeavesOpen P s t) (hf : ∀ x0, LeavesOpen P s (f x0)) :
    EndsOpen P s (t.stepAct p act f) := .ite (.ok ((hf _).stepWait)) (.ok h)
theorem execPowerPathPost {p : Fin 192} {r : Post} (h : LeavesOpen P s t) :
    EndsOpen P s (execPowerPathPost p r t) := .ok h.post

theorem execQueuedPostStart {p : Fin 192} (h : LeavesOpen P s t) :
    EndsOpen P s (execQueuedPostStart p t) := by
  unfold Machine.execQueuedPostStart
  split; exacts [.ite (.ok h) (.ok h.modPath.post), .ok h]

theorem execStNop {p : Fin 192} (h : LeavesOpen P s t) :
    EndsOpen P s (execStNop p t) := h.stepAct (fun _ => h)
theorem execStSetDis {p : Fin 192} {rival : Bool} (h : LeavesOpen P s t) :
    EndsOpen P s (execStSetDis p rival t) := h.stepAct (fun _ => either h h.modPath)

theorem execStSetTarget {p : Fin 192} {rival : Bool} (h : LeavesOpen P s t) : EndsOpen P s (execStSetTarget p rival t) :=
  h.stepAct fun _ => h.modPath fun _ g => by
    dsimp only
    split
    · exact g
    · split <;> exact g

theorem execStSetRp {p : Fin 192} {rival : Bool} (h : LeavesOpen P s t) :
    EndsOpen P s (execStSetRp p rival t) := by
  unfold Machine.execStSetRp
  dsimp only
  refine h.stepAct fun _ => ?_
  refine either h ?_
  refine either ?_ h.modCc
  split
  · exact h.modCc.endContract.attachEnds.modPol.modCc
  · exact h.modCc.endContract.attachEnds.modPol.modCc
  · exact h.modCc.endContract.attachEnds.modPol.modCc
  · exact h.modCc.endContract.attachEnds.modPol.modCc
  · exact h.modCc

theorem execStSetVconn {p : Fin 192} {rival : Bool} (h : LeavesOpen P s t) :
    EndsOpen P s (execStSetVconn p rival t) := by
  unfold Machine.execStSetVconn
  dsimp only
  refine h.stepAct fun _ => ?_
  refine either h ?_
  split
  · exact h.modPath
  · exact either (either h.modPath.modSb h.modSb) h
  · exact either h h.modPath

theorem execStSignal {p : Fin 192} (h : LeavesOpen P s t) :
    EndsOpen P s (execStSignal p t) := by
  unfold Machine.execStSignal
  dsimp only
  exact h.stepAct (fun _ => by split; exacts [h.modPath.sigSend, h.modPath])

theorem execStArmLimit {p : Fin 192} (h : LeavesOpen P s t) : EndsOpen P s (execStArmLimit p t) :=
  h.stepAct fun _ => h.modPath fun _ g => by
    dsimp only
    split <;> exact g

theorem execStLoadWindow {p : Fin 192} (h : LeavesOpen P s t) : EndsOpen P s (execStLoadWindow p t) :=
  h.stepAct fun _ => h.modPath fun q g => (q.withWindow_gate _).trans g

theorem execStepWaitSuccess {p : Fin 192} {w : WaitView} (h : LeavesOpen P s t) :
    EndsOpen P s (execStepWaitSuccess p w t) := by
  unfold Machine.execStepWaitSuccess
  exact .ite (.ok ((either h.modPath h).stepOk)) (.ok h)

theorem msgEvent {p : PortId} {n : Nat} (h : LeavesOpen P s t) :
    LeavesOpen P s (t.msgEvent p n) := by
  unfold State.msgEvent
  exact either h.stepOk h

theorem execStepWaitTimeout {p : Fin 192} (h : LeavesOpen P s t) :
    EndsOpen P s (execStepWaitTimeout p t) := .ite (.ite (.ok h.stepOk) (.ok h.stepTo)) (.ok h)
theorem execUndervoltTrip {p : Fin 192} {mv : Nat} {also_ : List Tripping} (h : LeavesOpen P s t) :
    EndsOpen P s (execUndervoltTrip p mv also_ t) := .ok h.tripCycle
theorem execBreakerTick {p : Fin 192} {ma : Int} {mv : Nat} (h : LeavesOpen P s t) : EndsOpen P s (execBreakerTick p ma mv t) :=
  .ite (.ok h) (.ok (h.modPort fun _ g => (Path.regulateTick_gate _ _).trans ((Path.slewTick_gate _ _).trans g)))
theorem execBreakerTrip {p : Fin 192} {also_ : List Tripping} (h : LeavesOpen P s t) :
    EndsOpen P s (execBreakerTrip p also_ t) := .ok h.tripCycle
theorem execFastTrip {p : Fin 192} {ma : Nat} {also_ : List Tripping} (h : LeavesOpen P s t) :
    EndsOpen P s (execFastTrip p ma also_ t) := .ok h.tripCycle
theorem execVbusOvervolt {p : Fin 192} {mv : Nat} {also_ : List Tripping} (h : LeavesOpen P s t) :
    EndsOpen P s (execVbusOvervolt p mv also_ t) := .ok h.tripCycle
theorem execReverseCurrent {p : Fin 192} {ma : Nat} {also_ : List Tripping} (h : LeavesOpen P s t) :
    EndsOpen P s (execReverseCurrent p ma also_ t) := .ok h.tripCycle
theorem execVconnOvercurrent {p : Fin 192} {ma : Nat} (h : LeavesOpen P s t) :
    EndsOpen P s (execVconnOvercurrent p ma t) := .ite (.ok h.modPort.postEvt.queueFault) (.ok h)

theorem execTripDischargeDone {p : Fin 192} (h : LeavesOpen P s t) : EndsOpen P s (execTripDischargeDone p t) := by
  unfold Machine.execTripDischargeDone
  exact .ite (.ite (.ok h.modPath.modPort) (.ok (h.modPath.modPort fun q g => by split <;> exact g))) (.ok h)

theorem execRetryProbeDue {p : Fin 192} (h : LeavesOpen P s t) :
    EndsOpen P s (execRetryProbeDue p t) := by
  unfold Machine.execRetryProbeDue
  exact .ite (.ok h) (.ite (.ok h.modPort.post) (.ok h.wakeReq))

theorem execRetryQualifyClear {p : Fin 192} (h : LeavesOpen P s t) :
    EndsOpen P s (execRetryQualifyClear p t) := .ite (.ok h.modRetry) (.ok h)
theorem execRetryHoldExpiry {p : Fin 192} (h : LeavesOpen P s t) :
    EndsOpen P s (execRetryHoldExpiry p t) := .ite (.ok h.modRetry) (.ok h)
theorem execOpenPortVbus {p : Fin 192} (h : LeavesOpen P s t) :
    EndsOpen P s (execOpenPortVbus p t) := .ite (.ok h.modPath.modCc.wakeReq) (.ok h)

theorem stuckSwitch {p : PortId} {mv : Nat} (h : LeavesOpen P s t) : LeavesOpen P s (t.stuckSwitch p mv) := by
  unfold State.stuckSwitch
  exact ((h.calAbort.abandonTable.endContract.attachEnds.modPort (by exact fun _ _ => rfl)).postEvt.queueFault).refRecord

theorem execStuckSwitch {p : Fin 192} {mv : Nat} (h : LeavesOpen P s t) :
    EndsOpen P s (execStuckSwitch p mv t) := by
  unfold Machine.execStuckSwitch
  exact .ite (.ok h.stuckSwitch) (.ok h)

theorem execStuckDischargeEnd {p : Fin 192} (h : LeavesOpen P s t) :
    EndsOpen P s (execStuckDischargeEnd p t) := .ite (.ok h.modPath) (.ok h)

theorem execDetachDischargeDone {p : Fin 192} (h : LeavesOpen P s t) :
    EndsOpen P s (execDetachDischargeDone p t) := by
  unfold Machine.execDetachDischargeDone
  dsimp only
  split; exacts [.ok h.modPath.postEvt.queueFault.modPort, .ok h]

theorem newcomer {p : PortId} (h : LeavesOpen P s t) :
    LeavesOpen P s (t.newcomer p) := by
  unfold State.newcomer
  exact h.modPort.modBoard

theorem setAlloc {p : PortId} {k : AllocKind} {new : Nat} (h : LeavesOpen P s t) :
    LeavesOpen P s (t.setAlloc p k new) := by
  unfold State.setAlloc
  exact h.modSb.postEvt.queueMsg

theorem lowerAlloc {p : PortId} {new : Nat} (h : LeavesOpen P s t) :
    LeavesOpen P s (t.lowerAlloc p new) := either h h.setAlloc

theorem attachOutcome {p : PortId} {o : AttachOutcome} (h : LeavesOpen P s t) :
    LeavesOpen P s (t.attachOutcome p o) := by
  unfold State.attachOutcome
  exact either h.postEvt.modPort h

theorem armHard {p : PortId} {q : Nat} (h : LeavesOpen P s t) :
    LeavesOpen P s (t.armHard p q) := by
  unfold State.armHard
  exact h.modPath.post

theorem liftHard {p : PortId} (h : LeavesOpen P s t) :
    LeavesOpen P s (t.liftHard p) := by
  unfold State.liftHard
  exact either h.modPath.post h

theorem leaveStartup {p : PortId} (h : LeavesOpen P s t) :
    LeavesOpen P s (t.leaveStartup p) := either h.sendOffer h

theorem execVsafe5vOk {p : Fin 192} (h : LeavesOpen P s t) :
    EndsOpen P s (execVsafe5vOk p t) := by
  unfold Machine.execVsafe5vOk
  refine .ite (.ok (either h.finishPort.modSb.modBoard.armHard h.finishPort).sendOffer) ?_
  exact .ite (.ite (.ok h.attachOutcome.modPol.leaveStartup) (.ok h.attachOutcome.modPol.newcomer)) (.ok h)

theorem execTransitionDone {p : Fin 192} (h : LeavesOpen P s t) :
    EndsOpen P s (execTransitionDone p t) := by
  unfold Machine.execTransitionDone
  exact .ite (.ok h.send) (.ok h)

theorem execTransitionFail {p : Fin 192} (h : LeavesOpen P s t) :
    EndsOpen P s (execTransitionFail p t) := .ite (.ok h.hardReset) (.ok h)

theorem execVsafe0vOk {p : Fin 192} (h : LeavesOpen P s t) :
    EndsOpen P s (execVsafe0vOk p t) := by
  unfold Machine.execVsafe0vOk
  refine .ite (.ok h.modPort.finishPort) ?_
  exact .ite (.ok h.lowerAlloc.modPort) (.ite (.ok h.lowerAlloc.modSb) (.ite (.ok h.finishPort) (.ok h.modPort.finishPort)))

theorem execRetryQualified {p : Fin 192} (h : LeavesOpen P s t) :
    EndsOpen P s (execRetryQualified p t) := .ite (.ok h.modRetry.attachOutcome.modPol.newcomer) (.ok h)
theorem execRetryFailed {p : Fin 192} (h : LeavesOpen P s t) :
    EndsOpen P s (execRetryFailed p t) := .ok h.attachOutcome.retryFail
theorem applyDecided {p : PortId} {d : Nat} (h : LeavesOpen P s t) :
    LeavesOpen P s (t.applyDecided p d) := h.lowerAlloc.modSb

theorem execLimitSet {p : Fin 192} (h : LeavesOpen P s t) :
    EndsOpen P s (execLimitSet p t) := by
  unfold Machine.execLimitSet
  dsimp only
  split; exacts [.ite (.ok h.applyDecided) (.ite (.ok h.modSb) (.ok h)), .ok h]

theorem execVconnReady {p : Fin 192} (h : LeavesOpen P s t) :
    EndsOpen P s (execVconnReady p t) := by
  unfold Machine.execVconnReady
  exact .ite (.ok h.modSb.send) (.ok h.modSb)

theorem execVconnFail {p : Fin 192} (h : LeavesOpen P s t) :
    EndsOpen P s (execVconnFail p t) := by
  unfold Machine.execVconnFail
  exact .ite (.ok h.hardReset) (.ok h)

theorem execVconnOff {p : Fin 192} (h : LeavesOpen P s t) :
    EndsOpen P s (execVconnOff p t) := by
  unfold Machine.execVconnOff
  exact .ite (.ok h.swapDone) (.ok h)

theorem execRpSet {p : Fin 192} (h : LeavesOpen P s t) :
    EndsOpen P s (execRpSet p t) := .ok h.modSb

theorem execRefused {p : Fin 192} (h : LeavesOpen P s t) :
    EndsOpen P s (execRefused p t) := .ite (.ok h.hardReset) (.ok h)

end State.LeavesOpen

end Sys2Proof.Machine
end

section
/-! SUPPORT. The message sequencer, the policy and the VDMs have no path to a pass switch. -/
set_option Elab.async false
namespace Sys2Proof.Machine

variable {P : PortId → Prop} {s t u : State}

namespace State.LeavesOpen

/-! ### The message sequencer -/

theorem leaveHold {p : PortId} (h : LeavesOpen P s t) :
    LeavesOpen P s (t.leaveHold p) := by
  unfold State.leaveHold
  refine either h ?_
  refine either h.reportHold.modPd ?_
  refine either h.reportHold.modPd.modPol ?_
  refine either h.reportHold.modPd.modPol ?_
  exact either h.reportHold.modPd.modPol (either h.reportHold.modPd.modPol h.reportHold.modPd.sendOffer)

theorem resumeHold {p : PortId} (h : LeavesOpen P s t) :
    LeavesOpen P s (t.resumeHold p) := either h.modPd.leaveHold h.modPd

theorem holdAnswer {p : PortId} {m : Msg} (h : LeavesOpen P s t) :
    LeavesOpen P s (t.holdAnswer p m) := by
  unfold State.holdAnswer
  refine either h.modPd ?_
  refine either (either h (either h.modPd.modPd h.modPd.leaveHold)) ?_
  exact either h.modPd (either h.reportHold.modPort.queueMsg h.reportHold).modPd

theorem enterHold {p : PortId} (h : LeavesOpen P s t) :
    LeavesOpen P s (t.enterHold p) := by
  unfold State.enterHold
  dsimp only
  split
  · refine holdAnswer ?_
    refine either ?_ h.finishPort.finishPort.finishPort.finishPort.modPort
    exact h.finishPort.finishPort.finishPort.finishPort.modPort.queueMsg
  · refine either ?_ h.finishPort.finishPort.finishPort.finishPort.modPort
    exact h.finishPort.finishPort.finishPort.finishPort.modPort.queueMsg

theorem idleChange {p : PortId} (h : LeavesOpen P s t) :
    LeavesOpen P s (t.idleChange p) := by
  unfold State.idleChange
  exact either (either h.enterHold (either h.modPd h)) h

theorem requestHold {p : PortId} (h : LeavesOpen P s t) :
    LeavesOpen P s (t.requestHold p) := either h h.modPd.idleChange

theorem present {p : PortId} {m : Msg} {held : Bool} (h : LeavesOpen P s t) :
    LeavesOpen P s (t.present p m held) := by
  unfold State.present
  dsimp only
  exact either h.modPd (by
    split
    · exact h.modPd
    · exact h.modPd
    · exact either ((h.modPort fun q g => by split; exacts [(q.standRdo_path).symm ▸ g, g]).modPd) h.modPd
    · exact either h.modPd h.modPd
    · split; exacts [either h.modPd h.modPd, h.modPd]
    · exact h.modPd)

theorem mtStart {p : PortId} (h : LeavesOpen P s t) :
    LeavesOpen P s (t.mtStart p) := by
  unfold State.mtStart
  dsimp only
  refine either h.modPd.idleChange ?_
  split
  · exact either h.modPd.idleChange.modPd.present h.modPd.idleChange
  · exact either h.modPd.idleChange.modPd h.modPd.idleChange

theorem mtKick {p : PortId} (h : LeavesOpen P s t) :
    LeavesOpen P s (t.mtKick p) := by
  unfold State.mtKick
  exact either h.modPd h

theorem mtStep {p : PortId} {act : Nat} {f : State → BitVec 64 → State × Bool}
    (h : LeavesOpen P s t) (hf : ∀ u x1, LeavesOpen P s u → LeavesOpen P s (f u x1).1) :
    LeavesOpen P s (t.mtStep p act f) := by
  unfold State.mtStep
  exact either h.mtKick (either ((hf _ _ h.mtKick).modPd) ((hf _ _ h.mtKick).mtStart))

theorem tileTakeUp {t1 : TileId} {o : TileHeld} {ram : Bool} (h : LeavesOpen P s t) : LeavesOpen P s (t.tileTakeUp t1 o ram) := by
  unfold State.tileTakeUp
  extract_lets c s1 s1' s2
  have h1 : LeavesOpen P s s1 := either (h.foldl fun _ _ h => h.modCc) h
  have h2 : LeavesOpen P s s2 := either h1 (either (h1.modTile.foldl fun _ _ h => h.modPd) h1.modTile)
  exact either h2 (h2.modTile.foldl fun _ _ h => h.modPd.idleChange)

theorem tileCatchUp {t1 : TileId} (h : LeavesOpen P s t) :
    LeavesOpen P s (t.tileCatchUp t1) := by
  unfold State.tileCatchUp
  exact h.modTile.tileTakeUp

theorem execFrameReceived {p : Fin 192} {f : FrameIn} (h : LeavesOpen P s t) :
    EndsOpen P s (execFrameReceived p f t) := by
  unfold Machine.execFrameReceived
  refine .ite (.ok h) ?_
  refine .ite (.ok h.modPd) ?_
  refine .ite (.ok h.modPd.modPd) ?_
  exact .ite (.ok h.modPd.modPd) (.ite (.ok h.modPd.modPol.holdAnswer) (.ok h.modPd.modPol.present))

theorem execRxAbort {p : Fin 192} {mean : Option Nat} {early : Nat} (h : LeavesOpen P s t) :
    EndsOpen P s (execRxAbort p mean early t) := .ite (.ok h.modPd) (.ok h)
theorem execHardResetRx {p : Fin 192} (h : LeavesOpen P s t) :
    EndsOpen P s (execHardResetRx p t) := .ite (.ok h.queueFault.abortDescs.modPol.hardResetDone) (.ok h)
theorem execCableResetRx {_p : Fin 192} (h : LeavesOpen P s t) :
    EndsOpen P s (execCableResetRx _p t) := .ok h
theorem execMtNop {p : Fin 192} (h : LeavesOpen P s t) :
    EndsOpen P s (execMtNop p t) := .ite (.ok (either h h.idleChange.mtKick)) (.ok (h.mtStep (fun _ _ h => h)))

theorem execMtTx {p : Fin 192} (h : LeavesOpen P s t) : EndsOpen P s (execMtTx p t) := by
  refine .ok (h.mtStep fun u e h => ?_)
  dsimp only
  split
  exacts [h.modPd.pair, h.modPd.pair, h.modPd.pair, h.modPd.pair, h.hardResetSent.modPd.pair]

theorem execMtDeliver {p : Fin 192} (h : LeavesOpen P s t) : EndsOpen P s (execMtDeliver p t) := by
  refine .ok (h.mtStep fun u e h => ?_)
  dsimp only
  split
  · split
    · exact h.modPd.queueEv.policyReply.pair
    · exact h.modPd.pair
  · exact h.modPd.modPd.pair

theorem execMtMatch {p : Fin 192} (h : LeavesOpen P s t) :
    EndsOpen P s (execMtMatch p t) := .ok (h.mtStep (fun _ _ h => h))

theorem execMtCount {p : Fin 192} (h : LeavesOpen P s t) : EndsOpen P s (execMtCount p t) := by
  refine .ok (h.mtStep fun u e h => ?_)
  dsimp only
  split <;> exact h.modPd.pair

theorem execMtSetRp {p : Fin 192} (h : LeavesOpen P s t) : EndsOpen P s (execMtSetRp p t) := by
  refine .ok (h.mtStep fun u e h => ?_)
  dsimp only
  split; exacts [h.modCc.pair, h.pair]

theorem execMtReport {p : Fin 192} (h : LeavesOpen P s t) :
    EndsOpen P s (execMtReport p t) := by
  unfold Machine.execMtReport
  dsimp only
  refine .ok (h.mtStep fun _ _ h => ?_)
  split
  · exact h.modPd.queueMsg
  · exact h.modPd.modPd.queueMsg
  · exact h.modPd.modPd.queueMsg
  · exact h.modPd.queueMsg
  · exact h.reportHold

theorem execMtCompose {p : Fin 192} (h : LeavesOpen P s t) : EndsOpen P s (execMtCompose p t) := by
  refine .ok (h.mtStep fun u e h => ?_)
  dsimp only
  exact h.modPd

theorem execMsgWaitTimeout {p : Fin 192} (h : LeavesOpen P s t) :
    EndsOpen P s (execMsgWaitTimeout p t) := by
  unfold Machine.execMsgWaitTimeout
  dsimp only
  refine .ite (.ite (.ok h.modPd) (.ite (.ok h.modPd.queueMsg.leaveHold) (.ok h))) ?_
  refine .ite ?_ (.ok h)
  split
  · exact .ok h.modPd
  · exact .ok h.modPd
  · exact .ok h.modPd
  · exact .ok h.modPd
  · exact .ok h.modPd
  · exact .ok h.modPd
  · exact .ok h

theorem execMsgLineIdle {p : Fin 192} (h : LeavesOpen P s t) :
    EndsOpen P s (execMsgLineIdle p t) := by
  unfold Machine.execMsgLineIdle
  exact .ite (.ok h.modPd) (.ok h)

theorem execTxDone {p : Fin 192} (h : LeavesOpen P s t) :
    EndsOpen P s (execTxDone p t) := by
  unfold Machine.execTxDone
  exact .ite (.ok h.modPd.modPd) (.ok h.modPd)

theorem execHoldExpired {p : Fin 192} (h : LeavesOpen P s t) :
    EndsOpen P s (execHoldExpired p t) := .ite (.ok h.hardResetSent) (.ok h)

/-! ### The policy engine -/

theorem whenPolicy {p : PortId} {f : Out} (h : LeavesOpen P s t) (hf : EndsOpen P s f) :
    EndsOpen P s (t.whenPolicy p f) := .ite hf (.ok h)
theorem waitOr {p : PortId} {k : MsgKind} {own : Bool} {f : Out} (h : LeavesOpen P s t) (hf : EndsOpen P s f) :
    EndsOpen P s (t.waitOr p k own f) := .ite (.ok h.modPol.send) hf
theorem partnerReq {p : PortId} {k : MsgKind} {f : Out} (h : LeavesOpen P s t) (hf : EndsOpen P s f) :
    EndsOpen P s (t.partnerReq p k f) := h.whenPolicy (h.waitOr hf)

theorem execRequest {p : Fin 192} {epr : Bool} {rdo : BitVec 32} {pdo : BitVec 32} {rev3 : Bool} (h : LeavesOpen P s t) :
    EndsOpen P s (execRequest p epr rdo pdo rev3 t) := by
  unfold Machine.execRequest
  dsimp only
  refine h.whenPolicy (.ite (.ok h.protocolError) ?_)
  refine h.waitOr ?_
  split
  · exact .ok h.abandonVdm.modPort.send
  · exact .ite (.ok h.abandonVdm.modPort.modSb.modPol.send) (.ok h.abandonVdm.modPort.modSb.modPol.send)

theorem exitOrReady {p : PortId} (h : LeavesOpen P s t) :
    LeavesOpen P s (t.exitOrReady p) := by
  unfold State.exitOrReady
  exact either h.modPol.send h.enterReady

theorem contractStands {p : PortId} {k : CKind} (h : LeavesOpen P s t) :
    LeavesOpen P s (t.contractStands p k) := by
  unfold State.contractStands
  dsimp only
  split; exacts [h, h.modPort.demandRose.postEvt]

theorem contractMade {p : PortId} {k : CKind} (h : LeavesOpen P s t) :
    LeavesOpen P s (t.contractMade p k) := by
  unfold State.contractMade
  refine either h.contractStands ?_
  refine either h.contractStands.enterReady ?_
  refine either h.contractStands.modPol.send.exitOrReady ?_
  exact either h.contractStands.modPol.modPol.send.exitOrReady h.contractStands.exitOrReady

theorem discCounted {p : PortId} (h : LeavesOpen P s t) :
    LeavesOpen P s (t.discCounted p) := either h.modPol h
theorem goOn {p : PortId} {m : TxMsg} (h : LeavesOpen P s t) :
    LeavesOpen P s (t.goOn p m) := either h.contractMade h.goNext

theorem execTxOk {p : Fin 192} (h : LeavesOpen P s t) : EndsOpen P s (execTxOk p t) := by
  unfold Machine.execTxOk
  extract_lets q
  split
  · exact .ok h
  next m _ =>
    extract_lets s0 ex
    have h0 : LeavesOpen P s s0 := modPol (either h.msgEvent h)
    cases m.expect with
    | hostOk => exact .ok h0.finishPort.goOn
    | acceptRepeat => exact .ok h0.send
    | acceptSoftRx => exact .ok h0.sendOffer
    | acceptSwap => exact .ite (.ok h0.modPol.post) (.ok h0.modPol)
    | offered => exact .ok h0.modPol.goNext
    | rejectReq => exact .ite (.ok h0.seqEnds) (.ite (.ok (either h0.enterReady h0.seqEnds)) (.ok h0.hardReset))
    | enterAck => exact .ok h0.eprCheck
    | exitSent => exact .ok h0.modPol.sendOffer
    | psRdyReq => exact .ite (.ok h0.modPol.exitOrReady) (.ok h0.contractMade)
    | psRdySwap => exact .ok h0.swapDone
    | vdm => exact .ok h0.discCounted.goOn
    | none | swapPsRdy => exact .ok h0.goOn
    | _ => exact .ok h0.modPol

theorem execTxFail {p : Fin 192} (h : LeavesOpen P s t) : EndsOpen P s (execTxFail p t) := by
  unfold Machine.execTxFail
  extract_lets q s0 r s1
  have h0 : LeavesOpen P s s0 := h.modPol
  have h1 : LeavesOpen P s s1 := h0.finishPort.finishPort
  split
  · exact .ok h
  · extract_lets s2
    have h2 : LeavesOpen P s s2 := either h1.modRally.finishPort h1
    refine .ite (.ite (.ok h0.discCounted.modRally.vdmNak.goNext) (.ok h1.goNext)) ?_
    refine .ite (.ok h2.hardReset) (.ite (.ok h2.modPol) (.ite ?_ (.ok (either h2.swapDone h2).softReset)))
    exact .ite (.ok h2.hardReset) (.ite (.ok h2.softReset) (.ok h2.sendNext))

theorem execTxDiscarded {p : Fin 192} (h : LeavesOpen P s t) :
    EndsOpen P s (execTxDiscarded p t) := by
  unfold Machine.execTxDiscarded
  dsimp only
  split
  · exact .ok h
  · split
    · exact .ok h.modPol.finishPort
    · exact .ok h.modPol.finishPort
    · exact .ok h.modPol.modPol
    · exact .ok h.modPol.modPol
    · exact .ok h.modPol.modPol
    · exact .ok h.modPol.modPol
    · exact .ok h.modPol.modPol
    · exact .ok h.modPol.modPol
    · exact .ok (either h.modPol.modPol h.modPol)

theorem execChunkFail {_p : Fin 192} (h : LeavesOpen P s t) :
    EndsOpen P s (execChunkFail _p t) := .ok h
theorem execHoldAnswered {p : Fin 192} (h : LeavesOpen P s t) :
    EndsOpen P s (execHoldAnswered p t) := .ok h.reportHold

theorem replyCaps {p : PortId} {epr : Bool} (h : LeavesOpen P s t) :
    LeavesOpen P s (t.replyCaps p epr) := by
  unfold State.replyCaps
  exact either h.goNext h.offerGoes

theorem execGetSourceCap {p : Fin 192} (h : LeavesOpen P s t) :
    EndsOpen P s (execGetSourceCap p t) := by
  unfold Machine.execGetSourceCap
  refine h.partnerReq ?_
  split
  · exact .ok h.replyCaps
  · exact .ok h.replyCaps
  · exact .ok h.modPol
  · exact .ok h.modPol
  · exact .ok h.modPol
  · exact .ok h.sendOffer

theorem execEprGetSourceCap {p : Fin 192} (h : LeavesOpen P s t) :
    EndsOpen P s (execEprGetSourceCap p t) := by
  unfold Machine.execEprGetSourceCap
  refine h.partnerReq (.ite (.ok h.notSupported) ?_)
  split
  · exact .ok h.replyCaps
  · exact .ok h.replyCaps
  · exact .ok h.modPol
  · exact .ok h.modPol
  · exact .ok h.modPol
  · exact .ok h.sendOffer

theorem freeBytes {n : Nat} (h : LeavesOpen P s t) :
    LeavesOpen P s (t.freeBytes n).2 := h.of_ports
theorem execGetSourceCapExtended {p : Fin 192} (h : LeavesOpen P s t) :
    EndsOpen P s (execGetSourceCapExtended p t) := h.partnerReq (.ok h.freeBytes.send)
theorem execGetSourceInfo {p : Fin 192} (h : LeavesOpen P s t) :
    EndsOpen P s (execGetSourceInfo p t) := h.partnerReq (.ok h.send)
theorem execGetStatus {p : Fin 192} (h : LeavesOpen P s t) :
    EndsOpen P s (execGetStatus p t) := h.partnerReq (.ok h.freeBytes.modPol.send)
theorem execGetPpsStatus {p : Fin 192} (h : LeavesOpen P s t) :
    EndsOpen P s (execGetPpsStatus p t) := h.partnerReq (.ite (.ok h.freeBytes.send) (.ok h.notSupported))
theorem execGetRevision {p : Fin 192} (h : LeavesOpen P s t) :
    EndsOpen P s (execGetRevision p t) := h.partnerReq (.ok h.freeWord.send)
theorem execGetManufacturerInfo {p : Fin 192} (h : LeavesOpen P s t) :
    EndsOpen P s (execGetManufacturerInfo p t) := h.partnerReq (.ok h.send)
theorem execSoftReset {p : Fin 192} (h : LeavesOpen P s t) :
    EndsOpen P s (execSoftReset p t) := h.whenPolicy (.ite (.ok h.hardReset) (.ok h.softLeave.send))
theorem execVconnSwap {p : Fin 192} (h : LeavesOpen P s t) :
    EndsOpen P s (execVconnSwap p t) := h.partnerReq (.ite (.ok h.modPol.send) (.ite (.ok h.send) (.ok h.modPol.send)))
theorem execPrSwap {p : Fin 192} (h : LeavesOpen P s t) :
    EndsOpen P s (execPrSwap p t) := h.whenPolicy (.ok h.send)
theorem execDrSwap {p : Fin 192} (h : LeavesOpen P s t) :
    EndsOpen P s (execDrSwap p t) := h.whenPolicy (.ok h.send)
theorem execFrSwap {p : Fin 192} (h : LeavesOpen P s t) :
    EndsOpen P s (execFrSwap p t) := h.whenPolicy (.ok h.notSupported)
theorem execEprModeEnter {p : Fin 192} {watts : Nat} (h : LeavesOpen P s t) :
    EndsOpen P s (execEprModeEnter p watts t) := h.partnerReq (.ite (.ok h.modPol.demandRose.send) (.ok h.goNext))
theorem execEprModeExit {p : Fin 192} (h : LeavesOpen P s t) :
    EndsOpen P s (execEprModeExit p t) := h.whenPolicy (.ite (.ok h.goNext) (.ite (.ok h.modPol.sendOffer) (.ok h.hardReset)))
theorem execEprKeepalive {p : Fin 192} (h : LeavesOpen P s t) :
    EndsOpen P s (execEprKeepalive p t) := h.whenPolicy (.ite (.ok h.send) (.ok h.notSupported))

theorem execSinkCapabilities {p : Fin 192} {h1 : BitVec 16} {epr : Bool} {objs : List (BitVec 32)} (h : LeavesOpen P s t) :
    EndsOpen P s (execSinkCapabilities p h1 epr objs t) := by
  exact h.whenPolicy (.ite (.ok h.modPol.demandRose.passMsg.seqEnds) (.ok h.modPol.demandRose.passMsg.goNext))

theorem execAlert {p : Fin 192} {h1 : BitVec 16} {ado : BitVec 32} (h : LeavesOpen P s t) :
    EndsOpen P s (execAlert p h1 ado t) := h.whenPolicy (.ok h.passMsg.send)

theorem execInformationMessage {p : Fin 192} {m : Msg} (h : LeavesOpen P s t) :
    EndsOpen P s (execInformationMessage p m t) := by
  exact h.whenPolicy (.ite (.ok h.modPol.passMsg.seqEnds) (.ok h.modPol.passMsg.goNext))

theorem execUnsupportedRequest {p : Fin 192} (h : LeavesOpen P s t) :
    EndsOpen P s (execUnsupportedRequest p t) := h.whenPolicy (.ok h.notSupported)
theorem execBistRequest {p : Fin 192} {carrier : Bool} (h : LeavesOpen P s t) :
    EndsOpen P s (execBistRequest p carrier t) := h.whenPolicy (.ite (.ite (.ok h.modPd) (.ok h.modPol)) (.ok h.goNext))
theorem execUnexpectedMessage {p : Fin 192} (h : LeavesOpen P s t) :
    EndsOpen P s (execUnexpectedMessage p t) := h.whenPolicy (.ok h.protocolError)
theorem execUnchunkedExtended {p : Fin 192} (h : LeavesOpen P s t) :
    EndsOpen P s (execUnchunkedExtended p t) := h.whenPolicy (.ok h.notSupported)
theorem execUnrecognisedMessage {p : Fin 192} (h : LeavesOpen P s t) :
    EndsOpen P s (execUnrecognisedMessage p t) := h.whenPolicy (.ok h.notSupported)

theorem execSrcTransitionExpiry {p : Fin 192} (h : LeavesOpen P s t) :
    EndsOpen P s (execSrcTransitionExpiry p t) := by
  unfold Machine.execSrcTransitionExpiry
  dsimp only
  exact .ite (by split; exacts [.ok h.modPol.post, .ok h]) (.ok h)

theorem execSenderResponseExpiry {p : Fin 192} (h : LeavesOpen P s t) :
    EndsOpen P s (execSenderResponseExpiry p t) := by
  unfold Machine.execSenderResponseExpiry
  refine h.whenPolicy ?_
  split
  · exact .ok h.hardReset
  · exact .ok h.softReset
  · exact .ok h.softReset
  · exact .ok h.softReset
  · exact .ok h.swapDone.softReset
  · exact .ok h

theorem execSourceCapResend {p : Fin 192} (h : LeavesOpen P s t) :
    EndsOpen P s (execSourceCapResend p t) := h.whenPolicy (.ite (.ite (.ok h.modPol) (.ok h.sendOffer)) (.ok h))

theorem execNoResponseExpiry {p : Fin 192} (h : LeavesOpen P s t) :
    EndsOpen P s (execNoResponseExpiry p t) := by
  unfold Machine.execNoResponseExpiry
  exact .ite (.ok h.hardReset) (.ok h)

theorem execPpsKeepaliveExpiry {p : Fin 192} (h : LeavesOpen P s t) :
    EndsOpen P s (execPpsKeepaliveExpiry p t) := h.whenPolicy (.ite (.ok h.hardReset) (.ok h))
theorem execEprKeepaliveExpiry {p : Fin 192} (h : LeavesOpen P s t) :
    EndsOpen P s (execEprKeepaliveExpiry p t) := h.whenPolicy (.ite (.ok h.hardReset) (.ok h))
theorem execVconnSourceExpiry {p : Fin 192} (h : LeavesOpen P s t) :
    EndsOpen P s (execVconnSourceExpiry p t) := h.whenPolicy (.ite (.ok h.hardReset) (.ok h))
theorem execVconnSwapRetry {p : Fin 192} (h : LeavesOpen P s t) :
    EndsOpen P s (execVconnSwapRetry p t) := h.whenPolicy (.ite (.ok h.swapSend) (.ok h))

theorem execFeedObjectWithdraw {p : Fin 192} {obj : Fin 11} (h : LeavesOpen P s t) :
    EndsOpen P s (execFeedObjectWithdraw p obj t) := by
  unfold Machine.execFeedObjectWithdraw
  split; exacts [.ite (.ok h.modPol.offerChange) (.ok h), .ok h]

theorem execFeedObjectRestore {p : Fin 192} {obj : Fin 11} (h : LeavesOpen P s t) :
    EndsOpen P s (execFeedObjectRestore p obj t) := by
  unfold Machine.execFeedObjectRestore
  split; exacts [.ite (.ok h.modPol.offerChange) (.ok h), .ok h]

theorem execEprCapsSend {p : Fin 192} (h : LeavesOpen P s t) :
    EndsOpen P s (execEprCapsSend p t) := h.whenPolicy (.ite (.ok h.modPol.sendOffer) (.ok h))

/-! ### VDMs and discovery -/

theorem vdmEvent {p : PortId} {sub : Nat} {m : Msg} (h : LeavesOpen P s t) :
    LeavesOpen P s (t.vdmEvent p sub m) := h.vdmTell
theorem vdmAnswer {p : PortId} {hdr : Word} {typ : Nat} {vdos : List Word} (h : LeavesOpen P s t) :
    LeavesOpen P s (t.vdmAnswer p hdr typ vdos) := h.send
theorem execVdmRequest {p : Fin 192} {hdr : BitVec 32} {_vdos : List (BitVec 32)} (h : LeavesOpen P s t) :
    EndsOpen P s (execVdmRequest p hdr _vdos t) := h.whenPolicy (.ite (.ok h.vdmAnswer) (.ok h.vdmAnswer))
theorem execUnstructuredVdm {p : Fin 192} {h1 : BitVec 16} {hdr : BitVec 32} {vdos : List (BitVec 32)} (h : LeavesOpen P s t) :
    EndsOpen P s (execUnstructuredVdm p h1 hdr vdos t) := h.whenPolicy (.ok h.vdmEvent.notSupported)

theorem vdmAck {p : PortId} {r : VdmReq} {m : Msg} {vdos : List Word} (h : LeavesOpen P s t) :
    LeavesOpen P s (t.vdmAck p r m vdos) := by
  unfold State.vdmAck
  dsimp only
  split
  · exact h.cableEnd
  · exact h.modRally.vdmEvent
  · exact either h.modRally.svidsEnd h.modRally.modRally.passMsg
  · split
    · exact (either h.modRally h.modRally.vdmEvent).modRally
    · exact either h.modRally h.modRally.vdmEvent
  · exact h.modRally.vdmEvent
  · split
    · exact either h.noticeNak h.modRally
    · exact h.noticeNak
  · exact h.replyToHost
  · exact h

theorem execVdmResponse {p : Fin 192} {h1 : BitVec 16} {k : Sop} {ans : VdmAnswer} {hdr : BitVec 32} {vdos : List (BitVec 32)}
    (h : LeavesOpen P s t) : EndsOpen P s (execVdmResponse p h1 k ans hdr vdos t) := by
  unfold Machine.execVdmResponse
  dsimp only
  refine h.whenPolicy (.ite (.ok h.vdmEvent.goNext) ?_)
  split
  · exact .ok h.modRally.vdmAck.goNext
  · exact .ok h.modRally.vdmNak.goNext
  · refine .ite (.ok h.modRally.modRally) ?_
    refine .ite (.ok h.modRally.modRally.finishPort.goNext) ?_
    exact .ite (.ok h.modRally.modRally.goNext) (.ok h.modRally.modRally.vdmNak.goNext)

theorem execVdmResponseTimeout {p : Fin 192} (h : LeavesOpen P s t) :
    EndsOpen P s (execVdmResponseTimeout p t) := h.whenPolicy (.ite (.ok h) (.ok h.modRally.vdmNak.goNext))
theorem execVdmBusyRetry {p : Fin 192} (h : LeavesOpen P s t) :
    EndsOpen P s (execVdmBusyRetry p t) := h.whenPolicy (.ite (.ok h) (.ok h.sendVdm))

theorem execDiscoverIdentityAttempt {p : Fin 192} (h : LeavesOpen P s t) :
    EndsOpen P s (execDiscoverIdentityAttempt p t) := by
  exact h.whenPolicy (.ite (.ok h.startCable) (.ite (.ok h.cableEnd.goNext) (.ok h.discAttempt)))

theorem execAttention {p : Fin 192} {h1 : BitVec 16} {hdr : BitVec 32} {vdo : BitVec 32} (h : LeavesOpen P s t) :
    EndsOpen P s (execAttention p h1 hdr vdo t) := h.whenPolicy (.ite (.ok h.modRally.goNext) (.ok h.vdmEvent.goNext))
theorem execRallyNoticeDue {p : Fin 192} (h : LeavesOpen P s t) :
    EndsOpen P s (execRallyNoticeDue p t) := h.whenPolicy (.ite (.ok h.modRally.noticeNext) (.ok h))

theorem execCurtailConfirm {p : Fin 192} (h : LeavesOpen P s t) :
    EndsOpen P s (execCurtailConfirm p t) := by
  unfold Machine.execCurtailConfirm
  dsimp only
  split; exacts [.ite (.ok h.modPort) (.ok h), .ok h]

theorem execCurtailReactionExpiry {p : Fin 192} (h : LeavesOpen P s t) :
    EndsOpen P s (execCurtailReactionExpiry p t) := by
  unfold Machine.execCurtailReactionExpiry
  exact .ite (.ok h.pledgeBroken) (.ok h)

theorem execCurtailHoldExpiry {p : Fin 192} (h : LeavesOpen P s t) :
    EndsOpen P s (execCurtailHoldExpiry p t) := by
  unfold Machine.execCurtailHoldExpiry
  exact .ite (.ite (.ok h.restoreSend) (.ok h.ladderOn)) (.ok h)

theorem execBrokenHoldoffExpiry {p : Fin 192} (h : LeavesOpen P s t) :
    EndsOpen P s (execBrokenHoldoffExpiry p t) := .ok h.modRally

end State.LeavesOpen

end Sys2Proof.Machine
end

section
/-! SUPPORT. The feeds and the scoreboard have no path to a pass switch. -/
set_option Elab.async false
namespace Sys2Proof.Machine

variable {P : PortId → Prop} {s t u : State}

namespace State.LeavesOpen

/-! ### The feeds -/

theorem feedAlert (h : LeavesOpen P s t) :
    LeavesOpen P s (t.feedAlert) := h.modBoard.foldl fun _ _ h => either h.send h

theorem feedEvt {f : FeedId} {c : FeedCause} (h : LeavesOpen P s t) :
    LeavesOpen P s (t.feedEvt f c) := by
  unfold State.feedEvt
  exact h.modFeed.postEvt.feedAlert

theorem disconnectPort {p : PortId} (h : LeavesOpen P s t) :
    LeavesOpen P s (t.disconnectPort p) := by
  unfold State.disconnectPort
  exact h.endContract.rallyEnd.pdStop.modPort.abortDescs.post

theorem giveBack {p : PortId} (h : LeavesOpen P s t) :
    LeavesOpen P s (t.giveBack p) := by
  unfold State.giveBack
  exact either h.modPort h

theorem noFeed (h : LeavesOpen P s t) :
    LeavesOpen P s (t.noFeed) := by
  unfold State.noFeed
  exact either h ((h.modBoard.foldl fun _ _ h => either h.disconnectPort h.giveBack).postEvt)

theorem toInrush {f : FeedId} (h : LeavesOpen P s t) :
    LeavesOpen P s (t.toInrush f) := h.modFeed
theorem feedSelect (h : LeavesOpen P s t) :
    LeavesOpen P s (t.feedSelect) := either h (either h.toInrush (either h.toInrush h))

theorem feedWaits {f : FeedId} (h : LeavesOpen P s t) :
    LeavesOpen P s (t.feedWaits f) := by
  unfold State.feedWaits
  exact either h.finish h

theorem feedQualify {f : FeedId} (h : LeavesOpen P s t) :
    LeavesOpen P s (t.feedQualify f) := h.modFeed.feedSelect

theorem releaseFeedSvc (h : LeavesOpen P s t) :
    LeavesOpen P s (t.releaseFeedSvc) := by
  unfold State.releaseFeedSvc
  exact either h.setPowered.setPowered.setFence.setFence.modPwr.feedQualify.feedQualify h

theorem feedTakeUp {f : FeedId} (h : LeavesOpen P s t) :
    LeavesOpen P s (t.feedTakeUp f) := either h h.modFeed.feedQualify

theorem feedTrip {f : FeedId} {c : FeedCause} (h : LeavesOpen P s t) :
    LeavesOpen P s (t.feedTrip f c) := by
  unfold State.feedTrip
  refine either h ?_
  refine noFeed ?_
  refine feedEvt ?_
  refine either ?_ (either h.modFeed.modBoard.modBoard h.modFeed.modBoard)
  exact (either h.modFeed.modBoard.modBoard h.modFeed.modBoard).finish

theorem feedTripTick {f : FeedId} {xs : List FeedTripping} (h : LeavesOpen P s t) :
    LeavesOpen P s (t.feedTripTick f xs) := by
  unfold State.feedTripTick
  dsimp only
  split; exacts [(h.foldl fun _ _ h => by split; exacts [either h.modFeed h, either h.modFeed h, h]).feedTrip, h]

theorem execSeatQualified (h : LeavesOpen P s t) :
    EndsOpen P s (execSeatQualified t) := by
  unfold Machine.execSeatQualified
  exact .ok ((either h.modBoard.feedQualify.feedQualify h.modBoard).wakeReq)

theorem unseatOpening {f : FeedId} (h : LeavesOpen P s t) :
    LeavesOpen P s (t.unseatOpening f) := either h.modFeed.feedEvt h

theorem execSeatReleased (h : LeavesOpen P s t) :
    EndsOpen P s (execSeatReleased t) := by
  unfold Machine.execSeatReleased
  dsimp only
  refine .ok ?_
  refine wakeReq ?_
  refine finish ?_
  refine noFeed ?_
  refine feedQualify ?_
  refine feedQualify ?_
  refine feedTrip ?_
  refine feedTrip ?_
  refine modBoard ?_
  split
  · exact h.modFeed.unseatOpening
  · exact h

theorem execFeedWindowChange {f : FeedId} {mv : Nat} (h : LeavesOpen P s t) :
    EndsOpen P s (execFeedWindowChange f mv t) := .ite (.ok h) (.ok h.modFeed.feedQualify)

theorem execInsertDelayExpiry {f : FeedId} {both : Bool} (h : LeavesOpen P s t) :
    EndsOpen P s (execInsertDelayExpiry f both t) := by
  exact .ite (.ok (either h.modFeed.modBoard.modFeed.feedWaits h.modFeed.modBoard).feedWaits.feedSelect) (.ok h)

theorem execPriorityReturn {also_ : List FeedTripping} (h : LeavesOpen P s t) :
    EndsOpen P s (execPriorityReturn also_ t) := .ite (.ite (.ok h.feedTripTick) (.ok h.modFeed.modBoard)) (.ok h)
theorem execInrushComplete {f : FeedId} {vgs : Nat} {mv : Nat} {vbusc : Nat} (h : LeavesOpen P s t) :
    EndsOpen P s (execInrushComplete f vgs mv vbusc t) := .ite (.ok h.modFeed.modBoard.feedEvt.feedWaits.finish) (.ok h)
theorem execInrushTimeout {f : FeedId} (h : LeavesOpen P s t) :
    EndsOpen P s (execInrushTimeout f t) := .ite (.ok h.feedTrip) (.ok h)
theorem pgRisen (h : LeavesOpen P s t) :
    LeavesOpen P s (t.pgRisen) := either ((h.foldl fun _ _ h => either h.modSb h).modBoard) h

theorem pgTick {f : FeedId} {before : List Nat} (h : LeavesOpen P s t) :
    LeavesOpen P s (t.pgTick f before) := by
  unfold State.pgTick
  exact either h.modBoard.pgRisen h.modBoard

theorem execFeedBreakerTick {f : FeedId} {mv : Nat} {ma : ℤ} {vbusc : Nat} (h : LeavesOpen P s t) :
    EndsOpen P s (execFeedBreakerTick f mv ma vbusc t) := by
  unfold Machine.execFeedBreakerTick
  refine .ite (.ok (either (either h.feedTakeUp h).wakeReq (either h.feedTakeUp h))) ?_
  exact .ite (.ok (either h.feedTakeUp h).modFeed.modBoard.pgTick) (.ok (either h.feedTakeUp h).modFeed.modBoard)

theorem execFeedBreakerTrip {f : FeedId} {also_ : List FeedTripping} (h : LeavesOpen P s t) :
    EndsOpen P s (execFeedBreakerTrip f also_ t) := .ok h.feedTripTick
theorem feedGuard {f : FeedId} {x : FeedTripping} {xs : List FeedTripping} (h : LeavesOpen P s t) :
    EndsOpen P s (t.feedGuard f x xs) := .ite (.ok h.feedTripTick.wakeReq) (.ok h.feedTripTick)
theorem execFeedFastTrip {f : FeedId} {mv : Nat} {also_ : List FeedTripping} (h : LeavesOpen P s t) :
    EndsOpen P s (execFeedFastTrip f mv also_ t) := h.feedGuard
theorem execFeedReverse {f : FeedId} {ma : Nat} {also_ : List FeedTripping} (h : LeavesOpen P s t) :
    EndsOpen P s (execFeedReverse f ma also_ t) := h.feedGuard
theorem execFeedOvervolt {f : FeedId} {mv : Nat} {also_ : List FeedTripping} (h : LeavesOpen P s t) :
    EndsOpen P s (execFeedOvervolt f mv also_ t) := h.feedGuard
theorem execFeedUndervolt {f : FeedId} {mv : Nat} {also_ : List FeedTripping} (h : LeavesOpen P s t) :
    EndsOpen P s (execFeedUndervolt f mv also_ t) := .ok h.feedTripTick

theorem execOffConfirmed {f : FeedId} {vgs : Nat} {ma : ℤ} (h : LeavesOpen P s t) :
    EndsOpen P s (execOffConfirmed f vgs ma t) := by
  unfold Machine.execOffConfirmed
  refine .ite (.ok h) ?_
  exact .ite (.ite (.ok h) (.ok (either h.modFeed h.modFeed.finish).feedWaits.feedQualify.noFeed)) (.ok h.modFeed)

theorem execDeadTimeEnd (h : LeavesOpen P s t) :
    EndsOpen P s (execDeadTimeEnd t) := by
  unfold Machine.execDeadTimeEnd
  split; exacts [.ite (.ite (.ok h.toInrush) (.ok h.modBoard.feedSelect.noFeed)) (.ok h), .ok h]

theorem execStuckBank {f : FeedId} (h : LeavesOpen P s t) :
    EndsOpen P s (execStuckBank f t) := by
  unfold Machine.execStuckBank
  exact .ite (.ok h.modFeed.modBoard.feedEvt.refRecord.noFeed.finish) (.ok h)

theorem execFeedRetryDue {f : FeedId} (h : LeavesOpen P s t) :
    EndsOpen P s (execFeedRetryDue f t) := by
  unfold Machine.execFeedRetryDue
  refine .ite ?_ (.ok h)
  refine .ite (.ok h.wakeReq) ?_
  exact .ite (.ok h.modFeed.modFeed.feedQualify) (.ite (.ok h.modFeed.modFeed.feedWaits) (.ok h.modFeed.toInrush))

theorem execFeedRetryClear {f : FeedId} (h : LeavesOpen P s t) :
    EndsOpen P s (execFeedRetryClear f t) := .ite (.ok h.modFeed) (.ok h)

theorem execFeedReseatHoldExpiry (h : LeavesOpen P s t) :
    EndsOpen P s (execFeedReseatHoldExpiry t) := .ite (.ok h) (.ok h.modFeed.modFeed)

/-! ### The scoreboard -/

theorem postRp {p : PortId} {q : Nat} (h : LeavesOpen P s t) :
    LeavesOpen P s (t.postRp p q) := h.modSb.post

theorem thermal {p : PortId} (h : LeavesOpen P s t) :
    LeavesOpen P s (t.thermal p) := by
  unfold State.thermal
  exact either h.modPort.postEvt h.modPort

theorem usage {p : PortId} (h : LeavesOpen P s t) : LeavesOpen P s (t.usage p) := by
  unfold State.usage
  refine h.modPort fun q g => ?_
  dsimp only
  split
  · exact g
  · split <;> exact g

theorem pledge {p : PortId} (h : LeavesOpen P s t) :
    LeavesOpen P s (t.pledge p) := by
  unfold State.pledge
  exact either h.modSb (either h.modPort.vdmTell h.modPort)

theorem decideDecrease {p : PortId} {target : Nat} (h : LeavesOpen P s t) :
    LeavesOpen P s (t.decideDecrease p target) := by
  unfold State.decideDecrease
  refine either h.modSb.postEvt ?_
  refine either h.modSb.postEvt.armHard.offerChange ?_
  exact either h.modSb.postEvt.modSb.postRp (either h.modSb.postEvt.curtailSend h.modSb.postEvt.ladderOn)

theorem cancelDecrease {p : PortId} (h : LeavesOpen P s t) :
    LeavesOpen P s (t.cancelDecrease p) := by
  unfold State.cancelDecrease
  refine either ?_ (either h.modSb.postEvt.liftHard.postRp h.modSb.postEvt.liftHard.offerChange)
  exact either h.modSb.postEvt.liftHard.restoreSend h.modSb.postEvt.liftHard.curtailSend

theorem raised {p : PortId} (h : LeavesOpen P s t) :
    LeavesOpen P s (t.raised p) := by
  unfold State.raised
  refine either h.liftHard.modRally.postRp ?_
  exact either (either h.liftHard.modRally.restoreSend h.liftHard.modRally) h.liftHard.modRally.offerChange

theorem applyConfirmed {p : PortId} (h : LeavesOpen P s t) :
    LeavesOpen P s (t.applyConfirmed p) := by
  unfold State.applyConfirmed
  dsimp only
  split; exacts [either h.applyDecided h, h]

theorem phase1 {p : PortId} {target : Nat} (h : LeavesOpen P s t) :
    LeavesOpen P s (t.phase1 p target) := by
  unfold State.phase1
  refine either h.modSb ?_
  refine either (either h.modSb.decideDecrease h.modSb) ?_
  refine either ?_ (either h.modSb.setAlloc h.modSb)
  exact either h.modSb (either h.modSb.cancelDecrease (either h.modSb.decideDecrease h.modSb))

theorem giveReserve {p : PortId} (h : LeavesOpen P s t) :
    LeavesOpen P s (t.giveReserve p) := by
  unfold State.giveReserve
  exact either h (either h.setAlloc.modSb (either h.setAlloc h))

theorem grantFloor {p : PortId} {order : Nat} (h : LeavesOpen P s t) :
    LeavesOpen P s (t.grantFloor p order) := by
  unfold State.grantFloor
  refine either h.setAlloc.modSb.liftHard.post ?_
  exact (either h.setAlloc.modSb.liftHard.postRp h.setAlloc.modSb.liftHard.offerChange).leaveStartup

theorem phase2 {sh : List (Entry × Nat)} {order : Nat} (h : LeavesOpen P s t) :
    LeavesOpen P s (t.phase2 sh order) := by
  unfold State.phase2
  exact (h.foldl fun _ _ h => either h.grantFloor h).foldl fun _ _ h => either h.setAlloc.raised h

theorem vcGiveAway {t1 : TileId} (h : LeavesOpen P s t) :
    LeavesOpen P s (t.vcGiveAway t1) := by
  unfold State.vcGiveAway
  dsimp only
  exact either h (by split; exacts [either h.queueHk.swapSend h.queueHk, h])

theorem askAgain {p : PortId} (h : LeavesOpen P s t) :
    LeavesOpen P s (t.askAgain p) := by
  unfold State.askAgain
  exact either h.modSb h

theorem takeSettings (h : LeavesOpen P s t) : LeavesOpen P s t.takeSettings :=
  h.trans ⟨fun q _ g => by
    simp only [State.port, State.takeSettings, Vector.getElem_map, Port.reported_path]
    exact g, rfl⟩

theorem publishFeed (h : LeavesOpen P s t) :
    LeavesOpen P s (t.publishFeed) := by
  unfold State.publishFeed
  exact either ((h.modBoard.foldl fun _ _ h => either h.queueHk h).modBoard) h.modBoard

theorem boundaryIn (h : LeavesOpen P s t) :
    LeavesOpen P s (t.boundaryIn) := by
  unfold State.boundaryIn
  exact (h.takeSettings.publishFeed.modBoard.foldl fun _ _ h => h.thermal.usage.pledge.askAgain).modBoard

theorem boundaryApply (h : LeavesOpen P s t) : LeavesOpen P s (t.boundaryApply) := by
  unfold State.boundaryApply
  extract_lets s2 s3 sh s4 order
  have h3 : LeavesOpen P s s3 := (h.foldl fun _ _ h => h.applyConfirmed).modBoard
  have h4 : LeavesOpen P s s4 := (either h3 (h3.foldl fun _ _ h => h.phase1)).foldl fun _ _ h => h.giveReserve
  exact either h4 h4.phase2.modBoard

theorem boundaryOut (h : LeavesOpen P s t) : LeavesOpen P s t.boundaryOut := by
  unfold State.boundaryOut
  exact ((((h.foldl fun _ _ h => h.modPath fun q g => by split <;> exact g).foldl fun _ _ h => h.vcGiveAway).foldl fun _ _ h =>
    h.noticeCheck.noticeNext).modBoard).modRef

theorem execScoreboardBoundary (h : LeavesOpen P s t) :
    EndsOpen P s (execScoreboardBoundary t) := .ite (.ok h) (.ok h.boundaryIn.boundaryApply.boundaryOut.finish)

theorem execGraceExpiry {p : Fin 192} (h : LeavesOpen P s t) :
    EndsOpen P s (execGraceExpiry p t) := by
  unfold Machine.execGraceExpiry
  dsimp only
  split
  · exact .ite (.ok h) (.ite (.ok h.modSb.postEvt.modPd.abortDescs.hardResetDone) (.ok h.modSb.armHard))
  · exact .ite (.ite (.ok h.modRally) (.ok h.modRally.armHard)) (.ok h)

theorem execNewcomerGraceExpiry {p : Fin 192} (h : LeavesOpen P s t) :
    EndsOpen P s (execNewcomerGraceExpiry p t) := .ite (.ok h.armHard) (.ok h)

theorem execDecreaseSampleConfirm {p : Fin 192} (h : LeavesOpen P s t) :
    EndsOpen P s (execDecreaseSampleConfirm p t) := by
  unfold Machine.execDecreaseSampleConfirm
  exact .ite (.ok h.modSb) (.ok h)

theorem execUsageCapRelease {p : Fin 192} (h : LeavesOpen P s t) :
    EndsOpen P s (execUsageCapRelease p t) := .ite (.ok h.modSb) (.ok h)
theorem execVconnChargeSettle {p : Fin 192} (h : LeavesOpen P s t) :
    EndsOpen P s (execVconnChargeSettle p t) := .ite (.ok h.modPath) (.ok h)

theorem execVconnBudgetExcess {k : Fin 8} (h : LeavesOpen P s t) : EndsOpen P s (execVconnBudgetExcess k t) := by
  refine .ok (foldlFst h fun a p h => ?_)
  split
  exacts [h.modSb.post.pair, h]

theorem shedFloor {p : PortId} (h : LeavesOpen P s t) :
    LeavesOpen P s (t.shedFloor p) := by
  unfold State.shedFloor
  exact ((either h.modSb.postRp (either h.modSb h.modSb.send)).postEvt).armHard

theorem shedPledge {p : PortId} (h : LeavesOpen P s t) :
    LeavesOpen P s (t.shedPledge p) := by
  unfold State.shedPledge
  exact h.modSb.postEvt.curtailSend.armHard

theorem shedStage {n : Nat} (h : LeavesOpen P s t) :
    LeavesOpen P s (t.shedStage n) := by
  unfold State.shedStage
  refine (h.modBoard.postEvt.foldl fun _ _ h => either (either (either h.disconnectPort h) (either h.shedFloor h)) (either h.shedPledge h)).foldl fun _ _ h => ?_
  exact h.noticeCheck.noticeNext

theorem execEmergencyShedStart (h : LeavesOpen P s t) :
    EndsOpen P s (execEmergencyShedStart t) := .ite (.ok h.shedStage) (.ok h)
theorem execEmergencyShedStage (h : LeavesOpen P s t) :
    EndsOpen P s (execEmergencyShedStage t) := .ite (.ok h.shedStage) (.ok h)

theorem execEmergencyShedEnd (h : LeavesOpen P s t) :
    EndsOpen P s (execEmergencyShedEnd t) := .ite (.ok h) (.ok (h.modBoard.postEvt.foldl fun _ _ h => either h.modSb h))

end State.LeavesOpen

end Sys2Proof.Machine
end

section
/-! SUPPORT. Measurement, the tile links and the referee have no path to a pass switch. -/
set_option Elab.async false
namespace Sys2Proof.Machine

variable {P : PortId → Prop} {s t u : State}

namespace State.LeavesOpen

/-! ### Measurement -/

theorem driftEvt {p : PortId} {c : DriftCause} {o : DriftOutcome} {dv : ℤ} {di : ℤ} (h : LeavesOpen P s t) :
    LeavesOpen P s (t.driftEvt p c o dv di) := either h h.postEvt
theorem eprLeave {p : PortId} (h : LeavesOpen P s t) :
    LeavesOpen P s (t.eprLeave p) := h.modPol

theorem laneLimit {p : PortId} {c : DriftCause} {dv : ℤ} {di : ℤ} (h : LeavesOpen P s t) :
    LeavesOpen P s (t.laneLimit p c dv di) := by
  exact either h (either h.modPort.driftEvt h.modPort.driftEvt.queueFault).eprLeave.offerChange

theorem laneLift {p : PortId} {dv : ℤ} {di : ℤ} (h : LeavesOpen P s t) :
    LeavesOpen P s (t.laneLift p dv di) := by
  unfold State.laneLift
  exact (either h.modPort.driftEvt h.modPort.driftEvt.queueFault).offerChange

theorem execAdcFault {t1 : Fin 8} {b : Bool} {frames : List (Nat × Bool × Nat)} (h : LeavesOpen P s t) :
    EndsOpen P s (execAdcFault t1 b frames t) := by
  unfold Machine.execAdcFault
  extract_lets q s1 s2 s3
  have h3 : LeavesOpen P s s3 := (h.modTile.foldl fun _ _ h => either h h.driftEvt).refRecord
  refine .ite (.ok h) ?_
  split
  · exact .ite (.ok h3.modTile.finish) (.ok h3)
  · exact .ok h3

theorem execMeasSample {p : Fin 192} {codes : List (Nat × Nat)} {vc : Nat} (h : LeavesOpen P s t) :
    EndsOpen P s (execMeasSample p codes vc t) := by
  have k := h.modPath (p := p) (f := fun q => if q.vconn == 0 then q else { q with vcPeak := vc }) fun q g => by split <;> exact g
  unfold Machine.execMeasSample
  exact .ite (.ok h) (.ite (.ok k) (.ok k.modPort.modPort))

theorem tlmMark {p : PortId} (h : LeavesOpen P s t) :
    LeavesOpen P s (t.tlmMark p) := either h.modLink h.modPort
theorem tlmLost {p : PortId} (h : LeavesOpen P s t) :
    LeavesOpen P s (t.tlmLost p) := h.modLink.modPort

theorem tlmPut {k : Nat} {r : TlmRec} (h : LeavesOpen P s t) :
    LeavesOpen P s (t.tlmPut k r) := by
  unfold State.tlmPut
  exact either h.tlmLost (either h.ringWrite (either h.modLink.unpoison h.tlmLost))

theorem tlmDrain {k n : Nat} (h : LeavesOpen P s t) : LeavesOpen P s (t.tlmDrain k n) := by
  induction n generalizing t with
  | zero => exact h
  | succ n ih =>
    unfold State.tlmDrain
    split
    · exact h
    · refine either (ih h.modLink.tlmLost) (either h ?_)
      split
      · exact ih h.modLink.eccError.tlmMark
      · exact ih h.modLink.softFix.ringWrite

theorem execTelemetryRecord {p : Fin 192} {lanes : BitVec 16} {peak : ℤ} {time : Nat} {samples : List (Nat × ℤ)}
    (h : LeavesOpen P s t) :
    EndsOpen P s (execTelemetryRecord p lanes peak time samples t) := by
  unfold Machine.execTelemetryRecord
  exact .ite (.ok h) (.ok h.modPort.tlmPut.finishPort)

theorem execTlmDecimationHalve (h : LeavesOpen P s t) :
    EndsOpen P s (execTlmDecimationHalve t) := .ite (.ok h.modLink) (.ok h)
theorem execCaptureTrigger {t1 : Fin 8} {mv : Nat} {ma : ℤ} (h : LeavesOpen P s t) :
    EndsOpen P s (execCaptureTrigger t1 mv ma t) := .ok h.modTile

theorem capDrain {t1 : TileId} (h : LeavesOpen P s t) : LeavesOpen P s (t.capDrain t1) := by
  unfold State.capDrain
  split
  · exact h
  · extract_lets s1
    have h1 : LeavesOpen P s s1 := h.foldl fun _ _ h => either h.ringWrite.modTile h
    refine either h ?_
    split
    · exact either h1.modTile.finish h1
    · exact h1

theorem execCaptureReadingsDone {t1 : Fin 8} {readings : List ℤ} {held : Nat} {gaps : List Nat} {time : Nat}
    (h : LeavesOpen P s t) :
    EndsOpen P s (execCaptureReadingsDone t1 readings held gaps time t) := by
  unfold Machine.execCaptureReadingsDone
  split; exacts [.ite (.ok h.modTile.capDrain) (.ok h), .ok h]

theorem snapLatch (h : LeavesOpen P s t) :
    LeavesOpen P s (t.snapLatch) := by
  unfold State.snapLatch
  exact (h.foldl fun _ _ h => either h h.modTile).of_ports

theorem execSnapshotWritten {vals : List (Nat × Int)} (h : LeavesOpen P s t) : EndsOpen P s (execSnapshotWritten vals t) := by
  unfold Machine.execSnapshotWritten
  exact .ite (.ok h) (.ok (State.LeavesOpen.withMeas (h.foldl fun _ _ h => either h h.modPort)).finish)

theorem driftEnd {t1 : TileId} (h : LeavesOpen P s t) :
    LeavesOpen P s (t.driftEnd t1) := by
  unfold State.driftEnd
  dsimp only
  split; exacts [h, either h.modTile.driftEvt h.modTile.laneLimit.refRecord]

theorem execSublaneSlotStart {t1 : Fin 8} {l : Fin 24} (h : LeavesOpen P s t) :
    EndsOpen P s (execSublaneSlotStart t1 l t) := .ite (.ok h) (.ok h.driftEnd.modTile.modPort)
theorem handover {t1 : TileId} {l : Nat} (h : LeavesOpen P s t) :
    LeavesOpen P s (t.handover t1 l) := h.modTile.modPort

theorem execQuietTest {t1 : Fin 8} {dv : ℤ} {di : ℤ} {mv : Nat} {ma : ℤ} {frames : BitVec 24} (h : LeavesOpen P s t) :
    EndsOpen P s (execQuietTest t1 dv di mv ma frames t) := by
  unfold Machine.execQuietTest
  dsimp only
  refine .ite (.ok h) ?_
  refine .ite (.ok h.modTile.modPort.handover) ?_
  split
  · exact .ok h.modTile.modPort.modPort.handover
  · exact .ok h.modTile.modPort.modPort

theorem execCalReconnect {t1 : Fin 8} {vz : Nat} {vl : Nat} {vh : Nat} {iz : Nat} {il : Nat} {ih : Nat} (h : LeavesOpen P s t) :
    EndsOpen P s (execCalReconnect t1 vz vl vh iz il ih t) := by
  unfold Machine.execCalReconnect
  exact .ite (.ok h) (.ite (.ok h.modTile.modPort) (.ok h.modTile.modPort.driftEvt))

theorem execVerifyHandback {t1 : Fin 8} {dv : ℤ} {di : ℤ} {mv : Nat} {ma : ℤ} (h : LeavesOpen P s t) :
    EndsOpen P s (execVerifyHandback t1 dv di mv ma t) := by
  unfold Machine.execVerifyHandback
  refine .ite (.ite (.ok h) (.ok h.modTile.modPort)) ?_
  refine .ite ?_ (.ite (.ok h.modTile.modPort.modPort) (.ok h.modTile.modPort.modPort.driftEvt))
  exact .ite (.ok h.modTile.modPort.modTile.modPort.laneLift) (.ok h.modTile.modPort.modTile.modPort)

theorem subFaultDown {t1 : TileId} (h : LeavesOpen P s t) :
    LeavesOpen P s (t.subFaultDown t1) := by
  unfold State.subFaultDown
  exact (((either h.modPort h).modTile).foldl fun _ _ h => h.laneLimit).refRecord

theorem execSublaneSelfCal {t1 : Fin 8} {vz : Nat} {vl : Nat} {vh : Nat} {iz : Nat} {il : Nat} {ih : Nat} (h : LeavesOpen P s t) :
    EndsOpen P s (execSublaneSelfCal t1 vz vl vh iz il ih t) := by
  unfold Machine.execSublaneSelfCal
  refine .ite (.ok h) ?_
  refine .ite (.ok h.driftEnd.modTile.modTile) ?_
  exact .ite (.ok h.driftEnd.modTile) (.ite (.ok h.driftEnd.modTile.modTile) (.ok h.driftEnd.modTile.subFaultDown))

theorem execCalPendingSkip {p : Fin 192} (h : LeavesOpen P s t) :
    EndsOpen P s (execCalPendingSkip p t) := by
  unfold Machine.execCalPendingSkip
  exact .ite (.ok h.modPort.modTile) (.ok h)

theorem dacLock {p : PortId} {idx : Nat} (h : LeavesOpen P s t) :
    LeavesOpen P s (t.dacLock p idx) := by
  unfold State.dacLock
  exact h.portSafe.endContract.attachEnds.modPort.postEvt.queueFault.refRecord

theorem execDacReadback {p : Fin 192} {dac : Fin 12} {v : Nat} {changed : Bool} (h : LeavesOpen P s t) :
    EndsOpen P s (execDacReadback p dac v changed t) := by
  unfold Machine.execDacReadback
  refine .ite (.ok h) ?_
  exact .ite (.ok h.modPort) (.ite (.ok h.modPort) (.ite (.ite (.ok h) (.ok h.cmpStuck)) (.ite (.ok h) (.ok h.dacLock))))

theorem execNtcMean {t1 : Fin 8} {r : Nat} {vt : Nat} (h : LeavesOpen P s t) :
    EndsOpen P s (execNtcMean t1 r vt t) := by
  unfold Machine.execNtcMean
  exact .ite (.ok h) (.ok h.modTile)

theorem execNtcFaultFlag {t1 : Fin 8} (h : LeavesOpen P s t) :
    EndsOpen P s (execNtcFaultFlag t1 t) := by
  unfold Machine.execNtcFaultFlag
  exact .ite (.ok (h.modTile.foldl fun _ _ h => h.postEvt)) (.ok h)

theorem execNtcFaultClear {t1 : Fin 8} (h : LeavesOpen P s t) :
    EndsOpen P s (execNtcFaultClear t1 t) := by
  unfold Machine.execNtcFaultClear
  exact .ite (.ok (h.modTile.foldl fun _ _ h => h.postEvt)) (.ok h)

/-! ### The tile links -/

theorem portLost {p : PortId} (h : LeavesOpen P s t) : LeavesOpen P s (t.portLost p) := by
  unfold State.portLost
  exact either h.queueFault ((h.queueFault.portForce.endContract.attachEnds.modPort fun q g => q.unattached_path.symm ▸ g).modSb)

theorem tileSafe {t1 : TileId} (h : LeavesOpen P s t) :
    LeavesOpen P s (t.tileSafe t1) := either h ((((h.foldl fun _ _ h => h.portLost).finish).modTile).setFence)
theorem assertWire {t1 : TileId} {c : WireCause} (h : LeavesOpen P s t) :
    LeavesOpen P s (t.assertWire t1 c) := h.modTile.tileSafe.releaseFeedSvc
theorem linkLoss {t1 : TileId} (h : LeavesOpen P s t) :
    LeavesOpen P s (t.linkLoss t1) := either h h.modTile.refRecord.tileSafe.releaseFeedSvc

theorem execTileLinkPacket {t1 : Fin 8} {toHub : Bool} {header : BitVec 32} {payload : List (BitVec 32)} {crc : BitVec 32}
    (h : LeavesOpen P s t) :
    EndsOpen P s (execTileLinkPacket t1 toHub header payload crc t) := by
  unfold Machine.execTileLinkPacket
  exact .ite (.ok h) (.ite (.ite (.ok h.modTile.linkLoss) (.ok h.modTile)) (.ite (.ok h.modTile) (.ok h.modTile)))

theorem execTileLinkResendTimeout {t1 : Fin 8} {toHub : Bool} {seq : Nat} (h : LeavesOpen P s t) :
    EndsOpen P s (execTileLinkResendTimeout t1 toHub seq t) := by
  unfold Machine.execTileLinkResendTimeout
  exact .ite (.ok h) (.ite (.ok h.linkLoss) (.ite (.ok h.modTile) (.ok h)))

theorem execTileLinkIdle {t1 : Fin 8} {toHub : Bool} (h : LeavesOpen P s t) :
    EndsOpen P s (execTileLinkIdle t1 toHub t) := by
  unfold Machine.execTileLinkIdle
  exact .ite (.ok h) (.ok h.modTile)

theorem execLinkLoss {t1 : Fin 8} (h : LeavesOpen P s t) :
    EndsOpen P s (execLinkLoss t1 t) := .ok h.linkLoss

theorem execSafeWireRelease {t1 : Fin 8} {cause : WireCause} (h : LeavesOpen P s t) :
    EndsOpen P s (execSafeWireRelease t1 cause t) := by
  unfold Machine.execSafeWireRelease
  dsimp only
  split; exacts [.ok h, .ok h, .ok h, .ok h, .ite (.ok h.modTile) (.ok h), .ite (.ok h.modTile) (.ok h)]

theorem execTileLinkTrainRetry {t1 : Fin 8} (h : LeavesOpen P s t) :
    EndsOpen P s (execTileLinkTrainRetry t1 t) := .ite (.ok h.modTile) (.ok h)
theorem execTileLinkTrained {t1 : Fin 8} (h : LeavesOpen P s t) :
    EndsOpen P s (execTileLinkTrained t1 t) := .ite (.ok h.modTile) (.ok h)

theorem execTileReloadDone {t1 : Fin 8} (h : LeavesOpen P s t) :
    EndsOpen P s (execTileReloadDone t1 t) := by
  exact .ite (.ok (either h.tileCatchUp.modTile h.tileCatchUp.modTile.modTile.setFence).releaseFeedSvc) (.ok h)

theorem tileRestart {k : TileId} (h : LeavesOpen P s t) : LeavesOpen P s (t.tileRestart k) := by
  unfold State.tileRestart
  exact (((h.foldl fun _ _ h => h.modPort fun _ _ => rfl).modTile).modTile).modPwr

theorem execTileSafeExit {k : Fin 8} (h : LeavesOpen P s t) : EndsOpen P s (execTileSafeExit k t) := by
  unfold Machine.execTileSafeExit
  exact .ite (.ok ((((either h.tileRestart h).foldl fun _ _ h => h.modPort fun q g => q.unattached_path.symm ▸ g).modTile).setFence)) (.ok h)

/-! ### The referee -/

theorem deviceSafe (h : LeavesOpen P s t) :
    LeavesOpen P s (t.deviceSafe) := either h ((h.modRef.foldl fun _ _ h => h.assertWire).foldl fun _ _ h => h.modPol)
theorem refDeviceFail {c : Nat} (h : LeavesOpen P s t) :
    LeavesOpen P s (t.refDeviceFail c) := h.refRecord.deviceSafe
theorem refTileFail {c : Nat} {t1 : TileId} {w : WireCause} (h : LeavesOpen P s t) :
    LeavesOpen P s (t.refTileFail c t1 w) := h.refRecord.assertWire
theorem refPort {c : Nat} {p : PortId} (h : LeavesOpen P s t) :
    LeavesOpen P s (t.refPort c p) := h.refRecord.modRef

theorem ovReact {p : PortId} (h : LeavesOpen P s t) :
    LeavesOpen P s (t.ovReact p) := by
  unfold State.ovReact
  exact (either h.refPort.portTrip h.refPort).cmpStuck

theorem crossReact {p : PortId} (h : LeavesOpen P s t) :
    LeavesOpen P s (t.crossReact p) := h.refPort.cmpStuck

theorem digestPorts {l : List (PortId × DigPort)} (h : LeavesOpen P s t) :
    LeavesOpen P s (t.digestPorts l) := by
  unfold State.digestPorts
  exact ((h.modRef.foldl fun _ _ h => h.ovReact).foldl fun _ _ h => h.crossReact).foldl fun _ _ h => h.stuckSwitch

theorem digestLost {t1 : TileId} (h : LeavesOpen P s t) :
    LeavesOpen P s (t.digestLost t1) := either h.modTile.refTileFail h

theorem execDigestReceived {t1 : Fin 8} {tick : Fin 64} {valid : Bool} {ports : List DigPort} {also_ : List (Fin 24 × List Tripping)}
    (h : LeavesOpen P s t) :
    EndsOpen P s (execDigestReceived t1 tick valid ports also_ t) := by
  unfold Machine.execDigestReceived
  refine .ite (.ok h) ?_
  exact .ite (.ok h.modTile.modRef.digestLost) (.ok (h.modTile.modRef.foldl fun _ _ h => h.tripCycle).digestPorts)

theorem execDigestLost {t1 : Fin 8} (h : LeavesOpen P s t) :
    EndsOpen P s (execDigestLost t1 t) := .ok h.digestLost
theorem execPortReactionTimeout {p : Fin 192} (h : LeavesOpen P s t) :
    EndsOpen P s (execPortReactionTimeout p t) := .ite (.ok h.modRef.assertWire) (.ok h)

theorem execClockMonitorWindow {m : ClkMon} {dev : ℤ} {absent : Bool} (h : LeavesOpen P s t) :
    EndsOpen P s (execClockMonitorWindow m dev absent t) := by
  unfold Machine.execClockMonitorWindow
  dsimp only
  exact .ite (.ok h) (by split <;> exact .ite (.ok h.modRef.refDeviceFail) (.ok h.modRef))

theorem execAllocationMirrorCheck {vectorOk : Bool} (h : LeavesOpen P s t) :
    EndsOpen P s (execAllocationMirrorCheck vectorOk t) := by
  refine .ite (.ok h) ?_
  exact .ite (.ok (either h.modRef h.modRef.refDeviceFail)) (.ok (either h.modRef h.modRef.refDeviceFail).refDeviceFail)

theorem execMirrorLate (h : LeavesOpen P s t) :
    EndsOpen P s (execMirrorLate t) := .ite (.ok h.modRef.refDeviceFail) (.ok h)
theorem execRomHubCheck {good : Bool} (h : LeavesOpen P s t) :
    EndsOpen P s (execRomHubCheck good t) := .ite (.ok h) (.ok h.refDeviceFail)

theorem execRomTileCheck {t1 : Fin 8} {good : Bool} (h : LeavesOpen P s t) :
    EndsOpen P s (execRomTileCheck t1 good t) := by
  unfold Machine.execRomTileCheck
  exact .ite (.ok h) (.ite (.ok h.modTile) (.ok h.modTile.refTileFail))

theorem execSupplyHub {rail : HubRail} {mv : Nat} (h : LeavesOpen P s t) :
    EndsOpen P s (execSupplyHub rail mv t) := .ite (.ok h.refDeviceFail) (.ok h)
theorem execSupplyTile {t1 : Fin 8} {mv : Nat} (h : LeavesOpen P s t) :
    EndsOpen P s (execSupplyTile t1 mv t) := .ite (.ok h.modTile.refTileFail) (.ok h)
theorem execTriplicatedRegisterDisagree (h : LeavesOpen P s t) :
    EndsOpen P s (execTriplicatedRegisterDisagree t) := .ite (.ok h.refDeviceFail) (.ok h)
theorem execPllLockTimeout (h : LeavesOpen P s t) :
    EndsOpen P s (execPllLockTimeout t) := .ite (.ok h) (.ok h.modPwr.refDeviceFail)

theorem execRefereeSelftestDone {pass : Bool} (h : LeavesOpen P s t) :
    EndsOpen P s (execRefereeSelftestDone pass t) := by
  exact .ite (.ok h) (.ite (.ok (h.modRef.foldl fun _ _ h => h.modTile)) (.ok h.refDeviceFail))

end State.LeavesOpen

end Sys2Proof.Machine
end

section
/-! SUPPORT. Sessions, fuses and the huddle have no path to a pass switch. -/
set_option Elab.async false
namespace Sys2Proof.Machine

variable {P : PortId → Prop} {s t u : State}

namespace State.LeavesOpen

/-! ### Sessions -/

theorem newChallenge (h : LeavesOpen P s t) :
    LeavesOpen P s (t.newChallenge).2 := h.freeWord.freeWord.freeWord.freeWord
theorem proofFailed (h : LeavesOpen P s t) :
    LeavesOpen P s (t.proofFailed) := h.modSvc
theorem lockClear (h : LeavesOpen P s t) :
    LeavesOpen P s (t.lockClear) := h.modSvc
theorem svcReply {f : SvcFrame} {cmd : Nat} {payload : List Byte} (h : LeavesOpen P s t) :
    LeavesOpen P s (t.svcReply f cmd payload) := h.modSvc
theorem svcNak {f : SvcFrame} {cmd : Nat} {k : Nak} {more : List Byte} (h : LeavesOpen P s t) :
    LeavesOpen P s (t.svcNak f cmd k more) := h.modSvc
theorem svcUsed {f : SvcFrame} (h : LeavesOpen P s t) :
    LeavesOpen P s (t.svcUsed f) := either h.modSvc h

theorem svcRun {f : SvcFrame} {cmd : Nat} {need : Level} {x : Bool} {own : Bool} {rec : Bool} {g : State → State}
    (h : LeavesOpen P s t) (hg : ∀ u, LeavesOpen P s u → LeavesOpen P s (g u)) :
    LeavesOpen P s (t.svcRun f cmd need x own rec g) := by
  unfold State.svcRun
  dsimp only
  exact either h (by split; exacts [h.toRun.svcUsed.svcNak, hg _ h.toRun.svcUsed])

theorem postUpd {st : UpdState} {ver : Word} (h : LeavesOpen P s t) :
    LeavesOpen P s (t.postUpd st ver) := h.modUpd.postEvt
theorem eraseSlot {k : Slot} (h : LeavesOpen P s t) :
    LeavesOpen P s (t.eraseSlot k) := h.modUpd

theorem endDownload (h : LeavesOpen P s t) :
    LeavesOpen P s (t.endDownload) := by
  unfold State.endDownload
  split; exacts [h.modUpd.postUpd.eraseSlot, h]

theorem svcClose (h : LeavesOpen P s t) :
    LeavesOpen P s (t.svcClose) := by
  unfold State.svcClose
  exact (either h.modSvc.modRef h.modSvc).endDownload

theorem hostClose (h : LeavesOpen P s t) :
    LeavesOpen P s (t.hostClose) := by
  unfold State.hostClose
  exact either h.modLink h.modLink.modRef

/-! ### Fuses -/

theorem confirmDone {advanced : Bool} {floorOk : Bool} (h : LeavesOpen P s t) :
    LeavesOpen P s (t.confirmDone advanced floorOk) := by
  unfold State.confirmDone
  exact either (((either h.modUpd h).postUpd).postUpd) ((either h.modUpd h).postUpd)

theorem audit {w0 : Nat} {n : Nat} {boot : Bool} (h : LeavesOpen P s t) :
    LeavesOpen P s (t.audit w0 n boot) := by
  unfold State.audit
  exact either ((h.modFuse.foldl fun _ _ h => h.postEvt).refDeviceFail) (h.modFuse.foldl fun _ _ h => h.postEvt)

theorem fuseEnd {j : FuseJob} {r : FuseResult} (h : LeavesOpen P s t) :
    LeavesOpen P s (t.fuseEnd j r) := by
  unfold State.fuseEnd
  dsimp only
  refine either ?_ ?_
  · refine confirmDone ?_
    split
    · exact either h.modFuse.svcReply h.modFuse
    · exact h.modFuse
  · split
    · exact either h.modFuse.svcReply h.modFuse
    · exact h.modFuse

theorem fuseBegin {j : FuseJob} {vpp : Nat} (h : LeavesOpen P s t) :
    LeavesOpen P s (t.fuseBegin j vpp) := by
  unfold State.fuseBegin
  dsimp only
  split; exacts [h.fuseEnd, either h.modFuse.audit (either h.modFuse h.fuseEnd)]

theorem fuseWrite {a : Path6} {x : Bool} {tech : Bool} {cmd : Word} {g : State → Option (BitVec 8) → Word → State}
    (h : LeavesOpen P s t) (hg : ∀ u x1 x2, LeavesOpen P s u → LeavesOpen P s (g u x1 x2)) :
    LeavesOpen P s (t.fuseWrite a x tech cmd g) := either h (either h.modFuse.modFuse (hg _ _ _ h.modFuse))

theorem fuseCmd {src : FuseSrc} {x : Bool} {tech : Bool} {cmd : Word} {g : State → Option (BitVec 8) → Word → State}
    (h : LeavesOpen P s t) (hg : ∀ u x1 x2, LeavesOpen P s u → LeavesOpen P s (g u x1 x2)) :
    LeavesOpen P s (t.fuseCmd src x tech cmd g) := by
  unfold State.fuseCmd
  dsimp only
  refine either h ?_
  split
  · exact either (h.toRun.fuseWrite hg) h
  · exact h.svcRun (fun _ h => either h.svcNak (either h.svcNak (hg _ _ _ h.modFuse)))

theorem fuseTake {op : FuseOp} {region : Fin 16} {addr : BitVec 8} {vpp : Nat} {svc : Option (BitVec 8)} {data : Word}
    (h : LeavesOpen P s t) :
    LeavesOpen P s (t.fuseTake op region addr vpp svc data) := by
  unfold State.fuseTake
  exact either h.modFuse h.fuseBegin

theorem fuseOp {src : FuseSrc} {op : FuseOp} {region : Fin 16} {addr : BitVec 8} {vpp : Nat} (h : LeavesOpen P s t) :
    LeavesOpen P s (t.fuseOp src op region addr vpp) := h.fuseCmd (fun _ _ _ h => h.fuseTake)
theorem execProgramWord {src : FuseSrc} {addr : BitVec 8} {vpp : Nat} (h : LeavesOpen P s t) :
    EndsOpen P s (execProgramWord src addr vpp t) := .ok h.fuseOp
theorem execIntegrity {src : FuseSrc} {region : Fin 16} {vpp : Nat} (h : LeavesOpen P s t) :
    EndsOpen P s (execIntegrity src region vpp t) := .ok h.fuseOp
theorem execLock {src : FuseSrc} {region : Fin 16} {vpp : Nat} (h : LeavesOpen P s t) :
    EndsOpen P s (execLock src region vpp t) := .ok h.fuseOp
theorem execForceLock {src : FuseSrc} {region : Fin 16} {vpp : Nat} (h : LeavesOpen P s t) :
    EndsOpen P s (execForceLock src region vpp t) := .ok h.fuseOp
theorem execReadLock {src : FuseSrc} {region : Fin 16} {vpp : Nat} (h : LeavesOpen P s t) :
    EndsOpen P s (execReadLock src region vpp t) := .ok h.fuseOp
theorem execReinforce {src : FuseSrc} {region : Fin 16} {vpp : Nat} (h : LeavesOpen P s t) :
    EndsOpen P s (execReinforce src region vpp t) := .ok h.fuseOp
theorem execAudit {src : FuseSrc} {region : Fin 16} {reads : List FuseRead} (h : LeavesOpen P s t) :
    EndsOpen P s (execAudit src region reads t) := .ok h.modFuse.fuseOp
theorem execFloorAdvance {src : FuseSrc} {vpp : Nat} (h : LeavesOpen P s t) :
    EndsOpen P s (execFloorAdvance src vpp t) := .ok h.fuseOp

theorem execFuseReservedOp {src : FuseSrc} {op : Fin 8} {region : Fin 16} (h : LeavesOpen P s t) :
    EndsOpen P s (execFuseReservedOp src op region t) := by
  unfold Machine.execFuseReservedOp
  dsimp only
  exact .ok (h.fuseCmd (fun _ _ _ h => by split; exacts [h.modFuse.svcReply, h.modFuse]))

theorem auditIfDue (h : LeavesOpen P s t) :
    LeavesOpen P s (t.auditIfDue) := either h.modFuse.audit h

theorem auditEnd (h : LeavesOpen P s t) :
    LeavesOpen P s (t.auditEnd) := by
  unfold State.auditEnd
  dsimp only
  exact either (by split; exacts [either h.modFuse.fuseEnd h.modFuse, h.modFuse]) h

theorem execFuseAuditPeriodic {reads : List FuseRead} (h : LeavesOpen P s t) :
    EndsOpen P s (execFuseAuditPeriodic reads t) := .ite (.ok h) (.ite (.ok h.modFuse.modFuse) (.ok h.modFuse.audit))

theorem execFuseHeldOpStart {vpp : Nat} (h : LeavesOpen P s t) :
    EndsOpen P s (execFuseHeldOpStart vpp t) := by
  unfold Machine.execFuseHeldOpStart
  dsimp only
  exact .ite (.ok h.auditEnd) (by split; exacts [.ok h.auditEnd.modFuse.fuseBegin.auditIfDue, .ok h.auditEnd.auditIfDue])

theorem execFuseOperationDone {fail : Option FuseFail} (h : LeavesOpen P s t) :
    EndsOpen P s (execFuseOperationDone fail t) := by
  unfold Machine.execFuseOperationDone
  dsimp only
  split; exacts [.ok h, .ite (.ok h.auditEnd.auditIfDue) (.ok (((either h.modFuse.audit.modFuse h.modFuse).fuseEnd).auditIfDue))]

theorem execFuseSupplyLost {vpp : Nat} {vaux : Nat} {copies : Nat} (h : LeavesOpen P s t) :
    EndsOpen P s (execFuseSupplyLost vpp vaux copies t) := by
  unfold Machine.execFuseSupplyLost
  split; exacts [.ok h, .ite (.ok h) (.ok h.modFuse.fuseEnd.auditIfDue)]

theorem execFuRaddrWrite {addr : BitVec 8} (h : LeavesOpen P s t) :
    EndsOpen P s (execFuRaddrWrite addr t) := .ite (.ok h) (.ok h.toRun.modFuse)

theorem fuseBoot {reads : List FuseRead} (h : LeavesOpen P s t) :
    LeavesOpen P s (t.fuseBoot reads) := by
  unfold State.fuseBoot
  exact either h.modFuse.modRef.audit h.modFuse.modRef.audit.refDeviceFail

/-! ### The huddle -/

theorem setFeedWin {f : FeedId} {v : Word} (h : LeavesOpen P s t) :
    LeavesOpen P s (t.setFeedWin f v) := by
  unfold State.setFeedWin
  dsimp only
  split <;> exact h.of_ports

theorem setFeedRate {f : FeedId} {v : Word} (h : LeavesOpen P s t) :
    LeavesOpen P s (t.setFeedRate f v) := by
  unfold State.setFeedRate
  dsimp only
  split <;> exact h.of_ports

theorem rwsPut {e : Staged} (h : LeavesOpen P s t) :
    LeavesOpen P s (t.rwsPut e) := by
  unfold State.rwsPut
  dsimp only
  split
  · exact h.modPath
  · exact h.modSb
  · exact h
  · refine either h.modCfg ?_
    refine either (h.modCfg.foldl fun _ _ h => h.modTile) ?_
    refine either h.modCfg ?_
    refine either h.setFeedWin ?_
    refine either h.setFeedWin ?_
    refine either h.setFeedRate ?_
    refine either h.setFeedRate ?_
    refine either h.modCfg ?_
    refine either h.modCfg ?_
    exact either h.modCfg (either h.modCfg (either h.modCfg (either h.modCfg (either h.of_ports (either h.modCfg h)))))

theorem curvePut {e : Nat × List (Nat × Nat)} (h : LeavesOpen P s t) :
    LeavesOpen P s (t.curvePut e) := either h.modCfg (either h.modCfg (either h.of_ports (either h.of_ports h)))
theorem withStaged (h : LeavesOpen P s t) :
    LeavesOpen P s (t.withStaged) := (h.foldl fun _ _ h => h.rwsPut).foldl fun _ _ h => h.curvePut
theorem hudTouch (h : LeavesOpen P s t) :
    LeavesOpen P s (t.hudTouch) := h.modHud
theorem stageMask {off : Nat} {mask : Word} {v : Word} (h : LeavesOpen P s t) :
    LeavesOpen P s (t.stageMask off mask v) := either h (either h.modHud h.modHud.hudTouch)

theorem stageWrite {off : Nat} {v : Word} {x : Bool} (h : LeavesOpen P s t) :
    LeavesOpen P s (t.stageWrite off v x) := by
  unfold State.stageWrite
  exact h.stageMask

theorem stageCurve {target : Nat} {c : List (Nat × Nat)} (h : LeavesOpen P s t) :
    LeavesOpen P s (t.stageCurve target c) := h.modHud.hudTouch

theorem checkSteps {l : List Nat} (h : LeavesOpen P s t) : LeavesOpen P s (t.checkSteps l).1 := by
  induction l generalizing t with
  | nil => exact h
  | cons n l ih =>
    unfold State.checkSteps
    dsimp only
    split
    · exact ih h.modCfg.modHud
    · exact h.modCfg.modHud.pair

theorem checkMsgs {l : List TileId} (h : LeavesOpen P s t) : LeavesOpen P s (t.checkMsgs l).1 := by
  induction l generalizing t with
  | nil => exact h
  | cons n l ih =>
    unfold State.checkMsgs
    split
    · exact ih h
    · dsimp only
      split
      · exact ih h.modTile.modHud
      · exact h.modTile.modHud.pair

theorem checkAll (h : LeavesOpen P s t) : LeavesOpen P s t.checkAll.1 := by
  unfold State.checkAll
  split
  next e =>
  have k := of_fst h.checkSteps e
  split
  · exact k
  · split
    next e2 =>
    have k2 := of_fst k.checkMsgs e2
    split <;> exact k2

theorem hudCheck (h : LeavesOpen P s t) : LeavesOpen P s t.hudCheck.1 := by
  unfold State.hudCheck
  split
  next e => exact (of_fst h.checkAll e).modHud.pair
  next e => exact (of_fst h.checkAll e).modHud.postEvt.pair

theorem kickArming (h : LeavesOpen P s t) :
    LeavesOpen P s (t.kickArming) := either h h.modHud

theorem hudArm {src : KickSource} {due : Nat} {tag : Option (BitVec 16)} {svc : Option (BitVec 8 × BitVec 8)}
    (h : LeavesOpen P s t) :
    LeavesOpen P s (t.hudArm src due tag svc) := by
  unfold State.hudArm
  exact ((either h.kickArming h).foldl fun _ _ h => h.modTile).modHud

theorem hudReply {q : Option (BitVec 8 × BitVec 8)} {nak : Bool} (h : LeavesOpen P s t) :
    LeavesOpen P s (t.hudReply q nak) := by
  unfold State.hudReply
  dsimp only
  split; exacts [h, either h.svcNak h.svcReply]

theorem hudDiscard (h : LeavesOpen P s t) :
    LeavesOpen P s (t.hudDiscard) := either h h.modHud.finish.hudReply

theorem unreserve {p : PortId} (h : LeavesOpen P s t) :
    LeavesOpen P s (t.unreserve p) := by
  unfold State.unreserve
  dsimp only
  exact modSc (by split; exacts [h.modCore, h])

theorem setPin {places : List (PortId × CoreId)} {p : PortId} (h : LeavesOpen P s t) :
    LeavesOpen P s (t.setPin places p) := by
  unfold State.setPin
  dsimp only
  split; exacts [h.modSc, (either h.modSc.unreserve h.modSc).foldl fun _ _ h => either h.modCore h]

theorem placePins (h : LeavesOpen P s t) :
    LeavesOpen P s (t.placePins) := by
  unfold State.placePins
  exact h.foldl fun _ _ h => either h h.setPin

theorem kickApply {missed : BitVec 8} {kick : Bool} (h : LeavesOpen P s t) : LeavesOpen P s (t.kickApply missed kick) := by
  unfold State.kickApply
  extract_lets hud late s0 s1 s2 s3 s4
  have h2 : LeavesOpen P s s2 :=
    ((h.foldl fun _ _ h => either h.holdTile h).withStaged.foldl fun _ _ h => either h h.tileTakeUp).placePins
  have h4 : LeavesOpen P s s4 := (either h2.snapLatch h2).foldl fun _ _ h => h.modTile
  exact h4.modHud.modLink.finish.hudReply.postEvt

theorem execTilesReady (h : LeavesOpen P s t) :
    EndsOpen P s (execTilesReady t) := .ite (.ok ((h.foldl fun _ _ h => h.modTile).modHud)) (.ok h)
theorem execKickoffCommit (h : LeavesOpen P s t) :
    EndsOpen P s (execKickoffCommit t) := .ite (.ok h.toRun.modHud) (.ok h)
theorem execKickoffApply {missed : BitVec 8} (h : LeavesOpen P s t) :
    EndsOpen P s (execKickoffApply missed t) := .ite (.ok h.toRun.kickApply) (.ok h)
theorem execApplyPacket {t1 : Fin 8} (h : LeavesOpen P s t) :
    EndsOpen P s (execApplyPacket t1 t) := .ite (.ok h.tileCatchUp.modTile.modHud) (.ok h)
theorem execKickLineLow (h : LeavesOpen P s t) :
    EndsOpen P s (execKickLineLow t) := .ok h.modHud
theorem writeKickCfg {v : Word} (h : LeavesOpen P s t) :
    LeavesOpen P s (t.writeKickCfg v) := either h h.modHud

theorem execKickJoinWrite {v : BitVec 32} (h : LeavesOpen P s t) :
    EndsOpen P s (execKickJoinWrite v t) := .ite (.ok h) (.ok h.toRun.writeKickCfg)

end State.LeavesOpen

end Sys2Proof.Machine
end

section
/-! SUPPORT. Descriptors and the host registers have no path to a pass switch. -/
set_option Elab.async false
namespace Sys2Proof.Machine

variable {P : PortId → Prop} {s t u : State}

namespace State.LeavesOpen

/-! ### Registers -/

theorem setLatch {a : Path6} {low : Nat} {v : Word} (h : LeavesOpen P s t) :
    LeavesOpen P s (t.setLatch a low v) := h.of_ports

theorem rcClear {off : Nat} (h : LeavesOpen P s t) :
    LeavesOpen P s (t.rcClear off) := by
  unfold State.rcClear
  split
  · exact h.modPd
  · exact h.modPd
  · exact h.modPd
  · exact h
  · exact either h.modLink (either h.modRef (either h.modSvc (either h.modTile (either h.modCores (either h.modCores h)))))

theorem regRead {a : Path6} {off : Nat} (h : LeavesOpen P s t) :
    LeavesOpen P s (t.regRead a off).2 := by
  unfold State.regRead
  split; exacts [h, by split; exacts [h.setLatch, h, by split; exacts [h, h.rcClear]]]

/-! ### Port control -/

theorem dropSlot {p : PortId} (h : LeavesOpen P s t) :
    LeavesOpen P s (t.dropSlot p) := h.modSc

theorem rebuildCtx {p : PortId} (h : LeavesOpen P s t) :
    LeavesOpen P s (t.rebuildCtx p) := by
  unfold State.rebuildCtx
  exact h.dropSlot.modCores.unpoison

theorem abortPending {p : PortId} {l : List Desc} (h : LeavesOpen P s t) :
    LeavesOpen P s (t.abortPending p l) := by
  unfold State.abortPending
  exact h.finish.foldl fun _ _ h => h.dropFetched.cplDesc

theorem portDisable {p : PortId} (h : LeavesOpen P s t) : LeavesOpen P s (t.portDisable p) := by
  unfold State.portDisable
  extract_lets q s00 s0 s1
  have h0 : LeavesOpen P s s0 := either h.abortDescs.modTile.finishPort h.abortDescs
  exact either h0.modPort (either h0 h0.modPort.errorRecovery)

theorem portEnable {p : PortId} (h : LeavesOpen P s t) :
    LeavesOpen P s (t.portEnable p).1 := by
  unfold State.portEnable
  dsimp only
  split
  · exact h
  · split
    · exact h
    · split
      · exact h
      · exact either (either h.modPort.rebuildCtx.modSc h.modPort).modPort (either h.modPort.rebuildCtx.modSc h.modPort)

theorem quarantine {p : PortId} {e : EvtBody} (h : LeavesOpen P s t) :
    LeavesOpen P s (t.quarantine p e) := by
  unfold State.quarantine
  exact h.modSc.postEvt.abortPending.portDisable.modSc

theorem profileChanged {p : PortId} (h : LeavesOpen P s t) :
    LeavesOpen P s (t.profileChanged p) := by
  unfold State.profileChanged
  dsimp only
  refine either ?_ (either h.modPol.sendOffer h.modPol.eprLeave.offerChange)
  split
  · exact h.modPol.modPol
  · exact h.modPol.modPol
  · exact h.modPol.modPol
  · refine either h.modPol.hardReset ?_
    split
    · exact h.modPol.modPol
    · exact h.modPol.modPol
    · exact h.modPol

theorem setProfile {p : PortId} {n : Nat} (h : LeavesOpen P s t) :
    LeavesOpen P s (t.setProfile p n) := h.modPol.demandRose.profileChanged

/-! ### The host link -/

theorem cplChain {c : Chain} {code : CplCode} {data : List Byte} (h : LeavesOpen P s t) :
    LeavesOpen P s (t.cplChain c code data) := h.complete

theorem chainDrop {n : Nat} {code : CplCode} {data : List Byte} (h : LeavesOpen P s t) :
    LeavesOpen P s (t.chainDrop n code data) := by
  unfold State.chainDrop
  split; exacts [h.modRing.cplChain, h]

theorem chainTake {n : Nat} {d : Desc} (h : LeavesOpen P s t) :
    LeavesOpen P s (t.chainTake n d) := by
  unfold State.chainTake
  dsimp only
  split; exacts [either h.modRing.chainDrop.modRing h.modRing.chainDrop, either h.modRing.modLink h.modRing]

theorem takeDesc {n : Nat} {d : Desc} (h : LeavesOpen P s t) : LeavesOpen P s (t.takeDesc n d) := by
  unfold State.takeDesc
  extract_lets bad good s0 s1 s2
  have h2 : LeavesOpen P s s2 := by
    unfold s2
    split
    · exact either h.modRing h.modRing.chainDrop
    · exact h.modRing
  refine either (either h.modRing h).cplDesc (either h2.chainTake (either ?_ h2.modLink))
  unfold bad
  split
  · exact h2.cplDesc
  · exact h2

theorem fetchRing {n k : Nat} {slots : List Desc} (h : LeavesOpen P s t) : LeavesOpen P s (t.fetchRing n slots k) := by
  induction k generalizing t with
  | zero => exact h
  | succ k ih =>
    unfold State.fetchRing
    refine either h ?_
    split
    · exact h
    · exact either h.modRing (ih h.modRing.takeDesc)

theorem drainRing {n k : Nat} {slots : List Desc} (h : LeavesOpen P s t) : LeavesOpen P s (t.drainRing n slots k) := by
  induction k generalizing t with
  | zero => exact h.drained
  | succ k ih =>
    unfold State.drainRing
    refine either h.drained ?_
    split
    · exact h
    · exact ih (either h.modRing.modRing.drained h.modRing.modRing.complete)

theorem fetchAll {slots : List Desc} (h : LeavesOpen P s t) :
    LeavesOpen P s (t.fetchAll slots) := h.foldl fun _ _ h => h.fetchRing.drainRing
theorem ringDrain {n : Nat} (h : LeavesOpen P s t) :
    LeavesOpen P s (t.ringDrain n) := either h.drainBacklog (either h.tlmDrain (either (h.foldl fun _ _ h => h.capDrain) h))

theorem doorbell {n : Nat} {v : Word} {full : Bool} {slots : List Desc} (h : LeavesOpen P s t) :
    LeavesOpen P s (t.doorbell n v full slots) := by
  unfold State.doorbell
  exact either h.modLink (either h.modRing.fetchAll h.modRing.ringDrain.fetchAll)

theorem msixWrite {off : Nat} {v : Word} (h : LeavesOpen P s t) :
    LeavesOpen P s (t.msixWrite off v) := by
  unfold State.msixWrite
  exact either h.modLink.modLink.raise h.modLink

theorem execDoorbell {off : Fin 4096} {v : BitVec 32} {full : Bool} {slots : List Desc} (h : LeavesOpen P s t) :
    EndsOpen P s (execDoorbell off v full slots t) := .ite (.ok h) (.ite (.ok h.toRun.doorbell) (.ite (.ok h.msixWrite) (.ok h)))

theorem execPhaseReread {n : Fin 14} {slots : List Desc} (h : LeavesOpen P s t) :
    EndsOpen P s (execPhaseReread n slots t) := by
  unfold Machine.execPhaseReread
  exact .ite (.ok h) (by split; exacts [.ok h.modRing.fetchRing.modRing, .ok h.fetchRing, .ok h.drainRing, .ok h])

theorem execHostlinkStall {n : Fin 14} (h : LeavesOpen P s t) :
    EndsOpen P s (execHostlinkStall n t) := .ite (.ok h.modRing.postEvt) (.ok h)
theorem execChainTimeout {n : Fin 14} (h : LeavesOpen P s t) :
    EndsOpen P s (execChainTimeout n t) := .ite (.ok h.chainDrop) (.ok h)

theorem execMsixTimeTrigger {n : Fin 14} (h : LeavesOpen P s t) :
    EndsOpen P s (execMsixTimeTrigger n t) := by
  unfold Machine.execMsixTimeTrigger
  exact .ite (.ok h.modRing.raise) (.ok h)

theorem cancelOne {n : Nat} {e : Unstarted} (h : LeavesOpen P s t) :
    LeavesOpen P s (t.cancelOne n e) := by
  unfold State.cancelOne
  split; exacts [h.dropFetched.cplDesc, h.modLink.cplChain, h.modRing.cplChain]

theorem disableHost {n : Nat} {slots : List Desc} (h : LeavesOpen P s t) :
    LeavesOpen P s (t.disableHost n slots) := by
  unfold State.disableHost
  exact (h.modRing.foldl fun _ _ h => h.cancelOne).drainRing

theorem writeRingCfg {n : Nat} {v : Word} {slots : List Desc} (h : LeavesOpen P s t) :
    LeavesOpen P s (t.writeRingCfg n v slots) := by
  unfold State.writeRingCfg
  refine either ?_ (either h.modRing (either h h.modRing.ringDrain))
  exact either h.modRing (either h (either h.modRing.disableHost h.modRing.modRing))

theorem execRingEnable {n : Fin 14} {v : BitVec 32} (h : LeavesOpen P s t) :
    EndsOpen P s (execRingEnable n v t) := .ite (.ok h.toRun.writeRingCfg) (.ok h)
theorem execRingDisable {n : Fin 14} {v : BitVec 32} {slots : List Desc} (h : LeavesOpen P s t) :
    EndsOpen P s (execRingDisable n v slots t) := .ite (.ok h.toRun.writeRingCfg) (.ok h)
theorem sessionUse {d : Desc} (h : LeavesOpen P s t) :
    LeavesOpen P s (t.sessionUse d) := either h.modLink h

theorem startDesc {d : Desc} {op : Nat} {sel : Bool} {f : State → State}
    (h : LeavesOpen P s t) (hf : ∀ u, LeavesOpen P s u → LeavesOpen P s (f u)) :
    LeavesOpen P s (t.startDesc d op sel f) := by
  unfold State.startDesc
  dsimp only
  refine either ?_ h
  split
  · exact h.dropFetched.sessionUse.cplDesc
  · exact either h.dropFetched.sessionUse.cplDesc (either (hf _ h.dropFetched.sessionUse) h)

theorem startPort {d : Desc} {op : Nat} {f : PortId → State → State}
    (h : LeavesOpen P s t) (hf : ∀ x0 u, LeavesOpen P s u → LeavesOpen P s (f x0 u)) :
    LeavesOpen P s (t.startPort d op f) := by
  unfold State.startPort
  exact h.startDesc (fun _ h => by split; exacts [hf _ _ h, h])

theorem eachPort {l : List PortId} {f : State → PortId → State × CplCode} (h : LeavesOpen P s t)
    (hf : ∀ u p, LeavesOpen P s u → LeavesOpen P s (f u p).1) : LeavesOpen P s (t.eachPort l f).1 := by
  unfold State.eachPort
  refine foldlFst h fun a p h => ?_
  split
  · exact h
  · dsimp only
    split; exacts [(hf _ _ h).pair, (hf _ _ h).pair]

theorem startPorts {d : Desc} {op : Nat} {every : Bool} {f : State → PortId → State × CplCode} (h : LeavesOpen P s t)
    (hf : ∀ u p, LeavesOpen P s u → LeavesOpen P s (f u p).1) : LeavesOpen P s (t.startPorts d op every f) :=
  h.startDesc fun u h => by
    split
    next e => exact (of_fst (h.eachPort hf) e).cplDesc

theorem waitPorts {d : Desc} {op : Nat} {k : WaitFor} {l : List PortId} {bad : List (PortId × CplCode)} (h : LeavesOpen P s t) :
    LeavesOpen P s (t.waitPorts d op k l bad) := by
  unfold State.waitPorts
  dsimp only
  split
  · exact h.cplDesc
  · exact h.modLink

theorem cplNo {d : Desc} {op : Nat} {r : NpReason} (h : LeavesOpen P s t) :
    LeavesOpen P s (t.cplNo d op r) := h.cplDesc

theorem hostEvent {p : PortId} {d : Desc} (h : LeavesOpen P s t) :
    LeavesOpen P s (t.hostEvent p d) := h.queueEv

/-! ### Descriptors -/

theorem execUnknownOpcode {d : Desc} (h : LeavesOpen P s t) :
    EndsOpen P s (execUnknownOpcode d t) := .ite (.ok h.dropFetched.cplDesc) (.ok h)
theorem execDescriptorStartTimeout {d : Desc} (h : LeavesOpen P s t) :
    EndsOpen P s (execDescriptorStartTimeout d t) := .ite (.ok h.dropFetched.cplDesc) (.ok h)
theorem execPdSendReplyTimeout {p : Fin 192} (h : LeavesOpen P s t) :
    EndsOpen P s (execPdSendReplyTimeout p t) := .ite (.ok h.modPol.finishPort.goNext) (.ok h)
theorem execNop {d : Desc} (h : LeavesOpen P s t) :
    EndsOpen P s (execNop d t) := .ok (h.startDesc (fun _ h => h.cplOk))
theorem execPortEnable {d : Desc} (h : LeavesOpen P s t) :
    EndsOpen P s (execPortEnable d t) := .ok (h.startPorts (fun _ _ h => h.portEnable))

theorem execPortDisable {d : Desc} (h : LeavesOpen P s t) : EndsOpen P s (execPortDisable d t) := by
  refine .ok (h.startDesc fun _ h => ?_)
  dsimp only
  exact (h.eachPort fun _ _ h => h.abortPending.portDisable.pair).waitPorts

theorem execPortProfile {d : Desc} (h : LeavesOpen P s t) : EndsOpen P s (execPortProfile d t) :=
  .ite (.ok (h.startPorts fun _ _ h => h.setProfile.hostEvent.pair)) (.ok h)

theorem execPortPdoSet {d : Desc} (h : LeavesOpen P s t) :
    EndsOpen P s (execPortPdoSet d t) := by
  unfold Machine.execPortPdoSet
  exact .ite (.ok (h.startPorts (fun _ _ h => (either h.modPol.demandRose.profileChanged h.modPol).hostEvent))) (.ok h)

theorem execPortErrorRecovery {d : Desc} (h : LeavesOpen P s t) :
    EndsOpen P s (execPortErrorRecovery d t) := .ite (.ok (h.startPort (fun _ _ h => h.errorRecovery.wait.hostEvent))) (.ok h)

theorem execPortHardReset {d : Desc} (h : LeavesOpen P s t) :
    EndsOpen P s (execPortHardReset d t) := by
  unfold Machine.execPortHardReset
  refine .ite ?_ (.ok h)
  refine .ok (h.startPort fun _ _ h => ?_)
  split
  · exact h.cplNo
  · exact h.cplNo
  · exact h.cplNo
  · exact h.wait.hostEvent
  · exact h.wait.hardReset.hostEvent

theorem whenMay {d : Desc} {may : PortId → Bool} {o : State} (h : LeavesOpen P s t) (ho : LeavesOpen P s o) :
    EndsOpen P s (t.whenMay d may o) := by
  unfold State.whenMay
  split; exacts [.ite (.ok ho) (.ok h), .ok ho]

theorem execPdSend {d : Desc} (h : LeavesOpen P s t) :
    EndsOpen P s (execPdSend d t) := h.whenMay (h.startPort (fun _ _ h => h.wait.send.hostEvent))

theorem execVdmSend {d : Desc} (h : LeavesOpen P s t) :
    EndsOpen P s (execVdmSend d t) := by
  unfold Machine.execVdmSend
  exact h.whenMay (h.startPort (fun _ _ h => either h.cplNo h.wait.sendVdm.hostEvent))

theorem execVconnSwapRequest {d : Desc} (h : LeavesOpen P s t) :
    EndsOpen P s (execVconnSwapRequest d t) := by
  unfold Machine.execVconnSwapRequest
  exact h.whenMay (h.startPort (fun _ _ h => either h.cplNo (either h.cplDesc h.wait.swapSend.hostEvent)))

theorem execCableDiscover {d : Desc} (h : LeavesOpen P s t) :
    EndsOpen P s (execCableDiscover d t) := by
  exact h.whenMay (h.startPort (fun _ _ h => either h.cplNo (either h.cplDesc h.modPol.wait.startCable.hostEvent)))

theorem execBudgetStage {d : Desc} (h : LeavesOpen P s t) :
    EndsOpen P s (execBudgetStage d t) := by
  exact .ok (h.startDesc (fun _ h => either h.cplDesc (either (either h.stageMask h).stageMask (either h.stageMask h)).wait))

theorem execClassStage {d : Desc} (h : LeavesOpen P s t) :
    EndsOpen P s (execClassStage d t) := by
  unfold Machine.execClassStage
  dsimp only
  exact .ok (h.startDesc (fun _ h => either h.cplDesc (by split <;> exact (h.eachPort (fun _ _ h => h.stageMask)).modLink)))

theorem cplHuddle {d : Desc} {op : Nat} {e : Nat × Word} (h : LeavesOpen P s t) :
    LeavesOpen P s (t.cplHuddle d op e) := h.cplDesc

theorem execHuddleCheck {d : Desc} (h : LeavesOpen P s t) : EndsOpen P s (execHuddleCheck d t) :=
  .ok (h.startDesc fun _ h => by
    split
    next e => exact (of_fst h.hudCheck e).cplOk
    next e => exact (of_fst h.hudCheck e).cplHuddle)

theorem execKickoffArm {d : Desc} (h : LeavesOpen P s t) :
    EndsOpen P s (execKickoffArm d t) := by
  unfold Machine.execKickoffArm
  dsimp only
  refine .ok (h.startDesc fun _ h => ?_)
  refine either h.cplDesc ?_
  refine either h.cplDesc ?_
  refine either h.cplNo ?_
  split
  · refine cplHuddle ?_
    split
    · exact h.hudCheck
    · exact h
  · refine wait ?_
    refine hudArm ?_
    split
    · exact h.hudCheck
    · exact h

theorem execHuddleDiscard {d : Desc} (h : LeavesOpen P s t) :
    EndsOpen P s (execHuddleDiscard d t) := .ok (h.startDesc (fun _ h => h.hudDiscard.cplOk))
theorem execSnapshot {d : Desc} (h : LeavesOpen P s t) : EndsOpen P s (execSnapshot d t) :=
  .ok (h.startDesc fun _ h => either h.cplDesc (State.LeavesOpen.wait (either h.snapLatch h.of_ports)))

theorem execCaptureArm {d : Desc} (h : LeavesOpen P s t) :
    EndsOpen P s (execCaptureArm d t) := by
  unfold Machine.execCaptureArm
  dsimp only
  refine .ok (h.startDesc fun _ h => ?_)
  split
  · exact (h.foldl fun _ _ h => either h.modTile h).finish.cplOk
  · exact either h.cplDesc (either h.cplDesc h.modTile.wait)

theorem execTlmConfig {d : Desc} (h : LeavesOpen P s t) : EndsOpen P s (execTlmConfig d t) := by
  refine .ok (h.startDesc fun _ h => ?_)
  dsimp only
  exact (h.eachPort fun _ _ h => h.modPort.pair).waitPorts

theorem tableLoad {n : Nat} {op : Nat} {f : State → Chain → State}
    (h : LeavesOpen P s t) (hf : ∀ u x1, LeavesOpen P s u → LeavesOpen P s (f u x1)) :
    LeavesOpen P s (t.tableLoad n op f) := by
  unfold State.tableLoad
  dsimp only
  split; exacts [h, either h.modLink.cplChain ((hf _ _ h.modLink).cplChain)]

theorem execStepTableLoad {n : Fin 14} (h : LeavesOpen P s t) :
    EndsOpen P s (execStepTableLoad n t) := .ok (h.tableLoad (fun _ _ h => h.modCfg.modHud.hudTouch))
theorem execMsgTableLoad {n : Fin 14} (h : LeavesOpen P s t) :
    EndsOpen P s (execMsgTableLoad n t) := .ok (h.tableLoad (fun _ _ h => ((h.foldl fun _ _ h => h.modTile).modHud).hudTouch))
theorem execBreakerCurveStage {d : Desc} (h : LeavesOpen P s t) :
    EndsOpen P s (execBreakerCurveStage d t) := .ok (h.startDesc (fun _ h => either h.cplDesc h.stageCurve.cplOk))

theorem setParam {n : Nat} {v : Word} (h : LeavesOpen P s t) :
    LeavesOpen P s (t.setParam n v) := by
  unfold State.setParam
  exact h.modCfg

theorem execParamSet {d : Desc} (h : LeavesOpen P s t) :
    EndsOpen P s (execParamSet d t) := by
  refine .ok (h.startDesc fun _ h => ?_)
  exact ((h.setParam.foldl fun _ _ h => h.demandRose).foldl fun _ _ h => h.queueHk).drainBacklog.cplOk

theorem execParamGet {d : Desc} (h : LeavesOpen P s t) :
    EndsOpen P s (execParamGet d t) := .ok (h.startDesc (fun _ h => h.cplDesc))
theorem exportTo {p : PortId} {addr : Nat} (h : LeavesOpen P s t) :
    LeavesOpen P s (t.exportTo p addr) := h.modLink
theorem exportDue {p : PortId} (h : LeavesOpen P s t) :
    LeavesOpen P s (t.exportDue p) := either h ((h.foldl fun _ _ h => h.exportTo).finishPort)
theorem execCtxExport {d : Desc} (h : LeavesOpen P s t) :
    EndsOpen P s (execCtxExport d t) := .ok (h.startPort (fun _ _ h => h.modLink.exportDue))
theorem execHostPagesBind {d : Desc} (h : LeavesOpen P s t) :
    EndsOpen P s (execHostPagesBind d t) := .ok (h.startDesc (fun _ h => h.modLink.cplOk))

theorem pagesDue (h : LeavesOpen P s t) :
    LeavesOpen P s (t.pagesDue) := by
  unfold State.pagesDue
  exact h.modLink.finish

theorem execHostPagesWithdraw {d : Desc} (h : LeavesOpen P s t) :
    EndsOpen P s (execHostPagesWithdraw d t) := .ok (h.startDesc (fun _ h => h.modLink.pagesDue))
theorem takeKeys (h : LeavesOpen P s t) :
    LeavesOpen P s (t.takeKeys) := h.modSvc

theorem execSessionOpen {d : Desc} (h : LeavesOpen P s t) :
    EndsOpen P s (execSessionOpen d t) := by
  unfold Machine.execSessionOpen
  dsimp only
  refine .ok (h.startDesc fun _ h => ?_)
  refine either h.cplDesc ?_
  split
  · exact either h.cplDesc h.takeKeys.newChallenge.modLink.cplDesc
  · exact h.cplNo

theorem execSessionProve {d : Desc} (h : LeavesOpen P s t) :
    EndsOpen P s (execSessionProve d t) := by
  refine .ok (h.startDesc fun _ h => ?_)
  refine either h.cplDesc ?_
  exact either h.hostClose.proofFailed.cplNo (either h.hostClose.lockClear.cplNo h.lockClear.modLink.cplOk)

theorem execSessionClose {d : Desc} (h : LeavesOpen P s t) :
    EndsOpen P s (execSessionClose d t) := .ok (h.startDesc (fun _ h => either h.cplNo (either h.cplDesc h.hostClose.cplOk)))
theorem hostUnlock {d : Desc} {on : Bool} (h : LeavesOpen P s t) :
    LeavesOpen P s (t.hostUnlock d on) := either h.cplNo h.modLink.cplOk
theorem execExpertUnlock {d : Desc} (h : LeavesOpen P s t) :
    EndsOpen P s (execExpertUnlock d t) := .ok (h.startDesc (fun _ h => h.hostUnlock))
theorem execExpertRelock {d : Desc} (h : LeavesOpen P s t) :
    EndsOpen P s (execExpertRelock d t) := .ok (h.startDesc (fun _ h => h.hostUnlock))
theorem execHostSessionTimeout (h : LeavesOpen P s t) :
    EndsOpen P s (execHostSessionTimeout t) := .ite (.ok h) (.ok h.hostClose)

theorem execFeedEnable {d : Desc} (h : LeavesOpen P s t) :
    EndsOpen P s (execFeedEnable d t) := by
  refine .ok (h.startDesc fun _ h => ?_)
  exact either h.cplDesc (either h.cplNo (either h.cplDesc h.modFeed.wait.feedQualify.feedWaits))

theorem execFeedDisable {d : Desc} (h : LeavesOpen P s t) :
    EndsOpen P s (execFeedDisable d t) := by
  unfold Machine.execFeedDisable
  dsimp only
  refine .ok (h.startDesc fun _ h => ?_)
  refine either h.cplDesc ?_
  refine either h.modFeed.wait ?_
  split
  · exact either h.modFeed.modBoard.wait h.cplDesc
  · exact h.modFeed.noFeed.wait
  · exact h.modFeed.wait
  · exact h.modFeed.modBoard.feedSelect.cplOk

theorem execFeedClearRetry {d : Desc} (h : LeavesOpen P s t) :
    EndsOpen P s (execFeedClearRetry d t) := .ok (h.startDesc (fun _ h => h.modFeed.feedQualify.cplOk))

theorem execRtcSet {d : Desc} (h : LeavesOpen P s t) : EndsOpen P s (execRtcSet d t) :=
  .ok (h.startDesc fun _ h => either h.cplDesc (h.of_ports).cplOk)

/-! ### Operands of moves -/

theorem accessFix {k : CoreId} {m : SegMem} {a : Nat} {n : Nat} (h : LeavesOpen P s t) :
    LeavesOpen P s (t.accessFix k m a n) := h.softFix

theorem memWrites {m : SegMem} {a : Nat} {l : List Byte} (h : LeavesOpen P s t) :
    LeavesOpen P s (t.memWrites m a l) := by
  unfold State.memWrites
  split; exacts [h.modCores, h.modCores, h.modCores, h]

theorem readPort {k : CoreId} {a : Nat} (h : LeavesOpen P s t) :
    LeavesOpen P s (t.readPort k a).2 := by
  unfold State.readPort
  exact either h.modCore h

theorem writePort {k : CoreId} {a : Nat} {v : Word}
    (h : LeavesOpen P s t) (e : t.writePort k a v = some u) : LeavesOpen P s u := by
  have written (f : Core → Core) (e : some (t.modCore k f) = some u) : LeavesOpen P s u := by cases e; exact h.modCore
  have same (e : some t = some u) : LeavesOpen P s u := by cases e; exact h
  unfold State.writePort at e
  dsimp only at e
  split at e
  case h_5 => exact of_ite of_none (written _) e
  case h_10 => exact of_ite (written _) (of_ite (written _) (of_ite (written _) same)) e
  all_goals exact written _ e

end State.LeavesOpen

end Sys2Proof.Machine
end

section
/-! SUPPORT. The scheduler and the reset of cores have no path to a pass switch. -/
set_option Elab.async false
namespace Sys2Proof.Machine

variable {P : PortId → Prop} {s t u : State}

namespace State.LeavesOpen

/-! ### The scheduler -/

theorem heartbeat {k : CoreId} (h : LeavesOpen P s t) :
    LeavesOpen P s (t.heartbeat k) := h.modRef
theorem freeCore {k : CoreId} {p : PortId} {retain : Bool} (h : LeavesOpen P s t) :
    LeavesOpen P s (t.freeCore k p retain) := h.modCore.modSc.heartbeat

theorem ctxFault {k : CoreId} {p : PortId} {cause : CtxCause} {sub : Nat} {off : Nat} {word : Word} {trap : BitVec 16}
    (h : LeavesOpen P s t) :
    LeavesOpen P s (t.ctxFault k p cause sub off word trap) := by
  unfold State.ctxFault
  exact h.modCores.modUpd.quarantine

theorem dispatchFault {k : CoreId} {cause : CtxCause} {sub : Nat} {off : Nat} {word : Word} {trap : BitVec 16}
    (h : LeavesOpen P s t) :
    LeavesOpen P s (t.dispatchFault k cause sub off word trap) := by
  unfold State.dispatchFault
  split; exacts [h.freeCore.ctxFault.setPin.exportDue, h]

theorem pagingFault {k : CoreId} {p : PortId} {mem off : Nat}
    (h : LeavesOpen P s t) : LeavesOpen P s (t.pagingFault k p mem off) := by
  unfold State.pagingFault
  exact h.eccError.freeWord.freeWord.ctxFault.dropSlot.exportDue.pagesDue

theorem pageWrite {p : PortId} {off : Nat} {l : List Byte} (h : LeavesOpen P s t) :
    LeavesOpen P s (t.pageWrite p off l) := by
  unfold State.pageWrite
  split; exacts [h.modCores.modSc, h.modCores]

theorem deepDone {p : PortId} {outcome : Nat} (h : LeavesOpen P s t) :
    LeavesOpen P s (t.deepDone p outcome) := by
  unfold State.deepDone
  exact h.pageWrite.modSc.queueHk.exportDue.pagesDue

theorem takeDeep {p : PortId} (h : LeavesOpen P s t) :
    LeavesOpen P s (t.takeDeep p) := by
  unfold State.takeDeep
  exact either h (either h.pageWrite.deepDone (either h.pageWrite.deepDone (either h.pageWrite.deepDone h.pageWrite.modSc)))

theorem execDeepTransferDone {p : Fin 192} {good : Bool} {data : List Byte} (h : LeavesOpen P s t) :
    EndsOpen P s (execDeepTransferDone p good data t) := by
  unfold Machine.execDeepTransferDone
  exact .ite (.ok h) (.ite (.ok h.deepDone) (.ok ((either ((either h.modLink h).pageWrite) (either h.modLink h)).deepDone)))

theorem endDispatch {k : CoreId} {retain : Bool} (h : LeavesOpen P s t) :
    LeavesOpen P s (t.endDispatch k retain) := by
  unfold State.endDispatch
  dsimp only
  split; exacts [h, (either h.freeCore.setPin.takeDeep.resumeHold h.freeCore.setPin.takeDeep).exportDue]

theorem execOverrun {k : Fin 4} (h : LeavesOpen P s t) :
    EndsOpen P s (execOverrun k t) := by
  unfold Machine.execOverrun
  dsimp only
  split; exacts [.ok h, .ite (.ok h) (.ok h.modCores.endDispatch.postEvt.queueFault)]

theorem execAgePromotion {p : Fin 192} {i : Fin 16} (h : LeavesOpen P s t) :
    EndsOpen P s (execAgePromotion p i t) := by
  unfold Machine.execAgePromotion
  split; exacts [.ite (.ok h.modSc) (.ok h), .ok h]

theorem takeEvent {p : PortId} {e : QEv} (h : LeavesOpen P s t) :
    LeavesOpen P s (t.takeEvent p e) := h.modSc.refillQueue

theorem loseEvent {p : PortId} {e : QEv} (h : LeavesOpen P s t) :
    LeavesOpen P s (t.loseEvent p e) := by
  unfold State.loseEvent
  dsimp only
  split; exacts [h.modSc.modSc.refillQueue, h.modSc.dropReport.refillQueue, h.modSc.dropReport.refillQueue, h.modSc.refillQueue]

theorem startDispatch {p : PortId} {k : CoreId} {lat : Nat} (h : LeavesOpen P s t) :
    LeavesOpen P s (t.startDispatch p k lat) := by
  unfold State.startDispatch
  dsimp only
  split
  · exact h
  · split
    · exact h.eccError.unpoison.loseEvent
    · exact (h.softFix.foldl fun _ _ h => h.softFix).takeEvent.memWrites.memWrites.modCore.modSc.modCores.modUpd

theorem writeBack {p : PortId} (h : LeavesOpen P s t) : LeavesOpen P s (t.writeBack p) := by
  unfold State.writeBack
  dsimp only
  split
  · refine either h ?_
    split
    · exact h.pagingFault
    · exact h.softFix.modCores.modSc.unpoison
  · exact h

theorem evict {p : PortId} (h : LeavesOpen P s t) :
    LeavesOpen P s (t.evict p) := h.writeBack.modSc

theorem pageIn {k : CoreId} {p : PortId} (h : LeavesOpen P s t) : LeavesOpen P s (t.pageIn k p).1 := by
  unfold State.pageIn
  split
  · exact h
  next n v _ =>
  extract_lets s1 dst c put
  have h1 : LeavesOpen P s s1 := by
    unfold s1
    split; exacts [h.evict, h]
  have hput (g d u) (h : LeavesOpen P s u) : LeavesOpen P s (put g d u) := h.modCores.modSc.unpoison
  clear_value put s1
  split
  · split
    · exact h1.pagingFault.pair
    · exact (hput _ _ _ h1.softFix.modCores).pair
  · split
    · exact h.pair
    · split
      · exact h1.pagingFault.pair
      · exact (hput _ _ _ h1.softFix).pair

theorem execPageInDone {k : Fin 4} {lat : Nat} (h : LeavesOpen P s t) :
    EndsOpen P s (execPageInDone k lat t) := by
  unfold Machine.execPageInDone
  dsimp only
  refine .ite (.ok h) ?_
  split
  · exact .ite (.ok h.modCore) (.ok (either h.modCore.pageIn.startDispatch h.modCore.pageIn))
  · exact .ite (.ok h) (.ok (either h.pageIn h.pageIn.modCore.modSc))
  · exact .ok h

theorem reserveOn {p : PortId} {k : CoreId} (h : LeavesOpen P s t) :
    LeavesOpen P s (t.reserveOn p k) := by
  unfold State.reserveOn
  dsimp only
  exact (modCore (by split; exacts [h.unreserve, h])).modSc

theorem place {waited : List (Nat × Nat)} {lat : Nat} {p : PortId} (h : LeavesOpen P s t) (e : t.place waited lat p = some u) :
    LeavesOpen P s u := by
  unfold State.place at e
  extract_lets c may free home fresh waits clear busy at e
  clear_value home waits clear
  cases home with
  | some k => cases e; exact h.unreserve.startDispatch
  | none =>
    refine of_ite of_none (fun e => ?_) e
    split at e
    · cases e; exact h.unreserve.modCore
    · refine of_ite of_none (fun e => ?_) e
      obtain ⟨k, -, rfl⟩ := Option.map_eq_some_iff.mp e
      exact h.reserveOn

theorem takeReserved {lat : Nat} {k : CoreId} (h : LeavesOpen P s t) :
    LeavesOpen P s (t.takeReserved lat k) := by
  unfold State.takeReserved
  dsimp only
  split; exacts [either h (either h.unreserve (either h.unreserve.startDispatch h.unreserve.modCore)), h]

theorem execSchedulerDecision {waited : List (Nat × Nat)} {lat : Nat} (h : LeavesOpen P s t) :
    EndsOpen P s (execSchedulerDecision waited lat t) := by
  unfold Machine.execSchedulerDecision
  refine .ite (.ok h) ?_
  have k := (h.foldl (l := allCores) fun u k h => either (c := (u.coreAt k).state == CoreState.idle) (h.heartbeat (k := k)) h).foldl (l := allCores)
    fun u k h => h.takeReserved (lat := lat) (k := k)
  dsimp only
  split
  · exact .ok k
  · refine .ok (k.toRun.getD fun u e => ?_)
    obtain ⟨p, -, e⟩ := List.exists_of_findSome?_eq_some e
    exact k.toRun.place e

theorem execTimerExpired {p : Fin 192} {t1 : Fin 8} (h : LeavesOpen P s t) :
    EndsOpen P s (execTimerExpired p t1 t) := by
  unfold Machine.execTimerExpired
  split; exacts [.ite (.ok h) (.ok h.modSc.queueEv), .ok h]

theorem withdrawTimer {p : PortId} {t1 : Nat} (h : LeavesOpen P s t) :
    LeavesOpen P s (t.withdrawTimer p t1) := h.modSc.refillQueue

end State.LeavesOpen

end Sys2Proof.Machine
end

section
/-! SUPPORT. Images, restarts, resets, DEEP and updates leave every pass switch open that was. -/
set_option Elab.async false
namespace Sys2Proof.Machine

variable {P : PortId → Prop} {s t u : State}

namespace State.LeavesOpen

/-! ### Images -/

theorem settingsDefault {stored : Word} {want : Word} (h : LeavesOpen P s t) :
    LeavesOpen P s (t.settingsDefault stored want) := h.modCfg.modUpd.postEvt

theorem applySettings {k : Slot} {fresh : Bool} (h : LeavesOpen P s t) :
    LeavesOpen P s (t.applySettings k fresh) := by
  unfold State.applySettings
  dsimp only
  split
  · refine either h.modCfg.modUpd ?_
    split
    · exact either h.modCfg.modUpd.modUpd h.settingsDefault
    · exact h.settingsDefault
  · exact either h.modCfg.modUpd.modUpd h.settingsDefault
  · exact h.settingsDefault

theorem rebuildAll (h : LeavesOpen P s t) :
    LeavesOpen P s (t.rebuildAll) := by
  unfold State.rebuildAll
  exact h.modCores.unpoison.foldl fun _ _ h => h.dropSlot

theorem resetCores {st : CoreState} (h : LeavesOpen P s t) : LeavesOpen P s (t.resetCores st) := by
  unfold State.resetCores
  exact (State.LeavesOpen.modCores (h.foldl fun _ _ h => h.modSc)).setFence.withCore

theorem loadImage {k : Slot} (h : LeavesOpen P s t) :
    LeavesOpen P s (t.loadImage k) := by
  unfold State.loadImage
  exact h.modCores.modRef

theorem resumeAll (h : LeavesOpen P s t) :
    LeavesOpen P s (t.resumeAll) := h.foldl fun _ _ h => either h.queueHk h

theorem startImage {k : Slot} {keep : Bool} (h : LeavesOpen P s t) : LeavesOpen P s (t.startImage k keep) := by
  unfold State.startImage
  extract_lets s1 s2 trial s3 s4 s5 s6
  have h2 : LeavesOpen P s s2 := resetCores (either h.loadImage h.loadImage.rebuildAll)
  have h6 : LeavesOpen P s s6 := h2.modUpd.modPwr.setFence.modRef.placePins.resumeAll
  exact either h6.postUpd h6

theorem agentFloor {h1 : List Byte} {other : Slot} {vpp : Nat} (h : LeavesOpen P s t) :
    LeavesOpen P s (t.agentFloor h1 other vpp) := by
  unfold State.agentFloor
  extract_lets req s1 s2 j
  have erased : LeavesOpen P s s2 := either h.modUpd.eraseSlot.modUpd h.modUpd
  exact either (either erased.modFuse erased.confirmDone) erased.fuseBegin

theorem confirm {vpp : Nat} (h : LeavesOpen P s t) :
    LeavesOpen P s (t.confirm vpp) := by
  unfold State.confirm
  exact either h.modUpd.agentFloor h.modUpd.confirmDone

theorem enterRecovery (h : LeavesOpen P s t) :
    LeavesOpen P s (t.enterRecovery) := h.modUpd.postUpd
theorem bootFallback (h : LeavesOpen P s t) :
    LeavesOpen P s (t.bootFallback) := either h.enterRecovery h.modUpd

theorem bootFloor {vpp : Nat} (h : LeavesOpen P s t) :
    LeavesOpen P s (t.bootFloor vpp) := by
  unfold State.bootFloor
  split; exacts [either h.agentFloor h, h]

theorem bootChoose {wake : Bool} (h : LeavesOpen P s t) :
    LeavesOpen P s (t.bootChoose wake) := by
  unfold State.bootChoose
  exact either h.modUpd.enterRecovery (either h.modUpd.bootFallback ((either h.modUpd.modUpd h.modUpd).modUpd))

theorem execBootImageLoaded (h : LeavesOpen P s t) : EndsOpen P s (execBootImageLoaded t) := by
  unfold Machine.execBootImageLoaded
  refine .ite (.ok h) ?_
  split
  · exact .ok h
  · extract_lets back s1 s2 s3
    have h1 : LeavesOpen P s s1 := either h.modUpd h
    have h3 : LeavesOpen P s s3 := (either h1 h1.applySettings).startImage
    exact .ite (.ok (either h3.postUpd h3)) (.ite (.ok h.bootFallback) (.ite (.ok h.enterRecovery) (.ok h.modUpd)))

/-! ### Restarts -/

theorem execCoreHang {k : Fin 4} (h : LeavesOpen P s t) : EndsOpen P s (execCoreHang k t) := by
  unfold Machine.execCoreHang
  extract_lets again s0 s1 m
  have h1 : LeavesOpen P s s1 := (either h.refDeviceFail h).refRecord.modRef.modUpd
  exact .ite (.ok h) (.ite (.ok h1) (.ok (h1.modRef.foldl fun _ _ h => h.requestHold)))

theorem writeBackAll {but : Option PortId} (h : LeavesOpen P s t) :
    LeavesOpen P s (t.writeBackAll but) := h.foldl fun _ _ h => either h h.writeBack

theorem execCoreRestart (h : LeavesOpen P s t) : EndsOpen P s (execCoreRestart t) := by
  unfold Machine.execCoreRestart
  split
  · exact .ok h
  · extract_lets hung s1 s2 s3 s4
    clear_value hung
    have h1 : LeavesOpen P s s1 := h.writeBackAll.resetCores.setFence
    have h2 : LeavesOpen P s s2 := by
      unfold s2
      split
      · exact h1.rebuildCtx.errorRecovery
      · exact h1
    have h4 : LeavesOpen P s s4 := h2.modRef.modPwr
    refine .ite (.ok h) (.ok ?_)
    split
    · exact h4.exportDue.resumeAll
    · exact h4.resumeAll

theorem execSramScrub {corrected : Nat} {soft : List (Nat × Nat)} {bad : List (Nat × Nat)} (h : LeavesOpen P s t) :
    EndsOpen P s (execSramScrub corrected soft bad t) := .ite (.ok h) (.ok h.modRef)

/-! ### Resets, DEEP and waking -/

theorem hostFence (h : LeavesOpen P s t) : LeavesOpen P s t.hostFence := by
  unfold State.hostFence
  exact ((h.setFence.hostClose.of_ports).modLink).foldl fun _ _ h => either h.deepDone h

theorem hostReset (h : LeavesOpen P s t) :
    LeavesOpen P s (t.hostReset) := h.hostFence.modLink
theorem hostLift {speed : Nat} {width : Nat} (h : LeavesOpen P s t) :
    LeavesOpen P s (t.hostLift speed width) := either h h.modLink.setFence
theorem setCause {k : Nat} (h : LeavesOpen P s t) :
    LeavesOpen P s (t.setCause k) := h.modPwr

theorem execPerstNFall (h : LeavesOpen P s t) :
    EndsOpen P s (execPerstNFall t) := by
  unfold Machine.execPerstNFall
  exact .ite (.ok h.modLink) (.ok h.modLink.hostReset.setPowered.setCause)

theorem execPerstNRise (h : LeavesOpen P s t) :
    EndsOpen P s (execPerstNRise t) := by
  unfold Machine.execPerstNRise
  exact .ite (.ok h.modLink.wakeReq) (.ok h.modLink.wakeReq.setPowered)

theorem execFunctionLevelReset (h : LeavesOpen P s t) :
    EndsOpen P s (execFunctionLevelReset t) := .ite (.ok h.modLink.hostReset.setCause) (.ok h)
theorem execD3hotEntry (h : LeavesOpen P s t) :
    EndsOpen P s (execD3hotEntry t) := .ite (.ok h.modLink.hostFence) (.ok h)
theorem execD0Return {speed : Fin 16} {width : Fin 16} (h : LeavesOpen P s t) :
    EndsOpen P s (execD0Return speed width t) := .ite (.ok h.modLink.hostLift) (.ok h)
theorem execPcieLinkTrained {speed : Fin 16} {width : Fin 16} (h : LeavesOpen P s t) :
    EndsOpen P s (execPcieLinkTrained speed width t) := .ite (.ok h.hostLift) (.ok h)

theorem execPowerOnReset (h : LeavesOpen P s t) : EndsOpen P s (execPowerOnReset t) := by
  have k : LeavesOpen P s (match t.upd.dl with | some d => t.eraseSlot d.slot | none => t) := by split; exacts [h.eraseSlot, h]
  exact ⟨_, rfl, of_reset (by dsimp only) k.pending⟩

theorem deviceReset {cause : Nat} (h : LeavesOpen P s t) : LeavesOpen P s (t.deviceReset cause) :=
  ⟨fun q _ _ => t.deviceReset_gate cause q, (t.deviceReset_pending cause).trans h.svcClose.pending⟩

theorem execDeviceReset {why : ResetCause} (h : LeavesOpen P s t) :
    EndsOpen P s (execDeviceReset why t) := by
  unfold Machine.execDeviceReset
  split; exacts [.ok h.deviceReset, .ite (.ok h.deviceReset) (.ok h), .ok h.deviceReset]

theorem testMode {testmode : Bool} (h : LeavesOpen P s t) :
    LeavesOpen P s (t.testMode testmode) := either h.modPwr.refRecord h

theorem execDomainRelease {bootsel : Bool} {testmode : Bool} {reads : List FuseRead} {vpp : Nat} (h : LeavesOpen P s t) :
    EndsOpen P s (execDomainRelease bootsel testmode reads vpp t) := by
  exact .ite (.ok h) (.ok (h.modPwr.setPowered.fuseBoot.testMode.bootFloor.bootChoose.foldl fun _ _ h => h.bootAttach))

theorem execPllLocked (h : LeavesOpen P s t) :
    EndsOpen P s (execPllLocked t) := .ite (.ok h) (.ok h.modPwr)

theorem execTileRelease {t1 : Fin 8} {mv : Nat} (h : LeavesOpen P s t) :
    EndsOpen P s (execTileRelease t1 mv t) := by
  unfold Machine.execTileRelease
  exact .ite (.ok h) (.ite (.ok h.setPowered.modTile.releaseFeedSvc) (.ok h.setPowered.modTile.refTileFail))

theorem execTileSupplyRecover {t1 : Fin 8} {mv : Nat} (h : LeavesOpen P s t) :
    EndsOpen P s (execTileSupplyRecover t1 mv t) := .ite (.ok h.modTile.setCause) (.ok h)

theorem execIdleEntry (h : LeavesOpen P s t) :
    EndsOpen P s (execIdleEntry t) := by
  unfold Machine.execIdleEntry
  exact .ite (.ok h.modPwr) (.ok h)

theorem deepEvents (h : LeavesOpen P s t) :
    LeavesOpen P s (t.deepEvents) := by
  unfold State.deepEvents
  exact ((h.foldl fun _ _ h => h.markSummary).modLink).foldl fun _ _ h => h.modPort

theorem deepLinks (h : LeavesOpen P s t) : LeavesOpen P s t.deepLinks := by
  unfold State.deepLinks
  exact (((h.foldl fun _ _ h => h.modTile.setFence).of_ports).setFence).modPwr

theorem deepOff {wake : BitVec 8} (h : LeavesOpen P s t) : LeavesOpen P s (t.deepOff wake) :=
  ⟨fun q _ _ => t.deepOff_gate wake q, (t.deepOff_pending wake).trans h.hostFence.pending⟩
theorem deepCut {wake : BitVec 8} (h : LeavesOpen P s t) :
    LeavesOpen P s (t.deepCut wake) := h.modPwr

theorem execDeepEntry {cut : Option (Fin 5 × BitVec 8)} (h : LeavesOpen P s t) :
    EndsOpen P s (execDeepEntry cut t) := by
  have h1 : LeavesOpen P s (t.writeBackAll none) := h.writeBackAll
  have h2 := h1.deepEvents
  unfold Machine.execDeepEntry
  dsimp only
  refine .ite (.ok h) ?_
  split <;> exact .ite (.ok h1.deepCut) (.ite (.ok h2.deepCut) (.ite (.ok h2.deepLinks.deepCut) (.ok h2.deepLinks.deepOff)))

theorem execWake {svcRx : Bool} {reads : List FuseRead} {vpp : Nat} (h : LeavesOpen P s t) :
    EndsOpen P s (execWake svcRx reads vpp t) := by
  unfold Machine.execWake
  refine .ite (.ok h) ?_
  exact .ok (h.modPwr.modRef.fuseBoot.bootFloor.bootChoose.foldl fun _ _ h => either h.modCc (either h.bootAttach h))

theorem execXaCrystalFail (h : LeavesOpen P s t) :
    EndsOpen P s (execXaCrystalFail t) := .ok h.modPwr
theorem execXaCrystalRecover (h : LeavesOpen P s t) :
    EndsOpen P s (execXaCrystalRecover t) := .ok h.modPwr

theorem writePwCtrl {a : Path6} {v : Word} (h : LeavesOpen P s t) :
    LeavesOpen P s (t.writePwCtrl a v) := either h.modPwr h

/-! ### Updates -/

theorem armUpd {src : ArmSource} (h : LeavesOpen P s t) :
    LeavesOpen P s (t.armUpd src) := by
  unfold State.armUpd
  exact ((either h.kickArming h).modUpd).postUpd

theorem updDisarm (h : LeavesOpen P s t) :
    LeavesOpen P s (t.updDisarm) := h.modUpd.postUpd

theorem updCancel (h : LeavesOpen P s t) (e : t.updCancel = some u) : LeavesOpen P s u := by
  unfold State.updCancel at e
  split at e
  · cases e; exact h.updDisarm
  · split at e
    · cases e; exact h.endDownload
    · cases e

theorem activate (h : LeavesOpen P s t) :
    LeavesOpen P s (t.activate) := by
  unfold State.activate
  dsimp only
  split; exacts [h, either h.modUpd.deviceReset ((h.modUpd.postUpd.foldl fun _ _ h => h.requestHold).modUpd)]

theorem execActivationInstant (h : LeavesOpen P s t) :
    EndsOpen P s (execActivationInstant t) := .ite (.ok h.toRun.activate) (.ok h)
theorem noImage (h : LeavesOpen P s t) :
    LeavesOpen P s (t.noImage) := h.resetCores.modUpd.modPwr

theorem execActivationLoadDone (h : LeavesOpen P s t) :
    EndsOpen P s (execActivationLoadDone t) := by
  unfold Machine.execActivationLoadDone
  dsimp only
  split
  · refine .ite (.ok h) ?_
    refine .ite (.ok h.writeBackAll.setCause.applySettings.startImage) ?_
    split
    · refine .ite ?_ (.ok h.writeBackAll.setCause.modUpd.modUpd.noImage.postUpd)
      exact .ok h.writeBackAll.setCause.modUpd.modUpd.applySettings.startImage.postUpd
    · exact .ok h.writeBackAll.setCause.modUpd.noImage.postUpd
  · exact .ok h

theorem execTrialWindowExpiry {vpp : Nat} (h : LeavesOpen P s t) :
    EndsOpen P s (execTrialWindowExpiry vpp t) := .ite (.ok h) (.ite (.ok h.confirm) (.ok h.deviceReset))
theorem execSessionLockoutEnd (h : LeavesOpen P s t) :
    EndsOpen P s (execSessionLockoutEnd t) := .ite (.ok h.modSvc) (.ok h)

theorem execKickFire {missed : BitVec 8} (h : LeavesOpen P s t) :
    EndsOpen P s (execKickFire missed t) := by
  unfold Machine.execKickFire
  refine .ite ?_ (.ok h.modHud)
  refine .ok (either ?_ (either h.modHud.toRun.kickApply h.modHud.toRun))
  exact (either h.modHud.toRun.kickApply h.modHud.toRun).activate

theorem execKickTimeout {low : Bool} (h : LeavesOpen P s t) :
    EndsOpen P s (execKickTimeout low t) := by
  refine .ite (.ok h.modHud) ?_
  refine .ok (either ?_ (either h.modHud.modHud.finish.hudReply h.modHud))
  exact (either h.modHud.modHud.finish.hudReply h.modHud).updDisarm

end State.LeavesOpen

end Sys2Proof.Machine
end

section
/-! SUPPORT. Writes and the service port have no path to a pass switch. -/
set_option Elab.async false
namespace Sys2Proof.Machine

variable {P : PortId → Prop} {s t u : State}

namespace State.LeavesOpen

/-! ### Writes of registers -/

theorem writeRing {n : Nat} {r : Nat} {v : Word} (h : LeavesOpen P s t) :
    LeavesOpen P s (t.writeRing n r v) := by
  unfold State.writeRing
  exact either (either h h.modRing) (either (either h h.modRing) (either h.modRing h))

theorem writeHl {off : Nat} {v : Word} {slots : List Desc} (h : LeavesOpen P s t) :
    LeavesOpen P s (t.writeHl off v slots) := by
  refine either h.modLink ?_
  exact either h (either h.modLink (either h.modLink (either h.modLink (either (either h.writeRingCfg h.writeRing) h))))

theorem writeRefCfg {a : Path6} {v : Word} (h : LeavesOpen P s t) :
    LeavesOpen P s (t.writeRefCfg a v) := by
  unfold State.writeRefCfg
  exact h.modRef

theorem writePw {a : Path6} {off : Nat} {v : Word} (h : LeavesOpen P s t) :
    LeavesOpen P s (t.writePw a off v) := by
  refine either h.modPwr ?_
  refine either h.modPwr ?_
  refine either h.modPwr ?_
  refine either h.modPwr ?_
  refine either h.modPwr ?_
  refine either h.modPwr ?_
  exact either h.writePwCtrl (either h.modPwr (either h.modPwr (either h.modRef (either h.writeRefCfg (either h.modRef h)))))

theorem writeFuCmd {a : Path6} {v : Word} {vpp : Nat} (h : LeavesOpen P s t) :
    LeavesOpen P s (t.writeFuCmd a v vpp) := by
  unfold State.writeFuCmd
  dsimp only
  split; exacts [h.fuseWrite (fun _ _ _ h => h.fuseTake), h.fuseWrite (fun _ _ _ h => h.modFuse)]

theorem saveSettings (h : LeavesOpen P s t) (e : t.saveSettings = some u) : LeavesOpen P s u := by
  obtain ⟨k, -, rfl⟩ := Option.map_eq_some_iff.mp e
  exact h.modUpd

theorem ctrlArm {a : Path6} {v : Word} (h : LeavesOpen P s t) :
    LeavesOpen P s (t.ctrlArm a v) := by
  unfold State.ctrlArm
  dsimp only
  exact either h (by split; exacts [either h h.armUpd, either h h.armUpd, either h h.armUpd, h])

theorem ctrlCancel {v : Word}
    (h : LeavesOpen P s t) : LeavesOpen P s (t.ctrlCancel v) := either (h.getD fun _ e => h.updCancel e) h
theorem ctrlSave {v : Word}
    (h : LeavesOpen P s t) : LeavesOpen P s (t.ctrlSave v) := either (h.getD fun _ e => h.saveSettings e) h
theorem ctrlConfirm {v : Word} {vpp : Nat} (h : LeavesOpen P s t) :
    LeavesOpen P s (t.ctrlConfirm v vpp) := either h.confirm h
theorem writeUpCtrl {a : Path6} {v : Word} {vpp : Nat} (h : LeavesOpen P s t) :
    LeavesOpen P s (t.writeUpCtrl a v vpp) := h.ctrlArm.ctrlCancel.ctrlSave.ctrlConfirm
theorem writeActAt {a : Path6} {high : Bool} {v : Word} (h : LeavesOpen P s t) :
    LeavesOpen P s (t.writeActAt a high v) := either h (either h.modUpd h.modUpd)

theorem writeFuUp {a : Path6} {off : Nat} {v : Word} {vpp : Nat} (h : LeavesOpen P s t) :
    LeavesOpen P s (t.writeFuUp a off v vpp) := by
  refine either h.writeFuCmd ?_
  refine either h.modFuse ?_
  refine either h.modFuse ?_
  exact either h.modFuse (either (either h.modUpd h) (either h.writeUpCtrl (either h.writeActAt (either h.writeActAt h))))

theorem writeStat {off : Nat} {v : Word} (h : LeavesOpen P s t) :
    LeavesOpen P s (t.writeStat off v) := by
  exact either h.modTile (either (h.foldl fun _ _ h => h.modTile) (either h.modCores (either h.modCores h)))

theorem writePathCtrl {a : Path6} {p : PortId} {v : Word} (h : LeavesOpen P s t) :
    LeavesOpen P s (t.writePathCtrl a p v) := either h (either h.modPath (either h.modPath.sigSend h.modPath.startTable))
theorem writePp {a : Path6} {p : PortId} {r : Nat} {v : Word} (h : LeavesOpen P s t) :
    LeavesOpen P s (t.writePp a p r v) := either h.writePathCtrl (either h.modCnt h)

theorem busWrite {a : Path6} {off : Nat} {v : Word} {vpp : Nat} {slots : List Desc} (h : LeavesOpen P s t) :
    LeavesOpen P s (t.busWrite a off v vpp slots) := by
  unfold State.busWrite
  refine either h ?_
  refine either h.modPwr ?_
  refine either h.stageWrite ?_
  split
  · exact h.writePp
  · exact either h.writeHl (either h.modHud (either h.writeKickCfg (either h.writePw (either h.writeFuUp h.writeStat))))

theorem hostWrite {off : Nat} {v : Word} {vpp : Nat} (h : LeavesOpen P s t) :
    LeavesOpen P s (t.hostWrite off v vpp) := either h.toRun.busWrite h
theorem execRegisterWrite {off : Fin 65536} {be : BitVec 4} {v : BitVec 32} (h : LeavesOpen P s t) :
    EndsOpen P s (execRegisterWrite off be v t) := .ite (.ok h) (.ok h.hostWrite)
theorem execEventCounterOvfClear {off : Fin 65536} {v : BitVec 32} (h : LeavesOpen P s t) :
    EndsOpen P s (execEventCounterOvfClear off v t) := .ite (.ok h) (.ok h.hostWrite)
theorem execUpActivateAtWrite {high : Bool} {v : BitVec 32} (h : LeavesOpen P s t) :
    EndsOpen P s (execUpActivateAtWrite high v t) := .ok h.hostWrite
theorem execPathCtrlWrite {p : Fin 192} {v : BitVec 32} (h : LeavesOpen P s t) :
    EndsOpen P s (execPathCtrlWrite p v t) := .ok h.hostWrite
theorem execRefCfgWrite {v : BitVec 32} (h : LeavesOpen P s t) :
    EndsOpen P s (execRefCfgWrite v t) := .ok h.hostWrite
theorem execPwCtrlReset (h : LeavesOpen P s t) :
    EndsOpen P s (execPwCtrlReset t) := .ok h.hostWrite
theorem execUpCtrlArm {src : Fin 4} (h : LeavesOpen P s t) :
    EndsOpen P s (execUpCtrlArm src t) := .ok h.hostWrite
theorem execUpCtrlCancel (h : LeavesOpen P s t) :
    EndsOpen P s (execUpCtrlCancel t) := .ok h.hostWrite
theorem execUpCtrlSave (h : LeavesOpen P s t) :
    EndsOpen P s (execUpCtrlSave t) := .ok h.hostWrite
theorem execUpCtrlConfirm {vpp : Nat} (h : LeavesOpen P s t) :
    EndsOpen P s (execUpCtrlConfirm vpp t) := .ok h.hostWrite

theorem busRead {a : Path6} {off : Nat} (h : LeavesOpen P s t) : LeavesOpen P s (t.busRead a off) := by
  have k : LeavesOpen P s (match a with | .core _ => t | _ => t.toRun) := by split; exacts [h, h.toRun]
  exact either (k.regRead.trans ⟨fun _ _ g => g, rfl⟩) h

theorem execErrorCounterRead {a : Path6} {off : Fin 65536} (h : LeavesOpen P s t) :
    EndsOpen P s (execErrorCounterRead a off t) := .ite (.ok h.busRead) (.ok h)
theorem execScStoreRead {a : Path6} (h : LeavesOpen P s t) :
    EndsOpen P s (execScStoreRead a t) := .ok h.busRead
theorem execScLatRead {a : Path6} (h : LeavesOpen P s t) :
    EndsOpen P s (execScLatRead a t) := .ok h.busRead

theorem execWideValueLowRead {a : Path6} {off : Fin 65536} (h : LeavesOpen P s t) :
    EndsOpen P s (execWideValueLowRead a off t) := .ite (.ok h.busRead) (.ok h)

/-! ### The service port -/

theorem execAutobaudLock {rate : Nat} (h : LeavesOpen P s t) :
    EndsOpen P s (execAutobaudLock rate t) := .ite (.ok h.modSvc) (.ok h)
theorem execSvcLineIdle (h : LeavesOpen P s t) :
    EndsOpen P s (execSvcLineIdle t) := .ite (.ok h.modSvc) (.ok h)
theorem frameLost (h : LeavesOpen P s t) :
    LeavesOpen P s (t.frameLost) := h.modSvc
theorem execSvcFrameDiscard {raw : List (BitVec 8)} (h : LeavesOpen P s t) :
    EndsOpen P s (execSvcFrameDiscard raw t) := .ite (.ok h.frameLost) (.ok h)
theorem execSvcFrameGap {us : Nat} (h : LeavesOpen P s t) :
    EndsOpen P s (execSvcFrameGap us t) := .ite (.ok h.frameLost) (.ok h)
theorem execSvcUnknownCommand {f : SvcFrame} {cmd : BitVec 8} (h : LeavesOpen P s t) :
    EndsOpen P s (execSvcUnknownCommand f cmd t) := .ite (.ok h) (.ok (h.svcRun (fun _ h => h.svcNak)))
theorem execHello {f : SvcFrame} (h : LeavesOpen P s t) :
    EndsOpen P s (execHello f t) := .ok (h.svcRun (fun _ h => either h.svcNak h.svcReply))

theorem execSvcSessionOpen {f : SvcFrame} (h : LeavesOpen P s t) :
    EndsOpen P s (execSvcSessionOpen f t) := by
  unfold Machine.execSvcSessionOpen
  dsimp only
  refine .ok (h.svcRun fun _ h => ?_)
  split
  · exact either h.svcNak h.svcClose.takeKeys.newChallenge.modSvc.svcReply
  · exact h.svcNak
  · exact h.svcNak

theorem execSvcSessionProve {f : SvcFrame} (h : LeavesOpen P s t) :
    EndsOpen P s (execSvcSessionProve f t) := by
  refine .ok (h.svcRun fun _ h => ?_)
  refine either h.svcNak ?_
  exact either h.svcNak (either h.svcNak (either h.svcClose.proofFailed.svcNak h.lockClear.modSvc.svcReply))

theorem execSvcSessionClose {f : SvcFrame} (h : LeavesOpen P s t) :
    EndsOpen P s (execSvcSessionClose f t) := .ok (h.svcRun (fun _ h => either h.svcNak (either h.svcNak h.svcClose.svcReply)))
theorem execSvcSessionTimeout (h : LeavesOpen P s t) :
    EndsOpen P s (execSvcSessionTimeout t) := .ite (.ok h) (.ok h.svcClose)

theorem execPasswordSet {f : SvcFrame} (h : LeavesOpen P s t) :
    EndsOpen P s (execPasswordSet f t) := by
  unfold Machine.execPasswordSet
  dsimp only
  exact .ok (h.svcRun (fun _ h => by split; exacts [either h.svcNak h.modSvc.svcReply, h.svcNak]))

theorem svcUnlock {f : SvcFrame} {on : Bool} (h : LeavesOpen P s t) :
    LeavesOpen P s (t.svcUnlock f on) := either h (h.svcRun (fun _ h => either h.svcNak h.modSvc.svcReply))
theorem execSvcExpertUnlock {f : SvcFrame} (h : LeavesOpen P s t) :
    EndsOpen P s (execSvcExpertUnlock f t) := .ok h.svcUnlock
theorem execSvcExpertRelock {f : SvcFrame} (h : LeavesOpen P s t) :
    EndsOpen P s (execSvcExpertRelock f t) := .ok h.svcUnlock

theorem svcReads {off n : Nat} (h : LeavesOpen P s t) : LeavesOpen P s (t.svcReads off n).2 := by
  induction n generalizing t off with
  | zero => exact h
  | succ n ih =>
    unfold State.svcReads
    split
    next e =>
    split
    next e2 => exact of_snd (ih (of_snd h.regRead e)) e2

theorem execRegRead {f : SvcFrame} (h : LeavesOpen P s t) :
    EndsOpen P s (execRegRead f t) := .ok (h.svcRun (fun _ h => either h.svcNak h.svcReads.svcReply))
theorem execRegWrite {f : SvcFrame} {vpp : Nat} {slots : List Desc} (h : LeavesOpen P s t) :
    EndsOpen P s (execRegWrite f vpp slots t) := .ok (h.svcRun (fun _ h => either h.svcNak h.busWrite.svcReply))

theorem svcHuddle {f : SvcFrame} {op : Nat} {g : State → State}
    (h : LeavesOpen P s t) (hg : ∀ u, LeavesOpen P s u → LeavesOpen P s (g u)) :
    LeavesOpen P s (t.svcHuddle f op g) := either h (h.svcRun (fun _ h => either h.svcNak (hg _ h)))

theorem execSvcHuddleCheck {f : SvcFrame} (h : LeavesOpen P s t) :
    EndsOpen P s (execSvcHuddleCheck f t) := .ok (h.svcHuddle (fun _ h => h.hudCheck.svcReply))

theorem svcArm {f : SvcFrame} {src : KickSource} (h : LeavesOpen P s t) : LeavesOpen P s (t.svcArm f src) := by
  unfold State.svcArm
  refine either h.svcNak (either h.svcNak ?_)
  split
  next e =>
  have k := of_fst (by split; exacts [h.hudCheck, h]) e
  exact either k.svcReply k.hudArm

theorem execSvcHuddleArmNextBoundary {f : SvcFrame} (h : LeavesOpen P s t) :
    EndsOpen P s (execSvcHuddleArmNextBoundary f t) := .ok (h.svcHuddle (fun _ h => h.svcArm))
theorem execSvcHuddleArmKick {f : SvcFrame} (h : LeavesOpen P s t) :
    EndsOpen P s (execSvcHuddleArmKick f t) := .ok (h.svcHuddle (fun _ h => h.svcArm))
theorem execSvcHuddleDiscard {f : SvcFrame} (h : LeavesOpen P s t) :
    EndsOpen P s (execSvcHuddleDiscard f t) := .ok (h.svcHuddle (fun _ h => h.hudDiscard.svcReply))
theorem execLogRead {f : SvcFrame} (h : LeavesOpen P s t) :
    EndsOpen P s (execLogRead f t) := .ok (h.svcRun (fun _ h => either h.svcNak h.svcReply))

theorem execSettingsSave {f : SvcFrame} (h : LeavesOpen P s t) : EndsOpen P s (execSettingsSave f t) :=
  .ok (h.svcRun fun _ h => either h.svcNak (by
    split
    next e => exact (h.saveSettings e).svcReply
    · exact h.svcNak))

theorem execImageBegin {f : SvcFrame} {good : Bool} (h : LeavesOpen P s t) :
    EndsOpen P s (execImageBegin f good t) := by
  unfold Machine.execImageBegin
  dsimp only
  refine .ok (h.svcRun fun _ h => ?_)
  refine either h.svcNak ?_
  refine either h.svcNak ?_
  split
  · exact h.svcNak
  · exact either h.modUpd.eraseSlot.svcNak h.modUpd.eraseSlot.freeWord.modUpd.postUpd.svcReply

theorem svcDownload {f : SvcFrame} {cmd : Nat} {len : Nat} {off : Nat} {g : State → Download → State}
    (h : LeavesOpen P s t) (hg : ∀ u x1, LeavesOpen P s u → LeavesOpen P s (g u x1)) :
    LeavesOpen P s (t.svcDownload f cmd len off g) := by
  unfold State.svcDownload
  exact h.svcRun (fun _ h => either h.svcNak (by split; exacts [h.svcNak, either h.svcNak (hg _ _ h)]))

theorem execImageBlock {f : SvcFrame} {good : Bool} (h : LeavesOpen P s t) :
    EndsOpen P s (execImageBlock f good t) := by
  refine .ok (h.svcDownload fun _ _ h => ?_)
  exact either h.svcNak (either h.svcNak (either h.svcNak (either h.svcNak h.modUpd.svcReply)))

theorem execImageResume {f : SvcFrame} (h : LeavesOpen P s t) :
    EndsOpen P s (execImageResume f t) := .ok (h.svcDownload (fun _ _ h => h.svcReply))

theorem execImageEnd {f : SvcFrame} {good : Bool} (h : LeavesOpen P s t) :
    EndsOpen P s (execImageEnd f good t) := by
  refine .ok (h.svcDownload fun _ _ h => ?_)
  exact either h.svcNak (either h.endDownload.svcNak (either h.endDownload.svcNak h.modUpd.svcReply.postUpd))

theorem svcActivate {f : SvcFrame} {code : Nat} {len : Nat} {src : ArmSource} (h : LeavesOpen P s t) :
    LeavesOpen P s (t.svcActivate f code len src) := by
  unfold State.svcActivate
  exact either h (h.svcRun (fun _ h => either h.svcNak (by split; exacts [h.svcNak, h.modUpd.armUpd.svcReply])))

theorem execActivateNow {f : SvcFrame} (h : LeavesOpen P s t) :
    EndsOpen P s (execActivateNow f t) := .ok h.svcActivate
theorem execActivateAtTime {f : SvcFrame} (h : LeavesOpen P s t) :
    EndsOpen P s (execActivateAtTime f t) := .ok h.svcActivate
theorem execActivateKick {f : SvcFrame} (h : LeavesOpen P s t) :
    EndsOpen P s (execActivateKick f t) := .ok h.svcActivate
theorem execConfirm {f : SvcFrame} {vpp : Nat} (h : LeavesOpen P s t) :
    EndsOpen P s (execConfirm f vpp t) := .ok (h.svcRun (fun _ h => either h.svcNak (either h.confirm.svcReply h.svcNak)))

theorem execCancel {f : SvcFrame} (h : LeavesOpen P s t) : EndsOpen P s (execCancel f t) :=
  .ok (h.svcRun fun _ h => either h.svcNak (by
    split
    next e => exact (h.updCancel e).svcReply
    · exact h.svcNak))

end State.LeavesOpen

end Sys2Proof.Machine
end

section
/-! SUPPORT. Firmware has no path to a pass switch, so that SET_GATE alone closes one (R13, R14, R167). -/
set_option Elab.async false
namespace Sys2Proof.Machine

variable {P : PortId → Prop} {s t u : State}

namespace State.LeavesOpen

/-! ### Moves of the cores -/

/-- A fetch that ends the dispatch ends it by a fault. -/
theorem fetch {k : CoreId} {w : Word} {e : MoveEnd} (he : t.fetch k = (w, some e)) : e.LeavesOpen P s := by
  unfold State.fetch at he
  dsimp only at he
  split at he
  · cases he; trivial
  · split at he <;> cases he
    trivial

theorem fetched {k : CoreId} (h : LeavesOpen P s t) :
    LeavesOpen P s (t.fetched k) := h.softFix

theorem finishMove {k : CoreId} {w : Word} {e : MoveEnd} (h : LeavesOpen P s t) (he : e.LeavesOpen P s) :
    LeavesOpen P s (t.finishMove k w e) := by
  unfold State.finishMove
  cases e with
  | done u cy nx => exact State.LeavesOpen.modCore he
  | wait u r => exact State.LeavesOpen.endDispatch he
  | fault c sub trap ecc => exact dispatchFault (by split; exacts [h.eccError, h])

theorem moveValue {k : CoreId} {src : MvSrc} (h : LeavesOpen P s t) :
    LeavesOpen P s (t.moveValue k src).2 := by
  unfold State.moveValue
  split; exacts [h, h.readPort]

theorem issue {k : CoreId} {mine : Nat → Bool} {act : State → Word → MoveEnd}
    (h : LeavesOpen P s t) (hact : ∀ u x1, LeavesOpen P s u → (act u x1).LeavesOpen P s) :
    LeavesOpen P s (t.issue k mine act) := by
  unfold State.issue
  dsimp only
  refine either h ?_
  split
  · exact h
  · split
    · exact either h (either (h.fetched.finishMove h.fetched) (h.fetched.finishMove (hact _ _ h.fetched.moveValue)))
    · exact h

theorem trigger {k : CoreId} {a : Nat} {act : State → Word → MoveEnd}
    (h : LeavesOpen P s t) (hact : ∀ u x1, LeavesOpen P s u → (act u x1).LeavesOpen P s) :
    LeavesOpen P s (t.trigger k a act) := h.issue hact

theorem doneIn {k : CoreId} {cy : Nat} (h : LeavesOpen P s t) : (t.doneIn k cy).LeavesOpen P s := h

theorem execMove {k : Fin 4} (h : LeavesOpen P s t) : EndsOpen P s (execMove k t) := by
  unfold Machine.execMove
  refine .ite ?_ (.ok ?_)
  · split
    next e => exact .ok (State.LeavesOpen.finishMove h.of_ports (fetch e))
    · exact .ok h
  · split
    · refine h.issue fun _ _ h => ?_
      split
      next e => exact (h.writePort e).doneIn
      · trivial
    · exact h

theorem execIllegalMove {k : Fin 4} (h : LeavesOpen P s t) :
    EndsOpen P s (execIllegalMove k t) := by
  unfold Machine.execIllegalMove
  exact .ite (.ok h) (by split; exacts [.ok h, by split; exacts [.ok (h.fetched.finishMove trivial), .ok h]])

theorem alu {k : CoreId} {a : Nat} {o : AluOp} (h : LeavesOpen P s t) :
    LeavesOpen P s (t.alu k a o) := h.trigger (fun _ _ h => h.modCore.doneIn)
theorem execAluAddT {k : Fin 4} (h : LeavesOpen P s t) :
    EndsOpen P s (execAluAddT k t) := .ok h.alu
theorem execAluSubT {k : Fin 4} (h : LeavesOpen P s t) :
    EndsOpen P s (execAluSubT k t) := .ok h.alu
theorem execAluAndT {k : Fin 4} (h : LeavesOpen P s t) :
    EndsOpen P s (execAluAndT k t) := .ok h.alu
theorem execAluOrT {k : Fin 4} (h : LeavesOpen P s t) :
    EndsOpen P s (execAluOrT k t) := .ok h.alu
theorem execAluXorT {k : Fin 4} (h : LeavesOpen P s t) :
    EndsOpen P s (execAluXorT k t) := .ok h.alu
theorem execAluShlT {k : Fin 4} (h : LeavesOpen P s t) :
    EndsOpen P s (execAluShlT k t) := .ok h.alu
theorem execAluShrT {k : Fin 4} (h : LeavesOpen P s t) :
    EndsOpen P s (execAluShrT k t) := .ok h.alu
theorem execAluSarT {k : Fin 4} (h : LeavesOpen P s t) :
    EndsOpen P s (execAluSarT k t) := .ok h.alu
theorem execAluEqT {k : Fin 4} (h : LeavesOpen P s t) :
    EndsOpen P s (execAluEqT k t) := .ok h.alu
theorem execAluLtuT {k : Fin 4} (h : LeavesOpen P s t) :
    EndsOpen P s (execAluLtuT k t) := .ok h.alu
theorem execAluLtsT {k : Fin 4} (h : LeavesOpen P s t) :
    EndsOpen P s (execAluLtsT k t) := .ok h.alu
theorem execAluMinuT {k : Fin 4} (h : LeavesOpen P s t) :
    EndsOpen P s (execAluMinuT k t) := .ok h.alu
theorem execAluMaxuT {k : Fin 4} (h : LeavesOpen P s t) :
    EndsOpen P s (execAluMaxuT k t) := .ok h.alu
theorem execAluPassT {k : Fin 4} (h : LeavesOpen P s t) :
    EndsOpen P s (execAluPassT k t) := .ok h.alu
theorem mul {k : CoreId} {a : Nat} {o : MulOp} (h : LeavesOpen P s t) :
    LeavesOpen P s (t.mul k a o) := h.trigger (fun _ _ h => h.modCore.doneIn)
theorem execMulMuluT {k : Fin 4} (h : LeavesOpen P s t) :
    EndsOpen P s (execMulMuluT k t) := .ok h.mul
theorem execMulMulsT {k : Fin 4} (h : LeavesOpen P s t) :
    EndsOpen P s (execMulMulsT k t) := .ok h.mul
theorem execMulDivuT {k : Fin 4} (h : LeavesOpen P s t) :
    EndsOpen P s (execMulDivuT k t) := .ok h.mul
theorem execMulDivsT {k : Fin 4} (h : LeavesOpen P s t) :
    EndsOpen P s (execMulDivsT k t) := .ok h.mul

theorem lsuCycles {n : Nat} {off : Nat} (h : LeavesOpen P s t) :
    LeavesOpen P s (t.lsuCycles n off).2 := by
  unfold State.lsuCycles
  split; exacts [h, h, h, by split; exacts [h.freeWord, h], h]

theorem lsuLoad {k : CoreId} {a : Nat} {width : Nat} {sx : Bool} (h : LeavesOpen P s t) :
    LeavesOpen P s (t.lsuLoad k a width sx) := by
  unfold State.lsuLoad
  dsimp only
  refine h.trigger fun _ _ h => ?_
  split
  · exact trivial
  · exact trivial
  · refine doneIn ?_
    refine modCore ?_
    split
    · exact h.accessFix.lsuCycles.regRead
    · exact h.accessFix.lsuCycles

theorem segStore {k : CoreId} {g : Seg} {off : Nat} {l : List Byte} (h : LeavesOpen P s t) :
    LeavesOpen P s (t.segStore k g off l) := by
  unfold State.segStore
  dsimp only
  split; exacts [h.memWrites.modSc, h.memWrites]

theorem lsuStore {k : CoreId} {a : Nat} {width : Nat} (h : LeavesOpen P s t) :
    LeavesOpen P s (t.lsuStore k a width) := by
  unfold State.lsuStore
  dsimp only
  exact h.trigger (fun _ _ h => by split; exacts [trivial, trivial, h.accessFix.lsuCycles.segStore.doneIn])

theorem execLsuLd32T {k : Fin 4} (h : LeavesOpen P s t) :
    EndsOpen P s (execLsuLd32T k t) := .ok h.lsuLoad
theorem execLsuLd16T {k : Fin 4} (h : LeavesOpen P s t) :
    EndsOpen P s (execLsuLd16T k t) := .ok h.lsuLoad
theorem execLsuLd16sT {k : Fin 4} (h : LeavesOpen P s t) :
    EndsOpen P s (execLsuLd16sT k t) := .ok h.lsuLoad
theorem execLsuLd8T {k : Fin 4} (h : LeavesOpen P s t) :
    EndsOpen P s (execLsuLd8T k t) := .ok h.lsuLoad
theorem execLsuLd8sT {k : Fin 4} (h : LeavesOpen P s t) :
    EndsOpen P s (execLsuLd8sT k t) := .ok h.lsuLoad
theorem execLsuSt32T {k : Fin 4} (h : LeavesOpen P s t) :
    EndsOpen P s (execLsuSt32T k t) := .ok h.lsuStore
theorem execLsuSt16T {k : Fin 4} (h : LeavesOpen P s t) :
    EndsOpen P s (execLsuSt16T k t) := .ok h.lsuStore
theorem execLsuSt8T {k : Fin 4} (h : LeavesOpen P s t) :
    EndsOpen P s (execLsuSt8T k t) := .ok h.lsuStore

theorem execLsuAaddT {k : Fin 4} (h : LeavesOpen P s t) :
    EndsOpen P s (execLsuAaddT k t) := by
  unfold Machine.execLsuAaddT
  dsimp only
  exact .ok (h.trigger (fun _ _ h => by split; exacts [trivial, trivial, h.accessFix.segStore.modCore.doneIn]))

theorem jumpTo {k : CoreId} {a : Nat} (h : LeavesOpen P s t) : (t.jumpTo k a).LeavesOpen P s := by
  unfold State.jumpTo
  split; exacts [trivial, h]

theorem execBrJmpT {k : Fin 4} (h : LeavesOpen P s t) :
    EndsOpen P s (execBrJmpT k t) := .ok (h.trigger (fun _ _ h => h.jumpTo))
theorem execBrRelT {k : Fin 4} (h : LeavesOpen P s t) :
    EndsOpen P s (execBrRelT k t) := .ok (h.trigger (fun _ _ h => h.jumpTo))

theorem execBrCallT {k : Fin 4} (h : LeavesOpen P s t) :
    EndsOpen P s (execBrCallT k t) := by
  unfold Machine.execBrCallT
  dsimp only
  refine .ok (h.trigger fun _ _ h => ?_)
  split
  · exact trivial
  · split
    · exact trivial
    · split
      · exact trivial
      · exact h.accessFix.memWrites.modCore

theorem execBrRetT {k : Fin 4} (h : LeavesOpen P s t) :
    EndsOpen P s (execBrRetT k t) := by
  unfold Machine.execBrRetT
  dsimp only
  refine .ok (h.trigger fun _ _ h => ?_)
  split
  · exact trivial
  · split
    · exact trivial
    · split
      · exact trivial
      · exact h.accessFix.modCore

theorem setTimer {k : CoreId} {t1 : Option PortTimer} (h : LeavesOpen P s t) :
    LeavesOpen P s (t.setTimer k t1) := by
  unfold State.setTimer
  dsimp only
  split; exacts [h.withdrawTimer.modSc, h]

theorem startTimer {k : CoreId} {ms : Bool} {b : Word} (h : LeavesOpen P s t) :
    LeavesOpen P s (t.startTimer k ms b) := h.setTimer
theorem execTmrUsT {k : Fin 4} (h : LeavesOpen P s t) :
    EndsOpen P s (execTmrUsT k t) := .ok (h.trigger (fun _ _ h => h.startTimer.doneIn))
theorem execTmrMsT {k : Fin 4} (h : LeavesOpen P s t) :
    EndsOpen P s (execTmrMsT k t) := .ok (h.trigger (fun _ _ h => h.startTimer.doneIn))
theorem execTmrStopT {k : Fin 4} (h : LeavesOpen P s t) :
    EndsOpen P s (execTmrStopT k t) := .ok (h.trigger (fun _ _ h => h.setTimer.doneIn))
theorem evtDone {k : CoreId} {st : Word} (h : LeavesOpen P s t) : (t.evtDone k st).LeavesOpen P s := h.modCore
theorem msgDone {k : CoreId} {st : Word} (h : LeavesOpen P s t) : (t.msgDone k st).LeavesOpen P s := h.modCore
theorem execEvtWaitT {k : Fin 4} (h : LeavesOpen P s t) :
    EndsOpen P s (execEvtWaitT k t) := .ok (h.trigger (fun _ _ h => h))

theorem execEvtPostT {k : Fin 4} (h : LeavesOpen P s t) :
    EndsOpen P s (execEvtPostT k t) := by
  unfold Machine.execEvtPostT
  dsimp only
  exact .ok (h.trigger (fun _ _ h => by split; exacts [by split; exacts [h.evtDone, h.queueEv.evtDone], h.evtDone]))

theorem execEvtHevtT {k : Fin 4} (h : LeavesOpen P s t) :
    EndsOpen P s (execEvtHevtT k t) := .ok (h.trigger (fun _ _ h => (either h.postEvt h).evtDone))

theorem execEvtHcplT {k : Fin 4} (h : LeavesOpen P s t) :
    EndsOpen P s (execEvtHcplT k t) := by
  unfold Machine.execEvtHcplT
  dsimp only
  refine .ok (h.trigger fun _ _ h => ?_)
  split
  · exact h.evtDone
  · split
    · exact h.evtDone
    · split
      · exact h.evtDone
      · exact h.modLink.ringWrite.drained.evtDone

theorem execMsgSendT {k : Fin 4} (h : LeavesOpen P s t) :
    EndsOpen P s (execMsgSendT k t) := by
  unfold Machine.execMsgSendT
  dsimp only
  refine .ok (h.trigger fun _ _ h => ?_)
  split
  · exact h.msgDone
  · split
    · exact h.msgDone
    · split
      · exact h.msgDone
      · split
        · exact h.msgDone
        · split
          · exact h.msgDone
          · split
            · exact trivial
            · exact h.accessFix.toTx.msgDone

theorem execMsgPostT {k : Fin 4} (h : LeavesOpen P s t) :
    EndsOpen P s (execMsgPostT k t) := by
  unfold Machine.execMsgPostT
  dsimp only
  refine .ok (h.trigger fun _ _ h => ?_)
  split
  · exact h.msgDone
  · split
    · exact h.msgDone
    · split
      · exact h.msgDone
      · split
        · exact h.msgEvent.msgDone
        · exact h.post.msgDone

theorem execMsgHrstT {k : Fin 4} (h : LeavesOpen P s t) :
    EndsOpen P s (execMsgHrstT k t) := by
  unfold Machine.execMsgHrstT
  refine .ok (h.trigger fun _ _ h => ?_)
  split
  · exact h.msgDone
  · split
    · exact h.msgDone
    · split
      · exact h.msgDone
      · exact h.hardResetSent.msgDone

theorem execCrcInitT {k : Fin 4} (h : LeavesOpen P s t) :
    EndsOpen P s (execCrcInitT k t) := .ok (h.trigger (fun _ _ h => h.modCore.doneIn))
theorem execCrcB8T {k : Fin 4} (h : LeavesOpen P s t) :
    EndsOpen P s (execCrcB8T k t) := .ok (h.trigger (fun _ _ h => h.modCore.doneIn))
theorem execCrcW32T {k : Fin 4} (h : LeavesOpen P s t) :
    EndsOpen P s (execCrcW32T k t) := .ok (h.trigger (fun _ _ h => h.modCore.doneIn))

theorem execSysTrapT {k : Fin 4} (h : LeavesOpen P s t) :
    EndsOpen P s (execSysTrapT k t) := .ok (h.trigger (fun _ _ _ => trivial))

/-- SET_GATE may close the switch of its own port, and no other. -/
theorem modPathOf {p : PortId} {f : Path → Path} (hp : P p) (h : LeavesOpen P s t) : LeavesOpen P s (t.modPath p f) :=
  h.trans ⟨fun q n g => by
    have k : p ≠ q := fun e => n (e ▸ hp)
    rwa [State.modPath, State.modPort_port_ne _ _ k], rfl⟩

theorem execStSetGate {p : Fin 192} {vb : Nat} {vs0 rival : Bool} (hp : P p) (h : LeavesOpen P s t) :
    EndsOpen P s (execStSetGate p vb vs0 rival t) :=
  .ite (.ite (.ok (h.modPath fun _ _ => rfl).stepWait) (.ite (.ok h.stepWait) (.ite (.ok (h.modPathOf hp).stepWait) (.ok h.stepTo)))) (.ok h)

/-- Every command ends in a next state, with the queue as it was and the pass switches open that were, but for the port that a SET_GATE names. -/
theorem exec_endsOpen (s : State) (c : Instr) (hp : ∀ p vb vs0 rival, c = .stSetGate p vb vs0 rival → P p) : State.EndsOpen P s (exec c s) := by
  have h := refl P s
  unfold exec
  split
  exacts [h.execTileLinkPacket, h.execTileLinkResendTimeout, h.execTileLinkIdle, h.execLinkLoss, h.execSafeWireRelease,
    h.execTileLinkTrainRetry, h.execTileLinkTrained, h.execTileReloadDone, h.execTileSafeExit, h.execWatchSample, h.execRpHoldTimeout,
    h.execAttachWaitSample, h.execCcDebounceDone, h.execAttachVbusCleared, h.execDetachSample, h.execCcOvervolt, h.execCcHoldOffEnd,
    h.execCcComparatorTest, h.execBootSinkAttach, h.execBootRdRelease, h.execBootSinkDetach, h.execFrameReceived, h.execRxAbort,
    h.execHardResetRx, h.execCableResetRx, h.execMtNop, h.execMtTx, h.execMtDeliver, h.execMtMatch, h.execMtCount, h.execMtSetRp,
    h.execMtReport, h.execMtCompose, h.execMsgWaitTimeout, h.execMsgLineIdle, h.execTxDone, h.execHoldExpired, h.execTxOk, h.execTxFail,
    h.execTxDiscarded, h.execChunkFail, h.execHoldAnswered, h.execRequest, h.execGetSourceCap, h.execEprGetSourceCap,
    h.execGetSourceCapExtended, h.execGetSourceInfo, h.execGetStatus, h.execGetPpsStatus, h.execGetRevision, h.execGetManufacturerInfo,
    h.execSoftReset, h.execVconnSwap, h.execPrSwap, h.execDrSwap, h.execFrSwap, h.execEprModeEnter, h.execEprModeExit, h.execEprKeepalive,
    h.execSinkCapabilities, h.execAlert, h.execInformationMessage, h.execUnsupportedRequest, h.execBistRequest, h.execUnexpectedMessage,
    h.execUnchunkedExtended, h.execUnrecognisedMessage, h.execSrcTransitionExpiry, h.execSenderResponseExpiry, h.execSourceCapResend,
    h.execNoResponseExpiry, h.execPpsKeepaliveExpiry, h.execEprKeepaliveExpiry, h.execVconnSourceExpiry, h.execVconnSwapRetry,
    h.execFeedObjectWithdraw, h.execFeedObjectRestore, h.execEprCapsSend, h.execVdmRequest, h.execUnstructuredVdm, h.execVdmResponse,
    h.execVdmResponseTimeout, h.execVdmBusyRetry, h.execDiscoverIdentityAttempt, h.execAttention, h.execRallyNoticeDue,
    h.execCurtailConfirm, h.execCurtailReactionExpiry, h.execCurtailHoldExpiry, h.execBrokenHoldoffExpiry, h.execPowerPathPost,
    h.execQueuedPostStart, h.execStNop, h.execStSetGate (hp _ _ _ _ rfl), h.execStSetDis, h.execStSetTarget, h.execStSetRp,
    h.execStSetVconn, h.execStSignal, h.execStArmLimit, h.execStLoadWindow, h.execStepWaitSuccess, h.execStepWaitTimeout, h.execVsafe5vOk,
    h.execTransitionDone, h.execTransitionFail, h.execVsafe0vOk, h.execRetryQualified, h.execRetryFailed, h.execLimitSet, h.execVconnReady,
    h.execVconnFail, h.execVconnOff, h.execRpSet, h.execRefused, h.execUndervoltTrip, h.execBreakerTick, h.execBreakerTrip, h.execFastTrip,
    h.execVbusOvervolt, h.execReverseCurrent, h.execVconnOvercurrent, h.execTripDischargeDone, h.execRetryProbeDue,
    h.execRetryQualifyClear, h.execRetryHoldExpiry, h.execOpenPortVbus, h.execStuckSwitch, h.execStuckDischargeEnd,
    h.execDetachDischargeDone, h.execSeatQualified, h.execSeatReleased, h.execFeedWindowChange, h.execInsertDelayExpiry,
    h.execPriorityReturn, h.execInrushComplete, h.execInrushTimeout, h.execFeedBreakerTick, h.execFeedBreakerTrip, h.execFeedFastTrip,
    h.execFeedReverse, h.execFeedOvervolt, h.execFeedUndervolt, h.execOffConfirmed, h.execDeadTimeEnd, h.execStuckBank, h.execFeedRetryDue,
    h.execFeedRetryClear, h.execFeedReseatHoldExpiry, h.execScoreboardBoundary, h.execGraceExpiry, h.execNewcomerGraceExpiry,
    h.execDecreaseSampleConfirm, h.execUsageCapRelease, h.execEmergencyShedStart, h.execEmergencyShedStage, h.execEmergencyShedEnd,
    h.execVconnChargeSettle, h.execVconnBudgetExcess, h.execAdcFault, h.execMeasSample, h.execTelemetryRecord, h.execTlmDecimationHalve,
    h.execCaptureTrigger, h.execCaptureReadingsDone, h.execSnapshotWritten, h.execSublaneSlotStart, h.execQuietTest, h.execCalReconnect,
    h.execVerifyHandback, h.execSublaneSelfCal, h.execCalPendingSkip, h.execDacReadback, h.execNtcMean, h.execNtcFaultFlag,
    h.execNtcFaultClear, h.execMove, h.execAluAddT, h.execAluSubT, h.execAluAndT, h.execAluOrT, h.execAluXorT, h.execAluShlT,
    h.execAluShrT, h.execAluSarT, h.execAluEqT, h.execAluLtuT, h.execAluLtsT, h.execAluMinuT, h.execAluMaxuT, h.execAluPassT,
    h.execMulMuluT, h.execMulMulsT, h.execMulDivuT, h.execMulDivsT, h.execLsuLd32T, h.execLsuLd16T, h.execLsuLd16sT, h.execLsuLd8T,
    h.execLsuLd8sT, h.execLsuSt32T, h.execLsuSt16T, h.execLsuSt8T, h.execLsuAaddT, h.execBrJmpT, h.execBrRelT, h.execBrCallT, h.execBrRetT,
    h.execTmrUsT, h.execTmrMsT, h.execTmrStopT, h.execEvtWaitT, h.execEvtPostT, h.execEvtHevtT, h.execEvtHcplT, h.execMsgSendT,
    h.execMsgPostT, h.execMsgHrstT, h.execCrcInitT, h.execCrcB8T, h.execCrcW32T, h.execSysTrapT, h.execTimerExpired, h.execOverrun,
    h.execSchedulerDecision, h.execPageInDone, h.execAgePromotion, h.execDeepTransferDone, h.execDoorbell, h.execPhaseReread,
    h.execHostlinkStall, h.execChainTimeout, h.execDescriptorStartTimeout, h.execPdSendReplyTimeout, h.execMsixTimeTrigger,
    h.execUnknownOpcode, h.execNop, h.execPortEnable, h.execPortDisable, h.execPortProfile, h.execPortPdoSet, h.execPortErrorRecovery,
    h.execPortHardReset, h.execPdSend, h.execVdmSend, h.execVconnSwapRequest, h.execCableDiscover, h.execBudgetStage, h.execClassStage,
    h.execHuddleCheck, h.execKickoffArm, h.execHuddleDiscard, h.execSnapshot, h.execCaptureArm, h.execTlmConfig, h.execStepTableLoad,
    h.execBreakerCurveStage, h.execMsgTableLoad, h.execParamSet, h.execParamGet, h.execCtxExport, h.execHostPagesBind,
    h.execHostPagesWithdraw, h.execSessionOpen, h.execSessionProve, h.execSessionClose, h.execExpertUnlock, h.execExpertRelock,
    h.execFeedEnable, h.execFeedDisable, h.execFeedClearRetry, h.execRtcSet, h.execHostSessionTimeout, h.execTilesReady,
    h.execKickoffCommit, h.execKickoffApply, h.execApplyPacket, h.execKickFire, h.execKickTimeout, h.execDigestReceived, h.execDigestLost,
    h.execClockMonitorWindow, h.execCoreHang, h.execCoreRestart, h.execAllocationMirrorCheck, h.execMirrorLate, h.execRomHubCheck,
    h.execRomTileCheck, h.execSupplyHub, h.execSupplyTile, h.execPortReactionTimeout, h.execSramScrub, h.execIdleEntry, h.execDeepEntry,
    h.execWake, h.execPllLocked, h.execPllLockTimeout, h.execTileRelease, h.execTileSupplyRecover, h.execBootImageLoaded,
    h.execPowerOnReset, h.execDeviceReset, h.execDomainRelease, h.execRefereeSelftestDone, h.execXaCrystalFail, h.execXaCrystalRecover,
    h.execPerstNFall, h.execPerstNRise, h.execFunctionLevelReset, h.execD3hotEntry, h.execD0Return, h.execPcieLinkTrained,
    h.execProgramWord, h.execIntegrity, h.execLock, h.execForceLock, h.execReadLock, h.execReinforce, h.execAudit, h.execFloorAdvance,
    h.execFuseReservedOp, h.execFuseAuditPeriodic, h.execFuseHeldOpStart, h.execFuRaddrWrite, h.execSvcFrameDiscard, h.execSvcFrameGap,
    h.execAutobaudLock, h.execSvcLineIdle, h.execHello, h.execSvcSessionOpen, h.execSvcSessionProve, h.execSvcSessionClose,
    h.execPasswordSet, h.execSvcExpertUnlock, h.execSvcExpertRelock, h.execRegRead, h.execRegWrite, h.execSvcHuddleCheck,
    h.execSvcHuddleArmNextBoundary, h.execSvcHuddleArmKick, h.execSvcHuddleDiscard, h.execLogRead, h.execSettingsSave, h.execImageBegin,
    h.execImageBlock, h.execImageResume, h.execImageEnd, h.execActivateNow, h.execActivateAtTime, h.execActivateKick, h.execConfirm,
    h.execCancel, h.execSvcUnknownCommand, h.execSvcSessionTimeout, h.execSessionLockoutEnd, h.execTrialWindowExpiry,
    h.execActivationInstant, h.execActivationLoadDone, h.execRegisterWrite, h.execEventCounterOvfClear, h.execErrorCounterRead,
    h.execScStoreRead, h.execScLatRead, h.execWideValueLowRead, h.execUpActivateAtWrite, h.execPathCtrlWrite, h.execRefCfgWrite,
    h.execPwCtrlReset, h.execUpCtrlArm, h.execUpCtrlCancel, h.execUpCtrlSave, h.execUpCtrlConfirm, h.execRingEnable, h.execRingDisable,
    h.execKickJoinWrite, h.execIllegalMove, h.execKickLineLow, h.execFuseOperationDone, h.execFuseSupplyLost,
    h.execTriplicatedRegisterDisagree]

end State.LeavesOpen

/-- Settles O60: the meaning of every command but SET_GATE of the port leaves the port's pass switch open when it is. -/
theorem onlySequencerClosesGate : Obligations.OnlySequencerClosesGate := by
  intro c p s t hc he hg
  obtain ⟨u, e, k⟩ := State.LeavesOpen.exec_endsOpen (P := (· ≠ p)) s c fun q vb vs0 rival e h => hc vb vs0 rival (h ▸ e)
  obtain rfl : u = t := by
    rw [he] at e
    exact (Host.Outcome.next.inj e).symm
  exact k.gate p (fun h => h rfl) hg

end Sys2Proof.Machine
end

section
/-! SUPPORT. What the release of the feed and service blocks leaves alone (R408), and the tile's link when it is lost (R20). -/
namespace Sys2Proof.Machine

theorem getLsbD_setBit {w : Nat} (v : BitVec w) (k i : Nat) (b : Bool) :
    (setBit v k b).getLsbD i = if i = k ∧ k < w then b else v.getLsbD i := by
  have bit : (BitVec.ofNat w (2 ^ k)).getLsbD i = decide (i < w ∧ k = i) := by
    rw [BitVec.getLsbD_ofNat, Nat.testBit_two_pow, Bool.decide_and]
  have high (h : ¬ i < w) : v.getLsbD i = false := BitVec.getLsbD_of_ge v i (by omega)
  unfold setBit
  cases b
  · simp only [Bool.false_eq_true, if_false, BitVec.getLsbD_and, BitVec.getLsbD_not, bit]
    grind
  · simp only [if_true, BitVec.getLsbD_or, bit]
    grind

/-! ### The feed and service blocks' release -/

theorem State.modFeed_feeds (s : State) (d : FeedId) (g : Feed → Feed) : ∃ a b, s.modFeed d g = { s with feedA := a, feedB := b } := by
  cases d <;> exact ⟨_, _, rfl⟩

theorem State.feedSelect_feeds (s : State) : ∃ a b, s.feedSelect = { s with feedA := a, feedB := b } := by
  unfold State.feedSelect
  split
  · exact ⟨_, _, rfl⟩
  · split
    · exact s.modFeed_feeds _ _
    · split
      · exact s.modFeed_feeds _ _
      · exact ⟨_, _, rfl⟩

theorem State.feedQualify_feeds (s : State) (d : FeedId) : ∃ a b, s.feedQualify d = { s with feedA := a, feedB := b } := by
  obtain ⟨a, b, h⟩ := s.modFeed_feeds d fun q => q.qualify s.board.seated s.aon
  obtain ⟨a', b', h'⟩ := State.feedSelect_feeds { s with feedA := a, feedB := b }
  exact ⟨a', b', by rw [State.feedQualify, h, h']⟩

@[simp] theorem State.feedQualify_ports (s : State) (d : FeedId) : (s.feedQualify d).ports = s.ports := by
  obtain ⟨a, b, h⟩ := s.feedQualify_feeds d
  rw [h]
@[simp] theorem State.feedQualify_tiles (s : State) (d : FeedId) : (s.feedQualify d).tiles = s.tiles := by
  obtain ⟨a, b, h⟩ := s.feedQualify_feeds d
  rw [h]
@[simp] theorem State.feedQualify_ref (s : State) (d : FeedId) : (s.feedQualify d).ref = s.ref := by
  obtain ⟨a, b, h⟩ := s.feedQualify_feeds d
  rw [h]
@[simp] theorem State.feedQualify_pwr (s : State) (d : FeedId) : (s.feedQualify d).pwr = s.pwr := by
  obtain ⟨a, b, h⟩ := s.feedQualify_feeds d
  rw [h]

@[simp] theorem State.releaseFeedSvc_ports (s : State) : s.releaseFeedSvc.ports = s.ports := by
  unfold State.releaseFeedSvc
  dsimp only
  split <;> simp [State.setPowered]
@[simp] theorem State.releaseFeedSvc_tiles (s : State) : s.releaseFeedSvc.tiles = s.tiles := by
  unfold State.releaseFeedSvc
  dsimp only
  split <;> simp [State.setPowered]
@[simp] theorem State.releaseFeedSvc_ref (s : State) : s.releaseFeedSvc.ref = s.ref := by
  unfold State.releaseFeedSvc
  dsimp only
  split <;> simp [State.setPowered]

/-- The release of the feed and service blocks lifts no other fence. -/
theorem State.releaseFeedSvc_fenced (s : State) {k : Nat} (n : k ≠ domFeed) (m : k ≠ domSvc) :
    s.releaseFeedSvc.domFenced k = s.domFenced k := by
  unfold State.releaseFeedSvc State.domFenced
  dsimp only
  split <;> simp [State.setPowered, getLsbD_setBit, n, m]

theorem State.releaseFeedSvc_of_fed {s : State} (h : s.domFenced domFeed = false) : s.releaseFeedSvc = s := by
  unfold State.releaseFeedSvc
  simp [h]

/-! ### The tile safe state and link loss -/

theorem State.portLost_frame (s : State) (p : PortId) : State.Frame (· = p) s (s.portLost p) := by
  unfold State.portLost
  have lost := ((s.queueFault_frame p 6 (BitVec.ofNat 32 (tileOf p).val)).trans (State.portForce_frame _ p)).trans
    ((State.endContract_frame _ p .errorRecovery).trans (State.attachEnds_frame _ p))
  exact .ite (s.queueFault_frame p _ _)
    ((lost.trans (State.modPort_frame _ p Port.unattached fun g => (congrArg Path.gate (Port.unattached_path _)).trans g)).trans (State.modSb_frame _ p _))

/-- What the ports of a tile that enters the safe state do leaves every tile's link. -/
theorem State.portsLost_frame (s : State) (l : List PortId) : State.Frame (fun _ => True) s (l.foldl State.portLost s) :=
  State.Frame.foldl State.portLost (fun s p => (s.portLost_frame p).mono fun _ _ => trivial) l s

@[simp] theorem State.raise_tiles (s : State) (v : Nat) : (s.raise v).tiles = s.tiles := by
  unfold State.raise
  split
  · rfl
  · split <;> rfl

@[simp] theorem State.refRecord_tiles (s : State) (c : Nat) (k : Option TileId) (p : Option PortId) : (s.refRecord c k p).tiles = s.tiles := by
  unfold State.refRecord
  dsimp only
  split <;> simp

theorem State.tileSafe_link (s : State) (t : TileId) : ((s.tileSafe t).tile t).link = (s.tile t).link := by
  unfold State.tileSafe
  split
  · rfl
  · dsimp only
    rw [State.setFence_eq, State.modPwr_tile, State.modTile_tile_self]
    have f := (s.portsLost_frame (portsOf t)).trans
      (State.finish_frame _ (fun w => w.what == .capture && (w.port.map tileOf) == some t) .fenced 0 [])
    obtain ⟨on, ph, c, e⟩ := f.tiles t
    rw [e]

/-- A link that is lost is lost at the hub as well (R20). -/
theorem State.linkLoss_link {s : State} {t : TileId} (h : (s.tile t).link = .up) : ((s.linkLoss t).tile t).link = .lost := by
  unfold State.linkLoss
  rw [h, if_neg (by decide)]
  dsimp only
  rw [State.tile_of_tiles (State.releaseFeedSvc_tiles _), State.tileSafe_link, State.tile_of_tiles (State.refRecord_tiles _ _ _ _), State.modTile_tile_self]

end Sys2Proof.Machine
end

section
/-! SUPPORT. Packets, resends and idle packets of a tile link (R16–R19). -/
namespace Sys2Proof.Machine

/-- Two updates of a tile that agree on the tile as it is come to the same state. -/
theorem State.modTile_congr (s : State) (t : TileId) {f g : Tile → Tile} (h : f (s.tile t) = g (s.tile t)) : s.modTile t f = s.modTile t g := by
  unfold State.modTile
  rw [h]

theorem linkOff_of_up {q : Tile} (h : q.link = .up) : q.linkOff = false := by
  unfold Tile.linkOff
  rw [h]
  rfl

theorem packetGood_own (h : BitVec 32) {pl : List (BitVec 32)} (short : pl.length ≤ 32) (len : hdrLen h = pl.length) :
    packetGood h pl (packetCrc h pl) = true := by
  simp [packetGood, short, len]

theorem packetGood_of_ne (h : BitVec 32) (pl : List (BitVec 32)) {c : BitVec 32} (bad : c ≠ packetCrc h pl) : packetGood h pl c = false := by
  simp [packetGood, bad]

/-! ### The packets in a direction -/

theorem listed_iff (l : List (Nat × Nat)) (n : Nat) : (l.any fun e => e.1 == n) = true ↔ ∃ e ∈ l, e.1 = n := by
  simp

theorem not_listed {l : List (Nat × Nat)} {n : Nat} (h : ∀ e ∈ l, e.1 ≠ n) : (l.any fun e => e.1 == n) = false := by
  simpa using h

theorem filter_unlisted {l : List (Nat × Nat)} {n : Nat} (h : ∀ e ∈ l, e.1 ≠ n) : (l.filter fun e => e.1 != n) = l := by
  simpa using h

theorem sendsOf_unlisted {l : List (Nat × Nat)} {n : Nat} (h : ∀ e ∈ l, e.1 ≠ n) : sendsOf l n = 1 := by
  have none : (l.find? fun e => e.1 == n) = none := by simpa using h
  rw [sendsOf, none]
  rfl

/-! ### What waits (R18) -/

theorem linkInsert_perm (x : LinkPkt) (l : List LinkPkt) : (linkInsert x l).Perm (x :: l) := by
  induction l with
  | nil => exact .refl _
  | cons y r ih =>
    unfold linkInsert
    split
    · exact .refl _
    · exact (ih.cons y).trans (.swap x y r)

theorem linkInsert_sorted (x : LinkPkt) {l : List LinkPkt} (h : l.Pairwise (fun a b => a.pri ≤ b.pri)) :
    (linkInsert x l).Pairwise (fun a b => a.pri ≤ b.pri) := by
  induction l with
  | nil => exact List.pairwise_singleton _ _
  | cons y r ih =>
    obtain ⟨first, rest⟩ := List.pairwise_cons.mp h
    unfold linkInsert
    split
    next lt =>
      refine List.pairwise_cons.mpr ⟨fun z hz => ?_, h⟩
      rcases List.mem_cons.mp hz with rfl | hz
      · omega
      · have := first z hz
        omega
    next ge =>
      refine List.pairwise_cons.mpr ⟨fun z hz => ?_, ih rest⟩
      rcases List.mem_cons.mp ((linkInsert_perm x r).mem_iff.mp hz) with rfl | hz
      · omega
      · exact first z hz

/-- A packet comes behind all of its own priority. -/
theorem linkInsert_filter (x : LinkPkt) {l : List LinkPkt} (h : l.Pairwise (fun a b => a.pri ≤ b.pri)) (n : Nat) :
    (linkInsert x l).filter (fun y => y.pri == n) = l.filter (fun y => y.pri == n) ++ if x.pri = n then [x] else [] := by
  induction l with
  | nil => by_cases e : x.pri = n <;> simp [linkInsert, e]
  | cons y r ih =>
    obtain ⟨first, rest⟩ := List.pairwise_cons.mp h
    unfold linkInsert
    split
    next lt =>
      by_cases e : x.pri = n
      · have none : (y :: r).filter (fun y => y.pri == n) = [] := by
          refine List.filter_eq_nil_iff.mpr fun z hz => ?_
          have : y.pri ≤ z.pri := by
            rcases List.mem_cons.mp hz with rfl | hz
            · exact Nat.le_refl _
            · exact first z hz
          simp only [beq_iff_eq]
          omega
        rw [List.filter_cons_of_pos (by simp [e]), none]
        simp [e]
      · rw [List.filter_cons_of_neg (by simp [e])]
        simp [e]
    next ge =>
      rw [List.filter_cons, List.filter_cons, ih rest]
      split <;> rfl

/-! ### The rows -/

theorem execTileLinkPacket_next {t : Fin 8} {toHub : Bool} {h : BitVec 32} (pl : List (BitVec 32)) (c : BitVec 32) {s : State}
    (up : (s.tile t).link = .up) (new : ∀ e ∈ (s.tile t).unacked toHub, e.1 ≠ hdrSeq h) (next : hdrSeq h = (s.tile t).nextSeq toHub) :
    execTileLinkPacket t toHub h pl c s = .next (s.modTile t fun q =>
      if q.windowOpen toHub then (q.setSeq toHub (hdrSeq h)).receive toHub (packetGood h pl c) (hdrSeq h)
      else (q.setSeq toHub (hdrSeq h)).setWaitQ toHub (linkInsert ⟨hdrPri h, hdrSeq h, packetGood h pl c⟩ (q.waitQ toHub))) := by
  unfold execTileLinkPacket
  dsimp only
  rw [linkOff_of_up up, if_neg (by decide), not_listed new, if_neg (by decide), if_pos (beq_iff_eq.mpr next)]
  rfl

theorem execTileLinkPacket_listed {t : Fin 8} {toHub : Bool} {h : BitVec 32} (pl : List (BitVec 32)) (c : BitVec 32) {s : State}
    (up : (s.tile t).link = .up) (listed : ∃ e ∈ (s.tile t).unacked toHub, e.1 = hdrSeq h) :
    execTileLinkPacket t toHub h pl c s = .next
      (if ! packetGood h pl c && decide (sendsOf ((s.tile t).unacked toHub) (hdrSeq h) ≥ 8) then
        (s.modTile t fun q => (q.setAck toHub (hdrSeq h, false)).crcFail).linkLoss t
      else s.modTile t fun q => (q.receive toHub (packetGood h pl c) (hdrSeq h)).drainWait toHub (q.waitQ toHub).length) := by
  unfold execTileLinkPacket
  dsimp only
  rw [linkOff_of_up up, if_neg (by decide), if_pos ((listed_iff _ _).mpr listed)]
  split <;> rfl

theorem execTileLinkResendTimeout_listed {t : Fin 8} {toHub : Bool} {n : Nat} {s : State} (up : (s.tile t).link = .up)
    (listed : ∃ e ∈ (s.tile t).unacked toHub, e.1 = n) :
    execTileLinkResendTimeout t toHub n s = .next
      (if sendsOf ((s.tile t).unacked toHub) n ≥ 8 then s.linkLoss t
      else s.modTile t fun q => { (q.setUnacked toHub (sendAgain (q.unacked toHub) n)).setSeq toHub (q.lastSeq toHub) with resend := q.resend.inc32 }) := by
  have l := (listed_iff _ _).mpr listed
  unfold execTileLinkResendTimeout
  dsimp only
  rw [linkOff_of_up up, if_neg (by decide), l]
  simp only [Bool.true_and, decide_eq_true_eq, Bool.true_or, if_true]
  split
  · rfl
  · exact congrArg Host.Outcome.next (s.modTile_congr t rfl)

theorem execTileLinkIdle_next {t : Fin 8} {toHub : Bool} {s : State} (up : (s.tile t).link = .up) (un : (s.tile t).unacked toHub = [])
    (idle : (s.tile t).waitQ toHub = []) :
    execTileLinkIdle t toHub s = .next (s.modTile t fun q => (q.setSeq toHub (q.nextSeq toHub)).setAck toHub (q.nextSeq toHub, true)) := by
  unfold execTileLinkIdle
  dsimp only
  rw [linkOff_of_up up, un, idle]
  rfl

/-- Settles O1: clause by clause, from what a packet, a resend and an idle packet come to. -/
theorem tileLinkPacketsAcknowledged : Obligations.TileLinkPacketsAcknowledged := by
  unfold Obligations.TileLinkPacketsAcknowledged
  refine ⟨?_, ?_, ?_, ?_, ?_, fun x l sorted => ⟨linkInsert_sorted x sorted, linkInsert_perm x l, linkInsert_filter x sorted⟩, ?_, ?_,
    fun t s up un idle => execTileLinkIdle_next up un idle, fun t s up un idle => execTileLinkIdle_next up un idle⟩
  · intro t h pl s up short len next new room
    refine (execTileLinkPacket_next (toHub := true) pl _ up new next).trans (congrArg Host.Outcome.next (s.modTile_congr t ?_))
    have isOpen : (s.tile t).windowOpen true = true := decide_eq_true room
    rw [if_pos isOpen, packetGood_own h short len]
    simp [Tile.receive, Tile.setUnacked, Tile.unacked, Tile.setAck, Tile.setSeq, filter_unlisted new]
  · intro t h pl s up short len listed idle
    refine (execTileLinkPacket_listed (toHub := false) pl _ up listed).trans ?_
    rw [packetGood_own h short len, if_neg (by simp)]
    refine congrArg Host.Outcome.next (s.modTile_congr t ?_)
    have none : (s.tile t).waitQ false = [] := idle
    rw [none]
    rfl
  · intro t h pl c s up bad next new room
    refine (execTileLinkPacket_next (toHub := true) pl _ up new next).trans (congrArg Host.Outcome.next (s.modTile_congr t ?_))
    have isOpen : (s.tile t).windowOpen true = true := decide_eq_true room
    rw [if_pos isOpen, packetGood_of_ne h pl bad]
    simp [Tile.receive, Tile.setUnacked, Tile.unacked, Tile.setAck, Tile.setSeq, Tile.crcFail, sendAgain, filter_unlisted new, sendsOf_unlisted new]
  · intro t h pl c s up bad listed eighth
    refine ⟨_, execTileLinkPacket_listed (toHub := true) pl _ up listed, ?_⟩
    rw [packetGood_of_ne h pl bad, if_pos (by simpa [Tile.unacked] using eighth)]
    exact State.linkLoss_link (by rw [State.modTile_tile_self]; exact up)
  · intro t h pl c s up next new full
    refine (execTileLinkPacket_next (toHub := true) pl _ up new next).trans (congrArg Host.Outcome.next (s.modTile_congr t ?_))
    rw [if_neg (by simp [Tile.windowOpen, Tile.unacked, full])]
    rfl
  · intro t n s up listed few
    refine (execTileLinkResendTimeout_listed (toHub := false) up listed).trans ?_
    rw [if_neg (by simpa [Tile.unacked] using few)]
    rfl
  · intro t n s up listed eighth
    refine ⟨_, execTileLinkResendTimeout_listed (toHub := true) up listed, ?_⟩
    rw [if_pos (by exact eighth)]
    exact State.linkLoss_link up

end Sys2Proof.Machine
end

section
/-! SUPPORT. What queued events, the end of a contract and the end of an attach leave of each port (R21, R177, R302). -/
namespace Sys2Proof.Machine

/-- From `s` to `u` the part `part` of every port stays as it is. -/
def State.Keeps {α : Type} (part : Port → α) (s u : State) : Prop := ∀ q, part (u.port q) = part (s.port q)

variable {α : Type} {part : Port → α} {s t u : State} {p : PortId}

namespace State.Keeps

theorem refl (part : Port → α) (s : State) : Keeps part s s := fun _ => rfl

theorem trans (h : Keeps part s t) (k : Keeps part t u) : Keeps part s u := fun q => (k q).trans (h q)

theorem frame (h : Keeps part s t) (k : State.Frame (fun _ => False) t u) : Keeps part s u := h.trans fun q => by rw [k.others q id]

theorem either {c : Prop} [Decidable c] (h : Keeps part s t) (k : Keeps part s u) : Keeps part s (if c then t else u) := by
  split <;> assumption

/-- An update of another part of a port; that it leaves this one is found by unfolding it. -/
theorem modPort {f : Port → Port} (h : Keeps part s t) (hf : ∀ q, part (f q) = part q := by exact fun _ => rfl) :
    Keeps part s (t.modPort p f) :=
  h.trans fun q => by
    rw [State.modPort_port]
    split
    next e => subst e; exact hf _
    · rfl

/-! ### Queued events: only the scheduler's record of the port changes (R302, R303) -/

section
variable (sc : ∀ q c, part { q with sc := c } = part q := by exact fun _ _ => rfl)
include sc

theorem enqueue {e : QEv} (h : Keeps part s t) : Keeps part s (t.enqueue p e) :=
  State.Keeps.trans (h.modPort (f := fun q => { q with sc := { q.sc with q := q.sc.q ++ [{ e with store := t.storeFor p e.cells }] } }) fun q => sc q _)
    fun q => (congrArg part (foldl_keeps (State.port · q) _ (fun s _ => s.unpoison_port _ _ _ q) _ _)).trans
      (congrArg part (State.unpoison_port _ _ _ _ q))

theorem queueFault {n : Nat} {d : Word} (h : Keeps part s t) : Keeps part s (t.queueFault p n d) :=
  State.Keeps.frame (either h (either (h.enqueue sc) (h.modPort fun q => sc q _))) (State.arrive_frame _)

theorem dropReport (h : Keeps part s t) : Keeps part s (t.dropReport p) := by
  unfold State.dropReport
  exact either (queueFault sc (State.Keeps.modPort (t := t.modCores _) h fun q => sc q _))
    (queueFault sc (State.Keeps.modPort (t := t.modCores _) h fun q => sc q _))

theorem queueEv {e : QEv} (h : Keeps part s t) : Keeps part s (t.queueEv p e) := by
  have a : Keeps part s t.arrive := h.frame (State.arrive_frame _)
  have counted : Keeps part s ((t.arrive.enqueue p e).modCores fun g => { g with minFree := min g.minFree (t.arrive.enqueue p e).freeCells }) :=
    a.enqueue sc
  unfold State.queueEv
  refine either a ?_
  split
  · exact a.queueFault sc
  · exact either (a.enqueue sc) (a.modPort fun q => sc q _)
  · exact either counted (a.dropReport sc)
  · exact either counted a
  · exact either (a.modPort fun q => sc q _) (either (a.enqueue sc) (a.modPort fun q => sc q _))

theorem queueMsg {n : Nat} {d : Word} (h : Keeps part s t) : Keeps part s (t.queueMsg p n d) := h.queueEv sc

end

/-! ### The end of a contract, of discovery and of a message sequence -/

section
variable (pd : ∀ q d o r c, part { q with pd := d, pol := o, rally := r, sc := c } = part q := by exact fun _ _ _ _ _ => rfl)
include pd

theorem reportHold (h : Keeps part s t) : Keeps part s (t.reportHold p) := by
  unfold State.reportHold
  dsimp only
  split
  · exact either h (State.Keeps.queueEv (fun q c => pd q q.pd q.pol q.rally c) (h.modPort fun q => pd q _ _ q.rally q.sc))
  · exact h

theorem pdStop (h : Keeps part s t) : Keeps part s (t.pdStop p) := by
  have k (f : Pd → Pd) : Keeps part s ((t.reportHold p).modPd p f) := (h.reportHold pd).modPort fun q => pd q _ q.pol q.rally q.sc
  unfold State.pdStop
  exact either ((k _).queueMsg fun q c => pd q q.pd q.pol q.rally c) (k _)

theorem rallyEnd {b : Bool} (h : Keeps part s t) : Keeps part s (t.rallyEnd p b) :=
  either ((h.modPort fun q => pd q q.pd q.pol _ q.sc).frame (State.postEvt_frame _ _ _)) (h.modPort fun q => pd q q.pd q.pol _ q.sc)

theorem endContract {c : LostCause} (h : Keeps part s t) : Keeps part s (t.endContract p c) := by
  have k (f : Pol → Pol) : Keeps part s (t.modPol p f) := h.modPort fun q => pd q q.pd _ q.rally q.sc
  exact either (k _) (either ((k _).modPort fun q => pd q q.pd q.pol q.rally _) ((k _).frame (State.postEvt_frame _ _ _)))

end

theorem attachEnds
    (all : ∀ q d o r c b x, part { q with pd := d, pol := o, rally := r, sc := c, sb := b, path := x } = part q := by exact fun _ _ _ _ _ _ _ => rfl)
    (h : Keeps part s t) : Keeps part s (t.attachEnds p) := by
  have pd q d o r c : part { q with pd := d, pol := o, rally := r, sc := c } = part q := all q d o r c q.sb q.path
  have k : Keeps part s ((t.rallyEnd p false).pdStop p) := (h.rallyEnd pd).pdStop pd
  unfold State.attachEnds
  exact State.Keeps.frame (k.modPort fun q => all q _ _ _ q.sc _ _) (State.abortDescs_frame _ p _)

theorem portForce
    (all : ∀ q x m c, part { q with path := x, smp := m, sc := c } = part q := by exact fun _ _ _ _ => rfl)
    (h : Keeps part s t) : Keeps part s (t.portForce p) := by
  have cal : Keeps part s (t.calAbort p) :=
    either (State.Keeps.modPort (t := t.modTile _ _) (fun q => h q) fun q => all q q.path _ q.sc) h
  have path {u : State} (f : Path → Path) (k : Keeps part s u) : Keeps part s (u.modPath p f) := k.modPort fun q => all q _ q.smp q.sc
  have table : Keeps part s ((t.calAbort p).abandonTable p) :=
    either (State.Keeps.queueMsg (fun q c => all q q.path q.smp c) (path _ (path _ cal))) (path _ cal)
  exact path _ table

end State.Keeps

/-! ### The power path itself -/

/-- A path made safe by force holds nothing of the table it abandons (R165, R183). -/
theorem State.portForce_path (s : State) (p : PortId) : ∃ g, ((s.portForce p).port p).path =
    { (s.port p).path with run := false, waiting := false, queued := none, moved := false, lastSignal := g }.forceSafe := by
  unfold State.portForce State.abandonTable
  dsimp only
  split
  · refine ⟨some .refused, ?_⟩
    rw [State.modPath_eq, State.modPort_port_self, State.sigSend_path]
    simp [State.calAbort_path]
  · refine ⟨(s.port p).path.lastSignal, ?_⟩
    simp [State.calAbort_path]

/-- The end of an attach lifts the VCONN lock and the hard limit, and changes nothing else of the power path. -/
theorem State.attachEnds_path (s : State) (p : PortId) :
    ((s.attachEnds p).port p).path = { (s.port p).path with vcLocked := false, hardLimit := none } := by
  have k : State.Keeps (·.path) s ((s.rallyEnd p false).pdStop p) := ((State.Keeps.refl _ s).rallyEnd).pdStop
  unfold State.attachEnds
  dsimp only
  rw [(State.abortDescs_frame (P := fun _ => False) _ p _).others p id, State.modPort_port_self]
  simp only [k p]

end Sys2Proof.Machine
end

section
/-! SUPPORT. A tile's ports, one by one, and what the tile safe state and link loss make of them (R20, R21). -/
namespace Sys2Proof.Machine

/-! ### The ports of a tile (R8) -/

theorem tileOf_portAt (t : TileId) (l : Fin 24) : tileOf (portAt t l) = t := by
  refine Fin.ext ?_
  have := l.isLt
  simp only [tileOf, portAt]
  omega

theorem portAt_mem (t : TileId) (l : Fin 24) : portAt t l ∈ portsOf t := List.mem_map_of_mem (List.mem_finRange l)

theorem portsOf_nodup (t : TileId) : (portsOf t).Nodup :=
  (List.nodup_finRange 24).map fun a b h => Fin.ext (by simpa [portAt] using h)

theorem State.Frame.foldl_mem {f : State → PortId → State} (hf : ∀ s p, State.Frame (· = p) s (f s p)) (l : List PortId) (s : State) :
    State.Frame (· ∈ l) s (l.foldl f s) := by
  induction l generalizing s with
  | nil => exact .refl _ s
  | cons a l ih =>
    exact ((hf s a).mono fun q e => e ▸ List.mem_cons_self).trans ((ih _).mono fun q m => List.mem_cons_of_mem a m)

/-- Among operations that each act on a port of its own, the one on `p` finds `p` as it was, and the others leave what it makes. -/
theorem State.Frame.foldl_at {f : State → PortId → State} (hf : ∀ s p, State.Frame (· = p) s (f s p)) {l : List PortId} (nd : l.Nodup)
    {p : PortId} (hp : p ∈ l) (s : State) : ∃ v, State.Frame (· ≠ p) s v ∧ (l.foldl f s).port p = (f v p).port p := by
  induction l generalizing s with
  | nil => cases hp
  | cons a l ih =>
    obtain ⟨new, nd⟩ := List.nodup_cons.mp nd
    by_cases e : a = p
    · subst e
      exact ⟨s, .refl _ s, (State.Frame.foldl_mem hf l _).others a new⟩
    · obtain ⟨v, k, h⟩ := ih nd ((List.mem_cons.mp hp).resolve_left (Ne.symm e)) (f s a)
      exact ⟨v, ((hf s a).mono fun q h => h ▸ e).trans k, h⟩

/-! ### One port of a tile that is lost -/

theorem State.portLost_bootSink {s : State} {p : PortId} (h : (s.port p).cc.state = .bootSink) :
    s.portLost p = s.queueFault p 6 (BitVec.ofNat 32 (tileOf p).val) := by
  unfold State.portLost
  simp [h]

/-- A port's path in the tile safe state (R21): the switch open, the window OFF, VCONN off, the target at 5 V and the discharge on. -/
def Path.isSafe (q : Path) : Prop :=
  q.gate = false ∧ q.window = .off ∧ q.vconn = 0 ∧ q.target = 5000 ∧ q.dis = true ∧ q.disTrip = true

theorem Port.unattached_rp (q : Port) (sink : q.cc.state ≠ .bootSink) (rd : q.cc.state ≠ .bootRd) : q.unattached.cc.rp = .off := by
  unfold Port.unattached
  split
  next e => exact absurd e sink
  next e => exact absurd e rd
  all_goals rfl

theorem State.portForce_safe (s : State) (p : PortId) : ((s.portForce p).port p).path.isSafe := by
  obtain ⟨g, h⟩ := s.portForce_path p
  rw [h]
  exact ⟨rfl, rfl, rfl, rfl, rfl, rfl⟩

theorem State.endContract_path (s : State) (p : PortId) (c : LostCause) (q : PortId) : ((s.endContract p c).port q).path = (s.port q).path :=
  State.Keeps.endContract (part := (·.path)) (fun _ _ _ _ _ => rfl) (.refl _ s) q

theorem State.attachEnds_safe {s : State} {p : PortId} (h : (s.port p).path.isSafe) : ((s.attachEnds p).port p).path.isSafe := by
  rw [State.attachEnds_path]
  exact h


/-- A port of a lost tile that is no BOOT_SINK, before its reserve is counted anew (R21). -/
def State.portLeft (s : State) (p : PortId) : State :=
  (((s.queueFault p 6 (BitVec.ofNat 32 (tileOf p).val)).portForce p).endContract p .errorRecovery).attachEnds p

theorem State.portLost_eq {s : State} {p : PortId} (h : (s.port p).cc.state ≠ .bootSink) :
    s.portLost p = ((s.portLeft p).modPort p Port.unattached).modSb p fun b => { b with lost := true } := by
  unfold State.portLost State.portLeft
  rw [if_neg (by simpa using h)]

theorem State.portLeft_safe (s : State) (p : PortId) : ((s.portLeft p).port p).path.isSafe :=
  State.attachEnds_safe (by rw [State.endContract_path]; exact State.portForce_safe _ p)

theorem State.portLeft_cc (s : State) (p : PortId) : ((s.portLeft p).port p).cc = (s.port p).cc :=
  State.Keeps.attachEnds (part := (·.cc)) (fun _ _ _ _ _ _ _ => rfl)
    (State.Keeps.refl (·.cc) s).queueFault.portForce.endContract p

theorem State.portLost_safe {s : State} {p : PortId} (h : (s.port p).cc.state ≠ .bootSink) :
    ((s.portLost p).port p).path.isSafe ∧ ((s.port p).cc.state ≠ .bootRd → ((s.portLost p).port p).cc.rp = .off) := by
  have cc := s.portLeft_cc p
  have safe := s.portLeft_safe p
  rw [State.portLost_eq h, State.modSb_eq, State.modPort_port_self, State.modPort_port_self]
  generalize (s.portLeft p).port p = q at cc safe
  dsimp only
  refine ⟨?_, fun rd => q.unattached_rp ?_ ?_⟩
  · rw [q.unattached_path]
    exact safe
  · rw [cc]
    exact h
  · rw [cc]
    exact rd

end Sys2Proof.Machine
end

section
/-! SUPPORT. The tile safe state, its end and the reload of a tile (R20–R24, R514). -/
namespace Sys2Proof.Machine

theorem domTile_ne_domFeed (t : TileId) : domTile t ≠ domFeed := by
  unfold domTile domFeed
  omega

theorem domTile_ne_domSvc (t : TileId) : domTile t ≠ domSvc := by
  unfold domTile domSvc
  omega

/-! ### Entering the tile safe state -/

@[simp] theorem State.raise_ports (s : State) (v : Nat) : (s.raise v).ports = s.ports := (s.raise_frame v).ports

@[simp] theorem State.refRecord_ports (s : State) (c : Nat) (k : Option TileId) (p : Option PortId) : (s.refRecord c k p).ports = s.ports := by
  unfold State.refRecord
  dsimp only
  split <;> simp

@[simp] theorem State.raise_ref (s : State) (v : Nat) : (s.raise v).ref = s.ref := by
  unfold State.raise
  split
  · rfl
  · split <;> rfl

theorem State.refRecord_fault (s : State) (c : Nat) (k : Option TileId) (p : Option PortId) :
    (s.refRecord c k p).ref.fault = setBit s.ref.fault c true := by
  unfold State.refRecord
  dsimp only
  split <;> simp <;> split <;> rfl

/-- The ports of a tile that enters the safe state, and its capture. -/
def State.tileParts (s : State) (t : TileId) : State :=
  ((portsOf t).foldl State.portLost s).finish (fun w => w.what == .capture && (w.port.map tileOf) == some t) .fenced 0 []

theorem State.tileParts_frame (s : State) (t : TileId) : State.Frame (· ∈ portsOf t) s (s.tileParts t) :=
  (State.Frame.foldl_mem State.portLost_frame (portsOf t) s).trans (State.finish_frame _ _ _ _ _)

theorem State.tileSafe_eq {s : State} {t : TileId} (h : (s.tile t).safe = false) : s.tileSafe t =
    ((s.tileParts t).modTile t fun q =>
      { q with safe := true, lost := true, reloaded := false, cap := none, safeAt := s.aon, rotKept := s.rotWord t }).setFence (domTile t) true := by
  unfold State.tileSafe State.tileParts
  rw [if_neg (by simp [h])]

theorem State.tileSafe_fenced {s : State} {t : TileId} (h : (s.tile t).safe = false) : (s.tileSafe t).tileFenced t = true := by
  have := t.isLt
  rw [State.tileSafe_eq h]
  simp [State.tileFenced, State.domFenced, getLsbD_setBit, domTile]
  omega

theorem State.tileSafe_fault (s : State) (t : TileId) : (s.tileSafe t).ref.fault = s.ref.fault := by
  cases h : (s.tile t).safe
  · obtain ⟨b, c, e⟩ := (s.tileParts_frame t).referee
    rw [State.tileSafe_eq h, State.setFence_eq, State.modPwr_ref, State.modTile_ref, e]
  · unfold State.tileSafe
    rw [if_pos h]

theorem State.tileSafe_tile {s : State} {t : TileId} (h : (s.tile t).safe = false) :
    ((s.tileSafe t).tile t).safe = true ∧ ((s.tileSafe t).tile t).loss = (s.tile t).loss := by
  obtain ⟨on, ph, c, e⟩ := (s.tileParts_frame t).tiles t
  rw [State.tileSafe_eq h, State.setFence_eq, State.modPwr_tile, State.modTile_tile_self, e]
  exact ⟨rfl, rfl⟩

/-- A port of a tile that enters the safe state is lost, from what it was. -/
theorem State.tileSafe_port {s : State} {t : TileId} (h : (s.tile t).safe = false) (l : Fin 24) :
    ∃ v : State, v.port (portAt t l) = s.port (portAt t l) ∧ (s.tileSafe t).port (portAt t l) = (v.portLost (portAt t l)).port (portAt t l) := by
  obtain ⟨v, k, e⟩ := State.Frame.foldl_at State.portLost_frame (portsOf_nodup t) (portAt_mem t l) s
  refine ⟨v, k.others _ (by simp), ?_⟩
  rw [State.tileSafe_eq h, State.setFence_eq, State.modPwr_port, State.modTile_port, State.tileParts,
    (State.finish_frame (P := fun _ => False) _ _ _ _ _).others _ id, e]

/-! ### Link loss -/

/-- The state in which a lost link's tile enters the safe state (R20, R383). -/
def State.linkLost (s : State) (t : TileId) : State :=
  (s.modTile t fun q => { q.linkClear with link := .lost, loss := q.loss.inc32, reloaded := false, restart := true }).refRecord 0x07 (some t) none

theorem State.linkLoss_eq {s : State} {t : TileId} (up : (s.tile t).link = .up) :
    s.linkLoss t = ((s.linkLost t).tileSafe t).releaseFeedSvc := by
  unfold State.linkLoss State.linkLost
  rw [up, if_neg (by decide)]

theorem State.linkLost_tile (s : State) (t : TileId) :
    (s.linkLost t).tile t = { (s.tile t).linkClear with link := .lost, loss := (s.tile t).loss.inc32, reloaded := false, restart := true } := by
  unfold State.linkLost
  rw [State.tile_of_tiles (State.refRecord_tiles _ _ _ _), State.modTile_tile_self]

theorem State.linkLost_port (s : State) (t : TileId) (q : PortId) : (s.linkLost t).port q = s.port q := by
  unfold State.linkLost
  rw [State.port_of_ports (State.refRecord_ports _ _ _ _), State.modTile_port]

/-- What link loss leaves of a port of the tile is what losing the tile makes of the port as it was. -/
theorem State.linkLoss_port {s : State} {t : TileId} (up : (s.tile t).link = .up) (safe : (s.tile t).safe = false) (l : Fin 24) :
    ∃ v : State, v.port (portAt t l) = s.port (portAt t l) ∧ (s.linkLoss t).port (portAt t l) = (v.portLost (portAt t l)).port (portAt t l) := by
  obtain ⟨v, k, e⟩ := State.tileSafe_port (s := s.linkLost t) (t := t) (by rw [State.linkLost_tile]; exact safe) l
  refine ⟨v, k.trans (s.linkLost_port t _), ?_⟩
  rw [State.linkLoss_eq up, State.port_of_ports (State.releaseFeedSvc_ports _), e]

theorem linkLoss_makesSafe {t : Fin 8} {l : Fin 24} {s : State} (up : (s.tile t).link = .up) (safe : (s.tile t).safe = false)
    (sink : (s.port (portAt t l)).cc.state ≠ .bootSink) :
    ((s.linkLoss t).port (portAt t l)).path.isSafe ∧
      ((s.port (portAt t l)).cc.state ≠ .bootRd → ((s.linkLoss t).port (portAt t l)).cc.rp = .off) := by
  obtain ⟨v, k, e⟩ := State.linkLoss_port up safe l
  rw [e, ← k]
  exact State.portLost_safe (k ▸ sink)

theorem linkLoss_ofTile {t : Fin 8} {s : State} (up : (s.tile t).link = .up) (safe : (s.tile t).safe = false) :
    ((s.linkLoss t).tile t).safe = true ∧ (s.linkLoss t).tileFenced t = true ∧ ((s.linkLoss t).tile t).loss = (s.tile t).loss.inc32 ∧
      (s.linkLoss t).ref.fault.getLsbD 7 = true := by
  have unsafe_ : ((s.linkLost t).tile t).safe = false := by rw [State.linkLost_tile]; exact safe
  obtain ⟨isSafe, loss⟩ := State.tileSafe_tile unsafe_
  rw [State.linkLoss_eq up, State.tile_of_tiles (State.releaseFeedSvc_tiles _), State.releaseFeedSvc_ref]
  refine ⟨isSafe, ?_, ?_, ?_⟩
  · exact (State.releaseFeedSvc_fenced _ (domTile_ne_domFeed t) (domTile_ne_domSvc t)).trans (State.tileSafe_fenced unsafe_)
  · rw [loss, State.linkLost_tile]
  · rw [State.tileSafe_fault, State.linkLost, State.refRecord_fault]
    simp [getLsbD_setBit]

/-- Of a BOOT_SINK nothing changes but its event queue (R21). -/
theorem linkLoss_bootSink {t : Fin 8} {l : Fin 24} {s : State} (up : (s.tile t).link = .up) (safe : (s.tile t).safe = false)
    (sink : (s.port (portAt t l)).cc.state = .bootSink) {α : Type} (part : Port → α) (sc : ∀ q c, part { q with sc := c } = part q) :
    part ((s.linkLoss t).port (portAt t l)) = part (s.port (portAt t l)) := by
  obtain ⟨v, k, e⟩ := State.linkLoss_port up safe l
  rw [e, State.portLost_bootSink (k ▸ sink), ← k]
  exact State.Keeps.queueFault sc (.refl part v) _

/-! ### The reload -/

theorem State.leaveHold_frame (s : State) (p : PortId) : State.Frame (· = p) s (s.leaveHold p) := by
  have begun := (s.reportHold_frame p).trans (State.modPd_frame _ p fun q =>
    { q with table := s.selTable p, entry := 0, waiting := false, resume := false, tableReq := false, last := .none })
  have goes (x : PolState) := begun.trans (State.modPol_frame _ p fun q => { q with state := x, expect := .none })
  unfold State.leaveHold
  exact .ite (.refl _ s) (.ite begun (.ite (goes _) (.ite (goes _) (.ite (goes _) (.ite (goes _) (begun.trans (State.sendOffer_frame _ p _ _)))))))

/-- An update of one port that leaves the port's path alone touches that port only. -/
theorem State.modPort_frame_of_path (s : State) (p : PortId) (f : Port → Port) (h : ∀ q, (f q).path = q.path) :
    State.Frame (· = p) s (s.modPort p f) :=
  s.modPort_frame p f fun g => (congrArg Path.gate (h _)).trans g

theorem State.holdAnswer_frame (s : State) (p : PortId) (m : Msg) : State.Frame (· = p) s (s.holdAnswer p m) := by
  unfold State.holdAnswer
  refine .ite (s.modPd_frame p _) (.ite (.ite (.refl _ s) (.ite ((s.modPd_frame p _).trans (State.modPd_frame _ p _))
    ((s.modPd_frame p _).trans (State.leaveHold_frame _ p)))) (.ite (s.modPd_frame p _) ?_))
  exact (State.Frame.ite (((s.reportHold_frame p).trans (State.modPort_frame_of_path _ p _ (by exact fun _ => rfl))).trans (State.queueMsg_frame _ p _ _))
    (s.reportHold_frame p)).trans (State.modPd_frame _ p _)

theorem State.enterHold_frame (s : State) (p : PortId) : State.Frame (· = p) s (s.enterHold p) := by
  have finished (s : State) (k : WaitFor) (c : CplCode) : State.Frame (· = p) s (s.finishPort p k c []) := s.finishPort_frame p k c []
  unfold State.enterHold
  extract_lets q drop code s0 s1 s2
  have h0 : State.Frame (· = p) s s0 := (((finished _ _ _).trans (finished _ _ _)).trans (finished _ _ _)).trans (finished _ _ _)
  have h1 : State.Frame (· = p) s s1 := h0.trans (s0.modPort_frame_of_path p _ (by exact fun _ => rfl))
  have h2 : State.Frame (· = p) s s2 := .ite (h1.trans (s1.queueMsg_frame p _ _)) h1
  split
  · exact h2.trans (s2.holdAnswer_frame p _)
  · exact h2

theorem State.idleChange_frame (s : State) (p : PortId) : State.Frame (· = p) s (s.idleChange p) :=
  .ite (.ite (s.enterHold_frame p) (.ite (s.modPd_frame p _) (.refl _ s))) (.refl _ s)

/-- The fences, and whether a tile is in the tile safe state. -/
def State.fencesAndSafe (t : TileId) (s : State) : BitVec 14 × Bool := (s.pwr.fenced, (s.tile t).safe)

theorem State.Frame.fencesAndSafe {P : PortId → Prop} {s u : State} (h : State.Frame P s u) (t : TileId) :
    u.fencesAndSafe t = s.fencesAndSafe t := by
  obtain ⟨d, e⟩ := h.power
  obtain ⟨on, ph, c, e'⟩ := h.tiles t
  simp only [State.fencesAndSafe, e, e']

theorem State.modTile_fencesAndSafe (s : State) (t k : TileId) {f : Tile → Tile} (h : ∀ q, (f q).safe = q.safe := by exact fun _ => rfl) :
    (s.modTile k f).fencesAndSafe t = s.fencesAndSafe t := by
  simp only [State.fencesAndSafe, State.modTile_pwr, State.modTile_tile]
  split
  next e => rw [h, e]
  · rfl

/-- A tile that takes up the settings in force keeps its fence and its safe state. -/
theorem State.tileTakeUp_fencesAndSafe (s : State) (t : TileId) (o : TileHeld) (ram : Bool) :
    (s.tileTakeUp t o ram).fencesAndSafe t = s.fencesAndSafe t := by
  unfold State.tileTakeUp
  extract_lets c s1 kept s2
  have h1 : s1.fencesAndSafe t = s.fencesAndSafe t := by
    unfold s1
    split
    · exact foldl_keeps _ _ (fun s p => (s.modCc_frame p _).fencesAndSafe t) _ _
    · rfl
  have h2 : s2.fencesAndSafe t = s.fencesAndSafe t := by
    have slicer : kept.fencesAndSafe t = s.fencesAndSafe t := (s1.modTile_fencesAndSafe t t).trans h1
    unfold s2
    split
    · exact h1
    · split
      · exact (foldl_keeps _ _ (fun s p => (s.modPd_frame p _).fencesAndSafe t) _ _).trans slicer
      · exact slicer
  split
  · exact h2
  · exact (foldl_keeps _ _ (fun s p => ((s.modPd_frame p _).trans (State.idleChange_frame _ p)).fencesAndSafe t) _ _).trans
      ((s2.modTile_fencesAndSafe t t).trans h2)

theorem State.tileCatchUp_fencesAndSafe (s : State) (t : TileId) : (s.tileCatchUp t).fencesAndSafe t = s.fencesAndSafe t :=
  (State.tileTakeUp_fencesAndSafe _ t _ _).trans (s.modTile_fencesAndSafe t t)

/-- A tile in the tile safe state that has been reloaded stays in it, fenced (R22, R23). -/
theorem execTileReloadDone_safe {t : Fin 8} {s : State} (reloading : (s.tile t).link = .reloading) (safe : (s.tile t).safe = true)
    (fed : s.domFenced domFeed = false) :
    execTileReloadDone t s = .next ((s.tileCatchUp t).modTile t fun q => { q with link := .up, reloaded := true }) := by
  obtain ⟨fences, isSafe⟩ := Prod.ext_iff.mp (s.tileCatchUp_fencesAndSafe t)
  have stays : ((s.tileCatchUp t).tile t).safe = true := isSafe.trans safe
  have feeds : (s.tileCatchUp t).domFenced domFeed = false := (congrArg (·.getLsbD domFeed) fences).trans fed
  unfold execTileReloadDone
  rw [if_pos (by rw [reloading]; rfl)]
  simp only [State.modTile_tile_self, stays, if_true]
  exact congrArg Host.Outcome.next (State.releaseFeedSvc_of_fed feeds)

/-! ### The end of the tile safe state -/

theorem State.Frame.selTable {P : PortId → Prop} {s u : State} (h : State.Frame P s u) (p : PortId) : u.selTable p = s.selTable p := by
  obtain ⟨on, ph, c, e⟩ := h.tiles (tileOf p)
  unfold State.selTable State.tileCfg State.tileNow
  rw [e]
  cases (s.tile (tileOf p)).held <;> rfl

theorem State.unattached_frame (s : State) (p : PortId) : State.Frame (· = p) s (s.modPort p Port.unattached) :=
  s.modPort_frame_of_path p _ Port.unattached_path

theorem State.tileReset_frame (s : State) (p : PortId) : State.Frame (· = p) s (s.modPort p fun q => q.tileReset (s.selTable p)) :=
  s.modPort_frame p _ fun _ => rfl

/-- The ports of a tile that leaves the tile safe state come back unattached, TAn having been reset where link or supply was lost. -/
theorem State.tileSafeExit_port (s : State) (t : TileId) (l : Fin 24) :
    ((portsOf t).foldl (fun s p => s.modPort p Port.unattached) s).port (portAt t l) = (s.port (portAt t l)).unattached := by
  obtain ⟨v, k, e⟩ := State.Frame.foldl_at State.unattached_frame (portsOf_nodup t) (portAt_mem t l) s
  rw [e, State.modPort_port_self, k.others _ (by simp)]

theorem State.tileRestart_port (s : State) (t : TileId) (l : Fin 24) :
    (s.tileRestart t).port (portAt t l) = (s.port (portAt t l)).tileReset (s.selTable (portAt t l)) := by
  obtain ⟨v, k, e⟩ := State.Frame.foldl_at State.tileReset_frame (portsOf_nodup t) (portAt_mem t l) s
  unfold State.tileRestart
  rw [State.modPwr_port, State.modTile_port, State.modTile_port, e, State.modPort_port_self, k.others _ (by simp), k.selTable]

end Sys2Proof.Machine
end

section
/-! SUPPORT. Link loss and the way back, clause by clause (R20–R24, R514). -/
namespace Sys2Proof.Machine

theorem Port.unattached_pd (q : Port) : q.unattached.pd = q.pd := by
  unfold Port.unattached
  split <;> rfl

theorem Port.unattached_attached {q : Port} (h : q.cc.state = .attached) :
    q.unattached.cc.state = if q.pol.enabled = true then .watch else .disabled := by
  unfold Port.unattached
  split
  next e => cases h.symm.trans e
  next e => cases h.symm.trans e
  next e => cases h.symm.trans e
  next e => cases h.symm.trans e
  · rfl

/-- A tile restarts where its link or its supply was lost (R406). -/
def State.restarted (s : State) (t : TileId) : State := if (s.tile t).restart then s.tileRestart t else s
/-- The ports of a tile become unattached. -/
def State.unattachPorts (s : State) (t : TileId) : State := (portsOf t).foldl (fun s p => s.modPort p Port.unattached) s
/-- A tile leaves the tile safe state (R23). -/
def State.leaveSafe (s : State) (t : TileId) : State :=
  (((s.restarted t).unattachPorts t).modTile t fun q => { q with safe := false, lost := false }).setFence (domTile t) false

theorem execTileSafeExit_next {t : Fin 8} {s : State} (safe : (s.tile t).safe = true) (wires : (s.tile t).wires = []) (up : (s.tile t).link = .up)
    (reloaded : (s.tile t).reloaded = true) (held : msCycles 40 ≤ s.aon - (s.tile t).safeAt) : execTileSafeExit t s = .next (s.leaveSafe t) := by
  unfold execTileSafeExit
  dsimp only
  rw [if_pos (by simp [safe, wires, up, reloaded, held])]
  rfl

/-- What no update of a port touches, a round of updates of ports does not. -/
theorem State.foldl_modPort_keeps {α : Type} (part : State → α) (h : ∀ s p f, part (State.modPort s p f) = part s) (g : State → PortId → Port → Port)
    (l : List PortId) (s : State) : part (l.foldl (fun s p => s.modPort p (g s p)) s) = part s :=
  foldl_keeps part _ (fun s p => h s p (g s p)) l s

theorem State.unattachPorts_keeps {α : Type} (part : State → α) (h : ∀ s p f, part (State.modPort s p f) = part s) (s : State) (t : TileId) :
    part (s.unattachPorts t) = part s := State.foldl_modPort_keeps part h (fun _ _ => Port.unattached) _ s

theorem State.tileRestart_cores (s : State) (t : TileId) : (s.tileRestart t).cores = s.cores := by
  have ports := State.foldl_modPort_keeps State.cores (fun _ _ _ => rfl) (fun s p q => q.tileReset (s.selTable p)) (portsOf t) s
  unfold State.tileRestart
  rw [State.modPwr_cores, State.modTile_cores, State.modTile_cores, ports]

theorem State.tileRestart_cause (s : State) (t : TileId) : (s.tileRestart t).pwr.cause = setBit s.pwr.cause 5 true := by
  have ports := State.foldl_modPort_keeps State.pwr (fun _ _ _ => rfl) (fun s p q => q.tileReset (s.selTable p)) (portsOf t) s
  unfold State.tileRestart
  rw [State.modPwr_pwr, State.modTile_pwr, State.modTile_pwr, ports]

theorem State.tileRestart_restart (s : State) (t : TileId) : ((s.tileRestart t).tile t).restart = false := by
  unfold State.tileRestart
  rw [State.modPwr_tile, State.modTile_tile_self]

theorem State.leaveSafe_cores (s : State) (t : TileId) : (s.leaveSafe t).cores = s.cores := by
  unfold State.leaveSafe State.restarted
  rw [State.setFence_eq, State.modPwr_cores, State.modTile_cores, State.unattachPorts_keeps State.cores fun _ _ _ => rfl]
  split
  · exact s.tileRestart_cores t
  · rfl

theorem State.leaveSafe_tile (s : State) (t : TileId) :
    (s.leaveSafe t).tile t = { (s.restarted t).tile t with safe := false, lost := false } := by
  unfold State.leaveSafe
  rw [State.setFence_eq, State.modPwr_tile, State.modTile_tile_self, State.unattachPorts_keeps (State.tile · t) fun _ _ _ => rfl]

theorem State.leaveSafe_fenced (s : State) (t : TileId) : (s.leaveSafe t).tileFenced t = false := by
  have := t.isLt
  unfold State.leaveSafe
  rw [State.setFence_eq]
  simp [State.tileFenced, State.domFenced, getLsbD_setBit, domTile]
  omega

theorem State.leaveSafe_cause (s : State) (t : TileId) : (s.leaveSafe t).pwr.cause = (s.restarted t).pwr.cause := by
  unfold State.leaveSafe
  rw [State.setFence_eq, State.modPwr_pwr, State.modTile_pwr, State.unattachPorts_keeps State.pwr fun _ _ _ => rfl]

theorem State.leaveSafe_port (s : State) (t : TileId) (l : Fin 24) :
    (s.leaveSafe t).port (portAt t l) = ((s.restarted t).port (portAt t l)).unattached := by
  unfold State.leaveSafe
  rw [State.setFence_eq, State.modPwr_port, State.modTile_port]
  exact State.tileSafeExit_port _ t l

/-- Settles O2: link loss from what the tile safe state does to each port, the way back row by row. -/
theorem linkLossAndReturn : Obligations.LinkLossAndReturn := by
  unfold Obligations.LinkLossAndReturn
  refine ⟨fun t l s up safe sink => ?_, fun t l s up safe sink => ?_, fun t s lost on => ?_, fun t s training wires => ?_,
    fun t s reloading safe fed => execTileReloadDone_safe reloading safe fed, fun t s wires up digests => ?_,
    fun t s wires up early held => ?_, fun t s => rfl, fun t l s safe wires up reloaded held => ?_⟩
  · obtain ⟨⟨gate, window, vconn, target, dis, disTrip⟩, rp⟩ := linkLoss_makesSafe up safe sink
    obtain ⟨isSafe, fenced, loss, fault⟩ := linkLoss_ofTile up safe
    exact ⟨_, rfl, State.linkLoss_link up, isSafe, fenced, loss, fault, gate, window, vconn, target, dis, disTrip, rp⟩
  · exact ⟨_, rfl, linkLoss_bootSink up safe sink (·.cc) fun _ _ => rfl, linkLoss_bootSink up safe sink (·.path) fun _ _ => rfl,
      linkLoss_bootSink up safe sink (·.pol) fun _ _ => rfl⟩
  · exact if_pos (by rw [lost, on]; rfl)
  · refine (if_pos (by rw [training]; rfl)).trans (congrArg Host.Outcome.next (s.modTile_congr t ?_))
    simp [Tile.linkClear, wires]
  · refine (if_pos (by simp [wires, digests])).trans (congrArg Host.Outcome.next (s.modTile_congr t ?_))
    simp [wires, up]
  · refine (if_pos (by simp [wires, early, held])).trans (congrArg Host.Outcome.next (s.modTile_congr t ?_))
    simp [wires, up]
  · refine ⟨_, execTileSafeExit_next safe wires up reloaded held, ?_, ?_, s.leaveSafe_fenced t, s.leaveSafe_cores t, fun still => ?_, fun again => ?_⟩
    · rw [State.leaveSafe_tile]
    · rw [State.leaveSafe_tile]
    · rw [State.leaveSafe_port, State.leaveSafe_cause, State.restarted, still]
      exact ⟨rfl, rfl⟩
    · have restart : s.restarted t = s.tileRestart t := if_pos again
      rw [State.leaveSafe_port, State.leaveSafe_cause, State.leaveSafe_tile, restart, Port.unattached_pd, State.tileRestart_port]
      exact ⟨rfl, fun attached => Port.unattached_attached attached, s.tileRestart_restart t, s.tileRestart_cause t⟩

end Sys2Proof.Machine
end

section
/-! SUPPORT. What each ACTION of a step table comes to when the sequencer stands before it (R158–R165). -/
namespace Sys2Proof.Machine

/-! ### A signal leaves the host link alone -/

/-- What updates of a port, of the scheduler, of the referee and of the power state leave alone, a queued event leaves alone. -/
theorem State.queueEv_keeps {α : Type} (part : State → α) (port : ∀ s p f, part (State.modPort s p f) = part s)
    (cores : ∀ s f, part (State.modCores s f) = part s) (ref : ∀ s f, part (State.modRef s f) = part s)
    (pwr : ∀ s f, part (State.modPwr s f) = part s) (s : State) (p : PortId) (e : QEv) : part (s.queueEv p e) = part s := by
  have unpoison (s : State) (mem lo n : Nat) : part (s.unpoison mem lo n) = part s := by
    unfold State.unpoison
    split
    · rfl
    · exact ref _ _
  have arrive (s : State) : part s.arrive = part s := by
    unfold State.arrive State.toRun
    split
    · exact (pwr _ _).trans (cores _ _)
    · exact cores _ _
  have enqueue (s : State) (e : QEv) : part (s.enqueue p e) = part s :=
    (foldl_keeps part _ (fun s _ => unpoison s _ _ _) _ _).trans ((unpoison _ _ _ _).trans (port _ _ _))
  have fault (s : State) (n : Nat) (d : Word) : part (s.queueFault p n d) = part s := by
    unfold State.queueFault
    refine (arrive _).trans ?_
    split
    · rfl
    · split
      · exact enqueue _ _
      · exact port _ _ _
  have drop (s : State) : part (s.dropReport p) = part s := by
    unfold State.dropReport
    dsimp only
    split <;> exact (fault _ _ _).trans ((port _ _ _).trans (cores _ _))
  refine Eq.trans ?_ (arrive s)
  unfold State.queueEv
  dsimp only
  split
  · rfl
  · split
    · exact fault _ _ _
    · split
      · exact enqueue _ _
      · exact port _ _ _
    · split
      · exact (cores _ _).trans (enqueue _ _)
      · exact drop _
    · split
      · exact (cores _ _).trans (enqueue _ _)
      · rfl
    · split
      · exact port _ _ _
      · split
        · exact enqueue _ _
        · exact port _ _ _

theorem State.sigSend_link (s : State) (p : PortId) (g : Signal) : (s.sigSend p g).link = s.link :=
  State.queueEv_keeps State.link (fun _ _ _ => rfl) (fun _ _ => rfl) (fun _ _ => rfl) (fun _ _ => rfl) _ p _

/-! ### The entry that acts -/

theorem State.atAction_of_atStep {s : State} {p : PortId} {act arg : Nat} (h : s.atStep p act arg) : s.atAction p act = true := by
  obtain ⟨run, waiting, deaf, acts, -⟩ := h
  simp [State.atAction, run, waiting, deaf, acts]

theorem State.seArg_of_atStep {s : State} {p : PortId} {act arg : Nat} (h : s.atStep p act arg) : seArg (s.stepEntryOf p) = arg := h.2.2.2.2.1

/-- An entry with WAIT NONE and without END goes on to its NEXT_OK (R159, R161). -/
theorem State.stepWait_atStep {s : State} {p : PortId} {act arg : Nat} (h : s.atStep p act arg) (u : State) :
    u.stepWait p (s.stepEntryOf p) = u.modPath p fun q => s.okPath p q := by
  obtain ⟨-, -, -, -, -, none, more⟩ := h
  unfold State.stepWait State.stepOk
  rw [none, more]
  rfl

/-- What the ACTION does, and then NEXT_OK. -/
theorem State.stepAct_atStep {s : State} {p : PortId} {act arg : Nat} (h : s.atStep p act arg) (f : BitVec 64 → State) :
    s.stepAct p act f = .next ((f (s.stepEntryOf p)).modPath p fun q => s.okPath p q) := by
  unfold State.stepAct
  rw [if_pos (State.atAction_of_atStep h)]
  exact congrArg Host.Outcome.next (State.stepWait_atStep h _)

/-- An ACTION updates its port's path, and the entry goes on to NEXT_OK. -/
def State.steps (s : State) (p : PortId) (f : Path → Path) : State := (s.modPath p f).modPath p fun q => s.okPath p q

theorem State.steps_port (s : State) (p : PortId) (f : Path → Path) :
    (s.steps p f).port p = { s.port p with path := s.okPath p (f (s.port p).path) } := by
  simp [State.steps]

theorem State.steps_port_ne (s : State) {p q : PortId} (f : Path → Path) (h : q ≠ p) : (s.steps p f).port q = s.port q := by
  simp [State.steps, State.modPort_port_ne, h.symm]

/-- A close or an open that another actor's command overrules, and an ACTION that finds nothing to do, leave the entry to go on (R15). -/
theorem State.stepAct_none {s : State} {p : PortId} {act arg : Nat} (h : s.atStep p act arg) {f : BitVec 64 → State} (none : f (s.stepEntryOf p) = s) :
    s.stepAct p act f = .next (s.modPath p fun q => s.okPath p q) := by
  rw [State.stepAct_atStep h, none]

theorem State.stepAct_steps {s : State} {p : PortId} {act arg : Nat} (h : s.atStep p act arg) {f : BitVec 64 → State} {g : Path → Path}
    (is : f (s.stepEntryOf p) = s.modPath p g) : s.stepAct p act f = .next (s.steps p g) := by
  rw [State.stepAct_atStep h, is]
  rfl

/-- The ACTION of an entry with END, and then the end of the table (R159). -/
theorem State.stepAct_end {s : State} {p : PortId} {act : Nat} (run : (s.port p).path.run = true) (waiting : (s.port p).path.waiting = false)
    (deaf : s.tileDeaf p = false) (acts : seAct (s.stepEntryOf p) = act) (none : seWait (s.stepEntryOf p) = 0) (ends : seEnd (s.stepEntryOf p) = true)
    (f : BitVec 64 → State) : s.stepAct p act f = .next ((f (s.stepEntryOf p)).endTable p (s.stepEntryOf p)) := by
  unfold State.stepAct State.stepWait State.stepOk
  rw [if_pos (by simp [State.atAction, run, waiting, deaf, acts])]
  dsimp only
  rw [none, ends]
  rfl

/-- The same of an ACTION whose ARG and operands say how it updates the path. -/
theorem State.stepAct_path {s : State} {p : PortId} {act arg : Nat} (h : s.atStep p act arg) (g : BitVec 64 → Path → Path) :
    (s.stepAct p act fun e => s.modPath p (g e)) = .next (s.steps p (g (s.stepEntryOf p))) := State.stepAct_steps h rfl

/-! ### SET_GATE (R164) -/

theorem execStSetGate_open {s : State} {p : PortId} (vb : Nat) (vs0 rival : Bool) (h : s.atStep p 1 0) :
    execStSetGate p vb vs0 rival s = .next (s.steps p fun q => { q with gate := false }) := by
  unfold execStSetGate
  rw [if_pos (State.atAction_of_atStep h)]
  dsimp only
  rw [State.seArg_of_atStep h, if_pos (by decide)]
  exact congrArg Host.Outcome.next (State.stepWait_atStep h _)

theorem execStSetGate_overruled {s : State} {p : PortId} (vb : Nat) (vs0 : Bool) {rival : Bool} (h : s.atStep p 1 1)
    (k : rival = true ∨ (s.port p).path.gate = true) : execStSetGate p vb vs0 rival s = .next (s.modPath p fun q => s.okPath p q) := by
  unfold execStSetGate
  rw [if_pos (State.atAction_of_atStep h)]
  dsimp only
  rw [State.seArg_of_atStep h, if_neg (by decide), if_pos (by simpa using k)]
  exact congrArg Host.Outcome.next (State.stepWait_atStep h _)

theorem execStSetGate_admitted {s : State} {p : PortId} {vb : Nat} {vs0 : Bool} (h : s.atStep p 1 1) (gate : (s.port p).path.gate = false)
    (may : s.mayClose p vb vs0 = true) : execStSetGate p vb vs0 false s = .next (s.steps p fun q => { q with gate := true, peak := 0 }) := by
  unfold execStSetGate
  rw [if_pos (State.atAction_of_atStep h)]
  dsimp only
  rw [State.seArg_of_atStep h, if_neg (by decide), gate, if_neg (by decide), if_pos may]
  exact congrArg Host.Outcome.next (State.stepWait_atStep h _)

theorem execStSetGate_refused {s : State} {p : PortId} {vb : Nat} {vs0 : Bool} (h : s.atStep p 1 1) (gate : (s.port p).path.gate = false)
    (may : s.mayClose p vb vs0 = false) : execStSetGate p vb vs0 false s = .next (s.stepTo p (s.stepEntryOf p) .interlock) := by
  unfold execStSetGate
  rw [if_pos (State.atAction_of_atStep h)]
  dsimp only
  rw [State.seArg_of_atStep h, if_neg (by decide), gate, if_neg (by decide), may, if_neg (by decide)]
  rfl

end Sys2Proof.Machine
end

section
/-! SUPPORT. Each ACTION of a step table, clause by clause (R158–R165, R169). -/
namespace Sys2Proof.Machine

theorem movesVbus_of_ne {n : Nat} (h1 : n ≠ 1) (h2 : n ≠ 2) (h17 : n ≠ 17) (h18 : n ≠ 18) : movesVbus n = false := by
  simp [movesVbus, h1, h2, h17, h18]

theorem execStNop_next {s : State} {p : PortId} (h : s.atStep p 0 0) : execStNop p s = .next (s.modPath p fun q => s.okPath p q) :=
  State.stepAct_none h rfl

theorem execStSetDis_steps {s : State} {p : PortId} {a : Nat} {rival : Bool} (h : s.atStep p 2 a) (goes : (rival && a == 0) = false) :
    execStSetDis p rival s = .next (s.steps p fun q => { q with dis := a == 1, stuckTimer := q.stuckTimer && a == 1 }) := by
  rw [← State.seArg_of_atStep h] at goes ⊢
  exact State.stepAct_steps h (if_neg (by simp [goes]))

/-- The Rp level that SET_RP with an ARG other than OFF commands (R162). -/
theorem execStSetRp_level {s : State} {p : PortId} {a : Nat} (h : s.atStep p 4 a) (on : a ≠ 0) :
    execStSetRp p false s = .next ((s.modCc p fun c => { c with rp := rpArg a (s.port p).path.post.rp, rpNg := false }).modPath p fun q => s.okPath p q) := by
  unfold execStSetRp
  rw [State.stepAct_atStep h]
  dsimp only
  rw [State.seArg_of_atStep h]
  simp [on]

theorem execStSetRp_overruled {s : State} {p : PortId} {a : Nat} (h : s.atStep p 4 a) (on : a ≠ 0) :
    execStSetRp p true s = .next (s.modPath p fun q => s.okPath p q) := by
  refine State.stepAct_none h ?_
  rw [State.seArg_of_atStep h]
  simp [on]

/-- Rp off in ST04 ends the attach (R169, R513). -/
def State.rpOffEnds (s : State) (p : PortId) : State :=
  ((((s.modCc p fun c => { c with rp := rpArg 0 (s.port p).path.post.rp, rpNg := false }).endContract p .errorRecovery).attachEnds p).modPol p fun r =>
    { r with state := if (s.port p).pol.state == .errorRecovery then .errorRecovery else r.state }).modCc p fun c =>
      { c with state := .detaching, rpHold := false, filt := [], latched := none, attachPend := false, awaitDue := false }

theorem execStSetRp_off {s : State} {p : PortId} (rival : Bool) (h : s.atStep p 4 0) (table : (s.port p).path.table = 4)
    (attached : (s.port p).cc.state = .attached) :
    execStSetRp p rival s = .next ((s.rpOffEnds p).modPath p fun q => s.okPath p q) := by
  unfold execStSetRp
  rw [State.stepAct_atStep h]
  dsimp only
  rw [State.seArg_of_atStep h, table, attached, if_neg (by simp), if_pos (by simp)]
  rfl

theorem State.attachEnds_kind (s : State) (p : PortId) : ((s.attachEnds p).port p).pol.kind = .none := by
  unfold State.attachEnds
  dsimp only
  rw [(State.abortDescs_frame (P := fun _ => False) _ p _).others p id, State.modPort_port_self]
  rfl

theorem State.rpOffEnds_port (s : State) (p : PortId) : ((s.rpOffEnds p).port p).cc.state = .detaching ∧ ((s.rpOffEnds p).port p).cc.rp = .off ∧
    ((s.rpOffEnds p).port p).pol.kind = .none := by
  have kind := ((s.modCc p fun c => { c with rp := rpArg 0 (s.port p).path.post.rp, rpNg := false }).endContract p .errorRecovery).attachEnds_kind p
  have cc : State.Keeps (·.cc) (s.modCc p fun c => { c with rp := rpArg 0 (s.port p).path.post.rp, rpNg := false }) _ :=
    ((State.Keeps.refl _ _).endContract (c := .errorRecovery) (p := p)).attachEnds (p := p)
  have rp := congrArg Cc.rp (cc p)
  rw [State.modCc_eq, State.modPort_port_self] at rp
  unfold State.rpOffEnds
  simp only [State.modCc_eq, State.modPol_eq, State.modPort_port_self] at kind rp ⊢
  exact ⟨trivial, rp, kind⟩

theorem execStSetVconn_off {s : State} {p : PortId} (rival : Bool) (h : s.atStep p 5 0) :
    execStSetVconn p rival s = .next (s.steps p fun q => { q with vconn := 0, vcFresh := false, vcPeak := 0 }) := by
  refine State.stepAct_steps h ?_
  dsimp only
  rw [State.seArg_of_atStep h]
  simp

/-- SET_VCONN with ARG AUTO turns VCONN on for a powered cable within the budget (R173). -/
theorem execStSetVconn_on {s : State} {p : PortId} (h : s.atStep p 5 3) (cable : (s.port p).cc.partner = .sinkPoweredCable)
    (free : (s.port p).path.vcLocked = false) (off : (s.port p).path.vconn ≠ vconnLine (s.port p).cc) (admits : s.vcAdmits (tileOf p) = true) :
    execStSetVconn p false s = .next (((s.modPath p fun r => { r with vconn := vconnLine (s.port p).cc, vcFresh := true, vcPeak := 0 }).modSb p
      fun b => { b with vcWait := false }).modPath p fun q => s.okPath p q) := by
  unfold execStSetVconn
  rw [State.stepAct_atStep h]
  dsimp only
  rw [State.seArg_of_atStep h, cable, free, admits]
  simp [off]

/-- It leaves the path as it is when another actor overrules it, the cable is none, or the budget does not admit it. -/
theorem execStSetVconn_not {s : State} {p : PortId} {rival : Bool} (h : s.atStep p 5 3)
    (none : rival = true ∨ (s.port p).cc.partner ≠ .sinkPoweredCable ∨ s.vcAdmits (tileOf p) = false) :
    ∃ u : State, execStSetVconn p rival s = .next u ∧ (u.port p).path = s.okPath p (s.port p).path := by
  refine ⟨_, State.stepAct_atStep h _, ?_⟩
  dsimp only
  rw [State.seArg_of_atStep h, State.modPath_eq, State.modPort_port_self]
  refine congrArg (s.okPath p) ?_
  split
  · rfl
  next goes =>
    have cableOr : (s.port p).cc.partner ≠ .sinkPoweredCable ∨ s.vcAdmits (tileOf p) = false :=
      none.resolve_left fun r => goes (by simp [r])
    split
    next e => cases e
    · split
      next cable =>
        have full : s.vcAdmits (tileOf p) = false := cableOr.resolve_left fun ne => ne (by simp_all)
        rw [full]
        simp
      · rfl
    next notAuto => exact absurd rfl notAuto

/-- Settles O16: each clause from what its ACTION does to the path, and NEXT_OK. -/
theorem stepActionsAct : Obligations.StepActionsAct := by
  unfold Obligations.StepActionsAct
  refine ⟨fun p s h => execStNop_next h, fun p vb v0 r s h => ?_, fun p r s h => ?_, fun p s h => ?_, fun p s h => ?_,
    fun p a v s h n1 n2 n17 n18 goal => ?_, fun p s h => ?_, fun p a s h => ?_, fun p a l s h level => ?_,
    fun p a s h on => execStSetRp_overruled h on, fun p r s h table attached => ?_, fun p r s h => ?_,
    fun p s h cable free off admits => ?_, fun p r s h _ none => execStSetVconn_not h none, fun p a g s h is => ?_,
    fun p g s run waiting deaf act none ends is => ?_, fun p k m i s h lim => ?_, fun p k s h => ?_, fun p k l s h hard => ?_,
    fun p s h => ?_, fun p s h => ?_⟩
  · exact ⟨_, execStSetGate_open vb v0 r h, s.steps_port p _, fun q n => s.steps_port_ne _ n, rfl, rfl, rfl, rfl⟩
  · refine ⟨_, execStSetDis_steps h (by cases r <;> rfl), ?_, fun q n => s.steps_port_ne _ n, rfl, rfl⟩
    rw [State.steps_port]
    simp
  · refine ⟨_, execStSetDis_steps h rfl, ?_⟩
    rw [State.steps_port]
    simp
  · have run : execStSetDis p true s = _ := State.stepAct_none h (by rw [State.seArg_of_atStep h]; rfl)
    exact run
  · have still := movesVbus_of_ne n1 n2 n17 n18
    have run : execStSetTarget p false s = _ := State.stepAct_path h _
    refine ⟨_, run, ?_, fun q n => s.steps_port_ne _ n, rfl, rfl⟩
    rw [State.steps_port]
    simp only [State.seArg_of_atStep h, still, Bool.or_false, Bool.false_eq_true, if_false]
    obtain ⟨rfl, rfl⟩ | ⟨rfl, rfl⟩ | ⟨rfl, rfl⟩ := goal <;> simp [Path.startSlew]
  · have run : execStSetTarget p false s = _ := State.stepAct_path h _
    refine ⟨_, run, ?_⟩
    rw [State.steps_port]
    simp [State.seArg_of_atStep h, State.okPath]
  · have run : execStSetTarget p true s = _ := State.stepAct_path h _
    refine ⟨_, run, ?_⟩
    rw [State.steps_port]
    simp [State.okPath]
  · have on : a ≠ 0 := by omega
    refine ⟨_, execStSetRp_level h on, ?_⟩
    obtain ⟨rfl, rfl⟩ | ⟨rfl, rfl⟩ | ⟨rfl, rfl⟩ | ⟨rfl, rfl⟩ := level <;>
      exact ⟨by simp [rpArg], by simp, by simp, fun q n => by simp [State.modPort_port_ne, n.symm], rfl, rfl⟩
  · obtain ⟨state, rp, kind⟩ := s.rpOffEnds_port p
    refine ⟨_, execStSetRp_off r h table attached, ?_⟩
    rw [State.modPath_eq, State.modPort_port_self]
    generalize (s.rpOffEnds p).port p = q at state rp kind ⊢
    exact ⟨state, rp, kind, rfl⟩
  · exact ⟨_, execStSetVconn_off r h, s.steps_port p _, fun q n => s.steps_port_ne _ n, rfl⟩
  · refine ⟨_, execStSetVconn_on h cable free off admits, ?_⟩
    simp [State.okPath, vconnLine]
  · have run : execStSignal p s = _ := State.stepAct_atStep h _
    refine ⟨_, run, ?_⟩
    dsimp only
    rw [State.seArg_of_atStep h, is]
    simp [State.sigSend_path, State.sigSend_link, State.okPath]
  · have run : execStSignal p s = _ := State.stepAct_end run waiting deaf act none ends _
    refine ⟨_, run, ?_⟩
    dsimp only
    rw [is]
    simp [State.endTable, State.sigSend_path, State.sigSend_link]
  · have run : execStArmLimit p s = _ := State.stepAct_path h _
    refine ⟨_, run, ?_, fun q n => s.steps_port_ne _ n, rfl⟩
    rw [State.steps_port]
    simp only [State.seArg_of_atStep h]
    obtain ⟨rfl, none, rfl⟩ | ⟨rfl, rfl⟩ := lim
    · simp [none]
    · simp [Nat.add_mod, show (4 * k + 1) / 4 = k by omega]
  · have run : execStArmLimit p s = _ := State.stepAct_path h _
    refine ⟨_, run, ?_⟩
    rw [State.steps_port]
    simp [State.seArg_of_atStep h, Nat.add_mod, show (4 * k + 2) / 4 = k by omega]
  · have run : execStArmLimit p s = _ := State.stepAct_path h _
    refine ⟨_, run, ?_⟩
    rw [State.steps_port]
    simp [State.seArg_of_atStep h, Nat.add_mod, show (4 * k + 3) / 4 = k by omega, hard, State.okPath]
    cases (s.port p).path.post.kind <;> rfl
  · have run : execStLoadWindow p s = _ := State.stepAct_path h _
    refine ⟨_, run, ?_⟩
    rw [State.steps_port]
    simp only [State.seArg_of_atStep h]
    exact ⟨rfl, rfl, rfl, rfl, rfl⟩
  · have run : execStLoadWindow p s = _ := State.stepAct_path h _
    refine ⟨_, run, ?_⟩
    rw [State.steps_port]
    simp only [State.seArg_of_atStep h]
    rfl

end Sys2Proof.Machine
end

section
/-! SUPPORT. What a trip makes of the port's path and of its retry memory (R177, R178). -/
namespace Sys2Proof.Machine

namespace State.Keeps

variable {α : Type} {part : Port → α} {s t u : State} {p : PortId}

/-- A trip of the retry memory leaves what is neither retry memory nor queue (R178). -/
theorem retryTrip (all : ∀ q r c, part { q with retry := r, sc := c } = part q := by exact fun _ _ _ => rfl) {c : TripCause}
    (h : Keeps part s t) : Keeps part s (t.retryTrip p c) := by
  have retry {u : State} (k : Keeps part s u) (f : Retry → Retry) : Keeps part s (u.modRetry p f) := k.modPort fun q => all q _ q.sc
  have fail {u : State} (k : Keeps part s u) : Keeps part s (u.retryFail p) := by
    unfold State.retryFail
    exact either ((retry k _).frame (State.postEvt_frame _ _ _))
      (State.Keeps.queueFault (fun q c => all q q.retry c) ((retry k _).frame (State.postEvt_frame _ _ _)))
  unfold State.retryTrip
  exact either (retry (retry h _) _) (fail (retry h _))

end State.Keeps

/-- What a trip of the retry memory records (R178, R180). -/
theorem State.retryTrip_last (s : State) (p : PortId) (c : TripCause) : ((s.retryTrip p c).port p).retry.last = c := by
  have fail (u : State) : State.Keeps (·.retry.last) u (u.retryFail p) := by
    unfold State.retryFail
    exact .either (((State.Keeps.refl _ u).modPort).frame (State.postEvt_frame _ _ _))
      (((State.Keeps.refl _ u).modPort).frame (State.postEvt_frame _ _ _)).queueFault
  unfold State.retryTrip
  dsimp only
  split
  · simp
  · refine (fail _ p).trans ?_
    simp

/-- A trip leaves the path made safe by force, with no table on it, and records its cause (R177, R178). -/
theorem State.portTrip_port (s : State) (p : PortId) (c : TripCause) (seg : Nat) :
    ((s.portTrip p c seg).port p).path.isTripped ∧ ((s.portTrip p c seg).port p).retry.last = c := by
  obtain ⟨g, forced⟩ := (s.capFire p .trip).portForce_path p
  refine ⟨?_, State.retryTrip_last _ p c⟩
  have same : ((s.portTrip p c seg).port p).path = (((s.capFire p .trip).portForce p).port p).path := by
    unfold State.portTrip
    extract_lets s1 peak s2 s3 s4 s5 a s6
    have h2 : State.Keeps (·.path) s1 s2 := ((State.Keeps.refl _ s1).frame (State.postEvt_frame _ _ _)).modPort
    have h4 : State.Keeps (·.path) s1 s4 := h2.queueFault.endContract.rallyEnd.pdStop
    have h5 : State.Keeps (·.path) s1 s5 := State.Keeps.modPort (State.Keeps.modPort h4)
    have h6 : State.Keeps (·.path) s1 s6 :=
      .either (State.Keeps.modPort (State.Keeps.modPort (h5.frame (State.postEvt_frame _ _ _)))) h5
    exact State.Keeps.retryTrip (part := (·.path)) (fun _ _ _ => rfl) (h6.frame (State.abortDescs_frame _ p _)) p
  rw [same, forced]
  exact ⟨rfl, rfl, rfl, rfl, rfl, rfl, rfl, rfl⟩

end Sys2Proof.Machine
end

section
/-! SUPPORT. The interlock (R15, R160, R162, R164). -/
namespace Sys2Proof.Machine

theorem State.mayClose_iff (s : State) (p : PortId) (vb : Nat) (vs0 : Bool) :
    s.mayClose p vb vs0 = true ↔ vb ≤ 800 ∧ vs0 = true ∧ (s.port p).path.target = 5000 ∧ (s.port p).retry.lock = .none := by
  simp [State.mayClose, and_assoc]

theorem State.mayClose_not {s : State} {p : PortId} {vb : Nat} {vs0 : Bool}
    (h : 800 < vb ∨ vs0 = false ∨ (s.port p).path.target ≠ 5000 ∨ (s.port p).retry.lock ≠ .none) : s.mayClose p vb vs0 = false := by
  refine Bool.eq_false_iff.mpr fun may => ?_
  obtain ⟨low, ok, target, lock⟩ := (s.mayClose_iff p vb vs0).mp may
  rcases h with h | h | h | h
  · omega
  · cases h.symm.trans ok
  · exact h target
  · exact h lock

theorem State.endTable_frame (s : State) (p : PortId) (e : BitVec 64) : State.Frame (· = p) s (s.endTable p e) := s.modPath_frame p _ id
theorem State.stepOk_frame (s : State) (p : PortId) (e : BitVec 64) : State.Frame (· = p) s (s.stepOk p e) :=
  .ite (s.endTable_frame p e) (s.modPath_frame p _ id)
theorem State.stepWait_frame (s : State) (p : PortId) (e : BitVec 64) : State.Frame (· = p) s (s.stepWait p e) :=
  .ite (s.stepOk_frame p e) (s.modPath_frame p _ id)
theorem State.stepTo_frame (s : State) (p : PortId) (e : BitVec 64) (c : TripCause) : State.Frame (· = p) s (s.stepTo p e c) :=
  .ite (s.portTrip_frame p c _) (.ite (s.endTable_frame p e) (s.modPath_frame p _ id))

/-- SET_GATE closes the gate where the interlock admits it, and otherwise leaves it as it is or opens it. -/
theorem execStSetGate_cases (p : PortId) (vb : Nat) (vs0 rival : Bool) (s : State) :
    (rival = false ∧ s.mayClose p vb vs0 = true ∧
      execStSetGate p vb vs0 rival s = .next ((s.modPath p fun q => { q with gate := true, peak := 0 }).stepWait p (s.stepEntryOf p))) ∨
    ∃ t, execStSetGate p vb vs0 rival s = .next t ∧ State.Frame (· = p) s t := by
  unfold execStSetGate
  split
  · dsimp only
    split
    · exact .inr ⟨_, rfl, (s.modPath_frame p _ fun _ => rfl).trans (State.stepWait_frame _ p _)⟩
    · split
      · exact .inr ⟨_, rfl, s.stepWait_frame p _⟩
      next free =>
        split
        next may => exact .inl ⟨by cases rival <;> simp_all, may, rfl⟩
        · exact .inr ⟨_, rfl, s.stepTo_frame p _ _⟩
  · exact .inr ⟨s, rfl, .refl _ s⟩

/-- Settles O17: the clauses from the branches of SET_GATE, the trip from what a trip does. -/
theorem interlockGovernsClosing : Obligations.InterlockGovernsClosing := by
  unfold Obligations.InterlockGovernsClosing
  refine ⟨fun p vb s h gate low target lock => ?_, fun p vb v0 r s t run isOpen closed => ?_, fun p vb v0 s h gate fault bad => ?_,
    fun p vb v0 s h gate fault bad => ?_, fun p q vb v0 r s t run n => ?_, fun p vb v0 r s h k => execStSetGate_overruled vb v0 h k⟩
  · exact ⟨_, execStSetGate_admitted h gate ((s.mayClose_iff p vb true).mpr ⟨low, rfl, target, lock⟩), s.steps_port p _,
      fun q n => s.steps_port_ne _ n, rfl, rfl⟩
  · rcases execStSetGate_cases p vb v0 r s with ⟨alone, may, -⟩ | ⟨u, is, k⟩
    · obtain ⟨low, ok, target, lock⟩ := (s.mayClose_iff p vb v0).mp may
      exact ⟨low, ok, alone, target, lock⟩
    · obtain rfl : u = t := Host.Outcome.next.inj (is.symm.trans run)
      cases (k.gate p isOpen).symm.trans closed
  · refine ⟨_, execStSetGate_refused h gate (State.mayClose_not bad), ?_⟩
    rw [State.stepTo, if_pos fault]
    exact s.portTrip_port p _ _
  · refine (execStSetGate_refused h gate (State.mayClose_not bad)).trans (congrArg Host.Outcome.next ?_)
    obtain ⟨-, -, -, -, -, -, more⟩ := h
    rw [State.stepTo, fault, more]
    rfl
  · have other : t.port q = s.port q := by
      rcases execStSetGate_cases p vb v0 r s with ⟨-, -, is⟩ | ⟨u, is, k⟩
      · obtain rfl := Host.Outcome.next.inj (is.symm.trans run)
        rw [(State.stepWait_frame _ p _).others q n, State.modPath_eq, State.modPort_port_ne _ _ n.symm]
      · obtain rfl := Host.Outcome.next.inj (is.symm.trans run)
        exact k.others q n
    rw [other]

end Sys2Proof.Machine
end

section
/-! SUPPORT. The release of the last tile when only the service block is fenced. -/

namespace Sys2Proof.Machine

/-- Every tile but T7 is released, after a reset and no wake; of the domains SVC alone (bit 4) is fenced, and FEED is not. -/
def svcAloneFenced : State :=
  { State.reset with
    tiles := Vector.ofFn fun k => { Tile.reset with released := k ≠ 7 }
    pwr := { Pwr.reset with domUp := true, pllLock := true, fenced := 0x0010#14 }
    ref := { Ref.reset with selfOk := true, factoryOk := true } }

/-- Whether a domain is fenced in the next state an outcome holds. -/
def fencedIn (k : Nat) (o : Out) : Option Bool :=
  match o with
  | .next u => some (u.domFenced k)
  | _ => none

theorem svcAloneFenced_tiles_released : ∀ q : Fin 8, q ≠ 7 → (svcAloneFenced.tile q).released = true := by decide +kernel

/-- FEED and SVC come up together, and only while FEED is fenced (`State.releaseFeedSvc`): SVC stays fenced here. -/
theorem lastTileRelease_leaves_svc_fenced : fencedIn domSvc (exec (.tileRelease 7 5000) svcAloneFenced) = some true := by decide +kernel

/-- Refutes O45, in its clause on the release of the last tile. The clause has FEED and SVC both unfenced after it in every state, but the
model lifts the two fences by one condition, that FEED is fenced; where SVC alone is fenced it stays so. The clause has no hypothesis that
ties the two fences; the state is not claimed to be one that the device reaches from reset. -/
theorem not_resetsDeepAndWake : ¬ Obligations.ResetsDeepAndWake := by
  unfold Obligations.ResetsDeepAndWake
  rintro ⟨-, -, -, -, -, release, -⟩
  have below : ∀ q : Fin 8, q < 7 → (svcAloneFenced.tile q).released = true :=
    fun q lt => svcAloneFenced_tiles_released q (ne_of_lt lt)
  obtain ⟨inRange, -⟩ := release 7 5000 svcAloneFenced (by decide +kernel) (by decide +kernel) (by decide +kernel) (by decide +kernel)
    (by decide +kernel) (by decide +kernel) (by decide +kernel) (by decide +kernel) (by decide +kernel) below
  obtain ⟨u, run, -, -, -, -, -, -, fences⟩ := inRange (by decide) (by decide)
  obtain ⟨-, svcUp⟩ := fences svcAloneFenced_tiles_released (by decide +kernel)
  have svcDown := lastTileRelease_leaves_svc_fenced
  rw [run] at svcDown
  simp [fencedIn, svcUp] at svcDown

end Sys2Proof.Machine
end

section
/-! SUPPORT. Updates of one port that follow one another, and what an update of ports leaves of a tile's settings. -/
namespace Sys2Proof.Machine

theorem State.modPort_modPort (s : State) (p : PortId) (f g : Port → Port) : (s.modPort p f).modPort p g = s.modPort p fun q => g (f q) := by
  simp [State.modPort, State.port]

/-- Two updates of a port that agree on the port as it is come to the same state. -/
theorem State.modPort_congr {s : State} {p : PortId} {f g : Port → Port} (h : f (s.port p) = g (s.port p)) : s.modPort p f = s.modPort p g := by
  unfold State.modPort
  rw [h]

/-- An update that finds the port as it leaves it changes nothing. -/
theorem State.modPort_same {s : State} {p : PortId} {f : Port → Port} (h : f (s.port p) = s.port p) : s.modPort p f = s := by
  unfold State.modPort
  rw [h]
  simp [State.port]

theorem State.Frame.tileDeaf {P : PortId → Prop} {s u : State} (h : State.Frame P s u) (p : PortId) : u.tileDeaf p = s.tileDeaf p := by
  obtain ⟨on, ph, c, e⟩ := h.tiles (tileOf p)
  obtain ⟨d, e'⟩ := h.power
  unfold State.tileDeaf State.portFenced State.tileFenced State.domFenced
  rw [e, e']

theorem State.Frame.tableFor {P : PortId → Prop} {s u : State} (h : State.Frame P s u) (p : PortId) (x : Purpose) :
    u.tableFor p x = s.tableFor p x := by
  obtain ⟨on, ph, c, e⟩ := h.tiles (tileOf p)
  obtain ⟨cfg, -⟩ := h.board
  unfold State.tableFor State.tileCfg State.tileNow
  rw [e, cfg]
  cases (s.tile (tileOf p)).held <;> rfl

end Sys2Proof.Machine
end

section
/-! SUPPORT. The pairings of two line codes (R34, R38). -/
namespace Sys2Proof.Machine

theorem pairing_driven_left (x : LineCode) : pairing .driven x = (.ccDriven, false) := by cases x <;> rfl

theorem pairing_driven_right (x : LineCode) : pairing x .driven = (.ccDriven, false) := by cases x <;> rfl

theorem Partner.attaches_iff (k : Partner) : k.attaches = true ↔ k = .sink ∨ k = .sinkPoweredCable ∨ k = .debugAcc ∨ k = .audioAcc := by
  cases k <;> decide

/-- The lines exchanged, the pairing is of the same kind (R38). -/
theorem pairing_comm (a b : LineCode) : (pairing a b).1 = (pairing b a).1 := by cases a <;> cases b <;> rfl

/-- Settles O3: the table of R34 row by row, its symmetry for each two codes. -/
theorem pairingsRecognised : Obligations.PairingsRecognised := by
  unfold Obligations.PairingsRecognised
  exact ⟨rfl, rfl, rfl, rfl, rfl, rfl, rfl, rfl, rfl, fun x => by rw [pairing_driven_left, pairing_driven_right]; exact ⟨rfl, rfl⟩,
    pairing_comm, fun a b => Partner.attaches_iff _⟩

/-- A pairing that attaches has no driven line (R34, R47). -/
theorem not_driven_of_attaches {a b : LineCode} (h : (pairing a b).1.attaches = true) : a ≠ .driven ∧ b ≠ .driven := by
  constructor
  · rintro rfl
    rw [pairing_driven_left] at h
    cases h
  · rintro rfl
    rw [pairing_driven_right] at h
    cases h

/-- A sample that reads the latched pairing does not meet the detach condition (R43, R48). -/
theorem Cc.opens_of_latched {c : Cc} {a b : LineCode} (attaches : (pairing a b).1.attaches = true) (latched : c.latched = some (pairing a b)) :
    c.opens a b = false := by
  unfold Cc.opens
  rw [latched]
  revert attaches
  cases a <;> cases b <;> decide

end Sys2Proof.Machine
end

section
/-! SUPPORT. A watch sample (R30, R31, R33, R39, R40, R56). -/
namespace Sys2Proof.Machine

/-- The filter window of a port after one more sample (R39). -/
def State.filtAfter (s : State) (p : PortId) (a b : LineCode) : List (Partner × Bool) :=
  (pairing a b :: (s.port p).cc.filt).take (s.tileCfg (tileOf p)).filtM

/-- What every watch sample records of a port (R31, R33, R39, R56). -/
def State.watched (s : State) (p : PortId) (a b : LineCode) : State :=
  s.modCc p fun c => { c.record a b with partner := (pairing a b).1, cc2 := if (pairing a b).1.attaches then (pairing a b).2 else c.cc2,
                                         filt := s.filtAfter p a b }

/-- A port that is watched and enabled takes the sample into its filter (R31). -/
theorem execWatchSample_watched {p : Fin 192} {a b : LineCode} {s : State} (state : (s.port p).cc.state = .watch ∨ (s.port p).cc.state = .rpHold)
    (enabled : (s.port p).pol.enabled = true) : execWatchSample p a b s = .next (s.watchPairing p a b) := by
  unfold execWatchSample
  rcases state with h | h <;> simp [h, enabled, ok]

/-- A disabled port is not sampled (R30). -/
theorem execWatchSample_disabled {p : Fin 192} {a b : LineCode} {s : State} (state : (s.port p).cc.state = .watch ∨ (s.port p).cc.state = .rpHold)
    (disabled : (s.port p).pol.enabled = false) : execWatchSample p a b s = .next s := by
  unfold execWatchSample
  rcases state with h | h <;> simp [h, disabled, ok]

theorem State.watchPairing_other {s : State} {p : PortId} {a b : LineCode} (none : (pairing a b).1.attaches = false) :
    s.watchPairing p a b = s.watched p a b := by
  unfold State.watchPairing
  dsimp only
  rw [if_neg (by simp [none])]
  exact State.modPort_congr rfl

/-- Too few samples of the attaching pairing start Rp hold, or let it go on (R39, R40). -/
theorem State.watchPairing_few {s : State} {p : PortId} {a b : LineCode} (attaches : (pairing a b).1.attaches = true)
    (few : (s.filtAfter p a b).count (pairing a b) < (s.tileCfg (tileOf p)).filtN) :
    s.watchPairing p a b = (s.watched p a b).modCc p fun c => { c with state := .rpHold, rpHold := true, rp := .dflt } := by
  unfold State.watchPairing
  dsimp only
  rw [if_pos attaches, if_neg]
  · exact congrArg (State.modCc · p _) (State.modPort_congr rfl)
  · simpa [State.filtAfter] using few

/-- N of the last M samples latch attach-wait (R39). -/
theorem State.watchPairing_enough {s : State} {p : PortId} {a b : LineCode} (attaches : (pairing a b).1.attaches = true)
    (enough : (s.tileCfg (tileOf p)).filtN ≤ (s.filtAfter p a b).count (pairing a b)) :
    s.watchPairing p a b = (((s.watched p a b).modCc p fun c => { c with state := .rpHold, rpHold := true, rp := .dflt }).modCc p fun c =>
      { c with state := .attachWait, rpHold := false, latched := some (pairing a b), nonAttach := 0, differ := 0, openRun := 0,
               debounced := false, attachDue := false }).wakeReq 0 := by
  unfold State.watchPairing
  dsimp only
  rw [if_pos attaches, if_pos]
  · exact congrArg (fun u => State.wakeReq (State.modCc (State.modCc u p _) p _) 0) (State.modPort_congr rfl)
  · simpa [State.filtAfter] using enough

@[simp] theorem State.toRun_link (s : State) : s.toRun.link = s.link := by
  unfold State.toRun
  split <;> rfl

@[simp] theorem State.toRun_ports (s : State) : s.toRun.ports = s.ports := by
  unfold State.toRun
  split <;> rfl

@[simp] theorem State.wakeReq_link (s : State) (k : Nat) : (s.wakeReq k).link = s.link := by
  unfold State.wakeReq
  split
  · rfl
  · split
    · exact s.toRun_link
    · rfl
  · rfl

@[simp] theorem State.wakeReq_port (s : State) (k : Nat) (q : PortId) : (s.wakeReq k).port q = s.port q := by
  refine State.port_of_ports ?_ q
  unfold State.wakeReq
  split
  · rfl
  · split
    · exact s.toRun_ports
    · rfl
  · rfl

/-- Settles O4: what a sample records, and then the three ways the filter can go on. -/
theorem watchSampleFilters : Obligations.WatchSampleFilters := by
  unfold Obligations.WatchSampleFilters
  refine ⟨fun p a b s state enabled attaches few => ?_, fun p a b s state enabled attaches enough => ?_,
    fun p a b s state enabled none => ?_, fun p s hold => ?_, fun p a b s state disabled => execWatchSample_disabled state disabled⟩
  · refine ⟨_, (execWatchSample_watched state enabled).trans (congrArg Host.Outcome.next (State.watchPairing_few attaches few)), ?_⟩
    simp only [State.watched, State.modCc_eq, State.modPort_port_self, State.modPort_link, attaches, if_true]
    exact ⟨trivial, trivial, trivial, trivial, trivial, rfl, rfl, rfl, rfl,
      fun q other => by simp [State.modPort_port_ne, other.symm], trivial, trivial⟩
  · refine ⟨_, (execWatchSample_watched state enabled).trans (congrArg Host.Outcome.next (State.watchPairing_enough attaches enough)), ?_⟩
    simp [State.watched]
  · refine ⟨_, (execWatchSample_watched state enabled).trans (congrArg Host.Outcome.next (State.watchPairing_other none)), ?_⟩
    simp [State.watched, State.filtAfter, Cc.record]
  · have run : execRpHoldTimeout p s = _ := if_pos (by simp [hold])
    exact run

end Sys2Proof.Machine
end

section
/-! SUPPORT. Attach-wait, attach and detach (R36, R37, R41–R43, R47, R56, R183). -/
namespace Sys2Proof.Machine

/-! ### A sample in attach-wait -/

/-- What every sample of an attach-wait shows (R37, R41, R56). -/
def State.waitShown (s : State) (p : PortId) (a b : LineCode) : State :=
  s.modCc p fun c => { c.record a b with partner := (pairing a b).1, cc2 := if (pairing a b).1.attaches then (pairing a b).2 else c.cc2,
                                         openRun := if c.opens a b then c.openRun + 1 else 0 }

/-- A sample that reads the latched pairing ends every count (R41). -/
theorem State.waitSample_same {s : State} {p : PortId} {a b : LineCode} (same : (s.port p).cc.latched = some (pairing a b)) :
    s.waitSample p a b = (s.waitShown p a b).modCc p fun c => { c with nonAttach := 0, differ := 0 } := by
  unfold State.waitSample
  dsimp only
  rw [if_pos (by simp [same])]
  rfl

/-- The fourth sample of another attaching pairing takes that pairing (R41). -/
theorem State.waitSample_takes {s : State} {p : PortId} {a b : LineCode} (attaches : (pairing a b).1.attaches = true)
    (other : (s.port p).cc.latched ≠ some (pairing a b)) (differ : (s.port p).cc.differ = 3)
    (again : pairing (s.port p).cc.line1 (s.port p).cc.line2 = pairing a b) :
    s.waitSample p a b = (s.waitShown p a b).modCc p fun c =>
      { c with latched := some (pairing a b), differ := 0, nonAttach := 0, openRun := 0, debounced := false, attachDue := false } := by
  unfold State.waitSample
  dsimp only
  rw [if_neg (by simpa using other.symm), if_pos attaches, if_pos (by simp [again, differ])]
  rfl

/-- The fourth sample that attaches nothing takes the port to watch (R41). -/
theorem State.waitSample_leaves {s : State} {p : PortId} {a b : LineCode} (none : (pairing a b).1.attaches = false)
    (other : (s.port p).cc.latched ≠ some (pairing a b)) (run : (s.port p).cc.nonAttach = 3) :
    s.waitSample p a b = ((s.waitShown p a b).modPort p Port.toWatch).modCc p fun c => { c with partner := (pairing a b).1 } := by
  unfold State.waitSample
  dsimp only
  rw [if_neg (by simpa using other.symm), if_neg (by simp [none]), if_pos (by simp [run])]
  rfl

/-- A sample of an attach-wait changes nothing but what the port's CC watch holds. -/
theorem State.waitSample_cc (s : State) (p : PortId) (a b : LineCode) : ∃ c, s.waitSample p a b = s.modCc p fun _ => c := by
  have shown (f : Port → Port) (only : ∀ q, f q = { q with cc := (f q).cc } := by exact fun _ => rfl) :
      ∃ c, (s.waitShown p a b).modPort p f = s.modCc p fun _ => c := by
    refine ⟨(f ((s.waitShown p a b).port p)).cc, ?_⟩
    simp only [State.waitShown, State.modCc_eq, State.modPort_modPort, State.modPort_port_self]
    exact State.modPort_congr (only _)
  unfold State.waitSample
  extract_lets c k s1
  split
  · exact shown _
  · split
    · split
      · exact shown _
      · exact shown _
    · split
      · obtain ⟨c, h⟩ := shown fun q => { q.toWatch with cc := { q.toWatch.cc with partner := (pairing a b).1 } }
        exact ⟨c, (State.modPort_modPort _ p _ _).trans h⟩
      · exact shown _

/-! ### The attach itself (R36, R41, R42) -/

theorem State.attachIfDue_not {s : State} {p : PortId}
    (not : (s.port p).cc.state ≠ .attachWait ∨ (s.port p).cc.attachDue = false ∨ (s.port p).cc.line1 = .driven) : s.attachIfDue p = s := by
  unfold State.attachIfDue
  refine if_neg ?_
  rcases not with h | h | h <;> simp [h]

theorem State.attachIfDue_due {s : State} {p : PortId} (waits : (s.port p).cc.state = .attachWait) (due : (s.port p).cc.attachDue = true)
    (free : (s.port p).cc.line1 ≠ .driven ∧ (s.port p).cc.line2 ≠ .driven) : s.attachIfDue p = s.attach p := by
  obtain ⟨line1, line2⟩ := free
  exact if_pos (by simp [waits, due, line1, line2])

/-- The port is attached with what its filter has latched (R41, R42). -/
def State.attached (s : State) (p : PortId) (k : Partner) (o : Bool) : State :=
  s.modPort p fun q =>
    { q with cc := { q.cc with state := .attached, partner := k, cc2 := o, rpHold := false, rp := .dflt, debounced := false,
                               attachDue := false, detachRun := 0, filt := [], latched := none, attachPend := false, awaitDue := false },
             pd := { q.pd with vth := 25 } }

/-- An accessory attaches without a step table (R36). -/
theorem State.attach_accessory {s : State} {p : PortId} {k : Partner} {o : Bool} (latched : (s.port p).cc.latched = some (k, o))
    (hears : s.tileDeaf p = false) (accessory : k.accessory = true) :
    s.attach p = ((s.attached p k o).postEvt (some p) (.attach k o .vsafe5v)).modCnt p fun c => { c with attach := c.attach.inc32 } := by
  unfold State.attach
  rw [latched]
  dsimp only
  rw [hears, if_neg (by decide), if_pos accessory]
  rfl

/-- A sink attaches with ST00, where no retry is due and no lockout stands (R42, R179). -/
theorem State.attach_sink {s : State} {p : PortId} {k : Partner} {o : Bool} (latched : (s.port p).cc.latched = some (k, o))
    (hears : s.tileDeaf p = false) (sink : k.accessory = false) (lock : (s.port p).retry.lock = .none) (due : (s.port p).retry.due = none) :
    s.attach p = (((s.attached p k o).modRetry p fun r => { r with hold := false }).modCc p fun c => { c with attachPend := true }).post p
      (plainPost .attach) := by
  unfold State.attach
  rw [latched]
  dsimp only
  rw [hears, sink, lock, due, if_neg (by decide), if_neg (by decide), if_neg (by decide), if_neg (by decide)]
  rfl

/-! ### Posts that start a table (R167, R168) -/

@[simp] theorem State.calAbort_link (s : State) (p : PortId) : (s.calAbort p).link = s.link := by
  unfold State.calAbort
  dsimp only
  split <;> rfl

@[simp] theorem State.startTable_link (s : State) (p : PortId) (n : Nat) (r : Post) : (s.startTable p n r).link = s.link := by
  unfold State.startTable State.capFire
  simp

@[simp] theorem State.abandonTable_link (s : State) (p : PortId) : (s.abandonTable p).link = s.link := by
  unfold State.abandonTable
  dsimp only
  split
  · exact State.sigSend_link _ p _
  · rfl

/-- An abandoned table leaves nothing running and nothing queued; the post that was queued shows as REFUSED (R167). -/
theorem State.abandonTable_path (s : State) (p : PortId) : ((s.abandonTable p).port p).path =
    { (s.port p).path with
      run := false, waiting := false, queued := none, moved := false,
      lastSignal := if (s.port p).path.queued.isSome then some .refused else (s.port p).path.lastSignal } := by
  unfold State.abandonTable
  dsimp only
  split
  · rw [State.sigSend_path]
    simp
  · simp

namespace State.Keeps

variable {α : Type} {part : Port → α} {s t : State} {p : PortId}

/-- A table start, a trip or a detach during CAL leaves of each port all but its measurement (R257). -/
theorem calAbort (smp : ∀ q m, part { q with smp := m } = part q := by exact fun _ _ => rfl) (h : Keeps part s t) :
    Keeps part s (t.calAbort p) :=
  either (State.Keeps.modPort (t := t.modTile _ _) (fun q => h q) fun q => smp q _) h

/-- An abandoned table leaves of each port all but its path and its event queue (R167). -/
theorem abandonTable (all : ∀ q x c, part { q with path := x, sc := c } = part q := by exact fun _ _ _ => rfl) (h : Keeps part s t) :
    Keeps part s (t.abandonTable p) := by
  have path {u : State} (f : Path → Path) (k : Keeps part s u) : Keeps part s (u.modPath p f) := k.modPort fun q => all q _ q.sc
  exact either (State.Keeps.queueMsg (fun q c => all q q.path c) (path _ (path _ h))) (path _ h)

/-- A table start leaves of each port all but its path, its retry memory and its measurement (R168). -/
theorem startTable {n : Nat} {r : Post} (all : ∀ q x y m, part { q with path := x, retry := y, smp := m } = part q := by exact fun _ _ _ _ => rfl)
    (h : Keeps part s t) : Keeps part s (t.startTable p n r) := by
  have cal : Keeps part s (t.calAbort p) := h.calAbort fun q m => all q q.path q.retry m
  have fired : Keeps part s ((t.calAbort p).capFire p .tableStart) := fun q => cal q
  unfold State.startTable
  exact State.Keeps.modPort (fired.modPort fun q => all q _ q.retry q.smp) fun q => all q q.path _ q.smp

/-- The port safe state leaves of each port all but its path, its measurement and its event queue (R15). -/
theorem portSafe (all : ∀ q x m c, part { q with path := x, smp := m, sc := c } = part q := by exact fun _ _ _ _ => rfl)
    (h : Keeps part s t) : Keeps part s (t.portSafe p) :=
  State.Keeps.modPort ((h.calAbort fun q m => all q q.path m q.sc).abandonTable fun q x c => all q x q.smp c) fun q => all q _ q.smp q.sc

end State.Keeps

/-- The sequencer takes a request at once: its tile is up, the port not safe-held, the target in range, and a table may run (R36, R54, R162,
R167). -/
def State.takesPost (s : State) (p : PortId) (r : Post) : Prop :=
  s.tileDeaf p = false ∧ ((s.port p).path.safeHeld = false ∨ r.purpose = .attach ∨ r.purpose = .errRec ∨ r.purpose = .probe) ∧
    3300 ≤ r.mv ∧ r.mv ≤ 50000 ∧ (s.port p).cc.noTable (s.tableFor p r.purpose) = false

/-- A purpose that abandons the running table (R167). -/
def Purpose.abandons (x : Purpose) : Bool := [Purpose.hardReset, .errRec, .disc].contains x

theorem State.takesPost.post_eq {s : State} {p : PortId} {r : Post} (h : s.takesPost p r) : s.post p r =
    if r.purpose.abandons then (s.abandonTable p).startTable p (s.tableFor p r.purpose) r
    else if (s.port p).path.queued.isSome then s.sigSend p .refused
    else if (s.port p).path.run then s.modPath p fun q => { q with queued := some r }
    else s.startTable p (s.tableFor p r.purpose) r := by
  obtain ⟨hears, held, low, high, may⟩ := h
  have notHeld : ((s.port p).path.safeHeld && ! [Purpose.attach, .errRec, .probe].contains r.purpose) = false := by
    rcases held with h | h | h | h <;> simp [h]
  unfold State.post
  rw [if_neg (by simp [hears]), if_neg (by simp only [notHeld, may, Bool.false_or, Bool.or_false, Bool.or_eq_true, decide_eq_true_eq]; omega)]
  rfl

/-- A purpose that does not abandon starts its table on a sequencer that is idle (R167). -/
theorem State.takesPost.post_starts {s : State} {p : PortId} {r : Post} (h : s.takesPost p r) (joins : r.purpose.abandons = false)
    (idle : (s.port p).path.run = false) (none : (s.port p).path.queued = none) : s.post p r = s.startTable p (s.tableFor p r.purpose) r := by
  rw [h.post_eq, joins, none, idle]
  rfl

/-- A sink that may attach is attached, and ST00 runs from its entry 0 (R42, R168). -/
theorem State.attach_starts {s : State} {p : PortId} {o : Bool} (latched : (s.port p).cc.latched = some (.sink, o)) (hears : s.tileDeaf p = false)
    (lock : (s.port p).retry.lock = .none) (due : (s.port p).retry.due = none) (idle : (s.port p).path.run = false)
    (none : (s.port p).path.queued = none) (rom : s.tableFor p .attach = 0) :
    ((s.attach p).port p).cc = { ((s.attached p .sink o).port p).cc with attachPend := true } ∧ ((s.attach p).port p).path.run = true ∧
      ((s.attach p).port p).path.table = 0 ∧ ((s.attach p).port p).path.entry = 0 ∧ ((s.attach p).port p).path.post = plainPost .attach ∧
      (s.attach p).link = s.link := by
  let t := ((s.attached p .sink o).modRetry p fun r => { r with hold := false }).modCc p fun c => { c with attachPend := true }
  have frame : State.Frame (· = p) s t := ((s.modPort_frame p _ id).trans (State.modRetry_frame _ p _)).trans (State.modCc_frame _ p _)
  have port : t.port p = { (s.attached p .sink o).port p with
      retry := { (s.port p).retry with hold := false }, cc := { ((s.attached p .sink o).port p).cc with attachPend := true } } := by
    simp [t, State.attached]
  have path : (t.port p).path = (s.port p).path := by rw [port]; simp [State.attached]
  have takes : t.takesPost p (plainPost .attach) :=
    ⟨(frame.tileDeaf p).trans hears, .inr (.inl rfl), by decide, by decide, by rw [port]; simp [State.attached, Cc.noTable]⟩
  have run : s.attach p = t.startTable p 0 (plainPost .attach) := by
    rw [State.attach_sink latched hears rfl lock due, ← rom, ← frame.tableFor p]
    exact takes.post_starts rfl ((congrArg Path.run path).trans idle) ((congrArg Path.queued path).trans none)
  have cc := ((State.Keeps.refl (·.cc) t).startTable (p := p) (n := 0) (r := plainPost .attach)) p
  rw [run, State.startTable_path, cc, State.startTable_link, port]
  exact ⟨rfl, rfl, rfl, rfl, rfl, rfl⟩

end Sys2Proof.Machine
end

section
/-! SUPPORT. The end of an attach-wait, and detach (R41–R44, R47, R48, R183). -/
namespace Sys2Proof.Machine

/-! ### The end of an attach-wait -/

/-- The sample at which tCCDebounce ends, where it reads the latched pairing and VBUS stands or not (R41). -/
def State.debounced (s : State) (p : PortId) (a b : LineCode) (down : Bool) : State :=
  s.modCc p fun c => { c.record a b with partner := (pairing a b).1, cc2 := (pairing a b).2, nonAttach := 0, differ := 0, openRun := 0,
                                         debounced := true, attachDue := down }

theorem execCcDebounceDone_latched {p : Fin 192} {a b : LineCode} {s : State} (vb : Nat) (vs0 : Bool) (waits : (s.port p).cc.state = .attachWait)
    (attaches : (pairing a b).1.attaches = true) (latched : (s.port p).cc.latched = some (pairing a b)) :
    execCcDebounceDone p a b vb vs0 s = .next ((s.debounced p a b (vbusDown vb vs0)).attachIfDue p) := by
  have opens := Cc.opens_of_latched attaches latched
  unfold execCcDebounceDone
  rw [if_pos (by simp [waits])]
  dsimp only
  rw [opens, Bool.false_and, if_neg (by decide), State.waitSample_same latched, if_pos (by simp [State.waitShown, waits, Cc.record])]
  refine congrArg (fun u => Host.Outcome.next (State.attachIfDue u p)) ?_
  simp only [State.waitShown, State.debounced, State.modCc_eq, State.modPort_modPort]
  exact State.modPort_congr (by simp [attaches, opens])

/-- With VBUS down the port attaches at the end of tCCDebounce (R41). -/
theorem execCcDebounceDone_attaches {p : Fin 192} {a b : LineCode} {vb : Nat} {s : State} (waits : (s.port p).cc.state = .attachWait)
    (attaches : (pairing a b).1.attaches = true) (latched : (s.port p).cc.latched = some (pairing a b)) (low : vb ≤ 800) :
    execCcDebounceDone p a b vb true s = .next ((s.debounced p a b true).attach p) := by
  have down : vbusDown vb true = true := by simp [vbusDown, low]
  refine (execCcDebounceDone_latched vb true waits attaches latched).trans (congrArg Host.Outcome.next ?_)
  rw [down]
  exact State.attachIfDue_due (by simp [State.debounced, Cc.record, waits]) (by simp [State.debounced])
    (by simpa [State.debounced, Cc.record] using not_driven_of_attaches attaches)

/-- The fourth sample in a row that meets the detach condition wins over the end of tCCDebounce (R48). -/
theorem execCcDebounceDone_opens {p : Fin 192} {a b : LineCode} {s : State} (vb : Nat) (vs0 : Bool) (waits : (s.port p).cc.state = .attachWait)
    (opens : (s.port p).cc.opens a b = true) (run : (s.port p).cc.openRun = 3) :
    execCcDebounceDone p a b vb vs0 s =
      .next (((s.waitSample p a b).modPort p Port.toWatch).modCc p fun c => { c with partner := (pairing a b).1 }) := by
  unfold execCcDebounceDone
  rw [if_pos (by simp [waits])]
  dsimp only
  rw [opens, run, if_pos (by decide)]
  rfl

theorem execAttachVbusCleared_down {p : Fin 192} {vb : Nat} {s : State} (waits : (s.port p).cc.state = .attachWait)
    (debounced : (s.port p).cc.debounced = true) (low : vb ≤ 800) :
    execAttachVbusCleared p vb true s = .next ((s.modCc p fun c => { c with attachDue := true }).attachIfDue p) :=
  if_pos (by simp [waits, debounced, vbusDown, low])

theorem execAttachVbusCleared_attaches {p : Fin 192} {vb : Nat} {s : State} (waits : (s.port p).cc.state = .attachWait)
    (debounced : (s.port p).cc.debounced = true) (low : vb ≤ 800) (line1 : (s.port p).cc.line1 ≠ .driven) (line2 : (s.port p).cc.line2 ≠ .driven) :
    execAttachVbusCleared p vb true s = .next ((s.modCc p fun c => { c with attachDue := true }).attach p) :=
  (execAttachVbusCleared_down waits debounced low).trans <| congrArg Host.Outcome.next <|
    State.attachIfDue_due (by simp [waits]) (by simp) (by simp [line1, line2])

/-- An accessory that attaches leaves the power path alone and counts an attach (R36). -/
theorem State.attach_accessory_port {s : State} {p : PortId} {k : Partner} {o : Bool} (latched : (s.port p).cc.latched = some (k, o))
    (hears : s.tileDeaf p = false) (accessory : k.accessory = true) :
    ((s.attach p).port p).cc.state = .attached ∧ ((s.attach p).port p).cc.partner = k ∧ ((s.attach p).port p).path = (s.port p).path ∧
      ((s.attach p).port p).cnt.attach = (s.port p).cnt.attach.inc32 := by
  rw [State.attach_accessory latched hears accessory, State.modCnt_eq, State.modPort_port_self,
    (State.postEvt_frame (P := fun _ => False) _ _ _).others p id]
  simp [State.attached]

/-- A line of an accessory that reads open meets the detach condition (R43, R48). -/
theorem Cc.opens_accessory {c : Cc} {k : Partner} {o : Bool} {a b : LineCode} (latched : c.latched = some (k, o)) (accessory : k.accessory = true)
    (opn : a = .opn ∨ b = .opn) : c.opens a b = true := by
  unfold Cc.opens
  rw [latched]
  dsimp only
  rw [if_pos accessory]
  rcases opn with rfl | rfl <;> simp [LineCode.open]

/-! ### Detach -/

theorem State.abortDescs_port (s : State) (p : PortId) (f : WaitFor → Bool) (q : PortId) : (s.abortDescs p f).port q = s.port q :=
  (s.abortDescs_frame (P := fun _ => False) p f).others q id

/-- The end of an attach leaves the policy in DETACHED (R97, R513). -/
theorem State.attachEnds_pol (s : State) (p : PortId) : ((s.attachEnds p).port p).pol.state = .detached := by
  unfold State.attachEnds
  dsimp only
  rw [State.abortDescs_port, State.modPort_port_self]
  rfl

/-- A detach that is declared forces the path safe, the policy to DETACHED and Rp off, and tells whether a transition was under way
(R43, R183). -/
theorem State.detach_port (s : State) (p : PortId) (mid : Bool) :
    ((s.detach p mid).port p).cc.state = .detaching ∧ ((s.detach p mid).port p).cc.rp = .off ∧
      ((s.detach p mid).port p).path.gate = false ∧ ((s.detach p mid).port p).path.run = false ∧
      ((s.detach p mid).port p).path.window = .off ∧ ((s.detach p mid).port p).path.vconn = 0 ∧ ((s.detach p mid).port p).path.dis = true ∧
      ((s.detach p mid).port p).path.detachMid = some mid ∧ ((s.detach p mid).port p).pol.state = .detached := by
  obtain ⟨g, forced⟩ := s.portForce_path p
  have path := (s.portForce p).attachEnds_path p
  have pol := (s.portForce p).attachEnds_pol p
  unfold State.detach
  rw [State.modPort_port_self]
  generalize ((s.portForce p).attachEnds p).port p = q at path pol ⊢
  dsimp only
  rw [path, forced]
  exact ⟨rfl, rfl, rfl, rfl, rfl, rfl, rfl, rfl, pol⟩

theorem State.tripCycle_nil (s : State) (p : PortId) : s.tripCycle p [] = s := rfl

/-- The line whose voltage decides the detach of an attached sink (R38, R43). -/
def Cc.activeMv (c : Cc) (v1 v2 : Nat) : Nat := bif c.cc2 then v2 else v1

/-- A detach sample shows both lines (R33, R56). -/
def State.detachShown (s : State) (p : PortId) (v1 v2 : Nat) : State :=
  s.modCc p fun c => c.record (lineCode (s.port p).cc.rpNow.openMv v1) (lineCode (s.port p).cc.rpNow.openMv v2)

/-- A sample under the port's own transmission, or one that is not counted, is recorded only (R43, R44). -/
theorem execDetachSample_uncounted {p : Fin 192} {v1 v2 : Nat} {c : Bool} {l : List Tripping} {s : State} (awake : s.pwr.dev ≠ .deep)
    (attached : (s.port p).cc.state = .attached) (none : c = false ∨ (s.port p).pd.txActive = true ∨ (s.port p).pd.gcActive = true) :
    execDetachSample p v1 v2 c l s = .next (s.detachShown p v1 v2) := by
  unfold execDetachSample
  dsimp only
  rw [if_neg (by simp [awake]), if_neg (by simp [attached]), if_pos (by simp [attached]), if_neg]
  · rfl
  · rcases none with h | h | h <;> simp [h]

/-- A counted sample of an attached sink: the fourth in a row at or above the threshold declares detach (R43). -/
theorem execDetachSample_counted {p : Fin 192} {v1 v2 : Nat} {l : List Tripping} {s : State} (attached : (s.port p).cc.state = .attached)
    (sink : (s.port p).cc.partner = .sink) (tx : (s.port p).pd.txActive = false) (gc : (s.port p).pd.gcActive = false) :
    execDetachSample p v1 v2 true l s =
      let n := if (s.port p).cc.rpNow.openMv ≤ (s.port p).cc.activeMv v1 v2 then (s.port p).cc.detachRun + 1 else 0
      if n ≥ 4 then .next (((s.detachShown p v1 v2).tripCycle p l).detach p (s.port p).path.midMove)
      else .next ((s.detachShown p v1 v2).modCc p fun c => { c with detachRun := n }) := by
  unfold execDetachSample
  dsimp only
  rw [if_neg (by simp [sink, Partner.accessory]), if_neg (by simp [attached]), if_pos (by simp [attached]), if_pos (by simp [tx, gc]), sink]
  unfold Cc.activeMv
  cases (s.port p).cc.cc2 <;> simp only [Partner.accessory, Bool.false_eq_true, if_false, if_true, cond_false, cond_true, decide_eq_true_eq, ge_iff_le] <;> rfl

/-- Settles O5: what the sample of an attach-wait comes to, the attach it leads to, and the counts of detach samples. -/
theorem attachAndDetachDecided : Obligations.AttachAndDetachDecided := by
  unfold Obligations.AttachAndDetachDecided
  refine ⟨fun p a b s waits enabled none other run => ?_, fun p a b s waits attaches other differ again => ?_,
    fun p a b vb vs0 s waits attaches latched high => ?_, fun p a b vb o s waits low sink latched hears lock due idle queued rom => ?_,
    fun p a b vb vs0 s waits enabled latched opn run => ?_, fun p vb o s waits debounced low line1 line2 latched hears => ?_,
    fun p vb s waits debounced low driven => ?_, fun p v1 v2 s attached sink tx gc isOver run => ?_,
    fun p v1 v2 l s attached sink tx gc under => ?_, ⟨rfl, rfl, rfl⟩,
    fun p v1 v2 c l s awake attached none => execDetachSample_uncounted awake attached none⟩
  · have run : execAttachWaitSample p a b s = _ := if_pos (by simp [waits])
    refine ⟨_, run, ?_⟩
    rw [State.waitSample_leaves none other ‹_›, State.attachIfDue_not (.inl ?_)]
    · simp [State.waitShown, Port.toWatch, enabled]
    · simp [State.waitShown, Port.toWatch, enabled]
  · have run : execAttachWaitSample p a b s = _ := if_pos (by simp [waits])
    refine ⟨_, run, ?_⟩
    rw [State.waitSample_takes attaches other differ again, State.attachIfDue_not (.inr (.inl ?_))]
    · simp [State.waitShown, Cc.record, waits]
    · simp
  · have up : vbusDown vb vs0 = false := by
      unfold vbusDown
      rcases high with h | h
      · simp [h]
      · simp [h]
    refine (execCcDebounceDone_latched vb vs0 waits attaches latched).trans (congrArg Host.Outcome.next ?_)
    rw [up]
    exact State.attachIfDue_not (.inr (.inl (by simp [State.debounced])))
  · have attaches : (pairing a b).1.attaches = true := by rw [sink]; rfl
    let t := s.debounced p a b true
    have frame : State.Frame (· = p) s t := s.modCc_frame p _
    have table : t.tableFor p .attach = 0 := by
      rw [frame.tableFor]
      exact if_neg (by simpa [Purpose.table] using rom)
    have port : t.port p = { s.port p with cc := (t.port p).cc } := by simp [t, State.debounced]
    obtain ⟨cc, run, table0, entry0, post, link⟩ := State.attach_starts (s := t) (p := p) (o := o)
      (by simpa [t, State.debounced, Cc.record] using latched) ((frame.tileDeaf p).trans hears) (by rw [port]; exact lock)
      (by rw [port]; exact due) (by rw [port]; exact idle) (by rw [port]; exact queued) table
    refine ⟨_, execCcDebounceDone_attaches waits attaches (by rw [sink]; exact latched) low, ?_⟩
    rw [cc, post, State.attached, State.modPort_port_self]
    exact ⟨rfl, rfl, rfl, rfl, run, table0, entry0, rfl, link⟩
  · obtain ⟨c, cc⟩ := s.waitSample_cc p a b
    refine ⟨_, execCcDebounceDone_opens vb vs0 waits (Cc.opens_accessory latched rfl opn) run, ?_⟩
    rw [cc]
    simp [Port.toWatch, enabled]
  · have attach := State.attach_accessory_port (s := s.modCc p fun c => { c with attachDue := true }) (p := p) (k := .audioAcc) (o := o)
      (by simpa using latched) (((s.modCc_frame p _).tileDeaf p).trans hears) rfl
    refine ⟨_, execAttachVbusCleared_attaches waits debounced low (by simp [line1]) (by simp [line2]), ?_⟩
    simpa using attach
  · have run : exec (.attachVbusCleared p vb true) s = _ := execAttachVbusCleared_down waits debounced low
    rw [run, State.attachIfDue_not (.inr (.inr (by simp [driven])))]
    rfl
  · have run4 : exec (.detachSample p v1 v2 true []) s = .next ((s.detachShown p v1 v2).detach p (s.port p).path.midMove) := by
      refine (execDetachSample_counted attached sink tx gc).trans ?_
      rw [State.tripCycle_nil, run]
      exact (congrArg (fun n => if n ≥ 4 then _ else _) (if_pos isOver)).trans (if_pos (by decide))
    exact ⟨_, run4, State.detach_port _ p _⟩
  · refine (execDetachSample_counted attached sink tx gc).trans ?_
    have n : (if (s.port p).cc.rpNow.openMv ≤ (s.port p).cc.activeMv v1 v2 then (s.port p).cc.detachRun + 1 else 0) = 0 :=
      if_neg (Nat.not_le.mpr under)
    dsimp only
    rw [n, if_neg (by decide)]
    refine congrArg Host.Outcome.next ?_
    simp only [State.detachShown, State.modCc_eq, State.modPort_modPort]
    exact State.modPort_congr rfl

end Sys2Proof.Machine
end

section
/-! SUPPORT. CC over-voltage, comparators that stick, and the bootstrap ports (R46, R53–R55, R58, R60, R513). -/
namespace Sys2Proof.Machine

/-! ### The port safe state (R15) -/

/-- The path of a port made safe: the switch open, VCONN off and the discharge on (R15). -/
def Path.isOff (q : Path) : Prop := q.gate = false ∧ q.vconn = 0 ∧ q.dis = true

theorem State.portSafe_off (s : State) (p : PortId) : ((s.portSafe p).port p).path.isOff := by
  unfold State.portSafe
  rw [State.modPath_eq, State.modPort_port_self]
  exact ⟨rfl, rfl, rfl⟩

theorem State.attachEnds_off {s : State} {p : PortId} (h : (s.port p).path.isOff) : ((s.attachEnds p).port p).path.isOff := by
  rw [State.attachEnds_path]
  exact h

theorem State.Keeps.off {s t : State} {p : PortId} (k : State.Keeps (·.path) s t) (h : (s.port p).path.isOff) : (t.port p).path.isOff := by
  rw [show (t.port p).path = (s.port p).path from k p]
  exact h

/-! ### CC over-voltage (R46) -/

/-- A port made safe for a line above 5.5 V: the over-voltage told, its contract ended (R46). -/
def State.overvoltTold (s : State) (p : PortId) (line mv : Nat) : State :=
  (((s.portSafe p).postEvt (some p) (.overvolt (some line) (mv / 20))).queueFault p 8 (BitVec.ofNat 32 line)).endContract p .ccOvervolt

/-- The same port, its attach ended and its retry hold begun (R179, R513). -/
def State.overvoltSafe (s : State) (p : PortId) (line mv : Nat) : State :=
  ((s.overvoltTold p line mv).attachEnds p).modRetry p Retry.holdNow

/-- The CC watch of a port that no bootstrap state and no lockout holds, after a line above 5.5 V (R46). -/
def Cc.heldOff (c : Cc) (line2 : Bool) (now : Nat) : Cc :=
  { c with state := .ccHoldOff, rp := .off, rpHold := false, filt := [], latched := none, debounced := false, attachDue := false,
           attachPend := false, awaitDue := false, ov1 := c.ov1 || ! line2, ov2 := c.ov2 || line2, ovAt := now }

theorem State.overvoltTold_cc (s : State) (p : PortId) (line mv : Nat) : State.Keeps (·.cc) s (s.overvoltTold p line mv) :=
  ((((State.Keeps.refl _ s).portSafe (p := p)).frame (State.postEvt_frame _ _ _)).queueFault).endContract

theorem State.overvoltTold_path (s : State) (p : PortId) (line mv : Nat) : State.Keeps (·.path) (s.portSafe p) (s.overvoltTold p line mv) :=
  (((State.Keeps.refl _ (s.portSafe p)).frame (State.postEvt_frame _ _ _)).queueFault).endContract

theorem State.overvoltSafe_cc (s : State) (p : PortId) (line mv : Nat) : State.Keeps (·.cc) s (s.overvoltSafe p line mv) := by
  have ended : State.Keeps (·.cc) s ((s.overvoltTold p line mv).attachEnds p) := (s.overvoltTold_cc p line mv).attachEnds
  unfold State.overvoltSafe
  rw [State.modRetry_eq]
  exact ended.modPort

theorem State.overvoltSafe_off (s : State) (p : PortId) (line mv : Nat) : ((s.overvoltSafe p line mv).port p).path.isOff := by
  have ended := State.attachEnds_off ((s.overvoltTold_path p line mv).off (s.portSafe_off p))
  unfold State.overvoltSafe
  rw [State.modRetry_eq, State.modPort_port_self]
  dsimp only
  exact ended

theorem execCcOvervolt_attached {p : Fin 192} {line2 : Bool} {mv : Nat} {s : State} (high : 5500 < mv)
    (attached : (s.port p).cc.state = .attached) (gate : (s.port p).path.gate = true) :
    execCcOvervolt p line2 mv s = .next ((s.overvoltSafe p (if line2 then 2 else 1) mv).modCc p fun c => c.heldOff line2 s.aon) := by
  have state : ((s.overvoltSafe p (if line2 then 2 else 1) mv).port p).cc.state = .attached :=
    (congrArg Cc.state (s.overvoltSafe_cc p _ mv p)).trans attached
  have run : execCcOvervolt p line2 mv s = .next ((s.overvoltSafe p (if line2 then 2 else 1) mv).modCc p fun c =>
      { c.heldOff line2 s.aon with
        state := match c.state with | .bootSink => .bootSink | .bootRd => .bootRd | .lockedOut => .lockedOut | _ => .ccHoldOff }) := by
    unfold execCcOvervolt
    rw [if_neg (by omega)]
    dsimp only
    rw [attached, gate]
    simp only [Bool.true_or, if_true, show (CcState.attached == CcState.bootSink || CcState.attached == CcState.bootRd) = false from rfl,
      Bool.false_eq_true, if_false, Bool.false_and, beq_self_eq_true]
    rfl
  generalize s.overvoltSafe p (if line2 then 2 else 1) mv = u at run state ⊢
  refine run.trans (congrArg Host.Outcome.next (State.modPort_congr ?_))
  dsimp only
  rw [state]
  rfl

/-! ### The comparator tests (R58, R60) -/

/-- A port whose comparator is declared stuck, made safe and locked out, before it is told (R60, R513). -/
def State.cmpLocked (s : State) (p : PortId) (i : Nat) : State :=
  (((s.portSafe p).endContract p .lockout).attachEnds p).modPort p fun q =>
    { q with cc := { q.cc with state := .lockedOut, rp := .off, rpHold := false, filt := [], latched := none, cmpRetest := false,
                               cmpStuck := q.cc.cmpStuck.filter (· != i) ++ [i], cmpFails := q.cc.cmpFails.filter (· != i) },
             retry := { q.retry with lock := .cmpStuck, due := none, probing := false } }

theorem State.cmpStuck_eq (s : State) (p : PortId) (i : Nat) : s.cmpStuck p i =
    (((s.cmpLocked p i).postEvt (some p) (.lockout .cmpStuck i)).queueFault p 4 2#32).refRecord 0x0D (some (tileOf p)) (some p) := rfl

/-- What is told of a stuck comparator changes of each port its event queue alone (R60, R302). -/
theorem State.cmpStuck_keeps (s : State) (p : PortId) (i : Nat) {α : Type} {part : Port → α}
    (sc : ∀ q c, part { q with sc := c } = part q := by exact fun _ _ => rfl) : State.Keeps part (s.cmpLocked p i) (s.cmpStuck p i) := by
  rw [State.cmpStuck_eq]
  exact State.Keeps.trans (((State.Keeps.refl part _).frame (State.postEvt_frame _ _ _)).queueFault sc)
    fun q => congrArg part (State.port_of_ports (State.refRecord_ports _ _ _ _) q)

/-- A comparator that is declared stuck locks the port out, its path made safe, and is recorded by the referee (R60, R383). -/
theorem State.cmpStuck_port (s : State) (p : PortId) (i : Nat) :
    ((s.cmpStuck p i).port p).cc.state = .lockedOut ∧ ((s.cmpStuck p i).port p).cc.rp = .off ∧
      ((s.cmpStuck p i).port p).retry.lock = .cmpStuck ∧ ((s.cmpStuck p i).port p).path.gate = false := by
  have ended : (((s.portSafe p).endContract p .lockout).port p).path.isOff := by
    rw [State.endContract_path]
    exact s.portSafe_off p
  obtain ⟨gate, -⟩ := State.attachEnds_off ended
  have cc : ((s.cmpStuck p i).port p).cc = ((s.cmpLocked p i).port p).cc := s.cmpStuck_keeps p i (part := (·.cc)) (fun _ _ => rfl) p
  have retry : ((s.cmpStuck p i).port p).retry = ((s.cmpLocked p i).port p).retry := s.cmpStuck_keeps p i (part := (·.retry)) (fun _ _ => rfl) p
  have path : ((s.cmpStuck p i).port p).path = ((s.cmpLocked p i).port p).path := s.cmpStuck_keeps p i (part := (·.path)) (fun _ _ => rfl) p
  rw [cc, retry, path, State.cmpLocked, State.modPort_port_self]
  dsimp only
  exact ⟨rfl, rfl, rfl, gate⟩

theorem State.cmpStuck_recorded (s : State) (p : PortId) (i : Nat) : (s.cmpStuck p i).ref.fault.getLsbD 0x0D = true := by
  rw [State.cmpStuck_eq, State.refRecord_fault, getLsbD_setBit]
  rfl

theorem execCcComparatorTest_passes (p : Fin 192) (i : Nat) (s : State) :
    execCcComparatorTest p i true s =
      let owed := if (s.port p).cc.cmpRetest then (s.port p).cc.cmpStuck.filter (fun k => k != i && decide (k < 6)) else (s.port p).cc.cmpStuck
      let lift := (s.port p).retry.lock == .cmpStuck && (s.port p).cc.cmpRetest && owed.isEmpty
      .next (s.modPort p fun q =>
        { q with cc := { q.cc with cmpFails := q.cc.cmpFails.filter (· != i), cmpStuck := owed, cmpRetest := q.cc.cmpRetest && ! lift },
                 retry := { q.retry with lock := if lift then .none else q.retry.lock } }) := rfl

/-! ### The bootstrap ports (R53–R55) -/

theorem execBootSinkAttach_up {p : Fin 192} {line2 : Bool} {mv : Nat} {s : State} (rd : (s.port p).cc.state = .bootRd) (up : s.pwr.domUp = true) :
    execBootSinkAttach p line2 mv s = .next ((s.modCc p fun c =>
      { c with state := .bootSink, partner := .bootSink, cc2 := line2, rp := sinkLevel mv, attachPend := true }).bootAttach p) := by
  unfold execBootSinkAttach
  rw [if_pos (by simp [rd])]
  exact if_pos up

/-- ATTACH of a BOOT_SINK is counted; no table runs (R54). -/
theorem State.bootAttach_port (s : State) (p : PortId) : (s.bootAttach p).port p =
    { s.port p with cc := { (s.port p).cc with attachPend := false }, cnt := { (s.port p).cnt with attach := (s.port p).cnt.attach.inc32 } } := by
  unfold State.bootAttach
  simp only [State.modCc_eq, State.modCnt_eq, State.modPort_port_self]
  rw [(State.postEvt_frame (P := fun _ => False) s _ _).others p id]

theorem execBootRdRelease_free {p : Fin 192} {s : State} (rd : (s.port p).cc.state = .bootRd) (free : (s.port p).cc.disablePend = false)
    (released : (s.tile (tileOf p)).released = true) : execBootRdRelease p s = .next (s.modPort p Port.toWatch) := by
  unfold execBootRdRelease
  rw [if_pos (by simp [rd, released])]
  dsimp only
  rw [free]
  rfl

/-- DETACH of a BOOT_SINK is posted and queued (R55). -/
def State.bootDetached (s : State) (p : PortId) : State := ((s.calAbort p).postEvt (some p) (.detach false .bootSink)).queueFault p 2 0#32

theorem State.bootDetached_keeps (s : State) (p : PortId) {α : Type} {part : Port → α}
    (all : ∀ q m c, part { q with smp := m, sc := c } = part q := by exact fun _ _ _ => rfl) : State.Keeps part s (s.bootDetached p) :=
  (((State.Keeps.refl part s).calAbort fun q m => all q m q.sc).frame (State.postEvt_frame _ _ _)).queueFault fun q c => all q q.smp c

theorem execBootSinkDetach_free {p : Fin 192} {s : State} (sink : (s.port p).cc.state = .bootSink) (free : (s.port p).cc.disablePend = false) :
    execBootSinkDetach p s = .next ((s.bootDetached p).modPort p fun q =>
      { q with cc := { q.cc with state := .detaching, rp := .off }, path := { q.path with dis := true, disTrip := true, stuckTimer := true } }) := by
  unfold execBootSinkDetach
  rw [if_pos (by simp [sink])]
  dsimp only
  rw [free]
  rfl

/-- Settles O6: the line above 5.5 V, the tests one by one, and the way of a bootstrap port. -/
theorem ccFaultsAndBootstrapPorts : Obligations.CcFaultsAndBootstrapPorts := by
  unfold Obligations.CcFaultsAndBootstrapPorts
  refine ⟨fun p l mv s high attached gate => ?_, fun p s held enabled long => ?_, fun p i s fails lock => ?_, fun p i s first => ?_,
    fun p i s retest lock stuck fails => ?_, fun p i k s retest lock tested other stuck fails => ?_, fun p i s own => ?_,
    fun p l mv s rd up => ?_, fun p s rd free enabled released => ⟨execBootRdRelease_free rd free released, if_pos enabled⟩,
    fun p s sink free => ?_⟩
  · have cc : ((s.overvoltSafe p (if l then 2 else 1) mv).port p).cc = (s.port p).cc := s.overvoltSafe_cc p _ mv p
    obtain ⟨gate', vconn, dis⟩ := s.overvoltSafe_off p (if l then 2 else 1) mv
    refine ⟨_, execCcOvervolt_attached high attached gate, ?_⟩
    rw [State.modCc_eq, State.modPort_port_self]
    dsimp only
    rw [cc]
    exact ⟨rfl, rfl, gate', vconn, dis, rfl, rfl⟩
  · have run : execCcHoldOffEnd p s = .next ((s.modCc p fun c => { c with ov1 := false, ov2 := false }).modPort p Port.toWatch) :=
      (if_neg (by omega)).trans (if_pos (by simp [held]))
    refine ⟨_, run, ?_⟩
    simp [Port.toWatch, enabled]
  · have run : execCcComparatorTest p i false s = .next (s.cmpStuck p i) := by
      unfold execCcComparatorTest
      dsimp only
      rw [if_neg (by decide), fails, lock, if_neg (by simp), if_neg (by simp)]
      rfl
    obtain ⟨state, rp, lock', gate⟩ := s.cmpStuck_port p i
    exact ⟨_, run, state, rp, lock', gate, s.cmpStuck_recorded p i⟩
  · have run : execCcComparatorTest p i false s = .next (s.modCc p fun c => { c with cmpFails := c.cmpFails ++ [i] }) := by
      unfold execCcComparatorTest
      dsimp only
      rw [if_neg (by decide), first, if_pos (by decide)]
      rfl
    exact run
  · refine (execCcComparatorTest_passes p i s).trans (congrArg Host.Outcome.next (State.modPort_congr ?_))
    simp [retest, lock, stuck, fails]
  · have owed : (if (s.port p).cc.cmpRetest then (s.port p).cc.cmpStuck.filter (fun j => j != i && decide (j < 6)) else (s.port p).cc.cmpStuck) =
        (s.port p).cc.cmpStuck := by simp [stuck, tested, other.symm]
    have held : ((s.port p).retry.lock == .cmpStuck && (s.port p).cc.cmpRetest && (s.port p).cc.cmpStuck.isEmpty) = false := by simp [stuck]
    have still : (s.port p).cc.cmpFails.filter (· != i) = (s.port p).cc.cmpFails := by simp [fails]
    refine (execCcComparatorTest_passes p i s).trans (congrArg Host.Outcome.next (State.modPort_same ?_))
    dsimp only
    rw [owed, held, still, Bool.not_false, Bool.and_true]
    rfl
  · refine (execCcComparatorTest_passes p i s).trans (congrArg Host.Outcome.next (State.modPort_congr ?_))
    simp [own]
  · refine ⟨_, execBootSinkAttach_up rd up, ?_⟩
    rw [State.bootAttach_port, State.modCc_eq, State.modPort_port_self]
    exact ⟨rfl, rfl, rfl, rfl, rfl, rfl⟩
  · have path : ((s.bootDetached p).port p).path = (s.port p).path := s.bootDetached_keeps p (part := (·.path)) (fun _ _ _ => rfl) p
    have sb : ((s.bootDetached p).port p).sb = (s.port p).sb := s.bootDetached_keeps p (part := (·.sb)) (fun _ _ _ => rfl) p
    refine ⟨_, execBootSinkDetach_free sink free, ?_⟩
    rw [State.modPort_port_self]
    dsimp only
    rw [path, sb]
    exact ⟨rfl, rfl, rfl, rfl⟩

end Sys2Proof.Machine
end

section
/-! SUPPORT. The attach state that PP_CC_STATUS shows (R57), and the state right after a power-on reset. -/
namespace Sys2Proof.Machine

/-! ### PP_CC_STATUS (R57, R480, R481) -/

theorem CcState.num_lt (x : CcState) : x.num < 16 := by cases x <;> decide

/-- The upper four bits of PP_CC_STATUS are the attach state: every other field lies below bit 28 (R481). -/
theorem State.ppVal_ccState (s : State) (p : PortId) : bits (s.ppVal p 0x04) 28 4 = (s.port p).cc.state.num := by
  have code := (s.port p).cc.state.num_lt
  show bits (packWord [((s.port p).cc.state.num, 28, 4), _, _, _, _, _, _, _, _]) 28 4 = _
  simp only [bits, packWord, List.foldl_cons, List.foldl_nil, BitVec.toNat_ofNat]
  omega

/-- No value wider than 32 bits lies at PP_CC_STATUS or ends there (R477). -/
theorem State.wide_ppCcStatus (s : State) (p : PortId) : s.wide (ppOff p.val 0x04) = none ∧ s.wide (ppOff p.val 0x04 - 4) = none := by
  have before : ppOff p.val 0x04 - 4 = ppOff p.val 0 := by unfold ppOff; omega
  have block (r : Nat) (lt : r < 0x80) (n : r ≠ 0x60) : s.wide (ppOff p.val r) = none := by
    have high : 0x8000 ≤ ppOff p.val r := by unfold ppOff; omega
    unfold State.wide
    rw [if_neg (by simp; omega), if_neg (by simp; omega), if_neg (by simp; omega), if_neg (by simp; omega), if_neg (by simp; omega),
      if_neg (by simp; omega), ppPort_ppOff p lt]
    split
    next e => simp only [Option.some.injEq, Prod.mk.injEq] at e; exact absurd e.2 n
    · rfl
  rw [before]
  exact ⟨block 4 (by decide) (by decide), block 0 (by decide) (by decide)⟩

/-- A read of PP_CC_STATUS gives its value on every path, while the port's tile is not fenced (R473). -/
theorem State.regRead_ppCcStatus {s : State} {p : PortId} (a : Path6) (notFenced : s.portFenced p = false) :
    (s.regRead a (ppOff p.val 0x04)).1 = s.ppVal p 0x04 := by
  obtain ⟨here, before⟩ := s.wide_ppCcStatus p
  have high : 0x8000 ≤ ppOff p.val 0x04 := by unfold ppOff; omega
  have free : s.offFenced (ppOff p.val 0x04) = false := by
    unfold State.offFenced
    rw [ppPort_ppOff p (by decide)]
    simp [notFenced]
  have value : s.regVal (ppOff p.val 0x04) = s.ppVal p 0x04 := by
    unfold State.regVal
    rw [if_neg (by simp [ppOff_mod_four]), ppPort_ppOff p (by decide)]
  have open_ : sessionReg (ppOff p.val 0x04) = false := by
    unfold sessionReg
    simp
    omega
  unfold State.regRead
  rw [free, if_neg (by decide), here, if_neg (by omega), before]
  cases a <;> simp [value, open_]

/-- Settles O54: a read gives the code of the state, and each state's code is that of R57. -/
theorem attachStateCodes : Obligations.AttachStateCodes := by
  unfold Obligations.AttachStateCodes
  intro a p s notFenced
  rw [State.regRead_ppCcStatus a notFenced, State.ppVal_ccState]
  cases (s.port p).cc.state <;> decide

/-! ### Reset -/

/-- Settles O56: the records that `State.reset` puts in place, and each port's record from its place in the tile. -/
theorem resetState : Obligations.ResetState := by
  unfold Obligations.ResetState
  refine ⟨rfl, rfl, rfl, rfl, fun p => ?_, fun p => ?_, rfl, rfl, rfl, rfl, rfl, rfl, by decide +kernel⟩
  · rw [State.reset_port]
    exact ⟨rfl, rfl, rfl, rfl, rfl, rfl, rfl⟩
  · rw [State.reset_port]
    simp [Port.reset, Cc.reset, isBoot]

end Sys2Proof.Machine
end

section
/-! SUPPORT. Waits, timeouts, posts and the queued post of a power-path sequencer (R36, R54, R158, R161, R162, R167, R174). -/
namespace Sys2Proof.Machine

/-! ### Waits and timeouts (R161, R162) -/

theorem State.stepOk_more {s : State} {p : PortId} {e : BitVec 64} (more : seEnd e = false) :
    s.stepOk p e = s.modPath p fun q => { q with waiting := false, entry := seOk e % 64 } := by
  unfold State.stepOk
  rw [more]
  rfl

theorem State.stepOk_end {s : State} {p : PortId} {e : BitVec 64} (ends : seEnd e = true) : s.stepOk p e = s.endTable p e := if_pos ends

/-- A wait whose condition holds lets the entry succeed; at vSafe0V with the switch open the accumulators clear first (R161, R174). -/
theorem execStepWaitSuccess_met {p : Fin 192} {w : WaitView} {s : State} (waits : s.stepWaits p)
    (met : s.waitMet p (s.stepEntryOf p) w = true) :
    execStepWaitSuccess p w s = .next (State.stepOk
      (if seWait (s.stepEntryOf p) == 1 && seThr (s.stepEntryOf p) == 40 && ! (s.port p).path.gate then
        s.modPath p fun q => { q with acc := List.replicate 8 0 } else s) p (s.stepEntryOf p)) := by
  obtain ⟨run, waiting, hears⟩ := waits
  exact if_pos (by simp [run, waiting, hears, met])

theorem execStepWaitSuccess_other {p : Fin 192} {w : WaitView} {s : State} (waits : s.stepWaits p)
    (met : s.waitMet p (s.stepEntryOf p) w = true) (other : seWait (s.stepEntryOf p) ≠ 1) :
    execStepWaitSuccess p w s = .next (s.stepOk p (s.stepEntryOf p)) := by
  rw [execStepWaitSuccess_met waits met, if_neg (by simp [other])]

theorem execStepWaitSuccess_not {p : Fin 192} {w : WaitView} {s : State} (not : s.waitMet p (s.stepEntryOf p) w = false) :
    execStepWaitSuccess p w s = .next s := if_neg (by simp [not])

theorem execStepWaitTimeout_waits {p : Fin 192} {s : State} (waits : s.stepWaits p) :
    execStepWaitTimeout p s = if seWait (s.stepEntryOf p) = 5 then .next (s.stepOk p (s.stepEntryOf p))
      else .next (s.stepTo p (s.stepEntryOf p) .stepTimeout) := by
  obtain ⟨run, waiting, hears⟩ := waits
  unfold execStepWaitTimeout
  rw [if_pos (by simp [run, waiting, hears])]
  simp only [beq_iff_eq]
  rfl

/-- What each wait asks of VBUS, of the current and of the slew (R161). -/
theorem State.waitMet_iff (s : State) (p : PortId) (e : BitVec 64) (w : WaitView) :
    (seWait e = 2 → (s.waitMet p e w = true ↔ seThr e * 20 < (w.vb[0]?).getD 0)) ∧
    (seWait e = 3 → (s.waitMet p e w = true ↔ 4 ≤ w.vb.length ∧ ∀ v ∈ w.vb.take 4,
      (s.port p).path.target - margin (s.port p).path.target ≤ v ∧ v ≤ (s.port p).path.target + margin (s.port p).path.target)) ∧
    (seWait e = 4 → (s.waitMet p e w = true ↔ w.ib < seThr e * 5)) ∧
    (seWait e = 8 → (s.waitMet p e w = true ↔ (s.port p).path.slewTo = none)) := by
  unfold State.waitMet
  refine ⟨fun h => ?_, fun h => ?_, fun h => ?_, fun h => ?_⟩ <;> rw [h] <;> simp

/-! ### Posts (R167) -/

/-- The sequencer of a port on a tile that is up refuses a request: the port is safe-held, the target out of range, or no table may run
(R36, R54, R162, R167). -/
theorem State.post_refused {s : State} {p : PortId} {r : Post} (hears : s.tileDeaf p = false)
    (bad : (s.port p).path.safeHeld = true ∧ r.purpose ≠ .attach ∧ r.purpose ≠ .errRec ∧ r.purpose ≠ .probe ∨ r.mv < 3300 ∨ 50000 < r.mv ∨
      (s.port p).cc.noTable (s.tableFor p r.purpose) = true) : s.post p r = s.sigSend p .refused := by
  unfold State.post
  rw [if_neg (by simp [hears]), if_pos]
  simp only [Bool.or_eq_true, Bool.and_eq_true, decide_eq_true_eq, gt_iff_lt]
  rcases bad with ⟨held, attach, errRec, probe⟩ | low | high | none
  · exact .inl (.inl (.inl ⟨held, by simp [attach, errRec, probe]⟩))
  · exact .inl (.inl (.inr low))
  · exact .inl (.inr high)
  · exact .inr none

theorem State.post_deaf {s : State} {p : PortId} {r : Post} (deaf : s.tileDeaf p = true) : s.post p r = s := if_pos deaf

theorem Purpose.abandons_iff (x : Purpose) : x.abandons = true ↔ x = .hardReset ∨ x = .errRec ∨ x = .disc := by
  cases x <;> decide

theorem State.takesPost.of_free {s : State} {p : PortId} {r : Post} (hears : s.tileDeaf p = false) (free : (s.port p).path.safeHeld = false)
    (low : 3300 ≤ r.mv) (high : r.mv ≤ 50000) (may : (s.port p).cc.noTable (s.tableFor p r.purpose) = false) : s.takesPost p r :=
  ⟨hears, .inl free, low, high, may⟩

/-- A purpose that abandons the running table starts its own at once; a post that was queued shows as REFUSED (R167). -/
theorem State.takesPost.post_abandons {s : State} {p : PortId} {r : Post} (h : s.takesPost p r) (abandons : r.purpose.abandons = true) :
    ((s.post p r).port p).path =
      { (s.port p).path with
        run := true, table := s.tableFor p r.purpose, entry := 0, waiting := false, post := r, moved := false, safeHeld := false, queued := none,
        lastSignal := if (s.port p).path.queued.isSome then some .refused else (s.port p).path.lastSignal } := by
  rw [h.post_eq, abandons, if_pos rfl, State.startTable_path, State.abandonTable_path]

/-- A request that the idle sequencer takes runs from entry 0 of its table, whatever its purpose (R167, R168). -/
theorem State.takesPost.post_idle {s : State} {p : PortId} {r : Post} (h : s.takesPost p r) (idle : (s.port p).path.run = false)
    (none : (s.port p).path.queued = none) :
    ((s.post p r).port p).path =
        { (s.port p).path with
          run := true, table := s.tableFor p r.purpose, entry := 0, waiting := false, post := r, moved := false, safeHeld := false } ∧
      (s.post p r).link = s.link := by
  cases abandons : r.purpose.abandons
  · rw [h.post_starts abandons idle none, State.startTable_path]
    exact ⟨rfl, s.startTable_link p _ r⟩
  · rw [h.post_abandons abandons, h.post_eq, abandons, if_pos rfl]
    simp [none]

/-- On a BOOT_SINK no table runs, on an attached accessory none but the one that removes its Rp, on an attached sink every one (R36, R54). -/
theorem Cc.noTable_attached (c : Cc) (n : Nat) :
    (c.state = .bootSink → c.noTable n = true) ∧
    (c.state = .attached → (c.partner = .debugAcc ∨ c.partner = .audioAcc) → n ≠ 4 → n ≠ 20 → c.noTable n = true) ∧
    (c.state = .attached → (c.partner = .sink ∨ c.partner = .sinkPoweredCable) → c.noTable n = false) := by
  unfold Cc.noTable
  refine ⟨fun h => by rw [h], fun h accessory rp rpRam => ?_, fun h sink => ?_⟩
  · rw [h]
    rcases accessory with k | k <;> simp [k, rp, rpRam]
  · rw [h]
    rcases sink with k | k <;> simp [k]

/-- Settles O18: the waits from their conditions, the posts from the branches of R167. -/
theorem waitsAndPosts : Obligations.WaitsAndPosts := by
  unfold Obligations.WaitsAndPosts
  refine ⟨fun p w s waits met other more => ?_, fun p w s waits not => execStepWaitSuccess_not not, fun p e w s => s.waitMet_iff p e w,
    fun p w s waits below thr low vs0 gate more => ?_, fun p w s waits met other ends => ?_, fun p s waits time more => ?_,
    fun p s waits other fault => ?_, fun p s waits other fault more => ?_, fun p r s hears free low high idle none may => ?_,
    fun p r s hears free low high run none may n1 n2 n3 => ?_, fun p r s hears free low high may purpose => ?_,
    fun p r s hears bad => ?_, fun p r s deaf => ?_, Cc.noTable_attached, fun p r s queued hears free low high idle may => ?_⟩
  · exact (execStepWaitSuccess_other waits met other).trans (congrArg Host.Outcome.next (State.stepOk_more more))
  · have met : s.waitMet p (s.stepEntryOf p) w = true := by simp [State.waitMet, below, thr, low, vs0]
    refine (execStepWaitSuccess_met waits met).trans (congrArg Host.Outcome.next ?_)
    rw [below, thr, gate, if_pos (by decide), State.stepOk_more more]
    exact s.modPort_modPort p _ _
  · exact (execStepWaitSuccess_other waits met other).trans (congrArg Host.Outcome.next (State.stepOk_end ends))
  · refine (execStepWaitTimeout_waits waits).trans ((if_pos time).trans (congrArg Host.Outcome.next (State.stepOk_more more)))
  · refine ⟨_, (execStepWaitTimeout_waits waits).trans (if_neg other), ?_⟩
    rw [State.stepTo, if_pos fault]
    exact s.portTrip_port p _ _
  · refine (execStepWaitTimeout_waits waits).trans ((if_neg other).trans (congrArg Host.Outcome.next ?_))
    rw [State.stepTo, fault, more]
    rfl
  · obtain ⟨path, link⟩ := (State.takesPost.of_free hears free low high may).post_idle idle none
    refine ⟨s.post p r, rfl, ?_⟩
    rw [path]
    exact ⟨rfl, rfl, rfl, rfl, rfl, link⟩
  · have joins : r.purpose.abandons = false := Bool.eq_false_iff.mpr fun h => by
      rcases (Purpose.abandons_iff _).mp h with k | k | k
      · exact n1 k
      · exact n2 k
      · exact n3 k
    refine congrArg Host.Outcome.next ?_
    rw [(State.takesPost.of_free hears free low high may).post_eq, joins, none, run]
    rfl
  · have path := (State.takesPost.of_free hears free low high may).post_abandons ((Purpose.abandons_iff _).mpr purpose)
    refine ⟨s.post p r, rfl, ?_⟩
    rw [path]
    exact ⟨rfl, rfl, rfl, rfl, fun queued => if_pos (Option.isSome_iff_ne_none.mpr queued)⟩
  · have refused := State.post_refused hears bad
    refine ⟨s.post p r, rfl, ?_⟩
    rw [refused]
    exact ⟨s.sigSend_path p _, s.sigSend_link p _⟩
  · exact congrArg Host.Outcome.next (State.post_deaf deaf)
  · let t := s.modPath p fun q => { q with queued := none }
    have frame : State.Frame (· = p) s t := s.modPath_frame p _ id
    have port : t.port p = { s.port p with path := { (s.port p).path with queued := none } } := s.modPort_port_self p _
    have run : exec (.queuedPostStart p) s = .next (t.post p r) := by
      show execQueuedPostStart p s = _
      unfold execQueuedPostStart
      rw [queued]
      exact if_neg (by simp [idle, hears])
    have takes : t.takesPost p r := State.takesPost.of_free ((frame.tileDeaf p).trans hears) (by rw [port]; exact free) low high
      (by rw [port, frame.tableFor]; exact may)
    obtain ⟨path, -⟩ := takes.post_idle (by rw [port]; exact idle) (by rw [port])
    refine ⟨_, run, ?_⟩
    rw [path, port]
    exact ⟨rfl, rfl, rfl, rfl, rfl⟩

end Sys2Proof.Machine
end

section
/-! SUPPORT. What a Hard_Reset, a lowered allocation and a message to a free TX buffer leave of a port (R68, R117, R222). -/
namespace Sys2Proof.Machine

/-! ### A message to a free TX buffer (R68) -/

/-- A message that starts no sequence goes to the free TX buffer at once (R68, R127). -/
theorem State.send_free {s : State} {p : PortId} {m : TxMsg} (free : s.policyFree p) (reply : m.amsStart = false) : s.send p m = s.toTx p m := by
  obtain ⟨on, hold, tx, outq⟩ := free
  have hears : s.tileDeaf p = false := by
    unfold State.policyOn at on
    simp only [Bool.and_eq_true, Bool.not_eq_true'] at on
    exact on.1.1.2
  unfold State.send State.mayStart
  rw [if_neg (by simp [hears]), outq, tx, reply, if_pos (by simp [hold])]

theorem State.policyFree_modSb {s : State} {p : PortId} {f : Sb → Sb} (h : s.policyFree p) : (s.modSb p f).policyFree p := by
  obtain ⟨on, hold, tx, outq⟩ := h
  have deaf : (s.modSb p f).tileDeaf p = s.tileDeaf p := (s.modSb_frame p f).tileDeaf p
  refine ⟨?_, ?_, ?_, ?_⟩
  · unfold State.policyOn at on ⊢
    rw [deaf]
    simpa using on
  · simpa using hold
  · simpa [Port.txFree] using tx
  · simpa using outq

/-! ### A Hard_Reset (R117) -/

theorem State.endContract_pol (s : State) (p : PortId) (c : LostCause) :
    ((s.endContract p c).port p).pol = (s.port p).pol.clearContract := by
  unfold State.endContract
  dsimp only
  split
  · simp
  · split
    · simp
    · rw [(State.postEvt_frame (P := fun _ => False) _ _ _).others p id]
      simp

theorem State.rallyEnd_pol (s : State) (p : PortId) (post : Bool) : ((s.rallyEnd p post).port p).pol = (s.port p).pol := by
  unfold State.rallyEnd
  dsimp only
  split
  · rw [(State.postEvt_frame (P := fun _ => False) _ _ _).others p id]
    simp
  · simp

/-- A request to the sequencer leaves of each port all but its path, its retry memory, its measurement and its event queue (R167). -/
theorem State.Keeps.post {α : Type} {part : Port → α} {s t : State} {p : PortId} {r : Post}
    (all : ∀ q x y m c, part { q with path := x, retry := y, smp := m, sc := c } = part q := by exact fun _ _ _ _ _ => rfl)
    (h : State.Keeps part s t) : State.Keeps part s (t.post p r) := by
  have path (f : Path → Path) : State.Keeps part s (t.modPath p f) := h.modPort fun q => all q _ q.retry q.smp q.sc
  have refused : State.Keeps part s (t.sigSend p .refused) := (path _).queueMsg fun q c => all q q.path q.retry q.smp c
  have starts {u : State} {n : Nat} (k : State.Keeps part s u) : State.Keeps part s (u.startTable p n r) :=
    k.startTable fun q x y m => all q x y m q.sc
  have abandoned : State.Keeps part s (t.abandonTable p) := h.abandonTable fun q x c => all q x q.retry q.smp c
  exact .either h (.either refused (.either (starts abandoned) (.either refused (.either (path _) (starts h)))))

/-- The port in a Hard_Reset that has been sent or received, before ST03 is posted (R67, R117). -/
def State.hardResetLeft (s : State) (p : PortId) (c : LostCause) : State :=
  (((s.reportHold p).endContract p c).rallyEnd p true).modPort p fun q =>
    { q with pd := { q.pd.resetIds with entry := 0, waiting := false, retry := 0, tx := none, txStarted := false, txActive := false, gcActive := false,
                                        rx := none, rxHeld := none, asm := none, byRx := false, holdPsRdy := false, vth := 25, txFlags := 0,
                                        table := if q.pd.table == .hold then s.selTable p else q.pd.table,
                                        tableReq := q.pd.tableReq && q.pd.table != .hold, resume := false },
             pol := { q.pol with state := .hardReset, outq := [], flight := none, expect := .none, capsSends := 0, noResp := true, swapTake := false,
                                 swapDue := false, swapTries := 0, bist := false },
             rally := { q.rally with step := .idle, svids := [], sawRally := false },
             cnt := { q.cnt with hrst := q.cnt.hrst.inc32 } }

theorem State.hardResetDone_eq (s : State) (p : PortId) (c : LostCause) : s.hardResetDone p c = (s.hardResetLeft p c).post p (plainPost .hardReset) := rfl

theorem State.hardResetLeft_isHardReset (s : State) (p : PortId) (c : LostCause) : ((s.hardResetLeft p c).port p).isHardReset := by
  have pol : ((((s.reportHold p).endContract p c).rallyEnd p true).port p).pol = ((s.reportHold p).port p).pol.clearContract := by
    rw [State.rallyEnd_pol, State.endContract_pol]
  unfold State.hardResetLeft Port.isHardReset
  rw [State.modPort_port_self]
  dsimp only
  rw [pol]
  exact ⟨rfl, rfl, rfl, rfl, rfl, rfl⟩

theorem Port.isHardReset_of_eq {q r : Port} (pol : r.pol = q.pol) (tx : r.pd.tx = q.pd.tx) (entry : r.pd.entry = q.pd.entry) (h : q.isHardReset) :
    r.isHardReset := by
  unfold Port.isHardReset
  rw [pol, tx, entry]
  exact h

theorem State.hardResetDone_isHardReset (s : State) (p : PortId) (c : LostCause) : ((s.hardResetDone p c).port p).isHardReset := by
  have pol : State.Keeps (·.pol) (s.hardResetLeft p c) (s.hardResetDone p c) := by
    rw [State.hardResetDone_eq]
    exact (State.Keeps.refl _ _).post
  have pd : State.Keeps (·.pd) (s.hardResetLeft p c) (s.hardResetDone p c) := by
    rw [State.hardResetDone_eq]
    exact (State.Keeps.refl _ _).post
  exact Port.isHardReset_of_eq (pol p) (congrArg Pd.tx (pd p)) (congrArg Pd.entry (pd p)) (s.hardResetLeft_isHardReset p c)

/-- The transmitter that drives the line for it leaves the port as the Hard_Reset has left it (R44). -/
theorem State.modPd_isHardReset {u : State} {p : PortId} (h : (u.port p).isHardReset) :
    ((u.modPd p fun q => { q with last := .hardReset, txActive := true }).port p).isHardReset := by
  rw [State.modPd_eq, State.modPort_port_self]
  exact h

/-- Hard_Reset is sent while the count allows it, and leaves the port in HARD_RESET (R116, R117). -/
theorem State.hardReset_isHardReset {s : State} {p : PortId} (may : s.mayHardReset p) (c : LostCause) (keep : Bool) :
    ((s.hardReset p c keep).port p).isHardReset := by
  unfold State.hardReset
  rw [if_neg (Nat.not_le.mpr may)]
  exact State.modPd_isHardReset (State.hardResetDone_isHardReset _ p c)

/-! ### A lowered allocation (R222, R239) -/

/-- A lowered allocation is counted; of the port nothing else changes but its event queue and the count of equal samples. -/
theorem State.lowerAlloc_port (s : State) (p : PortId) (new : Nat) :
    (∃ n, ((s.lowerAlloc p new).port p).sb = { (s.port p).sb with alloc := new, same := n }) ∧
      ((s.lowerAlloc p new).port p).pol = (s.port p).pol := by
  unfold State.lowerAlloc
  split
  next e =>
    have same : (s.port p).sb.alloc = new := by simpa using e
    exact ⟨⟨(s.port p).sb.same, by rw [← same]⟩, rfl⟩
  · let t := s.modSb p fun b => { b with alloc := new, same := 0 }
    have told {α : Type} {part : Port → α} (sc : ∀ q c, part { q with sc := c } = part q) :
        State.Keeps part t (s.setAlloc p .decreaseConfirmed new) :=
      ((State.Keeps.refl part t).frame (State.postEvt_frame _ _ _)).queueMsg sc
    have sb : ((s.setAlloc p .decreaseConfirmed new).port p).sb = (t.port p).sb := told (part := (·.sb)) (fun _ _ => rfl) p
    have pol : ((s.setAlloc p .decreaseConfirmed new).port p).pol = (t.port p).pol := told (part := (·.pol)) (fun _ _ => rfl) p
    rw [sb, pol]
    simp only [t, State.modSb_eq, State.modPort_port_self]
    exact ⟨⟨0, rfl⟩, trivial⟩

theorem State.finishPort_port (s : State) (p : PortId) (k : WaitFor) (c : CplCode) (l : List Byte) (q : PortId) :
    (s.finishPort p k c l).port q = s.port q :=
  (s.finishPort_frame (P := fun _ => False) p k c l).others q id

end Sys2Proof.Machine
end

section
/-! SUPPORT. What the policy has waiting goes on without moving it to another state (R97, R127). -/
namespace Sys2Proof.Machine

/-- What of a port is left as it is when what its policy has waiting goes on, apart from an offer that is due and a cable that is not yet
known. -/
def Port.standing (q : Port) : PolState × Bool × CableClass × Nat × Path := (q.pol.state, q.pol.newOffer, q.pol.cable, q.pol.eprEntry, q.path)

namespace State.Keeps

variable {s t : State} {p : PortId}

theorem send {m : TxMsg} (h : Keeps Port.standing s t) : Keeps Port.standing s (t.send p m) := either h (either h.modPort h.modPort)

theorem sendNext (h : Keeps Port.standing s t) : Keeps Port.standing s (t.sendNext p) := by
  unfold State.sendNext
  refine either h ?_
  split
  · exact State.Keeps.modPort (State.Keeps.modPort h)
  · exact h

theorem sendVdm {x : Sop} {r : VdmReq} {w : Word} {l : List Word} (h : Keeps Port.standing s t) :
    Keeps Port.standing s (t.sendVdm p x r w l) := State.Keeps.send h.modPort

theorem swapSend {take host : Bool} (h : Keeps Port.standing s t) : Keeps Port.standing s (t.swapSend p take host) := State.Keeps.send h.modPort

theorem rallyExit (h : Keeps Port.standing s t) : Keeps Port.standing s (t.rallyExit p) := by
  have ended : Keeps Port.standing s (t.rallyEnd p true) := either (h.modPort.frame (State.postEvt_frame _ _ _)) h.modPort
  exact either ended.sendVdm h

/-- CURTAIL or RESTORE goes out (R153). -/
theorem owedNext (h : Keeps Port.standing s t) : Keeps Port.standing s (t.owedNext p) := by
  unfold State.owedNext
  refine either h ?_
  split
  · exact State.Keeps.sendVdm h.modPort
  · exact State.Keeps.sendVdm h.modPort
  · exact h

/-- The next request of SOP discovery goes out (R140). -/
theorem sopNext (h : Keeps Port.standing s t) : Keeps Port.standing s (t.sopNext p) := by
  have identity : Keeps Port.standing s (if (t.port p).pol.cable == .unknown then t
      else (t.modRally p fun r => { r with step := .identity }).sendVdm p .sop .sopIdentity (t.vdmReqHdr p 0xFF00 0 1) []) :=
    either h (State.Keeps.sendVdm h.modPort)
  unfold State.sopNext
  refine either h ?_
  split
  · exact identity
  · exact identity
  · exact h.sendVdm
  · exact h.sendVdm
  · exact either h.sendVdm h.modPort
  · exact h

/-- A NOTICE that is due goes out, or Rally mode is left (R150, R151). -/
theorem noticeNext (h : Keeps Port.standing s t) : Keeps Port.standing s (t.noticeNext p) := by
  unfold State.noticeNext
  exact either (either h.rallyExit (State.Keeps.sendVdm h.modPort)) h

/-- The device's own VCONN_Swap goes out again, or is complete, where no EPR entry waits for it (R124). -/
theorem swapAgain (epr : (t.port p).pol.eprEntry ≠ 2) (h : Keeps Port.standing s t) : Keeps Port.standing s (t.swapAgain p) := by
  unfold State.swapAgain
  refine either h (either h.swapSend ?_)
  rw [if_neg (by simpa using epr)]
  exact State.Keeps.frame h.modPort (State.finishPort_frame _ _ _ _ _)

end State.Keeps

theorem State.offerDue_none {s : State} {p : PortId} (none : (s.port p).pol.newOffer = false) : s.offerDue p = s := if_neg (by simp [none])

theorem State.startCable_known {s : State} {p : PortId} (known : (s.port p).pol.cable ≠ .unknown) : s.startCable p = s := if_pos (by simp [known])

/-- What waits goes on and leaves the policy where it stands, with no offer due, the cable known and no EPR entry that waits for VCONN. -/
theorem State.goNext_standing {s : State} {p : PortId} (epr : (s.port p).pol.eprEntry ≠ 2) (none : (s.port p).pol.newOffer = false)
    (known : (s.port p).pol.cable ≠ .unknown) : State.Keeps Port.standing s (s.goNext p) := by
  have sent : State.Keeps Port.standing s ((s.swapAgain p).sendNext p) := ((State.Keeps.refl _ s).swapAgain epr).sendNext
  have same := sent p
  unfold State.goNext
  generalize (s.swapAgain p).sendNext p = t at sent same
  simp only [Port.standing, Prod.mk.injEq] at same
  obtain ⟨-, offer, cable, -, -⟩ := same
  dsimp only
  rw [State.offerDue_none (offer.trans none), State.startCable_known (by rw [cable]; exact known)]
  exact sent.owedNext.sopNext.noticeNext

/-- A VCONN_Swap that gave VCONN away ends in the READY state it left, and the power path is not touched (R120, R234). -/
theorem State.swapDone_port {s : State} {p : PortId} {c : CplCode} (swap : (s.port p).pol.state = .vconnSwap) (epr : (s.port p).pol.eprEntry ≠ 2)
    (none : (s.port p).pol.newOffer = false) (known : (s.port p).pol.cable ≠ .unknown) :
    ((s.swapDone p c).port p).pol.state = (s.port p).pol.back ∧ ((s.swapDone p c).port p).path = (s.port p).path := by
  let t := (s.modPol p fun q => { q with state := if q.state == .vconnSwap then q.back else q.state, swapTake := false, swapHost := false,
                                         swapTries := 0, expect := .none }).finishPort p .swap c []
  have standing : (t.port p).standing =
      ((s.port p).pol.back, (s.port p).pol.newOffer, (s.port p).pol.cable, (s.port p).pol.eprEntry, (s.port p).path) := by
    rw [State.finishPort_port, State.modPol_eq, State.modPort_port_self]
    simp [Port.standing, swap]
  have ends : s.swapDone p c = if (t.port p).pol.isReady then t.goNext p else t := by
    unfold State.swapDone
    dsimp only
    rw [if_neg (show ¬ ((s.port p).pol.eprEntry == 2) = true by simpa using epr)]
  have all : State.Keeps Port.standing t (s.swapDone p c) := by
    simp only [Port.standing, Prod.mk.injEq] at standing
    obtain ⟨-, offer, cable, entry, -⟩ := standing
    rw [ends]
    exact .either (State.goNext_standing (by rw [entry]; exact epr) (offer.trans none) (by rw [cable]; exact known)) (.refl _ t)
  have port := (all p).trans standing
  simp only [Port.standing, Prod.mk.injEq] at port
  obtain ⟨state, -, -, -, path⟩ := port
  exact ⟨state, path⟩

end Sys2Proof.Machine
end

section
/-! SUPPORT. What the hub does at each SIGNAL (R42, R97, R109, R117, R120, R163, R167, R215, R222). -/
namespace Sys2Proof.Machine

theorem State.attachOutcome_told {s : State} {p : PortId} (o : AttachOutcome) (told : (s.port p).cc.attachPend = false) :
    s.attachOutcome p o = s := if_neg (by simp [told])

/-- An attached sink whose attach is told and that holds no allocation is a newcomer in STARTUP (R42, R97, R226). -/
theorem execVsafe5vOk_newcomer {p : Fin 192} {s : State} (noReset : (s.port p).pol.state ≠ .hardReset) (attached : (s.port p).cc.state = .attached)
    (sink : (s.port p).cc.partner = .sink) (told : (s.port p).cc.attachPend = false) (idle : (s.port p).sb.state = .idle) :
    execVsafe5vOk p s = .next ((s.modPol p fun r => { r with state := .startup }).newcomer p) := by
  unfold execVsafe5vOk
  dsimp only
  rw [if_neg (by simpa using noReset), attached, sink, idle, if_pos (by decide), if_neg (by decide), State.attachOutcome_told _ told]
  rfl

/-- The contract kind that an offered object carries (R87). -/
def pdoKind (w : Word) : CKind :=
  match decodePdo w with
  | .fixed .. => .fixed | .pps .. => .pps | .avs .. => .avs | .other => .none

/-- The offered object that a Request names (R107). -/
def Pol.askedPdo (q : Pol) : Word := (q.acked[q.req.toNat / 2 ^ 28 - 1]?).getD 0#32

theorem kind_of_ite {c : Prop} [Decidable c] {x a : Ask} (h : (if c then none else some x) = some a) : x.kind = a.kind := by
  split at h
  · cases h
  · cases h
    rfl

/-- A Request that R107 accepts asks for the kind of the object it names. -/
theorem judge_kind {q : Pol} {a : Ask} (h : judge q.acked q.req = some a) : pdoKind q.askedPdo = a.kind := by
  have pos : bits q.req 28 4 = q.req.toNat / 2 ^ 28 := by
    have := q.req.isLt
    unfold bits
    omega
  unfold judge at h
  rw [pos] at h
  dsimp only at h
  by_cases zero : q.req.toNat / 2 ^ 28 = 0
  · rw [zero] at h
    cases h
  · have named : (if q.req.toNat / 2 ^ 28 == 0 then 0#32 else (q.acked[q.req.toNat / 2 ^ 28 - 1]?).getD 0#32) = q.askedPdo :=
      if_neg (by simpa using zero)
    rw [named] at h
    split at h
    · cases h
    · unfold pdoKind
      cases object : decodePdo q.askedPdo with
      | fixed mv ma => rw [object] at h; exact kind_of_ite h
      | pps lo hi ma => rw [object] at h; exact kind_of_ite h
      | avs lo hi pdp => rw [object] at h; exact kind_of_ite h
      | other => rw [object] at h; cases h

/-- PS_RDY as the policy sends it at the end of a transition (R87, R109). -/
def psRdyOf (q : Pol) : TxMsg := { ctlMsg .psRdy .psRdyReq with amsEnd := true, ckind := pdoKind q.askedPdo }

theorem execTransitionDone_transition {p : Fin 192} {s : State} (h : (s.port p).pol.state = .transition) :
    execTransitionDone p s = .next (s.send p (psRdyOf (s.port p).pol)) := by
  unfold execTransitionDone
  rw [if_pos (by simp [h])]
  rfl

/-- A port that is not attached, or that is disconnecting, falls to its reserve at a vSafe0V report (R215, R236). -/
theorem Port.release_enabled {q : Port} {reserve : Nat} {st : SbState} (enabled : q.pol.enabled = true) (able : q.sb.state ≠ .disabled) :
    (q.release reserve st).sb.state = st ∧ (q.release reserve st).sb.alloc = min q.sb.alloc reserve ∧
      (q.release reserve st).sb.disconnecting = false := by
  simp [Port.release, enabled, able]

theorem execVsafe0vOk_detached {p : Fin 192} {s : State} (detached : (s.port p).pol.state = .detached) (detaching : (s.port p).cc.state = .detaching)
    (stays : (s.port p).sb.disconnecting = false) : execVsafe0vOk p s =
      .next ((s.modPort p fun r => r.release s.board.reserve .idle).finishPort p .vsafe0v .ok []) := by
  unfold execVsafe0vOk
  dsimp only
  rw [detached, detaching, stays, if_neg (by decide), if_neg (by decide), if_neg (by simp), if_neg (by decide)]
  rfl

theorem execVsafe0vOk_disconnecting {p : Fin 192} {s : State} (ready : (s.port p).pol.state = .ready)
    (leaves : (s.port p).sb.disconnecting = true) : execVsafe0vOk p s =
      .next ((s.lowerAlloc p (min (s.port p).sb.alloc s.board.reserve)).modPort p fun r => r.release s.board.reserve .shed) := by
  unfold execVsafe0vOk
  dsimp only
  rw [ready, leaves, if_neg (by decide), if_pos rfl]
  rfl

/-- The allocation of a FLOOR stage is counted once its limit is set (R222, R236). -/
theorem State.applyDecided_port (s : State) (p : PortId) (d : Nat) :
    ((s.applyDecided p d).port p).sb.alloc = d ∧ ((s.applyDecided p d).port p).sb.floorLim = false ∧
      ((s.applyDecided p d).port p).sb.decided = none := by
  obtain ⟨⟨n, sb⟩, -⟩ := s.lowerAlloc_port p d
  unfold State.applyDecided
  rw [State.modSb_eq, State.modPort_port_self]
  dsimp only
  rw [sb]
  exact ⟨rfl, rfl, rfl⟩

/-- Settles O21: each SIGNAL from what the hub's answer to it leaves of the port. -/
theorem signalsAtTheHub : Obligations.SignalsAtTheHub := by
  unfold Obligations.SignalsAtTheHub
  refine ⟨fun p s noReset attached sink told idle => ?_, fun p s free transition => ?_, fun p s other => ?_, fun p s transition may => ?_,
    fun p s detached detaching stays enabled able => ?_, fun p s ready leaves enabled able => ?_, fun p d s lim decided step => ?_,
    fun p d s lim decided => ?_, fun p s free swap take => ?_, fun p s swap take may => ?_, fun p s swap gives epr outq none known => ?_,
    fun p s => rfl⟩
  · refine ⟨_, execVsafe5vOk_newcomer noReset attached sink told idle, ?_⟩
    simp [State.newcomer]
  · refine ⟨_, psRdyOf (s.port p).pol, (execTransitionDone_transition transition).trans (congrArg Host.Outcome.next (State.send_free free rfl)),
      ?_, rfl, rfl, rfl, fun a asked => judge_kind asked⟩
    rw [State.toTx, State.modPort_port_self]
  · exact ⟨if_neg (by simpa using other), if_neg (by simpa using other), if_neg (by simpa using other)⟩
  · exact ⟨_, _, if_pos (by simp [transition]), State.hardReset_isHardReset may _ _, if_pos (by simp [transition]),
      State.hardReset_isHardReset may _ _⟩
  · obtain ⟨state, alloc, -⟩ := Port.release_enabled (reserve := s.board.reserve) (st := .idle) enabled able
    refine ⟨_, execVsafe0vOk_detached detached detaching stays, ?_⟩
    rw [State.finishPort_port, State.modPort_port_self]
    exact ⟨state, alloc, rfl⟩
  · obtain ⟨⟨n, sb⟩, pol⟩ := s.lowerAlloc_port p (min (s.port p).sb.alloc s.board.reserve)
    obtain ⟨state, alloc, gone⟩ := Port.release_enabled (q := (s.lowerAlloc p (min (s.port p).sb.alloc s.board.reserve)).port p)
      (reserve := s.board.reserve) (st := .shed) (by rw [pol]; exact enabled) (by rw [sb]; exact able)
    refine ⟨_, execVsafe0vOk_disconnecting ready leaves, ?_⟩
    rw [State.modPort_port_self, state, alloc, gone, sb]
    exact ⟨rfl, by simp, rfl⟩
  · show execLimitSet p s = _
    unfold execLimitSet
    dsimp only
    rw [decided, lim, step]
    rfl
  · have run : exec (.limitSet p) s = .next (s.applyDecided p d) := by
      show execLimitSet p s = _
      unfold execLimitSet
      dsimp only
      rw [decided, lim]
      rfl
    exact ⟨_, run, s.applyDecided_port p d⟩
  · have run : exec (.vconnReady p) s = .next ((s.modSb p fun b => { b with vcWait := false }).send p (ctlMsg .psRdy .psRdySwap).amsLast) :=
      if_pos (by simp [swap, take])
    refine ⟨_, run.trans (congrArg Host.Outcome.next (State.send_free (State.policyFree_modSb free) rfl)), ?_⟩
    simp [State.toTx]
  · exact ⟨_, if_pos (by simp [swap, take]), State.hardReset_isHardReset may _ _⟩
  · exact ⟨_, if_pos (by simp [swap, gives]), State.swapDone_port swap epr none known⟩

end Sys2Proof.Machine
end

section
/-! SUPPORT. What a queued event, a report of hold, the end of a contract and a request to the sequencer leave of a port, and what a
Hard_Reset makes of it (R67, R86, R117, R302). -/
namespace Sys2Proof.Machine
set_option Elab.async false

/-- A queued event changes of its port the event queue alone (R302). -/
theorem State.queueEv_port (s : State) (p : PortId) (e : QEv) : ∃ c, (s.queueEv p e).port p = { s.port p with sc := c } := by
  have k := ((State.Keeps.refl (fun q : Port => { q with sc := (s.port p).sc }) s).queueEv (p := p) (e := e)) p
  exact ⟨((s.queueEv p e).port p).sc, congrArg (fun q : Port => { q with sc := ((s.queueEv p e).port p).sc }) k⟩

theorem State.queueMsg_port (s : State) (p : PortId) (n : Nat) (d : Word) : ∃ c, (s.queueMsg p n d).port p = { s.port p with sc := c } :=
  s.queueEv_port p _

theorem State.queueFault_port (s : State) (p : PortId) (n : Nat) (d : Word) : ∃ c, (s.queueFault p n d).port p = { s.port p with sc := c } := by
  have k := ((State.Keeps.refl (fun q : Port => { q with sc := (s.port p).sc }) s).queueFault (p := p) (n := n) (d := d)) p
  exact ⟨((s.queueFault p n d).port p).sc, congrArg (fun q : Port => { q with sc := ((s.queueFault p n d).port p).sc }) k⟩

theorem State.postEvt_port (s : State) (o : Option PortId) (b : EvtBody) (q : PortId) : (s.postEvt o b).port q = s.port q :=
  (State.postEvt_frame (P := fun _ => False) s o b).others q id

/-- A message answered in hold, once it is queued, is listed with the reply given, and no reply is left to tell of (R86, R89). -/
theorem State.reportHold_told {s : State} {p : PortId} {m : Msg} (rx : (s.port p).pd.rx = some m) (replied : (s.port p).pd.holdReply ≠ .none) :
    ∃ c, (s.reportHold p).port p = { s.port p with
      pd := { (s.port p).pd with holdReply := .none },
      pol := { (s.port p).pol with answered := ((s.port p).pol.answered ++ [(m, (s.port p).pd.holdReply)]).take 16 }, sc := c } := by
  let t := s.modPort p fun r =>
    { r with pd := { r.pd with holdReply := .none },
             pol := { r.pol with answered := (r.pol.answered ++ [(m, (s.port p).pd.holdReply)]).take 16 } }
  have told : ∃ e, s.reportHold p = t.queueEv p e := by
    unfold State.reportHold
    dsimp only
    rw [rx]
    exact ⟨_, if_neg (by simpa using replied)⟩
  obtain ⟨e, told⟩ := told
  obtain ⟨c, port⟩ := t.queueEv_port p e
  exact ⟨c, by rw [told, port, State.modPort_port_self]⟩

/-- A report of hold leaves all of its port but the reply given, the list of answered messages and the event queue (R89). -/
theorem State.reportHold_port (s : State) (p : PortId) : ∃ h a c, (s.reportHold p).port p =
    { s.port p with pd := { (s.port p).pd with holdReply := h }, pol := { (s.port p).pol with answered := a }, sc := c } := by
  have stays (same : s.reportHold p = s) : ∃ h a c, (s.reportHold p).port p =
      { s.port p with pd := { (s.port p).pd with holdReply := h }, pol := { (s.port p).pol with answered := a }, sc := c } :=
    ⟨(s.port p).pd.holdReply, (s.port p).pol.answered, (s.port p).sc, by rw [same]⟩
  cases rx : (s.port p).pd.rx with
  | none => exact stays (by unfold State.reportHold; dsimp only; rw [rx])
  | some m =>
    by_cases replied : (s.port p).pd.holdReply = .none
    · exact stays (by unfold State.reportHold; dsimp only; rw [rx]; exact if_pos (by simp [replied]))
    · obtain ⟨c, port⟩ := State.reportHold_told rx replied
      exact ⟨_, _, c, port⟩

theorem State.endContract_port (s : State) (p : PortId) (c : LostCause) : ∃ x, (s.endContract p c).port p =
    { s.port p with pol := (s.port p).pol.clearContract, sc := x } := by
  unfold State.endContract
  dsimp only
  split
  · exact ⟨(s.port p).sc, by simp⟩
  · split
    · exact ⟨{ (s.port p).sc with lostPend := some c }, by simp⟩
    · exact ⟨(s.port p).sc, by rw [State.postEvt_port]; simp⟩

theorem State.rallyEnd_port (s : State) (p : PortId) (post : Bool) : ∃ r, (s.rallyEnd p post).port p = { s.port p with rally := r } := by
  unfold State.rallyEnd
  dsimp only
  split
  · rw [State.postEvt_port, State.modRally_eq, State.modPort_port_self]
    exact ⟨_, rfl⟩
  · rw [State.modRally_eq, State.modPort_port_self]
    exact ⟨_, rfl⟩

/-- A request to the sequencer leaves all of its port but the path, the retry memory, the measurement and the event queue (R167). -/
theorem State.post_port (s : State) (p : PortId) (r : Post) : ∃ x y m c, (s.post p r).port p =
    { s.port p with path := x, retry := y, smp := m, sc := c } := by
  have k := ((State.Keeps.refl (fun q : Port => { q with
      path := (s.port p).path, retry := (s.port p).retry, smp := (s.port p).smp, sc := (s.port p).sc }) s).post (p := p) (r := r)) p
  let u := (s.post p r).port p
  exact ⟨u.path, u.retry, u.smp, u.sc,
    congrArg (fun q : Port => { q with path := u.path, retry := u.retry, smp := u.smp, sc := u.sc }) k⟩

/-! ### A Hard_Reset (R67, R117) -/

/-- The message sequencer after Hard_Reset signalling: no message, no MessageID, the slicer untrained, before entry 0x00 of a message table
(R63, R67, R86). -/
def Pd.restarted (q : Pd) (sel : MtTable) : Pd :=
  { q.resetIds with entry := 0, waiting := false, retry := 0, tx := none, txStarted := false, txActive := false, gcActive := false, rx := none,
                    rxHeld := none, asm := none, byRx := false, holdPsRdy := false, vth := 25, txFlags := 0,
                    table := if q.table == .hold then sel else q.table, tableReq := q.tableReq && q.table != .hold, resume := false }

/-- The policy after Hard_Reset signalling: no contract, and HARD_RESET (R117). -/
def Pol.hardReset (q : Pol) : Pol :=
  { q.clearContract with state := .hardReset, outq := [], flight := none, expect := .none, capsSends := 0, noResp := true, swapTake := false,
                         swapDue := false, swapTries := 0, bist := false }

/-- What Hard_Reset signalling makes of the port (R67, R86, R117). -/
theorem State.hardResetDone_port (s : State) (p : PortId) (c : LostCause) : ∃ h a r x y m e, (s.hardResetDone p c).port p =
    { s.port p with
      pd := { (s.port p).pd with holdReply := h }.restarted (s.selTable p), pol := { (s.port p).pol with answered := a }.hardReset,
      rally := r, path := x, retry := y, smp := m, sc := e, cnt := { (s.port p).cnt with hrst := (s.port p).cnt.hrst.inc32 } } := by
  obtain ⟨h, a, e1, held⟩ := s.reportHold_port p
  obtain ⟨e2, ended⟩ := (s.reportHold p).endContract_port p c
  obtain ⟨r, rally⟩ := ((s.reportHold p).endContract p c).rallyEnd_port p true
  obtain ⟨x, y, m, e, posted⟩ := (s.hardResetLeft p c).post_port p (plainPost .hardReset)
  refine ⟨h, a, { r with step := .idle, svids := [], sawRally := false }, x, y, m, e, ?_⟩
  rw [State.hardResetDone_eq, posted, State.hardResetLeft, State.modPort_port_self, rally, ended, held]
  rfl

/-- A Hard_Reset sent leaves the port as the signalling does, counts, and drives the line (R44, R117). -/
theorem State.hardResetSent_port (s : State) (p : PortId) (c : LostCause) (keep : Bool) : ∃ h a r x y m e, (s.hardResetSent p c keep).port p =
    { s.port p with
      pd := { { (s.port p).pd with holdReply := h }.restarted (s.selTable p) with last := .hardReset, txActive := true },
      pol := { (s.port p).pol with answered := a, hardResets := (s.port p).pol.hardResets + 1 }.hardReset,
      rally := r, path := x, retry := y, smp := m, sc := e, cnt := { (s.port p).cnt with hrst := (s.port p).cnt.hrst.inc32 } } := by
  let t := s.finish (fun w => w.port == some p && w.what.ofPort && ! (keep && w.what == .vsafe5v)) .abortedDisabled 0 []
  have frame : State.Frame (fun _ => False) s t := s.finish_frame _ _ _ _
  obtain ⟨h, a, r, x, y, m, e, port⟩ := (t.modPol p fun q => { q with hardResets := q.hardResets + 1 }).hardResetDone_port p c
  have sel : (t.modPol p fun q => { q with hardResets := q.hardResets + 1 }).selTable p = s.selTable p := by
    have counted : State.Frame (· = p) s (t.modPol p fun q => { q with hardResets := q.hardResets + 1 }) :=
      (s.finish_frame _ _ _ _).trans (State.modPol_frame _ p _)
    exact counted.selTable p
  refine ⟨h, a, r, x, y, m, e, ?_⟩
  unfold State.hardResetSent
  rw [State.modPd_eq, State.modPort_port_self, port, sel, State.modPol_eq, State.modPort_port_self, frame.others p id]

end Sys2Proof.Machine
end

section
/-! SUPPORT. What each ACTION of a message table comes to when the table stands before it (R69, R77–R79). -/
namespace Sys2Proof.Machine
set_option Elab.async false

variable {s : State} {p : PortId}

/-! ### The entry that acts -/

theorem State.mtKick_ready (ready : (s.port p).pd.waiting = false) : s.mtKick p = s := if_neg (by simp [ready])

/-- An entry without END is followed by NEXT_OK, or by NEXT_ALT on its alternate outcome (R76). -/
theorem mtNext_more {e : BitVec 64} (more : mtEnd e = false) (b : Bool) : mtNext e b = if b then mtOk e else mtAlt e := by
  unfold mtNext
  rw [more]
  rfl

/-- An entry with WAIT NONE acts, and the table goes on (R76, R78). -/
theorem State.atEntry.mtStep {act arg : Nat} {f : State → BitVec 64 → State × Bool} {u : State} {b : Bool} (stands : s.atEntry p act arg)
    (acts : f s (s.mtEntry p) = (u, b)) : s.mtStep p act f =
      u.modPd p fun q => { q with entry := if b then mtOk (s.mtEntry p) else mtAlt (s.mtEntry p), waiting := false } := by
  obtain ⟨table, ready, hears, isAct, -, wait, more⟩ := stands
  unfold State.mtStep
  rw [State.mtKick_ready ready]
  dsimp only
  rw [if_neg (by simp [table, ready, isAct, hears]), if_pos (by simp [wait]), acts, mtNext_more more]

/-- An action that changes its port's message sequencer alone: what of it the table leaves. -/
theorem State.atEntry.mtStep_modPd {act arg : Nat} {f : State → BitVec 64 → State × Bool} {g : Pd → Pd} {b : Bool} (stands : s.atEntry p act arg)
    (acts : f s (s.mtEntry p) = (s.modPd p g, b)) :
    ((s.mtStep p act f).port p).pd =
      { g (s.port p).pd with entry := if b then mtOk (s.mtEntry p) else mtAlt (s.mtEntry p), waiting := false } := by
  rw [stands.mtStep acts]
  simp

theorem State.atEntry.arg {act arg : Nat} (h : s.atEntry p act arg) : mtArg (s.mtEntry p) = arg := h.2.2.2.2.1
theorem State.atEntry.ready {act arg : Nat} (h : s.atEntry p act arg) : (s.port p).pd.waiting = false := h.2.1

/-- A table that stands before its entry does not wait. -/
theorem Pd.ready_eq {q : Pd} (ready : q.waiting = false) (n : Nat) : { q with entry := n, waiting := false } = { q with entry := n } := by
  rw [← ready]

theorem execMtNop_ready (ready : (s.port p).pd.waiting = false) : execMtNop p s = .next (s.mtStep p 0 fun s _ => (s, true)) :=
  if_neg (by simp [ready])

/-- The frame of an action that leaves the state as it is: only the entry moves. -/
theorem State.atEntry.mtStep_stays {act arg : Nat} {f : State → BitVec 64 → State × Bool} {b : Bool} (stands : s.atEntry p act arg)
    (acts : f s (s.mtEntry p) = (s, b)) :
    ((s.mtStep p act f).port p).pd = { (s.port p).pd with entry := if b then mtOk (s.mtEntry p) else mtAlt (s.mtEntry p) } ∧
      ((s.mtStep p act f).port p).cc = (s.port p).cc ∧ (s.mtStep p act f).link = s.link := by
  rw [stands.mtStep acts, State.modPd_eq, State.modPort_port_self]
  exact ⟨Pd.ready_eq stands.2.1 _, rfl, rfl⟩

/-! ### Reports (R68, R77) -/

/-- A report to the event queue: the message sequencer keeps what the action made of it. -/
theorem State.atEntry.mtStep_queueMsg {act arg n : Nat} {d : Word} {f : State → BitVec 64 → State × Bool} {g : Pd → Pd}
    (stands : s.atEntry p act arg) (acts : f s (s.mtEntry p) = ((s.modPd p g).queueMsg p n d, true)) :
    ((s.mtStep p act f).port p).pd = { g (s.port p).pd with entry := mtOk (s.mtEntry p), waiting := false } := by
  obtain ⟨c, port⟩ := (s.modPd p g).queueMsg_port p n d
  rw [stands.mtStep acts, State.modPd_eq, State.modPort_port_self, port, State.modPd_eq, State.modPort_port_self]
  rfl

/-! ### The TX buffer's message (R71, R77) -/

/-- The entry of the ROM table that sends the TX buffer, and waits for its GoodCRC (R81). -/
theorem State.mtEntry_txBuffer (rom : (s.port p).pd.table = .rom) (entry : (s.port p).pd.entry = 0x26) :
    s.mtEntry p = stepEntry 1 0 3 0 1000 0x2B 0x27 0 := by
  unfold State.mtEntry
  dsimp only
  rw [rom, entry]
  rfl

/-- A wait that takes no held reception and is not the RX_OR_TX one starts, at an entry that is no IDLE_POINT (R78). -/
theorem State.mtStart_waits {e : BitVec 64} (at_ : s.mtEntry p = e) (busy : mtIdle e = false) (none : (s.port p).pd.rxHeld = none)
    (other : mtWait e ≠ 1) : s.mtStart p = s.modPd p fun q => { q with waiting := true } := by
  have entry : (s.modPd p fun q => { q with waiting := true }).mtEntry p = e := by
    rw [← at_]
    unfold State.mtEntry
    simp
  have stays : (s.modPd p fun q => { q with waiting := true }).idleChange p = s.modPd p fun q => { q with waiting := true } := by
    unfold State.idleChange
    rw [entry, busy]
    simp
  unfold State.mtStart
  rw [stays]
  dsimp only
  rw [entry]
  simp [none, other]

/-- TX of the TX buffer at its entry of the ROM table starts the message in it and waits for its GoodCRC (R71, R77, R78). -/
theorem execMtTx_buffer {m : TxMsg} (rom : (s.port p).pd.table = .rom) (ready : (s.port p).pd.waiting = false) (hears : s.tileDeaf p = false)
    (entry : (s.port p).pd.entry = 0x26) (tx : (s.port p).pd.tx = some m) (held : (s.port p).pd.rxHeld = none) :
    execMtTx p s = .next ((s.modPd p fun q =>
      { q with frame := q.nextFrame 0, last := .buffer, lastSop := m.sop, txStarted := true, txActive := true, txChunk := 0 }).modPd p fun q =>
        { q with waiting := true }) := by
  let u := s.modPd p fun q =>
    { q with frame := q.nextFrame 0, last := .buffer, lastSop := m.sop, txStarted := true, txActive := true, txChunk := 0 }
  have port : (u.port p).pd = { (s.port p).pd with
      frame := (s.port p).pd.nextFrame 0, last := .buffer, lastSop := m.sop, txStarted := true, txActive := true, txChunk := 0 } :=
    congrArg Port.pd (s.modPort_port_self p _)
  have starts : u.mtStart p = u.modPd p fun q => { q with waiting := true } :=
    State.mtStart_waits (State.mtEntry_txBuffer (by rw [port]; exact rom) (by rw [port]; exact entry)) (by decide) (by rw [port]; exact held)
      (by decide)
  unfold execMtTx State.mtStep
  rw [State.mtKick_ready ready]
  dsimp only
  rw [State.mtEntry_txBuffer rom entry, rom, ready, hears, tx]
  exact congrArg Host.Outcome.next starts

/-! ### A discarded message (R77, R90) -/

/-- The message that DELIVER takes, of an assembly or received alone, repeats the MessageID of the one before it. -/
def Pd.takesRepeat (q : Pd) : Bool :=
  match (match q.asm with | some a => some a.msg | none => q.rx) with
  | some m => q.rxId m.sop == some (hdrId m.hdr)
  | none => false

/-- DELIVER with ARG 1 ends an assembly and counts a repeat; of the port it changes nothing else but the entry (R77). -/
theorem execMtDeliver_discards (stands : s.atEntry p 2 1) : execMtDeliver p s =
    .next ((s.modPd p fun q => { q with asm := none, rxDup := if (s.port p).pd.takesRepeat then q.rxDup.inc16 else q.rxDup }).modPd p fun q =>
      { q with entry := mtOk (s.mtEntry p), waiting := false }) := by
  refine congrArg Host.Outcome.next (stands.mtStep (b := true) ?_)
  dsimp only
  rw [stands.arg]
  exact congrArg (fun u : State => (u, true)) (s.modPort_modPort p _ _)

/-! ### Waits (R78) -/

theorem execMsgLineIdle_waits (waits : s.atWait p 5) :
    execMsgLineIdle p s = .next (s.modPd p fun q => q.goto (mtNext (s.mtEntry p) true) false) := by
  obtain ⟨table, waiting, hears, wait⟩ := waits
  exact if_pos (by simp [table, waiting, hears, wait])

theorem execTxDone_waits (waits : s.atWait p 2) : execTxDone p s =
    .next ((s.modPd p fun q => if q.gcActive then { q with gcActive := false } else { q with txActive := false }).modPd p fun q =>
      q.goto (mtNext (s.mtEntry p) true) false) := by
  obtain ⟨table, waiting, hears, wait⟩ := waits
  exact if_pos (by simp [table, waiting, hears, wait])

/-- TIME ends by its timeout, with success (R78). -/
theorem execMsgWaitTimeout_time (waits : s.atWait p 6) :
    execMsgWaitTimeout p s = .next (s.modPd p fun q => q.goto (mtNext (s.mtEntry p) true) false) := by
  obtain ⟨table, waiting, hears, wait⟩ := waits
  unfold execMsgWaitTimeout
  dsimp only
  rw [if_neg (by simp [table]), if_pos (by simp [waiting, hears])]
  generalize mtWait (s.mtEntry p) = n at wait ⊢
  subst wait
  rfl

/-- A GoodCRC that does not come in time is the alternate outcome (R71, R78). -/
theorem execMsgWaitTimeout_goodCrc (waits : s.atWait p 3) : execMsgWaitTimeout p s =
    .next (s.modPd p fun q => { q.goto (mtNext (s.mtEntry p) false) false with txActive := false }) := by
  obtain ⟨table, waiting, hears, wait⟩ := waits
  unfold execMsgWaitTimeout
  dsimp only
  rw [if_neg (by simp [table]), if_pos (by simp [waiting, hears])]
  generalize mtWait (s.mtEntry p) = n at wait ⊢
  subst wait
  rfl

end Sys2Proof.Machine
end

section
/-! SUPPORT. Each ACTION of a message table and each end of a wait, clause by clause (R69, R77–R79). -/
namespace Sys2Proof.Machine
set_option Elab.async false


/-- Settles O8: each ACTION by the entry's ARG, each wait by what ends it. -/
theorem messageTableEntriesAct : Obligations.MessageTableEntriesAct := by
  unfold Obligations.MessageTableEntriesAct
  refine ⟨fun p s stands => ?_, fun p a s stands => ?_, fun p s stands => ?_, fun p s stands => ?_, fun p s stands kind => ?_,
    fun p m s stands rx kind => ?_, fun p a s stands contract rev3 => ?_, fun p a s stands lacks => ?_, fun p s stands => ?_,
    fun p s stands => ?_, fun p s stands => ?_, fun p s stands => ?_, fun p s stands => ?_, fun p s stands empty => ?_,
    fun p m s rom ready hears entry tx held => ?_, fun p s waits => ?_, fun p s waits => ?_, fun p s waits => ?_, fun p s waits => ?_⟩
  · obtain ⟨pd, -, link⟩ := stands.mtStep_stays (f := fun s _ => (s, true)) rfl
    exact ⟨_, execMtNop_ready stands.ready, pd, link⟩
  · obtain ⟨pd, -, link⟩ := stands.mtStep_stays
      (f := fun s e => (s, matchField (s.port p) (mtArg e) (mtOperand e))) rfl
    rw [stands.arg] at pd
    exact ⟨_, rfl, pd, link⟩
  · refine ⟨_, rfl, (stands.mtStep_modPd (g := fun q => { q with retry := 0 }) (b := true) (by rw [stands.arg]; rfl)).trans ?_⟩
    exact Pd.ready_eq (q := { (s.port p).pd with retry := 0 }) stands.ready _
  · refine ⟨_, rfl, (stands.mtStep_modPd (g := fun q => { q with retry := q.retry + 1 })
      (b := decide ((s.port p).pd.retry + 1 ≤ mtOperand (s.mtEntry p))) (by rw [stands.arg]; rfl)).trans ?_⟩
    simp only [decide_eq_true_eq]
    exact Pd.ready_eq (q := { (s.port p).pd with retry := (s.port p).pd.retry + 1 }) stands.ready _
  · refine ⟨_, rfl, (stands.mtStep_modPd (g := fun q => q.setTxId q.lastSop ((q.txId q.lastSop + 1) % 8)) (b := true)
      (by rw [stands.arg]; rfl)).trans ?_⟩
    rw [kind]
    exact Pd.ready_eq (q := { (s.port p).pd with txId0 := ((s.port p).pd.txId0 + 1) % 8 }) stands.ready _
  · refine ⟨_, rfl, (stands.mtStep_modPd (g := fun q => q.setRxId m.sop (q.rx.map fun m => hdrId m.hdr)) (b := true)
      (by dsimp only; rw [stands.arg, rx]; rfl)).trans ?_⟩
    rw [kind, rx]
    exact Pd.ready_eq (q := { (s.port p).pd with rxId0 := some (hdrId m.hdr) }) stands.ready _
  · refine ⟨_, rfl, ?_⟩
    rw [stands.mtStep (u := s.modCc p fun c => { c with rpNg := a.val == 0, rp := if a.val == 0 then .a15 else .a30 }) (b := true)
      (by dsimp only; rw [stands.arg, contract, rev3]; rfl)]
    have zero : ∀ a : Fin 2, (a.val == 0) = decide (a = 0) := by decide
    rw [zero a]
    simp
  · obtain ⟨pd, cc, -⟩ := stands.mtStep_stays (b := true) (f := fun s e =>
      if (s.port p).pol.hasContract && (s.port p).pd.rev3 then
        (s.modCc p fun c => { c with rpNg := mtArg e == 0, rp := if mtArg e == 0 then .a15 else .a30 }, true)
      else (s, true)) (if_neg (by simp [lacks]))
    exact ⟨_, rfl, cc, congrArg Pd.entry pd⟩
  · refine ⟨_, rfl, ?_⟩
    rw [stands.mtStep_queueMsg (n := 2) (d := 0#32)
      (g := fun q => { q with tx := none, txStarted := false, txActive := false, txChunk := 0 }) (by rw [stands.arg]; rfl)]
    exact ⟨rfl, rfl, rfl⟩
  · refine ⟨_, rfl, ?_⟩
    rw [stands.mtStep_queueMsg (n := 3) (d := 0#32)
      (g := fun q => { q with tx := none, txStarted := false, txActive := false, txChunk := 0, txFail := q.txFail.inc16 })
      (by rw [stands.arg]; exact congrArg (fun t : State => (t.queueMsg p 3 0#32, true)) (s.modPort_modPort p _ _))]
    exact ⟨rfl, rfl, rfl⟩
  · refine ⟨_, rfl, ?_⟩
    rw [stands.mtStep_queueMsg (n := 5) (d := 0#32) (g := fun q => { q with asm := if q.byRx then q.asm else none }) (by rw [stands.arg]; rfl)]
    exact ⟨rfl, rfl, rfl⟩
  · obtain ⟨h, a, r, x, y, m, e, port⟩ := s.hardResetSent_port p .hardResetSent false
    refine ⟨_, rfl, ?_⟩
    rw [stands.mtStep (u := (s.hardResetSent p .hardResetSent false).modPd p fun r =>
      { r with entry := (s.port p).pd.entry, byRx := (s.port p).pd.byRx }) (b := true) (by rw [stands.arg]; rfl)]
    rw [State.modPd_eq, State.modPort_port_self, State.modPd_eq, State.modPort_port_self, port]
    exact ⟨rfl, rfl, rfl, rfl, rfl, rfl⟩
  · refine ⟨_, rfl, ?_⟩
    rw [stands.mtStep_modPd (g := fun q => { q with tx := some (ctlMsg .accept .none), txStarted := false, txChunk := 0, txFlags := 0 })
      (b := true) (by rw [stands.arg]; rfl)]
    exact ⟨rfl, rfl, rfl⟩
  · refine ⟨_, execMtDeliver_discards stands, ?_⟩
    simp
  · refine ⟨_, execMtTx_buffer rom ready hears entry tx held, ?_⟩
    simp [entry, tx]
  · refine ⟨_, execTxDone_waits waits, ?_⟩
    rw [State.modPd_eq, State.modPort_port_self, State.modPd_eq, State.modPort_port_self]
    cases (s.port p).pd.gcActive <;> simp [Pd.goto]
  · refine ⟨_, execMsgLineIdle_waits waits, ?_⟩
    rw [State.modPd_eq, State.modPort_port_self]
    rfl
  · refine ⟨_, execMsgWaitTimeout_goodCrc waits, ?_⟩
    rw [State.modPd_eq, State.modPort_port_self]
    rfl
  · refine ⟨_, execMsgWaitTimeout_time waits, ?_⟩
    rw [State.modPd_eq, State.modPort_port_self]
    rfl

end Sys2Proof.Machine
end

section
/-! SUPPORT. Receptions as the port's receiver takes them, and Hard_Reset signalling (R63–R67, R71, R78, R86, R88, R90). -/
namespace Sys2Proof.Machine
set_option Elab.async false

variable {s : State} {p : PortId} {f : FrameIn}

/-! ### A frame that is heard (R61–R64) -/

theorem Port.accepts_sop (q : Port) : q.accepts .sop = true := rfl

/-- The state once the slicer has trained on a frame (R63). -/
def State.trainedOn (s : State) (p : PortId) (f : FrameIn) : State := s.modPd p fun q => { q with vth := s.slicerAfter p f.mean f.early }

/-- A frame to SOP that the port hears trains the slicer; one that does not decode, and one whose CRC-32 fails, is counted (R61–R64). -/
theorem execFrameReceived_heard (hears : (s.port p).hears = true) (up : s.tileDeaf p = false) (toSop : f.sop = .sop) : execFrameReceived p f s =
    if ! f.codeOk || ! f.eop || f.data.length + 2 > 264 then .next ((s.trainedOn p f).modPd p fun q => { q with rxCode := q.rxCode.inc16 })
    else if f.crc != crc32 (bytesLE 2 f.hdr.toNat ++ f.data) then .next ((s.trainedOn p f).modPd p fun q => { q with rxCrc := q.rxCrc.inc16 })
    else
      let t := (s.trainedOn p f).modPol p fun r => { r with pdSeen := r.pdSeen || f.sop == .sop }
      if (s.port p).pd.table == .hold then .next (t.holdAnswer p ⟨f.sop, kindOf f.hdr f.data, f.hdr, f.data⟩)
      else .next (t.present p ⟨f.sop, kindOf f.hdr f.data, f.hdr, f.data⟩ false) := by
  unfold execFrameReceived
  dsimp only
  rw [if_neg (by simp [hears, up]), if_neg (by simp [toSop, Port.accepts_sop])]
  rfl

theorem execFrameReceived_undecoded (hears : (s.port p).hears = true) (up : s.tileDeaf p = false) (toSop : f.sop = .sop)
    (bad : f.codeOk = false) :
    execFrameReceived p f s = .next ((s.trainedOn p f).modPd p fun q => { q with rxCode := q.rxCode.inc16 }) := by
  rw [execFrameReceived_heard hears up toSop, if_pos (by simp [bad])]

/-- A frame that decodes, ends with EOP and is no longer than a message may be (R64). -/
def FrameIn.whole (f : FrameIn) : Prop := f.codeOk = true ∧ f.eop = true ∧ f.data.length ≤ 262

theorem FrameIn.whole.decodes (h : f.whole) : ¬ (! f.codeOk || ! f.eop || f.data.length + 2 > 264) = true := by
  obtain ⟨code, eop, short⟩ := h
  simp [code, eop]
  omega

theorem execFrameReceived_badCrc (hears : (s.port p).hears = true) (up : s.tileDeaf p = false) (toSop : f.sop = .sop) (whole : f.whole)
    (bad : f.crc ≠ crc32 (bytesLE 2 f.hdr.toNat ++ f.data)) :
    execFrameReceived p f s = .next ((s.trainedOn p f).modPd p fun q => { q with rxCrc := q.rxCrc.inc16 }) := by
  rw [execFrameReceived_heard hears up toSop, if_neg whole.decodes, if_pos (by simpa using bad)]

theorem execFrameReceived_valid (hears : (s.port p).hears = true) (up : s.tileDeaf p = false) (toSop : f.sop = .sop) (whole : f.whole)
    (good : f.crc = crc32 (bytesLE 2 f.hdr.toNat ++ f.data)) (table : (s.port p).pd.table ≠ .hold) :
    execFrameReceived p f s = .next (((s.trainedOn p f).modPol p fun r => { r with pdSeen := r.pdSeen || f.sop == .sop }).present p
      ⟨f.sop, kindOf f.hdr f.data, f.hdr, f.data⟩ false) := by
  rw [execFrameReceived_heard hears up toSop, if_neg whole.decodes, if_neg (by simpa using good)]
  exact if_neg (by simpa using table)

/-- A valid reception ends an RX_OR_TX wait with success (R78). -/
theorem State.present_rxOrTx {m : Msg} {held : Bool} (waiting : (s.port p).pd.waiting = true) (wait : mtWait (s.mtEntry p) = 1) :
    ∃ a, s.present p m held = s.modPd p fun q => { (q.goto (mtNext (s.mtEntry p) true) true) with rx := some m, asm := a } := by
  unfold State.present
  dsimp only
  rw [if_neg (by simp [waiting])]
  generalize mtWait (s.mtEntry p) = n at wait ⊢
  subst wait
  exact ⟨_, rfl⟩

/-- The entry a table stands at depends on the table, the entry number and the tile alone. -/
theorem State.mtEntry_congr {u : State} (table : (u.port p).pd.table = (s.port p).pd.table) (entry : (u.port p).pd.entry = (s.port p).pd.entry)
    (tiles : u.tiles = s.tiles) : u.mtEntry p = s.mtEntry p := by
  unfold State.mtEntry
  dsimp only
  rw [table, entry, State.tile_of_tiles tiles]

/-! ### Signalling (R65, R67, R88) -/

theorem execRxAbort_heard (hears : (s.port p).hears = true) (up : s.tileDeaf p = false) (mean : Option Nat) (early : Nat) :
    execRxAbort p mean early s =
      .next (s.modPd p fun q => { q with vth := s.slicerAfter p mean early, rxTrunc := q.rxTrunc.inc16 }) :=
  if_pos (by simp [hears, up])

theorem State.slicerAfter_auto {m : Nat} (auto : (s.tileCfg (tileOf p)).slicer = 0) :
    s.slicerAfter p (some m) 0 = min 50 ((m + 5) / 10 - 30) := by
  unfold State.slicerAfter
  rw [auto]
  rfl

theorem execHardResetRx_attached (attached : (s.port p).cc.state = .attached) (sink : (s.port p).cc.partner = .sink) (up : s.tileDeaf p = false) :
    execHardResetRx p s = .next ((((s.queueFault p 3 0#32).abortDescs p fun _ => false).modPol p fun r =>
      { r with pdSeen := true }).hardResetDone p .hardResetReceived) :=
  if_pos (by rw [attached, sink, up]; rfl)

/-- What Hard_Reset signalling received leaves of the port (R67, R117). -/
theorem State.hardResetHeard_port (s : State) (p : PortId) : ∃ h a r x y m e,
    ((((s.queueFault p 3 0#32).abortDescs p fun _ => false).modPol p fun r => { r with pdSeen := true }).hardResetDone p .hardResetReceived).port p =
    { s.port p with
      pd := { (s.port p).pd with holdReply := h }.restarted (s.selTable p),
      pol := { (s.port p).pol with pdSeen := true, answered := a }.hardReset,
      rally := r, path := x, retry := y, smp := m, sc := e, cnt := { (s.port p).cnt with hrst := (s.port p).cnt.hrst.inc32 } } := by
  let t := ((s.queueFault p 3 0#32).abortDescs p fun _ => false).modPol p fun r => { r with pdSeen := true }
  have frame : State.Frame (· = p) s t :=
    ((s.queueFault_frame p 3 0#32).trans (State.abortDescs_frame _ p _)).trans (State.modPol_frame _ p _)
  obtain ⟨c, queued⟩ := s.queueFault_port p 3 0#32
  have port : t.port p = { s.port p with sc := c, pol := { (s.port p).pol with pdSeen := true } } := by
    simp only [t, State.modPol_eq, State.modPort_port_self, State.abortDescs_port, queued]
  obtain ⟨h, a, r, x, y, m, e, done⟩ := t.hardResetDone_port p .hardResetReceived
  refine ⟨h, a, r, x, y, m, e, ?_⟩
  rw [done, port, frame.selTable p]

theorem execHoldExpired_hold (table : (s.port p).pd.table = .hold) (waits : (s.port p).pd.resume = false) :
    execHoldExpired p s = .next (s.hardResetSent p .holdExpired false) := if_pos (by rw [table, waits]; rfl)

/-- A reply given in hold is sent again while retries are left (R71, R86). -/
theorem execMsgWaitTimeout_holdAgain {m : TxMsg} (table : (s.port p).pd.table = .hold) (tx : (s.port p).pd.tx = some m)
    (started : (s.port p).pd.txStarted = true) (left : (s.port p).pd.retry < (s.port p).pd.retries) :
    execMsgWaitTimeout p s = .next (s.modPd p fun q => { q with retry := q.retry + 1, txActive := true }) := by
  unfold execMsgWaitTimeout
  dsimp only
  rw [if_pos (by rw [table]; rfl), if_pos (by simp [tx, started, left])]
  rfl

/-- Settles O7: each reception by its first fault, each signalling by what it makes of the port. -/
theorem receptionsCheckedAndCounted : Obligations.ReceptionsCheckedAndCounted := by
  unfold Obligations.ReceptionsCheckedAndCounted
  refine ⟨fun p f s hears up toSop bad => ?_, fun p f s hears up toSop code eop short bad => ?_,
    fun p f s hears toSop code eop short good waits => ?_, fun p mean early s hears up => execRxAbort_heard hears up mean early,
    fun p m s auto => State.slicerAfter_auto auto, fun p s attached sink up => ?_, fun p s => rfl, fun p s table waits => ?_,
    fun p m s table tx started left => execMsgWaitTimeout_holdAgain table tx started left⟩
  · refine ⟨_, execFrameReceived_undecoded hears up toSop bad, ?_⟩
    simp [State.trainedOn]
  · refine ⟨_, execFrameReceived_badCrc hears up toSop ⟨code, eop, short⟩ bad, ?_⟩
    simp [State.trainedOn]
  · obtain ⟨table, waiting, up, wait⟩ := waits
    let t := (s.trainedOn p f).modPol p fun r => { r with pdSeen := r.pdSeen || f.sop == .sop }
    have pd : (t.port p).pd = { (s.port p).pd with vth := s.slicerAfter p f.mean f.early } := by simp [t, State.trainedOn]
    have entry : t.mtEntry p = s.mtEntry p := State.mtEntry_congr (by rw [pd]) (by rw [pd]) rfl
    obtain ⟨a, ends⟩ := State.present_rxOrTx (s := t) (p := p) (m := ⟨f.sop, kindOf f.hdr f.data, f.hdr, f.data⟩) (held := false)
      (by rw [pd]; exact waiting) (by rw [entry]; exact wait)
    refine ⟨_, (execFrameReceived_valid hears up toSop ⟨code, eop, short⟩ good table).trans (congrArg Host.Outcome.next ends), ?_⟩
    rw [State.modPd_eq, State.modPort_port_self, entry, toSop]
    exact ⟨rfl, rfl, rfl, rfl⟩
  · obtain ⟨h, a, r, x, y, m, e, port⟩ := s.hardResetHeard_port p
    refine ⟨_, execHardResetRx_attached attached sink up, ?_⟩
    rw [port]
    refine ⟨rfl, rfl, rfl, rfl, rfl, rfl, rfl, rfl, rfl, rfl, rfl, rfl, ?_, rfl, rfl⟩
    simp [Pd.restarted]
  · obtain ⟨h, a, r, x, y, m, e, port⟩ := s.hardResetSent_port p .holdExpired false
    refine ⟨_, execHoldExpired_hold table waits, ?_⟩
    rw [port]
    refine ⟨?_, ⟨rfl, rfl, rfl, rfl, rfl, rfl⟩, rfl, rfl⟩
    simp [Pd.restarted, table]

end Sys2Proof.Machine
end

section
/-! SUPPORT. A message that goes to the TX buffer at once, and what the policy leaves alone when what it has waiting goes on (R68, R97,
R127). -/
namespace Sys2Proof.Machine
set_option Elab.async false

variable {s t : State} {p : PortId} {m : TxMsg}

/-! ### The TX buffer takes a message (R68) -/

/-- The TX buffer of a port that is not in hold is free, and no message is queued or awaits its report (R68, R85, R127). -/
def Port.takes (q : Port) : Prop := q.pd.table ≠ .hold ∧ q.pd.tx = none ∧ q.pol.flight = none ∧ q.pol.outq = []

theorem State.policyFree.hears (h : s.policyFree p) : s.tileDeaf p = false := by
  obtain ⟨on, -, -, -⟩ := h
  unfold State.policyOn at on
  simp only [Bool.and_eq_true, Bool.not_eq_true'] at on
  exact on.1.1.2

theorem State.policyFree.takes (h : s.policyFree p) : (s.port p).takes := by
  obtain ⟨-, table, free, outq⟩ := h
  simp only [Port.txFree, Bool.and_eq_true, Option.isNone_iff_eq_none] at free
  exact ⟨table, free.1, free.2, outq⟩

/-- A reply goes to the free TX buffer at once, and so does a message that starts a sequence where none is in progress (R68, R127). -/
theorem State.send_takes (hears : s.tileDeaf p = false) (takes : (s.port p).takes) (may : m.amsStart = false ∨ s.seqBusy p m = false) :
    s.send p m = s.toTx p m := by
  obtain ⟨table, tx, flight, outq⟩ := takes
  have start : s.mayStart p m = true := by
    unfold State.mayStart
    rcases may with h | h <;> simp [h]
  unfold State.send
  rw [if_neg (by simp [hears]), outq, start, if_pos (by simp [table, Port.txFree, tx, flight])]

theorem State.toTx_port (s : State) (p : PortId) (m : TxMsg) : ((s.toTx p m).port p) =
    { s.port p with
      pd := { (s.port p).pd with tx := some m, txStarted := false, txChunk := 0, txFlags := b2n m.amsStart + 2 * b2n m.amsEnd },
      pol := { (s.port p).pol with flight := some m } } := s.modPort_port_self p _

/-! ### What goes on (R97, R127) -/

/-- The port with everything blank that may change when what its policy has waiting goes on, an offer apart: the message sequencer, Rally
mode and discovery, the messages queued and under way, a VCONN_Swap of the device and an EPR entry. -/
def Port.besideWaiting (q : Port) : Port :=
  { q with pd := Pd.reset, rally := Rally.reset,
           pol := { q.pol with flight := none, outq := [], swapTake := false, swapHost := false, swapDue := false, swapTries := 0, eprEntry := 0,
                               eprTries := 0, discTries := 0, discRun := false } }

/-- What goes on leaves all but the waiting things as they are. -/
def State.GoesOn (s u : State) : Prop := State.Keeps Port.besideWaiting s u

namespace State.GoesOn

theorem refl (s : State) : GoesOn s s := State.Keeps.refl _ s

theorem send (h : GoesOn s t) : GoesOn s (t.send p m) :=
  State.Keeps.either h (State.Keeps.either (State.Keeps.modPort h) (State.Keeps.modPort h))

theorem sendNext (h : GoesOn s t) : GoesOn s (t.sendNext p) := by
  unfold State.sendNext
  refine State.Keeps.either h ?_
  split
  · exact State.Keeps.modPort (State.Keeps.modPort h)
  · exact h

theorem sendVdm {x : Sop} {r : VdmReq} {w : Word} {l : List Word} (h : GoesOn s t) : GoesOn s (t.sendVdm p x r w l) :=
  send (State.Keeps.modPort h)

theorem swapSend {take host : Bool} (h : GoesOn s t) : GoesOn s (t.swapSend p take host) := send (State.Keeps.modPort h)

theorem discAttempt (h : GoesOn s t) : GoesOn s (t.discAttempt p) := State.Keeps.either h.sendVdm h

theorem eprFail {n : Nat} (h : GoesOn s t) : GoesOn s (t.eprFail p n) := send (State.Keeps.modPort h)

/-- The entry checks of EPR mode (R111). -/
theorem eprCheck (h : GoesOn s t) : GoesOn s (t.eprCheck p) := by
  unfold State.eprCheck
  refine State.Keeps.either h.eprFail (State.Keeps.either h.eprFail (State.Keeps.either ?_ ?_))
  · exact State.Keeps.either h.eprFail (swapSend (State.Keeps.modPort h))
  · split
    · exact send (State.Keeps.modPort h)
    · exact State.Keeps.either h (discAttempt (State.Keeps.modPort h))
    · exact h.eprFail

theorem swapAgain (h : GoesOn s t) : GoesOn s (t.swapAgain p) := by
  have ended : GoesOn s ((t.modPol p fun q => { q with swapDue := false, swapTake := false, swapHost := false, swapTries := 0 }).finishPort p
      .swap .ok []) := State.Keeps.frame (State.Keeps.modPort h) (State.finishPort_frame _ _ _ _ _)
  unfold State.swapAgain
  exact State.Keeps.either h (State.Keeps.either h.swapSend (State.Keeps.either ended.eprCheck ended))

theorem rallyExit (h : GoesOn s t) : GoesOn s (t.rallyExit p) := by
  have left : GoesOn s (t.rallyEnd p true) :=
    State.Keeps.either (State.Keeps.frame (State.Keeps.modPort h) (State.postEvt_frame _ _ _)) (State.Keeps.modPort h)
  exact State.Keeps.either left.sendVdm h

theorem owedNext (h : GoesOn s t) : GoesOn s (t.owedNext p) := by
  unfold State.owedNext
  refine State.Keeps.either h ?_
  split
  · exact sendVdm (State.Keeps.modPort h)
  · exact sendVdm (State.Keeps.modPort h)
  · exact h

theorem sopNext (h : GoesOn s t) : GoesOn s (t.sopNext p) := by
  have identity : GoesOn s (if (t.port p).pol.cable == .unknown then t
      else (t.modRally p fun r => { r with step := .identity }).sendVdm p .sop .sopIdentity (t.vdmReqHdr p 0xFF00 0 1) []) :=
    State.Keeps.either h (sendVdm (State.Keeps.modPort h))
  unfold State.sopNext
  refine State.Keeps.either h ?_
  split
  · exact identity
  · exact identity
  · exact h.sendVdm
  · exact h.sendVdm
  · exact State.Keeps.either h.sendVdm (State.Keeps.modPort h)
  · exact h

theorem noticeNext (h : GoesOn s t) : GoesOn s (t.noticeNext p) :=
  State.Keeps.either (State.Keeps.either h.rallyExit (sendVdm (State.Keeps.modPort h))) h

/-- With no offer due and the cable known, nothing but the waiting things changes. -/
theorem goNext (offer : (t.port p).pol.newOffer = false) (known : (t.port p).pol.cable ≠ .unknown) (h : GoesOn s t) : GoesOn s (t.goNext p) := by
  have sent : GoesOn t ((t.swapAgain p).sendNext p) := (refl t).swapAgain.sendNext
  have pol := congrArg (fun q : Port => (q.pol.newOffer, q.pol.cable)) (sent p)
  simp only [Port.besideWaiting, Prod.mk.injEq] at pol
  obtain ⟨noOffer, cable⟩ := pol
  unfold State.goNext
  dsimp only
  rw [State.offerDue_none (noOffer.trans offer), State.startCable_known (by rw [cable]; exact known)]
  exact State.Keeps.trans h sent.owedNext.sopNext.noticeNext

end State.GoesOn

/-- Where nothing of the policy waits, nothing goes on (R97, R127). -/
theorem State.nothingWaits.goNext (h : s.nothingWaits p) : s.goNext p = s := by
  obtain ⟨swap, outq, offer, known, owed, step, notice⟩ := h
  have again : s.swapAgain p = s := if_pos (by simp [swap])
  have next : s.sendNext p = s := by
    unfold State.sendNext
    rw [outq]
    exact ite_self _
  have owes : s.owedNext p = s := by
    unfold State.owedNext
    dsimp only
    rw [owed]
    exact ite_self _
  have discovers : s.sopNext p = s := by
    unfold State.sopNext
    dsimp only
    rcases step with h | h <;> (rw [h]; exact ite_self _)
  have tells : s.noticeNext p = s := if_neg (by simp [notice])
  unfold State.goNext
  dsimp only
  rw [again, next, State.offerDue_none offer, State.startCable_known known, owes, discovers, tells]

end Sys2Proof.Machine
end

section
/-! SUPPORT. A Request judged, the GoodCRC of a message of the policy, and the contract that stands (R87, R97, R106–R110, R114, R115). -/
namespace Sys2Proof.Machine
set_option Elab.async false

variable {s : State} {p : PortId} {m : TxMsg} {a : Ask}

/-! ### A Request (R106, R107, R156) -/

/-- A Request abandons a VDM exchange and is noted, before it is judged (R106, R156, R228). -/
def State.requestNoted (s : State) (p : PortId) (rdo : Word) : State :=
  (s.abandonVdm p).modPort p fun r => { r.noteMismatch rdo with pol := { (r.noteMismatch rdo).pol with expect := .none, reqSeen := true } }

theorem State.abandonVdm_port (outq : (s.port p).pol.outq = []) : ∃ r, (s.abandonVdm p).port p = { s.port p with rally := r } := by
  unfold State.abandonVdm
  split
  · exact ⟨_, rfl⟩
  · rw [State.modPort_port_self, outq]
    exact ⟨_, by rw [List.filter_nil, ← outq]⟩

theorem State.abandonVdm_frame (s : State) (p : PortId) : State.Frame (· = p) s (s.abandonVdm p) := .ite (.refl _ s) (s.modPort_frame p _ id)

theorem State.requestNoted_frame (s : State) (p : PortId) (rdo : Word) : State.Frame (· = p) s (s.requestNoted p rdo) :=
  (s.abandonVdm_frame p).trans (State.modPort_frame _ p _ id)

theorem State.requestNoted_port (outq : (s.port p).pol.outq = []) (rdo : Word) : ∃ r b, (s.requestNoted p rdo).port p =
    { s.port p with rally := r, sb := b, pol := { (s.port p).pol with mismatch := rdo.getLsbD 26, expect := .none, reqSeen := true } } := by
  obtain ⟨r, port⟩ := State.abandonVdm_port outq
  unfold State.requestNoted
  rw [State.modPort_port_self, port]
  exact ⟨_, _, rfl⟩

theorem State.requestNoted_link (s : State) (p : PortId) (rdo : Word) : (s.requestNoted p rdo).link = s.link := by
  unfold State.requestNoted State.abandonVdm
  split <;> rfl

/-- A request of the partner that meets no sequence of the device's own and is no early retry is dealt with (R124). -/
theorem State.waitOr_at_once {k : MsgKind} {own : Bool} {f : Out} (free : own = false)
    (late : ∀ n, (s.port p).pol.waited = some (k, n) → holdoffCycles ≤ s.aon - n) : s.waitOr p k own f = f := by
  have noRetry : (s.port p).pol.waited.any (fun w => w.1 == k && decide (s.aon - w.2 < holdoffCycles)) = false := by
    cases waited : (s.port p).pol.waited with
    | none => rfl
    | some w =>
      by_cases same : w.1 = k
      · have := late w.2 (by rw [waited, ← same])
        simp only [Option.any_some, Bool.and_eq_false_iff, decide_eq_false_iff_not]
        exact .inr (by omega)
      · simp [same]
  unfold State.waitOr
  rw [if_neg (by simp [free, noRetry])]

theorem State.whenPolicy_on {f : Out} (on : s.policyOn p = true) : s.whenPolicy p f = f := if_pos on

/-- The states in which a Request is a protocol error (R116). -/
def PolState.refusesRequest (x : PolState) : Bool := x == .transition || x == .softReset

/-- A Request that R107 refuses is answered Reject. -/
theorem execRequest_rejected {epr : Bool} {rdo pdo : Word} (rev3 : Bool) (may : s.mayRequest p epr)
    (takes : (s.port p).pol.state.refusesRequest = false) (answer : (s.port p).pol.answer epr rdo pdo = none) :
    execRequest p epr rdo pdo rev3 s = .next ((s.requestNoted p rdo).send p (ctlMsg .reject .rejectReq).amsLast) := by
  obtain ⟨free, own, late⟩ := may
  unfold execRequest
  rw [State.whenPolicy_on free.1]
  dsimp only
  rw [if_neg (by simpa [PolState.refusesRequest] using takes), State.waitOr_at_once own late, answer]
  rfl

/-- The state in which an accepted Request is answered: a decrease that it confirms is noted (R222). -/
def State.requestTaken (s : State) (p : PortId) (rdo : Word) (a : Ask) : State :=
  (s.requestNoted p rdo).modSb p fun b => if (s.port p).pol.hasContract && a.mv == (s.port p).pol.mv then b.confirmBy a.microW else b

theorem State.requestTaken_port (outq : (s.port p).pol.outq = []) (rdo : Word) (a : Ask) : ∃ r b, (s.requestTaken p rdo a).port p =
    { s.port p with rally := r, sb := b, pol := { (s.port p).pol with mismatch := rdo.getLsbD 26, expect := .none, reqSeen := true } } := by
  obtain ⟨r, b, port⟩ := State.requestNoted_port outq rdo
  unfold State.requestTaken
  rw [State.modSb_eq, State.modPort_port_self, port]
  exact ⟨_, _, rfl⟩

theorem State.requestTaken_frame (s : State) (p : PortId) (rdo : Word) (a : Ask) : State.Frame (· = p) s (s.requestTaken p rdo a) :=
  (s.requestNoted_frame p rdo).trans (State.modSb_frame _ p _)

/-- A Request that R107 accepts is answered Accept; one that repeats a PPS contract leads to no transition (R107, R115). -/
theorem execRequest_accepted {epr : Bool} {rdo pdo : Word} (rev3 : Bool) (may : s.mayRequest p epr)
    (takes : (s.port p).pol.state.refusesRequest = false) (answer : (s.port p).pol.answer epr rdo pdo = some a) :
    execRequest p epr rdo pdo rev3 s =
      if (s.port p).pol.kind == .pps && rdo == (s.port p).pol.rdo && (! epr || pdo == (s.port p).pol.stPdo) then
        .next (((s.requestTaken p rdo a).modPol p fun q => { q with repeat_ := true }).send p (ctlMsg .accept .acceptRepeat))
      else
        .next (((s.requestTaken p rdo a).modPol p fun q => { q with req := rdo, reqPdo := pdo, reqRev3 := rev3, repeat_ := false }).send p
          (ctlMsg .accept .acceptReq)) := by
  obtain ⟨free, own, late⟩ := may
  unfold execRequest
  rw [State.whenPolicy_on free.1]
  dsimp only
  rw [if_neg (by simpa [PolState.refusesRequest] using takes), State.waitOr_at_once own late, answer]
  rfl

/-! ### A message of the policy is acknowledged (R87, R161) -/

/-- A table that goes on at MSG_EVENT changes of its port the path alone (R161). -/
theorem State.stepOk_port (s : State) (p : PortId) (e : BitVec 64) : ∃ x, (s.stepOk p e).port p = { s.port p with path := x } := by
  unfold State.stepOk State.endTable
  split <;> exact ⟨_, s.modPort_port_self p _⟩

theorem State.msgEvent_port (s : State) (p : PortId) (n : Nat) : ∃ x, (s.msgEvent p n).port p = { s.port p with path := x } := by
  unfold State.msgEvent
  dsimp only
  split
  · exact s.stepOk_port p _
  · exact ⟨_, rfl⟩

theorem State.msgEvent_frame (s : State) (p : PortId) (n : Nat) : State.Frame (· = p) s (s.msgEvent p n) := .ite (s.stepOk_frame p _) (.refl _ s)

/-- The GoodCRC of the policy's message has come: its report is in, and a PS_RDY lets the table go on (R68, R117, R161). -/
def State.txAcked (s : State) (p : PortId) (m : TxMsg) : State :=
  (if m.kind == .psRdy then s.msgEvent p 2 else s).modPol p fun r => { r with flight := none, hardResets := if m.kind == .psRdy then 0 else r.hardResets }

theorem State.txAcked_frame (s : State) (p : PortId) (m : TxMsg) : State.Frame (· = p) s (s.txAcked p m) :=
  (State.Frame.ite (s.msgEvent_frame p 2) (.refl _ s)).trans (State.modPol_frame _ p _)

theorem State.txAcked_port (s : State) (p : PortId) (m : TxMsg) : ∃ x n, (s.txAcked p m).port p =
    { s.port p with path := x, pol := { (s.port p).pol with flight := none, hardResets := n } } := by
  unfold State.txAcked
  rw [State.modPol_eq, State.modPort_port_self]
  split
  · obtain ⟨x, port⟩ := s.msgEvent_port p 2
    rw [port]
    exact ⟨_, _, rfl⟩
  · exact ⟨_, _, rfl⟩

/-- A message that is no PS_RDY leaves the tables alone. -/
theorem State.txAcked_path (other : m.kind ≠ .psRdy) : ((s.txAcked p m).port p).path = (s.port p).path := by
  unfold State.txAcked
  rw [if_neg (by simpa using other)]
  simp

section
variable (flight : (s.port p).pol.flight = some m)
include flight

/-- An offer acknowledged is the one that a Request is judged against (R107). -/
theorem execTxOk_offer (expects : m.expect = .request) : execTxOk p s = .next ((s.txAcked p m).modPol p fun r =>
    { r with acked := r.sent, ackEpr := r.offEpr, capsSends := 0, noResp := false, state := .negotiate, expect := .request }) := by
  unfold execTxOk
  dsimp only
  rw [flight]
  dsimp only
  rw [expects]
  rfl

theorem execTxOk_accept (expects : m.expect = .acceptReq) : execTxOk p s = .next ((s.txAcked p m).modPol p fun r =>
    { r with state := .transition, expect := .acceptReq }) := by
  unfold execTxOk
  dsimp only
  rw [flight]
  dsimp only
  rw [expects]
  rfl

theorem execTxOk_psRdy (expects : m.expect = .psRdyReq) : execTxOk p s =
    if (s.port p).pol.repeat_ then .next (((s.txAcked p m).modPol p fun r => { r with repeat_ := false }).exitOrReady p)
    else .next ((s.txAcked p m).contractMade p m.ckind) := by
  unfold execTxOk
  dsimp only
  rw [flight]
  dsimp only
  rw [expects]
  rfl

theorem execTxOk_offered (expects : m.expect = .offered) : execTxOk p s = .next (((s.txAcked p m).modPol p fun r =>
    { r with acked := r.sent, ackEpr := r.offEpr, capsSends := 0, noResp := false }).goNext p) := by
  unfold execTxOk
  dsimp only
  rw [flight]
  dsimp only
  rw [expects]
  rfl

end

/-! ### After a negotiation (R97, R106, R110, R114) -/

/-- The policy is in the READY state of the port's mode. -/
def State.inReady (s : State) (p : PortId) : State := s.modPol p fun r => { r with state := r.readyState, expect := .none }

/-- EPR_Mode (Exit) as the policy sends it (R114). -/
def eprExitMsg : TxMsg := { (objMsg .eprMode [eprModeWord 5 0] .exitSent).ams with amsEnd := true }

theorem State.exitOrReady_exits (exits : (s.port p).pol.eprExit = true) (spr : (s.port p).pol.pos ≤ 7) :
    s.exitOrReady p = (s.inReady p).send p eprExitMsg := if_pos (by simp [exits, spr])

/-- What follows a negotiation in READY leaves all but the waiting things as they are. -/
theorem State.exitOrReady_goesOn (offer : (s.port p).pol.newOffer = false) (known : (s.port p).pol.cable ≠ .unknown) :
    State.GoesOn (s.inReady p) (s.exitOrReady p) := by
  have port : (s.inReady p).port p = { s.port p with pol := { (s.port p).pol with state := (s.port p).pol.readyState, expect := .none } } :=
    s.modPort_port_self p _
  have next : State.GoesOn (s.inReady p) ((s.inReady p).goNext p) :=
    (State.GoesOn.refl _).goNext (by rw [port]; exact offer) (by rw [port]; exact known)
  exact State.Keeps.either (State.GoesOn.refl _).send next

/-- What an explicit contract is: its kind, RDO, object position, voltage and current; and the count of Hard_Resets (R106, R117). -/
def Port.contract (q : Port) : CKind × Word × Nat × Nat × Nat × Nat := (q.pol.kind, q.pol.rdo, q.pol.pos, q.pol.mv, q.pol.ma, q.pol.hardResets)

/-- A port's contract, whether an offer is due, and its cable. -/
def Port.agreed (q : Port) : (CKind × Word × Nat × Nat × Nat × Nat) × Bool × CableClass := (q.contract, q.pol.newOffer, q.pol.cable)

theorem State.GoesOn.agreed {t u : State} (h : State.GoesOn t u) (p : PortId) : (u.port p).agreed = (t.port p).agreed := by
  have same := congrArg Port.agreed (h p)
  exact same

theorem State.inReady_agreed (s : State) (p : PortId) : ((s.inReady p).port p).agreed = (s.port p).agreed := by
  rw [State.inReady, State.modPol_eq, State.modPort_port_self]
  rfl

theorem State.exitOrReady_agreed (offer : (s.port p).pol.newOffer = false) (known : (s.port p).pol.cable ≠ .unknown) :
    ((s.exitOrReady p).port p).agreed = (s.port p).agreed :=
  ((State.exitOrReady_goesOn offer known).agreed p).trans (s.inReady_agreed p)

theorem State.send_agreed (s : State) (p : PortId) (m : TxMsg) : ((s.send p m).port p).agreed = (s.port p).agreed :=
  (State.GoesOn.refl s).send.agreed p

theorem State.demandRose_pol (s : State) (p : PortId) (n : Nat) : ((s.demandRose p n).port p).pol = (s.port p).pol := by
  unfold State.demandRose
  split
  · rw [State.modSb_eq, State.modPort_port_self]
  · rfl

/-- The contract that stands is what the Request asked for, of the kind that PS_RDY's transmit request carried (R87, R106, R110). -/
theorem State.contractStands_agreed (k : CKind) (judged : judge (s.port p).pol.acked (s.port p).pol.req = some a) :
    ((s.contractStands p k).port p).agreed =
      ((k, (s.port p).pol.req, bits (s.port p).pol.req 28 4, a.mv, a.ma, 0), (s.port p).pol.newOffer, (s.port p).pol.cable) := by
  unfold State.contractStands Port.agreed Port.contract
  dsimp only
  rw [judged]
  dsimp only
  rw [State.postEvt_port, State.demandRose_pol, State.modPort_port_self]

/-- Whatever follows it, the contract that PS_RDY completes stands (R97, R106). -/
theorem State.contractMade_agreed {k : CKind} (judged : judge (s.port p).pol.acked (s.port p).pol.req = some a)
    (offer : (s.port p).pol.newOffer = false) (known : (s.port p).pol.cable ≠ .unknown) :
    ((s.contractMade p k).port p).agreed = ((s.contractStands p k).port p).agreed := by
  have stands := State.contractStands_agreed (p := p) k judged
  have follows {t : State} (same : (t.port p).agreed = ((s.contractStands p k).port p).agreed) :
      ((t.exitOrReady p).port p).agreed = ((s.contractStands p k).port p).agreed := by
    have all := same.trans stands
    simp only [Port.agreed, Prod.mk.injEq] at all
    obtain ⟨-, noOffer, cable⟩ := all
    exact (State.exitOrReady_agreed (noOffer.trans offer) (by rw [cable]; exact known)).trans same
  have ready : ∀ t : State, (t.port p).agreed = (((s.contractStands p k).inReady p).port p).agreed → ∀ m,
      (((t.send p m).exitOrReady p).port p).agreed = ((s.contractStands p k).port p).agreed := fun t same m =>
    follows ((t.send_agreed p m).trans (same.trans (State.inReady_agreed _ p)))
  unfold State.contractMade
  dsimp only
  split
  · rfl
  · rw [judged, if_neg (by simp)]
    split
    · exact ready _ rfl _
    · split
      · exact ready ((State.inReady _ p).modPol p fun r => { r with eprDone := true }) (by rw [State.modPol_eq, State.modPort_port_self]; rfl) _
      · exact follows rfl

end Sys2Proof.Machine
end

section
/-! SUPPORT. From an accepted Request to the contract, clause by clause (R87, R97, R106–R110, R114, R115). -/
namespace Sys2Proof.Machine
set_option Elab.async false

variable {s : State} {p : PortId} {m : TxMsg} {a : Ask}

/-- A port that is free to send still is after a change of the policy that leaves its messages alone. -/
theorem State.policyFree.send_after {u : State} (free : s.policyFree p) (frame : State.Frame (· = p) s u) (takes : (u.port p).takes)
    (reply : m.amsStart = false) : u.send p m = u.toTx p m :=
  State.send_takes ((frame.tileDeaf p).trans free.hears) takes (.inl reply)

theorem State.requestTaken_link (s : State) (p : PortId) (rdo : Word) (a : Ask) : (s.requestTaken p rdo a).link = s.link :=
  s.requestNoted_link p rdo

/-- An accepted Request that is no repeat of a PPS contract: Accept goes out, and the contract waits for PS_RDY (R107, R110). -/
theorem execRequest_accept {epr : Bool} {rdo pdo : Word} (rev3 : Bool) (may : s.mayRequest p epr)
    (takes : (s.port p).pol.state.refusesRequest = false) (answer : (s.port p).pol.answer epr rdo pdo = some a)
    (other : (s.port p).pol.kind ≠ .pps) : ∃ u r b, execRequest p epr rdo pdo rev3 s = .next u ∧ u.link = s.link ∧
      (u.port p).pd.tx = some (ctlMsg .accept .acceptReq) ∧
      { u.port p with pd := (s.port p).pd } = { s.port p with
        rally := r, sb := b,
        pol := { (s.port p).pol with mismatch := rdo.getLsbD 26, expect := .none, reqSeen := true, req := rdo, reqPdo := pdo, reqRev3 := rev3,
                                     repeat_ := false, flight := some (ctlMsg .accept .acceptReq) } } := by
  let t := (s.requestTaken p rdo a).modPol p fun q => { q with req := rdo, reqPdo := pdo, reqRev3 := rev3, repeat_ := false }
  have free := may.1
  obtain ⟨r, b, taken⟩ := State.requestTaken_port free.takes.2.2.2 rdo a
  have port : t.port p = { s.port p with
      rally := r, sb := b,
      pol := { (s.port p).pol with mismatch := rdo.getLsbD 26, expect := .none, reqSeen := true, req := rdo, reqPdo := pdo, reqRev3 := rev3,
                                   repeat_ := false } } := by
    simp only [t, State.modPol_eq, State.modPort_port_self, taken]
  have sent : t.send p (ctlMsg .accept .acceptReq) = t.toTx p (ctlMsg .accept .acceptReq) :=
    free.send_after ((s.requestTaken_frame p rdo a).trans (State.modPol_frame _ p _)) (by rw [port]; exact free.takes) rfl
  refine ⟨_, r, b, (execRequest_accepted rev3 may takes answer).trans (if_neg (by simp [other])), ?_⟩
  rw [sent, State.toTx_port, port]
  exact ⟨s.requestTaken_link p rdo a, rfl, rfl⟩

/-- A repeat of a PPS contract: Accept goes out, and the contract stands as it was (R115). -/
theorem execRequest_repeat {rdo pdo : Word} (rev3 : Bool) (may : s.mayRequest p false) (takes : (s.port p).pol.state.refusesRequest = false)
    (answer : (s.port p).pol.answer false rdo pdo = some a) (pps : (s.port p).pol.kind = .pps) (same : (s.port p).pol.rdo = rdo) :
    ∃ u, execRequest p false rdo pdo rev3 s = .next u ∧ (u.port p).pd.tx = some (ctlMsg .accept .acceptRepeat) ∧
      (u.port p).path = (s.port p).path ∧ (u.port p).pol.repeat_ = true ∧ (u.port p).pol.rdo = (s.port p).pol.rdo ∧
      (u.port p).pol.kind = (s.port p).pol.kind := by
  let t := (s.requestTaken p rdo a).modPol p fun q => { q with repeat_ := true }
  have free := may.1
  obtain ⟨r, b, taken⟩ := State.requestTaken_port free.takes.2.2.2 rdo a
  have port : t.port p = { s.port p with
      rally := r, sb := b,
      pol := { (s.port p).pol with mismatch := rdo.getLsbD 26, expect := .none, reqSeen := true, repeat_ := true } } := by
    simp only [t, State.modPol_eq, State.modPort_port_self, taken]
  have sent : t.send p (ctlMsg .accept .acceptRepeat) = t.toTx p (ctlMsg .accept .acceptRepeat) :=
    free.send_after ((s.requestTaken_frame p rdo a).trans (State.modPol_frame _ p _)) (by rw [port]; exact free.takes) rfl
  refine ⟨_, (execRequest_accepted rev3 may takes answer).trans (if_pos (by simp [pps, same])), ?_⟩
  rw [sent, State.toTx_port, port]
  exact ⟨rfl, rfl, rfl, rfl, rfl⟩

/-- A Request in TRANSITION is a protocol error that Hard_Reset answers (R116). -/
theorem execRequest_transition {epr : Bool} {rdo pdo : Word} {rev3 : Bool} (on : s.policyOn p = true)
    (transition : (s.port p).pol.state = .transition) : execRequest p epr rdo pdo rev3 s = .next (s.hardReset p .hardResetSent false) := by
  unfold execRequest
  rw [State.whenPolicy_on on]
  dsimp only
  rw [if_pos (by simp [transition])]
  exact congrArg Host.Outcome.next (if_pos (by simp [transition]))

/-- tSrcTransition has passed: the transition to the requested voltage is posted, with the limit of the Request (R109, R173). -/
theorem execSrcTransitionExpiry_posts (transition : (s.port p).pol.state = .transition) (awaited : (s.port p).pol.expect = .acceptReq)
    (judged : judge (s.port p).pol.acked (s.port p).pol.req = some a) : execSrcTransitionExpiry p s =
      .next ((s.modPol p fun r => { r with expect := .none }).post p
        { purpose := if a.kind == .fixed then .fixed else .prog, mv := a.mv, ma := a.limit, kind := a.kind, rp := .dflt, minMv := a.lo }) := by
  unfold execSrcTransitionExpiry
  dsimp only
  rw [if_pos (by simp [transition, awaited]), judged]
  rfl

/-- A tile on which ST_OVR names no table runs those of the ROM (R167). -/
theorem State.tableFor_rom (x : Purpose) (rom : (s.tileCfg (tileOf p)).stOvr = 0#16) : s.tableFor p x = x.table := by
  unfold State.tableFor
  rw [rom]
  simp

theorem Pol.readyState_idle (q : Pol) : [PolState.transition, .vconnSwap, .softReset, .hardReset].contains q.readyState = false := by
  unfold Pol.readyState
  split <;> rfl

/-- In READY, with no EPR entry and no VDM under way, EPR_Mode (Exit) may start (R127). -/
theorem State.seqBusy_inReady (entry : (s.port p).pol.eprEntry = 0) (rally : (s.port p).rally.req = .none) :
    (s.inReady p).seqBusy p eprExitMsg = false := by
  have port : (s.inReady p).port p = { s.port p with pol := { (s.port p).pol with state := (s.port p).pol.readyState, expect := .none } } :=
    s.modPort_port_self p _
  unfold State.seqBusy
  rw [port]
  dsimp only
  rw [entry, rally, Pol.readyState_idle]
  rfl

/-- Settles O10: the Request by its answer, each acknowledged message by what its report makes of the policy. -/
theorem requestToContract : Obligations.RequestToContract := by
  unfold Obligations.RequestToContract
  refine ⟨fun p epr rdo pdo r3 a s may state kind answer => ?_, fun p epr rdo pdo r3 s may state answer => ?_,
    fun p rdo pdo r3 a s may state kind same answer => ?_, fun p epr rdo pdo r3 s on state may => ?_, fun p m s flight expects => ?_,
    fun p m s flight expects kind => ?_, fun p a s state awaited judged kind low high up free idle empty table rom => ?_,
    fun p m s flight expects again exits offer known => ?_, fun p m a s flight expects judged again offer known => ?_,
    fun p m s flight expects again exits spr entry outq tx table up rally => ?_, fun p m s flight expects waits => ?_⟩
  · obtain ⟨u, r, b, run, link, tx, port⟩ := execRequest_accept r3 may (by rw [state]; rfl) answer (by simp [kind])
    have pol := congrArg Port.pol port
    dsimp only at pol
    refine ⟨u, run, tx, ?_⟩
    rw [pol]
    exact ⟨rfl, rfl, rfl, kind, link⟩
  · obtain ⟨r, b, port⟩ := State.requestNoted_port may.1.takes.2.2.2 rdo
    have sent : (s.requestNoted p rdo).send p (ctlMsg .reject .rejectReq).amsLast = (s.requestNoted p rdo).toTx p (ctlMsg .reject .rejectReq).amsLast :=
      may.1.send_after (s.requestNoted_frame p rdo) (by rw [port]; exact may.1.takes) rfl
    refine ⟨_, execRequest_rejected r3 may (by rw [state]; rfl) answer, ?_⟩
    rw [sent, State.toTx_port, port]
    exact ⟨rfl, rfl, rfl, rfl⟩
  · obtain ⟨u, run, tx, path, again, rdo', kind'⟩ := execRequest_repeat r3 may (by rw [state]; rfl) answer kind same
    exact ⟨u, run, tx, path, again, rdo'.trans same, kind'.trans kind⟩
  · exact ⟨_, execRequest_transition on state, State.hardReset_isHardReset may _ _⟩
  · obtain ⟨x, n, port⟩ := s.txAcked_port p m
    refine ⟨_, execTxOk_offer flight expects, ?_⟩
    rw [State.modPol_eq, State.modPort_port_self, port]
    exact ⟨rfl, rfl, rfl, rfl⟩
  · obtain ⟨x, n, port⟩ := s.txAcked_port p m
    refine ⟨_, execTxOk_accept flight expects, ?_⟩
    rw [State.modPol_eq, State.modPort_port_self]
    refine ⟨rfl, rfl, ?_, State.txAcked_path (by simp [kind])⟩
    rw [port]
  · let t := s.modPol p fun r => { r with expect := .none }
    have frame : State.Frame (· = p) s t := s.modPol_frame p _
    have port : t.port p = { s.port p with pol := { (s.port p).pol with expect := .none } } := s.modPort_port_self p _
    have one : t.tableFor p .fixed = 1 := (frame.tableFor p _).trans (State.tableFor_rom _ rom)
    have takes : t.takesPost p { purpose := .fixed, mv := a.mv, ma := a.limit, kind := .fixed, rp := .dflt, minMv := a.lo } :=
      State.takesPost.of_free ((frame.tileDeaf p).trans up) (by rw [port]; exact free) low high (by rw [port, one]; exact table)
    obtain ⟨path, -⟩ := takes.post_idle (by rw [port]; exact idle) (by rw [port]; exact empty)
    have run := execSrcTransitionExpiry_posts state awaited judged
    rw [kind] at run
    refine ⟨_, run, ?_⟩
    rw [if_pos (by rfl), path, port]
    exact ⟨rfl, one, rfl, rfl, rfl, rfl⟩
  · let t := (s.txAcked p m).modPol p fun r => { r with repeat_ := false }
    obtain ⟨x, n, acked⟩ := s.txAcked_port p m
    have port : t.port p = { s.port p with
        path := x, pol := { (s.port p).pol with flight := .none, hardResets := n, repeat_ := false } } := by
      simp only [t, State.modPol_eq, State.modPort_port_self, acked]
    have goes := State.exitOrReady_goesOn (s := t) (p := p) (by rw [port]; exact offer) (by rw [port]; exact known) p
    have pol := congrArg (fun q : Port => (q.pol.state, q.pol.kind, q.pol.rdo, q.pol.mv, q.pol.repeat_)) goes
    simp only [State.inReady, State.modPol_eq, State.modPort_port_self, port, Port.besideWaiting, Prod.mk.injEq] at pol
    exact ⟨_, (execTxOk_psRdy flight expects).trans (if_pos again), pol⟩
  · obtain ⟨x, n, port⟩ := s.txAcked_port p m
    have judged' : judge ((s.txAcked p m).port p).pol.acked ((s.txAcked p m).port p).pol.req = some a := by rw [port]; exact judged
    have stands := (State.contractMade_agreed (k := m.ckind) judged' (by rw [port]; exact offer) (by rw [port]; exact known)).trans
      (State.contractStands_agreed m.ckind judged')
    simp only [Port.agreed, Port.contract, port, Prod.mk.injEq] at stands
    obtain ⟨⟨kind, rdo, pos, mv, ma, resets⟩, -, -⟩ := stands
    exact ⟨_, (execTxOk_psRdy flight expects).trans (if_neg (by simp [again])), kind, mv, ma, rdo, pos, resets⟩
  · let t := (s.txAcked p m).modPol p fun r => { r with repeat_ := false }
    obtain ⟨x, n, acked⟩ := s.txAcked_port p m
    have port : t.port p = { s.port p with
        path := x, pol := { (s.port p).pol with flight := .none, hardResets := n, repeat_ := false } } := by
      simp only [t, State.modPol_eq, State.modPort_port_self, acked]
    have ready : (t.inReady p).port p = { t.port p with pol := { (t.port p).pol with state := (t.port p).pol.readyState, expect := .none } } :=
      t.modPort_port_self p _
    have frame : State.Frame (· = p) s (t.inReady p) := ((s.txAcked_frame p m).trans (State.modPol_frame _ p _)).trans (State.modPol_frame _ p _)
    have sent : t.exitOrReady p = (t.inReady p).toTx p eprExitMsg :=
      (State.exitOrReady_exits (by rw [port]; exact exits) (by rw [port]; exact spr)).trans
        (State.send_takes ((frame.tileDeaf p).trans up) (by rw [ready, port]; exact ⟨table, tx, rfl, outq⟩)
          (.inr (State.seqBusy_inReady (by rw [port]; exact entry) (by rw [port]; exact rally))))
    refine ⟨_, (execTxOk_psRdy flight expects).trans (if_pos again), ?_⟩
    rw [show ((s.txAcked p m).modPol p fun r => { r with repeat_ := false }).exitOrReady p = (t.inReady p).toTx p eprExitMsg from sent,
      State.toTx_port, ready, port]
    exact ⟨rfl, rfl, rfl⟩
  · let t := (s.txAcked p m).modPol p fun r => { r with acked := r.sent, ackEpr := r.offEpr, capsSends := 0, noResp := false }
    obtain ⟨x, n, acked⟩ := s.txAcked_port p m
    have port : t.port p = { s.port p with
        path := x, pol := { (s.port p).pol with
          flight := .none, hardResets := n, acked := (s.port p).pol.sent, ackEpr := (s.port p).pol.offEpr, capsSends := 0, noResp := false } } := by
      simp only [t, State.modPol_eq, State.modPort_port_self, acked]
    have stays : t.nothingWaits p := by
      unfold State.nothingWaits
      rw [port]
      exact waits
    refine ⟨t, (execTxOk_offered flight expects).trans (congrArg Host.Outcome.next stays.goNext), ?_⟩
    rw [port]
    exact ⟨rfl, rfl, rfl⟩

end Sys2Proof.Machine
end

section
/-! SUPPORT. What a received message is answered with (R89, R103, R119, R124–R126). -/
namespace Sys2Proof.Machine
set_option Elab.async false

variable {s : State} {p : PortId} {m : TxMsg} {k : MsgKind} {f : Out}

/-! ### The partner's requests (R124) -/

theorem State.policyFree.send (free : s.policyFree p) (reply : m.amsStart = false) : s.send p m = s.toTx p m := State.send_free free reply

/-- A request that meets a sequence of the device's own is answered Wait (R124). -/
theorem State.partnerReq_waits (free : s.policyFree p) (own : s.ownSeq p = true) :
    s.partnerReq p k f = .next ((s.modPol p fun q => { q with waited := some (k, s.aon) }).toTx p (ctlMsg .wait .none).amsLast) := by
  unfold State.partnerReq State.waitOr
  rw [State.whenPolicy_on free.1, if_pos (by simp [own])]
  exact congrArg Host.Outcome.next (free.send_after (s.modPol_frame p _)
    (by rw [State.modPol_eq, State.modPort_port_self]; exact free.takes) rfl)

theorem State.mayAnswer.partnerReq (h : s.mayAnswer p k) : s.partnerReq p k f = f := by
  obtain ⟨free, own, late⟩ := h
  exact (State.whenPolicy_on free.1).trans (State.waitOr_at_once own late)

theorem State.whenPolicy_stays (stays : f = .next s) : s.whenPolicy p f = .next s := by
  unfold State.whenPolicy
  rw [stays]
  exact ite_self _

/-- At revision 3.x Not_Supported goes out (R126). -/
theorem State.policyFree.notSupported (free : s.policyFree p) (rev3 : (s.port p).pd.rev3 = true) :
    s.notSupported p = s.toTx p (ctlMsg .notSupported .none) := by
  unfold State.notSupported
  rw [if_pos rev3]
  exact free.send rfl

/-- At revision 2.0 nothing is sent (R126). -/
theorem State.nothingWaits.notSupported (waits : s.nothingWaits p) (rev2 : (s.port p).pd.rev3 = false) : s.notSupported p = s := by
  unfold State.notSupported
  rw [if_neg (by simp [rev2]), waits.goNext]

/-! ### Offers that answer (R103, R107, R125) -/

/-- An offer that answers the partner is in the TX buffer, and remembered as sent. -/
theorem State.offerGoes_port {o : Offer} {epr : Bool} (hears : s.tileDeaf p = false) (takes : (s.port p).takes) (reply : m.amsStart = false) :
    ((s.offerGoes p o epr m).port p).pd.tx = some m ∧ ((s.offerGoes p o epr m).port p).pol.sent = (if epr then o.epr else o.spr) ∧
      ((s.offerGoes p o epr m).port p).pol.state = (s.port p).pol.state := by
  let t := s.modPol p fun q =>
    { q with sent := if epr then o.epr else o.spr, offN := (if epr then o.epr else o.spr).length, offLimit := cableLimit q.cable, offEpr := epr,
             withheld := o.held, offPdp := offerPower (if epr then o.epr else o.spr), newOffer := false, eprDue := false,
             withdrawn := (s.profileWords p).filter (s.feedHeld p), live := (s.profileWords p).filter fun w => ! s.feedHeld p w }
  have sent : s.offerGoes p o epr m = t.toTx p m :=
    State.send_takes (((s.modPol_frame p _).tileDeaf p).trans hears) (by rw [State.modPol_eq, State.modPort_port_self]; exact takes) (.inl reply)
  rw [sent, State.toTx_port]
  simp only [t, State.modPol_eq, State.modPort_port_self, and_self]

/-- An offer that answers Get_Source_Cap goes out, and the policy is in SEND_CAPS (R97, R103, R125). -/
theorem State.sendOffer_replies {epr : Bool} (free : s.policyFree p) (offers : (s.buildOffer p).spr ≠ []) (holds : (s.port p).holdsAlloc = true) :
    s.sendOffer p epr true = (s.modPol p fun q => { q with state := .sendCaps, expect := .none }).offerGoes p (s.buildOffer p)
      (epr || (s.port p).pol.eprDue) ((s.buildOffer p).msg (epr || (s.port p).pol.eprDue) .request) := by
  unfold State.sendOffer
  dsimp only
  rw [if_neg (by simpa using free.2.1), if_neg (by simp [offers]), if_neg (by simp [holds]), if_neg (by simpa using offers)]
  rfl

theorem Offer.msg_reply (o : Offer) (epr : Bool) (e : Expect) : (o.msg epr e).amsStart = false := by
  unfold Offer.msg
  split <;> rfl

theorem State.sendOffer_port {epr : Bool} (free : s.policyFree p) (offers : (s.buildOffer p).spr ≠ []) (holds : (s.port p).holdsAlloc = true) :
    ((s.sendOffer p epr true).port p).pd.tx = some ((s.buildOffer p).msg (epr || (s.port p).pol.eprDue) .request) ∧
      ((s.sendOffer p epr true).port p).pol.sent =
        (if epr || (s.port p).pol.eprDue then (s.buildOffer p).epr else (s.buildOffer p).spr) ∧
      ((s.sendOffer p epr true).port p).pol.state = .sendCaps := by
  rw [State.sendOffer_replies free offers holds]
  obtain ⟨tx, sent, state⟩ := State.offerGoes_port (s := s.modPol p fun q => { q with state := .sendCaps, expect := .none }) (p := p)
    (o := s.buildOffer p) (epr := epr || (s.port p).pol.eprDue) (((s.modPol_frame p _).tileDeaf p).trans free.hears)
    (by simpa [Port.takes] using free.takes) ((s.buildOffer p).msg_reply _ .request)
  exact ⟨tx, sent, state.trans (by simp)⟩

theorem State.replyCaps_offers {epr : Bool} (offers : (s.buildOffer p).spr ≠ []) (holds : (s.port p).holdsAlloc = true) :
    s.replyCaps p epr = s.offerGoes p (s.buildOffer p) epr ((s.buildOffer p).msg epr .offered) := if_neg (by simp [offers, holds])

/-! ### Blocks whose bytes the spec leaves open (R125) -/

@[simp] theorem bytesLE_length (n v : Nat) : (bytesLE n v).length = n := by simp [bytesLE]

/-- Free values drawn do not keep the port from answering. -/
theorem State.policyFree.send_freed (free : s.policyFree p) (n : Nat) (reply : m.amsStart = false) :
    ({ s with freeCtr := n } : State).send p m = ({ s with freeCtr := n } : State).toTx p m :=
  State.send_takes (s := { s with freeCtr := n }) free.hears free.takes (.inl reply)

/-! ### Messages passed to the host (R89, R125, R337) -/

/-- A message passed, or not, leaves of its port all but the list of messages answered in hold. -/
theorem State.passMsg_port (s : State) (p : PortId) (x : Msg) : ∃ l, (s.passMsg p x).port p =
    { s.port p with pol := { (s.port p).pol with answered := l } } := by
  have written (t : State) (n : Nat) (e : OutEntry) (q : PortId) : (t.ringWrite n e false).port q = t.port q :=
    (t.ringWrite_frame (P := fun _ => False) n e false).others q id
  have listed : (s.modPol p fun q => { q with answered := q.answered.eraseP (·.1 == x) }).port p =
      { s.port p with pol := { (s.port p).pol with answered := (s.port p).pol.answered.eraseP (·.1 == x) } } := by
    rw [State.modPol_eq, State.modPort_port_self]
  unfold State.passMsg
  dsimp only
  split
  · exact ⟨_, listed⟩
  · split
    · exact ⟨_, (written _ _ _ p).trans listed⟩
    · exact ⟨_, listed⟩

theorem State.passMsg_frame (s : State) (p : PortId) (x : Msg) : State.Frame (· = p) s (s.passMsg p x) :=
  have listed : State.Frame (· = p) s (s.modPol p fun q => { q with answered := q.answered.eraseP (·.1 == x) }) := s.modPol_frame p _
  .ite listed (.ite ((listed.trans (State.ringWrite_frame _ _ _ _)).trans (State.modLink_frame _ _)) (listed.trans (State.modLink_frame _ _)))

end Sys2Proof.Machine
end

section
/-! SUPPORT. Each received message and its answer, clause by clause (R89, R103, R119, R124–R126). -/
namespace Sys2Proof.Machine
set_option Elab.async false

variable {s : State} {p : PortId}

/-- A message to the TX buffer, and what else the port holds. -/
theorem State.toTx_tx (s : State) (p : PortId) (m : TxMsg) : ((s.toTx p m).port p).pd.tx = some m := by rw [State.toTx_port]

/-- Get_Source_Cap, in READY or SEND_CAPS, is answered as an offer (R97, R125). -/
theorem execGetSourceCap_offers (may : s.mayAnswer p .getSourceCap) (state : (s.port p).pol.state = .ready ∨ (s.port p).pol.state = .sendCaps) :
    execGetSourceCap p s = .next (s.sendOffer p (s.port p).pol.epr true) := by
  unfold execGetSourceCap
  rw [may.partnerReq]
  rcases state with h | h <;> (rw [h]; rfl)

/-- A port without a contract keeps its state while it answers Get_Source_Cap (R97, R107). -/
theorem execGetSourceCap_typecOnly (may : s.mayAnswer p .getSourceCap) (state : (s.port p).pol.state = .typecOnly) :
    execGetSourceCap p s = .next (s.replyCaps p false) := by
  unfold execGetSourceCap
  rw [may.partnerReq, state]
  rfl

/-- A port whose profile has no EPR object has no EPR offer (R126). -/
theorem execEprGetSourceCap_none (may : s.mayAnswer p .eprGetSourceCap) (lacks : (s.profileWords p).any (fun w => (decodePdo w).isEpr) = false) :
    execEprGetSourceCap p s = .next (s.notSupported p) := by
  unfold execEprGetSourceCap
  rw [may.partnerReq, if_pos (by simp [lacks])]
  rfl

theorem execEprGetSourceCap_offers (may : s.mayAnswer p .eprGetSourceCap) (state : (s.port p).pol.state = .ready ∨ (s.port p).pol.state = .readyEpr)
    (rev3 : (s.port p).pd.rev3 = true) (has : (s.profileWords p).any (fun w => (decodePdo w).isEpr) = true) :
    execEprGetSourceCap p s = .next (s.sendOffer p true true) := by
  unfold execEprGetSourceCap
  rw [may.partnerReq, if_neg (by rw [rev3, has]; decide)]
  rcases state with h | h <;> (rw [h]; rfl)

theorem execGetPpsStatus_pps (may : s.mayAnswer p .getPpsStatus) (pps : (s.port p).pol.kind = .pps) : execGetPpsStatus p s =
    .next ((s.freeBytes 1).2.send p (extMsg .ppsStatus (bytesLE 2 ((s.port p).smp.mv / 20) ++
      bytesLE 1 (min 255 ((s.port p).smp.ma.toNat / 50)) ++ (s.freeBytes 1).1) .none)) := by
  unfold execGetPpsStatus
  rw [may.partnerReq]
  exact if_pos (by simp [pps])

theorem execGetPpsStatus_other (may : s.mayAnswer p .getPpsStatus) (other : (s.port p).pol.kind ≠ .pps) :
    execGetPpsStatus p s = .next (s.notSupported p) := by
  unfold execGetPpsStatus
  rw [may.partnerReq]
  exact if_neg (by simpa using other)

/-- Get_Status is answered with the event flags, which are then cleared (R125). -/
theorem execGetStatus_answers (may : s.mayAnswer p .getStatus) : ∃ data, execGetStatus p s =
    .next (((s.freeBytes 4).2.modPol p fun r => { r with ocp := false, ovp := false, otp := false }).toTx p (extMsg .status data .none)) := by
  let t := (s.freeBytes 4).2.modPol p fun r => { r with ocp := false, ovp := false, otp := false }
  have takes : (t.port p).takes := by
    show (((s.freeBytes 4).2.modPort p _).port p).takes
    rw [State.modPort_port_self]
    exact may.1.takes
  have hears : t.tileDeaf p = false := ((State.modPol_frame _ p _).tileDeaf p).trans may.1.hears
  unfold execGetStatus
  rw [may.partnerReq]
  exact ⟨_, congrArg Host.Outcome.next (State.send_takes hears takes (.inl rfl))⟩

/-- An Alert is passed, and Get_Status goes out where no sequence is in progress (R125, R127). -/
theorem execAlert_asks (h : BitVec 16) (w : BitVec 32) (free : s.policyFree p) (idle : s.seqBusy p (ctlMsg .getStatus .status) = false) :
    execAlert p h w s = .next ((s.passMsg p ⟨.sop, .alert, h, wordBytes [w]⟩).toTx p { (ctlMsg .getStatus .status).ams with amsEnd := true }) := by
  obtain ⟨l, port⟩ := s.passMsg_port p ⟨.sop, .alert, h, wordBytes [w]⟩
  have quiet : (s.passMsg p ⟨.sop, .alert, h, wordBytes [w]⟩).seqBusy p { (ctlMsg .getStatus .status).ams with amsEnd := true } = false := by
    unfold State.seqBusy at idle ⊢
    rw [port]
    exact idle
  unfold execAlert
  rw [State.whenPolicy_on free.1]
  exact congrArg Host.Outcome.next (State.send_takes (((s.passMsg_frame p _).tileDeaf p).trans free.hears) (by rw [port]; exact free.takes) (.inr quiet))

/-- An information message that ends no wait is recorded and passed (R125). -/
theorem execInformationMessage_recorded {m : Msg} (on : s.policyOn p = true) (kind : m.kind = .batteryStatus) :
    execInformationMessage p m s = .next (((s.modPol p fun r => { r with lastInfo := some m }).passMsg p m).goNext p) := by
  unfold execInformationMessage
  rw [State.whenPolicy_on on]
  exact if_neg (by simp [kind])

theorem execBistRequest_vSafe5V (on : s.policyOn p = true) (gate : (s.port p).path.gate = true) (target : (s.port p).path.target = 5000)
    (slew : (s.port p).path.slewTo = none) (carrier : Bool) : execBistRequest p carrier s =
      if carrier then .next (s.modPd p fun r => { r with txActive := true }) else .next (s.modPol p fun r => { r with bist := true }) := by
  unfold execBistRequest
  rw [State.whenPolicy_on on]
  exact if_pos (by simp [gate, target, slew])

/-- Settles O11: each message by the lemma on its command. -/
theorem messagesAnswered : Obligations.MessagesAnswered := by
  unfold Obligations.MessagesAnswered
  refine ⟨fun p s free own c mem => ?_, fun p s may state epr due offers holds => ?_, fun p s may state offers holds => ?_,
    fun p s may state rev3 offers holds has => ?_, fun p s may rev3 lacks => ?_, fun p s may => ?_, fun p s may => ?_, fun p s may => ?_,
    fun p s may pps => ?_, fun p s may other rev3 => ?_, fun p s may => ?_, fun p s may => ?_, fun p s free => ?_, fun p s free rev3 => ?_,
    fun p s rev2 waits => ?_, fun p h w s free idle => ?_, fun p s on gate target slew => ?_, fun p c s gate waits => ?_,
    fun p m s on kind waits => ?_, fun p m s rx replied => ?_⟩
  · simp only [List.mem_cons, List.not_mem_nil, or_false] at mem
    rcases mem with h | h | h | h | h | h | h | h | h <;> (rw [h]; exact State.partnerReq_waits free own)
  · obtain ⟨tx, sent, state'⟩ := State.sendOffer_port (epr := (s.port p).pol.epr) may.1 offers holds
    rw [epr, due] at tx sent
    refine ⟨_, execGetSourceCap_offers may state, ?_⟩
    rw [epr] at state' ⊢
    exact ⟨tx, sent, state'⟩
  · have run := execGetSourceCap_typecOnly may state
    rw [State.replyCaps_offers offers holds] at run
    obtain ⟨tx, sent, stays⟩ := State.offerGoes_port (o := s.buildOffer p) (epr := false) may.1.hears may.1.takes
      ((s.buildOffer p).msg_reply false .offered)
    exact ⟨_, run, tx, sent, stays.trans state⟩
  · obtain ⟨tx, -, -⟩ := State.sendOffer_port (epr := true) may.1 offers holds
    exact ⟨_, execEprGetSourceCap_offers may state rev3 has, tx⟩
  · exact (execEprGetSourceCap_none may lacks).trans (congrArg Host.Outcome.next (may.1.notSupported rev3))
  · refine ⟨_, _, may.partnerReq.trans (congrArg Host.Outcome.next (may.1.send_freed _ rfl)), State.toTx_tx _ p _, rfl, ?_⟩
    simp [extMsg, List.take_append]
  · exact may.partnerReq.trans (congrArg Host.Outcome.next (may.1.send rfl))
  · obtain ⟨data, run⟩ := execGetStatus_answers may
    refine ⟨_, _, run, State.toTx_tx _ p _, rfl, ?_⟩
    rw [State.toTx_port, State.modPol_eq, State.modPort_port_self]
    exact ⟨rfl, rfl, rfl⟩
  · refine ⟨_, _, (execGetPpsStatus_pps may pps).trans (congrArg Host.Outcome.next (may.1.send_freed _ rfl)), State.toTx_tx _ p _, rfl, ?_⟩
    simp [extMsg, List.take_append]
  · exact (execGetPpsStatus_other may other).trans (congrArg Host.Outcome.next (may.1.notSupported rev3))
  · exact ⟨_, _, may.partnerReq.trans (congrArg Host.Outcome.next (may.1.send_freed _ rfl)), State.toTx_tx _ p _⟩
  · exact may.partnerReq.trans (congrArg Host.Outcome.next (may.1.send rfl))
  · have rejects := (State.whenPolicy_on free.1).trans (congrArg Host.Outcome.next (free.send (m := (ctlMsg .reject .none).amsLast) rfl))
    exact ⟨rejects, rejects⟩
  · have refuses := (State.whenPolicy_on free.1).trans (congrArg Host.Outcome.next (free.notSupported rev3))
    exact ⟨refuses, refuses, refuses, refuses⟩
  · have stays : s.whenPolicy p (ok (s.notSupported p)) = .next s :=
      State.whenPolicy_stays (congrArg Host.Outcome.next (waits.notSupported rev2))
    exact ⟨stays, stays, stays, stays⟩
  · exact ⟨_, execAlert_asks h w free idle, State.toTx_tx _ p _⟩
  · exact ⟨execBistRequest_vSafe5V on gate target slew false, execBistRequest_vSafe5V on gate target slew true⟩
  · refine State.whenPolicy_stays ((if_neg (by simp [gate])).trans (congrArg Host.Outcome.next waits.goNext))
  · let t := (s.modPol p fun r => { r with lastInfo := some m }).passMsg p m
    obtain ⟨l, passed⟩ := (s.modPol p fun r => { r with lastInfo := some m }).passMsg_port p m
    have port : t.port p = { s.port p with pol := { (s.port p).pol with lastInfo := some m, answered := l } } := by
      rw [passed, State.modPol_eq, State.modPort_port_self]
    have still : t.nothingWaits p := by
      unfold State.nothingWaits
      rw [port]
      exact waits
    refine ⟨t, (execInformationMessage_recorded on kind).trans (congrArg Host.Outcome.next still.goNext), ?_⟩
    rw [port]
    exact ⟨rfl, rfl, rfl⟩
  · obtain ⟨c, port⟩ := State.reportHold_told rx replied
    refine ⟨_, rfl, ?_⟩
    rw [port]
    exact ⟨rfl, rfl⟩

end Sys2Proof.Machine
end

section
/-! SUPPORT. How a trigger of a core's next move ends, and what a queued event and an entry of a ring leave (R277, R289, R302, R324). -/
namespace Sys2Proof.Machine
set_option Elab.async false

variable {s u s1 : State} {k : CoreId} {a cy : Nat} {w b st : Word} {act : State → Word → MoveEnd}

/-! ### The core of an operation and of a fetch -/

/-- The shared operations leave the cores alone. -/
theorem State.Frame.coreAt {P : PortId → Prop} (h : State.Frame P s u) (k : CoreId) : u.coreAt k = s.coreAt k := by
  obtain ⟨-, -, -, core, -⟩ := h.mem
  unfold State.coreAt
  rw [core]

/-- An access corrects the errors in its range, and leaves all but the referee's record (R386). -/
theorem State.softFix_ref (s : State) (mem lo n : Nat) : ∃ f, s.softFix mem lo n = s.modRef f := by
  unfold State.softFix
  dsimp only
  split
  · exact ⟨id, rfl⟩
  · exact ⟨_, rfl⟩

/-- A read port leaves the offset of the move (R273). -/
theorem State.moveValue_pc {m : MvSrc} (reads : s.moveValue k m = (b, s1)) : (s1.coreAt k).pc = (s.coreAt k).pc := by
  have state : s1 = (s.moveValue k m).2 := by rw [reads]
  subst state
  cases m with
  | imm v => rfl
  | port n =>
    unfold State.moveValue State.readPort
    dsimp only
    split
    · simp
    · rfl

theorem State.nextMove.pc (next : s.nextMove k a w b s1) : ((s.fetched k).coreAt k).pc = (s1.coreAt k).pc := by
  obtain ⟨-, -, -, m, -, -, -, value⟩ := next
  exact (State.moveValue_pc value).symm

/-! ### How a trigger's move ends (R275–R278) -/

theorem State.nextMove.trigger (next : s.nextMove k a w b s1) : s.trigger k a act = (s.fetched k).finishMove k w (act s1 b) := by
  obtain ⟨can, fetch, legal, m, decode, dst, guard, value⟩ := next
  unfold State.trigger State.issue
  rw [if_neg (by simp [can]), fetch]
  dsimp only
  rw [legal, decode]
  dsimp only
  rw [if_neg (by simp [dst]), if_neg (by simp [guard]), value]

/-- A trigger's move that is done: the core goes on to the next one from what the trigger has made of the state. -/
theorem State.nextMove.trigger_done (next : s.nextMove k a w b s1) (acts : act s1 b = u.doneIn k cy)
    (pc : (u.coreAt k).pc = (s1.coreAt k).pc) : s.trigger k a act = u.movedOn k w (s1.coreAt k).pc cy := by
  rw [next.trigger, acts]
  unfold State.finishMove State.doneIn
  dsimp only
  rw [next.pc, pc]
  rfl

/-- An EVT trigger leaves its status (R289). -/
theorem State.nextMove.trigger_evt (next : s.nextMove k a w b s1) (acts : act s1 b = u.evtDone k st) (core : u.coreAt k = s1.coreAt k) :
    s.trigger k a act = (u.modCore k fun c => { c with evS := st }).movedOn k w (s1.coreAt k).pc 2 :=
  next.trigger_done acts (by rw [State.modCore_coreAt_self, core])

/-- A MSG trigger leaves its status (R290). -/
theorem State.nextMove.trigger_msg (next : s.nextMove k a w b s1) (acts : act s1 b = u.msgDone k st) (core : u.coreAt k = s1.coreAt k) :
    s.trigger k a act = (u.modCore k fun c => { c with msgS := st }).movedOn k w (s1.coreAt k).pc 2 :=
  next.trigger_done acts (by rw [State.modCore_coreAt_self, core])

/-- The end of a trigger's move is the core's alone. -/
theorem State.movedOn_ports (u : State) (k : CoreId) (f : Core → Core) (w : Word) (pc cy : Nat) :
    ((u.modCore k f).movedOn k w pc cy).ports = u.ports := rfl

theorem State.movedOn_port (u : State) (k : CoreId) (f : Core → Core) (w : Word) (pc cy : Nat) (q : PortId) :
    ((u.modCore k f).movedOn k w pc cy).port q = u.port q := rfl

theorem State.movedOn_ring (u : State) (k : CoreId) (f : Core → Core) (w : Word) (pc cy n : Nat) :
    ((u.modCore k f).movedOn k w pc cy).ring n = u.ring n := rfl

theorem State.movedOn_evt (u : State) (k : CoreId) (w st : Word) (pc : Nat) :
    (((u.modCore k fun c => { c with evS := st }).movedOn k w pc 2).coreAt k).evS = st ∧
      (((u.modCore k fun c => { c with evS := st }).movedOn k w pc 2).coreAt k).pc = pc + 4 := by
  unfold State.movedOn State.movedTo
  simp

theorem State.movedOn_msg (u : State) (k : CoreId) (w st : Word) (pc : Nat) :
    (((u.modCore k fun c => { c with msgS := st }).movedOn k w pc 2).coreAt k).msgS = st ∧
      (((u.modCore k fun c => { c with msgS := st }).movedOn k w pc 2).coreAt k).pc = pc + 4 := by
  unfold State.movedOn State.movedTo
  simp

/-! ### A queued event (R302) -/

/-- An event goes to the end of its port's queue, with the cells it takes (R301, R303). -/
theorem State.enqueue_queue (s : State) (p : PortId) (e : QEv) :
    ((s.enqueue p e).port p).sc.q = (s.port p).sc.q ++ [{ e with store := s.storeFor p e.cells }] := by
  let t := s.modSc p fun c => { c with q := c.q ++ [{ e with store := s.storeFor p e.cells }] }
  have port : (s.enqueue p e).port p = t.port p :=
    (foldl_keeps (State.port · p) _ (fun s _ => s.unpoison_port _ _ _ p) _ _).trans (State.unpoison_port _ _ _ _ p)
  rw [port]
  exact congrArg (fun q : Port => q.sc.q) (s.modPort_port_self p _)

/-- A housekeeping event is queued to an empty queue that is not quarantined (R302). -/
theorem State.queueEv_housekeeping {p : PortId} {e : QEv} (cls : e.cls = .housekeeping) (free : (s.port p).sc.quar = false)
    (empty : (s.port p).sc.q = []) : ∃ l, ((s.queueEv p e).port p).sc.q = [{ e with store := l }] := by
  have queues : s.queueEv p e = s.arrive.enqueue p e := by
    unfold State.queueEv
    dsimp only
    rw [State.arrive_port, free, cls, empty]
    rfl
  refine ⟨s.arrive.storeFor p e.cells, ?_⟩
  rw [queues, State.enqueue_queue, State.arrive_port, empty, List.nil_append]

/-! ### Rings (R322–R329) -/

theorem State.raise_rings (s : State) (v : Nat) : (s.raise v).rings = s.rings := by
  unfold State.raise
  split
  · rfl
  · split <;> rfl

/-- A ring takes an entry behind those it holds, under the PHASE of its place (R324, R325). -/
theorem State.ringWrite_out {n : Nat} (real : n < 14) (s : State) (e : OutEntry) (now : Bool) :
    ((s.ringWrite n e now).ring n).out = (s.ring n).out ++ [((s.ring n).phase, e)] := by
  have raise (t : State) (v : Nat) : (t.raise v).ring n = t.ring n := congrArg (fun l => l[n]?.getD ringReset) (t.raise_rings v)
  unfold State.ringWrite
  dsimp only
  rw [apply_ite (fun t : State => (t.ring n).out), raise, ite_self, s.modRing_ring real, if_pos rfl]
  exact (apply_ite Ring.out _ _ _).trans (ite_self _)

theorem State.drained_ring {n j : Nat} (real : n < 14) (other : n ≠ j) (s : State) : (s.drained n).ring j = s.ring j := by
  unfold State.drained
  split
  · rw [s.modRing_ring real, if_neg other]
  · rfl

end Sys2Proof.Machine
end

section
/-! SUPPORT. The EVT and MSG triggers: what each makes of the state the core reads its source in (R68, R167, R289, R290, R339). -/
namespace Sys2Proof.Machine
set_option Elab.async false

variable {s s1 : State} {k : CoreId} {p : PortId} {w b : Word}

/-! ### EVT (R289) -/

/-- EVT.POST.T to a port whose queue is empty and not quarantined: the event is queued there (R289, R302). -/
theorem execEvtPostT_queues (next : s.nextMove k 0x711 w b s1) (dest : (s1.coreAt k).evTo = BitVec.ofNat 32 p.val)
    (free : (s1.port p).sc.quar = false) (empty : (s1.port p).sc.q = []) : ∃ u e, execEvtPostT k s = .next u ∧ (u.coreAt k).evS = 0#32 ∧
      (u.port p).sc.q = [e] ∧ e.cls = .housekeeping ∧ e.code = 1 ∧ e.data = b ∧ (u.coreAt k).pc = (s1.coreAt k).pc + 4 := by
  let e : QEv := { mkEv s1 .housekeeping 1 b with tag := BitVec.ofNat 16 (((s1.coreAt k).port.map (·.val)).getD 0) }
  have small : p.val < 2 ^ 32 := p.isLt.trans (by decide)
  have num : (s1.coreAt k).evTo.toNat = p.val := by rw [dest, BitVec.toNat_ofNat, Nat.mod_eq_of_lt small]
  have here (h : (s1.coreAt k).evTo.toNat < 192) : (⟨(s1.coreAt k).evTo.toNat, h⟩ : PortId) = p := Fin.ext num
  obtain ⟨l, queue⟩ := State.queueEv_housekeeping (e := e) rfl free empty
  have core : (s1.queueEv p e).coreAt k = s1.coreAt k := (s1.queueEv_frame p e).coreAt k
  refine ⟨_, { e with store := l }, congrArg Host.Outcome.next (next.trigger_evt (u := s1.queueEv p e) ?_ core),
    (State.movedOn_evt ..).1, queue, rfl, rfl, rfl, (State.movedOn_evt ..).2⟩
  dsimp only
  rw [dif_pos (by rw [num]; exact p.isLt), here, if_neg (by rw [free, empty]; decide)]
  rfl

/-- EVT.POST.T to a number beyond P191 is BAD (R289). -/
theorem execEvtPostT_bad (next : s.nextMove k 0x711 w b s1) (beyond : 192 ≤ (s1.coreAt k).evTo.toNat) :
    execEvtPostT k s = .next ((s1.modCore k fun c => { c with evS := 4#32 }).movedOn k w (s1.coreAt k).pc 2) :=
  congrArg Host.Outcome.next (next.trigger_evt (dif_neg (Nat.not_lt.mpr beyond)) rfl)

/-- EVT.HEVT.T is done at once, whether the event is written, held back or dropped (R289, R343, R344). -/
theorem execEvtHevtT_done (next : s.nextMove k 0x712 w b s1) : ∃ u, execEvtHevtT k s = .next u ∧ (u.coreAt k).evS = 0#32 ∧
    (u.coreAt k).pc = (s1.coreAt k).pc + 4 ∧ u.ports = s1.ports := by
  let body := EvtBody.firmware (s1.coreAt k).hw
  let n := bits (((s1.coreAt k).hw[1]?).getD 0#32) 0 16
  let at_ : Option PortId := if h : n < 192 then some ⟨n, h⟩ else none
  let u := if 1 ≤ body.code && body.code ≤ 0x19 then s1.postEvt at_ body else s1
  have frame : State.Frame (fun _ => False) s1 u := .ite (s1.postEvt_frame at_ body) (.refl _ s1)
  exact ⟨_, congrArg Host.Outcome.next (next.trigger_evt (u := u) rfl (frame.coreAt k)), (State.movedOn_evt ..).1, (State.movedOn_evt ..).2,
    frame.ports⟩

/-- EVT.HCPL.T while the host domain is fenced (R289). -/
theorem execEvtHcplT_fenced (next : s.nextMove k 0x713 w b s1) (fenced : s1.hostFenced = true) :
    execEvtHcplT k s = .next ((s1.modCore k fun c => { c with evS := 3#32 }).movedOn k w (s1.coreAt k).pc 2) :=
  congrArg Host.Outcome.next (next.trigger_evt (if_pos fenced) rfl)

/-- EVT.HCPL.T for host ring 0, with room in its CPL ring: the record stands there, and nothing that waited is owed by it (R339). -/
theorem execEvtHcplT_writes {ws : List Word} {w1 w2 : Word} (next : s.nextMove k 0x713 w b s1) (open_ : s1.hostFenced = false)
    (hw : (s1.coreAt k).hw = ws) (word1 : ws[1]? = some w1) (word2 : ws[2]? = some w2) (ring : bits w2 0 8 = 0) (code : bits w1 16 8 ≤ 15)
    (room : (s1.ring 2).room = true) (none : s1.link.waiting = []) : ∃ u, execEvtHcplT k s = .next u ∧ (u.coreAt k).evS = 0#32 ∧
      (u.ring 2).out = (s1.ring 2).out ++ [((s1.ring 2).phase, .record ws)] ∧ u.ports = s1.ports := by
  let t := s1.modLink fun l => { l with waiting := l.waiting.filter fun x => ! (x.ring == 0 && x.idx == BitVec.ofNat 16 (bits w2 16 16)) }
  let u := (t.ringWrite 2 (.record ws) false).drained 0
  have frame : State.Frame (fun _ => False) s1 u := ((s1.modLink_frame _).trans (t.ringWrite_frame _ _ _)).trans (State.drained_frame _ _)
  refine ⟨_, congrArg Host.Outcome.next (next.trigger_evt (u := u) ?_ (frame.coreAt k)), (State.movedOn_evt ..).1, ?_,
    (State.movedOn_ports ..).trans frame.ports⟩
  · have listed : (! isHostRing 0 || decide (bits w1 16 8 > 15)) = false := by
      rw [decide_eq_false (Nat.not_lt.mpr code)]
      rfl
    simp only [hw, word1, word2, Option.getD_some, ring, none, open_, listed, show cplRing 0 = 2 from rfl, room]
    rfl
  · rw [State.movedOn_ring, State.drained_ring (by decide) (by decide)]
    exact State.ringWrite_out (by decide) t _ _

/-! ### MSG.SEND (R68, R290) -/

theorem within_iff (v lo hi : Nat) : within v lo hi = true ↔ lo ≤ v ∧ v ≤ hi := by
  unfold within
  simp

/-- MSG.SEND.T of a length outside 2 to 264 is BAD. -/
theorem execMsgSendT_bad (next : s.nextMove k 0x810 w b s1) (port : (s1.coreAt k).port = some p) (length : b.toNat < 2 ∨ 264 < b.toNat) :
    execMsgSendT k s = .next ((s1.modCore k fun c => { c with msgS := 4#32 }).movedOn k w (s1.coreAt k).pc 2) := by
  have long : within b.toNat 2 264 = false := Bool.eq_false_iff.mpr fun h => by
    rw [within_iff] at h
    omega
  refine congrArg Host.Outcome.next (next.trigger_msg ?_ rfl)
  dsimp only
  rw [port, long]
  rfl

/-- MSG.SEND.T to SOP on a port that is not attached is REFUSED. -/
theorem execMsgSendT_refused (next : s.nextMove k 0x810 w b s1) (port : (s1.coreAt k).port = some p) (low : 2 ≤ b.toNat) (high : b.toNat ≤ 264)
    (flags : (s1.coreAt k).txFlags = 0#32) (open_ : s1.portFenced p = false) (unattached : (s1.port p).cc.state ≠ .attached) :
    execMsgSendT k s = .next ((s1.modCore k fun c => { c with msgS := 2#32 }).movedOn k w (s1.coreAt k).pc 2) := by
  have fits : within b.toNat 2 264 = true := (within_iff ..).mpr ⟨low, high⟩
  refine congrArg Host.Outcome.next (next.trigger_msg ?_ rfl)
  dsimp only
  rw [port, flags]
  dsimp only
  rw [fits, if_neg (by decide), open_, if_neg Bool.false_ne_true, if_pos (by simp [unattached])]
  rfl

/-- MSG.SEND.T of an attached port with the TX buffer free: the message of the TX area stands in it (R68). -/
theorem execMsgSendT_sends (next : s.nextMove k 0x810 w b s1) (port : (s1.coreAt k).port = some p) (low : 2 ≤ b.toNat) (high : b.toNat ≤ 264)
    (flags : (s1.coreAt k).txFlags = 0#32) (open_ : s1.portFenced p = false) (attached : (s1.port p).cc.state = .attached)
    (free : (s1.port p).pd.tx = none) (sound : s1.poisoned k .bench ((s1.seg k 5).base + 0x202) b.toNat = none) :
    ∃ u, execMsgSendT k s = .next u ∧ (u.coreAt k).msgS = 0#32 ∧ (u.coreAt k).pc = (s1.coreAt k).pc + 4 ∧
      (u.port p).pd.tx = some (rawMsg .sop (s1.memReads .bench ((s1.seg k 5).base + 0x202) b.toNat) false false .none .none) ∧
      (u.port p).path = (s1.port p).path := by
  let m := rawMsg .sop (s1.memReads .bench ((s1.seg k 5).base + 0x202) b.toNat) false false .none .none
  let t := s1.accessFix k .bench ((s1.seg k 5).base + 0x202) b.toNat
  obtain ⟨f, fixed⟩ := s1.softFix_ref (SegMem.bench.ecc k) (eccOff .bench ((s1.seg k 5).base + 0x202)) b.toNat
  have same : t = s1.modRef f := fixed
  have core : (t.toTx p m).coreAt k = s1.coreAt k := by
    rw [(t.toTx_frame p m).coreAt, same]
    rfl
  have fits : within b.toNat 2 264 = true := (within_iff ..).mpr ⟨low, high⟩
  refine ⟨_, congrArg Host.Outcome.next (next.trigger_msg (u := t.toTx p m) ?_ core), (State.movedOn_msg ..).1, (State.movedOn_msg ..).2, ?_, ?_⟩
  · dsimp only
    rw [port, flags]
    dsimp only
    rw [fits, if_neg (by decide), open_, if_neg Bool.false_ne_true, if_neg (by simp [attached, bits]), free, if_neg (by decide), sound]
    rfl
  · rw [State.movedOn_port, State.toTx_port]
  · rw [State.movedOn_port, State.toTx_port, same]
    rfl

/-! ### MSG.POST (R167, R290) -/

/-- MSG.POST.T of purpose 3, or of contract kind 3, is BAD. -/
theorem execMsgPostT_bad (next : s.nextMove k 0x812 w b s1) (port : (s1.coreAt k).port = some p) (bad : bits b 0 4 = 3 ∨ bits b 6 2 = 3) :
    execMsgPostT k s = .next ((s1.modCore k fun c => { c with msgS := 4#32 }).movedOn k w (s1.coreAt k).pc 2) := by
  refine congrArg Host.Outcome.next (next.trigger_msg ?_ rfl)
  dsimp only
  rw [port]
  refine if_pos ?_
  rcases bad with code | kind
  · rw [code]
    simp [postPurpose]
  · simp [kind]

/-- MSG.POST.T of a fixed transition that the idle sequencer takes: its table runs with the target and limit given (R167). -/
theorem execMsgPostT_fixed (next : s.nextMove k 0x812 w b s1) (port : (s1.coreAt k).port = some p) (code : bits b 0 4 = 1) (kind : bits b 6 2 = 0)
    (hears : s1.tileDeaf p = false) (free : (s1.port p).path.safeHeld = false) (idle : (s1.port p).path.run = false)
    (empty : (s1.port p).path.queued = none) (table : (s1.port p).cc.noTable 1 = false) (low : 3300 ≤ bits b 20 12 * 20)
    (high : bits b 20 12 * 20 ≤ 50000) (rom : (s1.tileCfg (tileOf p)).stOvr = 0#16) :
    ∃ u, execMsgPostT k s = .next u ∧ (u.coreAt k).msgS = 0#32 ∧ (u.port p).path.run = true ∧ (u.port p).path.table = 1 ∧
      (u.port p).path.post.mv = bits b 20 12 * 20 ∧ (u.port p).path.post.ma = bits b 8 12 * 5 ∧ (u.port p).path.gate = (s1.port p).path.gate := by
  let r : Post := { purpose := .fixed, mv := bits b 20 12 * 20, ma := bits b 8 12 * 5, kind := .fixed, rp := .dflt,
                    minMv := (s1.port p).path.regMin }
  have one : s1.tableFor p .fixed = 1 := State.tableFor_rom _ rom
  have takes : s1.takesPost p r := State.takesPost.of_free hears free low high (by rw [one]; exact table)
  obtain ⟨path, -⟩ := takes.post_idle idle empty
  refine ⟨_, congrArg Host.Outcome.next (next.trigger_msg (u := s1.post p r) ?_ ((s1.post_frame p r).coreAt k)), (State.movedOn_msg ..).1, ?_⟩
  · dsimp only
    rw [port]
    dsimp only
    rw [code, kind, if_neg (by decide), State.portFenced_of_hears hears]
    rfl
  · rw [State.movedOn_port, path]
    exact ⟨rfl, one, rfl, rfl, rfl⟩

/-- MSG.POST.T of purpose 0xF continues the post: an entry that waits on it succeeds (R161, R290). -/
theorem execMsgPostT_continues (next : s.nextMove k 0x812 w b s1) (port : (s1.coreAt k).port = some p) (code : bits b 0 4 = 0xF)
    (kind : bits b 6 2 ≠ 3) (open_ : s1.portFenced p = false) : execMsgPostT k s =
      .next (((s1.msgEvent p 1).modCore k fun c => { c with msgS := 0#32 }).movedOn k w (s1.coreAt k).pc 2) := by
  refine congrArg Host.Outcome.next (next.trigger_msg ?_ ((s1.msgEvent_frame p 1).coreAt k))
  dsimp only
  rw [port]
  dsimp only
  rw [code, if_neg (by simp [kind]), open_]
  rfl

theorem State.msgEvent_waits {n : Nat} (waits : s.stepWaits p) (wait : seWait (s.stepEntryOf p) = 7) (event : seThr (s.stepEntryOf p) = n) :
    s.msgEvent p n = s.stepOk p (s.stepEntryOf p) := by
  obtain ⟨run, waiting, hears⟩ := waits
  exact if_pos (by simp [run, waiting, hears, wait, event])

/-! ### MSG.HRST (R67, R167, R290) -/

/-- MSG.HRST.T of an attached port: Hard_Reset goes out, and counts. -/
theorem execMsgHrstT_resets (next : s.nextMove k 0x813 w b s1) (port : (s1.coreAt k).port = some p) (open_ : s1.portFenced p = false)
    (attached : (s1.port p).cc.state = .attached) : ∃ u, execMsgHrstT k s = .next u ∧ (u.coreAt k).msgS = 0#32 ∧ (u.port p).isHardReset ∧
      (u.port p).pol.hardResets = (s1.port p).pol.hardResets + 1 := by
  obtain ⟨h, a, r, x, y, m, e, left⟩ := s1.hardResetSent_port p .hardResetSent false
  refine ⟨_, congrArg Host.Outcome.next (next.trigger_msg (u := s1.hardResetSent p .hardResetSent false) ?_
    ((s1.hardResetSent_frame p _ _).coreAt k)), (State.movedOn_msg ..).1, ?_⟩
  · rw [port]
    dsimp only
    rw [open_, if_neg Bool.false_ne_true, if_neg (by simp [attached])]
    rfl
  · rw [State.movedOn_port, left]
    exact ⟨⟨rfl, rfl, rfl, rfl, rfl, rfl⟩, rfl⟩

/-- Settles O34: each trigger by what it makes of the state in which the core has read its source. -/
theorem evtAndMsgMoves : Obligations.EvtAndMsgMoves := by
  unfold Obligations.EvtAndMsgMoves
  intro k w b s s1
  refine ⟨fun p next dest free empty => execEvtPostT_queues next dest free empty, fun next beyond => execEvtPostT_bad next beyond,
    fun next => execEvtHevtT_done next, fun next fenced => execEvtHcplT_fenced next fenced,
    fun ws w1 w2 next open_ hw word1 word2 ring code room _ _ waits => execEvtHcplT_writes next open_ hw word1 word2 ring code room waits,
    fun p next port length => execMsgSendT_bad next port length,
    fun p next port low high flags open_ attached free sound => execMsgSendT_sends next port low high flags open_ attached free sound,
    fun p next port low high flags open_ unattached => execMsgSendT_refused next port low high flags open_ unattached,
    fun p next port code kind hears free idle empty table low high rom =>
      execMsgPostT_fixed next port code kind hears free idle empty table low high rom,
    fun p next port code kind open_ run waiting hears wait event more => ?_, fun p next port bad => execMsgPostT_bad next port bad,
    fun p next port open_ attached => execMsgHrstT_resets next port open_ attached⟩
  refine ⟨_, execMsgPostT_continues next port code kind open_, (State.movedOn_msg ..).1, ?_⟩
  rw [State.movedOn_port, State.msgEvent_waits ⟨run, waiting, hears⟩ wait event, State.stepOk_more more, State.modPath_eq,
    State.modPort_port_self]
  exact ⟨run, rfl, rfl, rfl, rfl⟩

end Sys2Proof.Machine
end

section
/-! SUPPORT. PORT_DISABLE ends what was fetched for its port before it, on whatever ring that came (R131, R332, R354). -/
namespace Sys2Proof.Machine
set_option Elab.async false

/-- A PD_SEND for port P000, fetched from ring 9. -/
def olderPdSend : Desc := ⟨9, 0#16, 0x10#8, 0#8, 1#16, 0#16, 0#16, []⟩

/-- A PORT_DISABLE of port P000, fetched from ring 0. -/
def laterDisable : Desc := ⟨0, 0#16, 0x02#8, 0#8, 2#16, 0#16, 0#16, []⟩

/-- Port P000, a bootstrap port, presents Rd; the PD_SEND for it has been fetched and has not started when its PORT_DISABLE comes. -/
def bootPortAddressed : State :=
  (State.reset.modPwr fun w => { w with fenced := 0#14 }).modLink fun l => { l with fetched := [olderPdSend, laterDisable] }

/-- The descriptors fetched and not started in the next state an outcome holds. -/
def fetchedAfter (o : Out) : Option (List Desc) :=
  match o with
  | .next u => some u.link.fetched
  | _ => none

theorem laterDisable_starts : bootPortAddressed.starts laterDisable 0x02 := by
  unfold State.starts
  decide +kernel

/-- The PD_SEND ends with the PORT_DISABLE: nothing fetched is left. -/
theorem portDisable_ends_older : fetchedAfter (exec (.portDisable laterDisable) bootPortAddressed) = some [] := by decide +kernel

/-- Refutes O38, in its clause on PORT_DISABLE of a bootstrap port: a descriptor of the port that an earlier entry of another ring brought
leaves the fetched ones with it (R131), so that they are not those of before less the PORT_DISABLE alone. -/
theorem not_portDescriptors : ¬ Obligations.PortDescriptors := by
  unfold Obligations.PortDescriptors
  rintro ⟨-, -, -, -, -, -, -, h, -⟩
  obtain ⟨u, run, -, -, -, fetched⟩ := h laterDisable 0 bootPortAddressed laterDisable_starts (by decide +kernel)
    (.inl (by decide +kernel)) (by decide +kernel)
  have left : fetchedAfter (.next u) = some [olderPdSend] := congrArg some (fetched.trans (by decide +kernel))
  rw [← run, portDisable_ends_older] at left
  cases left

end Sys2Proof.Machine
end

section
/-! SUPPORT. A Request judged row by row (R107). -/
namespace Sys2Proof.Machine
set_option Elab.async false

variable {q : Pol} {offered : List Word} {epr : Bool} {rdo pdo w : Word}

/-! ### The object that a Request names -/

/-- Position 0 names no object. -/
theorem judge_pos_zero (pos : bits rdo 28 4 = 0) : judge offered rdo = none := by
  unfold judge
  rw [pos]
  rfl

/-- A position at which no object stands, or the word 0, is refused. -/
theorem judge_no_object (none : (offered[bits rdo 28 4 - 1]?).getD 0#32 = 0#32) : judge offered rdo = .none := by
  unfold judge
  dsimp only
  rw [none, ite_self]
  rfl

theorem judge_fixed {mv ma : Nat} (pos : bits rdo 28 4 ≠ 0) (named : offered[bits rdo 28 4 - 1]? = some w) (object : w ≠ 0#32)
    (form : decodePdo w = .fixed mv ma) :
    judge offered rdo = if ma < bits rdo 10 10 * 10 then none else some ⟨.fixed, mv, bits rdo 10 10 * 10, ma, mv⟩ := by
  unfold judge
  simp [pos, named, object, form]

theorem judge_pps {lo hi ma : Nat} (pos : bits rdo 28 4 ≠ 0) (named : offered[bits rdo 28 4 - 1]? = some w) (object : w ≠ 0#32)
    (form : decodePdo w = .pps lo hi ma) : judge offered rdo =
      if bits rdo 9 12 * 20 < lo ∨ hi < bits rdo 9 12 * 20 ∨ ma < bits rdo 0 7 * 50 then none
      else some ⟨.pps, bits rdo 9 12 * 20, bits rdo 0 7 * 50, bits rdo 0 7 * 50, lo⟩ := by
  unfold judge
  simp [pos, named, object, form, or_assoc]

theorem judge_avs {lo hi pdp : Nat} (pos : bits rdo 28 4 ≠ 0) (named : offered[bits rdo 28 4 - 1]? = some w) (object : w ≠ 0#32)
    (form : decodePdo w = .avs lo hi pdp) : judge offered rdo =
      if bits rdo 9 12 * 25 < lo ∨ hi < bits rdo 9 12 * 25 ∨ bits rdo 9 12 * 25 % 100 ≠ 0 ∨
          pdp * 1000000 < bits rdo 9 12 * 25 * (bits rdo 0 7 * 50) then none
      else some ⟨.avs, bits rdo 9 12 * 25, bits rdo 0 7 * 50, bits rdo 0 7 * 50, lo⟩ := by
  unfold judge
  simp [pos, named, object, form, or_assoc]

/-! ### The form of the Request -/

/-- A Request of the other mode, or of an EPR position outside EPR mode, is refused. -/
theorem Pol.answer_bad_form (bad : q.epr ≠ epr ∨ q.epr = false ∧ 8 ≤ bits rdo 28 4) : q.answer epr rdo pdo = none := by
  unfold Pol.answer
  refine if_pos ?_
  rcases bad with mode | ⟨spr, high⟩
  · simp [mode]
  · simp [spr, high]

/-- An EPR_Request that copies another PDO than the one offered is refused. -/
theorem Pol.answer_bad_copy (named : q.acked[bits rdo 28 4 - 1]? = some w) (request : epr = true) (other : w ≠ pdo) :
    q.answer epr rdo pdo = none := by
  unfold Pol.answer
  dsimp only
  split
  · rfl
  · split
    · rfl
    · next copy =>
      refine judge_pos_zero ?_
      simpa [request, named, other] using copy

/-- What the object refuses is refused. -/
theorem Pol.answer_refused (refused : judge q.acked rdo = none) : q.answer epr rdo pdo = none := by
  unfold Pol.answer
  rw [refused]
  simp

/-- A Request of good form is judged by the object it names. -/
theorem Pol.answer_judged (mode : q.epr = epr) (spr : epr = false → bits rdo 28 4 < 8)
    (named : q.acked[bits rdo 28 4 - 1]? = some w) (copies : epr = true → w = pdo) : q.answer epr rdo pdo = judge q.acked rdo := by
  unfold Pol.answer
  dsimp only
  rw [if_neg, if_neg]
  · cases epr
    · simp
    · simp [named, copies rfl]
  · cases epr
    · have := spr rfl
      simp [mode]
      omega
    · simp [mode]

/-- Settles O9: the form of the Request first, then the object that it names. -/
theorem requestsJudgedByTheTable : Obligations.RequestsJudgedByTheTable := by
  unfold Obligations.RequestsJudgedByTheTable
  intro q epr rdo pdo
  refine ⟨fun pos => q.answer_refused (judge_pos_zero pos), fun beyond => q.answer_refused (judge_no_object ?_),
    fun zero => q.answer_refused (judge_no_object ?_), fun mode => q.answer_bad_form (.inl mode),
    fun spr high => q.answer_bad_form (.inr ⟨spr, high⟩), fun w named request other => Pol.answer_bad_copy named request other,
    fun w pos named object mode copies spr => ?_⟩
  · rw [List.getElem?_eq_none (by omega)]
    rfl
  · rw [zero]
    rfl
  · rw [Pol.answer_judged mode spr named copies]
    exact ⟨fun mv ma form => judge_fixed pos named object form, fun lo hi ma form => judge_pps pos named object form,
      fun lo hi pdp form => judge_avs pos named object form⟩

end Sys2Proof.Machine
end

section
/-! SUPPORT. What the policy's own answers to a lapse leave of a port: ERROR_RECOVERY, Soft_Reset, an offer that the device sends of its own
(R97, R103, R116, R117, R123). -/
namespace Sys2Proof.Machine
set_option Elab.async false

variable {s t : State} {p : PortId} {m : TxMsg}

/-! ### The policy runs -/

/-- A port whose policy runs is on a tile that is up (R97). -/
theorem State.hears_of_policyOn (on : s.policyOn p = true) : s.tileDeaf p = false := by
  unfold State.policyOn at on
  simp only [Bool.and_eq_true, Bool.not_eq_true'] at on
  exact on.1.1.2

theorem Port.txFree_iff (q : Port) : q.txFree = true ↔ q.pd.tx = none ∧ q.pol.flight = none := by
  simp [Port.txFree]

/-! ### ERROR_RECOVERY (R97, R117, R131) -/

/-- The stop of the message sequencer leaves all of its port but the sequencer, the list of answered messages and the event queue (R94). -/
theorem State.pdStop_port (s : State) (p : PortId) : ∃ d a c, (s.pdStop p).port p =
    { s.port p with pd := d, pol := { (s.port p).pol with answered := a }, sc := c } := by
  obtain ⟨h, a, c, held⟩ := s.reportHold_port p
  unfold State.pdStop
  dsimp only
  split
  · obtain ⟨e, queued⟩ := State.queueMsg_port ((s.reportHold p).modPd p _) p 4 0#32
    rw [queued, State.modPd_eq, State.modPort_port_self, held]
    exact ⟨_, a, e, rfl⟩
  · rw [State.modPd_eq, State.modPort_port_self, held]
    exact ⟨_, a, c, rfl⟩

/-- A request to the sequencer leaves the policy alone (R167). -/
theorem State.post_pol (s : State) (p : PortId) (r : Post) : ((s.post p r).port p).pol = (s.port p).pol := by
  obtain ⟨x, y, k, c, port⟩ := s.post_port p r
  rw [port]

/-- The policy in ERROR_RECOVERY: no contract, nothing to send, the count of Hard_Resets at 0 (R97, R117, R131). -/
def Pol.recovering (q : Pol) : Pol :=
  { q.clearContract with state := .errorRecovery, hardResets := 0, cable := .unknown, discRun := false, discTries := 0, outq := [],
                         flight := none, expect := .none, noResp := false, newOffer := false, eprDue := false, swapTake := false,
                         swapDue := false, swapTries := 0, swapHost := false }

theorem State.errorRecovery_pol (s : State) (p : PortId) (c : LostCause) :
    ∃ a, ((s.errorRecovery p c).port p).pol = { (s.port p).pol with answered := a }.recovering := by
  obtain ⟨e1, ended⟩ := s.endContract_port p c
  obtain ⟨r, rally⟩ := (s.endContract p c).rallyEnd_port p true
  obtain ⟨d, a, e2, stopped⟩ := ((s.endContract p c).rallyEnd p true).pdStop_port p
  refine ⟨a, ?_⟩
  unfold State.errorRecovery
  dsimp only
  rw [State.post_pol, State.modSb_eq, State.modPort_port_self, State.modPol_eq, State.modPort_port_self,
    (State.abortDescs_frame (P := fun _ => False) _ p _).others p id, stopped, rally, ended]
  rfl

/-- A Hard_Reset that is due beyond the count is ERROR_RECOVERY (R116, R117). -/
theorem State.hardReset_recovers (spent : ¬ s.mayHardReset p) (c : LostCause) (keep : Bool) :
    s.hardReset p c keep = s.errorRecovery p .errorRecovery := if_pos (Nat.not_lt.mp spent)

/-! ### Hard_Reset (R117, R122) -/

theorem State.hardReset_sends (may : s.mayHardReset p) (c : LostCause) (keep : Bool) : s.hardReset p c keep = s.hardResetSent p c keep :=
  if_neg (Nat.not_le.mpr may)

/-- Hard_Reset sent counts (R117). -/
theorem State.hardReset_counts (may : s.mayHardReset p) (c : LostCause) (keep : Bool) :
    ((s.hardReset p c keep).port p).pol.hardResets = (s.port p).pol.hardResets + 1 := by
  obtain ⟨h, a, r, x, y, k, e, port⟩ := s.hardResetSent_port p c keep
  rw [State.hardReset_sends may, port]
  rfl

/-- A request to the sequencer, before a table acts, leaves VCONN as it is (R167). -/
theorem State.post_vconn (s : State) (p : PortId) (r : Post) : ((s.post p r).port p).path.vconn = (s.port p).path.vconn := by
  have refused : ((s.sigSend p .refused).port p).path.vconn = (s.port p).path.vconn := by rw [State.sigSend_path]
  have starts (t : State) (n : Nat) : ((t.startTable p n r).port p).path.vconn = (t.port p).path.vconn := by rw [State.startTable_path]
  unfold State.post
  dsimp only
  split
  · rfl
  · split
    · exact refused
    · split
      · rw [starts, State.abandonTable_path]
      · split
        · exact refused
        · split
          · rw [State.modPath_eq, State.modPort_port_self]
          · exact starts s _

theorem State.hardResetLeft_path (s : State) (p : PortId) (c : LostCause) : ((s.hardResetLeft p c).port p).path = (s.port p).path := by
  have left : State.Keeps (·.path) s (((s.reportHold p).endContract p c).rallyEnd p true) :=
    (State.Keeps.reportHold (fun _ _ _ _ _ => rfl) (.refl _ s)).endContract.rallyEnd
  unfold State.hardResetLeft
  rw [State.modPort_port_self]
  exact left p

/-- VCONN stays on while Hard_Reset is sent (R122). -/
theorem State.hardReset_vconn (may : s.mayHardReset p) (c : LostCause) (keep : Bool) :
    ((s.hardReset p c keep).port p).path.vconn = (s.port p).path.vconn := by
  rw [State.hardReset_sends may]
  unfold State.hardResetSent
  dsimp only
  rw [State.modPd_eq, State.modPort_port_self]
  dsimp only
  rw [State.hardResetDone_eq, State.post_vconn, State.hardResetLeft_path, State.modPol_eq, State.modPort_port_self]
  dsimp only
  rw [(State.finish_frame (P := fun _ => False) s _ _ _ _).others p id]

/-! ### Soft_Reset (R68, R111, R116) -/

/-- A free TX buffer holds nothing whose report could lead to something (R68). -/
theorem Pol.moot_of_free {q : Pol} (free : q.flight = none) : q.moot = q := by
  unfold Pol.moot
  rw [free, Option.map_none, ← free]

/-- A port whose TX buffer is free keeps nothing in it, and nothing queued, when every sequence is left for a Soft_Reset (R116). -/
theorem State.softLeave_port (s : State) (p : PortId) (free : (s.port p).txFree = true) : ∃ r, (s.softLeave p).port p =
    { s.port p with
      rally := r, pol := { (s.port p).pol with state := .softReset, outq := [], expect := .none, eprEntry := 0, swapDue := false } } := by
  obtain ⟨-, flight⟩ := (Port.txFree_iff _).mp free
  unfold State.softLeave
  rw [State.modPort_port_self, Pol.moot_of_free flight]
  exact ⟨_, rfl⟩

theorem State.softLeave_frame (s : State) (p : PortId) : State.Frame (· = p) s (s.softLeave p) := s.modPort_frame p _ id

/-- After a Soft_Reset received, Accept goes out (R116, R125). -/
theorem State.softLeave_send (hears : s.tileDeaf p = false) (free : (s.port p).txFree = true) (table : (s.port p).pd.table ≠ .hold)
    (reply : m.amsStart = false) : (s.softLeave p).send p m = (s.softLeave p).toTx p m := by
  obtain ⟨r, left⟩ := s.softLeave_port p free
  obtain ⟨tx, flight⟩ := (Port.txFree_iff _).mp free
  exact State.send_takes (((s.softLeave_frame p).tileDeaf p).trans hears) (by rw [left]; exact ⟨table, tx, flight, rfl⟩) (.inl reply)

/-- Soft_Reset goes out at once, whatever sequence it ends, and the policy is in SOFT_RESET (R97, R116, R127). -/
theorem State.softReset_port (hears : s.tileDeaf p = false) (free : (s.port p).txFree = true) (table : (s.port p).pd.table ≠ .hold) :
    ((s.softReset p).port p).pol.state = .softReset ∧ ((s.softReset p).port p).pol.eprEntry = 0 ∧
      ((s.softReset p).port p).pd.tx = some (ctlMsg .softReset .acceptSoft).ams := by
  let t := (s.softLeave p).modPd p fun q => { q with txId0 := 0, rxId0 := none }
  obtain ⟨r, left⟩ := s.softLeave_port p free
  obtain ⟨tx, flight⟩ := (Port.txFree_iff _).mp free
  have frame : State.Frame (· = p) s t := (s.softLeave_frame p).trans (State.modPd_frame _ p _)
  have port : t.port p = { (s.softLeave p).port p with pd := { ((s.softLeave p).port p).pd with txId0 := 0, rxId0 := none } } :=
    State.modPort_port_self _ p _
  have sent : s.softReset p = t.toTx p (ctlMsg .softReset .acceptSoft).ams :=
    State.send_takes ((frame.tileDeaf p).trans hears) (by rw [port, left]; exact ⟨table, tx, flight, rfl⟩) (.inr rfl)
  rw [sent, State.toTx_port, port, left]
  exact ⟨rfl, rfl, rfl⟩

/-! ### Offers of the device's own (R97, R103, R123, R127) -/

/-- No sequence is in progress for a message to SOP of a port in SEND_CAPS that awaits nothing, with no EPR entry and no VDM under way (R127). -/
theorem State.seqBusy_sendCaps (state : (s.port p).pol.state = .sendCaps) (expect : (s.port p).pol.expect = .none)
    (entry : (s.port p).pol.eprEntry = 0) (rally : (s.port p).rally.req = .none) : s.seqBusy p m = false := by
  unfold State.seqBusy
  dsimp only
  rw [state, expect, entry, rally]
  simp [Expect.open]

/-- An offer of the device's own starts a sequence; with none in progress it is in the TX buffer, remembered as sent. -/
theorem State.sendOffer_own {epr : Bool} (hears : s.tileDeaf p = false) (takes : (s.port p).takes) (offers : (s.buildOffer p).spr ≠ [])
    (holds : (s.port p).holdsAlloc = true) (entry : (s.port p).pol.eprEntry = 0) (rally : (s.port p).rally.req = .none) :
    ((s.sendOffer p epr false).port p).pd.tx = some ((s.buildOffer p).msg (epr || (s.port p).pol.eprDue) .request).ams ∧
      ((s.sendOffer p epr false).port p).pol.eprEntry = 0 := by
  let o := s.buildOffer p
  let e := epr || (s.port p).pol.eprDue
  let ws := if e then o.epr else o.spr
  let u := s.modPol p fun q => { q with state := .sendCaps, expect := .none }
  let t := u.modPol p fun q =>
    { q with sent := ws, offN := ws.length, offLimit := cableLimit q.cable, offEpr := e, withheld := o.held, offPdp := offerPower ws,
             newOffer := false, eprDue := false, withdrawn := (u.profileWords p).filter (u.feedHeld p),
             live := (u.profileWords p).filter fun w => ! u.feedHeld p w }
  have port : t.port p = { s.port p with pol := { (s.port p).pol with
      state := .sendCaps, expect := .none, sent := ws, offN := ws.length, offLimit := cableLimit (s.port p).pol.cable, offEpr := e,
      withheld := o.held, offPdp := offerPower ws, newOffer := false, eprDue := false, withdrawn := (u.profileWords p).filter (u.feedHeld p),
      live := (u.profileWords p).filter fun w => ! u.feedHeld p w } } := by
    simp only [t, u, State.modPol_eq, State.modPort_port_self]
  have goes : s.sendOffer p epr false = t.send p (o.msg e .request).ams := by
    unfold State.sendOffer
    dsimp only
    rw [if_neg (by simpa using takes.1), if_neg (by simp [offers]), if_neg (by simp [holds]), if_neg (by simpa using offers)]
    rfl
  have frame : State.Frame (· = p) s t := (s.modPol_frame p _).trans (State.modPol_frame _ p _)
  have sent : t.send p (o.msg e .request).ams = t.toTx p (o.msg e .request).ams :=
    State.send_takes ((frame.tileDeaf p).trans hears) (by rw [port]; exact takes)
      (.inr (State.seqBusy_sendCaps (by rw [port]) (by rw [port]) (by rw [port]; exact entry) (by rw [port]; exact rally)))
  rw [goes, sent, State.toTx_port, port]
  exact ⟨rfl, entry⟩

end Sys2Proof.Machine
end

section
/-! SUPPORT. The timer ladder, clause by clause (R113, R115–R117, R122). -/
namespace Sys2Proof.Machine
set_option Elab.async false

variable {s : State} {p : PortId} {m : TxMsg}

/-- A lapse of a keep-alive time under the contract it belongs to is Hard_Reset or ERROR_RECOVERY (R113, R115). -/
theorem execPpsKeepaliveExpiry_pps (on : s.policyOn p = true) (pps : (s.port p).pol.kind = .pps) :
    execPpsKeepaliveExpiry p s = .next (s.hardReset p .ppsTimeout false) :=
  (State.whenPolicy_on on).trans (if_pos (by simp [pps]))

theorem execEprKeepaliveExpiry_epr (on : s.policyOn p = true) (epr : (s.port p).pol.epr = true) :
    execEprKeepaliveExpiry p s = .next (s.hardReset p .eprKeepalive false) :=
  (State.whenPolicy_on on).trans (if_pos epr)

theorem execSenderResponseExpiry_acceptSoft (on : s.policyOn p = true) (expect : (s.port p).pol.expect = .acceptSoft) :
    execSenderResponseExpiry p s = .next (s.hardReset p .hardResetSent false) := by
  unfold execSenderResponseExpiry
  rw [State.whenPolicy_on on, expect]
  rfl

theorem execSenderResponseExpiry_request (on : s.policyOn p = true) (expect : (s.port p).pol.expect = .request) :
    execSenderResponseExpiry p s = .next (s.softReset p) := by
  unfold execSenderResponseExpiry
  rw [State.whenPolicy_on on, expect]
  rfl

theorem execVconnSourceExpiry_awaited (on : s.policyOn p = true) (swap : (s.port p).pol.state = .vconnSwap)
    (expect : (s.port p).pol.expect = .swapPsRdy) : execVconnSourceExpiry p s = .next (s.hardReset p .hardResetSent false) :=
  (State.whenPolicy_on on).trans (if_pos (by simp [swap, expect]))

theorem execNoResponseExpiry_silent (attached : (s.port p).cc.state = .attached) (seen : (s.port p).pol.pdSeen = true)
    (state : (s.port p).pol.state = .hardReset) (silent : (s.port p).pol.noResp = true) :
    execNoResponseExpiry p s = .next (s.hardReset p .hardResetSent false) := if_pos (by simp [attached, seen, state, silent])

/-- After nCapsCount offers and no PD message the port is TYPEC_ONLY (R116). -/
theorem execSourceCapResend_gives_up (on : s.policyOn p = true) (state : (s.port p).pol.state = .sendCaps) (free : (s.port p).txFree = true)
    (all : s.param 0x3000 ≤ (s.port p).pol.capsSends) (unseen : (s.port p).pol.pdSeen = false) :
    execSourceCapResend p s = .next (s.modPol p fun q => { q with state := .typecOnly }) := by
  unfold execSourceCapResend
  rw [State.whenPolicy_on on]
  dsimp only
  rw [if_pos (by simp [state, free]), if_pos (by simp [all, unseen])]
  rfl

/-- A partner that has sent a PD message is offered again, however often (R116). -/
theorem execSourceCapResend_again (on : s.policyOn p = true) (state : (s.port p).pol.state = .sendCaps) (free : (s.port p).txFree = true)
    (seen : (s.port p).pol.pdSeen = true) : execSourceCapResend p s = .next (s.sendOffer p (s.port p).pol.epr false) := by
  unfold execSourceCapResend
  rw [State.whenPolicy_on on]
  dsimp only
  rw [if_pos (by simp [state, free]), if_neg (by simp [seen])]
  rfl

/-- An offer that drew no GoodCRC counts as sent, and the policy stays where it is (R116). -/
theorem execTxFail_sourceCaps (flight : (s.port p).pol.flight = some m) (sop : m.sop = .sop) (kind : m.kind = .sourceCaps)
    (other : (s.port p).pol.state ≠ .transition) : ∃ u r, execTxFail p s = .next u ∧ u.port p =
      { s.port p with rally := r, pol := { (s.port p).pol with flight := none, capsSends := (s.port p).pol.capsSends + 1 } } := by
  let t := ((s.modPol p fun r => { r with flight := none }).finishPort p .txOk .timeout []).finishPort p .reply .timeout []
  let v := if m.expect == .vdm && (s.port p).rally.req == .hostVdm then
    (t.modRally p fun x => { x with req := .none }).finishPort p .vdmReply .timeout [] else t
  have told : t.port p = { s.port p with pol := { (s.port p).pol with flight := .none } } := by
    simp only [t, State.finishPort_port, State.modPol_eq, State.modPort_port_self]
  have port : ∃ r, v.port p = { s.port p with rally := r, pol := { (s.port p).pol with flight := .none } } := by
    simp only [v]
    split
    · rw [State.finishPort_port, State.modRally_eq, State.modPort_port_self, told]
      exact ⟨_, rfl⟩
    · exact ⟨_, told⟩
  obtain ⟨r, port⟩ := port
  have run : execTxFail p s = .next (v.modPol p fun r => { r with capsSends := r.capsSends + 1 }) := by
    unfold execTxFail
    dsimp only
    rw [flight]
    dsimp only
    rw [if_neg (by simp [sop]), if_neg (by simpa using other), if_pos (by simp [kind])]
    rfl
  refine ⟨_, r, run, ?_⟩
  rw [State.modPol_eq, State.modPort_port_self, port]

theorem execTxDiscarded_offer (flight : (s.port p).pol.flight = some m) (expects : m.expect = .request) : execTxDiscarded p s =
    .next ((s.modPol p fun r => { r with flight := none }).modPol p fun r =>
      { r with newOffer := true, eprDue := r.offEpr && ! r.epr, state := .sendCaps }) := by
  unfold execTxDiscarded
  dsimp only
  rw [flight]
  dsimp only
  rw [expects]
  rfl

/-- A protocol error in READY is answered with Soft_Reset (R116, R125). -/
theorem execUnexpectedMessage_softReset (on : s.policyOn p = true) (other : (s.port p).pol.state ≠ .transition) :
    execUnexpectedMessage p s = .next (s.softReset p) :=
  (State.whenPolicy_on on).trans (congrArg Host.Outcome.next (if_neg (by simpa using other)))

theorem execSoftReset_transition (on : s.policyOn p = true) (state : (s.port p).pol.state = .transition) :
    execSoftReset p s = .next (s.hardReset p .hardResetSent false) := (State.whenPolicy_on on).trans (if_pos (by simp [state]))

theorem execSoftReset_accepted (on : s.policyOn p = true) (other : (s.port p).pol.state ≠ .transition) :
    execSoftReset p s = .next ((s.softLeave p).send p (ctlMsg .accept .acceptSoftRx)) :=
  (State.whenPolicy_on on).trans (if_neg (by simpa using other))

/-- Settles O12: each rung by the lemma on its command, and what that step leaves of the port. -/
theorem timerLadder : Obligations.TimerLadder := by
  unfold Obligations.TimerLadder
  refine ⟨fun p s on expect may => ?_, fun p s on expect free table => ?_, fun p s on pps may => ?_, fun p s on epr may => ?_,
    fun p s on pps spent => ?_, fun p s on swap expect may => ?_, fun p s attached seen state silent may => ?_,
    fun p s on state free all unseen => execSourceCapResend_gives_up on state free all unseen,
    fun p s free state seen epr due offers holds entry rally => ?_, fun p m s flight sop kind other => ?_, fun p m s flight expects => ?_,
    fun p s => rfl, fun p s on state free table => ?_, fun p s on state free table => ?_, fun p s on state may => ?_⟩
  · exact ⟨_, execSenderResponseExpiry_acceptSoft on expect, State.hardReset_isHardReset may _ _, State.hardReset_counts may _ _⟩
  · obtain ⟨state, -, tx⟩ := State.softReset_port (State.hears_of_policyOn on) free table
    exact ⟨_, execSenderResponseExpiry_request on expect, state, tx⟩
  · exact ⟨_, execPpsKeepaliveExpiry_pps on pps, State.hardReset_isHardReset may _ _⟩
  · exact ⟨_, execEprKeepaliveExpiry_epr on epr, State.hardReset_isHardReset may _ _⟩
  · obtain ⟨a, pol⟩ := s.errorRecovery_pol p .errorRecovery
    refine ⟨_, (execPpsKeepaliveExpiry_pps on pps).trans (congrArg Host.Outcome.next (State.hardReset_recovers spent _ _)), ?_⟩
    rw [pol]
    exact ⟨rfl, rfl, rfl⟩
  · exact ⟨_, execVconnSourceExpiry_awaited on swap expect, State.hardReset_isHardReset may _ _, State.hardReset_vconn may _ _⟩
  · exact ⟨_, execNoResponseExpiry_silent attached seen state silent, State.hardReset_isHardReset may _ _, State.hardReset_counts may _ _⟩
  · obtain ⟨tx, -⟩ := State.sendOffer_own (epr := false) free.hears free.takes offers holds entry rally
    rw [due] at tx
    refine ⟨_, execSourceCapResend_again free.1 state free.2.2.1 seen, ?_⟩
    rw [epr]
    exact tx
  · obtain ⟨u, r, run, port⟩ := execTxFail_sourceCaps flight sop kind other
    refine ⟨u, run, ?_⟩
    rw [port]
    exact ⟨rfl, rfl, rfl, rfl⟩
  · refine ⟨_, execTxDiscarded_offer flight expects, ?_⟩
    rw [State.modPol_eq, State.modPort_port_self, State.modPol_eq, State.modPort_port_self]
    exact ⟨rfl, rfl, rfl⟩
  · exact ⟨_, execUnexpectedMessage_softReset on (by rw [state]; decide), State.softReset_port (State.hears_of_policyOn on) free table⟩
  · obtain ⟨r, left⟩ := s.softLeave_port p free
    refine ⟨_, (execSoftReset_accepted on (by rw [state]; decide)).trans
      (congrArg Host.Outcome.next (State.softLeave_send (State.hears_of_policyOn on) free table rfl)), ?_⟩
    rw [State.toTx_port, left]
    exact ⟨rfl, rfl, rfl⟩
  · exact ⟨_, execSoftReset_transition on state, State.hardReset_isHardReset may _ _⟩

end Sys2Proof.Machine
end

section
/-! SUPPORT. What an offer is built from, and what an offer that falls due does to the objects the feed voltage withholds (R98, R101, R102). -/
namespace Sys2Proof.Machine
set_option Elab.async false

variable {s t : State} {p : PortId} {m : TxMsg}

/-! ### What the objects of a port depend on -/

/-- The profile's objects come from the profile, the set of the host, the limit of R264 and the parameters (R98). -/
theorem State.profileWords_modPol (s : State) (p : PortId) (f : Pol → Pol)
    (same : (f (s.port p).pol).profile = (s.port p).pol.profile ∧ (f (s.port p).pol).custom = (s.port p).pol.custom) :
    (s.modPol p f).profileWords p = s.profileWords p := by
  obtain ⟨profile, custom⟩ := same
  unfold State.profileWords
  rw [State.modPol_eq, State.modPort_port_self]
  dsimp only
  rw [profile, custom]
  rfl

/-- What the feed voltage withholds comes from the lists of the last offer and the feed (R101, R102). -/
theorem State.feedHeld_modPol (s : State) (p : PortId) (f : Pol → Pol)
    (same : (f (s.port p).pol).withdrawn = (s.port p).pol.withdrawn ∧ (f (s.port p).pol).live = (s.port p).pol.live) :
    (s.modPol p f).feedHeld p = s.feedHeld p := by
  obtain ⟨withdrawn, live⟩ := same
  funext w
  unfold State.feedHeld
  rw [State.modPol_eq, State.modPort_port_self]
  dsimp only
  rw [withdrawn, live]
  rfl

/-- The step of an EPR entry has no part in an offer (R103). -/
theorem State.buildOffer_eprEntry (s : State) (p : PortId) (n : Nat) :
    (s.modPol p fun q => { q with eprEntry := n }).buildOffer p = s.buildOffer p := by
  let t := s.modPol p fun q => { q with eprEntry := n }
  have port : t.port p = { s.port p with pol := { (s.port p).pol with eprEntry := n } } := s.modPort_port_self p _
  have objs (a : Option Nat) : t.offerObjs p a = s.offerObjs p a := by
    unfold State.offerObjs
    rw [port, State.profileWords_modPol s p _ ⟨rfl, rfl⟩, State.feedHeld_modPol s p _ ⟨rfl, rfl⟩]
    rfl
  have alloc : t.offerAlloc p = s.offerAlloc p := by
    unfold State.offerAlloc
    rw [port]
  show t.buildOffer p = _
  unfold State.buildOffer
  rw [objs, alloc, port]

/-! ### What a Hard_Reset, ERROR_RECOVERY or an offer leaves of the policy -/

/-- The objects withdrawn by the feed voltage, and those that the last offer carried (R102). -/
def Pol.feedLists (q : Pol) : List Word × List Word := (q.withdrawn, q.live)

/-- The lists of R102 as an offer made now leaves them. -/
def State.offerLists (s : State) (p : PortId) : List Word × List Word :=
  ((s.profileWords p).filter (s.feedHeld p), (s.profileWords p).filter fun w => ! s.feedHeld p w)

theorem State.offerLists_modPol (s : State) (p : PortId) (f : Pol → Pol)
    (profile : (f (s.port p).pol).profile = (s.port p).pol.profile ∧ (f (s.port p).pol).custom = (s.port p).pol.custom)
    (lists : (f (s.port p).pol).withdrawn = (s.port p).pol.withdrawn ∧ (f (s.port p).pol).live = (s.port p).pol.live) :
    (s.modPol p f).offerLists p = s.offerLists p := by
  unfold State.offerLists
  rw [State.profileWords_modPol s p f profile, State.feedHeld_modPol s p f lists]

/-- Hard_Reset, or ERROR_RECOVERY in its place, ends EPR mode and leaves the lists of R102 (R117). -/
theorem State.hardReset_lists (s : State) (p : PortId) (c : LostCause) (keep : Bool) :
    ((s.hardReset p c keep).port p).pol.epr = false ∧ ((s.hardReset p c keep).port p).pol.feedLists = (s.port p).pol.feedLists := by
  by_cases may : s.mayHardReset p
  · obtain ⟨h, a, r, x, y, k, e, port⟩ := s.hardResetSent_port p c keep
    rw [State.hardReset_sends may, port]
    exact ⟨rfl, rfl⟩
  · obtain ⟨a, pol⟩ := s.errorRecovery_pol p .errorRecovery
    rw [State.hardReset_recovers may, pol]
    exact ⟨rfl, rfl⟩

theorem State.send_pol (s : State) (p : PortId) (m : TxMsg) : ((s.send p m).port p).pol.epr = (s.port p).pol.epr ∧
    ((s.send p m).port p).pol.feedLists = (s.port p).pol.feedLists := by
  have same := (State.GoesOn.refl s).send (p := p) (m := m) p
  have mode := congrArg (fun q : Port => q.pol.epr) same
  have lists := congrArg (fun q : Port => q.pol.feedLists) same
  exact ⟨mode, lists⟩

theorem State.offerGoes_pol (s : State) (p : PortId) (o : Offer) (epr : Bool) (m : TxMsg) :
    ((s.offerGoes p o epr m).port p).pol.epr = (s.port p).pol.epr ∧ ((s.offerGoes p o epr m).port p).pol.feedLists = s.offerLists p := by
  unfold State.offerGoes
  dsimp only
  obtain ⟨mode, lists⟩ := State.send_pol (s.modPol p _) p m
  rw [mode, lists, State.modPol_eq, State.modPort_port_self]
  exact ⟨rfl, rfl⟩

/-- Whatever becomes of an offer that is to be sent: EPR mode does not begin with it, and the lists of R102 are those of before or those
of an offer made now. -/
theorem State.sendOffer_pol (s : State) (p : PortId) (epr reply : Bool) :
    ((s.port p).pol.epr = false → ((s.sendOffer p epr reply).port p).pol.epr = false) ∧
      (((s.sendOffer p epr reply).port p).pol.feedLists = (s.port p).pol.feedLists ∨
        ((s.sendOffer p epr reply).port p).pol.feedLists = s.offerLists p) := by
  unfold State.sendOffer
  dsimp only
  split
  · rw [State.modPol_eq, State.modPort_port_self]
    exact ⟨id, .inl rfl⟩
  · split
    · obtain ⟨mode, lists⟩ := s.hardReset_lists p (if (s.port p).pol.profChange then .profileChange else .hardResetSent) false
      exact ⟨fun _ => mode, .inl lists⟩
    · split
      · rw [State.modPol_eq, State.modPort_port_self]
        exact ⟨id, .inl rfl⟩
      · split
        · rw [State.modPol_eq, State.modPort_port_self]
          exact ⟨id, .inl rfl⟩
        · obtain ⟨mode, lists⟩ := State.offerGoes_pol (s.modPol p fun q => { q with state := .sendCaps, expect := .none }) p (s.buildOffer p)
            (epr || (s.port p).pol.eprDue) (if reply then (s.buildOffer p).msg (epr || (s.port p).pol.eprDue) .request
              else ((s.buildOffer p).msg (epr || (s.port p).pol.eprDue) .request).ams)
          rw [State.offerLists_modPol s p _ ⟨rfl, rfl⟩ ⟨rfl, rfl⟩] at lists
          rw [mode, State.modPol_eq, State.modPort_port_self]
          exact ⟨id, .inr lists⟩

/-- A new offer that falls due leaves the lists of R102, or makes them anew as it goes out. -/
theorem State.offerChange_lists (s : State) (p : PortId) :
    ((s.offerChange p).port p).pol.feedLists = (s.port p).pol.feedLists ∨ ((s.offerChange p).port p).pol.feedLists = s.offerLists p := by
  let t := s.modPol p fun q => { q with newOffer := true }
  have lists : (t.port p).pol.feedLists = (s.port p).pol.feedLists := by
    simp only [t, State.modPol_eq, State.modPort_port_self]
    rfl
  have made : t.offerLists p = s.offerLists p := s.offerLists_modPol p _ ⟨rfl, rfl⟩ ⟨rfl, rfl⟩
  unfold State.offerChange
  dsimp only
  split
  · exact .inl rfl
  · show ((t.offerDue p).port p).pol.feedLists = _ ∨ ((t.offerDue p).port p).pol.feedLists = _
    unfold State.offerDue
    dsimp only
    split
    · obtain ⟨-, sent⟩ := t.sendOffer_pol p (t.port p).pol.epr false
      rwa [lists, made] at sent
    · exact .inl lists

/-! ### The objects the feed voltage withholds (R101, R102) -/

/-- An object of the profile that is withdrawn and no longer carried stays so when the offer that this makes due goes out. -/
theorem State.offerChange_withdrawn {w : Word} (object : w ∈ s.profileWords p) (withdrawn : w ∈ (s.port p).pol.withdrawn)
    (gone : ¬ w ∈ (s.port p).pol.live) : w ∈ ((s.offerChange p).port p).pol.withdrawn ∧ ¬ w ∈ ((s.offerChange p).port p).pol.live := by
  have held : s.feedHeld p w = true := by simp [State.feedHeld, withdrawn]
  rcases s.offerChange_lists p with h | h <;> (simp only [Pol.feedLists, State.offerLists, Prod.mk.injEq] at h; rw [h.1, h.2])
  · exact ⟨withdrawn, gone⟩
  · exact ⟨List.mem_filter.mpr ⟨object, held⟩, by simp [held]⟩

/-- An object that is no longer withdrawn, and that the feed carries, is not withdrawn by the offer that this makes due. -/
theorem State.offerChange_restored {w : Word} (carried : s.feedShort w = false) (restored : ¬ w ∈ (s.port p).pol.withdrawn) :
    ¬ w ∈ ((s.offerChange p).port p).pol.withdrawn := by
  have free : s.feedHeld p w = false := by simp [State.feedHeld, restored, carried]
  rcases s.offerChange_lists p with h | h <;> (simp only [Pol.feedLists, State.offerLists, Prod.mk.injEq] at h; rw [h.1])
  · exact restored
  · simp [free]

end Sys2Proof.Machine
end

section
/-! SUPPORT. VCONN_Swap, EPR mode, the sink's capabilities and the feed-voltage objects, clause by clause (R102, R106, R111–R114, R119–R121,
R124). -/
namespace Sys2Proof.Machine
set_option Elab.async false

variable {s : State} {p : PortId}

/-! ### VCONN_Swap (R120, R121, R124) -/

/-- A reply that goes out with a change of the policy that leaves its messages alone. -/
theorem State.policyFree.send_modPol {m : TxMsg} (free : s.policyFree p) (f : Pol → Pol)
    (same : (f (s.port p).pol).flight = (s.port p).pol.flight ∧ (f (s.port p).pol).outq = (s.port p).pol.outq) (reply : m.amsStart = false) :
    (s.modPol p f).send p m = (s.modPol p f).toTx p m := by
  obtain ⟨table, tx, flight, outq⟩ := free.takes
  refine free.send_after (s.modPol_frame p f) ?_ reply
  rw [State.modPol_eq, State.modPort_port_self]
  exact ⟨table, tx, same.1.trans flight, same.2.trans outq⟩

/-- A VCONN_Swap of the partner in READY, with nothing under way, that the device may follow is accepted (R120). -/
theorem execVconnSwap_accepts (may : s.mayAnswer p .vconnSwap) (state : (s.port p).pol.state = .ready) (entry : (s.port p).pol.eprEntry = 0)
    (allowed : s.param 0x5000 = 1) (admits : (s.port p).path.vconn = 0 → s.vcAdmits (tileOf p) = true) : execVconnSwap p s =
      .next ((s.modPol p fun r => { r with swapTake := (s.port p).path.vconn == 0, swapHost := false }).toTx p (ctlMsg .accept .acceptSwap)) := by
  obtain ⟨-, -, flight, -⟩ := may.1.takes
  have admitted : (s.param 0x5000 == 0 || ((s.port p).path.vconn == 0 && ! s.vcAdmits (tileOf p))) = false := by
    by_cases off : (s.port p).path.vconn = 0
    · simp [allowed, off, admits off]
    · simp [allowed, off]
  unfold execVconnSwap
  rw [may.partnerReq]
  dsimp only
  rw [flight, if_neg (by simp [Pol.isReady, state, entry]), admitted, if_neg Bool.false_ne_true]
  exact congrArg Host.Outcome.next (may.1.send_modPol _ ⟨rfl, rfl⟩ rfl)

/-- A tile whose VCONN budget admits no further port refuses to source VCONN (R120, R233). -/
theorem execVconnSwap_rejects (may : s.mayAnswer p .vconnSwap) (state : (s.port p).pol.state = .ready) (entry : (s.port p).pol.eprEntry = 0)
    (off : (s.port p).path.vconn = 0) (full : s.vcAdmits (tileOf p) = false) :
    execVconnSwap p s = .next (s.toTx p (ctlMsg .reject .none).amsLast) := by
  obtain ⟨-, -, flight, -⟩ := may.1.takes
  unfold execVconnSwap
  rw [may.partnerReq]
  dsimp only
  rw [flight, if_neg (by simp [Pol.isReady, state, entry]), if_pos (by simp [off, full])]
  exact congrArg Host.Outcome.next (may.1.send rfl)

/-- Wait goes out, and is noted for SWAP_HOLDOFF (R124). -/
theorem State.policyFree.send_wait (free : s.policyFree p) (k : MsgKind) :
    (s.modPol p fun r => { r with waited := some (k, s.aon) }).send p (ctlMsg .wait .none).amsLast =
      (s.modPol p fun r => { r with waited := some (k, s.aon) }).toTx p (ctlMsg .wait .none).amsLast :=
  free.send_modPol _ ⟨rfl, rfl⟩ rfl

/-- Outside READY a VCONN_Swap is answered Wait (R124). -/
theorem execVconnSwap_waits (may : s.mayAnswer p .vconnSwap) (busy : (s.port p).pol.isReady = false) : execVconnSwap p s =
    .next ((s.modPol p fun r => { r with waited := some (.vconnSwap, s.aon) }).toTx p (ctlMsg .wait .none).amsLast) := by
  unfold execVconnSwap
  rw [may.partnerReq]
  dsimp only
  rw [if_pos (by simp [busy])]
  exact congrArg Host.Outcome.next (may.1.send_wait _)

/-- A retry within SWAP_HOLDOFF of one answered Wait is answered Wait again (R124). -/
theorem State.partnerReq_early {k : MsgKind} {n : Nat} {f : Out} (free : s.policyFree p) (waited : (s.port p).pol.waited = some (k, n))
    (early : s.aon - n < holdoffCycles) : s.partnerReq p k f =
      .next ((s.modPol p fun r => { r with waited := some (k, s.aon) }).toTx p (ctlMsg .wait .none).amsLast) := by
  unfold State.partnerReq State.waitOr
  rw [State.whenPolicy_on free.1, waited, if_pos (by simp [early])]
  exact congrArg Host.Outcome.next (free.send_wait _)

/-- In READY, with no EPR entry to go first and no VDM or reply under way, VCONN_Swap may start (R127). -/
theorem State.seqBusy_vconnSwap (state : (s.port p).pol.state = .ready) (expect : (s.port p).pol.expect = .none)
    (rally : (s.port p).rally.req = .none) : s.seqBusy p (ctlMsg .vconnSwap .swapReply).ams = false := by
  unfold State.seqBusy
  dsimp only
  rw [state, expect, rally]
  simp [Expect.open, ctlMsg, TxMsg.ams]

/-- VCONN_Swap is sent again after Wait, to the same end (R121). -/
theorem execVconnSwapRetry_sends (free : s.policyFree p) (state : (s.port p).pol.state = .ready) (expect : (s.port p).pol.expect = .none)
    (rally : (s.port p).rally.req = .none) (tries : (s.port p).pol.swapTries = 1) (due : (s.port p).pol.swapDue = false) :
    execVconnSwapRetry p s = .next ((s.modPol p fun q =>
      { q with swapTake := (s.port p).pol.swapTake, swapHost := (s.port p).pol.swapHost, swapDue := false }).toTx p
        (ctlMsg .vconnSwap .swapReply).ams) := by
  obtain ⟨table, tx, flight, outq⟩ := free.takes
  let t := s.modPol p fun q => { q with swapTake := (s.port p).pol.swapTake, swapHost := (s.port p).pol.swapHost, swapDue := false }
  have port : t.port p = { s.port p with pol := { (s.port p).pol with
      swapTake := (s.port p).pol.swapTake, swapHost := (s.port p).pol.swapHost, swapDue := false } } := s.modPort_port_self p _
  have idle : (s.port p).pol.swapBusy = false := by simp [Pol.swapBusy, state, expect, due, flight, outq]
  have sent : t.send p (ctlMsg .vconnSwap .swapReply).ams = t.toTx p (ctlMsg .vconnSwap .swapReply).ams :=
    State.send_takes (((s.modPol_frame p _).tileDeaf p).trans free.hears) (by rw [port]; exact ⟨table, tx, flight, outq⟩)
      (.inr (State.seqBusy_vconnSwap (by rw [port]; exact state) (by rw [port]; exact expect) (by rw [port]; exact rally)))
  unfold execVconnSwapRetry
  rw [State.whenPolicy_on free.1]
  dsimp only
  rw [if_pos (by simp [Pol.isReady, state, expect, idle, tries])]
  exact congrArg Host.Outcome.next sent

/-- A demand that has risen changes of its port the scoreboard's record alone (R228). -/
theorem State.demandRose_port (s : State) (p : PortId) (n : Nat) : ∃ b, (s.demandRose p n).port p = { s.port p with sb := b } := by
  unfold State.demandRose
  split
  · exact ⟨_, s.modPort_port_self p _⟩
  · exact ⟨_, rfl⟩

theorem State.demandRose_frame (s : State) (p : PortId) (n : Nat) : State.Frame (· = p) s (s.demandRose p n) :=
  .ite (s.modSb_frame p _) (.refl _ s)

/-! ### EPR mode (R111–R114) -/

/-- EPR_Mode (Enter) in READY is acknowledged, with the sink's EPR power noted (R106, R111). -/
theorem execEprModeEnter_acknowledged {w : Nat} (may : s.mayAnswer p .eprMode) (state : (s.port p).pol.state = .ready)
    (rev3 : (s.port p).pd.rev3 = true) (entry : (s.port p).pol.eprEntry = 0) : ∃ u, execEprModeEnter p w s = .next u ∧
      (u.port p).pd.tx = some (objMsg .eprMode [eprModeWord 2 0] .enterAck) ∧ (u.port p).pol.eprPdp = some (w * 4) ∧
      (u.port p).pol.eprEntry = 1 := by
  let t := (s.modPol p fun r => { r with eprPdp := some (w * 4), eprEntry := 1 }).demandRose p (s.demandOf p)
  obtain ⟨b, port⟩ := (s.modPol p fun r => { r with eprPdp := some (w * 4), eprEntry := 1 }).demandRose_port p (s.demandOf p)
  rw [State.modPol_eq, State.modPort_port_self] at port
  have frame : State.Frame (· = p) s t := (s.modPol_frame p _).trans (State.demandRose_frame _ p _)
  have sent : t.send p (objMsg .eprMode [eprModeWord 2 0] .enterAck) = t.toTx p (objMsg .eprMode [eprModeWord 2 0] .enterAck) :=
    may.1.send_after frame (by simp only [t, State.modPol_eq, port]; exact may.1.takes) rfl
  refine ⟨t.toTx p (objMsg .eprMode [eprModeWord 2 0] .enterAck), ?_, State.toTx_tx _ p _, ?_⟩
  · unfold execEprModeEnter
    rw [may.partnerReq]
    dsimp only
    rw [if_pos (by simp [state, rev3, entry])]
    exact congrArg Host.Outcome.next sent
  · rw [State.toTx_port]
    simp only [t, State.modPol_eq, port, and_self]

theorem execEprModeExit_epr (on : s.policyOn p = true) (epr : (s.port p).pol.epr = true) : execEprModeExit p s =
    if (s.port p).pol.pos ≤ 7 then
      .next ((s.modPol p fun r => { r with epr := false, eprExit := false, eprEntry := 0, state := .ready }).sendOffer p false false)
    else .next (s.hardReset p .hardResetSent false) :=
  (State.whenPolicy_on on).trans (if_neg (by simp [epr]))

theorem execEprKeepalive_epr (free : s.policyFree p) (epr : (s.port p).pol.epr = true) :
    execEprKeepalive p s = .next (s.toTx p (extMsg .eprKeepAliveAck [4#8, 0#8] .none)) :=
  (State.whenPolicy_on free.1).trans ((if_pos epr).trans (congrArg Host.Outcome.next (free.send rfl)))

theorem execEprCapsSend_entered (on : s.policyOn p = true) (epr : (s.port p).pol.epr = true) (entry : (s.port p).pol.eprEntry = 4) :
    execEprCapsSend p s = .next ((s.modPol p fun r => { r with eprEntry := 0 }).sendOffer p true false) :=
  (State.whenPolicy_on on).trans (if_pos (by simp [epr, entry]))

/-! ### The sink's capabilities (R106) -/

/-- The sink's capabilities with the greatest power among them noted, of the mode they are for (R106). -/
def Pol.sinkNoted (q : Pol) (epr : Bool) (best : Nat) : Pol := if epr then { q with sinkEpr := some best } else { q with sinkMax := some best }

/-- Capabilities that end no wait are noted and passed; nothing else of the policy changes (R106, R125). -/
theorem execSinkCapabilities_noted (h : BitVec 16) (epr : Bool) (objs : List (BitVec 32)) (on : s.policyOn p = true)
    (expect : (s.port p).pol.expect = .none) (waits : s.nothingWaits p) : ∃ u l, execSinkCapabilities p h epr objs s = .next u ∧
      (u.port p).pol = { (s.port p).pol.sinkNoted epr ((objs.map fun w => quanta (sinkPower w)).foldl max 0) with answered := l } := by
  let best := (objs.map fun w => quanta (sinkPower w)).foldl max 0
  let t := (s.modPol p fun r => r.sinkNoted epr best).demandRose p (s.demandOf p)
  let x : Msg := ⟨.sop, if epr then .eprSinkCaps else .sinkCaps, h, wordBytes objs⟩
  obtain ⟨b, rose⟩ := (s.modPol p fun r => r.sinkNoted epr best).demandRose_port p (s.demandOf p)
  obtain ⟨l, passed⟩ := t.passMsg_port p x
  have risen : t.port p = { s.port p with sb := b, pol := (s.port p).pol.sinkNoted epr best } := by
    rw [show t.port p = _ from rose, State.modPol_eq, State.modPort_port_self]
  have port : (t.passMsg p x).port p =
      { s.port p with sb := b, pol := { (s.port p).pol.sinkNoted epr best with answered := l } } := by
    rw [passed, risen]
  have still : (t.passMsg p x).nothingWaits p := by
    unfold State.nothingWaits
    rw [port]
    cases epr <;> exact waits
  refine ⟨t.passMsg p x, l, ?_, by rw [port]⟩
  unfold execSinkCapabilities
  rw [State.whenPolicy_on on]
  dsimp only
  rw [if_neg (by simp [expect])]
  exact congrArg Host.Outcome.next still.goNext

/-! ### The feed-voltage objects (R101, R102) -/

section
variable {o : Fin 11} {w : Word} (object : (s.profileWords p)[o.val]? = some w)
include object

theorem execFeedObjectWithdraw_short (short : s.feedShort w = true) (live : w ∈ (s.port p).pol.live) : execFeedObjectWithdraw p o s =
    .next ((s.modPol p fun q => { q with withdrawn := q.withdrawn ++ [w], live := q.live.filter (· != w) }).offerChange p) := by
  unfold execFeedObjectWithdraw
  rw [object]
  exact if_pos (by simp [short, live])

theorem execFeedObjectWithdraw_carried (carried : s.feedShort w = false) : execFeedObjectWithdraw p o s = .next s := by
  unfold execFeedObjectWithdraw
  rw [object]
  exact if_neg (by simp [carried])

theorem execFeedObjectRestore_carried (carried : s.feedShort w = false) (withdrawn : w ∈ (s.port p).pol.withdrawn) :
    execFeedObjectRestore p o s = .next ((s.modPol p fun q => { q with withdrawn := q.withdrawn.filter (· != w) }).offerChange p) := by
  unfold execFeedObjectRestore
  rw [object]
  exact if_pos (by simp [carried, withdrawn])

theorem execFeedObjectRestore_short (short : s.feedShort w = true) : execFeedObjectRestore p o s = .next s := by
  unfold execFeedObjectRestore
  rw [object]
  exact if_neg (by simp [short])

end

/-- Settles O13: each message and each lapse by the lemma on its command; an object withdrawn or restored by what the offer that this makes
due does to the lists of R102. -/
theorem swapsEprAndDemand : Obligations.SwapsEprAndDemand := by
  unfold Obligations.SwapsEprAndDemand
  refine ⟨fun p s may state entry off allowed admits => ?_, fun p s may state entry on allowed => ?_,
    fun p s may state entry off full => execVconnSwap_rejects may state entry off full, fun p s may busy => ?_,
    fun p n s free waited early => ?_, fun p w s may state rev3 entry => execEprModeEnter_acknowledged may state rev3 entry,
    fun p s on epr high may => ?_, fun p s on epr low => ?_, fun p s free epr => execEprKeepalive_epr free epr,
    fun p s free epr entry offers holds rally => ?_, fun p h objs s on expect waits => ?_, fun p h objs s on expect waits => ?_,
    fun p s free state expect rally tries due => ?_, fun p o w s object short live => ?_,
    fun p o w s object carried => execFeedObjectWithdraw_carried object carried, fun p o w s object carried withdrawn => ?_,
    fun p o w s object short => execFeedObjectRestore_short object short⟩
  · refine ⟨_, execVconnSwap_accepts may state entry allowed fun _ => admits, ?_⟩
    rw [State.toTx_port, State.modPol_eq, State.modPort_port_self]
    exact ⟨rfl, by simp [off]⟩
  · refine ⟨_, execVconnSwap_accepts may state entry allowed fun off => absurd off on, ?_⟩
    rw [State.toTx_port, State.modPol_eq, State.modPort_port_self]
    exact ⟨rfl, by simp [on]⟩
  · refine ⟨_, execVconnSwap_waits may busy, ?_⟩
    rw [State.toTx_port, State.modPol_eq, State.modPort_port_self]
    exact ⟨rfl, rfl⟩
  · exact ⟨_, State.partnerReq_early free waited early, State.toTx_tx _ p _⟩
  · exact ⟨_, (execEprModeExit_epr on epr).trans (if_neg (Nat.not_le.mpr high)), State.hardReset_isHardReset may _ _⟩
  · obtain ⟨ends, -⟩ := State.sendOffer_pol (s.modPol p fun r => { r with epr := false, eprExit := false, eprEntry := 0, state := .ready })
      p false false
    exact ⟨_, (execEprModeExit_epr on epr).trans (if_pos low), ends (by rw [State.modPol_eq, State.modPort_port_self])⟩
  · let t := s.modPol p fun r => { r with eprEntry := 0 }
    have port : t.port p = { s.port p with pol := { (s.port p).pol with eprEntry := 0 } } := s.modPort_port_self p _
    have built : t.buildOffer p = s.buildOffer p := s.buildOffer_eprEntry p 0
    obtain ⟨tx, ended⟩ := State.sendOffer_own (s := t) (p := p) (epr := true) (((s.modPol_frame p _).tileDeaf p).trans free.hears)
      (by rw [port]; exact free.takes) (by rw [built]; exact offers) (by rw [port]; exact holds) (by rw [port]) (by rw [port]; exact rally)
    rw [built] at tx
    exact ⟨_, execEprCapsSend_entered free.1 epr entry, ended, tx⟩
  · obtain ⟨u, l, run, pol⟩ := execSinkCapabilities_noted h false objs on expect waits
    refine ⟨u, run, ?_⟩
    rw [pol]
    exact ⟨rfl, rfl, rfl⟩
  · obtain ⟨u, l, run, pol⟩ := execSinkCapabilities_noted h true objs on expect waits
    refine ⟨u, run, ?_⟩
    rw [pol]
    exact ⟨rfl, rfl, rfl⟩
  · refine ⟨_, execVconnSwapRetry_sends free state expect rally tries due, ?_⟩
    rw [State.toTx_port, State.modPol_eq, State.modPort_port_self]
    exact ⟨rfl, rfl⟩
  · have pol : (((s.modPol p fun q => { q with withdrawn := q.withdrawn ++ [w], live := q.live.filter (· != w) }).port p).pol) =
        { (s.port p).pol with withdrawn := (s.port p).pol.withdrawn ++ [w], live := (s.port p).pol.live.filter (· != w) } := by
      rw [State.modPol_eq, State.modPort_port_self]
    exact ⟨_, execFeedObjectWithdraw_short object short live, State.offerChange_withdrawn
      (by rw [State.profileWords_modPol s p _ ⟨rfl, rfl⟩]; exact List.mem_of_getElem? object) (by rw [pol]; simp) (by rw [pol]; simp)⟩
  · refine ⟨_, execFeedObjectRestore_carried object carried withdrawn, State.offerChange_restored carried ?_⟩
    rw [State.modPol_eq, State.modPort_port_self]
    simp

end Sys2Proof.Machine
end

section
/-! SUPPORT. The cable class of a Discover Identity ACK (R136). -/
namespace Sys2Proof.Machine
set_option Elab.async false

variable {vdos : List Word}

/-- The class that the Cable VDO of a passive or active cable gives (R136). -/
def cableVdoClass (v : Word) : CableClass :=
  if bits v 5 2 = 1 then .cable3A
  else if bits v 5 2 = 2 then if bit v 17 = true ∧ bits v 9 2 = 3 then .cableEpr else .cable5A
  else .malformed

theorem cableClass_vpd (vpd : bits (vdos[0]?.getD 0#32) 27 3 = 6) : cableClass vdos = .vpd := if_pos (by simp [vpd])

/-- A Product Type that is none of the three is malformed. -/
theorem cableClass_undefined (other : bits (vdos[0]?.getD 0#32) 27 3 ∉ [3, 4, 6]) : cableClass vdos = .malformed := by
  simp only [List.mem_cons, List.not_mem_nil, or_false, not_or] at other
  obtain ⟨passive, active, vpd⟩ := other
  exact (if_neg (by simpa using vpd)).trans (if_pos (by simp [passive, active]))

/-- A passive or active cable has the class of its Cable VDO; an ACK without one is malformed. -/
theorem cableClass_cable (cable : bits (vdos[0]?.getD 0#32) 27 3 ∈ [3, 4]) : cableClass vdos = (vdos[3]?.map cableVdoClass).getD .malformed := by
  simp only [List.mem_cons, List.not_mem_nil, or_false] at cable
  unfold cableClass
  dsimp only
  rw [if_neg (by rcases cable with h | h <;> simp [h]), if_neg (by rcases cable with h | h <;> simp [h])]
  cases vdos[3]? with
  | none => rfl
  | some v =>
    unfold cableVdoClass
    have small : bits v 5 2 < 4 := Nat.mod_lt _ (by decide)
    interval_cases current : bits v 5 2 <;> simp [current]

/-- Every ACK has a class (R136). -/
theorem cableClass_ne_unknown (vdos : List Word) : cableClass vdos ≠ .unknown := by
  by_cases vpd : bits (vdos[0]?.getD 0#32) 27 3 = 6
  · rw [cableClass_vpd vpd]; decide
  · by_cases cable : bits (vdos[0]?.getD 0#32) 27 3 ∈ [3, 4]
    · rw [cableClass_cable cable]
      cases vdos[3]? with
      | none => decide
      | some v =>
        show cableVdoClass v ≠ .unknown
        unfold cableVdoClass
        split_ifs <;> decide
    · rw [cableClass_undefined (by simp_all)]; decide

/-- Settles O14: the Product Type decides first, and for a passive or active cable the Cable VDO. -/
theorem cableClassFirstMatchingRow : Obligations.CableClassFirstMatchingRow := by
  unfold Obligations.CableClassFirstMatchingRow
  intro vdos
  refine ⟨cableClass_vpd, cableClass_undefined, fun cable short => ?_, fun cable v vdo => ?_, fun c => by cases c <;> decide,
    fun c => by cases c <;> decide⟩
  · rw [cableClass_cable cable, List.getElem?_eq_none (by omega)]
    rfl
  · have row : cableClass vdos = cableVdoClass v := by rw [cableClass_cable cable, vdo]; rfl
    rw [row]
    unfold cableVdoClass
    refine ⟨fun current => if_pos current, fun current epr volts => ?_, fun current lacks => ?_, fun current => ?_⟩
    · rw [current]; simp [epr, volts]
    · rw [current]; rcases lacks with h | h <;> simp [h]
    · rcases current with h | h <;> simp [h]

end Sys2Proof.Machine
end

section
/-! SUPPORT. A structured VDM of the device, and a port whose offers are never empty (R98, R101, R103, R134). -/
namespace Sys2Proof.Machine
set_option Elab.async false

variable {s t u : State} {p : PortId} {m : TxMsg} {x : Sop} {r : VdmReq} {h : Word} {l : List Word}

/-! ### A structured VDM goes out (R127, R134) -/

/-- The message of a structured VDM request of the device: a sequence of its own. -/
def vdmReqMsg (x : Sop) (h : Word) (l : List Word) : TxMsg := { vdmMsg x h l .vdm with amsStart := true, amsEnd := true }

/-- Rally mode with a request outstanding (R134). -/
def Rally.asked (q : Rally) (x : Sop) (r : VdmReq) (h : Word) (l : List Word) : Rally :=
  { q with req := r, reqHdr := h, reqVdos := l, reqSop := x, busyReq := .none, busyN := if q.busyReq == r then q.busyN else 0 }

theorem State.sendVdm_eq (s : State) (p : PortId) (x : Sop) (r : VdmReq) (h : Word) (l : List Word) :
    s.sendVdm p x r h l = (s.modRally p fun q => q.asked x r h l).send p (vdmReqMsg x h l) := rfl

/-- A message to the sequencer leaves all of its port but the sequencer and what the policy has queued and under way. -/
theorem State.send_port (s : State) (p : PortId) (m : TxMsg) : ∃ d f o, (s.send p m).port p =
    { s.port p with pd := d, pol := { (s.port p).pol with flight := f, outq := o } } := by
  unfold State.send
  split
  · exact ⟨_, _, _, rfl⟩
  · split
    · exact ⟨_, _, (s.port p).pol.outq, s.toTx_port p m⟩
    · exact ⟨(s.port p).pd, (s.port p).pol.flight, _, s.modPort_port_self p _⟩

theorem State.sendVdm_port (s : State) (p : PortId) (x : Sop) (r : VdmReq) (h : Word) (l : List Word) :
    ∃ d f o, (s.sendVdm p x r h l).port p = { s.port p with
      pd := d, pol := { (s.port p).pol with flight := f, outq := o }, rally := (s.port p).rally.asked x r h l } := by
  obtain ⟨d, f, o, port⟩ := (s.modRally p fun q => q.asked x r h l).send_port p (vdmReqMsg x h l)
  refine ⟨d, f, o, ?_⟩
  rw [State.sendVdm_eq, port, State.modRally_eq, State.modPort_port_self]

theorem State.sendVdm_frame (s : State) (p : PortId) (x : Sop) (r : VdmReq) (h : Word) (l : List Word) :
    State.Frame (· = p) s (s.sendVdm p x r h l) := (s.modRally_frame p _).trans (State.send_frame _ p _)

/-- A VDM of the device to `x` may go out at once: the TX buffer is free, and in READY nothing is in progress that it waits for (R127). -/
def Port.admitsVdm (q : Port) (x : Sop) : Prop :=
  q.takes ∧ q.pol.state = .ready ∧ q.pol.expect = .none ∧ (q.pol.eprEntry = 0 ∨ x ≠ .sop)

theorem State.seqBusy_vdm (admits : (s.port p).admitsVdm x) : s.seqBusy p (vdmReqMsg x h l) = false := by
  obtain ⟨-, state, expect, entry⟩ := admits
  unfold State.seqBusy
  dsimp only
  rw [state, expect]
  rcases entry with e | e <;> simp [vdmReqMsg, vdmMsg, objMsg, ctlMsg, Expect.open, e]

/-- The request is in the TX buffer, and outstanding (R68, R134). -/
theorem State.sendVdm_sends (hears : s.tileDeaf p = false) (admits : (s.port p).admitsVdm x) :
    s.sendVdm p x r h l = (s.modRally p fun q => q.asked x r h l).toTx p (vdmReqMsg x h l) := by
  have port : (s.modRally p fun q => q.asked x r h l).port p = { s.port p with rally := (s.port p).rally.asked x r h l } := s.modPort_port_self p _
  rw [State.sendVdm_eq]
  exact State.send_takes (((s.modRally_frame p _).tileDeaf p).trans hears) (by rw [port]; exact admits.1)
    (.inr (State.seqBusy_vdm (by rw [port]; exact admits)))

theorem State.sendVdm_sent (hears : s.tileDeaf p = false) (admits : (s.port p).admitsVdm x) :
    ((s.sendVdm p x r h l).port p).pd.tx = some (vdmReqMsg x h l) ∧
      ((s.sendVdm p x r h l).port p).pol = { (s.port p).pol with flight := some (vdmReqMsg x h l) } ∧
      ((s.sendVdm p x r h l).port p).rally = (s.port p).rally.asked x r h l := by
  rw [State.sendVdm_sends hears admits, State.toTx_port, State.modRally_eq, State.modPort_port_self]
  exact ⟨rfl, rfl, rfl⟩

/-! ### What a frame keeps of the parameters (R129) -/

theorem State.Frame.param {P : PortId → Prop} (f : State.Frame P s u) (n : Nat) : u.param n = s.param n := by
  obtain ⟨cfg, -⟩ := f.board
  unfold State.param State.paramOv
  rw [cfg]

theorem State.Frame.rallyOn {P : PortId → Prop} (f : State.Frame P s u) (p : PortId) : u.rallyOn p = s.rallyOn p := by
  unfold State.rallyOn
  rw [f.param]

theorem State.Frame.feedShort {P : PortId → Prop} (f : State.Frame P s u) (w : Word) : u.feedShort w = s.feedShort w := by
  obtain ⟨-, board, -⟩ := f.board
  unfold State.feedShort
  rw [board, f.param, f.param]

/-! ### Offers that hold 5 V (R98, R101, R103) -/

/-- What of a port decides the objects of its profile, and those that the feed voltage withholds (R98, R101, R102). -/
def Port.offering (q : Port) : Nat × Option (List Word) × Bool × List Word × List Word :=
  (q.pol.profile, q.pol.custom, q.smp.limited, q.pol.withdrawn, q.pol.live)

theorem State.Frame.profileWords (f : State.Frame (· = p) s u) (profile : (u.port p).pol.profile = (s.port p).pol.profile)
    (custom : (u.port p).pol.custom = (s.port p).pol.custom) (limited : (u.port p).smp.limited = (s.port p).smp.limited) :
    u.profileWords p = s.profileWords p := by
  unfold State.profileWords
  dsimp only
  simp only [profile, custom, limited, f.param]

theorem State.offers5V.frame (offers : s.offers5V p) (f : State.Frame (· = p) s u) (same : (u.port p).offering = (s.port p).offering) :
    u.offers5V p := by
  obtain ⟨object, carried⟩ := offers
  simp only [Port.offering, Prod.mk.injEq] at same
  obtain ⟨profile, custom, limited, withdrawn, live⟩ := same
  refine ⟨by rw [f.profileWords profile custom limited]; exact object, ?_⟩
  unfold State.feedHeld at carried ⊢
  dsimp only at carried ⊢
  rw [withdrawn, live, f.feedShort]
  exact carried

theorem decodePdo_5V : decodePdo (fixedPdo 5000 3000) = .fixed 5000 3000 := by decide

/-- A fixed object is no APDO, whatever current it carries. -/
theorem bits_fixedPdo_type (mv ma : Nat) : bits (fixedPdo mv ma) 30 2 = 0 := by
  unfold fixedPdo packWord bits
  simp only [List.foldl_cons, List.foldl_nil, BitVec.toNat_ofNat]
  omega

/-- An offer of a port that offers 5 V carries that object, and so is never empty (R101, R103). -/
theorem State.offers5V.spr (offers : s.offers5V p) : (s.buildOffer p).spr ≠ [] := by
  obtain ⟨object, carried⟩ := offers
  let o := offerObj (fixedPdo 5000 3000) (some (s.offerAlloc p)) (cableLimit (s.port p).pol.cable) s.board.vFeed (s.param 0x1002)
    (s.param 0x1000) (s.feedHeld p (fixedPdo 5000 3000))
  have listed : o ∈ s.offerObjs p (some (s.offerAlloc p)) := List.mem_map.mpr ⟨_, object, rfl⟩
  have kept : o.epr = false ∧ o.held = false ∧ bits o.word 30 2 = 0 := by
    simp only [o, offerObj, decodePdo_5V, carried]
    exact ⟨rfl, rfl, bits_fixedPdo_type _ _⟩
  obtain ⟨spr, free, fixed⟩ := kept
  have among : o ∈ (s.offerObjs p (some (s.offerAlloc p))).filter fun o => ! o.epr && ! o.held && ! (bits o.word 30 2 == 3) :=
    List.mem_filter.mpr ⟨listed, by simp [spr, free, fixed]⟩
  intro empty
  unfold State.buildOffer at empty
  dsimp only at empty
  split at empty
  next none =>
    rw [List.map_eq_nil_iff, List.append_eq_nil_iff] at none
    rw [none.1] at among
    exact List.not_mem_nil among
  next => exact List.cons_ne_nil _ _ empty

/-- After an offer, the 5 V object is among those it carried. -/
theorem State.offers5V.of_lists (offers : s.offers5V p) (f : State.Frame (· = p) s u)
    (same : (u.port p).pol.profile = (s.port p).pol.profile ∧ (u.port p).pol.custom = (s.port p).pol.custom ∧
      (u.port p).smp.limited = (s.port p).smp.limited) (lists : (u.port p).pol.feedLists = s.offerLists p) : u.offers5V p := by
  obtain ⟨object, carried⟩ := offers
  obtain ⟨profile, custom, limited⟩ := same
  simp only [Pol.feedLists, State.offerLists, Prod.mk.injEq] at lists
  obtain ⟨withdrawn, live⟩ := lists
  refine ⟨by rw [f.profileWords profile custom limited]; exact object, ?_⟩
  unfold State.feedHeld
  dsimp only
  rw [withdrawn, live]
  simp [object, carried]

end Sys2Proof.Machine
end

section
/-! SUPPORT. What the policy has waiting goes on and leaves pledges, curtailments and a discovery that has ended as they are (R102, R127,
R135, R140, R150–R154). -/
namespace Sys2Proof.Machine
set_option Elab.async false

variable {s t u : State} {p : PortId}

/-! ### Offers and messages leave Rally mode and discovery alone (R68, R97, R102, R103) -/

/-- Rally mode, the scoreboard's entry and cable discovery. -/
def Port.vdmSide (q : Port) : Rally × Sb × CableClass × Bool × Nat := (q.rally, q.sb, q.pol.cable, q.pol.discRun, q.pol.discTries)

/-- From `s` to `u` the port's Rally mode, scoreboard entry and discovery stay, and it offers 5 V as before. -/
structure State.SparesVdms (p : PortId) (s u : State) : Prop where
  frame : State.Frame (· = p) s u
  side : (u.port p).vdmSide = (s.port p).vdmSide
  offers : s.offers5V p → u.offers5V p

namespace State.SparesVdms

theorem refl (p : PortId) (s : State) : SparesVdms p s s := ⟨.refl _ s, rfl, id⟩

theorem trans (h : SparesVdms p s t) (k : SparesVdms p t u) : SparesVdms p s u :=
  ⟨h.frame.trans k.frame, k.side.trans h.side, fun offers => k.offers (h.offers offers)⟩

theorem either {c : Prop} [Decidable c] (h : SparesVdms p s t) (k : SparesVdms p s u) : SparesVdms p s (if c then t else u) := by
  split <;> assumption

theorem of_port (frame : State.Frame (· = p) s u) (side : (u.port p).vdmSide = (s.port p).vdmSide)
    (offering : (u.port p).offering = (s.port p).offering) : SparesVdms p s u := ⟨frame, side, fun offers => offers.frame frame offering⟩

theorem of_frame (frame : State.Frame (fun _ => False) s u) : SparesVdms p s u := by
  have port := frame.others p id
  exact of_port (frame.mono fun _ => False.elim) (by rw [port]) (by rw [port])

/-- A change of the policy elsewhere; that it leaves these is found by unfolding it. -/
theorem modPol (s : State) (p : PortId) (f : Pol → Pol)
    (same : ∀ q : Port, ({ q with pol := f q.pol } : Port).vdmSide = q.vdmSide ∧ ({ q with pol := f q.pol } : Port).offering = q.offering :=
      by exact fun _ => ⟨rfl, rfl⟩) : SparesVdms p s (s.modPol p f) := by
  have port : (s.modPol p f).port p = { s.port p with pol := f (s.port p).pol } := s.modPort_port_self p _
  obtain ⟨side, offering⟩ := same (s.port p)
  exact of_port (s.modPol_frame p f) (by rw [port]; exact side) (by rw [port]; exact offering)

theorem send (s : State) (p : PortId) (m : TxMsg) : SparesVdms p s (s.send p m) := by
  obtain ⟨d, f, o, port⟩ := s.send_port p m
  exact of_port (s.send_frame p m) (by rw [port]; rfl) (by rw [port]; rfl)

theorem toTx (s : State) (p : PortId) (m : TxMsg) : SparesVdms p s (s.toTx p m) :=
  of_port (s.toTx_frame p m) (by rw [State.toTx_port]; rfl) (by rw [State.toTx_port]; rfl)

theorem sendNext (s : State) (p : PortId) : SparesVdms p s (s.sendNext p) := by
  unfold State.sendNext
  refine either (refl p s) ?_
  split
  · exact (modPol s p _).trans (toTx _ p _)
  · exact refl p s

theorem swapSend (s : State) (p : PortId) (take host : Bool) : SparesVdms p s (s.swapSend p take host) :=
  (modPol s p fun q => { q with swapTake := take, swapHost := host, swapDue := false }).trans (send _ p _)

theorem eprFail (s : State) (p : PortId) (n : Nat) : SparesVdms p s (s.eprFail p n) := (modPol s p fun q => { q with eprEntry := 0 }).trans (send _ p _)

/-- An offer goes out: what it carries is what the next one may carry (R102). -/
theorem offerGoes (s : State) (p : PortId) (o : Offer) (epr : Bool) (m : TxMsg) : SparesVdms p s (s.offerGoes p o epr m) := by
  have frame := s.offerGoes_frame p o epr m
  obtain ⟨-, lists⟩ := s.offerGoes_pol p o epr m
  have rest : ((s.offerGoes p o epr m).port p).vdmSide = (s.port p).vdmSide ∧
      ((s.offerGoes p o epr m).port p).pol.profile = (s.port p).pol.profile ∧
      ((s.offerGoes p o epr m).port p).pol.custom = (s.port p).pol.custom ∧
      ((s.offerGoes p o epr m).port p).smp.limited = (s.port p).smp.limited := by
    unfold State.offerGoes
    dsimp only
    obtain ⟨d, f, l, port⟩ := State.send_port (s.modPol p _) p m
    rw [port, State.modPol_eq, State.modPort_port_self]
    exact ⟨rfl, rfl, rfl, rfl⟩
  exact ⟨frame, rest.1, fun offers => offers.of_lists frame rest.2 lists⟩

/-- A port that offers 5 V has an offer to send: no Hard_Reset takes its place (R97, R103, R108). -/
theorem sendOffer (offers : s.offers5V p) (epr reply : Bool) : SparesVdms p s (s.sendOffer p epr reply) := by
  have full := offers.spr
  unfold State.sendOffer
  refine either (modPol s p _) ?_
  rw [if_neg (by simp [full])]
  refine either (modPol s p _) ?_
  rw [if_neg (by simpa using full)]
  exact (modPol s p fun q => { q with state := .sendCaps, expect := .none }).trans (offerGoes _ p _ _ _)

theorem offerDue (offers : s.offers5V p) : SparesVdms p s (s.offerDue p) := either (sendOffer offers _ false) (refl p s)

theorem offerChange (offers : s.offers5V p) : SparesVdms p s (s.offerChange p) := by
  have due := modPol s p fun q => { q with newOffer := true }
  exact either (refl p s) (due.trans (offerDue (due.offers offers)))

end State.SparesVdms

/-- Rally mode after its end: no pledge, no curtailment and no VDM outstanding (R151). -/
def Rally.ended (r : Rally) : Rally :=
  { r with active := false, pledge := 0, pledgeNext := none, pledgeMsg := none, curtail := none, curtConf := false, noticeDue := false,
           ladder := false, owed := .none, req := .none, busyReq := .none, busyN := 0, nakRun := 0, heldOff := false }

theorem State.rallyEnd_ended (s : State) (p : PortId) (post : Bool) :
    (s.rallyEnd p post).port p = { s.port p with rally := (s.port p).rally.ended } := by
  have port : (s.modRally p Rally.ended).port p = { s.port p with rally := (s.port p).rally.ended } := s.modPort_port_self p _
  unfold State.rallyEnd
  dsimp only
  split
  · exact (State.postEvt_port _ _ _ p).trans port
  · exact port

/-! ### What waits goes on (R97, R127) -/

/-- The pledge of a port, its curtailment, and the credit that the scoreboard gives for it. -/
def Port.pledged (q : Port) : Option Nat × Bool × Nat × Option (Nat × Nat × Nat) × Nat × Nat :=
  (q.rally.curtail, q.rally.heldOff, q.rally.pledge, q.rally.pledgeNext, q.rally.holdMin, q.sb.credit)

/-- From `s` to `u` what the policy has waiting may have gone on. The pledge stays where Rally is enabled for the port, the class of a
known cable stays, and so do the attempts of a discovery that has one outstanding. -/
structure State.Onward (p : PortId) (s u : State) : Prop where
  frame : State.Frame (· = p) s u
  offers : s.offers5V p → u.offers5V p
  pledged : s.rallyOn p = true → (u.port p).pledged = (s.port p).pledged
  known : (s.port p).pol.cable ≠ .unknown → (u.port p).pol.cable = (s.port p).pol.cable ∧ (u.port p).pol.discRun = (s.port p).pol.discRun
  attempt : (s.port p).pol.discRun = true → (s.port p).rally.req ≠ .none → (u.port p).pol.discRun = true ∧
    (u.port p).pol.discTries = (s.port p).pol.discTries ∧ (u.port p).rally.req = (s.port p).rally.req

theorem State.SparesVdms.onward (h : State.SparesVdms p s u) : State.Onward p s u := by
  have side := h.side
  simp only [Port.vdmSide, Prod.mk.injEq] at side
  obtain ⟨rally, sb, cable, run, tries⟩ := side
  refine ⟨h.frame, h.offers, fun _ => ?_, fun _ => ⟨cable, run⟩, fun on _ => ⟨run.trans on, tries, by rw [rally]⟩⟩
  unfold Port.pledged
  rw [rally, sb]

namespace State.Onward

theorem refl (p : PortId) (s : State) : Onward p s s := (State.SparesVdms.refl p s).onward

theorem trans (h : Onward p s t) (k : Onward p t u) : Onward p s u where
  frame := h.frame.trans k.frame
  offers offers := k.offers (h.offers offers)
  pledged on := (k.pledged ((h.frame.rallyOn p).trans on)).trans (h.pledged on)
  known cable := by
    obtain ⟨same, run⟩ := h.known cable
    obtain ⟨same', run'⟩ := k.known (by rw [same]; exact cable)
    exact ⟨same'.trans same, run'.trans run⟩
  attempt on req := by
    obtain ⟨run, tries, same⟩ := h.attempt on req
    obtain ⟨run', tries', same'⟩ := k.attempt run (by rw [same]; exact req)
    exact ⟨run', tries'.trans tries, same'.trans same⟩

theorem either {c : Prop} [Decidable c] (h : Onward p s t) (k : Onward p s u) : Onward p s (if c then t else u) := by split <;> assumption

/-- A change of Rally mode that leaves the pledge, the curtailment and the request outstanding. -/
theorem modRally (s : State) (p : PortId) (f : Rally → Rally)
    (pledged : ∀ q : Port, ({ q with rally := f q.rally } : Port).pledged = q.pledged := by exact fun _ => rfl)
    (req : ∀ r : Rally, (f r).req = r.req := by exact fun _ => rfl) : Onward p s (s.modRally p f) := by
  have port : (s.modRally p f).port p = { s.port p with rally := f (s.port p).rally } := s.modPort_port_self p _
  have frame := s.modRally_frame p f
  refine ⟨frame, fun offers => offers.frame frame (by rw [port]; rfl), fun _ => ?_, fun _ => ?_, fun on _ => ?_⟩ <;> rw [port]
  · exact pledged _
  · exact ⟨rfl, rfl⟩
  · exact ⟨on, rfl, req _⟩

/-- A VDM of the device goes out while none is outstanding (R134). -/
theorem sendVdm (idle : (s.port p).rally.req = .none) (x : Sop) (r : VdmReq) (h : Word) (l : List Word) : Onward p s (s.sendVdm p x r h l) := by
  obtain ⟨d, f, o, port⟩ := s.sendVdm_port p x r h l
  have frame := s.sendVdm_frame p x r h l
  exact ⟨frame, fun offers => offers.frame frame (by rw [port]; rfl), fun _ => by rw [port]; rfl, fun _ => by rw [port]; exact ⟨rfl, rfl⟩,
    fun _ req => absurd idle req⟩

theorem discAttempt (s : State) (p : PortId) : Onward p s (s.discAttempt p) := by
  unfold State.discAttempt
  dsimp only
  split
  next c =>
    simp only [Bool.and_eq_true, beq_iff_eq] at c
    exact sendVdm c.1.2 _ _ _ _
  next => exact refl p s

/-- Discovery begins for an EPR entry only where the cable is not known (R139). -/
theorem eprCheck (s : State) (p : PortId) : Onward p s (s.eprCheck p) := by
  have fails (n : Nat) : Onward p s (s.eprFail p n) := (State.SparesVdms.eprFail s p n).onward
  unfold State.eprCheck
  refine either (fails 3) (either (fails 4) (either ?_ ?_))
  · exact either (fails 2) ((State.SparesVdms.modPol s p fun r => { r with eprEntry := 2 }).trans (.swapSend _ p true false)).onward
  · split
    · exact ((State.SparesVdms.modPol s p fun r => { r with eprEntry := 4 }).trans (.send _ p _)).onward
    next unknown =>
      let t := s.modPol p fun r => { r with eprEntry := 3, eprTries := 0, discTries := if r.discRun then r.discTries else 0, discRun := true }
      have port : t.port p = { s.port p with pol := { (s.port p).pol with
          eprEntry := 3, eprTries := 0, discTries := if (s.port p).pol.discRun then (s.port p).pol.discTries else 0, discRun := true } } :=
        s.modPort_port_self p _
      have frame : State.Frame (· = p) s t := s.modPol_frame p _
      have begins : Onward p s t := ⟨frame, fun offers => offers.frame frame (by rw [port]; rfl), fun _ => by rw [port]; rfl,
        fun known => absurd unknown known, fun on _ => by rw [port]; exact ⟨rfl, if_pos on, rfl⟩⟩
      exact either (refl p s) (begins.trans (discAttempt t p))
    · exact fails 1

theorem swapAgain (s : State) (p : PortId) : Onward p s (s.swapAgain p) := by
  have ended : Onward p s ((s.modPol p fun q => { q with swapDue := false, swapTake := false, swapHost := false, swapTries := 0 }).finishPort p
      .swap .ok []) := ((State.SparesVdms.modPol s p _).trans (.of_frame (State.finishPort_frame _ _ _ _ _))).onward
  unfold State.swapAgain
  exact either (refl p s) (either (State.SparesVdms.swapSend s p _ _).onward (either (ended.trans (eprCheck _ p)) ended))

theorem owedNext (s : State) (p : PortId) : Onward p s (s.owedNext p) := by
  unfold State.owedNext
  dsimp only
  split
  · exact refl p s
  next c =>
    simp only [Rally.idle, Bool.not_eq_true, Bool.not_eq_false', Bool.and_eq_true, beq_iff_eq] at c
    split
    · exact (modRally s p _).trans (sendVdm (by rw [State.modRally_eq, State.modPort_port_self]; exact c.1) _ _ _ _)
    · exact (modRally s p _).trans (sendVdm (by rw [State.modRally_eq, State.modPort_port_self]; exact c.1) _ _ _ _)
    · exact refl p s

theorem sopNext (s : State) (p : PortId) : Onward p s (s.sopNext p) := by
  unfold State.sopNext
  dsimp only
  split
  · exact refl p s
  next c =>
    have idle : (s.port p).rally.req = .none := by
      simp only [Bool.or_eq_true, bne_iff_ne, ne_eq, not_or, Decidable.not_not] at c
      exact c.1.2
    have identity : Onward p s (if (s.port p).pol.cable == .unknown then s
        else (s.modRally p fun r => { r with step := .identity }).sendVdm p .sop .sopIdentity (s.vdmReqHdr p 0xFF00 0 1) []) :=
      either (refl p s) ((modRally s p _).trans (sendVdm (by rw [State.modRally_eq, State.modPort_port_self]; exact idle) _ _ _ _))
    split
    · exact identity
    · exact identity
    · exact sendVdm idle _ _ _ _
    · exact sendVdm idle _ _ _ _
    · exact either (sendVdm idle _ _ _ _) (modRally s p _)
    · exact refl p s

/-- Rally mode is left instead of a NOTICE only where Rally is not enabled for the port (R151, R157). -/
theorem rallyExit (off : s.rallyOn p = false) (idle : (s.port p).rally.req = .none) : Onward p s (s.rallyExit p) := by
  have port := s.rallyEnd_ended p true
  have frame := s.rallyEnd_frame p true
  have ended : Onward p s (s.rallyEnd p true) := ⟨frame, fun offers => offers.frame frame (by rw [port]; rfl),
    fun on => absurd on (by simp [off]), fun _ => by rw [port]; exact ⟨rfl, rfl⟩, fun _ req => absurd idle req⟩
  exact either (ended.trans (sendVdm (by rw [port]; rfl) _ _ _ _)) (refl p s)

theorem noticeNext (s : State) (p : PortId) : Onward p s (s.noticeNext p) := by
  unfold State.noticeNext
  dsimp only
  split
  next c =>
    simp only [Rally.idle, Bool.and_eq_true, beq_iff_eq] at c
    have idle : (s.port p).rally.req = .none := c.1.1.2.1
    split
    next off => exact rallyExit (by simpa using off) idle
    next => exact (modRally s p _).trans (sendVdm (by rw [State.modRally_eq, State.modPort_port_self]; exact idle) _ _ _ _)
  next => exact refl p s

end State.Onward

end Sys2Proof.Machine
end

section
/-! SUPPORT. The end of cable discovery, what goes on after it, and a curtailment that the ladder takes over (R97, R135–R137, R153, R154). -/
namespace Sys2Proof.Machine
set_option Elab.async false

variable {s t u : State} {p : PortId} {c : CableClass} {vid pid : BitVec 16} {vdo : Word}

/-! ### The end of cable discovery (R137) -/

/-- The class is known and told: CABLE_IDENTIFIED is posted and the waiting descriptor completes. -/
def State.cableTold (s : State) (p : PortId) (c : CableClass) (vid pid : BitVec 16) (vdo : Word) : State :=
  ((s.modPol p fun q => { q with cable := c, cableVid := vid, cablePid := pid, cableVdo := vdo, discRun := false }).postEvt
    (some p) (.cableIdentified c vid pid vdo)).finishPort p .cable .ok (bytesLE 1 c.ctorIdx)

theorem State.cableTold_port (s : State) (p : PortId) (c : CableClass) (vid pid : BitVec 16) (vdo : Word) :
    (s.cableTold p c vid pid vdo).port p =
      { s.port p with pol := { (s.port p).pol with cable := c, cableVid := vid, cablePid := pid, cableVdo := vdo, discRun := false } } := by
  unfold State.cableTold
  rw [State.finishPort_port, State.postEvt_port, State.modPol_eq, State.modPort_port_self]

theorem State.cableTold_frame (s : State) (p : PortId) (c : CableClass) (vid pid : BitVec 16) (vdo : Word) :
    State.Frame (· = p) s (s.cableTold p c vid pid vdo) :=
  ((s.modPol_frame p _).trans (State.postEvt_frame _ _ _)).trans (State.finishPort_frame _ _ _ _ _)

theorem State.offers5V.cableTold (offers : s.offers5V p) : (s.cableTold p c vid pid vdo).offers5V p :=
  offers.frame (s.cableTold_frame p c vid pid vdo) (by rw [State.cableTold_port]; rfl)

/-- Once the class is told, the EPR entry, the new offer and the discovery on SOP go on. -/
theorem State.cableEnd_onward (offers : s.offers5V p) : State.Onward p (s.cableTold p c vid pid vdo) (s.cableEnd p c vid pid vdo) := by
  have checked : State.Onward p (s.cableTold p c vid pid vdo) (if ((s.cableTold p c vid pid vdo).port p).pol.eprEntry == 3 then
      (s.cableTold p c vid pid vdo).eprCheck p else s.cableTold p c vid pid vdo) := .either (.eprCheck _ p) (.refl p _)
  unfold State.cableEnd
  exact (State.Onward.either (checked.trans (State.SparesVdms.offerChange (checked.offers offers.cableTold)).onward) checked).trans (.sopNext _ p)

/-- With no EPR entry that waits for it and a cable limit as offered, discovery on SOP alone goes on (R137, R140). -/
theorem State.cableEnd_quiet (entry : (s.port p).pol.eprEntry = 0) (limit : (s.port p).pol.offLimit = cableLimit c) :
    s.cableEnd p c vid pid vdo = (s.cableTold p c vid pid vdo).sopNext p := by
  have told : (s.cableTold p c vid pid vdo).port p = _ := s.cableTold_port p c vid pid vdo
  unfold State.cableEnd
  dsimp only
  rw [if_neg (by simp [limit])]
  refine congrArg (State.sopNext · p) (if_neg ?_)
  show ¬ (((s.cableTold p c vid pid vdo).port p).pol.eprEntry == 3) = true
  rw [told]
  simp [entry]

/-! ### What goes on (R97, R127) -/

theorem State.startCable_running (run : (s.port p).pol.discRun = true) : s.startCable p = s := if_pos (by simp [run])

/-- No discovery is to begin: the cable is known, or an attempt is outstanding (R135). -/
def Port.settled (q : Port) : Prop :=
  q.pol.cable ≠ .unknown ∨ q.pol.discRun = true ∧ q.rally.req ≠ .none

namespace State.Onward

/-- Discovery that begins, or ends at once, is that of a cable that is not known (R135). -/
theorem startCable (offers : s.offers5V p) : Onward p s (s.startCable p) := by
  by_cases unknown : (s.port p).pol.cable = .unknown
  · cases rests : (s.port p).pol.discRun with
    | true =>
      rw [State.startCable_running rests]
      exact refl p s
    | false =>
      have begins (t : State) (frame : State.Frame (· = p) s t) (q : Pol) (port : t.port p = { s.port p with pol := q })
          (offering : ({ s.port p with pol := q } : Port).offering = (s.port p).offering) : Onward p s t :=
        ⟨frame, fun offers => offers.frame frame (by rw [port]; exact offering), fun _ => by rw [port]; rfl,
          fun known => absurd unknown known, fun on _ => absurd on (by simp [rests])⟩
      have ends (c : CableClass) : Onward p s (s.cableEnd p c 0#16 0#16 0#32) :=
        (begins _ (s.cableTold_frame p c _ _ _) _ (s.cableTold_port p c _ _ _) rfl).trans (State.cableEnd_onward offers)
      unfold State.startCable
      refine either (refl p s) ?_
      split
      · exact ends .noEmarker
      · exact either (ends .silent) (either (refl p s)
          ((begins _ (s.modPol_frame p fun r => { r with discRun := true, discTries := 0 }) _ (s.modPort_port_self p _) rfl).trans (discAttempt _ p)))
      · exact refl p s
  · rw [State.startCable_known unknown]
    exact refl p s

theorem swapAgain_sendNext (s : State) (p : PortId) : Onward p s ((s.swapAgain p).sendNext p) := (swapAgain s p).trans (State.SparesVdms.sendNext _ p).onward

theorem owedNext_sopNext_noticeNext (s : State) (p : PortId) : Onward p s (((s.owedNext p).sopNext p).noticeNext p) :=
  ((owedNext s p).trans (sopNext _ p)).trans (noticeNext _ p)

theorem goNext (offers : s.offers5V p) : Onward p s (s.goNext p) := by
  have due : Onward p s (((s.swapAgain p).sendNext p).offerDue p) :=
    (swapAgain_sendNext s p).trans (State.SparesVdms.offerDue ((swapAgain_sendNext s p).offers offers)).onward
  exact (due.trans (startCable (due.offers offers))).trans (owedNext_sopNext_noticeNext _ p)

/-- Without an offer that is due, nothing depends on what the port offers. -/
theorem goNext_settled (offer : (s.port p).pol.newOffer = false) (settled : (s.port p).settled) : Onward p s (s.goNext p) := by
  have on := swapAgain_sendNext s p
  have noOffer : (((s.swapAgain p).sendNext p).port p).pol.newOffer = false :=
    (congrArg (fun q : Port => q.pol.newOffer) ((State.GoesOn.refl s).swapAgain.sendNext (p := p) p)).trans offer
  have stays : ((s.swapAgain p).sendNext p).startCable p = (s.swapAgain p).sendNext p := by
    rcases settled with known | ⟨run, req⟩
    · exact State.startCable_known (by rw [(on.known known).1]; exact known)
    · exact State.startCable_running (on.attempt run req).1
  unfold State.goNext
  dsimp only
  rw [State.offerDue_none noOffer, stays]
  exact on.trans (owedNext_sopNext_noticeNext _ p)

end State.Onward

end Sys2Proof.Machine
end

section
/-! SUPPORT. Received VDMs, the answers to the device's own, and discovery attempts (R132, R134–R136, R141–R143, R147, R150, R152). -/
namespace Sys2Proof.Machine
set_option Elab.async false

variable {s t u : State} {p : PortId} {x : BitVec 16} {h v : Word} {vs : List Word} {m : TxMsg}

/-! ### Received VDMs (R132, R141–R143) -/

@[simp] theorem wordBytes_cons (w : Word) (l : List Word) : wordBytes (w :: l) = bytesLE 4 w.toNat ++ wordBytes l := rfl
@[simp] theorem wordBytes_length (l : List Word) : (wordBytes l).length = 4 * l.length := by
  induction l with
  | nil => rfl
  | cons w l ih => rw [wordBytes_cons, List.length_append, bytesLE_length, ih, List.length_cons]; omega

/-- A VDM event leaves of its port all but the list of messages answered in hold. -/
theorem State.vdmEvent_port (s : State) (p : PortId) (n : Nat) (y : Msg) : ∃ l, (s.vdmEvent p n y).port p =
    { s.port p with pol := { (s.port p).pol with answered := l } } := by
  obtain ⟨l, port⟩ := (s.postEvt (some p) (.vdm n y.sop ((wordsLE y.data).headD 0#32))).passMsg_port p y
  rw [State.postEvt_port] at port
  exact ⟨l, port⟩

theorem State.vdmEvent_frame (s : State) (p : PortId) (n : Nat) (y : Msg) : State.Frame (· = p) s (s.vdmEvent p n y) :=
  (State.postEvt_frame _ _ _).trans (State.passMsg_frame _ p y)

theorem State.nothingWaits.vdmEvent (waits : s.nothingWaits p) (n : Nat) (y : Msg) : (s.vdmEvent p n y).nothingWaits p := by
  obtain ⟨l, port⟩ := s.vdmEvent_port p n y
  unfold State.nothingWaits
  rw [port]
  exact waits

/-- The VDOs of the device's identity: ID Header, Cert Stat and Product (R141, R142). -/
def State.identityVdos (s : State) : List Word :=
  [s.idHeader, BitVec.ofNat 32 (s.param 0x8002),
    packWord [(s.param 0x6001, 16, 16), (valLE ((s.upd.runHead.drop 0x14).take 2), 0, 16)]]

/-- Discover Identity is ACKed at the device's version (R132, R141). -/
theorem execVdmRequest_identity (free : s.policyFree p) (identity : vdmCmd h = 1) : execVdmRequest p h vs s = .next (s.toTx p
    (vdmMsg .sop (vdmHeader (vdmSvid h) (s.port p).pd.rev3 (bits h 8 3) 1 1) s.identityVdos .none)) := by
  unfold execVdmRequest State.vdmAnswer
  rw [State.whenPolicy_on free.1, if_pos (by simp [identity]), identity]
  exact congrArg Host.Outcome.next (free.send rfl)

theorem execVdmRequest_refused (free : s.policyFree p) (other : vdmCmd h ≠ 1) : execVdmRequest p h vs s = .next (s.toTx p
    (vdmMsg .sop (vdmHeader (vdmSvid h) (s.port p).pd.rev3 (bits h 8 3) 2 (vdmCmd h)) [] .none)) :=
  (State.whenPolicy_on free.1).trans ((if_neg (by simpa using other)).trans (congrArg Host.Outcome.next (free.send rfl)))

/-- An unstructured VDM is passed, and answered with Not_Supported at revision 3.x (R132). -/
theorem execUnstructuredVdm_rev3 (free : s.policyFree p) (rev3 : (s.port p).pd.rev3 = true) : execUnstructuredVdm p x h vs s =
    .next ((s.vdmEvent p 8 (vdmRx x .sop h vs)).toTx p (ctlMsg .notSupported .none)) := by
  let t := s.vdmEvent p 8 (vdmRx x .sop h vs)
  obtain ⟨l, port⟩ := s.vdmEvent_port p 8 (vdmRx x .sop h vs)
  have answered : t.notSupported p = t.sendCtl p .notSupported .none := if_pos (by rw [port]; exact rev3)
  have sent : t.sendCtl p .notSupported .none = t.toTx p (ctlMsg .notSupported .none) :=
    free.send_after (s.vdmEvent_frame p 8 _) (by rw [port]; exact free.takes) rfl
  exact (State.whenPolicy_on free.1).trans (congrArg Host.Outcome.next (answered.trans sent))

theorem execUnstructuredVdm_rev2 (rev2 : (s.port p).pd.rev3 = false) (waits : s.nothingWaits p) : execUnstructuredVdm p x h vs s =
    .next (if s.policyOn p then s.vdmEvent p 8 (vdmRx x .sop h vs) else s) := by
  obtain ⟨l, port⟩ := s.vdmEvent_port p 8 (vdmRx x .sop h vs)
  have passed : (s.vdmEvent p 8 (vdmRx x .sop h vs)).notSupported p = s.vdmEvent p 8 (vdmRx x .sop h vs) :=
    (waits.vdmEvent 8 _).notSupported (by rw [port]; exact rev2)
  unfold execUnstructuredVdm State.whenPolicy
  rw [passed]
  split <;> rfl

/-! ### Answers to the device's own (R134, R136, R147, R150) -/

/-- The answer is one to the request that is outstanding. -/
def Rally.answeredBy (r : Rally) (x : Sop) (h : Word) : Prop :=
  r.req ≠ .none ∧ x = r.reqSop ∧ vdmCmd h = vdmCmd r.reqHdr ∧ vdmSvid h = vdmSvid r.reqHdr

/-- What answers no request of the device is passed (R141). -/
theorem execVdmResponse_unsolicited {y : Sop} {a : VdmAnswer} (on : s.policyOn p = true) (idle : (s.port p).rally.req = .none)
    (waits : s.nothingWaits p) : execVdmResponse p x y a h vs s = .next (s.vdmEvent p 8 (vdmRx x y h vs)) :=
  (State.whenPolicy_on on).trans ((if_pos (by simp [idle])).trans (congrArg Host.Outcome.next (waits.vdmEvent 8 _).goNext))

theorem execVdmResponse_ack {y : Sop} (on : s.policyOn p = true) (answers : (s.port p).rally.answeredBy y h) :
    execVdmResponse p x y .ack h vs s = .next (((s.modRally p fun r => { r with req := .none, busyN := 0 }).vdmAck p (s.port p).rally.req
      (vdmRx x y h vs) vs).goNext p) := by
  obtain ⟨req, sop, cmd, svid⟩ := answers
  exact (State.whenPolicy_on on).trans (if_neg (by simp [req, sop, cmd, svid]))

/-- A BUSY that is not the third is waited out (R134). -/
theorem execVdmResponse_busy {y : Sop} (on : s.policyOn p = true) (answers : (s.port p).rally.answeredBy y h)
    (first : (s.port p).rally.busyN + 1 < 3) : execVdmResponse p x y .busy h vs s =
      .next ((s.modRally p fun r => { r with req := .none, busyN := r.busyN + 1 }).modRally p fun r => { r with busyReq := (s.port p).rally.req }) := by
  obtain ⟨req, sop, cmd, svid⟩ := answers
  exact (State.whenPolicy_on on).trans ((if_neg (by simp [req, sop, cmd, svid])).trans (if_pos first))

theorem State.GoesOn.path (goes : State.GoesOn t u) (p : PortId) : (u.port p).path = (t.port p).path := by
  have same := congrArg Port.path (goes p)
  exact same

/-- The ACK to a discovery attempt ends discovery with its class, and discovery on SOP and what waits go on (R136, R137). -/
theorem execVdmResponse_cable (on : s.policyOn p = true) (req : (s.port p).rally.req = .cableIdentity)
    (answers : (s.port p).rally.answeredBy .sopP h) (entry : (s.port p).pol.eprEntry = 0) (offer : (s.port p).pol.newOffer = false)
    (limit : (s.port p).pol.offLimit = cableLimit (cableClass vs)) : ∃ u, execVdmResponse p x .sopP .ack h vs s = .next u ∧
      (u.port p).pol.cable = cableClass vs ∧ (u.port p).pol.discRun = false ∧ (u.port p).path = (s.port p).path := by
  let t := s.modRally p fun r => { r with req := .none, busyN := 0 }
  have port : t.port p = { s.port p with rally := { (s.port p).rally with req := .none, busyN := 0 } } := s.modPort_port_self p _
  let w := t.cableTold p (cableClass vs) ((vs[0]?.getD 0#32).setWidth 16) ((vs[2]?.getD 0#32 >>> 16).setWidth 16) (vs[3]?.getD 0#32)
  have told : w.port p = _ := t.cableTold_port p _ _ _ _
  have known : (w.port p).pol.cable ≠ .unknown := by rw [told]; exact cableClass_ne_unknown vs
  have next : State.GoesOn w (w.sopNext p) := (State.GoesOn.refl w).sopNext
  obtain ⟨noOffer, cable⟩ : ((w.sopNext p).port p).pol.newOffer = false ∧ ((w.sopNext p).port p).pol.cable ≠ .unknown := by
    have same := congrArg (fun q : Port => (q.pol.newOffer, q.pol.cable)) (next p)
    simp only [Port.besideWaiting, Prod.mk.injEq] at same
    rw [same.1, same.2, told, port]
    exact ⟨offer, cableClass_ne_unknown vs⟩
  have beside : State.GoesOn w ((w.sopNext p).goNext p) := next.goNext noOffer cable
  have on' : State.Onward p w ((w.sopNext p).goNext p) := (State.Onward.sopNext w p).trans (.goNext_settled noOffer (.inl cable))
  have run : execVdmResponse p x .sopP .ack h vs s = .next ((w.sopNext p).goNext p) := by
    rw [execVdmResponse_ack on answers, req]
    exact congrArg (fun z : State => Host.Outcome.next (z.goNext p))
      (State.cableEnd_quiet (s := t) (by rw [port]; exact entry) (by rw [port]; exact limit))
  refine ⟨_, run, ?_, ?_, ?_⟩
  · rw [(on'.known known).1, told]
  · rw [(on'.known known).2, told]
  · rw [beside.path, told, port]

/-- The pledge in the ACK to a NOTICE waits for the boundary (R150). -/
theorem execVdmResponse_notice (on : s.policyOn p = true) (req : (s.port p).rally.req = .notice)
    (answers : (s.port p).rally.answeredBy .sop h) (valid : pledgeVoid (s.port p).rally v = false) (waits : s.nothingWaits p) :
    ∃ y, execVdmResponse p x .sop .ack h (v :: vs) s = .next ((s.modRally p fun r => { r with req := .none, busyN := 0 }).modRally p fun r =>
      { r with pledgeNext := some (pledgeOf v, bits v 20 2, bits v 0 10), pledgeMsg := some y, nakRun := 0 }) := by
  let y := vdmRx x .sop h (v :: vs)
  let t := s.modRally p fun r => { r with req := .none, busyN := 0 }
  let w := t.modRally p fun r => { r with pledgeNext := some (pledgeOf v, bits v 20 2, bits v 0 10), pledgeMsg := some y, nakRun := 0 }
  have port : t.port p = { s.port p with rally := { (s.port p).rally with req := .none, busyN := 0 } } := s.modPort_port_self p _
  have acked : t.vdmAck p .notice y (v :: vs) = w := by
    have void : pledgeVoid (t.port p).rally v = false := by rw [port]; exact valid
    unfold State.vdmAck
    dsimp only [List.getElem?_cons_zero]
    rw [if_neg (by simp [void])]
  have still : w.nothingWaits p := by
    unfold State.nothingWaits
    simp only [w, t, State.modRally_eq, State.modPort_port_self]
    exact waits
  refine ⟨y, ?_⟩
  rw [execVdmResponse_ack on answers, req]
  exact congrArg Host.Outcome.next ((congrArg (State.goNext · p) acked).trans still.goNext)

/-- After BUSY the request goes out again (R134). -/
theorem execVdmBusyRetry_sends (on : s.policyOn p = true) (busy : (s.port p).rally.busyReq ≠ .none) (idle : (s.port p).rally.req = .none)
    (state : (s.port p).pol.state = .ready) : execVdmBusyRetry p s = .next (s.sendVdm p (s.port p).rally.reqSop (s.port p).rally.busyReq
      (s.port p).rally.reqHdr (s.port p).rally.reqVdos) :=
  (State.whenPolicy_on on).trans (if_neg (by simp [busy, idle, Pol.isReady, state]))

/-! ### Discovery attempts (R135, R136) -/

theorem execDiscoverIdentityAttempt_sends (on : s.policyOn p = true) (run : (s.port p).pol.discRun = true) (state : (s.port p).pol.state = .ready)
    (vconn : (s.port p).path.vconn ≠ 0) (idle : (s.port p).rally.req = .none) (more : (s.port p).pol.discTries < s.param 0x7001) :
    execDiscoverIdentityAttempt p s = .next (s.sendVdm p .sopP .cableIdentity (s.vdmReqHdr p 0xFF00 0 1) []) := by
  unfold execDiscoverIdentityAttempt
  rw [State.whenPolicy_on on]
  dsimp only
  rw [if_neg (by simp [run]), if_neg (by simp [Nat.not_le.mpr more])]
  exact congrArg Host.Outcome.next (if_pos (by simp [run, Pol.isReady, state, vconn, idle, more]))

/-- After the last attempt without an ACK the class is SILENT (R136). -/
theorem execDiscoverIdentityAttempt_silent (on : s.policyOn p = true) (run : (s.port p).pol.discRun = true) (state : (s.port p).pol.state = .ready)
    (idle : (s.port p).rally.req = .none) (flight : (s.port p).pol.flight = none) (all : s.param 0x7001 ≤ (s.port p).pol.discTries) :
    execDiscoverIdentityAttempt p s = .next ((s.cableEnd p .silent 0#16 0#16 0#32).goNext p) := by
  unfold execDiscoverIdentityAttempt
  rw [State.whenPolicy_on on]
  dsimp only
  rw [if_neg (by simp [run]), if_pos (by simp [Pol.isReady, state, idle, flight, all])]
  rfl

/-- An attempt counts once sent (R135, R156). -/
theorem execTxOk_vdm (flight : (s.port p).pol.flight = some m) (expects : m.expect = .vdm) (kind : m.kind = .vdm) :
    execTxOk p s = .next (((s.txAcked p m).discCounted p).goNext p) := by
  have run : execTxOk p s = .next (((s.txAcked p m).discCounted p).goOn p m) := by
    unfold execTxOk
    dsimp only
    rw [flight]
    dsimp only
    rw [expects]
    rfl
  exact run.trans (congrArg Host.Outcome.next (if_neg (by simp [kind])))

theorem State.discCounted_port (req : (s.port p).rally.req = .cableIdentity) : ∃ n, (s.discCounted p).port p =
    { s.port p with pol := { (s.port p).pol with discTries := (s.port p).pol.discTries + 1, eprTries := n } } := by
  unfold State.discCounted
  rw [if_pos (by simp [req]), State.modPol_eq, State.modPort_port_self]
  exact ⟨_, rfl⟩

end Sys2Proof.Machine
end

section
/-! SUPPORT. NOTICEs, pledges that are broken or replaced, and curtailments that end (R134, R146, R150, R152–R154). -/
namespace Sys2Proof.Machine
set_option Elab.async false

variable {s t u : State} {p : PortId} {x : BitVec 16} {h v : Word}

/-! ### NOTICEs (R150) -/

/-- A change of Rally mode leaves the allocations, and so STATE of R150. -/
theorem State.rallyState_modRally (s : State) (p : PortId) (f : Rally → Rally) : (s.modRally p f).rallyState = s.rallyState := by
  have allocs : (s.modRally p f).ports.toList.map (fun q => q.sb.alloc) = s.ports.toList.map fun q => q.sb.alloc := by
    refine List.ext_getElem (by simp) fun n _ _ => ?_
    simp only [State.modRally_eq, State.modPort, State.port, List.getElem_map, Vector.getElem_toList, Vector.getElem_set]
    split
    next e => subst e; rfl
    next => rfl
  have sum : (s.modRally p f).allocSum = s.allocSum := congrArg List.sum allocs
  unfold State.rallyState
  rw [sum]
  rfl

theorem State.noticeMay_modRally (s : State) (p : PortId) (f : Rally → Rally) (same : (f (s.port p).rally).noticeAt = (s.port p).rally.noticeAt ∧
    (f (s.port p).rally).noticeState = (s.port p).rally.noticeState) : (s.modRally p f).noticeMay p = s.noticeMay p := by
  unfold State.noticeMay
  rw [State.rallyState_modRally, State.modRally_eq, State.modPort_port_self]
  dsimp only
  rw [same.1, same.2]
  rfl

/-- The NOTICE that goes out now is remembered (R150). -/
def State.noticed (s : State) (p : PortId) : State := s.modRally p fun r =>
  { r with seq := ((s.port p).rally.seq + 1) % 16, noticeDue := false, noticeAt := some s.aon, noticeState := s.rallyState,
           noticeAlloc := (s.port p).sb.alloc, noticeCredit := (s.port p).sb.credit }

/-- A NOTICE that is due goes out where no exchange is outstanding and the last one is 1 s old (R150, R156). -/
theorem State.noticeNext_sends (active : (s.port p).rally.active = true) (due : (s.port p).rally.noticeDue = true)
    (idle : (s.port p).rally.idle = true) (ready : (s.port p).pol.isReady = true) (may : s.noticeMay p = true) (on : s.rallyOn p = true) :
    s.noticeNext p = (s.noticed p).sendVdm p .sop .notice (s.vdmReqHdr p rallySvid (s.port p).rally.objPos 0x10)
      [noticeVdo s.rallyState (((s.port p).rally.seq + 1) % 16) (s.param 0x9006) (s.port p).sb.alloc (s.port p).sb.credit] :=
  (if_pos (by simp [active, due, idle, ready, may])).trans (if_neg (by simp [on]))

theorem State.noticeNext_waits (waits : s.noticeMay p = false ∨ (s.port p).rally.noticeDue = false) : s.noticeNext p = s :=
  if_neg (by rcases waits with h | h <;> simp [h])

/-- PERIOD has passed since the last NOTICE, if there was one. -/
def State.periodPassed (s : State) (p : PortId) : Bool := (s.port p).rally.noticeAt.all fun t => decide (t + secCycles (s.param 0x9006) ≤ s.aon)

theorem execRallyNoticeDue_active (on : s.policyOn p = true) (active : (s.port p).rally.active = true) : execRallyNoticeDue p s =
    .next ((s.modRally p fun r => { r with noticeDue := r.noticeDue || s.periodPassed p }).noticeNext p) :=
  (State.whenPolicy_on on).trans (if_pos active)

/-- A NOTICE that has fallen due is in the TX buffer (R150). -/
theorem execRallyNoticeDue_sends (free : s.policyFree p) (state : (s.port p).pol.state = .ready) (active : (s.port p).rally.active = true)
    (idle : (s.port p).rally.idle = true) (on : s.rallyOn p = true) (may : s.noticeMay p = true) (entry : (s.port p).pol.eprEntry = 0)
    (expect : (s.port p).pol.expect = .none) (due : ((s.port p).rally.noticeDue || s.periodPassed p) = true) :
    ∃ u h l, execRallyNoticeDue p s = .next u ∧ (u.port p).pd.tx = some (vdmReqMsg .sop h l) ∧
      (u.port p).rally = ((s.noticed p).port p).rally.asked .sop .notice h l := by
  let t := s.modRally p fun r => { r with noticeDue := r.noticeDue || s.periodPassed p }
  have port : t.port p = { s.port p with rally := { (s.port p).rally with noticeDue := true } } := by
    simp only [t, State.modRally_eq, State.modPort_port_self, due]
  have frame : State.Frame (· = p) s t := s.modRally_frame p _
  have sends := State.noticeNext_sends (s := t) (p := p) (by rw [port]; exact active) (by rw [port]) (by rw [port]; exact idle)
    (by rw [port]; simp [Pol.isReady, state]) ((s.noticeMay_modRally p _ ⟨rfl, rfl⟩).trans may) ((frame.rallyOn p).trans on)
  have told : (t.noticed p).port p = { s.port p with rally := ((s.noticed p).port p).rally } := by
    simp only [State.noticed, State.modRally_eq, State.modPort_port_self, port]
    rw [show t.rallyState = s.rallyState from s.rallyState_modRally p _]
    rfl
  have hears : (t.noticed p).tileDeaf p = false := ((frame.trans (State.modRally_frame _ p _)).tileDeaf p).trans free.hears
  let hdr := t.vdmReqHdr p rallySvid (t.port p).rally.objPos 0x10
  let l := [noticeVdo t.rallyState (((t.port p).rally.seq + 1) % 16) (t.param 0x9006) (t.port p).sb.alloc (t.port p).sb.credit]
  obtain ⟨tx, -, rally⟩ := State.sendVdm_sent (r := .notice) (h := hdr) (l := l) hears
    (by rw [told]; exact ⟨free.takes, state, expect, .inl entry⟩)
  refine ⟨_, hdr, l, (execRallyNoticeDue_active free.1 active).trans (congrArg Host.Outcome.next sends), tx, ?_⟩
  rw [rally, told]

/-! ### Pledges and curtailments (R152–R154) -/

/-- Rally mode with the curtailment given up for the ladder (R153). -/
def State.uncurtailed (s : State) (p : PortId) : State := s.modRally p fun r =>
  { r with curtail := none, curtConf := false, owed := if r.owed == .curtail then .none else r.owed, ladder := (s.port p).sb.decided.isNone }

theorem State.ladderOn_eq (s : State) (p : PortId) : s.ladderOn p = (s.uncurtailed p).offerChange p := rfl

/-- A broken pledge before the ladder goes on: the credit is 0 for BROKEN_HOLDOFF, and PLEDGE_BROKEN is posted (R154). -/
def State.pledgeLost (s : State) (p : PortId) : State :=
  (s.modPort p fun q => { q with rally := { q.rally with heldOff := true, noticeDue := true }, sb := { q.sb with credit := 0 } }).postEvt (some p)
    (.vdm 6 .sop (s.vdmReqHdr p rallySvid (s.port p).rally.objPos 0x11))

theorem State.pledgeBroken_eq (s : State) (p : PortId) : s.pledgeBroken p none = ((s.pledgeLost p).uncurtailed p).offerChange p := rfl

theorem State.pledgeBroken_pledged (offers : s.offers5V p) : (s.pledgeBroken p none).offers5V p ∧
    State.Frame (· = p) s (s.pledgeBroken p none) ∧ ((s.pledgeBroken p none).port p).rally.curtail = none ∧
    ((s.pledgeBroken p none).port p).rally.heldOff = true ∧ ((s.pledgeBroken p none).port p).sb.credit = 0 := by
  let t := (s.pledgeLost p).uncurtailed p
  have lost : (s.pledgeLost p).port p = { s.port p with
      rally := { (s.port p).rally with heldOff := true, noticeDue := true }, sb := { (s.port p).sb with credit := 0 } } := by
    rw [State.pledgeLost, State.postEvt_port, State.modPort_port_self]
  have port : t.port p = _ := (s.pledgeLost p).modPort_port_self p _
  have frame : State.Frame (· = p) s t := ((s.modPort_frame p _ id).trans (State.postEvt_frame _ _ _)).trans (State.modRally_frame _ p _)
  have offers' : t.offers5V p := offers.frame frame (by rw [port, lost]; rfl)
  have changed := State.SparesVdms.offerChange offers'
  have side := changed.side
  simp only [Port.vdmSide, Prod.mk.injEq] at side
  obtain ⟨rally, sb, -⟩ := side
  rw [State.pledgeBroken_eq]
  refine ⟨changed.offers offers', frame.trans changed.frame, ?_⟩
  rw [rally, sb, port, lost]
  exact ⟨rfl, rfl, rfl⟩

/-- A CURTAIL that draws no response breaks the pledge (R134, R154). -/
theorem execVdmResponseTimeout_curtail (on : s.policyOn p = true) (req : (s.port p).rally.req = .curtail) (flight : (s.port p).pol.flight = none) :
    execVdmResponseTimeout p s = .next (((s.modRally p fun r => { r with req := .none, busyN := 0 }).pledgeBroken p none).goNext p) := by
  unfold execVdmResponseTimeout
  rw [State.whenPolicy_on on]
  dsimp only
  rw [req, if_neg (by simp [flight])]
  rfl

/-- An Attention of a load that may send it replaces the pledge that waits for the boundary (R152). -/
theorem execAttention_rally (on : s.policyOn p = true) (svid : vdmSvid h = rallySvid) (active : (s.port p).rally.active = true)
    (attn : (s.port p).rally.attn = true) : execAttention p x h v s = .next ((s.modRally p fun r =>
      { r with pledgeNext := some (if pledgeVoid (s.port p).rally v then (0, 0, 0) else (pledgeOf v, bits v 20 2, bits v 0 10)),
               pledgeMsg := some (vdmRx x .sop h [v]), noticeDue := true }).goNext p) :=
  (State.whenPolicy_on on).trans (if_pos (by simp [svid, active, attn]))

theorem execCurtailConfirm_confirms {n : Nat} (curtail : (s.port p).rally.curtail = some n) (unconfirmed : (s.port p).rally.curtConf = false)
    (run : 8 ≤ (s.port p).sb.curRun) : execCurtailConfirm p s = .next (s.modPort p fun q =>
      { q with rally := { q.rally with curtConf := true }, sb := { q.sb with confirmed := q.sb.confirmed || q.sb.decided.any (n ≤ ·) } }) := by
  unfold execCurtailConfirm
  dsimp only
  rw [curtail]
  exact if_pos (by simp [unconfirmed, run])

theorem execCurtailReactionExpiry_breaks {n : Nat} (curtail : (s.port p).rally.curtail = some n) (unconfirmed : (s.port p).rally.curtConf = false)
    (sent : (s.port p).rally.owed ≠ .curtail) (answered : (s.port p).rally.req ≠ .curtail) :
    execCurtailReactionExpiry p s = .next (s.pledgeBroken p none) := if_pos (by simp [curtail, unconfirmed, sent, answered])

/-- A curtailment that outlasts HOLD ends by RESTORE where the allocation permits it, and goes over to the ladder where not (R153). -/
theorem execCurtailHoldExpiry_lapsed {n : Nat} (curtail : (s.port p).rally.curtail = some n) (limited : (s.port p).rally.curtHold ≠ 0)
    (lapsed : (s.port p).rally.curtAt + secCycles (60 * (s.port p).rally.curtHold) ≤ s.aon) : execCurtailHoldExpiry p s =
      if (s.port p).sb.decided.isNone && (s.port p).sb.alloc ≥ (s.port p).rally.preAlloc then .next (s.restoreSend p) else .next (s.ladderOn p) :=
  if_pos (by simp [curtail, limited, lapsed])

/-- RESTORE goes out, or is owed until the exchange in progress ends (R153, R156). -/
theorem State.restoreSend_rally (s : State) (p : PortId) : ((s.restoreSend p).port p).rally.curtail = none ∧
    ((s.port p).rally.idle = true → ((s.restoreSend p).port p).rally.req = .restore) ∧
    ((s.port p).rally.idle = false → ((s.restoreSend p).port p).rally.owed = .restore ∧
      ((s.restoreSend p).port p).rally.req = (s.port p).rally.req) := by
  let t := s.modRally p fun r => { r with curtail := none, curtConf := false, ladder := false, owed := .restore }
  have port : t.port p = { s.port p with
      rally := { (s.port p).rally with curtail := none, curtConf := false, ladder := false, owed := .restore } } := s.modPort_port_self p _
  have same : (t.port p).rally.idle = (s.port p).rally.idle := by rw [port]; rfl
  show ((t.owedNext p).port p).rally.curtail = _ ∧ (_ → ((t.owedNext p).port p).rally.req = _) ∧
    (_ → ((t.owedNext p).port p).rally.owed = _ ∧ ((t.owedNext p).port p).rally.req = _)
  cases idle : (s.port p).rally.idle with
  | false =>
    have stays : t.owedNext p = t := if_pos (by simp [same, idle])
    rw [stays, port]
    exact ⟨rfl, nofun, fun _ => ⟨rfl, rfl⟩⟩
  | true =>
    have goes : t.owedNext p = (t.modRally p fun r => { r with owed := .none }).sendVdm p .sop .restore
        (t.vdmReqHdr p rallySvid (t.port p).rally.objPos 0x12) [] := by
      unfold State.owedNext
      dsimp only
      rw [if_neg (by simp [same, idle]), show (t.port p).rally.owed = .restore by rw [port]]
    obtain ⟨d, f, o, sent⟩ := (t.modRally p fun r => { r with owed := .none }).sendVdm_port p .sop .restore
      (t.vdmReqHdr p rallySvid (t.port p).rally.objPos 0x12) []
    rw [goes, sent, State.modRally_eq, State.modPort_port_self, port]
    exact ⟨rfl, fun _ => rfl, nofun⟩

/-! ### A curtailment given up, whatever becomes of the offer (R97, R117, R131, R153) -/

/-- The curtailment and the allocation of a port. -/
def Port.curtailed (q : Port) : Option Nat × Nat := (q.rally.curtail, q.sb.alloc)

theorem State.modPd_curtailed (s : State) (p : PortId) (f : Pd → Pd) : ((s.modPd p f).port p).curtailed = (s.port p).curtailed := by
  rw [State.modPd_eq, State.modPort_port_self]
  rfl

theorem State.errorRecovery_curtailed (s : State) (p : PortId) (c : LostCause) : ((s.errorRecovery p c).port p).curtailed = (none, (s.port p).sb.alloc) := by
  obtain ⟨e, ended⟩ := s.endContract_port p c
  obtain ⟨d, a, g, stopped⟩ := ((s.endContract p c).rallyEnd p true).pdStop_port p
  unfold State.errorRecovery
  dsimp only
  obtain ⟨x, y, k, i, posted⟩ := State.post_port (State.modSb _ p Sb.voidDecrease) p (plainPost .errRec)
  rw [posted, State.modSb_eq, State.modPort_port_self, State.modPol_eq, State.modPort_port_self, State.abortDescs_port, stopped,
    State.rallyEnd_ended, ended]
  rfl

theorem State.hardResetDone_curtailed (s : State) (p : PortId) (c : LostCause) :
    ((s.hardResetDone p c).port p).curtailed = (none, (s.port p).sb.alloc) := by
  obtain ⟨y, a, e, held⟩ := s.reportHold_port p
  obtain ⟨g, ended⟩ := (s.reportHold p).endContract_port p c
  obtain ⟨x, z, k, i, posted⟩ := (s.hardResetLeft p c).post_port p (plainPost .hardReset)
  rw [State.hardResetDone_eq, posted, State.hardResetLeft, State.modPort_port_self, State.rallyEnd_ended, ended, held]
  rfl

theorem State.hardResetSent_curtailed (s : State) (p : PortId) (c : LostCause) (keep : Bool) :
    ((s.hardResetSent p c keep).port p).curtailed = (none, (s.port p).sb.alloc) := by
  let t := s.finish (fun w => w.port == some p && w.what.ofPort && ! (keep && w.what == .vsafe5v)) .abortedDisabled 0 []
  let w := t.modPol p fun q => { q with hardResets := q.hardResets + 1 }
  have done := w.hardResetDone_curtailed p c
  have alloc : (w.port p).sb.alloc = (s.port p).sb.alloc := by
    rw [show w.port p = _ from t.modPort_port_self p _, (State.finish_frame (P := fun _ => False) s _ _ _ _).others p id]
  rw [alloc] at done
  unfold State.hardResetSent
  dsimp only
  rw [State.modPd_curtailed]
  exact done

theorem State.hardReset_curtailed (s : State) (p : PortId) (c : LostCause) (keep : Bool) :
    ((s.hardReset p c keep).port p).curtailed = (none, (s.port p).sb.alloc) := by
  unfold State.hardReset
  split
  · exact s.errorRecovery_curtailed p _
  · exact s.hardResetSent_curtailed p c keep

/-- An offer, or the Hard_Reset in its place, brings no curtailment back and leaves the allocation. -/
theorem State.sendOffer_curtailed (none : (s.port p).rally.curtail = .none) (epr reply : Bool) :
    ((s.sendOffer p epr reply).port p).curtailed = (s.port p).curtailed := by
  have waits (f : Pol → Pol) : ((s.modPol p f).port p).curtailed = (s.port p).curtailed := by
    rw [State.modPol_eq, State.modPort_port_self]
    rfl
  have reset (c : LostCause) : ((s.hardReset p c false).port p).curtailed = (s.port p).curtailed := by
    rw [State.hardReset_curtailed, Port.curtailed, none]
  have goes (o : Offer) (e : Bool) (m : TxMsg) (f : Pol → Pol) : (((s.modPol p f).offerGoes p o e m).port p).curtailed = (s.port p).curtailed := by
    obtain ⟨-, side, -⟩ := State.SparesVdms.offerGoes (s.modPol p f) p o e m
    simp only [Port.vdmSide, Prod.mk.injEq] at side
    rw [← waits f, Port.curtailed, side.1, side.2.1]
    rfl
  unfold State.sendOffer
  dsimp only
  split
  · exact waits _
  · split
    · exact reset _
    · split
      · exact waits _
      · split
        · exact waits _
        · exact goes _ _ _ _

theorem State.ladderOn_curtailed (s : State) (p : PortId) : ((s.ladderOn p).port p).curtailed = (none, (s.port p).sb.alloc) := by
  let t := (s.uncurtailed p).modPol p fun q => { q with newOffer := true }
  have given : ((s.uncurtailed p).port p).curtailed = (none, (s.port p).sb.alloc) := by
    rw [State.uncurtailed, State.modRally_eq, State.modPort_port_self]
    rfl
  have due : (t.port p).curtailed = (none, (s.port p).sb.alloc) := by
    rw [show t.port p = _ from State.modPort_port_self _ p _]
    exact given
  rw [State.ladderOn_eq]
  unfold State.offerChange
  dsimp only
  split
  · exact given
  · show ((t.offerDue p).port p).curtailed = _
    unfold State.offerDue
    dsimp only
    split
    · exact (State.sendOffer_curtailed (congrArg Prod.fst due) _ _).trans due
    · exact due

end Sys2Proof.Machine
end

section
/-! SUPPORT. VDMs and Rally mode, clause by clause (R132, R134–R136, R141–R143, R147, R150, R152–R154, R156). -/
namespace Sys2Proof.Machine
set_option Elab.async false

variable {s : State} {p : PortId} {m : TxMsg}

/-- An answer of the device with its header first, and its VDOs behind (R132, R141). -/
theorem vdmMsg_data (x : Sop) (h : Word) (l : List Word) (e : Expect) : (vdmMsg x h l e).data.take 4 = bytesLE 4 h.toNat ∧
    (vdmMsg x h l e).data.length = 4 * (l.length + 1) := by
  have data : (vdmMsg x h l e).data = bytesLE 4 h.toNat ++ wordBytes l := rfl
  refine ⟨by rw [data, List.take_left' (bytesLE_length 4 _)], ?_⟩
  rw [data, List.length_append, bytesLE_length, wordBytes_length]
  omega

/-- The pledge of a port for which Rally is enabled stays when what waits goes on. -/
theorem State.goNext_pledged (offers : s.offers5V p) (on : s.rallyOn p = true) : ((s.goNext p).port p).pledged = (s.port p).pledged :=
  (State.Onward.goNext offers).pledged on

/-- So does the pledge that a change of Rally mode has made. -/
theorem State.modRally_goNext_pledged (offers : s.offers5V p) (on : s.rallyOn p = true) (f : Rally → Rally) :
    (((s.modRally p f).goNext p).port p).pledged = ({ s.port p with rally := f (s.port p).rally } : Port).pledged := by
  have port : (s.modRally p f).port p = { s.port p with rally := f (s.port p).rally } := s.modPort_port_self p _
  have frame : State.Frame (· = p) s (s.modRally p f) := s.modRally_frame p f
  rw [State.goNext_pledged (offers.frame frame (by rw [port]; rfl)) ((frame.rallyOn p).trans on), port]

/-- A pledge once broken is held off when what waits goes on (R154). -/
theorem State.pledgeBroken_goNext (offers : s.offers5V p) (on : s.rallyOn p = true) :
    (((s.pledgeBroken p none).goNext p).port p).rally.curtail = none ∧ (((s.pledgeBroken p none).goNext p).port p).rally.heldOff = true ∧
      (((s.pledgeBroken p none).goNext p).port p).sb.credit = 0 := by
  obtain ⟨still, frame, curtail, held, credit⟩ := State.pledgeBroken_pledged offers
  have pledged := State.goNext_pledged still ((frame.rallyOn p).trans on)
  simp only [Port.pledged, Prod.mk.injEq] at pledged
  obtain ⟨curtail', held', -, -, -, credit'⟩ := pledged
  exact ⟨curtail'.trans curtail, held'.trans held, credit'.trans credit⟩

/-- A class that has been told stays when what waits goes on. -/
theorem State.cableEnd_goNext_known {c : CableClass} {vid pid : BitVec 16} {vdo : Word} (offers : s.offers5V p) (known : c ≠ .unknown) :
    (((s.cableEnd p c vid pid vdo).goNext p).port p).pol.cable = c ∧ (((s.cableEnd p c vid pid vdo).goNext p).port p).pol.discRun = false := by
  have ends : State.Onward p (s.cableTold p c vid pid vdo) (s.cableEnd p c vid pid vdo) := State.cableEnd_onward offers
  have all := (ends.trans (.goNext (ends.offers offers.cableTold))).known
  rw [State.cableTold_port] at all
  exact all known

/-- An attempt that is acknowledged counts, and stays outstanding while what waits goes on (R135, R156). -/
theorem State.discCounted_goNext (req : (s.port p).rally.req = .cableIdentity) (run : (s.port p).pol.discRun = true)
    (offer : (s.port p).pol.newOffer = false) : (((s.discCounted p).goNext p).port p).pol.discTries = (s.port p).pol.discTries + 1 ∧
      (((s.discCounted p).goNext p).port p).rally.req = .cableIdentity := by
  obtain ⟨n, counted⟩ := State.discCounted_port req
  have asked : ((s.discCounted p).port p).rally.req ≠ .none := by rw [counted]; simp [req]
  have on : State.Onward p (s.discCounted p) ((s.discCounted p).goNext p) :=
    .goNext_settled (by rw [counted]; exact offer) (.inr ⟨by rw [counted]; exact run, asked⟩)
  obtain ⟨-, tries, same⟩ := on.attempt (by rw [counted]; exact run) asked
  rw [tries, same, counted]
  exact ⟨rfl, req⟩

/-- PERIOD has passed where no NOTICE was sent, or the last one is PERIOD old. -/
theorem State.periodPassed_iff (s : State) (p : PortId) : s.periodPassed p = true ↔
    ∀ t, (s.port p).rally.noticeAt = some t → t + secCycles (s.param 0x9006) ≤ s.aon := by
  unfold State.periodPassed
  cases (s.port p).rally.noticeAt <;> simp

/-- Settles O15: each VDM, attempt and lapse by the lemma on its command, and what goes on after it by what that leaves alone. -/
theorem vdmsAndRally : Obligations.VdmsAndRally := by
  unfold Obligations.VdmsAndRally
  refine ⟨fun p h vs s free identity => ?_, fun p h vs s free other => execVdmRequest_refused (vs := vs) free other, fun p x h vs s free rev3 => ?_,
    fun p x h vs s rev2 waits => ?_, fun p x a h vs s on idle waits => ?_, fun p x h vs s on req sop cmd svid entry offer limit => ?_,
    fun p x h v vs s on req sop cmd svid valid waits => ?_, fun p x h vs s on req sop cmd svid first => ?_,
    fun p s on req flight offers rally => ?_, fun p s free state entry expect busy idle => ?_,
    fun p s free run state vconn idle expect more => ?_, fun p s on run state idle flight all offers => ?_,
    fun p m s flight expects kind req run offer => ?_, fun p x h v s on svid active attn rally offers => ?_,
    fun p s free state active idle busy rally may entry expect due => ?_, fun p s on active early => ?_, fun p n s on due at_ early => ?_,
    fun p n s curtail unconfirmed run => execCurtailConfirm_confirms curtail unconfirmed run, fun p n s curtail unconfirmed sent answered offers => ?_,
    fun p n s curtail limited lapsed decided permits => ?_, fun p n s curtail limited lapsed short => ?_,
    fun p s unlimited => if_neg (by simp [unlimited]), fun p s => rfl⟩
  · obtain ⟨header, length⟩ := vdmMsg_data .sop (vdmHeader (vdmSvid h) (s.port p).pd.rev3 (bits h 8 3) 1 1) s.identityVdos .none
    exact ⟨_, _, execVdmRequest_identity (vs := vs) free identity, State.toTx_tx _ p _, rfl, rfl, header, length⟩
  · obtain ⟨l, port⟩ := s.vdmEvent_port p 8 (vdmRx x .sop h vs)
    refine ⟨_, execUnstructuredVdm_rev3 free rev3, State.toTx_tx _ p _, ?_⟩
    rw [State.toTx_port, port]
  · refine ⟨_, execUnstructuredVdm_rev2 rev2 waits, ?_⟩
    obtain ⟨l, port⟩ := s.vdmEvent_port p 8 (vdmRx x .sop h vs)
    split
    · rw [port]
      exact ⟨rfl, rfl, rfl⟩
    · exact ⟨rfl, rfl, rfl⟩
  · obtain ⟨l, port⟩ := s.vdmEvent_port p 8 (vdmRx x .sop h vs)
    refine ⟨_, execVdmResponse_unsolicited on idle waits, ?_⟩
    rw [port]
    exact ⟨rfl, rfl, rfl⟩
  · exact execVdmResponse_cable on req ⟨by simp [req], sop.symm, cmd, svid⟩ entry offer limit
  · obtain ⟨y, run⟩ := execVdmResponse_notice (x := x) (vs := vs) on req ⟨by simp [req], sop.symm, cmd, svid⟩ valid waits
    refine ⟨_, run, ?_⟩
    rw [State.modRally_eq, State.modPort_port_self, State.modRally_eq, State.modPort_port_self]
    exact ⟨rfl, rfl, rfl⟩
  · refine ⟨_, execVdmResponse_busy on ⟨by simp [req], sop.symm, cmd, svid⟩ (by simp [first]), ?_⟩
    rw [State.modRally_eq, State.modPort_port_self, State.modRally_eq, State.modPort_port_self]
    exact ⟨req, rfl, by rw [first]⟩
  · have frame : State.Frame (· = p) s (s.modRally p fun r => { r with req := .none, busyN := 0 }) := s.modRally_frame p _
    have still : (s.modRally p fun r => { r with req := .none, busyN := 0 }).offers5V p :=
      offers.frame frame (by rw [State.modRally_eq, State.modPort_port_self]; rfl)
    exact ⟨_, execVdmResponseTimeout_curtail on req flight, State.pledgeBroken_goNext still ((frame.rallyOn p).trans rally)⟩
  · obtain ⟨tx, -, asked⟩ := State.sendVdm_sent (r := (s.port p).rally.busyReq) (h := (s.port p).rally.reqHdr) (l := (s.port p).rally.reqVdos)
      (x := (s.port p).rally.reqSop) free.hears ⟨free.takes, state, expect, .inl entry⟩
    refine ⟨_, _, execVdmBusyRetry_sends free.1 (by simp [busy]) idle state, tx, rfl, ?_⟩
    rw [asked]
    exact ⟨busy, rfl⟩
  · obtain ⟨tx, pol, asked⟩ := State.sendVdm_sent (s := s) (p := p) (r := .cableIdentity) (h := s.vdmReqHdr p 0xFF00 0 1) (l := []) (x := .sopP)
      free.hears ⟨free.takes, state, expect, .inr (by decide)⟩
    refine ⟨_, _, execDiscoverIdentityAttempt_sends free.1 run state vconn idle more, tx, rfl, rfl, ?_⟩
    rw [pol, asked]
    exact ⟨rfl, rfl⟩
  · exact ⟨_, execDiscoverIdentityAttempt_silent on run state idle flight all, State.cableEnd_goNext_known offers (by decide)⟩
  · obtain ⟨x, n, acked⟩ := s.txAcked_port p m
    obtain ⟨tries, same⟩ := State.discCounted_goNext (s := s.txAcked p m) (p := p) (by rw [acked]; exact req) (by rw [acked]; exact run)
      (by rw [acked]; exact offer)
    refine ⟨_, execTxOk_vdm flight expects kind, tries.trans ?_, same⟩
    rw [acked]
  · have pledged := State.modRally_goNext_pledged offers rally fun r =>
      { r with pledgeNext := some (if pledgeVoid (s.port p).rally v then (0, 0, 0) else (pledgeOf v, bits v 20 2, bits v 0 10)),
               pledgeMsg := some (vdmRx x .sop h [v]), noticeDue := true }
    simp only [Port.pledged, Prod.mk.injEq] at pledged
    obtain ⟨-, -, pledge, next, hold, -⟩ := pledged
    exact ⟨_, execAttention_rally on svid active attn, next, hold, pledge⟩
  · obtain ⟨u, h, l, run, tx, rally'⟩ := execRallyNoticeDue_sends free state active (by simp [Rally.idle, idle, busy]) rally may entry expect
      (by rw [Bool.or_eq_true, State.periodPassed_iff]; exact due)
    refine ⟨u, _, run, tx, rfl, ?_⟩
    rw [rally', State.noticed, State.modRally_eq, State.modPort_port_self]
    exact ⟨rfl, rfl, rfl, rfl, rfl⟩
  · exact (execRallyNoticeDue_active on active).trans (congrArg Host.Outcome.next
      (State.noticeNext_waits (.inl ((s.noticeMay_modRally p _ ⟨rfl, rfl⟩).trans early))))
  · have none : s.periodPassed p = false := by simp [State.periodPassed, at_, early]
    cases active : (s.port p).rally.active with
    | false => exact (State.whenPolicy_on on).trans (if_neg (by simp [active]))
    | true =>
      have stays : (s.modRally p fun r => { r with noticeDue := r.noticeDue || s.periodPassed p }) = s :=
        State.modPort_same (by rw [none]; simp)
      refine (execRallyNoticeDue_active on active).trans (congrArg Host.Outcome.next ?_)
      rw [stays]
      exact State.noticeNext_waits (.inr due)
  · obtain ⟨-, -, broken⟩ := State.pledgeBroken_pledged offers
    exact ⟨_, execCurtailReactionExpiry_breaks curtail unconfirmed sent answered, broken⟩
  · exact ⟨_, (execCurtailHoldExpiry_lapsed curtail limited lapsed).trans (if_pos (by simp [decided, permits])), s.restoreSend_rally p⟩
  · have given := s.ladderOn_curtailed p
    simp only [Port.curtailed, Prod.mk.injEq] at given
    exact ⟨_, (execCurtailHoldExpiry_lapsed curtail limited lapsed).trans (if_neg (by simp [Nat.not_le.mpr short])), given⟩

end Sys2Proof.Machine
end

section
/-! SUPPORT. What one tick of the breaker does to the power path, and what trips a port in one tile cycle (R171, R173, R174, R176, R177, R184). -/
namespace Sys2Proof.Machine
set_option Elab.async false

variable {s : State} {p : PortId}

/-! ### A tick (R160, R173, R174) -/

/-- The path with the accumulators and the peak of a tick (R174, R247). -/
def Path.counted (q : Path) (curve : List (Nat × Nat)) (ma : Int) : Path := { q with acc := accTick curve q.ilim ma q.acc, peak := max q.peak ma }

/-- The power path after a tick: counted, slewed, regulated. -/
def Path.ticked (q : Path) (curve : List (Nat × Nat)) (rate : Nat) (ma : Int) : Path := ((q.counted curve ma).slewTick rate).regulateTick ma

/-- A tick changes of the device the port's path, its energy and its on-time (R174, R247, R481). -/
theorem execBreakerTick_ticks (ma : Int) (mv : Nat) (awake : s.pwr.dev ≠ .deep) : ∃ m c, execBreakerTick p ma mv s =
    .next (s.modPort p fun q =>
      { q with path := q.path.ticked (s.breakerSet (tileOf p) q.path.bset) (s.pathCfg p).2 ma, smp := m, cnt := c }) :=
  ⟨_, _, (if_neg (by simpa using awake)).trans (congrArg Host.Outcome.next (State.modPort_congr rfl))⟩

theorem execBreakerTick_path (ma : Int) (mv : Nat) (awake : s.pwr.dev ≠ .deep) : ∃ u, execBreakerTick p ma mv s = .next u ∧
    (u.port p).path = (s.port p).path.ticked (s.breakerSet (tileOf p) (s.port p).path.bset) (s.pathCfg p).2 ma ∧
    (u.port p).pol = (s.port p).pol ∧ (∀ q : Fin 192, q ≠ p → u.port q = s.port q) ∧ u.link = s.link ∧ u.cores = s.cores := by
  obtain ⟨m, c, run⟩ := execBreakerTick_ticks (p := p) ma mv awake
  refine ⟨_, run, ?_⟩
  rw [State.modPort_port_self]
  exact ⟨rfl, rfl, fun q other => s.modPort_port_ne _ other.symm, rfl, rfl⟩

theorem Path.slewTick_none {q : Path} (rate : Nat) (still : q.slewTo = none) : q.slewTick rate = q := by
  unfold Path.slewTick
  rw [still]

theorem Path.regulateTick_off {q : Path} (ma : Int) (off : q.regulate = false) : q.regulateTick ma = q := if_neg (by simp [off])

section
variable {q : Path} (curve : List (Nat × Nat)) (rate : Nat) {ma : Int}

/-- A path that neither slews nor is regulated only counts (R174). -/
theorem Path.ticked_counts (off : q.regulate = false) (still : q.slewTo = none) : q.ticked curve rate ma = q.counted curve ma := by
  unfold Path.ticked
  rw [Path.slewTick_none (q := q.counted curve ma) rate still, Path.regulateTick_off (q := q.counted curve ma) ma off]

/-- Above ILIM a regulated target is folded back by 20 mV more, as far as the APDO's minimum (R173). -/
theorem Path.ticked_folds (on : q.regulate = true) (still : q.slewTo = none) (high : (q.ilim : Int) < ma) : q.ticked curve rate ma =
    { q.counted curve ma with fold := min (q.fold + 20) (q.target + q.fold - q.regMin),
                              target := q.target + q.fold - min (q.fold + 20) (q.target + q.fold - q.regMin) } := by
  unfold Path.ticked Path.regulateTick
  rw [Path.slewTick_none (q := q.counted curve ma) rate still, if_pos (show (q.counted curve ma).regulate = true from on),
    if_pos (show ((q.counted curve ma).ilim : Int) < ma from high)]
  rfl

/-- A target below its end value rises by 5 mV for each 0.1 V/ms, and the slew is over when it is there (R160). -/
theorem Path.ticked_rises {v : Nat} (off : q.regulate = false) (unfolded : q.fold = 0) (goal : q.slewTo = some v) (below : q.target < v) :
    q.ticked curve rate ma = { q.counted curve ma with
      target := min v (q.target + 5 * rate), slewTo := if min v (q.target + 5 * rate) == v then none else some v } := by
  have rises : (q.counted curve ma).slewTick rate = { q.counted curve ma with
      target := min v (q.target + 5 * rate), slewTo := if min v (q.target + 5 * rate) == v then none else some v } := by
    unfold Path.slewTick
    rw [show (q.counted curve ma).slewTo = some v from goal]
    simp [Path.counted, unfolded, below]
  unfold Path.ticked
  rw [rises]
  exact Path.regulateTick_off ma off

end

/-! ### What trips the port in one cycle (R176, R184) -/

/-- The cause under which what shows in one cycle trips the port (R184). -/
def State.tripCause (s : State) (p : PortId) (xs : List Tripping) : Option TripCause :=
  [TripCause.fast, .breaker, .overvolt, .reverse, .undervolt].find? fun c => (xs.filter (s.shows p)).any fun y => y.cause == c

/-- OVERVOLT and REVERSE are posted beside the TRIP (R166, R176). -/
def State.tripTold (p : PortId) (s : State) : Tripping → State
  | .overvolt mv => s.postEvt (some p) (.overvolt none (mv / 20))
  | .reverse ma => s.postEvt (some p) (.reverse (ma / 5))
  | _ => s

/-- All of a cycle that is posted beside the TRIP. -/
def State.tripsTold (s : State) (p : PortId) (xs : List Tripping) : State := (xs.filter (s.shows p)).foldl (State.tripTold p) s

theorem State.tripCycle_eq (s : State) (p : PortId) (xs : List Tripping) : s.tripCycle p xs = match s.tripCause p xs with
    | none => s
    | some c =>
      if (s.port p).mayTrip then (s.tripsTold p xs).portTrip p c (if c == .breaker then (s.breakerHit p).getD 0xFF else 0xFF)
      else if (s.port p).cc.state == .bootSink then s else s.tripsTold p xs := rfl

theorem State.tripsTold_frame {P : PortId → Prop} (s : State) (p : PortId) (xs : List Tripping) : State.Frame P s (s.tripsTold p xs) := by
  refine State.Frame.foldl _ (fun s y => ?_) _ s
  cases y with
  | overvolt mv => exact s.postEvt_frame _ _
  | reverse ma => exact s.postEvt_frame _ _
  | fast ma => exact .refl P s
  | breaker => exact .refl P s
  | undervolt mv => exact .refl P s

theorem State.tripCycle_frame (s : State) (p : PortId) (xs : List Tripping) : State.Frame (· = p) s (s.tripCycle p xs) := by
  rw [State.tripCycle_eq]
  split
  · exact .refl _ s
  · exact .ite ((s.tripsTold_frame p xs).trans (State.portTrip_frame _ p _ _)) (.ite (.refl _ s) (s.tripsTold_frame p xs))

/-- A trip ends the contract and counts (R118, R177). -/
theorem State.portTrip_counted (s : State) (p : PortId) (c : TripCause) (seg : Nat) :
    ((s.portTrip p c seg).port p).pol.kind = .none ∧ ((s.portTrip p c seg).port p).cnt.trip = (s.port p).cnt.trip.inc32 := by
  unfold State.portTrip
  extract_lets s1 peak s2 s3 s4 s5 a s6
  let part (q : Port) : CKind × Cnt := (q.pol.kind, q.cnt.trip)
  have forced : (s1.port p).cnt = (s.port p).cnt := ((State.Keeps.refl (·.cnt) (s.capFire p .trip)).portForce (p := p)) p
  have ended : part (s4.port p) = (.none, (s.port p).cnt.trip.inc32) := by
    obtain ⟨e, fault⟩ := s2.queueFault_port p 1 (BitVec.ofNat 32 (seg * 256 + c.num))
    obtain ⟨x, lost⟩ := s3.endContract_port p .trip
    obtain ⟨d, o, y, stopped⟩ := ((s3.endContract p .trip).rallyEnd p true).pdStop_port p
    rw [show s4.port p = _ from stopped, State.rallyEnd_ended, lost, show s3.port p = _ from fault,
      show s2.port p = _ from State.modPort_port_self _ p _, State.postEvt_port]
    exact Prod.ext rfl (congrArg (fun n : Cnts => n.trip.inc32) forced)
  have left : State.Keeps part s4 s5 := State.Keeps.modPort (State.Keeps.refl part s4).modPort
  have told : State.Keeps part s4 s6 := .either ((left.frame (State.postEvt_frame _ _ _)).modPort.modPort) left
  have done := ((told.frame (State.abortDescs_frame _ p fun _ => false)).retryTrip (p := p) (c := c)) p
  exact ⟨congrArg Prod.fst (done.trans ended), congrArg Prod.snd (done.trans ended)⟩

/-- The port has tripped with a cause: its path is safe, its contract has ended and the trip is counted (R177, R178). -/
def Port.hasTripped (q : Port) (c : TripCause) (was : Cnt) : Prop :=
  q.path.isTripped ∧ q.retry.last = c ∧ q.pol.kind = .none ∧ q.cnt.trip = was.inc32

theorem State.tripCycle_trips {xs : List Tripping} {c : TripCause} (cause : s.tripCause p xs = some c) (may : (s.port p).mayTrip = true) :
    ((s.tripCycle p xs).port p).hasTripped c (s.port p).cnt.trip := by
  have told : (s.tripsTold p xs).port p = s.port p := (s.tripsTold_frame (P := fun _ => False) p xs).others p id
  rw [State.tripCycle_eq, cause]
  dsimp only
  rw [if_pos may]
  obtain ⟨path, last⟩ := (s.tripsTold p xs).portTrip_port p c (if c == .breaker then (s.breakerHit p).getD 0xFF else 0xFF)
  obtain ⟨kind, trip⟩ := (s.tripsTold p xs).portTrip_counted p c (if c == .breaker then (s.breakerHit p).getD 0xFF else 0xFF)
  exact ⟨path, last, kind, trip.trans (by rw [told])⟩

/-- A port that has tripped already is told of what shows, and no more (R166, R176). -/
theorem State.tripCycle_tripped {xs : List Tripping} {c : TripCause} (cause : s.tripCause p xs = some c) (tripped : (s.port p).mayTrip = false)
    (source : (s.port p).cc.state ≠ .bootSink) : s.tripCycle p xs = s.tripsTold p xs := by
  rw [State.tripCycle_eq, cause]
  dsimp only
  rw [if_neg (by simp [tripped]), if_neg (by simpa using source)]

/-! ### The cause (R184) -/

/-- FAST goes before all else that shows (R184). -/
theorem State.tripCause_fast {xs : List Tripping} {ma : Nat} (listed : .fast ma ∈ xs) (seen : s.shows p (.fast ma) = true) :
    s.tripCause p xs = some .fast := by
  have any : ((xs.filter (s.shows p)).any fun y => y.cause == .fast) = true :=
    List.any_eq_true.mpr ⟨_, List.mem_filter.mpr ⟨listed, seen⟩, rfl⟩
  unfold State.tripCause
  exact List.find?_cons_of_pos any

theorem State.tripCause_single {x : Tripping} (seen : s.shows p x = true) : s.tripCause p [x] = some x.cause := by
  unfold State.tripCause
  rw [List.filter_cons_of_pos seen]
  cases x <;> rfl

/-- OVERVOLT goes before REVERSE (R184). -/
theorem State.tripCause_overvolt {mv : Nat} (ma : Nat) (seen : s.shows p (.overvolt mv) = true) :
    s.tripCause p [.overvolt mv, .reverse ma] = some .overvolt := by
  unfold State.tripCause
  rw [List.filter_cons_of_pos seen]
  cases other : s.shows p (.reverse ma) with
  | true => rw [List.filter_cons_of_pos other]; rfl
  | false => rw [List.filter_cons_of_neg (by simp [other])]; rfl

theorem State.tripCycle_single_not {x : Tripping} (not : s.shows p x = false) : s.tripCycle p [x] = s := by
  have none : s.tripCause p [x] = .none := by
    unfold State.tripCause
    rw [List.filter_cons_of_neg (by simp [not])]
    rfl
  rw [State.tripCycle_eq, none]

theorem State.shows_fast_iff (s : State) (p : PortId) (ma : Nat) : s.shows p (.fast ma) = true ↔ 500 * (s.pathCfg p).1 * 95 ≤ ma * 100 :=
  decide_eq_true_iff

theorem State.shows_breaker_iff (s : State) (p : PortId) : s.shows p .breaker = true ↔ ∃ k, s.breakerHit p = some k := Option.isSome_iff_exists

theorem State.shows_overvolt_iff (s : State) (p : PortId) (mv : Nat) : s.shows p (.overvolt mv) = true ↔
    (s.port p).path.gate = true ∧ (s.port p).path.window ≠ .off ∧ (s.port p).path.winHi * 99 ≤ mv * 100 := by
  simp [State.shows, and_assoc]

theorem State.shows_reverse_iff (s : State) (p : PortId) (ma : Nat) : s.shows p (.reverse ma) = true ↔ 200 ≤ ma := decide_eq_true_iff

theorem State.shows_undervolt_iff (s : State) (p : PortId) (mv : Nat) : s.shows p (.undervolt mv) = true ↔
    (s.port p).path.window = .steady ∧ (s.port p).path.run = false ∧ ((s.port p).path.regulate = false ∨ (s.port p).path.fold = 0) ∧
      mv < (s.port p).path.winLo := by
  simp [State.shows, and_assoc]

/-! ### VCONN over-current (R176) -/

/-- VCONN goes off until detach, with nothing else of the path, the retry schedule or the policy changed (R176). -/
theorem execVconnOvercurrent_takesVconn {ma : Nat} (on : (s.port p).path.vconn ≠ 0) (high : 250 < ma) : ∃ u c,
    execVconnOvercurrent p ma s = .next u ∧ u.port p = { s.port p with
      path := { (s.port p).path with vconn := 0, vcFresh := false, vcPeak := 0, vcLocked := true },
      retry := { (s.port p).retry with last := .vconnOc }, cnt := { (s.port p).cnt with trip := (s.port p).cnt.trip.inc32 }, sc := c } := by
  let s1 := s.modPort p fun q =>
    { q with path := { q.path with vconn := 0, vcFresh := false, vcPeak := 0, vcLocked := true },
             retry := { q.retry with last := .vconnOc }, cnt := { q.cnt with trip := q.cnt.trip.inc32 } }
  obtain ⟨c, fault⟩ := (s1.postEvt (some p) (.trip .vconnOc 0xFF ((s.port p).path.peak / 5))).queueFault_port p 1 0xFF08#32
  exact ⟨_, c, if_pos (by simp [on, high]), by rw [fault, State.postEvt_port, State.modPort_port_self]⟩

end Sys2Proof.Machine
end

section
/-! SUPPORT. The breaker and the protective functions, clause by clause (R171, R173, R174, R176, R177, R184). -/
namespace Sys2Proof.Machine
set_option Elab.async false

/-- Settles O19: a tick from what it does to the path, a trip from its cause. -/
theorem protectionsTrip : Obligations.ProtectionsTrip := by
  unfold Obligations.ProtectionsTrip
  refine ⟨fun p ma mv s awake off still => ?_, fun p ma mv s deep => if_pos (by simp [deep]), fun ik tk lim a ma => rfl,
    fun p ma mv s awake on still high => ?_, fun p v ma mv s awake off unfolded goal below => ?_, fun p k s hit may => ?_,
    fun p mv s steady idle unfolded may low => ?_, fun p mv s not => ?_, fun p ma l s may high => ?_, fun p ma s may high => ?_,
    fun p mv ma s may gate window high => ?_, fun p mv s gate => ?_, fun p mv s window => ?_, fun p ma s may high => ?_,
    fun p ma s gate tripped source high => ?_, fun p q ma l s t run other => ?_, fun p ma s on high => ?_⟩
  · obtain ⟨u, run, path, rest⟩ := execBreakerTick_path (p := p) ma mv awake
    refine ⟨u, run, ?_⟩
    rw [path, Path.ticked_counts _ _ off still]
    exact ⟨rfl, rfl, rfl, rest⟩
  · obtain ⟨u, run, path, -⟩ := execBreakerTick_path (p := p) ma mv awake
    refine ⟨u, run, ?_⟩
    rw [path, Path.ticked_folds _ _ on still high]
    exact ⟨rfl, rfl⟩
  · obtain ⟨u, run, path, -⟩ := execBreakerTick_path (p := p) ma mv awake
    refine ⟨u, run, ?_⟩
    rw [path, Path.ticked_rises _ _ off unfolded goal below]
    exact ⟨rfl, by simp⟩
  · obtain ⟨path, last, kind, trip⟩ := State.tripCycle_trips (State.tripCause_single ((s.shows_breaker_iff p).mpr ⟨k, hit⟩)) may
    exact ⟨_, rfl, path, last, kind, trip⟩
  · obtain ⟨path, last, -⟩ := State.tripCycle_trips (State.tripCause_single ((s.shows_undervolt_iff p mv).mpr ⟨steady, idle, unfolded, low⟩)) may
    exact ⟨_, rfl, path, last⟩
  · refine congrArg Host.Outcome.next (State.tripCycle_single_not (Bool.eq_false_iff.mpr fun yes => ?_))
    obtain ⟨-, idle, -, low⟩ := (s.shows_undervolt_iff p mv).mp yes
    rcases not with run | high
    · simp [idle] at run
    · omega
  · obtain ⟨path, last, kind, trip⟩ := State.tripCycle_trips
      (State.tripCause_fast (xs := .fast ma :: l) List.mem_cons_self ((s.shows_fast_iff p ma).mpr high)) may
    exact ⟨_, rfl, path, last, kind, trip⟩
  · obtain ⟨-, last, -⟩ := State.tripCycle_trips
      (State.tripCause_fast (xs := [.breaker, .fast ma]) (by simp) ((s.shows_fast_iff p ma).mpr high)) may
    exact ⟨_, rfl, last⟩
  · obtain ⟨path, last, -⟩ := State.tripCycle_trips
      (State.tripCause_overvolt ma ((s.shows_overvolt_iff p mv).mpr ⟨gate, window, high⟩)) may
    exact ⟨_, rfl, path, last⟩
  · refine congrArg Host.Outcome.next (State.tripCycle_single_not (Bool.eq_false_iff.mpr fun yes => ?_))
    obtain ⟨closed, -⟩ := (s.shows_overvolt_iff p mv).mp yes
    simp [gate] at closed
  · refine congrArg Host.Outcome.next (State.tripCycle_single_not (Bool.eq_false_iff.mpr fun yes => ?_))
    obtain ⟨-, enforced, -⟩ := (s.shows_overvolt_iff p mv).mp yes
    exact enforced window
  · obtain ⟨path, last, -⟩ := State.tripCycle_trips (State.tripCause_single ((s.shows_reverse_iff p ma).mpr high)) may
    exact ⟨_, rfl, path, last⟩
  · have seen := (s.shows_reverse_iff p ma).mpr high
    have told : s.tripsTold p [.reverse ma] = s.postEvt (some p) (.reverse (ma / 5)) := by
      unfold State.tripsTold
      rw [List.filter_cons_of_pos seen]
      rfl
    exact congrArg Host.Outcome.next
      ((State.tripCycle_tripped (State.tripCause_single seen) (by simp [Port.mayTrip, gate, tripped]) source).trans told)
  · cases run
    rw [(s.tripCycle_frame p (.fast ma :: l)).others q other]
  · obtain ⟨u, c, run, port⟩ := execVconnOvercurrent_takesVconn on high
    refine ⟨u, run, ?_⟩
    rw [port]
    exact ⟨rfl, rfl, rfl, rfl, rfl, rfl⟩

end Sys2Proof.Machine
end

section
/-! SUPPORT. What leaves a device out of DEEP that was not in it, and what holds FAULT_N low (R377, R401, R492). -/
namespace Sys2Proof.Machine
set_option Elab.async false

/-! ### Events and completions leave the power state alone -/

@[simp] theorem State.raise_pwr (s : State) (v : Nat) : (s.raise v).pwr = s.pwr := by
  unfold State.raise
  split
  · rfl
  · split <;> rfl

@[simp] theorem State.ringWrite_pwr (s : State) (n : Nat) (e : OutEntry) (now : Bool) : (s.ringWrite n e now).pwr = s.pwr := by
  unfold State.ringWrite
  dsimp only
  split <;> simp

@[simp] theorem State.holdEvt_pwr (s : State) (e : Evt) : (s.holdEvt e).pwr = s.pwr := by
  unfold State.holdEvt
  split <;> rfl

@[simp] theorem State.writeEvt_pwr (s : State) (e : Evt) : (s.writeEvt e).pwr = s.pwr := State.ringWrite_pwr _ _ _ _

@[simp] theorem State.postEvt_pwr (s : State) (o : Option PortId) (b : EvtBody) : (s.postEvt o b).pwr = s.pwr := by
  have written : (s.writeEvt { port := o, body := b, time := s.rtc }).pwr = s.pwr := s.writeEvt_pwr _
  have held : (s.holdEvt { port := o, body := b, time := s.rtc }).pwr = s.pwr := s.holdEvt_pwr _
  unfold State.postEvt
  dsimp only
  split
  · rfl
  · split
    · split <;> assumption
    · split
      · rfl
      · split <;> assumption

@[simp] theorem State.refRecord_pwr (s : State) (c : Nat) (k : Option TileId) (p : Option PortId) : (s.refRecord c k p).pwr = s.pwr := by
  unfold State.refRecord
  dsimp only
  split <;> simp

@[simp] theorem State.complete_pwr (s : State) (c : Cpl) (irq : Bool) : (s.complete c irq).pwr = s.pwr := by
  have drained (u : State) (n : Nat) : (u.drained n).pwr = u.pwr := by
    unfold State.drained
    split <;> simp
  refine (drained _ _).trans ?_
  split <;> simp

@[simp] theorem State.finish_pwr (s : State) (f : Waiting → Bool) (code : CplCode) (detail : Nat) (data : List Byte) :
    (s.finish f code detail data).pwr = s.pwr := by
  unfold State.finish
  refine foldl_keeps State.pwr _ (fun s w => ?_) _ _
  split <;> simp

@[simp] theorem State.unpoison_pwr (s : State) (mem lo n : Nat) : (s.unpoison mem lo n).pwr = s.pwr := by
  unfold State.unpoison
  split <;> rfl

@[simp] theorem State.enqueue_pwr (s : State) (p : PortId) (e : QEv) : (s.enqueue p e).pwr = s.pwr :=
  (foldl_keeps State.pwr _ (fun s _ => s.unpoison_pwr _ _ _) _ _).trans (State.unpoison_pwr _ _ _ _)

/-! ### Queued events take the device out of IDLE, never into DEEP (R401) -/

/-- From `s` to `u` the device has not gone into DEEP. -/
structure State.StaysAwake (s u : State) : Prop where
  awake : s.pwr.dev ≠ .deep → u.pwr.dev ≠ .deep

namespace State.StaysAwake

variable {s t u : State} {p : PortId}

theorem refl (s : State) : StaysAwake s s := ⟨id⟩

/-- An update of another part of the state; that it leaves the power state alone is found by unfolding it. -/
theorem upd (h : StaysAwake s t) (same : u.pwr = t.pwr := by exact rfl) : StaysAwake s u :=
  ⟨fun awake => by rw [same]; exact h.awake awake⟩

theorem either {c : Prop} [Decidable c] (h : StaysAwake s t) (k : StaysAwake s u) : StaysAwake s (if c then t else u) := by
  split <;> assumption

theorem postEvt {o : Option PortId} {b : EvtBody} (h : StaysAwake s t) : StaysAwake s (t.postEvt o b) := h.upd (t.postEvt_pwr o b)

theorem arrive (h : StaysAwake s t) : StaysAwake s t.arrive := either ⟨fun _ => nofun⟩ h.upd

theorem enqueue {e : QEv} (h : StaysAwake s t) : StaysAwake s (t.enqueue p e) := h.upd (t.enqueue_pwr p e)

theorem queueFault {n : Nat} {d : Word} (h : StaysAwake s t) : StaysAwake s (t.queueFault p n d) := by
  unfold State.queueFault
  exact (either h (either h.enqueue h.upd)).arrive

theorem dropReport (h : StaysAwake s t) : StaysAwake s (t.dropReport p) := by
  unfold State.dropReport
  exact either (queueFault h.upd) (queueFault h.upd)

theorem queueEv {e : QEv} (h : StaysAwake s t) : StaysAwake s (t.queueEv p e) := by
  have a : StaysAwake s t.arrive := h.arrive
  unfold State.queueEv
  refine either a ?_
  split
  · exact a.queueFault
  · exact either a.enqueue a.upd
  · exact either (upd a.enqueue) a.dropReport
  · exact either (upd a.enqueue) a
  · exact either a.upd (either a.enqueue a.upd)

/-! ### The end of an attach (R94, R131, R513) -/

theorem calAbort (h : StaysAwake s t) : StaysAwake s (t.calAbort p) := either h.upd h

theorem sigSend {g : Signal} (h : StaysAwake s t) : StaysAwake s (t.sigSend p g) := by
  unfold State.sigSend
  exact queueEv h.upd

theorem abandonTable (h : StaysAwake s t) : StaysAwake s (t.abandonTable p) := either (sigSend h.upd) h.upd

theorem endContract {c : LostCause} (h : StaysAwake s t) : StaysAwake s (t.endContract p c) := either h.upd (either h.upd (postEvt h.upd))

theorem rallyEnd {b : Bool} (h : StaysAwake s t) : StaysAwake s (t.rallyEnd p b) := either (postEvt h.upd) h.upd

theorem reportHold (h : StaysAwake s t) : StaysAwake s (t.reportHold p) := by
  unfold State.reportHold
  dsimp only
  split
  · exact either h (queueEv h.upd)
  · exact h

theorem pdStop (h : StaysAwake s t) : StaysAwake s (t.pdStop p) := either (queueEv h.reportHold.upd) h.reportHold.upd

theorem attachEnds (h : StaysAwake s t) : StaysAwake s (t.attachEnds p) :=
  (pdStop (rallyEnd h)).upd (State.finish_pwr _ _ _ _ _)

end State.StaysAwake

/-- A stuck switch holds FAULT_N low (R377). -/
theorem State.faultLow_of_stuck {s : State} {p : PortId} (awake : s.pwr.dev ≠ .deep) (stuck : (s.port p).retry.lock = .stuckSwitch) :
    s.faultLow = true := by
  have any : (s.ports.toList.any fun q => q.retry.lock == .stuckSwitch) = true :=
    List.any_eq_true.mpr ⟨s.port p, by simp [State.port], by simp [stuck]⟩
  unfold State.faultLow
  rw [if_neg (by simpa using awake), any]
  simp

end Sys2Proof.Machine
end

section
/-! SUPPORT. The end of a discharge, the retry schedule and a stuck switch, command by command (R177–R181, R183). -/
namespace Sys2Proof.Machine
set_option Elab.async false

variable {s : State} {p : PortId}

/-! ### The end of a discharge (R177, R183) -/

/-- The discharge of a trip is over, and the breaker starts afresh (R174, R177). -/
def Path.discharged (q : Path) : Path := { q with dis := false, disTrip := false, stuckTimer := false, acc := List.replicate 8 0 }

/-- What is left to do at the end of a discharge concerns the allocation alone (R177, R215). -/
theorem execTripDischargeDone_ends (tripped : (s.port p).path.disTrip = true) (stays : (s.port p).path.detachMid = none) :
    ∃ f : Port → Port, (∀ q, ∃ b, f q = { q with sb := b }) ∧ execTripDischargeDone p s = .next ((s.modPath p Path.discharged).modPort p f) := by
  have run : execTripDischargeDone p s = _ := if_pos (by simp [tripped, stays])
  rw [run]
  split
  · exact ⟨fun r => r.release s.board.reserve .tripped, fun _ => ⟨_, rfl⟩, rfl⟩
  · refine ⟨_, fun q => ?_, rfl⟩
    split <;> exact ⟨_, rfl⟩

/-- After the discharge of a detach the port is discharged, its detach told, and its allocation released (R183, R215). -/
theorem execDetachDischargeDone_ends {m : Bool} (detached : (s.port p).path.detachMid = some m) : ∃ u c, execDetachDischargeDone p s = .next u ∧
    u.port p = { s.port p with path := { (s.port p).path.discharged with detachMid := none }, sc := c }.release s.board.reserve .idle := by
  let t := (s.modPath p fun q => { q.discharged with detachMid := none }).postEvt (some p) (.detach m (s.port p).cc.partner)
  have run : execDetachDischargeDone p s =
      .next ((t.queueFault p 2 (BitVec.ofNat 32 (b2n m))).modPort p fun q => q.release s.board.reserve .idle) := by
    unfold execDetachDischargeDone
    rw [detached]
    rfl
  obtain ⟨c, fault⟩ := t.queueFault_port p 2 (BitVec.ofNat 32 (b2n m))
  refine ⟨_, c, run, ?_⟩
  rw [State.modPort_port_self, fault, State.postEvt_port, State.modPath_eq, State.modPort_port_self]

/-! ### The retry schedule (R178, R179) -/

/-- A table start tells the retry memory whether it is a probe (R178). -/
theorem State.startTable_retry (s : State) (p : PortId) (n : Nat) (r : Post) :
    ((s.startTable p n r).port p).retry = { (s.port p).retry with probing := n == s.tableFor p .probe } := by
  have cal : ((s.calAbort p).port p).retry = (s.port p).retry := ((State.Keeps.refl (·.retry) s).calAbort (p := p)) p
  unfold State.startTable State.capFire
  simp [cal]

/-- The port as its due retry starts (R179). -/
def State.probeDue (s : State) (p : PortId) : State := s.modPort p fun r =>
  { r with retry := { r.retry with due := none, hold := false }, cc := { r.cc with awaitDue := false } }

theorem execRetryProbeDue_probes {d : Nat} (due : (s.port p).retry.due = some d) (come : d ≤ s.aon) (attached : (s.port p).cc.state = .attached)
    (sink : (s.port p).cc.partner.isSink = true) (free : (s.port p).retry.lock = .none) (hears : s.tileDeaf p = false)
    (idle : (s.port p).path.run = false) : execRetryProbeDue p s = .next ((s.probeDue p).post p (plainPost .probe)) :=
  (if_neg (by simp [due, come])).trans (if_pos (by simp [attached, sink, free, hears, idle]))

theorem Partner.isSink_iff (k : Partner) : k.isSink = true ↔ k = .sink ∨ k = .sinkPoweredCable := by cases k <;> simp [Partner.isSink]

/-- The table of the probe runs from its entry 0 on an attached sink (R178). -/
theorem State.probeDue_post (attached : (s.port p).cc.state = .attached) (sink : (s.port p).cc.partner.isSink = true)
    (hears : s.tileDeaf p = false) (idle : (s.port p).path.run = false) (none : (s.port p).path.queued = none) :
    (s.probeDue p).post p (plainPost .probe) = (s.probeDue p).startTable p (s.tableFor p .probe) (plainPost .probe) := by
  have frame : State.Frame (· = p) s (s.probeDue p) := s.modPort_frame p _ id
  have port : (s.probeDue p).port p = _ := s.modPort_port_self p _
  obtain ⟨-, -, may⟩ := ((s.probeDue p).port p).cc.noTable_attached ((s.probeDue p).tableFor p .probe)
  have takes : (s.probeDue p).takesPost p (plainPost .probe) :=
    ⟨(frame.tileDeaf p).trans hears, .inr (.inr (.inr rfl)), by decide, by decide,
      may (by rw [port]; exact attached) (by rw [port]; exact (Partner.isSink_iff _).mp sink)⟩
  rw [← frame.tableFor p]
  exact takes.post_starts rfl (by rw [port]; exact idle) (by rw [port]; exact none)

/-- A failure below the last one sets the next due time (R178). -/
theorem State.retryFail_again (below : (s.port p).retry.f < 15) : (s.retryFail p).port p = { s.port p with
    retry := { (s.port p).retry with f := (s.port p).retry.f + 1, due := some (s.aon + secCycles (min (2 ^ ((s.port p).retry.f + 2)) 64)),
                                     probing := false, qualified := false } } := by
  have count : min 16 ((s.port p).retry.f + 1) = (s.port p).retry.f + 1 := by omega
  unfold State.retryFail
  dsimp only
  rw [count, if_pos (by omega), State.postEvt_port, State.modRetry_eq, State.modPort_port_self]

/-- The retry memory after the sixteenth failure: no probe is due any more, and a lockout that stands stays (R178). -/
def Retry.exhausted (r : Retry) : Retry :=
  { r with f := 16, due := none, probing := false, qualified := false, lock := if r.lock == .none then .retryExhausted else r.lock }

theorem State.retryFail_last (last : (s.port p).retry.f = 15) :
    ∃ c, (s.retryFail p).port p = { s.port p with retry := (s.port p).retry.exhausted, sc := c } := by
  let told (u : State) : State := (u.postEvt (some p) (.lockout .retryExhausted 0)).queueFault p 4 1#32
  have run : s.retryFail p = told (s.modRetry p Retry.exhausted) := by
    unfold State.retryFail
    dsimp only
    rw [last]
    exact congrArg told (State.modPort_congr rfl)
  obtain ⟨c, fault⟩ := ((s.modRetry p Retry.exhausted).postEvt (some p) (.lockout .retryExhausted 0)).queueFault_port p 4 1#32
  exact ⟨c, by rw [run, fault, State.postEvt_port, State.modRetry_eq, State.modPort_port_self]⟩

theorem execRetryFailed_told (told : (s.port p).cc.attachPend = false) : execRetryFailed p s = .next (s.retryFail p) :=
  congrArg (fun u => Host.Outcome.next (State.retryFail u p)) (State.attachOutcome_told .failed told)

theorem execRetryQualified_restarts (attached : (s.port p).cc.state = .attached) (told : (s.port p).cc.attachPend = false) :
    execRetryQualified p s = .next (((s.modRetry p fun r => { r with probing := false, qualified := true, due := none }).modPol p
      fun r => { r with state := .startup }).newcomer p) := by
  have run : execRetryQualified p s = _ := if_pos (by simp [attached])
  rw [run, State.attachOutcome_told .vsafe5v (by rw [State.modRetry_eq, State.modPort_port_self]; exact told)]
  rfl

/-! ### A stuck switch (R180, R181) -/

theorem State.wakeReq_deep (deep : s.pwr.dev = .deep) (k : Nat) : s.wakeReq k = s.modPwr fun w => { w with wake := setBit w.wake k true } := by
  unfold State.wakeReq
  rw [deep]

/-- The open port that shows VBUS, its discharge on (R180). -/
def State.vbusShown (s : State) (p : PortId) : State :=
  (s.modPath p fun q => { q with dis := true, disTrip := true, stuckTimer := true }).modCc p fun c => { c with attachDue := false }

theorem execOpenPortVbus_open (gate : (s.port p).path.gate = false) (sink : (s.port p).cc.state ≠ .bootSink) (rd : (s.port p).cc.state ≠ .bootRd) :
    execOpenPortVbus p s = .next ((s.vbusShown p).wakeReq 1) := if_pos (by simp [gate, sink, rd])

/-- A port whose switch is stuck, locked out with its discharge on, before it is told (R181). -/
def State.stuckLocked (s : State) (p : PortId) : State :=
  ((((s.calAbort p).abandonTable p).endContract p .lockout).attachEnds p).modPort p fun q =>
    { q with cc := { q.cc with state := .lockedOut, rp := .off, rpHold := false, filt := [], latched := none, attachPend := false },
             path := { q.path.forceSafe with disTrip := q.path.disTrip, stuckDis := true, stuckTimer := false, detachMid := none },
             retry := { q.retry with lock := .stuckSwitch, f := 0, due := none, hold := false, probing := false, qualified := false } }

theorem State.stuckSwitch_eq (s : State) (p : PortId) (mv : Nat) : s.stuckSwitch p mv =
    (((s.stuckLocked p).postEvt (some p) (.stuckSwitch (mv / 20))).queueFault p 5 0#32).refRecord 0x0B (some (tileOf p)) (some p) := rfl

/-- The port of a stuck switch is locked out, its Rp off and its discharge on (R181). -/
theorem State.stuckSwitch_port (s : State) (p : PortId) (mv : Nat) :
    ((s.stuckSwitch p mv).port p).cc.state = .lockedOut ∧ ((s.stuckSwitch p mv).port p).cc.rp = .off ∧
      ((s.stuckSwitch p mv).port p).retry.lock = .stuckSwitch ∧ ((s.stuckSwitch p mv).port p).path.dis = true ∧
      ((s.stuckSwitch p mv).port p).path.window = .off := by
  obtain ⟨c, fault⟩ := ((s.stuckLocked p).postEvt (some p) (.stuckSwitch (mv / 20))).queueFault_port p 5 0#32
  rw [State.stuckSwitch_eq, State.port_of_ports (State.refRecord_ports _ _ _ _) p, fault, State.postEvt_port, State.stuckLocked,
    State.modPort_port_self]
  exact ⟨rfl, rfl, rfl, rfl, rfl⟩

theorem State.stuckSwitch_recorded (s : State) (p : PortId) (mv : Nat) : (s.stuckSwitch p mv).ref.fault.getLsbD 0x0B = true := by
  rw [State.stuckSwitch_eq, State.refRecord_fault, getLsbD_setBit]
  rfl

theorem State.stuckSwitch_awake (s : State) (p : PortId) (mv : Nat) : State.StaysAwake s (s.stuckSwitch p mv) := by
  have ended : State.StaysAwake s ((((s.calAbort p).abandonTable p).endContract p .lockout).attachEnds p) :=
    (State.StaysAwake.refl s).calAbort.abandonTable.endContract.attachEnds
  have locked : State.StaysAwake s (s.stuckLocked p) := ended.upd (State.modPort_pwr _ _ _)
  rw [State.stuckSwitch_eq]
  exact locked.postEvt.queueFault.upd (State.refRecord_pwr _ _ _ _)

theorem execStuckSwitch_stuck {mv : Nat} (gate : (s.port p).path.gate = false) (dis : (s.port p).path.dis = true) (high : 800 < mv)
    (source : (s.port p).cc.state ≠ .bootSink) (newly : (s.port p).retry.lock ≠ .stuckSwitch) :
    execStuckSwitch p mv s = .next (s.stuckSwitch p mv) := if_pos (by simp [gate, dis, high, source, newly])

end Sys2Proof.Machine
end

section
/-! SUPPORT. Discharges, retries and the stuck switch, clause by clause (R177–R181, R183). -/
namespace Sys2Proof.Machine
set_option Elab.async false

/-- Settles O20: each command by the lemma on it. -/
theorem retryAndStuckSwitch : Obligations.RetryAndStuckSwitch := by
  unfold Obligations.RetryAndStuckSwitch
  refine ⟨fun p s tripped stays => ?_, fun p d s due come attached sink free hears idle none rom => ?_,
    fun p d s due early => if_pos (by simp [due, early]), fun p s qualified => if_pos qualified, fun p s hold gone => ?_,
    fun p s attached told below => ?_, fun p s told last free => ?_, fun p s attached told => ?_, fun p s gate sink rd deep => ?_,
    fun p s gate => if_neg (by simp [gate]), fun p mv s gate dis high awake source newly => ?_, fun p s stuck => if_pos stuck,
    fun p m s detached enabled able => ?_⟩
  · obtain ⟨f, released, run⟩ := execTripDischargeDone_ends tripped stays
    obtain ⟨b, port⟩ := released ((s.modPath p Path.discharged).port p)
    refine ⟨_, run, ?_⟩
    rw [State.modPort_port_self, port, State.modPath_eq, State.modPort_port_self]
    exact ⟨rfl, rfl, rfl, rfl, rfl⟩
  · have table : s.tableFor p .probe = 5 := if_neg (by simp [rom])
    have started := (execRetryProbeDue_probes due come attached sink free hears idle).trans
      (congrArg Host.Outcome.next (State.probeDue_post attached sink hears idle none))
    have frame : State.Frame (· = p) s (s.probeDue p) := s.modPort_frame p _ id
    refine ⟨_, started, ?_⟩
    rw [State.startTable_path, State.startTable_retry, frame.tableFor, table, State.probeDue, State.modPort_port_self]
    exact ⟨rfl, rfl, rfl, rfl, rfl⟩
  · refine ⟨_, if_pos (by simp [hold, gone]), ?_⟩
    rw [State.modRetry_eq, State.modPort_port_self]
    exact ⟨rfl, rfl, rfl, fun spent => by simp [Retry.clear, spent], fun other => by simp [Retry.clear, other], rfl, rfl⟩
  · refine ⟨_, execRetryFailed_told told, ?_⟩
    rw [State.retryFail_again below]
    exact ⟨rfl, rfl, rfl, rfl⟩
  · obtain ⟨c, port⟩ := State.retryFail_last last
    refine ⟨_, execRetryFailed_told told, ?_⟩
    rw [port]
    exact ⟨rfl, rfl, by simp [Retry.exhausted, free]⟩
  · refine ⟨_, execRetryQualified_restarts attached told, ?_⟩
    simp [State.newcomer]
  · refine ⟨_, execOpenPortVbus_open gate sink rd, ?_⟩
    rw [State.wakeReq_port, State.wakeReq_deep (show (s.vbusShown p).pwr.dev = .deep from deep), State.vbusShown, State.modCc_eq,
      State.modPort_port_self, State.modPath_eq, State.modPort_port_self]
    exact ⟨rfl, rfl, by simp [getLsbD_setBit]⟩
  · obtain ⟨state, rp, lock, on, window⟩ := s.stuckSwitch_port p mv
    exact ⟨_, execStuckSwitch_stuck gate dis high source newly, state, rp, lock, on, window, s.stuckSwitch_recorded p mv,
      State.faultLow_of_stuck ((s.stuckSwitch_awake p mv).awake awake) lock⟩
  · obtain ⟨u, c, run, port⟩ := execDetachDischargeDone_ends detached
    obtain ⟨state, alloc, -⟩ := Port.release_enabled (q := { s.port p with
      path := { (s.port p).path.discharged with detachMid := none }, sc := c }) (reserve := s.board.reserve) (st := .idle) enabled able
    refine ⟨u, run, ?_⟩
    rw [port]
    exact ⟨rfl, rfl, rfl, state, alloc⟩

end Sys2Proof.Machine
end

section
/-! SUPPORT. Feeds: reading one back, and the banks of the two that are never commanded closed together (R185). -/
namespace Sys2Proof.Machine

/-! ### One feed and the other -/

@[simp] theorem FeedId.other_other (f : FeedId) : f.other.other = f := by cases f <;> rfl
theorem FeedId.eq_or_other (f g : FeedId) : g = f ∨ g = f.other := by cases f <;> cases g <;> decide

@[simp] theorem State.modFeed_feed_self (s : State) (f : FeedId) (g : Feed → Feed) : (s.modFeed f g).feed f = g (s.feed f) := by
  cases f <;> rfl
@[simp] theorem State.modFeed_feed_other (s : State) (f : FeedId) (g : Feed → Feed) : (s.modFeed f g).feed f.other = s.feed f.other := by
  cases f <;> rfl
theorem State.feed_of_feeds {s u : State} (a : u.feedA = s.feedA) (b : u.feedB = s.feedB) (f : FeedId) : u.feed f = s.feed f := by
  cases f
  exacts [a, b]

theorem State.setFeedWin_eq (s : State) (f : FeedId) (v : Word) : s.setFeedWin f v =
    s.modFeed f fun q => { q with ov := bits v 20 10, uvq := bits v 10 10, uvt := bits v 0 10 } := by cases f <;> rfl
theorem State.setFeedRate_eq (s : State) (f : FeedId) (v : Word) : s.setFeedRate f v =
    s.modFeed f fun q => { q with rated := bits v 20 12, shunt := bits v 12 8, ftmv := bits v 4 8, ig := bits v 0 4 } := by cases f <;> rfl

/-! ### A bank commanded closed -/

theorem Feed.gateOk_iff (q : Feed) : q.gateOk = true ↔ (q.gate = true → (q.state = .inrush ∨ q.state = .active) ∧ q.offOk = false) := by
  unfold Feed.gateOk
  cases q.gate <;> simp

theorem Feed.gateOk_of_shut {q : Feed} (shut : q.gate = false) : q.gateOk = true := by simp [Feed.gateOk, shut]

/-- A feed that neither conducts nor closes has its bank commanded open. -/
theorem Feed.shut_of_idle {q : Feed} (ok : q.gateOk = true) (inrush : q.state ≠ .inrush) (active : q.state ≠ .active) : q.gate = false := by
  by_contra gate
  obtain ⟨i | a, -⟩ := q.gateOk_iff.mp ok (by simpa using gate)
  exacts [inrush i, active a]

theorem Feed.shut_of_rest {q : Feed} (ok : q.gateOk = true) (rest : q.state.busy = false) : q.gate = false :=
  q.shut_of_idle ok (fun e => by simp [e, FeedState.busy] at rest) (fun e => by simp [e, FeedState.busy] at rest)

theorem Feed.shut_of_offOk {q : Feed} (ok : q.gateOk = true) (off : q.offOk = true) : q.gate = false := by
  by_contra gate
  have closed := (q.gateOk_iff.mp ok (by simpa using gate)).2
  simp [off] at closed

/-! ### Qualification (R190) -/

@[simp] theorem Feed.qualify_gate (q : Feed) (seated : Bool) (now : Nat) : (q.qualify seated now).gate = q.gate := by
  unfold Feed.qualify
  dsimp only
  repeat' split
  all_goals rfl

@[simp] theorem Feed.qualify_offOk (q : Feed) (seated : Bool) (now : Nat) : (q.qualify seated now).offOk = q.offOk := by
  unfold Feed.qualify
  dsimp only
  repeat' split
  all_goals rfl

/-- A feed on its way in or out keeps its state (R190). -/
theorem Feed.qualify_state_of_busy {q : Feed} (busy : q.state.busy = true) (seated : Bool) (now : Nat) :
    (q.qualify seated now).state = q.state := by
  unfold Feed.qualify
  cases e : q.state <;> simp_all [FeedState.busy]

/-! ### What closes no bank -/

/-- From `q` to `r` a feed's bank is still one that conducts or closes when it is commanded closed, and it has not been closed. -/
structure Feed.NotClosed (q r : Feed) : Prop where
  sound : q.gateOk = true → r.gateOk = true
  gate : r.gate = true → q.gate = true

namespace Feed.NotClosed

/-- An update that leaves the gate, the state and the off confirmation alone; that it does is found by unfolding it. -/
theorem same {q r : Feed} (gate : r.gate = q.gate := by rfl) (state : r.state = q.state := by rfl) (off : r.offOk = q.offOk := by rfl) :
    NotClosed q r :=
  ⟨fun ok => by unfold Feed.gateOk; rw [gate, state, off]; exact ok, fun g => gate ▸ g⟩

theorem shut {q r : Feed} (shut : r.gate = false := by rfl) : NotClosed q r :=
  ⟨fun _ => gateOk_of_shut shut, fun g => by simp [shut] at g⟩

/-- A feed that is not on its way in or out may be taken to any state, its gate left alone. -/
theorem rest {q r : Feed} (rest : q.state.busy = false) (gate : r.gate = q.gate := by rfl) : NotClosed q r :=
  ⟨fun ok => gateOk_of_shut (gate.trans (shut_of_rest ok rest)), fun g => gate ▸ g⟩

theorem qualify (q : Feed) (seated : Bool) (now : Nat) : NotClosed q (q.qualify seated now) := by
  cases busy : q.state.busy
  · exact .rest busy (q.qualify_gate seated now)
  · exact .same (q.qualify_gate seated now) (Feed.qualify_state_of_busy busy seated now) (q.qualify_offOk seated now)

theorem clearRetry (q : Feed) : NotClosed q q.clearRetry := by
  by_cases backoff : q.state = .backoff
  · exact .rest (by rw [backoff]; rfl)
  · exact .same rfl (by simp [Feed.clearRetry, backoff])

end Feed.NotClosed

/-- Each bank commanded closed is one that conducts or closes, and the bank of the other feed is then commanded open (R185). -/
structure State.BanksApart (s : State) : Prop where
  sound : ∀ f, (s.feed f).gateOk = true
  apart : ∀ f, (s.feed f).gate = true → (s.feed f.other).gate = false

theorem State.banksWf_iff (s : State) : s.banksWf = true ↔ s.BanksApart := by
  unfold State.banksWf
  rw [Bool.and_eq_true, Bool.and_eq_true]
  constructor
  · rintro ⟨⟨a, b⟩, apart⟩
    refine ⟨fun f => by cases f; exacts [a, b], fun f g => ?_⟩
    cases f <;> simp_all [State.feed, FeedId.other]
  · intro h
    refine ⟨⟨h.sound .fda, h.sound .fdb⟩, ?_⟩
    have apart := h.apart .fda
    simp only [State.feed, FeedId.other] at apart
    cases g : s.feedA.gate <;> simp_all

/-- What an outcome leaves keeps the banks apart. -/
def Out.BanksApart (o : Out) : Prop := ∀ u, o = .next u → u.BanksApart

/-- What a move of a core leaves keeps the banks apart. -/
def MoveEnd.BanksApart : MoveEnd → Prop
  | .done u _ _ => u.BanksApart
  | .wait u _ => u.BanksApart
  | .fault .. => True

theorem MoveEnd.BanksApart.ite {c : Prop} [Decidable c] {a b : MoveEnd} (h : a.BanksApart) (k : b.BanksApart) :
    (if c then a else b).BanksApart := by split <;> assumption

namespace Out.BanksApart

variable {s : State}

theorem ok (h : s.BanksApart) : Out.BanksApart (ok s) := fun _ e => Host.Outcome.next.inj e ▸ h

theorem ite {c : Prop} [Decidable c] {a b : Out} (h : Out.BanksApart a) (k : Out.BanksApart b) : Out.BanksApart (if c then a else b) := by
  split <;> assumption

end Out.BanksApart

namespace State.BanksApart

variable {s u : State} {p : PortId}

/-- What leaves both feeds alone; that it does is found by unfolding it. -/
theorem same (h : BanksApart s) (a : u.feedA = s.feedA := by rfl) (b : u.feedB = s.feedB := by rfl) : BanksApart u := by
  have e := State.feed_of_feeds a b
  exact ⟨fun f => e f ▸ h.sound f, fun f g => e f.other ▸ h.apart f (e f ▸ g)⟩

theorem frame {P : PortId → Prop} (h : BanksApart s) (k : State.Frame P s u) : BanksApart u := h.same k.feeds.1 k.feeds.2

theorem modFeed {f : FeedId} {g : Feed → Feed} (h : BanksApart s) (k : Feed.NotClosed (s.feed f) (g (s.feed f)) := by exact .same) :
    BanksApart (s.modFeed f g) := by
  refine ⟨fun d => ?_, fun d gate => ?_⟩
  · obtain rfl | rfl := f.eq_or_other d
    · rw [State.modFeed_feed_self]
      exact k.sound (h.sound d)
    · rw [State.modFeed_feed_other]
      exact h.sound _
  · obtain rfl | rfl := f.eq_or_other d
    · rw [State.modFeed_feed_self] at gate
      rw [State.modFeed_feed_other]
      exact h.apart d (k.gate gate)
    · rw [State.modFeed_feed_other] at gate
      rw [FeedId.other_other, State.modFeed_feed_self]
      by_contra g
      have := h.apart f (k.gate (by simpa using g))
      simp [this] at gate

/-- A bank is closed only while the other one is commanded open. -/
theorem toInrush {f : FeedId} (h : BanksApart s) (shut : (s.feed f.other).gate = false) : BanksApart (s.toInrush f) := by
  unfold State.toInrush
  refine ⟨fun d => ?_, fun d gate => ?_⟩
  · obtain rfl | rfl := f.eq_or_other d
    · rw [State.modFeed_feed_self]
      rfl
    · rw [State.modFeed_feed_other]
      exact h.sound _
  · obtain rfl | rfl := f.eq_or_other d
    · rw [State.modFeed_feed_other]
      exact shut
    · rw [State.modFeed_feed_other, shut] at gate
      cases gate

/-! ### Updates of one record -/

theorem modPort {f : Port → Port} (h : BanksApart s) : BanksApart (s.modPort p f) := h.same
theorem modPath {f : Path → Path} (h : BanksApart s) : BanksApart (s.modPath p f) := h.same
theorem modCc {f : Cc → Cc} (h : BanksApart s) : BanksApart (s.modCc p f) := h.same
theorem modPd {f : Pd → Pd} (h : BanksApart s) : BanksApart (s.modPd p f) := h.same
theorem modPol {f : Pol → Pol} (h : BanksApart s) : BanksApart (s.modPol p f) := h.same
theorem modRally {f : Rally → Rally} (h : BanksApart s) : BanksApart (s.modRally p f) := h.same
theorem modRetry {f : Retry → Retry} (h : BanksApart s) : BanksApart (s.modRetry p f) := h.same
theorem modSb {f : Sb → Sb} (h : BanksApart s) : BanksApart (s.modSb p f) := h.same
theorem modSc {f : Sched → Sched} (h : BanksApart s) : BanksApart (s.modSc p f) := h.same
theorem modCnt {f : Cnts → Cnts} (h : BanksApart s) : BanksApart (s.modCnt p f) := h.same
theorem modTile {k : TileId} {f : Tile → Tile} (h : BanksApart s) : BanksApart (s.modTile k f) := h.same
theorem modCfg {f : Cfg → Cfg} (h : BanksApart s) : BanksApart (s.modCfg f) := h.same
theorem modBoard {f : Board → Board} (h : BanksApart s) : BanksApart (s.modBoard f) := h.same
theorem modLink {f : Link → Link} (h : BanksApart s) : BanksApart (s.modLink f) := h.same
theorem modRef {f : Ref → Ref} (h : BanksApart s) : BanksApart (s.modRef f) := h.same
theorem modPwr {f : Pwr → Pwr} (h : BanksApart s) : BanksApart (s.modPwr f) := h.same
theorem modCores {f : Cores → Cores} (h : BanksApart s) : BanksApart (s.modCores f) := h.same
theorem modFuse {f : Fuse → Fuse} (h : BanksApart s) : BanksApart (s.modFuse f) := h.same
theorem modHud {f : Huddle → Huddle} (h : BanksApart s) : BanksApart (s.modHud f) := h.same
theorem modSvc {f : Svc → Svc} (h : BanksApart s) : BanksApart (s.modSvc f) := h.same
theorem modUpd {f : Upd → Upd} (h : BanksApart s) : BanksApart (s.modUpd f) := h.same
theorem modCore {k : CoreId} {f : Core → Core} (h : BanksApart s) : BanksApart (s.modCore k f) := h.same
theorem withMeas {m : Meas} (h : BanksApart s) : BanksApart { s with meas := m } := h.same
theorem withCore {c : Vector Core 4} (h : BanksApart s) : BanksApart { s with core := c } := h.same
theorem modRing {n : Nat} {f : Ring → Ring} (h : BanksApart s) : BanksApart (s.modRing n f) :=
  h.same (s.modRing_feedA n f) (s.modRing_feedB n f)

/-! ### Pairs, decisions and folds -/

theorem of_fst {α : Type} {x : State × α} {a : α} (h : BanksApart x.1) (e : x = (u, a)) : BanksApart u := by
  rw [e] at h
  exact h

theorem of_snd {α : Type} {x : α × State} {a : α} (h : BanksApart x.2) (e : x = (a, u)) : BanksApart u := by
  rw [e] at h
  exact h

/-- The first of a pair that is written out. -/
theorem pair {α : Type} {a : α} (h : BanksApart s) : BanksApart (s, a).1 := h

theorem getD {o : Option State} (h : BanksApart s) (ho : ∀ u, o = some u → BanksApart u) : BanksApart (o.getD s) := by
  cases o with
  | none => exact h
  | some u => exact ho u rfl

/-- Both branches of a decision keep the banks apart. -/
theorem either {c : Prop} [Decidable c] (h : BanksApart s) (k : BanksApart u) : BanksApart (if c then s else u) := by
  split <;> assumption

theorem foldl {α : Type} {f : State → α → State} {l : List α} (h : BanksApart s) (hf : ∀ s a, BanksApart s → BanksApart (f s a)) :
    BanksApart (l.foldl f s) := by
  induction l generalizing s with
  | nil => exact h
  | cons a l ih => exact ih (hf s a h)

theorem foldlFst {α β : Type} {f : State × β → α → State × β} {l : List α} {a : State × β} (h : BanksApart a.1)
    (hf : ∀ a x, BanksApart a.1 → BanksApart (f a x).1) : BanksApart (l.foldl f a).1 := by
  induction l generalizing a with
  | nil => exact h
  | cons x l ih => exact ih (hf a x h)

theorem of_none (e : none = some u) : BanksApart u := nomatch e

/-- What both answers of a decision between two outcomes end in, the decision's outcome ends in. -/
theorem of_ite {c : Prop} [Decidable c] {a b : Option State} (ha : a = some u → BanksApart u) (hb : b = some u → BanksApart u)
    (e : (if c then a else b) = some u) : BanksApart u := by
  split at e
  exacts [ha e, hb e]

end State.BanksApart

end Sys2Proof.Machine
end

section
/-! SUPPORT. The operations that several chapters share touch no bank (R185). -/
set_option Elab.async false
namespace Sys2Proof.Machine

variable {s u : State} {vid pid : BitVec 16} {b now irq keep epr reply take host counts : Bool} {d : Desc} {e : Evt} {xs : List Tripping}
  {vdos : List Word} {c : LostCause} {v n a mem off lo code op detail was seg reason sub target pre : Nat} {o : Offer} {m : Option Msg}
  {port : Option PortId} {tile : Option TileId} {p : PortId} {r : Post} {g : Signal} {k : WaitFor} {extra : WaitFor → Bool} {f : Waiting → Bool}
  {data h1 vdo : Word}

namespace State.BanksApart

/-! ### The operations several chapters share -/

theorem setFence {k : Nat} (h : BanksApart s) : BanksApart (s.setFence k b) := h.same
theorem setPowered {k : Nat} (h : BanksApart s) : BanksApart (s.setPowered k b) := h.same
theorem raise (h : BanksApart s) : BanksApart (s.raise v) := h.frame (s.raise_frame (P := fun _ => True) ..)
theorem ringWrite {e : OutEntry} (h : BanksApart s) : BanksApart (s.ringWrite n e now) := h.frame (s.ringWrite_frame (P := fun _ => True) ..)
theorem markSummary {p : Option PortId} (h : BanksApart s) : BanksApart (s.markSummary p) := h.frame (s.markSummary_frame (P := fun _ => True) ..)
theorem writeEvt (h : BanksApart s) : BanksApart (s.writeEvt e) := h.frame (s.writeEvt_frame (P := fun _ => True) ..)
theorem holdEvt (h : BanksApart s) : BanksApart (s.holdEvt e) := h.frame (s.holdEvt_frame (P := fun _ => True) ..)
theorem postEvt {p : Option PortId} {b : EvtBody} (h : BanksApart s) : BanksApart (s.postEvt p b) := h.frame (s.postEvt_frame (P := fun _ => True) ..)
theorem drainBacklog (h : BanksApart s) : BanksApart (s.drainBacklog a) := h.frame (s.drainBacklog_frame (P := fun _ => True) ..)

theorem refRecord {c : Nat} (h : BanksApart s) : BanksApart (s.refRecord c tile port) := by
  unfold State.refRecord
  exact either h.same.raise h.same

theorem eccError (h : BanksApart s) : BanksApart (s.eccError mem off) := h.same.refRecord
theorem unpoison (h : BanksApart s) : BanksApart (s.unpoison mem lo n) := h.frame (s.unpoison_frame (P := fun _ => True) ..)

theorem softFix (h : BanksApart s) : BanksApart (s.softFix mem lo n) := by
  unfold State.softFix
  exact either h h.same

theorem toRun (h : BanksApart s) : BanksApart s.toRun := h.frame (s.toRun_frame (P := fun _ => True) ..)
theorem arrive (h : BanksApart s) : BanksApart s.arrive := h.frame (s.arrive_frame (P := fun _ => True) ..)
theorem enqueue {e : QEv} (h : BanksApart s) : BanksApart (s.enqueue p e) := h.frame (s.enqueue_frame ..)
theorem queueFault (h : BanksApart s) : BanksApart (s.queueFault p code data) := h.frame (s.queueFault_frame ..)
theorem dropReport (h : BanksApart s) : BanksApart (s.dropReport p) := h.frame (s.dropReport_frame ..)
theorem queueEv {e : QEv} (h : BanksApart s) : BanksApart (s.queueEv p e) := h.frame (s.queueEv_frame ..)
theorem queueMsg (h : BanksApart s) : BanksApart (s.queueMsg p code data) := h.frame (s.queueMsg_frame ..)
theorem queueHk (h : BanksApart s) : BanksApart (s.queueHk p code data) := h.frame (s.queueHk_frame ..)

theorem refillQueue (h : BanksApart s) : BanksApart (s.refillQueue p) := by
  unfold State.refillQueue
  extract_lets c s1 c1 s2 c2 s3
  have h1 : BanksApart s1 := either h.same.queueFault h
  have h2 : BanksApart s2 := by
    unfold s2
    split; exacts [either h1.modSc.queueEv h1, h1]
  have h3 : BanksApart s3 := by
    unfold s3
    split; exacts [either h2.modSc.queueHk h2, h2]
  split; exacts [either h3.modSc.postEvt h3, h3]

theorem drained (h : BanksApart s) : BanksApart (s.drained n) := h.frame (s.drained_frame (P := fun _ => True) ..)
theorem complete {c : Cpl} (h : BanksApart s) : BanksApart (s.complete c irq) := h.frame (s.complete_frame (P := fun _ => True) ..)
theorem cplDesc {code : CplCode} {data : List Byte} (h : BanksApart s) : BanksApart (s.cplDesc d op code detail data) :=
  h.frame (s.cplDesc_frame (P := fun _ => True) ..)
theorem cplOk (h : BanksApart s) : BanksApart (s.cplOk d op) := h.frame (s.cplOk_frame (P := fun _ => True) ..)
theorem finish {code : CplCode} {data : List Byte} (h : BanksApart s) : BanksApart (s.finish f code detail data) :=
  h.frame (s.finish_frame (P := fun _ => True) ..)
theorem finishPort {code : CplCode} {data : List Byte} (h : BanksApart s) : BanksApart (s.finishPort p k code data) :=
  h.frame (s.finishPort_frame (P := fun _ => True) ..)
theorem wait (h : BanksApart s) : BanksApart (s.wait d op port k) := h.frame (s.wait_frame (P := fun _ => True) ..)
theorem freeWord (h : BanksApart s) : BanksApart s.freeWord.2 := h.same

/-! ### The power path -/

theorem sigSend (h : BanksApart s) : BanksApart (s.sigSend p g) := h.frame (s.sigSend_frame ..)
theorem abandonTable (h : BanksApart s) : BanksApart (s.abandonTable p) := h.frame (s.abandonTable_frame ..)
theorem calAbort (h : BanksApart s) : BanksApart (s.calAbort p) := h.frame (s.calAbort_frame ..)
theorem capFire {k : CapTrigger} (h : BanksApart s) : BanksApart (s.capFire p k) := h.frame (s.capFire_frame (P := fun _ => True) ..)
theorem startTable (h : BanksApart s) : BanksApart (s.startTable p n r) := h.frame (s.startTable_frame ..)
theorem post (h : BanksApart s) : BanksApart (s.post p r) := h.frame (s.post_frame ..)
theorem portSafe (h : BanksApart s) : BanksApart (s.portSafe p) := h.frame (s.portSafe_frame ..)
theorem portForce (h : BanksApart s) : BanksApart (s.portForce p) := h.frame (s.portForce_frame ..)
theorem retryFail (h : BanksApart s) : BanksApart (s.retryFail p) := h.frame (s.retryFail_frame ..)
theorem retryTrip {c : TripCause} (h : BanksApart s) : BanksApart (s.retryTrip p c) := h.frame (s.retryTrip_frame ..)

/-! ### The policy -/

theorem toTx {m : TxMsg} (h : BanksApart s) : BanksApart (s.toTx p m) := h.frame (s.toTx_frame ..)
theorem send {m : TxMsg} (h : BanksApart s) : BanksApart (s.send p m) := h.frame (s.send_frame ..)
theorem sendNext (h : BanksApart s) : BanksApart (s.sendNext p) := h.frame (s.sendNext_frame ..)
theorem sendCtl {k : MsgKind} {e : Expect} (h : BanksApart s) : BanksApart (s.sendCtl p k e) := h.frame (s.sendCtl_frame ..)
theorem endContract (h : BanksApart s) : BanksApart (s.endContract p c) := h.frame (s.endContract_frame ..)
theorem rallyEnd {post : Bool} (h : BanksApart s) : BanksApart (s.rallyEnd p post) := h.frame (s.rallyEnd_frame ..)
theorem reportHold (h : BanksApart s) : BanksApart (s.reportHold p) := h.frame (s.reportHold_frame ..)
theorem pdStop (h : BanksApart s) : BanksApart (s.pdStop p) := h.frame (s.pdStop_frame ..)
theorem abortDescs (h : BanksApart s) : BanksApart (s.abortDescs p extra) := h.frame (s.abortDescs_frame (P := fun _ => True) ..)
theorem attachEnds (h : BanksApart s) : BanksApart (s.attachEnds p) := h.frame (s.attachEnds_frame ..)
theorem errorRecovery (h : BanksApart s) : BanksApart (s.errorRecovery p c) := h.frame (s.errorRecovery_frame ..)
theorem hardResetDone (h : BanksApart s) : BanksApart (s.hardResetDone p c) := h.frame (s.hardResetDone_frame ..)
theorem hardResetSent (h : BanksApart s) : BanksApart (s.hardResetSent p c keep) := h.frame (s.hardResetSent_frame ..)
theorem hardReset (h : BanksApart s) : BanksApart (s.hardReset p c keep) := h.frame (s.hardReset_frame ..)
theorem softReset (h : BanksApart s) : BanksApart (s.softReset p) := h.frame (s.softReset_frame ..)
theorem protocolError (h : BanksApart s) : BanksApart (s.protocolError p) := h.frame (s.protocolError_frame ..)
theorem offerGoes {m : TxMsg} (h : BanksApart s) : BanksApart (s.offerGoes p o epr m) := h.frame (s.offerGoes_frame ..)
theorem sendOffer (h : BanksApart s) : BanksApart (s.sendOffer p epr reply) := h.frame (s.sendOffer_frame ..)
theorem abandonVdm (h : BanksApart s) : BanksApart (s.abandonVdm p) := either h h.same
theorem demandRose (h : BanksApart s) : BanksApart (s.demandRose p was) := either h.same h
theorem portTrip {c : TripCause} (h : BanksApart s) : BanksApart (s.portTrip p c seg) := h.frame (s.portTrip_frame ..)

theorem tripCycle (h : BanksApart s) : BanksApart (s.tripCycle p xs) := by
  unfold State.tripCycle
  extract_lets ys cause s1
  have h1 : BanksApart s1 := h.foldl fun _ _ h => by
    split; exacts [h.postEvt, h.postEvt, h]
  unfold cause
  split; exacts [h, either h1.portTrip (either h h1)]

/-! ### Replies and completions -/

theorem passMsg {m : Msg} (h : BanksApart s) : BanksApart (s.passMsg p m) := by
  unfold State.passMsg
  exact either h.same (either h.same.ringWrite.modLink h.same)

theorem replyToHost {m : Msg} (h : BanksApart s) : BanksApart (s.replyToHost p k m) := by
  unfold State.replyToHost
  split; exacts [h, either h.ringWrite.finishPort h.finishPort]

theorem sendVdm {k : Sop} {r : VdmReq} (h : BanksApart s) : BanksApart (s.sendVdm p k r h1 vdos) := h.same.send

theorem sopNext (h : BanksApart s) : BanksApart (s.sopNext p) := by
  unfold State.sopNext
  dsimp only
  refine either h ?_
  split; exacts [either h h.same.sendVdm, either h h.same.sendVdm, h.sendVdm, h.sendVdm, either h.sendVdm h.same, h]

theorem discAttempt (h : BanksApart s) : BanksApart (s.discAttempt p) := by
  unfold State.discAttempt
  exact either h.sendVdm h

theorem swapSend (h : BanksApart s) : BanksApart (s.swapSend p take host) := h.same.send
theorem eprFail (h : BanksApart s) : BanksApart (s.eprFail p reason) := h.same.send

theorem eprCheck (h : BanksApart s) : BanksApart (s.eprCheck p) := by
  unfold State.eprCheck
  dsimp only
  refine either h.eprFail ?_
  refine either h.eprFail ?_
  refine either (either h.eprFail h.same.swapSend) ?_
  split; exacts [h.same.send, either h h.same.discAttempt, h.eprFail]

theorem offerDue (h : BanksApart s) : BanksApart (s.offerDue p) := by
  unfold State.offerDue
  exact either h.sendOffer h

theorem offerChange (h : BanksApart s) : BanksApart (s.offerChange p) := by
  unfold State.offerChange
  exact either h h.same.offerDue

theorem vdmTell (h : BanksApart s) : BanksApart (s.vdmTell p sub m h1) := by
  unfold State.vdmTell
  split; exacts [h.postEvt.passMsg, h.postEvt]

theorem rallyExit (h : BanksApart s) : BanksApart (s.rallyExit p) := either h.rallyEnd.sendVdm h

theorem noticeCheck (h : BanksApart s) : BanksApart (s.noticeCheck p) := by
  unfold State.noticeCheck
  exact either h.same h

theorem noticeNext (h : BanksApart s) : BanksApart (s.noticeNext p) := by
  unfold State.noticeNext
  exact either (either h.rallyExit h.same.sendVdm) h

theorem owedNext (h : BanksApart s) : BanksApart (s.owedNext p) := by
  unfold State.owedNext
  dsimp only
  exact either h (by split; exacts [h.same.sendVdm, h.same.sendVdm, h])

theorem curtailSend (h : BanksApart s) : BanksApart (s.curtailSend p target pre) := h.same.owedNext
theorem restoreSend (h : BanksApart s) : BanksApart (s.restoreSend p) := h.same.owedNext

theorem cableEnd {c : CableClass} (h : BanksApart s) : BanksApart (s.cableEnd p c vid pid vdo) := by
  unfold State.cableEnd
  extract_lets s1 s2 s3
  have h2 : BanksApart s2 := h.same.postEvt.finishPort
  have h3 : BanksApart s3 := either h2.eprCheck h2
  exact (either h3.offerChange h3).sopNext

theorem startCable (h : BanksApart s) : BanksApart (s.startCable p) := by
  unfold State.startCable
  dsimp only
  exact either h (by split; exacts [h.cableEnd, either h.cableEnd (either h h.same.discAttempt), h])

theorem swapAgain (h : BanksApart s) : BanksApart (s.swapAgain p) := by
  unfold State.swapAgain
  exact either h (either h.swapSend (either h.same.finishPort.eprCheck h.same.finishPort))

theorem goNext (h : BanksApart s) : BanksApart (s.goNext p) := by
  unfold State.goNext
  exact h.swapAgain.sendNext.offerDue.startCable.owedNext.sopNext.noticeNext

theorem enterReady (h : BanksApart s) : BanksApart (s.enterReady p) := h.same.goNext
theorem seqEnds (h : BanksApart s) : BanksApart (s.seqEnds p) := h.same.goNext
theorem notSupported (h : BanksApart s) : BanksApart (s.notSupported p) := either h.sendCtl h.goNext

theorem swapDone {c : CplCode} (h : BanksApart s) : BanksApart (s.swapDone p c) := by
  unfold State.swapDone
  extract_lets q s1 s2
  have h1 : BanksApart s1 := h.same.finishPort
  have h2 : BanksApart s2 := either (either h1.eprCheck h1.eprFail) h1
  exact either h2.goNext h2

theorem ladderOn (h : BanksApart s) : BanksApart (s.ladderOn p) := h.same.offerChange
theorem pledgeBroken (h : BanksApart s) : BanksApart (s.pledgeBroken p m) := h.same.vdmTell.ladderOn

theorem noticeNak (h : BanksApart s) : BanksApart (s.noticeNak p counts m) := by
  unfold State.noticeNak
  exact either h.same.rallyExit h.same

theorem svidsEnd (h : BanksApart s) : BanksApart (s.svidsEnd p m) := h.same.vdmTell

theorem vdmNak {r : VdmReq} (h : BanksApart s) : BanksApart (s.vdmNak p r m) := by
  unfold State.vdmNak
  dsimp only
  split
  · exact either h.cableEnd (either (either h.eprFail h).cableEnd (either h.eprFail h))
  · exact h.svidsEnd
  · exact h.same
  · exact h.same
  · exact h.same
  · exact h.noticeNak
  · exact h.pledgeBroken
  · exact h.finishPort
  · exact h

theorem policyReply {m : Msg} (h : BanksApart s) : BanksApart (s.policyReply p m) := by
  unfold State.policyReply
  dsimp only
  refine either h.same.finishPort.goNext ?_
  split
  · exact either h.same.sendOffer h
  · split; exacts [h.same.finishPort.goNext, h.same.replyToHost.goNext]
  · refine either h ?_
    split; exacts [either h.same.post h.same, either h.same.swapDone h.same, h.same.swapDone, h.same.swapDone, h]
  · exact either h.same.post h
  · exact either h.same.goNext h
  · exact either h.same.goNext h
  · exact h

end State.BanksApart

end Sys2Proof.Machine
end

section
/-! SUPPORT. The CC watch and the power path touch no bank (R185). -/
set_option Elab.async false
namespace Sys2Proof.Machine

variable {s u : State} {o : AttachOutcome} {e : BitVec 64} {f : BitVec 64 → State} {mid vs0 counted line2 pass rival : Bool} {l1 l2 : LineCode}
  {also_ : List Tripping} {k idx vb mv1 mv2 mv act n ma new q d : Nat} {p : PortId} {r : Post} {c : TripCause} {w : WaitView}

namespace State.BanksApart

/-! ### The CC watch -/

theorem wakeReq (h : BanksApart s) : BanksApart (s.wakeReq k) := by
  unfold State.wakeReq
  split; exacts [h.same, either h.toRun h, h]

theorem attach (h : BanksApart s) : BanksApart (s.attach p) := by
  unfold State.attach
  dsimp only
  split
  · exact h
  · exact either h (either h.same.postEvt.modCnt (either h.same.postEvt.modCnt (either h.same h.same.post)))

theorem detach (h : BanksApart s) : BanksApart (s.detach p mid) := h.portForce.attachEnds.modPort

theorem cmpStuck (h : BanksApart s) : BanksApart (s.cmpStuck p idx) := by
  unfold State.cmpStuck
  exact h.portSafe.endContract.attachEnds.modPort.postEvt.queueFault.refRecord

theorem watchPairing (h : BanksApart s) : BanksApart (s.watchPairing p l1 l2) := by
  unfold State.watchPairing
  exact either (either h.same.wakeReq h.same) h.same

theorem execWatchSample (h : BanksApart s) : Out.BanksApart (execWatchSample p l1 l2 s) := by
  unfold Machine.execWatchSample
  dsimp only
  split
  · exact .ite (.ok h.watchPairing) (.ok h)
  · exact .ite (.ok h.watchPairing) (.ok h)
  · exact .ite (.ite (.ok h.same.watchPairing) (.ok h.same)) (.ok h)
  · exact .ite (.ite (.ok h.same.watchPairing) (.ok h.same)) (.ok h)
  · exact .ite (.ite (.ok h.same.detach) (.ok h.same)) (.ok h)
  · exact .ok h

theorem execRpHoldTimeout (h : BanksApart s) : Out.BanksApart (execRpHoldTimeout p s) := .ite (.ok h.same) (.ok h)

theorem waitSample (h : BanksApart s) : BanksApart (s.waitSample p l1 l2) := by
  unfold State.waitSample
  exact either h.same (either (either h.same h.same) (either h.same h.same))

theorem attachIfDue (h : BanksApart s) : BanksApart (s.attachIfDue p) := by
  unfold State.attachIfDue
  exact either h.attach h

theorem execAttachWaitSample (h : BanksApart s) : Out.BanksApart (execAttachWaitSample p l1 l2 s) := .ite (.ok h.waitSample.attachIfDue) (.ok h)
theorem execCcDebounceDone (h : BanksApart s) : Out.BanksApart (execCcDebounceDone p l1 l2 vb vs0 s) :=
  .ite (.ite (.ok h.waitSample.modPort.modCc) (.ite (.ok h.waitSample.modCc.attachIfDue) (.ok h.waitSample))) (.ok h)
theorem execAttachVbusCleared (h : BanksApart s) : Out.BanksApart (execAttachVbusCleared p vb vs0 s) := .ite (.ok h.same.attachIfDue) (.ok h)

theorem execDetachSample (h : BanksApart s) : Out.BanksApart (execDetachSample p mv1 mv2 counted also_ s) := by
  unfold Machine.execDetachSample
  exact .ite (.ok h) (.ite (.ok h.same) (.ite (.ite (.ite (.ok h.same.tripCycle.detach) (.ok h.same)) (.ok h.same)) (.ok h)))

theorem execCcOvervolt (h : BanksApart s) : Out.BanksApart (execCcOvervolt p line2 mv s) := by
  refine .ite (.ok h) ?_
  refine .ok ?_
  refine modCc ?_
  refine either (either h.portSafe h).postEvt.queueFault.endContract ?_
  exact (either h.portSafe h).postEvt.queueFault.endContract.attachEnds.modRetry

theorem execCcHoldOffEnd (h : BanksApart s) : Out.BanksApart (execCcHoldOffEnd p s) := .ite (.ok h) (.ite (.ok h.same) (.ok h.same))

theorem execCcComparatorTest (h : BanksApart s) : Out.BanksApart (execCcComparatorTest p idx pass s) := by
  unfold Machine.execCcComparatorTest
  exact .ite (.ok h.same) (.ite (.ok h.same) (.ite (.ok h) (.ok h.cmpStuck)))

theorem bootAttach (h : BanksApart s) : BanksApart (s.bootAttach p) := h.postEvt.modCnt.modCc
theorem execBootSinkAttach (h : BanksApart s) : Out.BanksApart (execBootSinkAttach p line2 mv s) :=
  .ite (.ite (.ok h.same.bootAttach) (.ok h.same)) (.ok h)
theorem execBootRdRelease (h : BanksApart s) : Out.BanksApart (execBootRdRelease p s) := .ite (.ite (.ok h.same) (.ok h.same)) (.ok h)
theorem execBootSinkDetach (h : BanksApart s) : Out.BanksApart (execBootSinkDetach p s) :=
  .ite (.ite (.ok h.calAbort.postEvt.queueFault.modPort.modSb) (.ok h.calAbort.postEvt.queueFault.modPort)) (.ok h)

/-! ### The power-path sequencer -/

theorem stepOk (h : BanksApart s) : BanksApart (s.stepOk p e) := either h.same h.same
theorem stepTo (h : BanksApart s) : BanksApart (s.stepTo p e c) := either h.portTrip (either h.same h.same)
theorem stepWait (h : BanksApart s) : BanksApart (s.stepWait p e) := either h.stepOk h.same
theorem stepAct (h : BanksApart s) (hf : ∀ x0, BanksApart (f x0)) : Out.BanksApart (s.stepAct p act f) := .ite (.ok ((hf _).stepWait)) (.ok h)
theorem execPowerPathPost (h : BanksApart s) : Out.BanksApart (execPowerPathPost p r s) := .ok h.post

theorem execQueuedPostStart (h : BanksApart s) : Out.BanksApart (execQueuedPostStart p s) := by
  unfold Machine.execQueuedPostStart
  split; exacts [.ite (.ok h) (.ok h.same.post), .ok h]

theorem execStNop (h : BanksApart s) : Out.BanksApart (execStNop p s) := h.stepAct (fun _ => h)
theorem execStSetDis (h : BanksApart s) : Out.BanksApart (execStSetDis p rival s) := h.stepAct (fun _ => either h h.same)
theorem execStSetTarget (h : BanksApart s) : Out.BanksApart (execStSetTarget p rival s) := h.stepAct fun _ => h.same

theorem execStSetRp (h : BanksApart s) : Out.BanksApart (execStSetRp p rival s) := by
  unfold Machine.execStSetRp
  dsimp only
  refine h.stepAct fun _ => ?_
  refine either h ?_
  refine either ?_ h.same
  split
  · exact h.same.endContract.attachEnds.modPol.modCc
  · exact h.same.endContract.attachEnds.modPol.modCc
  · exact h.same.endContract.attachEnds.modPol.modCc
  · exact h.same.endContract.attachEnds.modPol.modCc
  · exact h.same

theorem execStSetVconn (h : BanksApart s) : Out.BanksApart (execStSetVconn p rival s) := by
  unfold Machine.execStSetVconn
  dsimp only
  refine h.stepAct fun _ => ?_
  refine either h ?_
  split; exacts [h.same, either (either h.same h.same) h, either h h.same]

theorem execStSignal (h : BanksApart s) : Out.BanksApart (execStSignal p s) := by
  unfold Machine.execStSignal
  dsimp only
  exact h.stepAct (fun _ => by split; exacts [h.same.sigSend, h.same])

theorem execStArmLimit (h : BanksApart s) : Out.BanksApart (execStArmLimit p s) := h.stepAct fun _ => h.same
theorem execStLoadWindow (h : BanksApart s) : Out.BanksApart (execStLoadWindow p s) := h.stepAct fun _ => h.same

theorem execStepWaitSuccess (h : BanksApart s) : Out.BanksApart (execStepWaitSuccess p w s) := by
  unfold Machine.execStepWaitSuccess
  exact .ite (.ok ((either h.same h).stepOk)) (.ok h)

theorem msgEvent (h : BanksApart s) : BanksApart (s.msgEvent p n) := by
  unfold State.msgEvent
  exact either h.stepOk h

theorem execStepWaitTimeout (h : BanksApart s) : Out.BanksApart (execStepWaitTimeout p s) := .ite (.ite (.ok h.stepOk) (.ok h.stepTo)) (.ok h)
theorem execUndervoltTrip (h : BanksApart s) : Out.BanksApart (execUndervoltTrip p mv also_ s) := .ok h.tripCycle
theorem execBreakerTick {ma : Int} (h : BanksApart s) : Out.BanksApart (execBreakerTick p ma mv s) := .ite (.ok h) (.ok h.same)
theorem execBreakerTrip (h : BanksApart s) : Out.BanksApart (execBreakerTrip p also_ s) := .ok h.tripCycle
theorem execFastTrip (h : BanksApart s) : Out.BanksApart (execFastTrip p ma also_ s) := .ok h.tripCycle
theorem execVbusOvervolt (h : BanksApart s) : Out.BanksApart (execVbusOvervolt p mv also_ s) := .ok h.tripCycle
theorem execReverseCurrent (h : BanksApart s) : Out.BanksApart (execReverseCurrent p ma also_ s) := .ok h.tripCycle
theorem execVconnOvercurrent (h : BanksApart s) : Out.BanksApart (execVconnOvercurrent p ma s) := .ite (.ok h.same.postEvt.queueFault) (.ok h)

theorem execTripDischargeDone (h : BanksApart s) : Out.BanksApart (execTripDischargeDone p s) := by
  unfold Machine.execTripDischargeDone
  exact .ite (.ite (.ok h.same) (.ok h.same)) (.ok h)

theorem execRetryProbeDue (h : BanksApart s) : Out.BanksApart (execRetryProbeDue p s) := by
  unfold Machine.execRetryProbeDue
  exact .ite (.ok h) (.ite (.ok h.same.post) (.ok h.wakeReq))

theorem execRetryQualifyClear (h : BanksApart s) : Out.BanksApart (execRetryQualifyClear p s) := .ite (.ok h.same) (.ok h)
theorem execRetryHoldExpiry (h : BanksApart s) : Out.BanksApart (execRetryHoldExpiry p s) := .ite (.ok h.same) (.ok h)
theorem execOpenPortVbus (h : BanksApart s) : Out.BanksApart (execOpenPortVbus p s) := .ite (.ok h.same.wakeReq) (.ok h)

theorem stuckSwitch (h : BanksApart s) : BanksApart (s.stuckSwitch p mv) := by
  unfold State.stuckSwitch
  exact ((h.calAbort.abandonTable.endContract.attachEnds.modPort).postEvt.queueFault).refRecord

theorem execStuckSwitch (h : BanksApart s) : Out.BanksApart (execStuckSwitch p mv s) := by
  unfold Machine.execStuckSwitch
  exact .ite (.ok h.stuckSwitch) (.ok h)

theorem execStuckDischargeEnd (h : BanksApart s) : Out.BanksApart (execStuckDischargeEnd p s) := .ite (.ok h.same) (.ok h)

theorem execDetachDischargeDone (h : BanksApart s) : Out.BanksApart (execDetachDischargeDone p s) := by
  unfold Machine.execDetachDischargeDone
  dsimp only
  split; exacts [.ok h.same.postEvt.queueFault.modPort, .ok h]

theorem newcomer (h : BanksApart s) : BanksApart (s.newcomer p) := by
  unfold State.newcomer
  exact h.same

theorem setAlloc {k : AllocKind} (h : BanksApart s) : BanksApart (s.setAlloc p k new) := by
  unfold State.setAlloc
  exact h.same.postEvt.queueMsg

theorem lowerAlloc (h : BanksApart s) : BanksApart (s.lowerAlloc p new) := either h h.setAlloc

theorem attachOutcome (h : BanksApart s) : BanksApart (s.attachOutcome p o) := by
  unfold State.attachOutcome
  exact either h.postEvt.modPort h

theorem armHard (h : BanksApart s) : BanksApart (s.armHard p q) := by
  unfold State.armHard
  exact h.same.post

theorem liftHard (h : BanksApart s) : BanksApart (s.liftHard p) := by
  unfold State.liftHard
  exact either h.same.post h

theorem leaveStartup (h : BanksApart s) : BanksApart (s.leaveStartup p) := either h.sendOffer h

theorem execVsafe5vOk (h : BanksApart s) : Out.BanksApart (execVsafe5vOk p s) := by
  unfold Machine.execVsafe5vOk
  refine .ite (.ok (either h.finishPort.modSb.modBoard.armHard h.finishPort).sendOffer) ?_
  exact .ite (.ite (.ok h.attachOutcome.modPol.leaveStartup) (.ok h.attachOutcome.modPol.newcomer)) (.ok h)

theorem execTransitionDone (h : BanksApart s) : Out.BanksApart (execTransitionDone p s) := by
  unfold Machine.execTransitionDone
  exact .ite (.ok h.send) (.ok h)

theorem execTransitionFail (h : BanksApart s) : Out.BanksApart (execTransitionFail p s) := .ite (.ok h.hardReset) (.ok h)

theorem execVsafe0vOk (h : BanksApart s) : Out.BanksApart (execVsafe0vOk p s) := by
  unfold Machine.execVsafe0vOk
  refine .ite (.ok h.same.finishPort) ?_
  exact .ite (.ok h.lowerAlloc.modPort) (.ite (.ok h.lowerAlloc.modSb) (.ite (.ok h.finishPort) (.ok h.same.finishPort)))

theorem execRetryQualified (h : BanksApart s) : Out.BanksApart (execRetryQualified p s) := .ite (.ok h.same.attachOutcome.modPol.newcomer) (.ok h)
theorem execRetryFailed (h : BanksApart s) : Out.BanksApart (execRetryFailed p s) := .ok h.attachOutcome.retryFail
theorem applyDecided (h : BanksApart s) : BanksApart (s.applyDecided p d) := h.lowerAlloc.modSb

theorem execLimitSet (h : BanksApart s) : Out.BanksApart (execLimitSet p s) := by
  unfold Machine.execLimitSet
  dsimp only
  split; exacts [.ite (.ok h.applyDecided) (.ite (.ok h.same) (.ok h)), .ok h]

theorem execVconnReady (h : BanksApart s) : Out.BanksApart (execVconnReady p s) := by
  unfold Machine.execVconnReady
  exact .ite (.ok h.same.send) (.ok h.same)

theorem execVconnFail (h : BanksApart s) : Out.BanksApart (execVconnFail p s) := by
  unfold Machine.execVconnFail
  exact .ite (.ok h.hardReset) (.ok h)

theorem execVconnOff (h : BanksApart s) : Out.BanksApart (execVconnOff p s) := by
  unfold Machine.execVconnOff
  exact .ite (.ok h.swapDone) (.ok h)

theorem execRpSet (h : BanksApart s) : Out.BanksApart (execRpSet p s) := .ok h.same
theorem execRefused (h : BanksApart s) : Out.BanksApart (execRefused p s) := .ite (.ok h.hardReset) (.ok h)

end State.BanksApart

end Sys2Proof.Machine
end

section
/-! SUPPORT. The message sequencer, the policy and the VDMs touch no bank (R185). -/
set_option Elab.async false
namespace Sys2Proof.Machine

variable {s u : State} {h1 : BitVec 16} {held ram own epr rev3 carrier : Bool} {obj : Fin 11} {objs vdos _vdos : List Word} {m : Msg}
  {k : MsgKind} {act early watts sub typ : Nat} {mean : Option Nat} {f : Out} {p _p : PortId} {o : TileHeld} {t : TileId} {ans : VdmAnswer}
  {r : VdmReq} {rdo pdo ado hdr vdo : Word}

namespace State.BanksApart

/-! ### The message sequencer -/

theorem leaveHold (h : BanksApart s) : BanksApart (s.leaveHold p) := by
  unfold State.leaveHold
  refine either h ?_
  refine either h.reportHold.modPd ?_
  refine either h.reportHold.modPd.modPol ?_
  refine either h.reportHold.modPd.modPol ?_
  exact either h.reportHold.modPd.modPol (either h.reportHold.modPd.modPol h.reportHold.modPd.sendOffer)

theorem resumeHold (h : BanksApart s) : BanksApart (s.resumeHold p) := either h.same.leaveHold h.same

theorem holdAnswer (h : BanksApart s) : BanksApart (s.holdAnswer p m) := by
  unfold State.holdAnswer
  refine either h.same ?_
  refine either (either h (either h.same h.same.leaveHold)) ?_
  exact either h.same (either h.reportHold.modPort.queueMsg h.reportHold).modPd

theorem enterHold (h : BanksApart s) : BanksApart (s.enterHold p) := by
  unfold State.enterHold
  dsimp only
  split
  · refine holdAnswer ?_
    refine either ?_ h.finishPort.finishPort.finishPort.finishPort.modPort
    exact h.finishPort.finishPort.finishPort.finishPort.modPort.queueMsg
  · refine either ?_ h.finishPort.finishPort.finishPort.finishPort.modPort
    exact h.finishPort.finishPort.finishPort.finishPort.modPort.queueMsg

theorem idleChange (h : BanksApart s) : BanksApart (s.idleChange p) := by
  unfold State.idleChange
  exact either (either h.enterHold (either h.same h)) h

theorem requestHold (h : BanksApart s) : BanksApart (s.requestHold p) := either h h.same.idleChange

theorem present (h : BanksApart s) : BanksApart (s.present p m held) := by
  unfold State.present
  dsimp only
  exact either h.same (by
    split
    · exact h.same
    · exact h.same
    · exact either h.same h.same
    · exact either h.same h.same
    · split; exacts [either h.same h.same, h.same]
    · exact h.same)

theorem mtStart (h : BanksApart s) : BanksApart (s.mtStart p) := by
  unfold State.mtStart
  dsimp only
  refine either h.same.idleChange ?_
  split; exacts [either h.same.idleChange.modPd.present h.same.idleChange, either h.same.idleChange.modPd h.same.idleChange]

theorem mtKick (h : BanksApart s) : BanksApart (s.mtKick p) := by
  unfold State.mtKick
  exact either h.same h

theorem mtStep {f : State → BitVec 64 → State × Bool}
    (h : BanksApart s) (hf : ∀ u x1, BanksApart u → BanksApart (f u x1).1) : BanksApart (s.mtStep p act f) := by
  unfold State.mtStep
  exact either h.mtKick (either ((hf _ _ h.mtKick).modPd) ((hf _ _ h.mtKick).mtStart))

theorem tileTakeUp (h : BanksApart s) : BanksApart (s.tileTakeUp t o ram) := by
  unfold State.tileTakeUp
  extract_lets c s1 s1' s2
  have h1 : BanksApart s1 := either (h.foldl fun _ _ h => h.same) h
  have h2 : BanksApart s2 := either h1 (either (h1.modTile.foldl fun _ _ h => h.same) h1.modTile)
  exact either h2 (h2.modTile.foldl fun _ _ h => h.same.idleChange)

theorem tileCatchUp (h : BanksApart s) : BanksApart (s.tileCatchUp t) := by
  unfold State.tileCatchUp
  exact h.same.tileTakeUp

theorem execFrameReceived {f : FrameIn} (h : BanksApart s) : Out.BanksApart (execFrameReceived p f s) := by
  unfold Machine.execFrameReceived
  refine .ite (.ok h) ?_
  exact .ite (.ok h.same) (.ite (.ok h.same) (.ite (.ok h.same) (.ite (.ok h.same.holdAnswer) (.ok h.same.present))))

theorem execRxAbort (h : BanksApart s) : Out.BanksApart (execRxAbort p mean early s) := .ite (.ok h.same) (.ok h)
theorem execHardResetRx (h : BanksApart s) : Out.BanksApart (execHardResetRx p s) := .ite (.ok h.queueFault.abortDescs.modPol.hardResetDone) (.ok h)
theorem execCableResetRx (h : BanksApart s) : Out.BanksApart (execCableResetRx _p s) := .ok h
theorem execMtNop (h : BanksApart s) : Out.BanksApart (execMtNop p s) := .ite (.ok (either h h.idleChange.mtKick)) (.ok (h.mtStep (fun _ _ h => h)))

theorem execMtTx (h : BanksApart s) : Out.BanksApart (execMtTx p s) := by
  refine .ok (h.mtStep fun u e h => ?_)
  dsimp only
  split
  exacts [h.same.pair, h.same.pair, h.same.pair, h.same.pair, h.hardResetSent.modPd.pair]

theorem execMtDeliver (h : BanksApart s) : Out.BanksApart (execMtDeliver p s) := by
  refine .ok (h.mtStep fun u e h => ?_)
  dsimp only
  split
  · split; exacts [h.same.queueEv.policyReply.pair, h.same.pair]
  · exact h.same.pair

theorem execMtMatch (h : BanksApart s) : Out.BanksApart (execMtMatch p s) := .ok (h.mtStep (fun _ _ h => h))

theorem execMtCount (h : BanksApart s) : Out.BanksApart (execMtCount p s) := by
  refine .ok (h.mtStep fun u e h => ?_)
  dsimp only
  split <;> exact h.same.pair

theorem execMtSetRp (h : BanksApart s) : Out.BanksApart (execMtSetRp p s) := by
  refine .ok (h.mtStep fun u e h => ?_)
  dsimp only
  split; exacts [h.same.pair, h.pair]

theorem execMtReport (h : BanksApart s) : Out.BanksApart (execMtReport p s) := by
  unfold Machine.execMtReport
  dsimp only
  refine .ok (h.mtStep fun _ _ h => ?_)
  split; exacts [h.same.queueMsg, h.same.queueMsg, h.same.queueMsg, h.same.queueMsg, h.reportHold]

theorem execMtCompose (h : BanksApart s) : Out.BanksApart (execMtCompose p s) := by
  refine .ok (h.mtStep fun u e h => ?_)
  dsimp only
  exact h.same

theorem execMsgWaitTimeout (h : BanksApart s) : Out.BanksApart (execMsgWaitTimeout p s) := by
  unfold Machine.execMsgWaitTimeout
  dsimp only
  refine .ite (.ite (.ok h.same) (.ite (.ok h.same.queueMsg.leaveHold) (.ok h))) ?_
  refine .ite ?_ (.ok h)
  split <;> exact .ok h.same

theorem execMsgLineIdle (h : BanksApart s) : Out.BanksApart (execMsgLineIdle p s) := by
  unfold Machine.execMsgLineIdle
  exact .ite (.ok h.same) (.ok h)

theorem execTxDone (h : BanksApart s) : Out.BanksApart (execTxDone p s) := by
  unfold Machine.execTxDone
  exact .ite (.ok h.same) (.ok h.same)

theorem execHoldExpired (h : BanksApart s) : Out.BanksApart (execHoldExpired p s) := .ite (.ok h.hardResetSent) (.ok h)

/-! ### The policy engine -/

theorem whenPolicy (h : BanksApart s) (hf : Out.BanksApart f) : Out.BanksApart (s.whenPolicy p f) := .ite hf (.ok h)
theorem waitOr (h : BanksApart s) (hf : Out.BanksApart f) : Out.BanksApart (s.waitOr p k own f) := .ite (.ok h.same.send) hf
theorem partnerReq (h : BanksApart s) (hf : Out.BanksApart f) : Out.BanksApart (s.partnerReq p k f) := h.whenPolicy (h.waitOr hf)

theorem execRequest (h : BanksApart s) : Out.BanksApart (execRequest p epr rdo pdo rev3 s) := by
  unfold Machine.execRequest
  dsimp only
  refine h.whenPolicy (.ite (.ok h.protocolError) ?_)
  refine h.waitOr ?_
  split
  · exact .ok h.abandonVdm.modPort.send
  · exact .ite (.ok h.abandonVdm.modPort.modSb.modPol.send) (.ok h.abandonVdm.modPort.modSb.modPol.send)

theorem exitOrReady (h : BanksApart s) : BanksApart (s.exitOrReady p) := by
  unfold State.exitOrReady
  exact either h.same.send h.enterReady

theorem contractStands {k : CKind} (h : BanksApart s) : BanksApart (s.contractStands p k) := by
  unfold State.contractStands
  dsimp only
  split; exacts [h, h.same.demandRose.postEvt]

theorem contractMade {k : CKind} (h : BanksApart s) : BanksApart (s.contractMade p k) := by
  unfold State.contractMade
  refine either h.contractStands ?_
  refine either h.contractStands.enterReady ?_
  refine either h.contractStands.modPol.send.exitOrReady ?_
  exact either h.contractStands.modPol.modPol.send.exitOrReady h.contractStands.exitOrReady

theorem discCounted (h : BanksApart s) : BanksApart (s.discCounted p) := either h.same h
theorem goOn {m : TxMsg} (h : BanksApart s) : BanksApart (s.goOn p m) := either h.contractMade h.goNext

theorem execTxOk (h : BanksApart s) : Out.BanksApart (execTxOk p s) := by
  unfold Machine.execTxOk
  extract_lets q
  split
  · exact .ok h
  next m _ =>
    extract_lets s0 ex
    have h0 : BanksApart s0 := modPol (either h.msgEvent h)
    cases m.expect with
    | hostOk => exact .ok h0.finishPort.goOn
    | acceptRepeat => exact .ok h0.send
    | acceptSoftRx => exact .ok h0.sendOffer
    | acceptSwap => exact .ite (.ok h0.modPol.post) (.ok h0.modPol)
    | offered => exact .ok h0.modPol.goNext
    | rejectReq => exact .ite (.ok h0.seqEnds) (.ite (.ok (either h0.enterReady h0.seqEnds)) (.ok h0.hardReset))
    | enterAck => exact .ok h0.eprCheck
    | exitSent => exact .ok h0.modPol.sendOffer
    | psRdyReq => exact .ite (.ok h0.modPol.exitOrReady) (.ok h0.contractMade)
    | psRdySwap => exact .ok h0.swapDone
    | vdm => exact .ok h0.discCounted.goOn
    | none | swapPsRdy => exact .ok h0.goOn
    | _ => exact .ok h0.modPol

theorem execTxFail (h : BanksApart s) : Out.BanksApart (execTxFail p s) := by
  unfold Machine.execTxFail
  extract_lets q s0 r s1
  have h0 : BanksApart s0 := h.same
  have h1 : BanksApart s1 := h0.finishPort.finishPort
  split
  · exact .ok h
  · extract_lets s2
    have h2 : BanksApart s2 := either h1.modRally.finishPort h1
    refine .ite (.ite (.ok h0.discCounted.modRally.vdmNak.goNext) (.ok h1.goNext)) ?_
    refine .ite (.ok h2.hardReset) (.ite (.ok h2.modPol) (.ite ?_ (.ok (either h2.swapDone h2).softReset)))
    exact .ite (.ok h2.hardReset) (.ite (.ok h2.softReset) (.ok h2.sendNext))

theorem execTxDiscarded (h : BanksApart s) : Out.BanksApart (execTxDiscarded p s) := by
  unfold Machine.execTxDiscarded
  dsimp only
  split
  · exact .ok h
  · split
    · exact .ok h.same.finishPort
    · exact .ok h.same.finishPort
    · exact .ok h.same
    · exact .ok h.same
    · exact .ok h.same
    · exact .ok h.same
    · exact .ok h.same
    · exact .ok h.same
    · exact .ok (either h.same h.same)

theorem execChunkFail (h : BanksApart s) : Out.BanksApart (execChunkFail _p s) := .ok h
theorem execHoldAnswered (h : BanksApart s) : Out.BanksApart (execHoldAnswered p s) := .ok h.reportHold

theorem replyCaps (h : BanksApart s) : BanksApart (s.replyCaps p epr) := by
  unfold State.replyCaps
  exact either h.goNext h.offerGoes

theorem execGetSourceCap (h : BanksApart s) : Out.BanksApart (execGetSourceCap p s) := by
  unfold Machine.execGetSourceCap
  refine h.partnerReq ?_
  split; exacts [.ok h.replyCaps, .ok h.replyCaps, .ok h.same, .ok h.same, .ok h.same, .ok h.sendOffer]

theorem execEprGetSourceCap (h : BanksApart s) : Out.BanksApart (execEprGetSourceCap p s) := by
  unfold Machine.execEprGetSourceCap
  refine h.partnerReq (.ite (.ok h.notSupported) ?_)
  split; exacts [.ok h.replyCaps, .ok h.replyCaps, .ok h.same, .ok h.same, .ok h.same, .ok h.sendOffer]

theorem execGetSourceCapExtended (h : BanksApart s) : Out.BanksApart (execGetSourceCapExtended p s) := h.partnerReq (.ok h.same.send)
theorem execGetSourceInfo (h : BanksApart s) : Out.BanksApart (execGetSourceInfo p s) := h.partnerReq (.ok h.send)
theorem execGetStatus (h : BanksApart s) : Out.BanksApart (execGetStatus p s) := h.partnerReq (.ok h.same.modPol.send)
theorem execGetPpsStatus (h : BanksApart s) : Out.BanksApart (execGetPpsStatus p s) := h.partnerReq (.ite (.ok h.same.send) (.ok h.notSupported))
theorem execGetRevision (h : BanksApart s) : Out.BanksApart (execGetRevision p s) := h.partnerReq (.ok h.freeWord.send)
theorem execGetManufacturerInfo (h : BanksApart s) : Out.BanksApart (execGetManufacturerInfo p s) := h.partnerReq (.ok h.send)
theorem execSoftReset (h : BanksApart s) : Out.BanksApart (execSoftReset p s) := h.whenPolicy (.ite (.ok h.hardReset) (.ok h.same.send))
theorem execVconnSwap (h : BanksApart s) : Out.BanksApart (execVconnSwap p s) :=
  h.partnerReq (.ite (.ok h.same.send) (.ite (.ok h.send) (.ok h.same.send)))
theorem execPrSwap (h : BanksApart s) : Out.BanksApart (execPrSwap p s) := h.whenPolicy (.ok h.send)
theorem execDrSwap (h : BanksApart s) : Out.BanksApart (execDrSwap p s) := h.whenPolicy (.ok h.send)
theorem execFrSwap (h : BanksApart s) : Out.BanksApart (execFrSwap p s) := h.whenPolicy (.ok h.notSupported)
theorem execEprModeEnter (h : BanksApart s) : Out.BanksApart (execEprModeEnter p watts s) :=
  h.partnerReq (.ite (.ok h.same.demandRose.send) (.ok h.goNext))
theorem execEprModeExit (h : BanksApart s) : Out.BanksApart (execEprModeExit p s) :=
  h.whenPolicy (.ite (.ok h.goNext) (.ite (.ok h.same.sendOffer) (.ok h.hardReset)))
theorem execEprKeepalive (h : BanksApart s) : Out.BanksApart (execEprKeepalive p s) := h.whenPolicy (.ite (.ok h.send) (.ok h.notSupported))
theorem execSinkCapabilities (h : BanksApart s) : Out.BanksApart (execSinkCapabilities p h1 epr objs s) :=
  h.whenPolicy (.ite (.ok h.same.demandRose.passMsg.seqEnds) (.ok h.same.demandRose.passMsg.goNext))
theorem execAlert (h : BanksApart s) : Out.BanksApart (execAlert p h1 ado s) := h.whenPolicy (.ok h.passMsg.send)
theorem execInformationMessage (h : BanksApart s) : Out.BanksApart (execInformationMessage p m s) :=
  h.whenPolicy (.ite (.ok h.same.passMsg.seqEnds) (.ok h.same.passMsg.goNext))
theorem execUnsupportedRequest (h : BanksApart s) : Out.BanksApart (execUnsupportedRequest p s) := h.whenPolicy (.ok h.notSupported)
theorem execBistRequest (h : BanksApart s) : Out.BanksApart (execBistRequest p carrier s) :=
  h.whenPolicy (.ite (.ite (.ok h.same) (.ok h.same)) (.ok h.goNext))
theorem execUnexpectedMessage (h : BanksApart s) : Out.BanksApart (execUnexpectedMessage p s) := h.whenPolicy (.ok h.protocolError)
theorem execUnchunkedExtended (h : BanksApart s) : Out.BanksApart (execUnchunkedExtended p s) := h.whenPolicy (.ok h.notSupported)
theorem execUnrecognisedMessage (h : BanksApart s) : Out.BanksApart (execUnrecognisedMessage p s) := h.whenPolicy (.ok h.notSupported)

theorem execSrcTransitionExpiry (h : BanksApart s) : Out.BanksApart (execSrcTransitionExpiry p s) := by
  unfold Machine.execSrcTransitionExpiry
  dsimp only
  exact .ite (by split; exacts [.ok h.same.post, .ok h]) (.ok h)

theorem execSenderResponseExpiry (h : BanksApart s) : Out.BanksApart (execSenderResponseExpiry p s) := by
  unfold Machine.execSenderResponseExpiry
  refine h.whenPolicy ?_
  split; exacts [.ok h.hardReset, .ok h.softReset, .ok h.softReset, .ok h.softReset, .ok h.swapDone.softReset, .ok h]

theorem execSourceCapResend (h : BanksApart s) : Out.BanksApart (execSourceCapResend p s) :=
  h.whenPolicy (.ite (.ite (.ok h.same) (.ok h.sendOffer)) (.ok h))

theorem execNoResponseExpiry (h : BanksApart s) : Out.BanksApart (execNoResponseExpiry p s) := by
  unfold Machine.execNoResponseExpiry
  exact .ite (.ok h.hardReset) (.ok h)

theorem execPpsKeepaliveExpiry (h : BanksApart s) : Out.BanksApart (execPpsKeepaliveExpiry p s) := h.whenPolicy (.ite (.ok h.hardReset) (.ok h))
theorem execEprKeepaliveExpiry (h : BanksApart s) : Out.BanksApart (execEprKeepaliveExpiry p s) := h.whenPolicy (.ite (.ok h.hardReset) (.ok h))
theorem execVconnSourceExpiry (h : BanksApart s) : Out.BanksApart (execVconnSourceExpiry p s) := h.whenPolicy (.ite (.ok h.hardReset) (.ok h))
theorem execVconnSwapRetry (h : BanksApart s) : Out.BanksApart (execVconnSwapRetry p s) := h.whenPolicy (.ite (.ok h.swapSend) (.ok h))

theorem execFeedObjectWithdraw (h : BanksApart s) : Out.BanksApart (execFeedObjectWithdraw p obj s) := by
  unfold Machine.execFeedObjectWithdraw
  split; exacts [.ite (.ok h.same.offerChange) (.ok h), .ok h]

theorem execFeedObjectRestore (h : BanksApart s) : Out.BanksApart (execFeedObjectRestore p obj s) := by
  unfold Machine.execFeedObjectRestore
  split; exacts [.ite (.ok h.same.offerChange) (.ok h), .ok h]

theorem execEprCapsSend (h : BanksApart s) : Out.BanksApart (execEprCapsSend p s) := h.whenPolicy (.ite (.ok h.same.sendOffer) (.ok h))

/-! ### VDMs and discovery -/

theorem vdmEvent (h : BanksApart s) : BanksApart (s.vdmEvent p sub m) := h.vdmTell
theorem vdmAnswer (h : BanksApart s) : BanksApart (s.vdmAnswer p hdr typ vdos) := h.send
theorem execVdmRequest (h : BanksApart s) : Out.BanksApart (execVdmRequest p hdr _vdos s) := h.whenPolicy (.ite (.ok h.vdmAnswer) (.ok h.vdmAnswer))
theorem execUnstructuredVdm (h : BanksApart s) : Out.BanksApart (execUnstructuredVdm p h1 hdr vdos s) := h.whenPolicy (.ok h.vdmEvent.notSupported)

theorem vdmAck (h : BanksApart s) : BanksApart (s.vdmAck p r m vdos) := by
  unfold State.vdmAck
  dsimp only
  split
  · exact h.cableEnd
  · exact h.same.vdmEvent
  · exact either h.same.svidsEnd h.same.passMsg
  · split; exacts [(either h.same h.same.vdmEvent).modRally, either h.same h.same.vdmEvent]
  · exact h.same.vdmEvent
  · split; exacts [either h.noticeNak h.same, h.noticeNak]
  · exact h.replyToHost
  · exact h

theorem execVdmResponse {k : Sop} (h : BanksApart s) : Out.BanksApart (execVdmResponse p h1 k ans hdr vdos s) := by
  unfold Machine.execVdmResponse
  dsimp only
  refine h.whenPolicy (.ite (.ok h.vdmEvent.goNext) ?_)
  split
  · exact .ok h.same.vdmAck.goNext
  · exact .ok h.same.vdmNak.goNext
  · exact .ite (.ok h.same) (.ite (.ok h.same.finishPort.goNext) (.ite (.ok h.same.goNext) (.ok h.same.vdmNak.goNext)))

theorem execVdmResponseTimeout (h : BanksApart s) : Out.BanksApart (execVdmResponseTimeout p s) :=
  h.whenPolicy (.ite (.ok h) (.ok h.same.vdmNak.goNext))
theorem execVdmBusyRetry (h : BanksApart s) : Out.BanksApart (execVdmBusyRetry p s) := h.whenPolicy (.ite (.ok h) (.ok h.sendVdm))
theorem execDiscoverIdentityAttempt (h : BanksApart s) : Out.BanksApart (execDiscoverIdentityAttempt p s) :=
  h.whenPolicy (.ite (.ok h.startCable) (.ite (.ok h.cableEnd.goNext) (.ok h.discAttempt)))
theorem execAttention (h : BanksApart s) : Out.BanksApart (execAttention p h1 hdr vdo s) :=
  h.whenPolicy (.ite (.ok h.same.goNext) (.ok h.vdmEvent.goNext))
theorem execRallyNoticeDue (h : BanksApart s) : Out.BanksApart (execRallyNoticeDue p s) := h.whenPolicy (.ite (.ok h.same.noticeNext) (.ok h))

theorem execCurtailConfirm (h : BanksApart s) : Out.BanksApart (execCurtailConfirm p s) := by
  unfold Machine.execCurtailConfirm
  dsimp only
  split; exacts [.ite (.ok h.same) (.ok h), .ok h]

theorem execCurtailReactionExpiry (h : BanksApart s) : Out.BanksApart (execCurtailReactionExpiry p s) := by
  unfold Machine.execCurtailReactionExpiry
  exact .ite (.ok h.pledgeBroken) (.ok h)

theorem execCurtailHoldExpiry (h : BanksApart s) : Out.BanksApart (execCurtailHoldExpiry p s) := by
  unfold Machine.execCurtailHoldExpiry
  exact .ite (.ite (.ok h.restoreSend) (.ok h.ladderOn)) (.ok h)

theorem execBrokenHoldoffExpiry (h : BanksApart s) : Out.BanksApart (execBrokenHoldoffExpiry p s) := .ok h.same

end State.BanksApart

end Sys2Proof.Machine
end

section
/-! SUPPORT. The feed controller closes a bank only while the other one is commanded open; the scoreboard touches none (R185). -/
set_option Elab.async false
namespace Sys2Proof.Machine

variable {s u : State} {both : Bool} {c : FeedCause} {f : FeedId} {x : FeedTripping} {ma : Int} {sh : List (Entry × Nat)}
  {xs also_ : List FeedTripping} {before : List Nat} {mv vgs vbusc q target order n : Nat} {p : PortId} {t k : TileId}

namespace State.BanksApart

/-! ### The feeds -/

theorem feedAlert (h : BanksApart s) : BanksApart s.feedAlert := h.same.foldl fun _ _ h => either h.send h

theorem feedEvt (h : BanksApart s) : BanksApart (s.feedEvt f c) := by
  unfold State.feedEvt
  exact h.modFeed.postEvt.feedAlert

theorem disconnectPort (h : BanksApart s) : BanksApart (s.disconnectPort p) := by
  unfold State.disconnectPort
  exact h.endContract.rallyEnd.pdStop.modPort.abortDescs.post

theorem giveBack (h : BanksApart s) : BanksApart (s.giveBack p) := by
  unfold State.giveBack
  exact either h.same h

theorem noFeed (h : BanksApart s) : BanksApart s.noFeed := by
  unfold State.noFeed
  exact either h ((h.same.foldl fun _ _ h => either h.disconnectPort h.giveBack).postEvt)

theorem feedSelect (h : BanksApart s) : BanksApart s.feedSelect := by
  unfold State.feedSelect
  split
  · exact h
  · next rest =>
    simp only [Bool.or_eq_true, not_or, Bool.not_eq_true] at rest
    obtain ⟨⟨-, a⟩, b⟩ := rest
    exact either (h.toInrush (Feed.shut_of_rest (h.sound _) b)) (either (h.toInrush (Feed.shut_of_rest (h.sound _) a)) h)

theorem feedWaits (h : BanksApart s) : BanksApart (s.feedWaits f) := by
  unfold State.feedWaits
  exact either h.finish h

theorem feedQualify (h : BanksApart s) : BanksApart (s.feedQualify f) := (h.modFeed (.qualify ..)).feedSelect

theorem releaseFeedSvc (h : BanksApart s) : BanksApart s.releaseFeedSvc := by
  unfold State.releaseFeedSvc
  exact either h.setPowered.setPowered.setFence.setFence.modPwr.feedQualify.feedQualify h

theorem feedTakeUp (h : BanksApart s) : BanksApart (s.feedTakeUp f) := either h h.modFeed.feedQualify

theorem feedTrip (h : BanksApart s) : BanksApart (s.feedTrip f c) := by
  unfold State.feedTrip
  extract_lets q o was s1 s2 s3 s4
  have opened : BanksApart s1 := h.modFeed (.shut (by dsimp only; split <;> rfl))
  have h3 : BanksApart s3 := either opened.same opened.same
  exact either h (either h3.finish h3).feedEvt.noFeed

theorem feedTripTick (h : BanksApart s) : BanksApart (s.feedTripTick f xs) := by
  unfold State.feedTripTick
  dsimp only
  split; exacts [(h.foldl fun _ _ h => by split; exacts [either h.modFeed h, either h.modFeed h, h]).feedTrip, h]

theorem execSeatQualified (h : BanksApart s) : Out.BanksApart (execSeatQualified s) := by
  unfold Machine.execSeatQualified
  exact .ok ((either h.same.feedQualify.feedQualify h.same).wakeReq)

theorem unseatOpening (h : BanksApart s) : BanksApart (s.unseatOpening f) := either h.modFeed.feedEvt h

theorem execSeatReleased (h : BanksApart s) : Out.BanksApart (execSeatReleased s) := by
  unfold Machine.execSeatReleased
  dsimp only
  refine .ok ?_
  refine wakeReq ?_
  refine finish ?_
  refine noFeed ?_
  refine feedQualify ?_
  refine feedQualify ?_
  refine feedTrip ?_
  refine feedTrip ?_
  refine modBoard ?_
  split; exacts [h.modFeed.unseatOpening, h]

theorem execFeedWindowChange (h : BanksApart s) : Out.BanksApart (execFeedWindowChange f mv s) := .ite (.ok h) (.ok h.modFeed.feedQualify)

theorem execInsertDelayExpiry (h : BanksApart s) : Out.BanksApart (execInsertDelayExpiry f both s) := by
  unfold Machine.execInsertDelayExpiry
  extract_lets up s1 s2
  have ups (q : Feed) : Feed.NotClosed q (up q) := by
    unfold up
    split
    next e => exact .rest (by rw [eq_of_beq e]; rfl)
    · exact .same
  have h1 : BanksApart s1 := (h.modFeed (ups _)).modBoard
  have h2 : BanksApart s2 := either (h1.modFeed (ups _)).feedWaits h1
  exact .ite (.ok h2.feedWaits.feedSelect) (.ok h)

theorem execPriorityReturn (h : BanksApart s) : Out.BanksApart (execPriorityReturn also_ s) :=
  .ite (.ite (.ok h.feedTripTick) (.ok (h.modFeed .shut).modBoard)) (.ok h)

theorem execInrushComplete (h : BanksApart s) : Out.BanksApart (execInrushComplete f vgs mv vbusc s) := by
  unfold Machine.execInrushComplete
  split
  · next met =>
    simp only [Bool.and_eq_true, beq_iff_eq] at met
    obtain ⟨⟨-, inrush⟩, -⟩ := met
    have closed : Feed.NotClosed (s.feed f) { s.feed f with state := .active, fb1 := false, activeRun := true, mv := mv } :=
      ⟨fun ok => by simpa [Feed.gateOk, inrush] using ok, id⟩
    exact .ok (h.modFeed closed).modBoard.feedEvt.feedWaits.finish
  · exact .ok h

theorem execInrushTimeout (h : BanksApart s) : Out.BanksApart (execInrushTimeout f s) := .ite (.ok h.feedTrip) (.ok h)
theorem pgRisen (h : BanksApart s) : BanksApart s.pgRisen := either ((h.foldl fun _ _ h => either h.same h).modBoard) h

theorem pgTick (h : BanksApart s) : BanksApart (s.pgTick f before) := by
  unfold State.pgTick
  exact either h.same.pgRisen h.same

theorem execFeedBreakerTick (h : BanksApart s) : Out.BanksApart (execFeedBreakerTick f mv ma vbusc s) := by
  unfold Machine.execFeedBreakerTick
  refine .ite (.ok (either (either h.feedTakeUp h).wakeReq (either h.feedTakeUp h))) ?_
  exact .ite (.ok (either h.feedTakeUp h).modFeed.modBoard.pgTick) (.ok (either h.feedTakeUp h).modFeed.modBoard)

theorem execFeedBreakerTrip (h : BanksApart s) : Out.BanksApart (execFeedBreakerTrip f also_ s) := .ok h.feedTripTick
theorem feedGuard (h : BanksApart s) : Out.BanksApart (s.feedGuard f x xs) := .ite (.ok h.feedTripTick.wakeReq) (.ok h.feedTripTick)
theorem execFeedFastTrip (h : BanksApart s) : Out.BanksApart (execFeedFastTrip f mv also_ s) := h.feedGuard
theorem execFeedReverse {ma : Nat} (h : BanksApart s) : Out.BanksApart (execFeedReverse f ma also_ s) := h.feedGuard
theorem execFeedOvervolt (h : BanksApart s) : Out.BanksApart (execFeedOvervolt f mv also_ s) := h.feedGuard
theorem execFeedUndervolt (h : BanksApart s) : Out.BanksApart (execFeedUndervolt f mv also_ s) := .ok h.feedTripTick

theorem execOffConfirmed (h : BanksApart s) : Out.BanksApart (execOffConfirmed f vgs ma s) := by
  unfold Machine.execOffConfirmed
  dsimp only
  split
  · exact .ok h
  · next up =>
    have shut : (s.feed f).gate = false := by simp_all
    have confirmed := h.modFeed (f := f) (g := fun q =>
      { q with offOk := true, acc := List.replicate 8 0, fb1 := false, state := if q.enabled then q.after else .disabled }) (.shut shut)
    exact .ite (.ite (.ok h) (.ok (either confirmed confirmed.finish).feedWaits.feedQualify.noFeed)) (.ok (h.modFeed (.shut shut)))

theorem execDeadTimeEnd (h : BanksApart s) : Out.BanksApart (execDeadTimeEnd s) := by
  unfold Machine.execDeadTimeEnd
  split
  · split
    · next ready =>
      simp only [Bool.and_eq_true] at ready
      obtain ⟨⟨⟨-, off⟩, -⟩, -⟩ := ready
      exact .ite (.ok (h.toInrush (Feed.shut_of_offOk (h.sound _) off))) (.ok h.same.feedSelect.noFeed)
    · exact .ok h
  · exact .ok h

theorem execStuckBank (h : BanksApart s) : Out.BanksApart (execStuckBank f s) := by
  unfold Machine.execStuckBank
  dsimp only
  split
  · next stuck =>
    simp only [Bool.and_eq_true, beq_iff_eq] at stuck
    obtain ⟨⟨-, opening⟩, -⟩ := stuck
    have shut := Feed.shut_of_idle (h.sound f) (by simp [opening]) (by simp [opening])
    exact .ok (h.modFeed (.shut shut)).modBoard.feedEvt.refRecord.noFeed.finish
  · exact .ok h

theorem execFeedRetryDue (h : BanksApart s) : Out.BanksApart (execFeedRetryDue f s) := by
  unfold Machine.execFeedRetryDue
  extract_lets q s1
  have h1 : BanksApart s1 := h.modFeed
  split
  · next due =>
    simp only [Bool.and_eq_true, beq_iff_eq] at due
    obtain ⟨⟨backoff, -⟩, -⟩ := due
    have rest : (s1.feed f).state.busy = false := by
      rw [State.modFeed_feed_self]
      exact backoff ▸ rfl
    refine .ite (.ok h.wakeReq) (.ite (.ok (h1.modFeed (.rest rest)).feedQualify) ?_)
    split
    · exact .ok (h1.modFeed (.rest rest)).feedWaits
    · next alone =>
      simp only [Bool.or_eq_true, not_or, Bool.not_eq_true] at alone
      exact .ok (h1.toInrush ((congrArg Feed.gate (State.modFeed_feed_other ..)).trans (Feed.shut_of_rest (h.sound _) alone.2)))
  · exact .ok h

theorem execFeedRetryClear (h : BanksApart s) : Out.BanksApart (execFeedRetryClear f s) := .ite (.ok h.modFeed) (.ok h)
theorem execFeedReseatHoldExpiry (h : BanksApart s) : Out.BanksApart (execFeedReseatHoldExpiry s) :=
  .ite (.ok h) (.ok ((h.modFeed (.clearRetry _)).modFeed (.clearRetry _)))

/-! ### The scoreboard -/

theorem postRp (h : BanksApart s) : BanksApart (s.postRp p q) := h.same.post

theorem thermal (h : BanksApart s) : BanksApart (s.thermal p) := by
  unfold State.thermal
  exact either h.same.postEvt h.same

theorem usage (h : BanksApart s) : BanksApart (s.usage p) := h.same

theorem pledge (h : BanksApart s) : BanksApart (s.pledge p) := by
  unfold State.pledge
  exact either h.same (either h.same.vdmTell h.same)

theorem decideDecrease (h : BanksApart s) : BanksApart (s.decideDecrease p target) := by
  unfold State.decideDecrease
  refine either h.same.postEvt ?_
  refine either h.same.postEvt.armHard.offerChange ?_
  exact either h.same.postEvt.modSb.postRp (either h.same.postEvt.curtailSend h.same.postEvt.ladderOn)

theorem cancelDecrease (h : BanksApart s) : BanksApart (s.cancelDecrease p) := by
  unfold State.cancelDecrease
  refine either ?_ (either h.same.postEvt.liftHard.postRp h.same.postEvt.liftHard.offerChange)
  exact either h.same.postEvt.liftHard.restoreSend h.same.postEvt.liftHard.curtailSend

theorem raised (h : BanksApart s) : BanksApart (s.raised p) := by
  unfold State.raised
  refine either h.liftHard.modRally.postRp ?_
  exact either (either h.liftHard.modRally.restoreSend h.liftHard.modRally) h.liftHard.modRally.offerChange

theorem applyConfirmed (h : BanksApart s) : BanksApart (s.applyConfirmed p) := by
  unfold State.applyConfirmed
  dsimp only
  split; exacts [either h.applyDecided h, h]

theorem phase1 (h : BanksApart s) : BanksApart (s.phase1 p target) := by
  unfold State.phase1
  refine either h.same ?_
  refine either (either h.same.decideDecrease h.same) ?_
  refine either ?_ (either h.same.setAlloc h.same)
  exact either h.same (either h.same.cancelDecrease (either h.same.decideDecrease h.same))

theorem giveReserve (h : BanksApart s) : BanksApart (s.giveReserve p) := by
  unfold State.giveReserve
  exact either h (either h.setAlloc.modSb (either h.setAlloc h))

theorem grantFloor (h : BanksApart s) : BanksApart (s.grantFloor p order) := by
  unfold State.grantFloor
  refine either h.setAlloc.modSb.liftHard.post ?_
  exact (either h.setAlloc.modSb.liftHard.postRp h.setAlloc.modSb.liftHard.offerChange).leaveStartup

theorem phase2 (h : BanksApart s) : BanksApart (s.phase2 sh order) := by
  unfold State.phase2
  exact (h.foldl fun _ _ h => either h.grantFloor h).foldl fun _ _ h => either h.setAlloc.raised h

theorem vcGiveAway (h : BanksApart s) : BanksApart (s.vcGiveAway t) := by
  unfold State.vcGiveAway
  dsimp only
  exact either h (by split; exacts [either h.queueHk.swapSend h.queueHk, h])

theorem askAgain (h : BanksApart s) : BanksApart (s.askAgain p) := by
  unfold State.askAgain
  exact either h.same h

theorem takeSettings (h : BanksApart s) : BanksApart s.takeSettings := h.same

theorem publishFeed (h : BanksApart s) : BanksApart s.publishFeed := by
  unfold State.publishFeed
  exact either ((h.same.foldl fun _ _ h => either h.queueHk h).modBoard) h.same

theorem boundaryIn (h : BanksApart s) : BanksApart s.boundaryIn := by
  unfold State.boundaryIn
  exact (h.takeSettings.publishFeed.modBoard.foldl fun _ _ h => h.thermal.usage.pledge.askAgain).modBoard

theorem boundaryApply (h : BanksApart s) : BanksApart s.boundaryApply := by
  unfold State.boundaryApply
  extract_lets s2 s3 sh s4 order
  have h3 : BanksApart s3 := (h.foldl fun _ _ h => h.applyConfirmed).modBoard
  have h4 : BanksApart s4 := (either h3 (h3.foldl fun _ _ h => h.phase1)).foldl fun _ _ h => h.giveReserve
  exact either h4 h4.phase2.modBoard

theorem boundaryOut (h : BanksApart s) : BanksApart s.boundaryOut := by
  unfold State.boundaryOut
  exact ((((h.foldl fun _ _ h => h.same).foldl fun _ _ h => h.vcGiveAway).foldl fun _ _ h =>
    h.noticeCheck.noticeNext).modBoard).modRef

theorem execScoreboardBoundary (h : BanksApart s) : Out.BanksApart (execScoreboardBoundary s) :=
  .ite (.ok h) (.ok h.boundaryIn.boundaryApply.boundaryOut.finish)

theorem execGraceExpiry (h : BanksApart s) : Out.BanksApart (execGraceExpiry p s) := by
  unfold Machine.execGraceExpiry
  dsimp only
  split
  · exact .ite (.ok h) (.ite (.ok h.same.postEvt.modPd.abortDescs.hardResetDone) (.ok h.same.armHard))
  · exact .ite (.ite (.ok h.same) (.ok h.same.armHard)) (.ok h)

theorem execNewcomerGraceExpiry (h : BanksApart s) : Out.BanksApart (execNewcomerGraceExpiry p s) := .ite (.ok h.armHard) (.ok h)

theorem execDecreaseSampleConfirm (h : BanksApart s) : Out.BanksApart (execDecreaseSampleConfirm p s) := by
  unfold Machine.execDecreaseSampleConfirm
  exact .ite (.ok h.same) (.ok h)

theorem execUsageCapRelease (h : BanksApart s) : Out.BanksApart (execUsageCapRelease p s) := .ite (.ok h.same) (.ok h)
theorem execVconnChargeSettle (h : BanksApart s) : Out.BanksApart (execVconnChargeSettle p s) := .ite (.ok h.same) (.ok h)

theorem execVconnBudgetExcess (h : BanksApart s) : Out.BanksApart (execVconnBudgetExcess k s) := by
  refine .ok (foldlFst h fun a p h => ?_)
  split
  exacts [h.same.post.pair, h]

theorem shedFloor (h : BanksApart s) : BanksApart (s.shedFloor p) := by
  unfold State.shedFloor
  exact ((either h.same.postRp (either h.same h.same.send)).postEvt).armHard

theorem shedPledge (h : BanksApart s) : BanksApart (s.shedPledge p) := by
  unfold State.shedPledge
  exact h.same.postEvt.curtailSend.armHard

theorem shedStage (h : BanksApart s) : BanksApart (s.shedStage n) := by
  unfold State.shedStage
  refine (h.same.postEvt.foldl fun _ _ h =>
    either (either (either h.disconnectPort h) (either h.shedFloor h)) (either h.shedPledge h)).foldl fun _ _ h => ?_
  exact h.noticeCheck.noticeNext

theorem execEmergencyShedStart (h : BanksApart s) : Out.BanksApart (execEmergencyShedStart s) := .ite (.ok h.shedStage) (.ok h)
theorem execEmergencyShedStage (h : BanksApart s) : Out.BanksApart (execEmergencyShedStage s) := .ite (.ok h.shedStage) (.ok h)
theorem execEmergencyShedEnd (h : BanksApart s) : Out.BanksApart (execEmergencyShedEnd s) :=
  .ite (.ok h) (.ok (h.same.postEvt.foldl fun _ _ h => either h.same h))

end State.BanksApart

end Sys2Proof.Machine
end

section
/-! SUPPORT. Measurement, the tile links and the referee close no second bank (R185). -/
set_option Elab.async false
namespace Sys2Proof.Machine

variable {s u : State} {lanes : BitVec 16} {b changed toHub valid absent vectorOk good pass : Bool} {m : ClkMon} {o : DriftOutcome} {dac : Fin 12}
  {l : Fin 24} {tick : Fin 64} {rail : HubRail} {dv di peak ma dev : Int} {also_ : List (Fin 24 × List Tripping)}
  {frames : List (Nat × Bool × Nat)} {vals : List (Nat × Int)} {codes : List (Nat × Nat)} {samples : List (Nat × ℤ)} {ports : List DigPort}
  {gaps : List Nat} {payload : List Word} {readings : List ℤ} {vc k n time mv held vz vl vh iz il ih idx v vt seq c : Nat} {p : PortId}
  {t : TileId} {r : TlmRec} {cause w : WireCause} {header crc : Word}

namespace State.BanksApart

/-! ### Measurement -/

theorem driftEvt {c : DriftCause} (h : BanksApart s) : BanksApart (s.driftEvt p c o dv di) := either h h.postEvt
theorem eprLeave (h : BanksApart s) : BanksApart (s.eprLeave p) := h.same
theorem laneLimit {c : DriftCause} (h : BanksApart s) : BanksApart (s.laneLimit p c dv di) :=
  either h (either h.same.driftEvt h.same.driftEvt.queueFault).eprLeave.offerChange

theorem laneLift (h : BanksApart s) : BanksApart (s.laneLift p dv di) := by
  unfold State.laneLift
  exact (either h.same.driftEvt h.same.driftEvt.queueFault).offerChange

theorem execAdcFault (h : BanksApart s) : Out.BanksApart (execAdcFault t b frames s) := by
  unfold Machine.execAdcFault
  extract_lets q s1 s2 s3
  have h3 : BanksApart s3 := (h.same.foldl fun _ _ h => either h h.driftEvt).refRecord
  refine .ite (.ok h) ?_
  split; exacts [.ite (.ok h3.modTile.finish) (.ok h3), .ok h3]

theorem execMeasSample (h : BanksApart s) : Out.BanksApart (execMeasSample p codes vc s) := .ite (.ok h) (.ite (.ok h.same) (.ok h.same))
theorem tlmMark (h : BanksApart s) : BanksApart (s.tlmMark p) := either h.same h.same
theorem tlmLost (h : BanksApart s) : BanksApart (s.tlmLost p) := h.same

theorem tlmPut (h : BanksApart s) : BanksApart (s.tlmPut k r) := by
  unfold State.tlmPut
  exact either h.tlmLost (either h.ringWrite (either h.same.unpoison h.tlmLost))

theorem tlmDrain (h : BanksApart s) : BanksApart (s.tlmDrain k n) := by
  induction n generalizing s with
  | zero => exact h
  | succ n ih =>
    unfold State.tlmDrain
    split
    · exact h
    · refine either (ih h.same.tlmLost) (either h ?_)
      split; exacts [ih h.same.eccError.tlmMark, ih h.same.softFix.ringWrite]

theorem execTelemetryRecord (h : BanksApart s) : Out.BanksApart (execTelemetryRecord p lanes peak time samples s) := by
  unfold Machine.execTelemetryRecord
  exact .ite (.ok h) (.ok h.same.tlmPut.finishPort)

theorem execTlmDecimationHalve (h : BanksApart s) : Out.BanksApart (execTlmDecimationHalve s) := .ite (.ok h.same) (.ok h)
theorem execCaptureTrigger (h : BanksApart s) : Out.BanksApart (execCaptureTrigger t mv ma s) := .ok h.same

theorem capDrain (h : BanksApart s) : BanksApart (s.capDrain t) := by
  unfold State.capDrain
  split
  · exact h
  · extract_lets s1
    have h1 : BanksApart s1 := h.foldl fun _ _ h => either h.ringWrite.modTile h
    refine either h ?_
    split; exacts [either h1.modTile.finish h1, h1]

theorem execCaptureReadingsDone (h : BanksApart s) : Out.BanksApart (execCaptureReadingsDone t readings held gaps time s) := by
  unfold Machine.execCaptureReadingsDone
  split; exacts [.ite (.ok h.same.capDrain) (.ok h), .ok h]

theorem snapLatch (h : BanksApart s) : BanksApart s.snapLatch := by
  unfold State.snapLatch
  exact withMeas (h.foldl fun _ _ h => either h h.same)

theorem execSnapshotWritten (h : BanksApart s) : Out.BanksApart (execSnapshotWritten vals s) := by
  unfold Machine.execSnapshotWritten
  exact .ite (.ok h) (.ok (State.BanksApart.withMeas (h.foldl fun _ _ h => either h h.same)).finish)

theorem driftEnd (h : BanksApart s) : BanksApart (s.driftEnd t) := by
  unfold State.driftEnd
  dsimp only
  split; exacts [h, either h.same.driftEvt h.same.laneLimit.refRecord]

theorem execSublaneSlotStart (h : BanksApart s) : Out.BanksApart (execSublaneSlotStart t l s) := .ite (.ok h) (.ok h.driftEnd.modTile.modPort)
theorem handover {l : Nat} (h : BanksApart s) : BanksApart (s.handover t l) := h.same

theorem execQuietTest {frames : BitVec 24} (h : BanksApart s) : Out.BanksApart (execQuietTest t dv di mv ma frames s) := by
  unfold Machine.execQuietTest
  dsimp only
  refine .ite (.ok h) ?_
  refine .ite (.ok h.same.handover) ?_
  split; exacts [.ok h.same.handover, .ok h.same]

theorem execCalReconnect (h : BanksApart s) : Out.BanksApart (execCalReconnect t vz vl vh iz il ih s) := by
  unfold Machine.execCalReconnect
  exact .ite (.ok h) (.ite (.ok h.same) (.ok h.same.driftEvt))

theorem execVerifyHandback (h : BanksApart s) : Out.BanksApart (execVerifyHandback t dv di mv ma s) := by
  unfold Machine.execVerifyHandback
  refine .ite (.ite (.ok h) (.ok h.same)) ?_
  refine .ite ?_ (.ite (.ok h.same) (.ok h.same.driftEvt))
  exact .ite (.ok h.same.laneLift) (.ok h.same)

theorem subFaultDown (h : BanksApart s) : BanksApart (s.subFaultDown t) := by
  unfold State.subFaultDown
  exact (((either h.same h).modTile).foldl fun _ _ h => h.laneLimit).refRecord

theorem execSublaneSelfCal (h : BanksApart s) : Out.BanksApart (execSublaneSelfCal t vz vl vh iz il ih s) := by
  unfold Machine.execSublaneSelfCal
  refine .ite (.ok h) ?_
  refine .ite (.ok h.driftEnd.modTile.modTile) ?_
  exact .ite (.ok h.driftEnd.modTile) (.ite (.ok h.driftEnd.modTile.modTile) (.ok h.driftEnd.modTile.subFaultDown))

theorem execCalPendingSkip (h : BanksApart s) : Out.BanksApart (execCalPendingSkip p s) := by
  unfold Machine.execCalPendingSkip
  exact .ite (.ok h.same) (.ok h)

theorem dacLock (h : BanksApart s) : BanksApart (s.dacLock p idx) := by
  unfold State.dacLock
  exact h.portSafe.endContract.attachEnds.modPort.postEvt.queueFault.refRecord

theorem execDacReadback (h : BanksApart s) : Out.BanksApart (execDacReadback p dac v changed s) := by
  unfold Machine.execDacReadback
  refine .ite (.ok h) ?_
  exact .ite (.ok h.same) (.ite (.ok h.same) (.ite (.ite (.ok h) (.ok h.cmpStuck)) (.ite (.ok h) (.ok h.dacLock))))

theorem execNtcMean {r : Nat} (h : BanksApart s) : Out.BanksApart (execNtcMean t r vt s) := by
  unfold Machine.execNtcMean
  exact .ite (.ok h) (.ok h.same)

theorem execNtcFaultFlag (h : BanksApart s) : Out.BanksApart (execNtcFaultFlag t s) := by
  unfold Machine.execNtcFaultFlag
  exact .ite (.ok (h.same.foldl fun _ _ h => h.postEvt)) (.ok h)

theorem execNtcFaultClear (h : BanksApart s) : Out.BanksApart (execNtcFaultClear t s) := by
  unfold Machine.execNtcFaultClear
  exact .ite (.ok (h.same.foldl fun _ _ h => h.postEvt)) (.ok h)

/-! ### The tile links -/

theorem portLost (h : BanksApart s) : BanksApart (s.portLost p) := by
  unfold State.portLost
  exact either h.queueFault ((h.queueFault.portForce.endContract.attachEnds.modPort).modSb)

theorem tileSafe (h : BanksApart s) : BanksApart (s.tileSafe t) := either h ((((h.foldl fun _ _ h => h.portLost).finish).modTile).setFence)
theorem assertWire {c : WireCause} (h : BanksApart s) : BanksApart (s.assertWire t c) := h.same.tileSafe.releaseFeedSvc
theorem linkLoss (h : BanksApart s) : BanksApart (s.linkLoss t) := either h h.same.refRecord.tileSafe.releaseFeedSvc

theorem execTileLinkPacket (h : BanksApart s) : Out.BanksApart (execTileLinkPacket t toHub header payload crc s) := by
  unfold Machine.execTileLinkPacket
  exact .ite (.ok h) (.ite (.ite (.ok h.same.linkLoss) (.ok h.same)) (.ite (.ok h.same) (.ok h.same)))

theorem execTileLinkResendTimeout (h : BanksApart s) : Out.BanksApart (execTileLinkResendTimeout t toHub seq s) := by
  unfold Machine.execTileLinkResendTimeout
  exact .ite (.ok h) (.ite (.ok h.linkLoss) (.ite (.ok h.same) (.ok h)))

theorem execTileLinkIdle (h : BanksApart s) : Out.BanksApart (execTileLinkIdle t toHub s) := by
  unfold Machine.execTileLinkIdle
  exact .ite (.ok h) (.ok h.same)

theorem execLinkLoss (h : BanksApart s) : Out.BanksApart (execLinkLoss t s) := .ok h.linkLoss

theorem execSafeWireRelease (h : BanksApart s) : Out.BanksApart (execSafeWireRelease t cause s) := by
  unfold Machine.execSafeWireRelease
  dsimp only
  split; exacts [.ok h, .ok h, .ok h, .ok h, .ite (.ok h.same) (.ok h), .ite (.ok h.same) (.ok h)]

theorem execTileLinkTrainRetry (h : BanksApart s) : Out.BanksApart (execTileLinkTrainRetry t s) := .ite (.ok h.same) (.ok h)
theorem execTileLinkTrained (h : BanksApart s) : Out.BanksApart (execTileLinkTrained t s) := .ite (.ok h.same) (.ok h)
theorem execTileReloadDone (h : BanksApart s) : Out.BanksApart (execTileReloadDone t s) :=
  .ite (.ok (either h.tileCatchUp.modTile h.tileCatchUp.modTile.modTile.setFence).releaseFeedSvc) (.ok h)

theorem tileRestart {k : TileId} (h : BanksApart s) : BanksApart (s.tileRestart k) := by
  unfold State.tileRestart
  exact (((h.foldl fun _ _ h => h.same).modTile).modTile).modPwr

theorem execTileSafeExit {k : TileId} (h : BanksApart s) : Out.BanksApart (execTileSafeExit k s) := by
  unfold Machine.execTileSafeExit
  exact .ite (.ok ((((either h.tileRestart h).foldl fun _ _ h => h.same).modTile).setFence)) (.ok h)

/-! ### The referee -/

theorem deviceSafe (h : BanksApart s) : BanksApart s.deviceSafe := either h ((h.same.foldl fun _ _ h => h.assertWire).foldl fun _ _ h => h.same)
theorem refDeviceFail (h : BanksApart s) : BanksApart (s.refDeviceFail c) := h.refRecord.deviceSafe
theorem refTileFail (h : BanksApart s) : BanksApart (s.refTileFail c t w) := h.refRecord.assertWire
theorem refPort (h : BanksApart s) : BanksApart (s.refPort c p) := h.refRecord.modRef

theorem ovReact (h : BanksApart s) : BanksApart (s.ovReact p) := by
  unfold State.ovReact
  exact (either h.refPort.portTrip h.refPort).cmpStuck

theorem crossReact (h : BanksApart s) : BanksApart (s.crossReact p) := h.refPort.cmpStuck

theorem digestPorts {l : List (PortId × DigPort)} (h : BanksApart s) : BanksApart (s.digestPorts l) := by
  unfold State.digestPorts
  exact ((h.same.foldl fun _ _ h => h.ovReact).foldl fun _ _ h => h.crossReact).foldl fun _ _ h => h.stuckSwitch

theorem digestLost (h : BanksApart s) : BanksApart (s.digestLost t) := either h.same.refTileFail h

theorem execDigestReceived (h : BanksApart s) : Out.BanksApart (execDigestReceived t tick valid ports also_ s) := by
  unfold Machine.execDigestReceived
  exact .ite (.ok h) (.ite (.ok h.same.digestLost) (.ok (h.same.foldl fun _ _ h => h.tripCycle).digestPorts))

theorem execDigestLost (h : BanksApart s) : Out.BanksApart (execDigestLost t s) := .ok h.digestLost
theorem execPortReactionTimeout (h : BanksApart s) : Out.BanksApart (execPortReactionTimeout p s) := .ite (.ok h.same.assertWire) (.ok h)

theorem execClockMonitorWindow (h : BanksApart s) : Out.BanksApart (execClockMonitorWindow m dev absent s) := by
  unfold Machine.execClockMonitorWindow
  dsimp only
  exact .ite (.ok h) (by split <;> exact .ite (.ok h.same.refDeviceFail) (.ok h.same))

theorem execAllocationMirrorCheck (h : BanksApart s) : Out.BanksApart (execAllocationMirrorCheck vectorOk s) :=
  .ite (.ok h) (.ite (.ok (either h.same h.same.refDeviceFail)) (.ok (either h.same h.same.refDeviceFail).refDeviceFail))

theorem execMirrorLate (h : BanksApart s) : Out.BanksApart (execMirrorLate s) := .ite (.ok h.same.refDeviceFail) (.ok h)
theorem execRomHubCheck (h : BanksApart s) : Out.BanksApart (execRomHubCheck good s) := .ite (.ok h) (.ok h.refDeviceFail)

theorem execRomTileCheck (h : BanksApart s) : Out.BanksApart (execRomTileCheck t good s) := by
  unfold Machine.execRomTileCheck
  exact .ite (.ok h) (.ite (.ok h.same) (.ok h.same.refTileFail))

theorem execSupplyHub (h : BanksApart s) : Out.BanksApart (execSupplyHub rail mv s) := .ite (.ok h.refDeviceFail) (.ok h)
theorem execSupplyTile (h : BanksApart s) : Out.BanksApart (execSupplyTile t mv s) := .ite (.ok h.same.refTileFail) (.ok h)
theorem execTriplicatedRegisterDisagree (h : BanksApart s) : Out.BanksApart (execTriplicatedRegisterDisagree s) := .ite (.ok h.refDeviceFail) (.ok h)
theorem execPllLockTimeout (h : BanksApart s) : Out.BanksApart (execPllLockTimeout s) := .ite (.ok h) (.ok h.same.refDeviceFail)
theorem execRefereeSelftestDone (h : BanksApart s) : Out.BanksApart (execRefereeSelftestDone pass s) :=
  .ite (.ok h) (.ite (.ok (h.same.foldl fun _ _ h => h.same)) (.ok h.refDeviceFail))

end State.BanksApart

end Sys2Proof.Machine
end

section
/-! SUPPORT. Sessions, fuses and the huddle: the settings of a feed are not its bank (R185). -/
set_option Elab.async false
namespace Sys2Proof.Machine

variable {s u : State} {x own rec advanced floorOk boot tech nak kick : Bool} {addr missed : Byte} {region : Fin 16} {j : FuseJob} {op : FuseOp}
  {r : FuseResult} {src : FuseSrc} {need : Level} {c : List (Nat × Nat)} {places : List (PortId × CoreId)} {payload more : List Byte}
  {reads : List FuseRead} {l : List Nat} {k : Nak} {cmd w0 n vpp vaux copies off target due : Nat} {tag : Option (BitVec 16)}
  {q : Option (BitVec 8 × BitVec 8)} {svc : Option (BitVec 8)} {fail : Option FuseFail} {a : Path6} {p : PortId} {e : Staged}
  {g : State → Option (BitVec 8) → Word → State} {f : SvcFrame} {t : TileId} {st : UpdState} {ver data v mask : Word}

namespace State.BanksApart

/-! ### Sessions -/

theorem newChallenge (h : BanksApart s) : BanksApart s.newChallenge.2 := h.freeWord.freeWord.freeWord.freeWord
theorem proofFailed (h : BanksApart s) : BanksApart s.proofFailed := h.same
theorem lockClear (h : BanksApart s) : BanksApart s.lockClear := h.same
theorem svcReply (h : BanksApart s) : BanksApart (s.svcReply f cmd payload) := h.same
theorem svcNak (h : BanksApart s) : BanksApart (s.svcNak f cmd k more) := h.same
theorem svcUsed (h : BanksApart s) : BanksApart (s.svcUsed f) := either h.same h

theorem svcRun {g : State → State} (h : BanksApart s) (hg : ∀ u, BanksApart u → BanksApart (g u)) :
    BanksApart (s.svcRun f cmd need x own rec g) := by
  unfold State.svcRun
  dsimp only
  exact either h (by split; exacts [h.toRun.svcUsed.svcNak, hg _ h.toRun.svcUsed])

theorem postUpd (h : BanksApart s) : BanksApart (s.postUpd st ver) := h.same.postEvt
theorem eraseSlot {k : Slot} (h : BanksApart s) : BanksApart (s.eraseSlot k) := h.same

theorem endDownload (h : BanksApart s) : BanksApart s.endDownload := by
  unfold State.endDownload
  split; exacts [h.same.postUpd.eraseSlot, h]

theorem svcClose (h : BanksApart s) : BanksApart s.svcClose := by
  unfold State.svcClose
  exact (either h.same h.same).endDownload

theorem hostClose (h : BanksApart s) : BanksApart s.hostClose := by
  unfold State.hostClose
  exact either h.same h.same

/-! ### Fuses -/

theorem confirmDone (h : BanksApart s) : BanksApart (s.confirmDone advanced floorOk) := by
  unfold State.confirmDone
  exact either (((either h.same h).postUpd).postUpd) ((either h.same h).postUpd)

theorem audit (h : BanksApart s) : BanksApart (s.audit w0 n boot) := by
  unfold State.audit
  exact either ((h.same.foldl fun _ _ h => h.postEvt).refDeviceFail) (h.same.foldl fun _ _ h => h.postEvt)

theorem fuseEnd (h : BanksApart s) : BanksApart (s.fuseEnd j r) := by
  unfold State.fuseEnd
  dsimp only
  refine either ?_ ?_
  · refine confirmDone ?_
    split; exacts [either h.same.svcReply h.same, h.same]
  · split; exacts [either h.same.svcReply h.same, h.same]

theorem fuseBegin (h : BanksApart s) : BanksApart (s.fuseBegin j vpp) := by
  unfold State.fuseBegin
  dsimp only
  split; exacts [h.fuseEnd, either h.same.audit (either h.same h.fuseEnd)]

theorem fuseWrite {cmd : Word} (h : BanksApart s) (hg : ∀ u x1 x2, BanksApart u → BanksApart (g u x1 x2)) :
    BanksApart (s.fuseWrite a x tech cmd g) :=
  either h (either h.same (hg _ _ _ h.same))

theorem fuseCmd {cmd : Word} (h : BanksApart s) (hg : ∀ u x1 x2, BanksApart u → BanksApart (g u x1 x2)) :
    BanksApart (s.fuseCmd src x tech cmd g) := by
  unfold State.fuseCmd
  dsimp only
  refine either h ?_
  split; exacts [either (h.toRun.fuseWrite hg) h, h.svcRun (fun _ h => either h.svcNak (either h.svcNak (hg _ _ _ h.same)))]

theorem fuseTake (h : BanksApart s) : BanksApart (s.fuseTake op region addr vpp svc data) := by
  unfold State.fuseTake
  exact either h.same h.fuseBegin

theorem fuseOp (h : BanksApart s) : BanksApart (s.fuseOp src op region addr vpp) := h.fuseCmd (fun _ _ _ h => h.fuseTake)
theorem execProgramWord (h : BanksApart s) : Out.BanksApart (execProgramWord src addr vpp s) := .ok h.fuseOp
theorem execIntegrity (h : BanksApart s) : Out.BanksApart (execIntegrity src region vpp s) := .ok h.fuseOp
theorem execLock (h : BanksApart s) : Out.BanksApart (execLock src region vpp s) := .ok h.fuseOp
theorem execForceLock (h : BanksApart s) : Out.BanksApart (execForceLock src region vpp s) := .ok h.fuseOp
theorem execReadLock (h : BanksApart s) : Out.BanksApart (execReadLock src region vpp s) := .ok h.fuseOp
theorem execReinforce (h : BanksApart s) : Out.BanksApart (execReinforce src region vpp s) := .ok h.fuseOp
theorem execAudit (h : BanksApart s) : Out.BanksApart (execAudit src region reads s) := .ok h.same.fuseOp
theorem execFloorAdvance (h : BanksApart s) : Out.BanksApart (execFloorAdvance src vpp s) := .ok h.fuseOp

theorem execFuseReservedOp {op : TileId} (h : BanksApart s) : Out.BanksApart (execFuseReservedOp src op region s) := by
  unfold Machine.execFuseReservedOp
  dsimp only
  exact .ok (h.fuseCmd (fun _ _ _ h => by split; exacts [h.same.svcReply, h.same]))

theorem auditIfDue (h : BanksApart s) : BanksApart s.auditIfDue := either h.same.audit h

theorem auditEnd (h : BanksApart s) : BanksApart s.auditEnd := by
  unfold State.auditEnd
  dsimp only
  exact either (by split; exacts [either h.same.fuseEnd h.same, h.same]) h

theorem execFuseAuditPeriodic (h : BanksApart s) : Out.BanksApart (execFuseAuditPeriodic reads s) :=
  .ite (.ok h) (.ite (.ok h.same) (.ok h.same.audit))

theorem execFuseHeldOpStart (h : BanksApart s) : Out.BanksApart (execFuseHeldOpStart vpp s) := by
  unfold Machine.execFuseHeldOpStart
  dsimp only
  exact .ite (.ok h.auditEnd) (by split; exacts [.ok h.auditEnd.modFuse.fuseBegin.auditIfDue, .ok h.auditEnd.auditIfDue])

theorem execFuseOperationDone (h : BanksApart s) : Out.BanksApart (execFuseOperationDone fail s) := by
  unfold Machine.execFuseOperationDone
  dsimp only
  split; exacts [.ok h, .ite (.ok h.auditEnd.auditIfDue) (.ok (((either h.same.audit.modFuse h.same).fuseEnd).auditIfDue))]

theorem execFuseSupplyLost (h : BanksApart s) : Out.BanksApart (execFuseSupplyLost vpp vaux copies s) := by
  unfold Machine.execFuseSupplyLost
  split; exacts [.ok h, .ite (.ok h) (.ok h.same.fuseEnd.auditIfDue)]

theorem execFuRaddrWrite (h : BanksApart s) : Out.BanksApart (execFuRaddrWrite addr s) := .ite (.ok h) (.ok h.toRun.modFuse)

theorem fuseBoot (h : BanksApart s) : BanksApart (s.fuseBoot reads) := by
  unfold State.fuseBoot
  exact either h.same.audit h.same.audit.refDeviceFail

/-! ### The huddle -/

/-- The settings of a feed are not its bank. -/
theorem setFeedWin {f : FeedId} {v : Word} (h : BanksApart s) : BanksApart (s.setFeedWin f v) := by
  rw [State.setFeedWin_eq]
  exact h.modFeed

theorem setFeedRate {f : FeedId} {v : Word} (h : BanksApart s) : BanksApart (s.setFeedRate f v) := by
  rw [State.setFeedRate_eq]
  exact h.modFeed

theorem rwsPut (h : BanksApart s) : BanksApart (s.rwsPut e) := by
  unfold State.rwsPut
  dsimp only
  split
  · exact h.same
  · exact h.same
  · exact h
  · refine either h.same ?_
    refine either (h.same.foldl fun _ _ h => h.same) ?_
    refine either h.same ?_
    refine either h.setFeedWin ?_
    refine either h.setFeedWin ?_
    refine either h.setFeedRate ?_
    refine either h.setFeedRate ?_
    refine either h.same ?_
    exact either h.same (either h.same (either h.same (either h.same (either h.same (either h.same (either h.same h))))))

theorem curvePut {e : Nat × List (Nat × Nat)} (h : BanksApart s) : BanksApart (s.curvePut e) := by
  have fb2 (f : FeedId) : BanksApart (s.modFeed f fun q => { q with fb2 := e.2 }) := h.modFeed
  exact either h.same (either h.same (either (fb2 .fda) (either (fb2 .fdb) h)))

theorem withStaged (h : BanksApart s) : BanksApart s.withStaged := (h.foldl fun _ _ h => h.rwsPut).foldl fun _ _ h => h.curvePut
theorem hudTouch (h : BanksApart s) : BanksApart s.hudTouch := h.same
theorem stageMask (h : BanksApart s) : BanksApart (s.stageMask off mask v) := either h (either h.same h.same)

theorem stageWrite (h : BanksApart s) : BanksApart (s.stageWrite off v x) := by
  unfold State.stageWrite
  exact h.stageMask

theorem stageCurve (h : BanksApart s) : BanksApart (s.stageCurve target c) := h.same.hudTouch

theorem checkSteps (h : BanksApart s) : BanksApart (s.checkSteps l).1 := by
  induction l generalizing s with
  | nil => exact h
  | cons n l ih =>
    unfold State.checkSteps
    dsimp only
    split; exacts [ih h.same, h.same.pair]

theorem checkMsgs {l : List TileId} (h : BanksApart s) : BanksApart (s.checkMsgs l).1 := by
  induction l generalizing s with
  | nil => exact h
  | cons n l ih =>
    unfold State.checkMsgs
    split
    · exact ih h
    · dsimp only
      split; exacts [ih h.same, h.same.pair]

theorem checkAll (h : BanksApart s) : BanksApart s.checkAll.1 := by
  unfold State.checkAll
  split
  next e =>
  have k := of_fst h.checkSteps e
  split
  · exact k
  · split
    next e2 =>
    have k2 := of_fst k.checkMsgs e2
    split <;> exact k2

theorem hudCheck (h : BanksApart s) : BanksApart s.hudCheck.1 := by
  unfold State.hudCheck
  split
  next e => exact (of_fst h.checkAll e).modHud.pair
  next e => exact (of_fst h.checkAll e).modHud.postEvt.pair

theorem kickArming (h : BanksApart s) : BanksApart s.kickArming := either h h.same

theorem hudArm {src : KickSource} {svc : Option (BitVec 8 × BitVec 8)} (h : BanksApart s) : BanksApart (s.hudArm src due tag svc) := by
  unfold State.hudArm
  exact ((either h.kickArming h).foldl fun _ _ h => h.same).modHud

theorem hudReply (h : BanksApart s) : BanksApart (s.hudReply q nak) := by
  unfold State.hudReply
  dsimp only
  split; exacts [h, either h.svcNak h.svcReply]

theorem hudDiscard (h : BanksApart s) : BanksApart s.hudDiscard := either h h.same.finish.hudReply

theorem unreserve (h : BanksApart s) : BanksApart (s.unreserve p) := by
  unfold State.unreserve
  dsimp only
  exact modSc (by split; exacts [h.same, h])

theorem setPin (h : BanksApart s) : BanksApart (s.setPin places p) := by
  unfold State.setPin
  dsimp only
  split; exacts [h.same, (either h.same.unreserve h.same).foldl fun _ _ h => either h.same h]

theorem placePins (h : BanksApart s) : BanksApart s.placePins := by
  unfold State.placePins
  exact h.foldl fun _ _ h => either h h.setPin

theorem kickApply (h : BanksApart s) : BanksApart (s.kickApply missed kick) := by
  unfold State.kickApply
  extract_lets hud late s0 s1 s2 s3 s4
  have h2 : BanksApart s2 :=
    ((h.foldl fun _ _ h => either h.same h).withStaged.foldl fun _ _ h => either h h.tileTakeUp).placePins
  have h4 : BanksApart s4 := (either h2.snapLatch h2).foldl fun _ _ h => h.same
  exact h4.modHud.modLink.finish.hudReply.postEvt

theorem execTilesReady (h : BanksApart s) : Out.BanksApart (execTilesReady s) := .ite (.ok ((h.foldl fun _ _ h => h.same).modHud)) (.ok h)
theorem execKickoffCommit (h : BanksApart s) : Out.BanksApart (execKickoffCommit s) := .ite (.ok h.toRun.modHud) (.ok h)
theorem execKickoffApply (h : BanksApart s) : Out.BanksApart (execKickoffApply missed s) := .ite (.ok h.toRun.kickApply) (.ok h)
theorem execApplyPacket (h : BanksApart s) : Out.BanksApart (execApplyPacket t s) := .ite (.ok h.tileCatchUp.modTile.modHud) (.ok h)
theorem execKickLineLow (h : BanksApart s) : Out.BanksApart (execKickLineLow s) := .ok h.same
theorem writeKickCfg (h : BanksApart s) : BanksApart (s.writeKickCfg v) := either h h.same
theorem execKickJoinWrite (h : BanksApart s) : Out.BanksApart (execKickJoinWrite v s) := .ite (.ok h) (.ok h.toRun.writeKickCfg)

end State.BanksApart

end Sys2Proof.Machine
end

section
/-! SUPPORT. Descriptors and the host registers: FEED_CONTROL closes no second bank (R185). -/
set_option Elab.async false
namespace Sys2Proof.Machine

variable {s u : State} {full sel every on : Bool} {c : Chain} {k : CoreId} {code : CplCode} {d : Desc} {e : EvtBody}
  {bad : List (PortId × CplCode)} {data : List Byte} {slots : List Desc} {l : List PortId} {off n op a : Nat} {r : NpReason} {p : PortId}
  {may : PortId → Bool} {m : SegMem} {o : State} {f : State → PortId → State × CplCode} {v : Word}

namespace State.BanksApart

/-! ### Registers -/

theorem rcClear (h : BanksApart s) : BanksApart (s.rcClear off) := by
  unfold State.rcClear
  split; exacts [h.same, h.same, h.same, h, either h.same (either h.same (either h.same (either h.same (either h.same (either h.same h)))))]

theorem regRead {a : Path6} (h : BanksApart s) : BanksApart (s.regRead a off).2 := by
  unfold State.regRead
  split; exacts [h, by split; exacts [h.same, h, by split; exacts [h, h.rcClear]]]

/-! ### Port control -/

theorem dropSlot (h : BanksApart s) : BanksApart (s.dropSlot p) := h.same

theorem rebuildCtx (h : BanksApart s) : BanksApart (s.rebuildCtx p) := by
  unfold State.rebuildCtx
  exact h.dropSlot.modCores.unpoison

theorem abortPending {l : List Desc} (h : BanksApart s) : BanksApart (s.abortPending p l) := by
  unfold State.abortPending
  exact h.finish.foldl fun _ _ h => h.same.cplDesc

theorem portDisable (h : BanksApart s) : BanksApart (s.portDisable p) := by
  unfold State.portDisable
  extract_lets q s00 s0 s1
  have h0 : BanksApart s0 := either h.abortDescs.modTile.finishPort h.abortDescs
  exact either h0.modPort (either h0 h0.modPort.errorRecovery)

theorem portEnable (h : BanksApart s) : BanksApart (s.portEnable p).1 := by
  unfold State.portEnable
  dsimp only
  split
  · exact h
  · split
    · exact h
    · split; exacts [h, either (either h.same.rebuildCtx.modSc h.same).modPort (either h.same.rebuildCtx.modSc h.same)]

theorem quarantine (h : BanksApart s) : BanksApart (s.quarantine p e) := by
  unfold State.quarantine
  exact h.same.postEvt.abortPending.portDisable.modSc

theorem profileChanged (h : BanksApart s) : BanksApart (s.profileChanged p) := by
  unfold State.profileChanged
  dsimp only
  refine either ?_ (either h.same.sendOffer h.same.eprLeave.offerChange)
  split
  · exact h.same
  · exact h.same
  · exact h.same
  · refine either h.same.hardReset ?_
    split <;> exact h.same

theorem setProfile (h : BanksApart s) : BanksApart (s.setProfile p n) := h.same.demandRose.profileChanged

/-! ### The host link -/

theorem cplChain (h : BanksApart s) : BanksApart (s.cplChain c code data) := h.complete

theorem chainDrop (h : BanksApart s) : BanksApart (s.chainDrop n code data) := by
  unfold State.chainDrop
  split; exacts [h.modRing.cplChain, h]

theorem chainTake (h : BanksApart s) : BanksApart (s.chainTake n d) := by
  unfold State.chainTake
  dsimp only
  split; exacts [either h.modRing.chainDrop.modRing h.modRing.chainDrop, either h.modRing.modLink h.modRing]

theorem takeDesc (h : BanksApart s) : BanksApart (s.takeDesc n d) := by
  unfold State.takeDesc
  extract_lets bad good s0 s1 s2
  have h2 : BanksApart s2 := by
    unfold s2
    split; exacts [either h.modRing h.modRing.chainDrop, h.modRing]
  refine either (either h.modRing h).cplDesc (either h2.chainTake (either ?_ h2.modLink))
  unfold bad
  split; exacts [h2.cplDesc, h2]

theorem fetchRing {k : Nat} (h : BanksApart s) : BanksApart (s.fetchRing n slots k) := by
  induction k generalizing s with
  | zero => exact h
  | succ k ih =>
    unfold State.fetchRing
    refine either h ?_
    split; exacts [h, either h.modRing (ih h.modRing.takeDesc)]

theorem drainRing {k : Nat} (h : BanksApart s) : BanksApart (s.drainRing n slots k) := by
  induction k generalizing s with
  | zero => exact h.drained
  | succ k ih =>
    unfold State.drainRing
    refine either h.drained ?_
    split; exacts [h, ih (either h.modRing.modRing.drained h.modRing.modRing.complete)]

theorem fetchAll (h : BanksApart s) : BanksApart (s.fetchAll slots) := h.foldl fun _ _ h => h.fetchRing.drainRing
theorem ringDrain (h : BanksApart s) : BanksApart (s.ringDrain n) :=
  either h.drainBacklog (either h.tlmDrain (either (h.foldl fun _ _ h => h.capDrain) h))

theorem doorbell (h : BanksApart s) : BanksApart (s.doorbell n v full slots) := by
  unfold State.doorbell
  exact either h.same (either h.modRing.fetchAll h.modRing.ringDrain.fetchAll)

theorem msixWrite (h : BanksApart s) : BanksApart (s.msixWrite off v) := by
  unfold State.msixWrite
  exact either h.same.raise h.same

theorem execDoorbell {off : Fin 4096} (h : BanksApart s) : Out.BanksApart (execDoorbell off v full slots s) :=
  .ite (.ok h) (.ite (.ok h.toRun.doorbell) (.ite (.ok h.msixWrite) (.ok h)))

theorem execPhaseReread {n : Fin 14} (h : BanksApart s) : Out.BanksApart (execPhaseReread n slots s) := by
  unfold Machine.execPhaseReread
  exact .ite (.ok h) (by split; exacts [.ok h.modRing.fetchRing.modRing, .ok h.fetchRing, .ok h.drainRing, .ok h])

theorem execHostlinkStall {n : Fin 14} (h : BanksApart s) : Out.BanksApart (execHostlinkStall n s) := .ite (.ok h.modRing.postEvt) (.ok h)
theorem execChainTimeout {n : Fin 14} (h : BanksApart s) : Out.BanksApart (execChainTimeout n s) := .ite (.ok h.chainDrop) (.ok h)

theorem execMsixTimeTrigger {n : Fin 14} (h : BanksApart s) : Out.BanksApart (execMsixTimeTrigger n s) := by
  unfold Machine.execMsixTimeTrigger
  exact .ite (.ok h.modRing.raise) (.ok h)

theorem cancelOne {e : Unstarted} (h : BanksApart s) : BanksApart (s.cancelOne n e) := by
  unfold State.cancelOne
  split; exacts [h.same.cplDesc, h.same.cplChain, h.modRing.cplChain]

theorem disableHost (h : BanksApart s) : BanksApart (s.disableHost n slots) := by
  unfold State.disableHost
  exact (h.modRing.foldl fun _ _ h => h.cancelOne).drainRing

theorem writeRingCfg (h : BanksApart s) : BanksApart (s.writeRingCfg n v slots) := by
  unfold State.writeRingCfg
  refine either ?_ (either h.modRing (either h h.modRing.ringDrain))
  exact either h.modRing (either h (either h.modRing.disableHost h.modRing.modRing))

theorem execRingEnable {n : Fin 14} (h : BanksApart s) : Out.BanksApart (execRingEnable n v s) := .ite (.ok h.toRun.writeRingCfg) (.ok h)
theorem execRingDisable {n : Fin 14} (h : BanksApart s) : Out.BanksApart (execRingDisable n v slots s) := .ite (.ok h.toRun.writeRingCfg) (.ok h)
theorem sessionUse (h : BanksApart s) : BanksApart (s.sessionUse d) := either h.same h

theorem startDesc {f : State → State} (h : BanksApart s) (hf : ∀ u, BanksApart u → BanksApart (f u)) : BanksApart (s.startDesc d op sel f) := by
  unfold State.startDesc
  dsimp only
  refine either ?_ h
  split; exacts [h.same.sessionUse.cplDesc, either h.same.sessionUse.cplDesc (either (hf _ h.same.sessionUse) h)]

theorem startPort {f : PortId → State → State}
    (h : BanksApart s) (hf : ∀ x0 u, BanksApart u → BanksApart (f x0 u)) : BanksApart (s.startPort d op f) := by
  unfold State.startPort
  exact h.startDesc (fun _ h => by split; exacts [hf _ _ h, h])

theorem eachPort (h : BanksApart s) (hf : ∀ u p, BanksApart u → BanksApart (f u p).1) : BanksApart (s.eachPort l f).1 := by
  unfold State.eachPort
  refine foldlFst h fun a p h => ?_
  split
  · exact h
  · dsimp only
    split; exacts [(hf _ _ h).pair, (hf _ _ h).pair]

theorem startPorts (h : BanksApart s) (hf : ∀ u p, BanksApart u → BanksApart (f u p).1) : BanksApart (s.startPorts d op every f) :=
  h.startDesc fun u h => by
    split
    next e => exact (of_fst (h.eachPort hf) e).cplDesc

theorem waitPorts {k : WaitFor} (h : BanksApart s) : BanksApart (s.waitPorts d op k l bad) := by
  unfold State.waitPorts
  dsimp only
  split; exacts [h.cplDesc, h.same]

theorem cplNo (h : BanksApart s) : BanksApart (s.cplNo d op r) := h.cplDesc
theorem hostEvent (h : BanksApart s) : BanksApart (s.hostEvent p d) := h.queueEv

/-! ### Descriptors -/

theorem execUnknownOpcode (h : BanksApart s) : Out.BanksApart (execUnknownOpcode d s) := .ite (.ok h.same.cplDesc) (.ok h)
theorem execDescriptorStartTimeout (h : BanksApart s) : Out.BanksApart (execDescriptorStartTimeout d s) := .ite (.ok h.same.cplDesc) (.ok h)
theorem execPdSendReplyTimeout (h : BanksApart s) : Out.BanksApart (execPdSendReplyTimeout p s) := .ite (.ok h.same.finishPort.goNext) (.ok h)
theorem execNop (h : BanksApart s) : Out.BanksApart (execNop d s) := .ok (h.startDesc (fun _ h => h.cplOk))
theorem execPortEnable (h : BanksApart s) : Out.BanksApart (execPortEnable d s) := .ok (h.startPorts (fun _ _ h => h.portEnable))

theorem execPortDisable (h : BanksApart s) : Out.BanksApart (execPortDisable d s) := by
  refine .ok (h.startDesc fun _ h => ?_)
  dsimp only
  exact (h.eachPort fun _ _ h => h.abortPending.portDisable.pair).waitPorts

theorem execPortProfile (h : BanksApart s) : Out.BanksApart (execPortProfile d s) :=
  .ite (.ok (h.startPorts fun _ _ h => h.setProfile.hostEvent.pair)) (.ok h)

theorem execPortPdoSet (h : BanksApart s) : Out.BanksApart (execPortPdoSet d s) := by
  unfold Machine.execPortPdoSet
  exact .ite (.ok (h.startPorts (fun _ _ h => (either h.same.demandRose.profileChanged h.same).hostEvent))) (.ok h)

theorem execPortErrorRecovery (h : BanksApart s) : Out.BanksApart (execPortErrorRecovery d s) :=
  .ite (.ok (h.startPort (fun _ _ h => h.errorRecovery.wait.hostEvent))) (.ok h)

theorem execPortHardReset (h : BanksApart s) : Out.BanksApart (execPortHardReset d s) := by
  unfold Machine.execPortHardReset
  refine .ite ?_ (.ok h)
  refine .ok (h.startPort fun _ _ h => ?_)
  split; exacts [h.cplNo, h.cplNo, h.cplNo, h.wait.hostEvent, h.wait.hardReset.hostEvent]

theorem whenMay (h : BanksApart s) (ho : BanksApart o) : Out.BanksApart (s.whenMay d may o) := by
  unfold State.whenMay
  split; exacts [.ite (.ok ho) (.ok h), .ok ho]

theorem execPdSend (h : BanksApart s) : Out.BanksApart (execPdSend d s) := h.whenMay (h.startPort (fun _ _ h => h.wait.send.hostEvent))

theorem execVdmSend (h : BanksApart s) : Out.BanksApart (execVdmSend d s) := by
  unfold Machine.execVdmSend
  exact h.whenMay (h.startPort (fun _ _ h => either h.cplNo h.wait.sendVdm.hostEvent))

theorem execVconnSwapRequest (h : BanksApart s) : Out.BanksApart (execVconnSwapRequest d s) := by
  unfold Machine.execVconnSwapRequest
  exact h.whenMay (h.startPort (fun _ _ h => either h.cplNo (either h.cplDesc h.wait.swapSend.hostEvent)))

theorem execCableDiscover (h : BanksApart s) : Out.BanksApart (execCableDiscover d s) :=
  h.whenMay (h.startPort (fun _ _ h => either h.cplNo (either h.cplDesc h.same.wait.startCable.hostEvent)))
theorem execBudgetStage (h : BanksApart s) : Out.BanksApart (execBudgetStage d s) :=
  .ok (h.startDesc (fun _ h => either h.cplDesc (either (either h.stageMask h).stageMask (either h.stageMask h)).wait))

theorem execClassStage (h : BanksApart s) : Out.BanksApart (execClassStage d s) := by
  unfold Machine.execClassStage
  dsimp only
  exact .ok (h.startDesc (fun _ h => either h.cplDesc (by split <;> exact (h.eachPort (fun _ _ h => h.stageMask)).modLink)))

theorem cplHuddle {e : Nat × Word} (h : BanksApart s) : BanksApart (s.cplHuddle d op e) := h.cplDesc

theorem execHuddleCheck (h : BanksApart s) : Out.BanksApart (execHuddleCheck d s) :=
  .ok (h.startDesc fun _ h => by
    split
    next e => exact (of_fst h.hudCheck e).cplOk
    next e => exact (of_fst h.hudCheck e).cplHuddle)

theorem execKickoffArm (h : BanksApart s) : Out.BanksApart (execKickoffArm d s) := by
  unfold Machine.execKickoffArm
  dsimp only
  refine .ok (h.startDesc fun _ h => ?_)
  refine either h.cplDesc ?_
  refine either h.cplDesc ?_
  refine either h.cplNo ?_
  split
  · refine cplHuddle ?_
    split; exacts [h.hudCheck, h]
  · refine wait ?_
    refine hudArm ?_
    split; exacts [h.hudCheck, h]

theorem execHuddleDiscard (h : BanksApart s) : Out.BanksApart (execHuddleDiscard d s) := .ok (h.startDesc (fun _ h => h.hudDiscard.cplOk))
theorem execSnapshot (h : BanksApart s) : Out.BanksApart (execSnapshot d s) :=
  .ok (h.startDesc fun _ h => either h.cplDesc (State.BanksApart.wait (either h.snapLatch h.same)))

theorem execCaptureArm (h : BanksApart s) : Out.BanksApart (execCaptureArm d s) := by
  unfold Machine.execCaptureArm
  dsimp only
  refine .ok (h.startDesc fun _ h => ?_)
  split; exacts [(h.foldl fun _ _ h => either h.same h).finish.cplOk, either h.cplDesc (either h.cplDesc h.same.wait)]

theorem execTlmConfig (h : BanksApart s) : Out.BanksApart (execTlmConfig d s) := by
  refine .ok (h.startDesc fun _ h => ?_)
  dsimp only
  exact (h.eachPort fun _ _ h => h.same.pair).waitPorts

theorem tableLoad {f : State → Chain → State}
    (h : BanksApart s) (hf : ∀ u x1, BanksApart u → BanksApart (f u x1)) : BanksApart (s.tableLoad n op f) := by
  unfold State.tableLoad
  dsimp only
  split; exacts [h, either h.same.cplChain ((hf _ _ h.same).cplChain)]

theorem execStepTableLoad {n : Fin 14} (h : BanksApart s) : Out.BanksApart (execStepTableLoad n s) := .ok (h.tableLoad (fun _ _ h => h.same.hudTouch))
theorem execMsgTableLoad {n : Fin 14} (h : BanksApart s) : Out.BanksApart (execMsgTableLoad n s) :=
  .ok (h.tableLoad (fun _ _ h => ((h.foldl fun _ _ h => h.same).modHud).hudTouch))
theorem execBreakerCurveStage (h : BanksApart s) : Out.BanksApart (execBreakerCurveStage d s) :=
  .ok (h.startDesc (fun _ h => either h.cplDesc h.stageCurve.cplOk))

theorem setParam (h : BanksApart s) : BanksApart (s.setParam n v) := by
  unfold State.setParam
  exact h.same

theorem execParamSet (h : BanksApart s) : Out.BanksApart (execParamSet d s) := by
  refine .ok (h.startDesc fun _ h => ?_)
  exact ((h.setParam.foldl fun _ _ h => h.demandRose).foldl fun _ _ h => h.queueHk).drainBacklog.cplOk

theorem execParamGet (h : BanksApart s) : Out.BanksApart (execParamGet d s) := .ok (h.startDesc (fun _ h => h.cplDesc))
theorem exportDue (h : BanksApart s) : BanksApart (s.exportDue p) := either h ((h.foldl fun _ _ h => h.same).finishPort)
theorem execCtxExport (h : BanksApart s) : Out.BanksApart (execCtxExport d s) := .ok (h.startPort (fun _ _ h => h.same.exportDue))
theorem execHostPagesBind (h : BanksApart s) : Out.BanksApart (execHostPagesBind d s) := .ok (h.startDesc (fun _ h => h.same.cplOk))

theorem pagesDue (h : BanksApart s) : BanksApart s.pagesDue := by
  unfold State.pagesDue
  exact h.same.finish

theorem execHostPagesWithdraw (h : BanksApart s) : Out.BanksApart (execHostPagesWithdraw d s) := .ok (h.startDesc (fun _ h => h.same.pagesDue))
theorem takeKeys (h : BanksApart s) : BanksApart s.takeKeys := h.same

theorem execSessionOpen (h : BanksApart s) : Out.BanksApart (execSessionOpen d s) := by
  unfold Machine.execSessionOpen
  dsimp only
  refine .ok (h.startDesc fun _ h => ?_)
  refine either h.cplDesc ?_
  split; exacts [either h.cplDesc h.takeKeys.newChallenge.modLink.cplDesc, h.cplNo]

theorem execSessionProve (h : BanksApart s) : Out.BanksApart (execSessionProve d s) := by
  refine .ok (h.startDesc fun _ h => ?_)
  exact either h.cplDesc (either h.hostClose.proofFailed.cplNo (either h.hostClose.lockClear.cplNo h.lockClear.modLink.cplOk))

theorem execSessionClose (h : BanksApart s) : Out.BanksApart (execSessionClose d s) :=
  .ok (h.startDesc (fun _ h => either h.cplNo (either h.cplDesc h.hostClose.cplOk)))
theorem hostUnlock (h : BanksApart s) : BanksApart (s.hostUnlock d on) := either h.cplNo h.same.cplOk
theorem execExpertUnlock (h : BanksApart s) : Out.BanksApart (execExpertUnlock d s) := .ok (h.startDesc (fun _ h => h.hostUnlock))
theorem execExpertRelock (h : BanksApart s) : Out.BanksApart (execExpertRelock d s) := .ok (h.startDesc (fun _ h => h.hostUnlock))
theorem execHostSessionTimeout (h : BanksApart s) : Out.BanksApart (execHostSessionTimeout s) := .ite (.ok h) (.ok h.hostClose)
theorem execFeedEnable (h : BanksApart s) : Out.BanksApart (execFeedEnable d s) :=
  .ok (h.startDesc fun _ h => either h.cplDesc (either h.cplNo (either h.cplDesc h.modFeed.wait.feedQualify.feedWaits)))

theorem execFeedDisable (h : BanksApart s) : Out.BanksApart (execFeedDisable d s) := by
  refine .ok (h.startDesc fun s h => ?_)
  dsimp only
  refine either h.cplDesc (either ?_ ?_)
  · refine (h.modFeed ?_).wait
    split
    · exact .shut
    · next rest => exact .rest (by simpa using rest)
  · split
    · exact either (h.modFeed .shut).modBoard.wait h.cplDesc
    · exact (h.modFeed .shut).noFeed.wait
    · exact h.modFeed.wait
    · next active inrush opening =>
      have rest : (s.feed (feedOf (d.byte 8))).state.busy = false := by
        cases e : (s.feed (feedOf (d.byte 8))).state <;> simp_all [FeedState.busy]
      exact (h.modFeed (.rest rest)).modBoard.feedSelect.cplOk

theorem execFeedClearRetry (h : BanksApart s) : Out.BanksApart (execFeedClearRetry d s) :=
  .ok (h.startDesc fun _ h => (h.modFeed (.clearRetry _)).feedQualify.cplOk)
theorem execRtcSet (h : BanksApart s) : Out.BanksApart (execRtcSet d s) := .ok (h.startDesc fun _ h => either h.cplDesc h.same.cplOk)

/-! ### Operands of moves -/

theorem accessFix (h : BanksApart s) : BanksApart (s.accessFix k m a n) := h.softFix

theorem memWrites {l : List Byte} (h : BanksApart s) : BanksApart (s.memWrites m a l) := by
  unfold State.memWrites
  split <;> exact h.same

theorem readPort (h : BanksApart s) : BanksApart (s.readPort k a).2 := by
  unfold State.readPort
  exact either h.same h

theorem writePort (h : BanksApart s) (e : s.writePort k a v = some u) : BanksApart u := by
  have written (f : Core → Core) (e : some (s.modCore k f) = some u) : BanksApart u := by cases e; exact h.same
  have same (e : some s = some u) : BanksApart u := by cases e; exact h
  unfold State.writePort at e
  dsimp only at e
  split at e
  case h_5 => exact of_ite of_none (written _) e
  case h_10 => exact of_ite (written _) (of_ite (written _) (of_ite (written _) same)) e
  all_goals exact written _ e

end State.BanksApart

end Sys2Proof.Machine
end

section
/-! SUPPORT. The scheduler and the reset of cores touch no bank (R185). -/
set_option Elab.async false
namespace Sys2Proof.Machine

variable {s u : State} {trap : BitVec 16} {retain good : Bool} {k : CoreId} {cause : CtxCause} {i : Fin 16} {waited : List (Nat × Nat)}
  {l data : List Byte} {sub off mem outcome lat : Nat} {p : PortId} {e : QEv} {t : TileId} {word : Word}

namespace State.BanksApart

/-! ### The scheduler -/

theorem heartbeat (h : BanksApart s) : BanksApart (s.heartbeat k) := h.same
theorem freeCore (h : BanksApart s) : BanksApart (s.freeCore k p retain) := h.same.heartbeat

theorem ctxFault (h : BanksApart s) : BanksApart (s.ctxFault k p cause sub off word trap) := by
  unfold State.ctxFault
  exact h.same.quarantine

theorem dispatchFault (h : BanksApart s) : BanksApart (s.dispatchFault k cause sub off word trap) := by
  unfold State.dispatchFault
  split; exacts [h.freeCore.ctxFault.setPin.exportDue, h]

theorem pagingFault (h : BanksApart s) : BanksApart (s.pagingFault k p mem off) := by
  unfold State.pagingFault
  exact h.eccError.freeWord.freeWord.ctxFault.dropSlot.exportDue.pagesDue

theorem pageWrite (h : BanksApart s) : BanksApart (s.pageWrite p off l) := by
  unfold State.pageWrite
  split <;> exact h.same

theorem deepDone (h : BanksApart s) : BanksApart (s.deepDone p outcome) := by
  unfold State.deepDone
  exact h.pageWrite.modSc.queueHk.exportDue.pagesDue

theorem takeDeep (h : BanksApart s) : BanksApart (s.takeDeep p) := by
  unfold State.takeDeep
  exact either h (either h.pageWrite.deepDone (either h.pageWrite.deepDone (either h.pageWrite.deepDone h.pageWrite.modSc)))

theorem execDeepTransferDone (h : BanksApart s) : Out.BanksApart (execDeepTransferDone p good data s) := by
  unfold Machine.execDeepTransferDone
  exact .ite (.ok h) (.ite (.ok h.deepDone) (.ok ((either ((either h.same h).pageWrite) (either h.same h)).deepDone)))

theorem endDispatch (h : BanksApart s) : BanksApart (s.endDispatch k retain) := by
  unfold State.endDispatch
  dsimp only
  split; exacts [h, (either h.freeCore.setPin.takeDeep.resumeHold h.freeCore.setPin.takeDeep).exportDue]

theorem execOverrun (h : BanksApart s) : Out.BanksApart (execOverrun k s) := by
  unfold Machine.execOverrun
  dsimp only
  split; exacts [.ok h, .ite (.ok h) (.ok h.same.endDispatch.postEvt.queueFault)]

theorem execAgePromotion (h : BanksApart s) : Out.BanksApart (execAgePromotion p i s) := by
  unfold Machine.execAgePromotion
  split; exacts [.ite (.ok h.same) (.ok h), .ok h]

theorem takeEvent (h : BanksApart s) : BanksApart (s.takeEvent p e) := h.same.refillQueue

theorem loseEvent (h : BanksApart s) : BanksApart (s.loseEvent p e) := by
  unfold State.loseEvent
  dsimp only
  split; exacts [h.same.refillQueue, h.same.dropReport.refillQueue, h.same.dropReport.refillQueue, h.same.refillQueue]

theorem startDispatch (h : BanksApart s) : BanksApart (s.startDispatch p k lat) := by
  unfold State.startDispatch
  dsimp only
  split
  · exact h
  · split
    · exact h.eccError.unpoison.loseEvent
    · exact (h.softFix.foldl fun _ _ h => h.softFix).takeEvent.memWrites.memWrites.modCore.modSc.modCores.modUpd

theorem writeBack (h : BanksApart s) : BanksApart (s.writeBack p) := by
  unfold State.writeBack
  dsimp only
  split
  · refine either h ?_
    split; exacts [h.pagingFault, h.softFix.modCores.modSc.unpoison]
  · exact h

theorem evict (h : BanksApart s) : BanksApart (s.evict p) := h.writeBack.modSc

theorem pageIn (h : BanksApart s) : BanksApart (s.pageIn k p).1 := by
  unfold State.pageIn
  split
  · exact h
  next n v _ =>
  extract_lets s1 dst c put
  have h1 : BanksApart s1 := by
    unfold s1
    split; exacts [h.evict, h]
  have hput (g d u) (h : BanksApart u) : BanksApart (put g d u) := h.same.unpoison
  clear_value put s1
  split
  · split; exacts [h1.pagingFault.pair, (hput _ _ _ h1.softFix.modCores).pair]
  · split
    · exact h.pair
    · split; exacts [h1.pagingFault.pair, (hput _ _ _ h1.softFix).pair]

theorem execPageInDone (h : BanksApart s) : Out.BanksApart (execPageInDone k lat s) := by
  unfold Machine.execPageInDone
  dsimp only
  refine .ite (.ok h) ?_
  split
  · exact .ite (.ok h.same) (.ok (either h.same.pageIn.startDispatch h.same.pageIn))
  · exact .ite (.ok h) (.ok (either h.pageIn h.pageIn.modCore.modSc))
  · exact .ok h

theorem reserveOn (h : BanksApart s) : BanksApart (s.reserveOn p k) := by
  unfold State.reserveOn
  dsimp only
  exact (modCore (by split; exacts [h.unreserve, h])).modSc

theorem place (h : BanksApart s) (e : s.place waited lat p = some u) : BanksApart u := by
  unfold State.place at e
  extract_lets c may free home fresh waits clear busy at e
  clear_value home waits clear
  cases home with
  | some k => cases e; exact h.unreserve.startDispatch
  | none =>
    refine of_ite of_none (fun e => ?_) e
    split at e
    · cases e; exact h.unreserve.modCore
    · refine of_ite of_none (fun e => ?_) e
      obtain ⟨k, -, rfl⟩ := Option.map_eq_some_iff.mp e
      exact h.reserveOn

theorem takeReserved (h : BanksApart s) : BanksApart (s.takeReserved lat k) := by
  unfold State.takeReserved
  dsimp only
  split; exacts [either h (either h.unreserve (either h.unreserve.startDispatch h.unreserve.modCore)), h]

theorem execSchedulerDecision (h : BanksApart s) : Out.BanksApart (execSchedulerDecision waited lat s) := by
  unfold Machine.execSchedulerDecision
  refine .ite (.ok h) ?_
  have k := (h.foldl (l := allCores) fun u k h => either (c := (u.coreAt k).state == CoreState.idle) (h.heartbeat (k := k)) h).foldl (l := allCores)
    fun u k h => h.takeReserved (lat := lat) (k := k)
  dsimp only
  split
  · exact .ok k
  · refine .ok (k.toRun.getD fun u e => ?_)
    obtain ⟨p, -, e⟩ := List.exists_of_findSome?_eq_some e
    exact k.toRun.place e

theorem execTimerExpired (h : BanksApart s) : Out.BanksApart (execTimerExpired p t s) := by
  unfold Machine.execTimerExpired
  split; exacts [.ite (.ok h) (.ok h.same.queueEv), .ok h]

theorem withdrawTimer {t : Nat} (h : BanksApart s) : BanksApart (s.withdrawTimer p t) := h.same.refillQueue

end State.BanksApart

end Sys2Proof.Machine
end

section
/-! SUPPORT. Images, restarts, resets, DEEP and updates: a reset opens both banks, and the keeper of DEEP holds them as they are (R185). -/
set_option Elab.async false
namespace Sys2Proof.Machine

variable {s u : State} {src : ArmSource} {fresh keep testmode bootsel svcRx low : Bool} {wake missed : Byte} {st : CoreState}
  {speed width : Fin 16} {soft bad : List (Nat × Nat)} {h1 : List Byte} {reads : List FuseRead} {vpp corrected cause mv : Nat}
  {cut : Option (Fin 5 × BitVec 8)} {but : Option PortId} {a : Path6} {why : ResetCause} {k other : Slot} {t : TileId} {stored want v : Word}

namespace State.BanksApart

/-! ### Images -/

theorem settingsDefault (h : BanksApart s) : BanksApart (s.settingsDefault stored want) := h.same.postEvt

theorem applySettings (h : BanksApart s) : BanksApart (s.applySettings k fresh) := by
  unfold State.applySettings
  dsimp only
  split
  · refine either h.same ?_
    split; exacts [either h.same h.settingsDefault, h.settingsDefault]
  · exact either h.same h.settingsDefault
  · exact h.settingsDefault

theorem rebuildAll (h : BanksApart s) : BanksApart s.rebuildAll := by
  unfold State.rebuildAll
  exact h.same.unpoison.foldl fun _ _ h => h.dropSlot

theorem resetCores (h : BanksApart s) : BanksApart (s.resetCores st) := by
  unfold State.resetCores
  exact (State.BanksApart.modCores (h.foldl fun _ _ h => h.same)).setFence.withCore

theorem loadImage (h : BanksApart s) : BanksApart (s.loadImage k) := by
  unfold State.loadImage
  exact h.same

theorem resumeAll (h : BanksApart s) : BanksApart s.resumeAll := h.foldl fun _ _ h => either h.queueHk h

theorem startImage (h : BanksApart s) : BanksApart (s.startImage k keep) := by
  unfold State.startImage
  extract_lets s1 s2 trial s3 s4 s5 s6
  have h2 : BanksApart s2 := resetCores (either h.loadImage h.loadImage.rebuildAll)
  have h6 : BanksApart s6 := h2.modUpd.modPwr.setFence.modRef.placePins.resumeAll
  exact either h6.postUpd h6

theorem agentFloor (h : BanksApart s) : BanksApart (s.agentFloor h1 other vpp) := by
  unfold State.agentFloor
  extract_lets req s1 s2 j
  have erased : BanksApart s2 := either h.same.eraseSlot.modUpd h.same
  exact either (either erased.modFuse erased.confirmDone) erased.fuseBegin

theorem confirm (h : BanksApart s) : BanksApart (s.confirm vpp) := by
  unfold State.confirm
  exact either h.same.agentFloor h.same.confirmDone

theorem enterRecovery (h : BanksApart s) : BanksApart s.enterRecovery := h.same.postUpd
theorem bootFallback (h : BanksApart s) : BanksApart s.bootFallback := either h.enterRecovery h.same

theorem bootFloor (h : BanksApart s) : BanksApart (s.bootFloor vpp) := by
  unfold State.bootFloor
  split; exacts [either h.agentFloor h, h]

theorem bootChoose {wake : Bool} (h : BanksApart s) : BanksApart (s.bootChoose wake) := by
  unfold State.bootChoose
  exact either h.same.enterRecovery (either h.same.bootFallback ((either h.same h.same).modUpd))

theorem execBootImageLoaded (h : BanksApart s) : Out.BanksApart (execBootImageLoaded s) := by
  unfold Machine.execBootImageLoaded
  refine .ite (.ok h) ?_
  split
  · exact .ok h
  · extract_lets back s1 s2 s3
    have h1 : BanksApart s1 := either h.same h
    have h3 : BanksApart s3 := (either h1 h1.applySettings).startImage
    exact .ite (.ok (either h3.postUpd h3)) (.ite (.ok h.bootFallback) (.ite (.ok h.enterRecovery) (.ok h.same)))

/-! ### Restarts -/

theorem execCoreHang {k : CoreId} (h : BanksApart s) : Out.BanksApart (execCoreHang k s) := by
  unfold Machine.execCoreHang
  extract_lets again s0 s1 m
  have h1 : BanksApart s1 := (either h.refDeviceFail h).refRecord.modRef.modUpd
  exact .ite (.ok h) (.ite (.ok h1) (.ok (h1.modRef.foldl fun _ _ h => h.requestHold)))

theorem writeBackAll (h : BanksApart s) : BanksApart (s.writeBackAll but) := h.foldl fun _ _ h => either h h.writeBack

theorem execCoreRestart (h : BanksApart s) : Out.BanksApart (execCoreRestart s) := by
  unfold Machine.execCoreRestart
  split
  · exact .ok h
  · extract_lets hung s1 s2 s3 s4
    clear_value hung
    have h1 : BanksApart s1 := h.writeBackAll.resetCores.setFence
    have h2 : BanksApart s2 := by
      unfold s2
      split; exacts [h1.rebuildCtx.errorRecovery, h1]
    have h4 : BanksApart s4 := h2.modRef.modPwr
    refine .ite (.ok h) (.ok ?_)
    split; exacts [h4.exportDue.resumeAll, h4.resumeAll]

theorem execSramScrub (h : BanksApart s) : Out.BanksApart (execSramScrub corrected soft bad s) := .ite (.ok h) (.ok h.same)

/-! ### Resets, DEEP and waking -/

theorem hostFence (h : BanksApart s) : BanksApart s.hostFence := by
  unfold State.hostFence
  exact ((h.setFence.hostClose.same).modLink).foldl fun _ _ h => either h.deepDone h

theorem hostReset (h : BanksApart s) : BanksApart s.hostReset := h.hostFence.modLink
theorem hostLift {speed width : Nat} (h : BanksApart s) : BanksApart (s.hostLift speed width) := either h h.same.setFence
theorem setCause {k : Nat} (h : BanksApart s) : BanksApart (s.setCause k) := h.same

theorem execPerstNFall (h : BanksApart s) : Out.BanksApart (execPerstNFall s) := by
  unfold Machine.execPerstNFall
  exact .ite (.ok h.same) (.ok h.same.hostReset.setPowered.setCause)

theorem execPerstNRise (h : BanksApart s) : Out.BanksApart (execPerstNRise s) := by
  unfold Machine.execPerstNRise
  exact .ite (.ok h.same.wakeReq) (.ok h.same.wakeReq.setPowered)

theorem execFunctionLevelReset (h : BanksApart s) : Out.BanksApart (execFunctionLevelReset s) := .ite (.ok h.same.hostReset.setCause) (.ok h)
theorem execD3hotEntry (h : BanksApart s) : Out.BanksApart (execD3hotEntry s) := .ite (.ok h.same.hostFence) (.ok h)
theorem execD0Return (h : BanksApart s) : Out.BanksApart (execD0Return speed width s) := .ite (.ok h.same.hostLift) (.ok h)
theorem execPcieLinkTrained (h : BanksApart s) : Out.BanksApart (execPcieLinkTrained speed width s) := .ite (.ok h.hostLift) (.ok h)

/-- After a reset both banks are commanded open (R406). -/
theorem of_shut (a : s.feedA.gate = false) (b : s.feedB.gate = false) : BanksApart s := by
  have shut (f : FeedId) : (s.feed f).gate = false := by cases f; exacts [a, b]
  exact ⟨fun f => Feed.gateOk_of_shut (shut f), fun f _ => shut f.other⟩

theorem execPowerOnReset : Out.BanksApart (execPowerOnReset s) := .ok (of_shut rfl rfl)

theorem deviceReset : BanksApart (s.deviceReset n) := of_shut rfl rfl

theorem execDeviceReset (h : BanksApart s) : Out.BanksApart (execDeviceReset why s) := by
  unfold Machine.execDeviceReset
  split; exacts [.ok deviceReset, .ite (.ok deviceReset) (.ok h), .ok deviceReset]

theorem testMode (h : BanksApart s) : BanksApart (s.testMode testmode) := either h.same.refRecord h
theorem execDomainRelease (h : BanksApart s) : Out.BanksApart (execDomainRelease bootsel testmode reads vpp s) :=
  .ite (.ok h) (.ok (h.same.setPowered.fuseBoot.testMode.bootFloor.bootChoose.foldl fun _ _ h => h.bootAttach))
theorem execPllLocked (h : BanksApart s) : Out.BanksApart (execPllLocked s) := .ite (.ok h) (.ok h.same)

theorem execTileRelease (h : BanksApart s) : Out.BanksApart (execTileRelease t mv s) := by
  unfold Machine.execTileRelease
  exact .ite (.ok h) (.ite (.ok h.setPowered.modTile.releaseFeedSvc) (.ok h.setPowered.modTile.refTileFail))

theorem execTileSupplyRecover (h : BanksApart s) : Out.BanksApart (execTileSupplyRecover t mv s) := .ite (.ok h.same.setCause) (.ok h)

theorem execIdleEntry (h : BanksApart s) : Out.BanksApart (execIdleEntry s) := by
  unfold Machine.execIdleEntry
  exact .ite (.ok h.same) (.ok h)

theorem deepEvents (h : BanksApart s) : BanksApart s.deepEvents := by
  unfold State.deepEvents
  exact ((h.foldl fun _ _ h => h.markSummary).modLink).foldl fun _ _ h => h.same

theorem deepLinks (h : BanksApart s) : BanksApart s.deepLinks := by
  unfold State.deepLinks
  extract_lets s1
  have h1 : BanksApart s1 := h.foldl fun _ _ h => h.modTile.setFence
  have kept : BanksApart ((s1.modFeed .fda deepFeed).modFeed .fdb deepFeed) := h1.modFeed.modFeed
  exact kept.setFence.modPwr

theorem deepOff (h : BanksApart s) : BanksApart (s.deepOff wake) := h.hostFence.same (by simp only [State.deepOff]) (by simp only [State.deepOff])
theorem deepCut (h : BanksApart s) : BanksApart (s.deepCut wake) := h.same

theorem execDeepEntry (h : BanksApart s) : Out.BanksApart (execDeepEntry cut s) := by
  have h1 : BanksApart (s.writeBackAll none) := h.writeBackAll
  have h2 := h1.deepEvents
  unfold Machine.execDeepEntry
  dsimp only
  refine .ite (.ok h) ?_
  split <;> exact .ite (.ok h1.deepCut) (.ite (.ok h2.deepCut) (.ite (.ok h2.deepLinks.deepCut) (.ok h2.deepLinks.deepOff)))

theorem execWake (h : BanksApart s) : Out.BanksApart (execWake svcRx reads vpp s) := by
  unfold Machine.execWake
  refine .ite (.ok h) ?_
  exact .ok (h.same.fuseBoot.bootFloor.bootChoose.foldl fun _ _ h => either h.same (either h.bootAttach h))

theorem execXaCrystalFail (h : BanksApart s) : Out.BanksApart (execXaCrystalFail s) := .ok h.same
theorem execXaCrystalRecover (h : BanksApart s) : Out.BanksApart (execXaCrystalRecover s) := .ok h.same
theorem writePwCtrl (h : BanksApart s) : BanksApart (s.writePwCtrl a v) := either h.same h

/-! ### Updates -/

theorem armUpd (h : BanksApart s) : BanksApart (s.armUpd src) := by
  unfold State.armUpd
  exact ((either h.kickArming h).modUpd).postUpd

theorem updDisarm (h : BanksApart s) : BanksApart s.updDisarm := h.same.postUpd

theorem updCancel (h : BanksApart s) (e : s.updCancel = some u) : BanksApart u := by
  unfold State.updCancel at e
  split at e
  · cases e; exact h.updDisarm
  · split at e
    · cases e; exact h.endDownload
    · cases e

theorem activate (h : BanksApart s) : BanksApart s.activate := by
  unfold State.activate
  dsimp only
  split; exacts [h, either deviceReset ((h.same.postUpd.foldl fun _ _ h => h.requestHold).modUpd)]

theorem execActivationInstant (h : BanksApart s) : Out.BanksApart (execActivationInstant s) := .ite (.ok h.toRun.activate) (.ok h)
theorem noImage (h : BanksApart s) : BanksApart s.noImage := h.resetCores.modUpd.modPwr

theorem execActivationLoadDone (h : BanksApart s) : Out.BanksApart (execActivationLoadDone s) := by
  unfold Machine.execActivationLoadDone
  dsimp only
  split
  · refine .ite (.ok h) ?_
    refine .ite (.ok h.writeBackAll.setCause.applySettings.startImage) ?_
    split
    · refine .ite ?_ (.ok h.writeBackAll.setCause.modUpd.modUpd.noImage.postUpd)
      exact .ok h.writeBackAll.setCause.modUpd.modUpd.applySettings.startImage.postUpd
    · exact .ok h.writeBackAll.setCause.modUpd.noImage.postUpd
  · exact .ok h

theorem execTrialWindowExpiry (h : BanksApart s) : Out.BanksApart (execTrialWindowExpiry vpp s) :=
  .ite (.ok h) (.ite (.ok h.confirm) (.ok deviceReset))
theorem execSessionLockoutEnd (h : BanksApart s) : Out.BanksApart (execSessionLockoutEnd s) := .ite (.ok h.same) (.ok h)

theorem execKickFire (h : BanksApart s) : Out.BanksApart (execKickFire missed s) := by
  unfold Machine.execKickFire
  refine .ite ?_ (.ok h.same)
  refine .ok (either ?_ (either h.same.toRun.kickApply h.same.toRun))
  exact (either h.same.toRun.kickApply h.same.toRun).activate

theorem execKickTimeout (h : BanksApart s) : Out.BanksApart (execKickTimeout low s) := by
  refine .ite (.ok h.same) ?_
  refine .ok (either ?_ (either h.same.finish.hudReply h.same))
  exact (either h.same.finish.hudReply h.same).updDisarm

end State.BanksApart

end Sys2Proof.Machine
end

section
/-! SUPPORT. Writes and the service port close no second bank (R185). -/
set_option Elab.async false
namespace Sys2Proof.Machine

variable {s u : State} {be : BitVec 4} {high on good : Bool} {cmd : Byte} {src : CoreId} {raw : List (BitVec 8)} {slots : List Desc}
  {n r off vpp rate us op len code : Nat} {a : Path6} {p : PortId} {g : State → State} {f : SvcFrame} {v : Word}

namespace State.BanksApart

/-! ### Writes of registers -/

theorem writeRing (h : BanksApart s) : BanksApart (s.writeRing n r v) := by
  unfold State.writeRing
  exact either (either h h.modRing) (either (either h h.modRing) (either h.modRing h))

theorem writeHl (h : BanksApart s) : BanksApart (s.writeHl off v slots) :=
  either h.same (either h (either h.same (either h.same (either h.same (either (either h.writeRingCfg h.writeRing) h)))))

theorem writeRefCfg (h : BanksApart s) : BanksApart (s.writeRefCfg a v) := by
  unfold State.writeRefCfg
  exact h.same

theorem writePw (h : BanksApart s) : BanksApart (s.writePw a off v) := by
  refine either h.same ?_
  refine either h.same ?_
  refine either h.same ?_
  refine either h.same ?_
  refine either h.same ?_
  refine either h.same ?_
  exact either h.writePwCtrl (either h.same (either h.same (either h.same (either h.writeRefCfg (either h.same h)))))

theorem writeFuCmd (h : BanksApart s) : BanksApart (s.writeFuCmd a v vpp) := by
  unfold State.writeFuCmd
  dsimp only
  split; exacts [h.fuseWrite (fun _ _ _ h => h.fuseTake), h.fuseWrite (fun _ _ _ h => h.same)]

theorem saveSettings (h : BanksApart s) (e : s.saveSettings = some u) : BanksApart u := by
  obtain ⟨k, -, rfl⟩ := Option.map_eq_some_iff.mp e
  exact h.same

theorem ctrlArm (h : BanksApart s) : BanksApart (s.ctrlArm a v) := by
  unfold State.ctrlArm
  dsimp only
  exact either h (by split; exacts [either h h.armUpd, either h h.armUpd, either h h.armUpd, h])

theorem ctrlCancel (h : BanksApart s) : BanksApart (s.ctrlCancel v) := either (h.getD fun _ e => h.updCancel e) h
theorem ctrlSave (h : BanksApart s) : BanksApart (s.ctrlSave v) := either (h.getD fun _ e => h.saveSettings e) h
theorem ctrlConfirm (h : BanksApart s) : BanksApart (s.ctrlConfirm v vpp) := either h.confirm h
theorem writeUpCtrl (h : BanksApart s) : BanksApart (s.writeUpCtrl a v vpp) := h.ctrlArm.ctrlCancel.ctrlSave.ctrlConfirm
theorem writeActAt (h : BanksApart s) : BanksApart (s.writeActAt a high v) := either h (either h.same h.same)

theorem writeFuUp (h : BanksApart s) : BanksApart (s.writeFuUp a off v vpp) := by
  refine either h.writeFuCmd ?_
  refine either h.same ?_
  refine either h.same ?_
  exact either h.same (either (either h.same h) (either h.writeUpCtrl (either h.writeActAt (either h.writeActAt h))))

theorem writeStat (h : BanksApart s) : BanksApart (s.writeStat off v) :=
  either h.same (either (h.foldl fun _ _ h => h.same) (either h.same (either h.same h)))
theorem writePathCtrl (h : BanksApart s) : BanksApart (s.writePathCtrl a p v) := either h (either h.same (either h.same.sigSend h.same.startTable))
theorem writePp (h : BanksApart s) : BanksApart (s.writePp a p r v) := either h.writePathCtrl (either h.same h)

theorem busWrite (h : BanksApart s) : BanksApart (s.busWrite a off v vpp slots) := by
  unfold State.busWrite
  refine either h ?_
  refine either h.same ?_
  refine either h.stageWrite ?_
  split; exacts [h.writePp, either h.writeHl (either h.same (either h.writeKickCfg (either h.writePw (either h.writeFuUp h.writeStat))))]

theorem hostWrite (h : BanksApart s) : BanksApart (s.hostWrite off v vpp) := either h.toRun.busWrite h
theorem execRegisterWrite {off : Fin 65536} (h : BanksApart s) : Out.BanksApart (execRegisterWrite off be v s) := .ite (.ok h) (.ok h.hostWrite)
theorem execEventCounterOvfClear {off : Fin 65536} (h : BanksApart s) : Out.BanksApart (execEventCounterOvfClear off v s) :=
  .ite (.ok h) (.ok h.hostWrite)
theorem execUpActivateAtWrite (h : BanksApart s) : Out.BanksApart (execUpActivateAtWrite high v s) := .ok h.hostWrite
theorem execPathCtrlWrite (h : BanksApart s) : Out.BanksApart (execPathCtrlWrite p v s) := .ok h.hostWrite
theorem execRefCfgWrite (h : BanksApart s) : Out.BanksApart (execRefCfgWrite v s) := .ok h.hostWrite
theorem execPwCtrlReset (h : BanksApart s) : Out.BanksApart (execPwCtrlReset s) := .ok h.hostWrite
theorem execUpCtrlArm (h : BanksApart s) : Out.BanksApart (execUpCtrlArm src s) := .ok h.hostWrite
theorem execUpCtrlCancel (h : BanksApart s) : Out.BanksApart (execUpCtrlCancel s) := .ok h.hostWrite
theorem execUpCtrlSave (h : BanksApart s) : Out.BanksApart (execUpCtrlSave s) := .ok h.hostWrite
theorem execUpCtrlConfirm (h : BanksApart s) : Out.BanksApart (execUpCtrlConfirm vpp s) := .ok h.hostWrite

theorem busRead (h : BanksApart s) : BanksApart (s.busRead a off) := by
  have k : BanksApart (match a with | .core _ => s | _ => s.toRun) := by split; exacts [h, h.toRun]
  exact either k.regRead.same h

theorem execErrorCounterRead {off : Fin 65536} (h : BanksApart s) : Out.BanksApart (execErrorCounterRead a off s) := .ite (.ok h.busRead) (.ok h)
theorem execScStoreRead (h : BanksApart s) : Out.BanksApart (execScStoreRead a s) := .ok h.busRead
theorem execScLatRead (h : BanksApart s) : Out.BanksApart (execScLatRead a s) := .ok h.busRead
theorem execWideValueLowRead {off : Fin 65536} (h : BanksApart s) : Out.BanksApart (execWideValueLowRead a off s) := .ite (.ok h.busRead) (.ok h)

/-! ### The service port -/

theorem execAutobaudLock (h : BanksApart s) : Out.BanksApart (execAutobaudLock rate s) := .ite (.ok h.same) (.ok h)
theorem execSvcLineIdle (h : BanksApart s) : Out.BanksApart (execSvcLineIdle s) := .ite (.ok h.same) (.ok h)
theorem execSvcFrameDiscard (h : BanksApart s) : Out.BanksApart (execSvcFrameDiscard raw s) := .ite (.ok h.same) (.ok h)
theorem execSvcFrameGap (h : BanksApart s) : Out.BanksApart (execSvcFrameGap us s) := .ite (.ok h.same) (.ok h)
theorem execSvcUnknownCommand (h : BanksApart s) : Out.BanksApart (execSvcUnknownCommand f cmd s) :=
  .ite (.ok h) (.ok (h.svcRun (fun _ h => h.svcNak)))
theorem execHello (h : BanksApart s) : Out.BanksApart (execHello f s) := .ok (h.svcRun (fun _ h => either h.svcNak h.svcReply))

theorem execSvcSessionOpen (h : BanksApart s) : Out.BanksApart (execSvcSessionOpen f s) := by
  unfold Machine.execSvcSessionOpen
  dsimp only
  refine .ok (h.svcRun fun _ h => ?_)
  split; exacts [either h.svcNak h.svcClose.takeKeys.newChallenge.modSvc.svcReply, h.svcNak, h.svcNak]

theorem execSvcSessionProve (h : BanksApart s) : Out.BanksApart (execSvcSessionProve f s) := by
  refine .ok (h.svcRun fun _ h => ?_)
  exact either h.svcNak (either h.svcNak (either h.svcNak (either h.svcClose.proofFailed.svcNak h.lockClear.modSvc.svcReply)))

theorem execSvcSessionClose (h : BanksApart s) : Out.BanksApart (execSvcSessionClose f s) :=
  .ok (h.svcRun (fun _ h => either h.svcNak (either h.svcNak h.svcClose.svcReply)))
theorem execSvcSessionTimeout (h : BanksApart s) : Out.BanksApart (execSvcSessionTimeout s) := .ite (.ok h) (.ok h.svcClose)

theorem execPasswordSet (h : BanksApart s) : Out.BanksApart (execPasswordSet f s) := by
  unfold Machine.execPasswordSet
  dsimp only
  exact .ok (h.svcRun (fun _ h => by split; exacts [either h.svcNak h.same.svcReply, h.svcNak]))

theorem svcUnlock (h : BanksApart s) : BanksApart (s.svcUnlock f on) := either h (h.svcRun (fun _ h => either h.svcNak h.same.svcReply))
theorem execSvcExpertUnlock (h : BanksApart s) : Out.BanksApart (execSvcExpertUnlock f s) := .ok h.svcUnlock
theorem execSvcExpertRelock (h : BanksApart s) : Out.BanksApart (execSvcExpertRelock f s) := .ok h.svcUnlock

theorem svcReads (h : BanksApart s) : BanksApart (s.svcReads off n).2 := by
  induction n generalizing s off with
  | zero => exact h
  | succ n ih =>
    unfold State.svcReads
    split
    next e =>
    split
    next e2 => exact of_snd (ih (of_snd h.regRead e)) e2

theorem execRegRead (h : BanksApart s) : Out.BanksApart (execRegRead f s) := .ok (h.svcRun (fun _ h => either h.svcNak h.svcReads.svcReply))
theorem execRegWrite (h : BanksApart s) : Out.BanksApart (execRegWrite f vpp slots s) :=
  .ok (h.svcRun (fun _ h => either h.svcNak h.busWrite.svcReply))
theorem svcHuddle (h : BanksApart s) (hg : ∀ u, BanksApart u → BanksApart (g u)) : BanksApart (s.svcHuddle f op g) :=
  either h (h.svcRun (fun _ h => either h.svcNak (hg _ h)))
theorem execSvcHuddleCheck (h : BanksApart s) : Out.BanksApart (execSvcHuddleCheck f s) := .ok (h.svcHuddle (fun _ h => h.hudCheck.svcReply))

theorem svcArm {src : KickSource} (h : BanksApart s) : BanksApart (s.svcArm f src) := by
  unfold State.svcArm
  refine either h.svcNak (either h.svcNak ?_)
  split
  next e =>
  have k := of_fst (by split; exacts [h.hudCheck, h]) e
  exact either k.svcReply k.hudArm

theorem execSvcHuddleArmNextBoundary (h : BanksApart s) : Out.BanksApart (execSvcHuddleArmNextBoundary f s) := .ok (h.svcHuddle (fun _ h => h.svcArm))
theorem execSvcHuddleArmKick (h : BanksApart s) : Out.BanksApart (execSvcHuddleArmKick f s) := .ok (h.svcHuddle (fun _ h => h.svcArm))
theorem execSvcHuddleDiscard (h : BanksApart s) : Out.BanksApart (execSvcHuddleDiscard f s) := .ok (h.svcHuddle (fun _ h => h.hudDiscard.svcReply))
theorem execLogRead (h : BanksApart s) : Out.BanksApart (execLogRead f s) := .ok (h.svcRun (fun _ h => either h.svcNak h.svcReply))

theorem execSettingsSave (h : BanksApart s) : Out.BanksApart (execSettingsSave f s) :=
  .ok (h.svcRun fun _ h => either h.svcNak (by
    split
    next e => exact (h.saveSettings e).svcReply
    · exact h.svcNak))

theorem execImageBegin (h : BanksApart s) : Out.BanksApart (execImageBegin f good s) := by
  unfold Machine.execImageBegin
  dsimp only
  refine .ok (h.svcRun fun _ h => ?_)
  refine either h.svcNak ?_
  refine either h.svcNak ?_
  split; exacts [h.svcNak, either h.same.eraseSlot.svcNak h.same.eraseSlot.freeWord.modUpd.postUpd.svcReply]

theorem svcDownload {cmd : Nat} {g : State → Download → State}
    (h : BanksApart s) (hg : ∀ u x1, BanksApart u → BanksApart (g u x1)) : BanksApart (s.svcDownload f cmd len off g) := by
  unfold State.svcDownload
  exact h.svcRun (fun _ h => either h.svcNak (by split; exacts [h.svcNak, either h.svcNak (hg _ _ h)]))

theorem execImageBlock (h : BanksApart s) : Out.BanksApart (execImageBlock f good s) := by
  refine .ok (h.svcDownload fun _ _ h => ?_)
  exact either h.svcNak (either h.svcNak (either h.svcNak (either h.svcNak h.same.svcReply)))

theorem execImageResume (h : BanksApart s) : Out.BanksApart (execImageResume f s) := .ok (h.svcDownload (fun _ _ h => h.svcReply))

theorem execImageEnd (h : BanksApart s) : Out.BanksApart (execImageEnd f good s) := by
  refine .ok (h.svcDownload fun _ _ h => ?_)
  exact either h.svcNak (either h.endDownload.svcNak (either h.endDownload.svcNak h.same.svcReply.postUpd))

theorem svcActivate {src : ArmSource} (h : BanksApart s) : BanksApart (s.svcActivate f code len src) := by
  unfold State.svcActivate
  exact either h (h.svcRun (fun _ h => either h.svcNak (by split; exacts [h.svcNak, h.same.armUpd.svcReply])))

theorem execActivateNow (h : BanksApart s) : Out.BanksApart (execActivateNow f s) := .ok h.svcActivate
theorem execActivateAtTime (h : BanksApart s) : Out.BanksApart (execActivateAtTime f s) := .ok h.svcActivate
theorem execActivateKick (h : BanksApart s) : Out.BanksApart (execActivateKick f s) := .ok h.svcActivate
theorem execConfirm (h : BanksApart s) : Out.BanksApart (execConfirm f vpp s) :=
  .ok (h.svcRun (fun _ h => either h.svcNak (either h.confirm.svcReply h.svcNak)))

theorem execCancel (h : BanksApart s) : Out.BanksApart (execCancel f s) :=
  .ok (h.svcRun fun _ h => either h.svcNak (by
    split
    next e => exact (h.updCancel e).svcReply
    · exact h.svcNak))

end State.BanksApart

end Sys2Proof.Machine
end

section
/-! SUPPORT. Firmware has no path to a bank, and so every step keeps the banks apart (R185). -/
set_option Elab.async false
namespace Sys2Proof.Machine

variable {s u : State} {o : AluOp} {sx ms vs0 rival : Bool} {k : CoreId} {l : List Byte} {e : MoveEnd} {src : MvSrc} {a cy n off width vb : Nat}
  {mine : Nat → Bool} {t : Option PortTimer} {p : PortId} {g : Seg} {act : State → Word → MoveEnd} {w b st : Word}

namespace State.BanksApart

/-! ### Moves of the cores -/

/-- A fetch that ends the dispatch ends it by a fault. -/
theorem fetch (he : s.fetch k = (w, some e)) : e.BanksApart := by
  unfold State.fetch at he
  dsimp only at he
  split at he
  · cases he; trivial
  · split at he <;> cases he
    trivial

theorem fetched (h : BanksApart s) : BanksApart (s.fetched k) := h.softFix

theorem finishMove (h : BanksApart s) (he : e.BanksApart) : BanksApart (s.finishMove k w e) := by
  unfold State.finishMove
  cases e with
  | done u cy nx => exact State.BanksApart.modCore he
  | wait u r => exact State.BanksApart.endDispatch he
  | fault c sub trap ecc => exact dispatchFault (by split; exacts [h.eccError, h])

theorem moveValue (h : BanksApart s) : BanksApart (s.moveValue k src).2 := by
  unfold State.moveValue
  split; exacts [h, h.readPort]

theorem issue (h : BanksApart s) (hact : ∀ u x1, BanksApart u → (act u x1).BanksApart) : BanksApart (s.issue k mine act) := by
  unfold State.issue
  dsimp only
  refine either h ?_
  split
  · exact h
  · split; exacts [either h (either (h.fetched.finishMove h.fetched) (h.fetched.finishMove (hact _ _ h.fetched.moveValue))), h]

theorem trigger (h : BanksApart s) (hact : ∀ u x1, BanksApart u → (act u x1).BanksApart) : BanksApart (s.trigger k a act) := h.issue hact
theorem doneIn (h : BanksApart s) : (s.doneIn k cy).BanksApart := h

theorem execMove (h : BanksApart s) : Out.BanksApart (execMove k s) := by
  unfold Machine.execMove
  refine .ite ?_ (.ok ?_)
  · split
    next e => exact .ok (State.BanksApart.finishMove h.same (fetch e))
    · exact .ok h
  · split
    · refine h.issue fun _ _ h => ?_
      split
      next e => exact (h.writePort e).doneIn
      · trivial
    · exact h

theorem execIllegalMove (h : BanksApart s) : Out.BanksApart (execIllegalMove k s) := by
  unfold Machine.execIllegalMove
  exact .ite (.ok h) (by split; exacts [.ok h, by split; exacts [.ok (h.fetched.finishMove trivial), .ok h]])

theorem alu (h : BanksApart s) : BanksApart (s.alu k a o) := h.trigger (fun _ _ h => h.same.doneIn)
theorem execAluAddT (h : BanksApart s) : Out.BanksApart (execAluAddT k s) := .ok h.alu
theorem execAluSubT (h : BanksApart s) : Out.BanksApart (execAluSubT k s) := .ok h.alu
theorem execAluAndT (h : BanksApart s) : Out.BanksApart (execAluAndT k s) := .ok h.alu
theorem execAluOrT (h : BanksApart s) : Out.BanksApart (execAluOrT k s) := .ok h.alu
theorem execAluXorT (h : BanksApart s) : Out.BanksApart (execAluXorT k s) := .ok h.alu
theorem execAluShlT (h : BanksApart s) : Out.BanksApart (execAluShlT k s) := .ok h.alu
theorem execAluShrT (h : BanksApart s) : Out.BanksApart (execAluShrT k s) := .ok h.alu
theorem execAluSarT (h : BanksApart s) : Out.BanksApart (execAluSarT k s) := .ok h.alu
theorem execAluEqT (h : BanksApart s) : Out.BanksApart (execAluEqT k s) := .ok h.alu
theorem execAluLtuT (h : BanksApart s) : Out.BanksApart (execAluLtuT k s) := .ok h.alu
theorem execAluLtsT (h : BanksApart s) : Out.BanksApart (execAluLtsT k s) := .ok h.alu
theorem execAluMinuT (h : BanksApart s) : Out.BanksApart (execAluMinuT k s) := .ok h.alu
theorem execAluMaxuT (h : BanksApart s) : Out.BanksApart (execAluMaxuT k s) := .ok h.alu
theorem execAluPassT (h : BanksApart s) : Out.BanksApart (execAluPassT k s) := .ok h.alu
theorem mul {o : MulOp} (h : BanksApart s) : BanksApart (s.mul k a o) := h.trigger (fun _ _ h => h.same.doneIn)
theorem execMulMuluT (h : BanksApart s) : Out.BanksApart (execMulMuluT k s) := .ok h.mul
theorem execMulMulsT (h : BanksApart s) : Out.BanksApart (execMulMulsT k s) := .ok h.mul
theorem execMulDivuT (h : BanksApart s) : Out.BanksApart (execMulDivuT k s) := .ok h.mul
theorem execMulDivsT (h : BanksApart s) : Out.BanksApart (execMulDivsT k s) := .ok h.mul

theorem lsuCycles (h : BanksApart s) : BanksApart (s.lsuCycles n off).2 := by
  unfold State.lsuCycles
  split; exacts [h, h, h, by split; exacts [h.freeWord, h], h]

theorem lsuLoad (h : BanksApart s) : BanksApart (s.lsuLoad k a width sx) := by
  unfold State.lsuLoad
  dsimp only
  refine h.trigger fun _ _ h => ?_
  split
  · exact trivial
  · exact trivial
  · refine doneIn ?_
    refine modCore ?_
    split; exacts [h.accessFix.lsuCycles.regRead, h.accessFix.lsuCycles]

theorem segStore (h : BanksApart s) : BanksApart (s.segStore k g off l) := by
  unfold State.segStore
  dsimp only
  split; exacts [h.memWrites.modSc, h.memWrites]

theorem lsuStore (h : BanksApart s) : BanksApart (s.lsuStore k a width) := by
  unfold State.lsuStore
  dsimp only
  exact h.trigger (fun _ _ h => by split; exacts [trivial, trivial, h.accessFix.lsuCycles.segStore.doneIn])

theorem execLsuLd32T (h : BanksApart s) : Out.BanksApart (execLsuLd32T k s) := .ok h.lsuLoad
theorem execLsuLd16T (h : BanksApart s) : Out.BanksApart (execLsuLd16T k s) := .ok h.lsuLoad
theorem execLsuLd16sT (h : BanksApart s) : Out.BanksApart (execLsuLd16sT k s) := .ok h.lsuLoad
theorem execLsuLd8T (h : BanksApart s) : Out.BanksApart (execLsuLd8T k s) := .ok h.lsuLoad
theorem execLsuLd8sT (h : BanksApart s) : Out.BanksApart (execLsuLd8sT k s) := .ok h.lsuLoad
theorem execLsuSt32T (h : BanksApart s) : Out.BanksApart (execLsuSt32T k s) := .ok h.lsuStore
theorem execLsuSt16T (h : BanksApart s) : Out.BanksApart (execLsuSt16T k s) := .ok h.lsuStore
theorem execLsuSt8T (h : BanksApart s) : Out.BanksApart (execLsuSt8T k s) := .ok h.lsuStore

theorem execLsuAaddT (h : BanksApart s) : Out.BanksApart (execLsuAaddT k s) := by
  unfold Machine.execLsuAaddT
  dsimp only
  exact .ok (h.trigger (fun _ _ h => by split; exacts [trivial, trivial, h.accessFix.segStore.modCore.doneIn]))

theorem jumpTo (h : BanksApart s) : (s.jumpTo k a).BanksApart := by
  unfold State.jumpTo
  split; exacts [trivial, h]

theorem execBrJmpT (h : BanksApart s) : Out.BanksApart (execBrJmpT k s) := .ok (h.trigger (fun _ _ h => h.jumpTo))
theorem execBrRelT (h : BanksApart s) : Out.BanksApart (execBrRelT k s) := .ok (h.trigger (fun _ _ h => h.jumpTo))

theorem execBrCallT (h : BanksApart s) : Out.BanksApart (execBrCallT k s) := by
  unfold Machine.execBrCallT
  dsimp only
  refine .ok (h.trigger fun _ _ h => ?_)
  split
  · exact trivial
  · split
    · exact trivial
    · split; exacts [trivial, h.accessFix.memWrites.modCore]

theorem execBrRetT (h : BanksApart s) : Out.BanksApart (execBrRetT k s) := by
  unfold Machine.execBrRetT
  dsimp only
  refine .ok (h.trigger fun _ _ h => ?_)
  split
  · exact trivial
  · split
    · exact trivial
    · split; exacts [trivial, h.accessFix.modCore]

theorem setTimer (h : BanksApart s) : BanksApart (s.setTimer k t) := by
  unfold State.setTimer
  dsimp only
  split; exacts [h.withdrawTimer.modSc, h]

theorem startTimer (h : BanksApart s) : BanksApart (s.startTimer k ms b) := h.setTimer
theorem execTmrUsT (h : BanksApart s) : Out.BanksApart (execTmrUsT k s) := .ok (h.trigger (fun _ _ h => h.startTimer.doneIn))
theorem execTmrMsT (h : BanksApart s) : Out.BanksApart (execTmrMsT k s) := .ok (h.trigger (fun _ _ h => h.startTimer.doneIn))
theorem execTmrStopT (h : BanksApart s) : Out.BanksApart (execTmrStopT k s) := .ok (h.trigger (fun _ _ h => h.setTimer.doneIn))
theorem evtDone (h : BanksApart s) : (s.evtDone k st).BanksApart := h.same
theorem msgDone (h : BanksApart s) : (s.msgDone k st).BanksApart := h.same
theorem execEvtWaitT (h : BanksApart s) : Out.BanksApart (execEvtWaitT k s) := .ok (h.trigger (fun _ _ h => h))

theorem execEvtPostT (h : BanksApart s) : Out.BanksApart (execEvtPostT k s) := by
  unfold Machine.execEvtPostT
  dsimp only
  refine .ok (h.trigger fun _ _ h => ?_)
  split; exacts [.ite h.evtDone h.queueEv.evtDone, h.evtDone]

theorem execEvtHevtT (h : BanksApart s) : Out.BanksApart (execEvtHevtT k s) := .ok (h.trigger (fun _ _ h => (either h.postEvt h).evtDone))

theorem execEvtHcplT (h : BanksApart s) : Out.BanksApart (execEvtHcplT k s) := by
  unfold Machine.execEvtHcplT
  dsimp only
  refine .ok (h.trigger fun _ _ h => ?_)
  exact .ite h.evtDone (.ite h.evtDone (.ite h.evtDone h.same.ringWrite.drained.evtDone))

theorem execMsgSendT (h : BanksApart s) : Out.BanksApart (execMsgSendT k s) := by
  unfold Machine.execMsgSendT
  dsimp only
  refine .ok (h.trigger fun _ _ h => ?_)
  split
  · exact h.msgDone
  · refine .ite h.msgDone (.ite h.msgDone (.ite h.msgDone (.ite h.msgDone ?_)))
    split; exacts [trivial, h.accessFix.toTx.msgDone]

theorem execMsgPostT (h : BanksApart s) : Out.BanksApart (execMsgPostT k s) := by
  unfold Machine.execMsgPostT
  dsimp only
  refine .ok (h.trigger fun _ _ h => ?_)
  split
  · exact h.msgDone
  · refine .ite h.msgDone (.ite h.msgDone ?_)
    split; exacts [h.msgEvent.msgDone, h.post.msgDone]

theorem execMsgHrstT (h : BanksApart s) : Out.BanksApart (execMsgHrstT k s) := by
  unfold Machine.execMsgHrstT
  refine .ok (h.trigger fun _ _ h => ?_)
  split; exacts [h.msgDone, .ite h.msgDone (.ite h.msgDone h.hardResetSent.msgDone)]

theorem execCrcInitT (h : BanksApart s) : Out.BanksApart (execCrcInitT k s) := .ok (h.trigger (fun _ _ h => h.same.doneIn))
theorem execCrcB8T (h : BanksApart s) : Out.BanksApart (execCrcB8T k s) := .ok (h.trigger (fun _ _ h => h.same.doneIn))
theorem execCrcW32T (h : BanksApart s) : Out.BanksApart (execCrcW32T k s) := .ok (h.trigger (fun _ _ h => h.same.doneIn))
theorem execSysTrapT (h : BanksApart s) : Out.BanksApart (execSysTrapT k s) := .ok (h.trigger (fun _ _ _ => trivial))
theorem execStSetGate (h : BanksApart s) : Out.BanksApart (execStSetGate p vb vs0 rival s) :=
  .ite (.ite (.ok h.same.stepWait) (.ite (.ok h.stepWait) (.ite (.ok h.same.stepWait) (.ok h.stepTo)))) (.ok h)

/-- Every command keeps the banks of the two feeds apart. -/
theorem exec (h : BanksApart s) (c : Instr) : Out.BanksApart (exec c s) := by
  unfold Machine.exec
  split
  exacts [h.execTileLinkPacket, h.execTileLinkResendTimeout, h.execTileLinkIdle, h.execLinkLoss, h.execSafeWireRelease,
    h.execTileLinkTrainRetry, h.execTileLinkTrained, h.execTileReloadDone, h.execTileSafeExit, h.execWatchSample, h.execRpHoldTimeout,
    h.execAttachWaitSample, h.execCcDebounceDone, h.execAttachVbusCleared, h.execDetachSample, h.execCcOvervolt, h.execCcHoldOffEnd,
    h.execCcComparatorTest, h.execBootSinkAttach, h.execBootRdRelease, h.execBootSinkDetach, h.execFrameReceived, h.execRxAbort,
    h.execHardResetRx, h.execCableResetRx, h.execMtNop, h.execMtTx, h.execMtDeliver, h.execMtMatch, h.execMtCount, h.execMtSetRp,
    h.execMtReport, h.execMtCompose, h.execMsgWaitTimeout, h.execMsgLineIdle, h.execTxDone, h.execHoldExpired, h.execTxOk, h.execTxFail,
    h.execTxDiscarded, h.execChunkFail, h.execHoldAnswered, h.execRequest, h.execGetSourceCap, h.execEprGetSourceCap,
    h.execGetSourceCapExtended, h.execGetSourceInfo, h.execGetStatus, h.execGetPpsStatus, h.execGetRevision, h.execGetManufacturerInfo,
    h.execSoftReset, h.execVconnSwap, h.execPrSwap, h.execDrSwap, h.execFrSwap, h.execEprModeEnter, h.execEprModeExit, h.execEprKeepalive,
    h.execSinkCapabilities, h.execAlert, h.execInformationMessage, h.execUnsupportedRequest, h.execBistRequest, h.execUnexpectedMessage,
    h.execUnchunkedExtended, h.execUnrecognisedMessage, h.execSrcTransitionExpiry, h.execSenderResponseExpiry, h.execSourceCapResend,
    h.execNoResponseExpiry, h.execPpsKeepaliveExpiry, h.execEprKeepaliveExpiry, h.execVconnSourceExpiry, h.execVconnSwapRetry,
    h.execFeedObjectWithdraw, h.execFeedObjectRestore, h.execEprCapsSend, h.execVdmRequest, h.execUnstructuredVdm, h.execVdmResponse,
    h.execVdmResponseTimeout, h.execVdmBusyRetry, h.execDiscoverIdentityAttempt, h.execAttention, h.execRallyNoticeDue,
    h.execCurtailConfirm, h.execCurtailReactionExpiry, h.execCurtailHoldExpiry, h.execBrokenHoldoffExpiry, h.execPowerPathPost,
    h.execQueuedPostStart, h.execStNop, h.execStSetGate, h.execStSetDis, h.execStSetTarget, h.execStSetRp, h.execStSetVconn,
    h.execStSignal, h.execStArmLimit, h.execStLoadWindow, h.execStepWaitSuccess, h.execStepWaitTimeout, h.execVsafe5vOk,
    h.execTransitionDone, h.execTransitionFail, h.execVsafe0vOk, h.execRetryQualified, h.execRetryFailed, h.execLimitSet,
    h.execVconnReady, h.execVconnFail, h.execVconnOff, h.execRpSet, h.execRefused, h.execUndervoltTrip, h.execBreakerTick,
    h.execBreakerTrip, h.execFastTrip, h.execVbusOvervolt, h.execReverseCurrent, h.execVconnOvercurrent, h.execTripDischargeDone,
    h.execRetryProbeDue, h.execRetryQualifyClear, h.execRetryHoldExpiry, h.execOpenPortVbus, h.execStuckSwitch, h.execStuckDischargeEnd,
    h.execDetachDischargeDone, h.execSeatQualified, h.execSeatReleased, h.execFeedWindowChange, h.execInsertDelayExpiry,
    h.execPriorityReturn, h.execInrushComplete, h.execInrushTimeout, h.execFeedBreakerTick, h.execFeedBreakerTrip, h.execFeedFastTrip,
    h.execFeedReverse, h.execFeedOvervolt, h.execFeedUndervolt, h.execOffConfirmed, h.execDeadTimeEnd, h.execStuckBank,
    h.execFeedRetryDue, h.execFeedRetryClear, h.execFeedReseatHoldExpiry, h.execScoreboardBoundary, h.execGraceExpiry,
    h.execNewcomerGraceExpiry, h.execDecreaseSampleConfirm, h.execUsageCapRelease, h.execEmergencyShedStart, h.execEmergencyShedStage,
    h.execEmergencyShedEnd, h.execVconnChargeSettle, h.execVconnBudgetExcess, h.execAdcFault, h.execMeasSample, h.execTelemetryRecord,
    h.execTlmDecimationHalve, h.execCaptureTrigger, h.execCaptureReadingsDone, h.execSnapshotWritten, h.execSublaneSlotStart,
    h.execQuietTest, h.execCalReconnect, h.execVerifyHandback, h.execSublaneSelfCal, h.execCalPendingSkip, h.execDacReadback,
    h.execNtcMean, h.execNtcFaultFlag, h.execNtcFaultClear, h.execMove, h.execAluAddT, h.execAluSubT, h.execAluAndT, h.execAluOrT,
    h.execAluXorT, h.execAluShlT, h.execAluShrT, h.execAluSarT, h.execAluEqT, h.execAluLtuT, h.execAluLtsT, h.execAluMinuT,
    h.execAluMaxuT, h.execAluPassT, h.execMulMuluT, h.execMulMulsT, h.execMulDivuT, h.execMulDivsT, h.execLsuLd32T, h.execLsuLd16T,
    h.execLsuLd16sT, h.execLsuLd8T, h.execLsuLd8sT, h.execLsuSt32T, h.execLsuSt16T, h.execLsuSt8T, h.execLsuAaddT, h.execBrJmpT,
    h.execBrRelT, h.execBrCallT, h.execBrRetT, h.execTmrUsT, h.execTmrMsT, h.execTmrStopT, h.execEvtWaitT, h.execEvtPostT, h.execEvtHevtT,
    h.execEvtHcplT, h.execMsgSendT, h.execMsgPostT, h.execMsgHrstT, h.execCrcInitT, h.execCrcB8T, h.execCrcW32T, h.execSysTrapT,
    h.execTimerExpired, h.execOverrun, h.execSchedulerDecision, h.execPageInDone, h.execAgePromotion, h.execDeepTransferDone,
    h.execDoorbell, h.execPhaseReread, h.execHostlinkStall, h.execChainTimeout, h.execDescriptorStartTimeout, h.execPdSendReplyTimeout,
    h.execMsixTimeTrigger, h.execUnknownOpcode, h.execNop, h.execPortEnable, h.execPortDisable, h.execPortProfile, h.execPortPdoSet,
    h.execPortErrorRecovery, h.execPortHardReset, h.execPdSend, h.execVdmSend, h.execVconnSwapRequest, h.execCableDiscover,
    h.execBudgetStage, h.execClassStage, h.execHuddleCheck, h.execKickoffArm, h.execHuddleDiscard, h.execSnapshot, h.execCaptureArm,
    h.execTlmConfig, h.execStepTableLoad, h.execBreakerCurveStage, h.execMsgTableLoad, h.execParamSet, h.execParamGet, h.execCtxExport,
    h.execHostPagesBind, h.execHostPagesWithdraw, h.execSessionOpen, h.execSessionProve, h.execSessionClose, h.execExpertUnlock,
    h.execExpertRelock, h.execFeedEnable, h.execFeedDisable, h.execFeedClearRetry, h.execRtcSet, h.execHostSessionTimeout,
    h.execTilesReady, h.execKickoffCommit, h.execKickoffApply, h.execApplyPacket, h.execKickFire, h.execKickTimeout, h.execDigestReceived,
    h.execDigestLost, h.execClockMonitorWindow, h.execCoreHang, h.execCoreRestart, h.execAllocationMirrorCheck, h.execMirrorLate,
    h.execRomHubCheck, h.execRomTileCheck, h.execSupplyHub, h.execSupplyTile, h.execPortReactionTimeout, h.execSramScrub, h.execIdleEntry,
    h.execDeepEntry, h.execWake, h.execPllLocked, h.execPllLockTimeout, h.execTileRelease, h.execTileSupplyRecover, h.execBootImageLoaded,
    execPowerOnReset, h.execDeviceReset, h.execDomainRelease, h.execRefereeSelftestDone, h.execXaCrystalFail, h.execXaCrystalRecover,
    h.execPerstNFall, h.execPerstNRise, h.execFunctionLevelReset, h.execD3hotEntry, h.execD0Return, h.execPcieLinkTrained,
    h.execProgramWord, h.execIntegrity, h.execLock, h.execForceLock, h.execReadLock, h.execReinforce, h.execAudit, h.execFloorAdvance,
    h.execFuseReservedOp, h.execFuseAuditPeriodic, h.execFuseHeldOpStart, h.execFuRaddrWrite, h.execSvcFrameDiscard, h.execSvcFrameGap,
    h.execAutobaudLock, h.execSvcLineIdle, h.execHello, h.execSvcSessionOpen, h.execSvcSessionProve, h.execSvcSessionClose,
    h.execPasswordSet, h.execSvcExpertUnlock, h.execSvcExpertRelock, h.execRegRead, h.execRegWrite, h.execSvcHuddleCheck,
    h.execSvcHuddleArmNextBoundary, h.execSvcHuddleArmKick, h.execSvcHuddleDiscard, h.execLogRead, h.execSettingsSave, h.execImageBegin,
    h.execImageBlock, h.execImageResume, h.execImageEnd, h.execActivateNow, h.execActivateAtTime, h.execActivateKick, h.execConfirm,
    h.execCancel, h.execSvcUnknownCommand, h.execSvcSessionTimeout, h.execSessionLockoutEnd, h.execTrialWindowExpiry,
    h.execActivationInstant, h.execActivationLoadDone, h.execRegisterWrite, h.execEventCounterOvfClear, h.execErrorCounterRead,
    h.execScStoreRead, h.execScLatRead, h.execWideValueLowRead, h.execUpActivateAtWrite, h.execPathCtrlWrite, h.execRefCfgWrite,
    h.execPwCtrlReset, h.execUpCtrlArm, h.execUpCtrlCancel, h.execUpCtrlSave, h.execUpCtrlConfirm, h.execRingEnable, h.execRingDisable,
    h.execKickJoinWrite, h.execIllegalMove, h.execKickLineLow, h.execFuseOperationDone, h.execFuseSupplyLost,
    h.execTriplicatedRegisterDisagree]

end State.BanksApart

end Sys2Proof.Machine
end

section
/-! SUPPORT. The invariant of the two feeds, step by step (R185). -/
namespace Sys2Proof.Machine

variable {s : State}

theorem State.BanksApart.tick (h : s.BanksApart) : s.tick.BanksApart := by
  unfold State.tick State.feedTimeouts State.dwellTick
  exact h.same.finish.modPwr

/-- A step runs the first command that waits, or lets a cycle of the clock pass. -/
theorem State.BanksApart.step (h : s.BanksApart) : Out.BanksApart (step s) := by
  unfold Machine.step
  split
  · exact .ok h.tick
  · exact h.same.exec _

/-- Settles O24: a bank is closed by the feed's way into INRUSH alone, which every command takes only while the other bank is commanded
open. -/
theorem oneBankClosed : Obligations.OneBankClosed := by
  unfold Obligations.OneBankClosed
  exact fun s t wf next => t.banksWf_iff.mpr ((s.banksWf_iff.mp wf).step t next)

end Sys2Proof.Machine
end

section
/-! SUPPORT. What the operations of the feed controller leave: selection, qualification, and what the host is told (R188, R191). -/
namespace Sys2Proof.Machine

variable {s t u : State} {f : FeedId}

/-! ### Reading a feed back -/

@[simp] theorem State.feed_fda (s : State) : s.feed .fda = s.feedA := rfl
@[simp] theorem State.feed_fdb (s : State) : s.feed .fdb = s.feedB := rfl
@[simp] theorem State.modFeed_fda_feedA (s : State) (g : Feed → Feed) : (s.modFeed .fda g).feedA = g s.feedA := rfl
@[simp] theorem State.modFeed_fda_feedB (s : State) (g : Feed → Feed) : (s.modFeed .fda g).feedB = s.feedB := rfl
@[simp] theorem State.modFeed_fdb_feedA (s : State) (g : Feed → Feed) : (s.modFeed .fdb g).feedA = s.feedA := rfl
@[simp] theorem State.modFeed_fdb_feedB (s : State) (g : Feed → Feed) : (s.modFeed .fdb g).feedB = g s.feedB := rfl

theorem State.feedUp_of_pwr (same : u.pwr = s.pwr) : u.feedUp = s.feedUp := by
  unfold State.feedUp State.domOn State.domFenced
  rw [same]

/-- The feed controller works only out of DEEP. -/
theorem State.awake_of_feedUp (up : s.feedUp = true) : s.pwr.dev ≠ .deep := by
  unfold State.feedUp State.domOn at up
  intro deep
  simp [deep] at up

/-- An ACTIVE feed is the one FD_STAT.ACTIVE shows, or FDA is shown before it. -/
theorem State.activeFeed_isSome (active : (s.feed f).state = .active) : s.activeFeed.isSome = true := by
  unfold State.activeFeed
  cases f <;> simp_all
  split <;> rfl

/-! ### What only the host is told -/

theorem State.raise_host (s : State) (v : Nat) : ∃ a b, s.raise v = { s with link := { s.link with raised := a, pba := b } } := by
  unfold State.raise
  split
  · exact ⟨_, _, rfl⟩
  · split <;> exact ⟨_, _, rfl⟩

theorem State.modRing_host (s : State) (n : Nat) (g : Ring → Ring) : ∃ r, s.modRing n g = { s with rings := r } := by
  unfold State.modRing
  split <;> exact ⟨_, rfl⟩

/-- What a ring takes shows in that ring and in the interrupts raised. -/
theorem State.ringWrite_host (s : State) (n : Nat) (e : OutEntry) (now : Bool) :
    ∃ r a b, s.ringWrite n e now = { s with rings := r, link := { s.link with raised := a, pba := b } } := by
  unfold State.ringWrite
  dsimp only
  obtain ⟨r, hr⟩ := s.modRing_host n fun _ => _
  rw [hr]
  split
  · obtain ⟨a, b, h⟩ := State.raise_host { s with rings := r } (s.ring n).vector
    exact ⟨r, a, b, h⟩
  · exact ⟨r, _, _, rfl⟩

theorem State.drained_host (s : State) (n : Nat) : ∃ r, s.drained n = { s with rings := r } := by
  unfold State.drained
  split
  · exact s.modRing_host n _
  · exact ⟨_, rfl⟩

/-- A completion shows in the rings and in the interrupts raised (R338). -/
theorem State.complete_host (s : State) (c : Cpl) (irq : Bool) :
    ∃ r a b, s.complete c irq = { s with rings := r, link := { s.link with raised := a, pba := b } } := by
  unfold State.complete
  split
  · obtain ⟨r, h⟩ := s.drained_host c.ring
    exact ⟨r, _, _, h⟩
  · obtain ⟨r, a, b, h⟩ := s.ringWrite_host (cplRing c.ring) (.cpl c) irq
    rw [h]
    obtain ⟨r, h⟩ := State.drained_host { s with rings := r, link := { s.link with raised := a, pba := b } } c.ring
    exact ⟨r, a, b, h⟩

/-- From `s` to `u` the rings and the host link alone have changed. -/
def State.ToHost (s u : State) : Prop := ∃ r l, u = { s with rings := r, link := l }

namespace State.ToHost

theorem refl (s : State) : ToHost s s := ⟨_, _, rfl⟩

theorem trans (h : ToHost s t) (k : ToHost t u) : ToHost s u := by
  obtain ⟨_, _, rfl⟩ := h
  obtain ⟨r, l, rfl⟩ := k
  exact ⟨r, l, rfl⟩

theorem ite {c : Prop} [Decidable c] (h : ToHost s t) (k : ToHost s u) : ToHost s (if c then t else u) := by split <;> assumption

theorem foldl {α : Type} {g : State → α → State} (h : ∀ s a, ToHost s (g s a)) (l : List α) (s : State) : ToHost s (l.foldl g s) := by
  induction l generalizing s with
  | nil => exact refl s
  | cons a l ih => exact (h s a).trans (ih _)

theorem ports (h : ToHost s u) : u.ports = s.ports := by obtain ⟨_, _, rfl⟩ := h; rfl
theorem feedA (h : ToHost s u) : u.feedA = s.feedA := by obtain ⟨_, _, rfl⟩ := h; rfl
theorem feedB (h : ToHost s u) : u.feedB = s.feedB := by obtain ⟨_, _, rfl⟩ := h; rfl
theorem board (h : ToHost s u) : u.board = s.board := by obtain ⟨_, _, rfl⟩ := h; rfl
theorem ref (h : ToHost s u) : u.ref = s.ref := by obtain ⟨_, _, rfl⟩ := h; rfl
theorem pwr (h : ToHost s u) : u.pwr = s.pwr := by obtain ⟨_, _, rfl⟩ := h; rfl
theorem feed (h : ToHost s u) (f : FeedId) : u.feed f = s.feed f := State.feed_of_feeds h.feedA h.feedB f

theorem modLink (s : State) (g : Link → Link) : ToHost s (s.modLink g) := ⟨_, _, rfl⟩

theorem complete (s : State) (c : Cpl) (irq : Bool) : ToHost s (s.complete c irq) := by
  obtain ⟨r, a, b, h⟩ := s.complete_host c irq
  exact ⟨r, _, h⟩

/-- Waiting descriptors that complete show in the rings and the link alone. -/
theorem finish (s : State) (g : Waiting → Bool) (code : CplCode) (detail : Nat) (data : List Byte) :
    ToHost s (s.finish g code detail data) :=
  (modLink s _).trans (foldl (fun s _ => .ite (complete s _ _) (complete s _ _)) _ _)

theorem feedWaits (s : State) (f : FeedId) : ToHost s (s.feedWaits f) := .ite (finish s _ _ _ _) (refl s)

end State.ToHost

/-! ### Selection (R188, R191) -/

theorem State.feedSelect_of_busy (f : FeedId) (busy : (s.feed f).state.busy = true) : s.feedSelect = s := by
  unfold State.feedSelect
  refine if_pos ?_
  cases f <;> simp_all

/-- While the other feed is connected, a feed's qualification changes that feed alone. -/
theorem State.feedQualify_of_busy (busy : (s.feed f.other).state.busy = true) :
    s.feedQualify f = s.modFeed f fun q => q.qualify s.board.seated s.aon := by
  unfold State.feedQualify
  exact State.feedSelect_of_busy f.other (by rw [State.modFeed_feed_other]; exact busy)

/-! ### Qualification (R187, R188, R190, R202) -/

/-- Whether a feed is inside its window, the time for which it has been so and seated, its state and its due time are all that its
qualification changes. -/
theorem Feed.qualify_eq (q : Feed) (seated : Bool) (now : Nat) :
    ∃ w a st d, q.qualify seated now = { q with inWin := w, qualAt := a, state := st, due := d } := by
  unfold Feed.qualify
  dsimp only
  repeat' split
  all_goals exact ⟨_, _, _, _, rfl⟩

theorem Feed.inWindow_iff (q : Feed) (mv : Nat) : q.inWindow mv = true ↔ q.use.uvq * 100 ≤ mv ∧ mv + 1000 ≤ q.use.ov * 100 := by
  simp [Feed.inWindow]

/-- Insertion begins with the feed inside its window and seated (R190). -/
theorem Feed.qualify_of_seen {q : Feed} (waits : q.state = .waitWindow) (ready : q.ready = true) (win : q.inWindow q.mv = true) (now : Nat) :
    q.qualify true now = { q with state := .insertDelay, inWin := true, qualAt := some (q.qualAt.getD now) } := by
  unfold Feed.ready at ready
  simp [Feed.qualify, waits, win, Feed.ready, ready]

/-- Out of its window a feed that is not connected waits for it (R188, R190). -/
theorem Feed.qualify_of_out {q : Feed} (rest : q.state = .waitWindow ∨ q.state = .insertDelay ∨ q.state = .standby) (ready : q.ready = true)
    (out : q.inWindow q.mv = false) (seated : Bool) (now : Nat) :
    q.qualify seated now = { q with state := .waitWindow, inWin := false, qualAt := none } := by
  unfold Feed.ready at ready
  obtain e | e | e := rest <;> simp [Feed.qualify, e, out, Feed.ready, ready]

/-- A feed that backs off and is still configured and enabled goes on doing so. -/
theorem Feed.qualify_state_of_backoff {q : Feed} (backoff : q.state = .backoff) (ready : q.ready = true) (seated : Bool) (now : Nat) :
    (q.qualify seated now).state = .backoff := by
  unfold Feed.ready at ready
  simp [Feed.qualify, backoff, Feed.ready, ready]

/-! ### Wake sources (R401, R404) -/

/-- A wake source other than the CC filter's is recorded in the power state at most. -/
theorem State.wakeReq_pwr {k : Nat} (filter : k ≠ 0) (s : State) : ∃ w, s.wakeReq k = { s with pwr := w } := by
  unfold State.wakeReq
  rw [if_neg (by simpa using filter)]
  split <;> exact ⟨_, rfl⟩

/-! ### FEED_CHANGE (R194, R126) -/

/-- A FEED_CHANGE records the feed's cause and is owed to the ports; besides, it touches the ports' messages and the host's rings. -/
theorem State.feedEvt_frame (s : State) (f : FeedId) (c : FeedCause) :
    ∃ t, State.Frame (fun _ => False) (s.modFeed f fun q => { q with cause := c }) t ∧
      State.Frame (fun _ => True) (t.modBoard fun b => { b with feedNews := true }) (s.feedEvt f c) := by
  have sent (t : State) : State.Frame (fun _ => True) (t.modBoard fun b => { b with feedNews := true }) t.feedAlert :=
    State.Frame.foldl _ (fun s p => .ite ((s.send_frame p _).mono fun _ _ => trivial) (.refl _ s)) _ _
  exact ⟨_, State.postEvt_frame _ _ _, sent _⟩

@[simp] theorem State.feedEvt_feed (s : State) (f g : FeedId) (c : FeedCause) :
    (s.feedEvt f c).feed g = (s.modFeed f fun q => { q with cause := c }).feed g := by
  obtain ⟨t, posted, sent⟩ := s.feedEvt_frame f c
  exact (State.feed_of_feeds sent.feeds.1 sent.feeds.2 g).trans (State.feed_of_feeds posted.feeds.1 posted.feeds.2 g)

@[simp] theorem State.feedEvt_board (s : State) (f : FeedId) (c : FeedCause) :
    (s.feedEvt f c).board = { s.board with feedNews := true } := by
  obtain ⟨t, ⟨_, _, _, _, ⟨_, posted, _, _⟩, _⟩, ⟨_, _, _, _, ⟨_, sent, _, _⟩, _⟩⟩ := s.feedEvt_frame f c
  rw [sent, State.modBoard_board, posted, State.modFeed_board]

/-! ### Loss of every feed (R196) -/

theorem State.disconnectPort_frame (s : State) (p : PortId) : State.Frame (· = p) s (s.disconnectPort p) := by
  unfold State.disconnectPort
  exact (((((s.endContract_frame p _).trans (State.rallyEnd_frame _ p _)).trans (State.pdStop_frame _ p)).trans
    (State.modPort_frame _ p _ id)).trans (State.abortDescs_frame _ p _)).trans (State.post_frame _ p _)

theorem State.giveBack_frame (s : State) (p : PortId) : State.Frame (· = p) s (s.giveBack p) := by
  exact .ite (s.modPort_frame p _ id) (.refl _ s)

/-- A feed that is ACTIVE, or a changeover, keeps the ports' switches closed. -/
theorem State.noFeed_of_fed (fed : s.activeFeed.isSome = true ∨ s.board.changeover ≠ none) : s.noFeed = s := by
  unfold State.noFeed
  refine if_pos ?_
  obtain active | runs := fed
  · simp [active]
  · simp [Option.isSome_iff_ne_none.mpr runs]

/-- Either nothing is left to do, or the ports are disconnected, and PG falls once it has held (R201): the rest of the board stays. -/
theorem State.noFeed_cases (s : State) :
    (s.noFeed = s ∧ (s.activeFeed ≠ none ∨ s.board.changeover ≠ none ∨ s.board.suspended = true)) ∨ State.Frame (fun _ => True)
      (s.modBoard fun b => { b with pg := b.pg && b.pgHold != 0, suspended := true, regrantPg := false }) s.noFeed := by
  unfold State.noFeed
  dsimp only
  split
  · next done =>
    refine .inl ⟨rfl, ?_⟩
    simp only [Bool.or_eq_true, Bool.and_eq_true, Option.isSome_iff_ne_none] at done
    obtain (active | runs) | ⟨⟨suspended, -⟩, -⟩ := done
    exacts [.inl active, .inr (.inl runs), .inr (.inr suspended)]
  · refine .inr (State.Frame.trans ?_ (State.postEvt_frame _ _ _))
    exact State.Frame.foldl _ (fun s p => .ite ((s.disconnectPort_frame p).mono fun _ _ => trivial)
      ((s.giveBack_frame p).mono fun _ _ => trivial)) _ _

@[simp] theorem State.noFeed_feed (s : State) (f : FeedId) : s.noFeed.feed f = s.feed f := by
  obtain ⟨e, -⟩ | frame := s.noFeed_cases
  · rw [e]
  · exact State.feed_of_feeds frame.feeds.1 frame.feeds.2 f

theorem State.noFeed_board (s : State) : s.noFeed.board = s.board ∨
    s.noFeed.board = { s.board with pg := s.board.pg && s.board.pgHold != 0, suspended := true, regrantPg := false } := by
  obtain ⟨e, -⟩ | ⟨_, _, _, _, ⟨_, board, _, _⟩, _⟩ := s.noFeed_cases
  · exact .inl (congrArg _ e)
  · exact .inr board

@[simp] theorem State.noFeed_changeover (s : State) : s.noFeed.board.changeover = s.board.changeover := by
  obtain e | e := s.noFeed_board <;> rw [e]

@[simp] theorem State.noFeed_seated (s : State) : s.noFeed.board.seated = s.board.seated := by
  obtain e | e := s.noFeed_board <;> rw [e]

theorem State.noFeed_pg (low : s.board.pg = false) : s.noFeed.board.pg = false := by
  obtain e | e := s.noFeed_board <;> simp [e, low]

theorem State.noFeed_stays_suspended (h : s.board.suspended = true) : s.noFeed.board.suspended = true := by
  obtain e | e := s.noFeed_board <;> simp [e, h]

/-- With no feed ACTIVE and no changeover the ports are suspended. -/
theorem State.noFeed_suspends (idle : s.activeFeed = none) (still : s.board.changeover = none) : s.noFeed.board.suspended = true := by
  obtain ⟨e, active | runs | suspended⟩ | ⟨_, _, _, _, ⟨_, board, _, _⟩, _⟩ := s.noFeed_cases
  · exact absurd idle active
  · exact absurd still runs
  · rw [e, suspended]
  · rw [board]
    rfl

end Sys2Proof.Machine
end

section
/-! SUPPORT. What ends the connection of a feed: the trip, what trips first, and the changeover it starts (R194, R202, R209). -/
namespace Sys2Proof.Machine

variable {s : State} {f : FeedId} {c : FeedCause}

/-! ### The trip (R194) -/

/-- A feed that a condition of R194 has opened, with the attempt that R202 gives it. -/
def Feed.tripped (q : Feed) (c : FeedCause) (now : Nat) : Feed :=
  if c.retries then
    { (q.open .backoff) with retryCnt := min 255 (q.retryCnt + 1), due := some (now + secCycles (feedBackoff (min 255 (q.retryCnt + 1)))) }
  else q.open .waitWindow

/-- A feed that trips hands over to the other one, in STANDBY (R191, R209). -/
def State.handsOver (s : State) (f : FeedId) (c : FeedCause) : Bool :=
  ((s.feed f).state == .active || s.board.changeover.isSome) && (s.feed f.other).state == .standby && ! s.ref.safe && c != .unseated

/-- The feed opens, and PG and the changeover that its own inrush belonged to end with it. -/
def State.opened (s : State) (f : FeedId) (c : FeedCause) : State :=
  (s.modFeed f fun q => q.tripped c s.aon).modBoard fun b =>
    { b with pg := b.pg && c == .unseated && b.pgHold != 0, pgHold := if c == .unseated then b.pgHold else 0,
             changeover := if (s.feed f).state == .inrush then none else b.changeover, returnRun := false }

/-- A feed that has tripped, with the changeover to the other one where that is in STANDBY. -/
def State.tripped (s : State) (f : FeedId) (c : FeedCause) : State :=
  if s.handsOver f c then (s.opened f c).modBoard fun b => { b with changeover := some (f.other, c) } else s.opened f c

@[simp] theorem Feed.tripped_state (q : Feed) (c : FeedCause) (now : Nat) : (q.tripped c now).state = .opening := by
  unfold Feed.tripped
  split <;> rfl

@[simp] theorem State.opened_feed_self (s : State) (f : FeedId) (c : FeedCause) : (s.opened f c).feed f = (s.feed f).tripped c s.aon := by
  cases f <;> rfl
@[simp] theorem State.opened_feed_other (s : State) (f : FeedId) (c : FeedCause) : (s.opened f c).feed f.other = s.feed f.other := by
  cases f <;> rfl

theorem State.tripped_feed (s : State) (f : FeedId) (c : FeedCause) (g : FeedId) : (s.tripped f c).feed g = (s.opened f c).feed g := by
  unfold State.tripped
  split <;> cases g <;> rfl

/-- While one feed opens and the other is in STANDBY, none is stuck. -/
theorem State.feedStuck_of_opening (opens : (s.feed f).state = .opening) (other : (s.feed f.other).state = .standby) :
    s.feedStuck = false := by
  unfold State.feedStuck
  cases f <;> simp_all [FeedId.other]

/-- A trip ends in what the host is told and in the ports' loss of every feed. -/
theorem State.feedTrip_eq (c : FeedCause) (on : (s.feed f).state = .inrush ∨ (s.feed f).state = .active) :
    ∃ t, State.ToHost (s.tripped f c) t ∧ s.feedTrip f c = (t.feedEvt f c).noFeed := by
  have connected : ((s.feed f).state != .inrush && (s.feed f).state != .active) = false := by
    obtain e | e := on <;> rw [e] <;> rfl
  have hands : (((s.feed f).state == .active || s.board.changeover.isSome) && ((s.opened f c).feed f.other).state == .standby &&
      ! (s.opened f c).ref.safe && ! (s.opened f c).feedStuck && c != .unseated) = s.handsOver f c := by
    have safe : (s.opened f c).ref = s.ref := s.modFeed_ref _ _
    by_cases other : (s.feed f.other).state = .standby
    · rw [State.feedStuck_of_opening (f := f) (by simp) (by simpa using other)]
      simp [State.handsOver, safe]
    · have waits : ((s.feed f.other).state == .standby) = false := by simpa using other
      simp [State.handsOver, waits]
  have trip : s.feedTrip f c = _ := if_neg (by rw [connected]; decide)
  refine ⟨if (s.feed f).state == .inrush then (s.tripped f c).finish (fun w => w.what == .feedOff f.other) .ok 0 [] else s.tripped f c,
    .ite (.finish _ _ _ _ _) (.refl _), trip.trans ?_⟩
  unfold State.tripped
  rw [← hands]
  rfl

/-- The feed that trips opens for the reason told, whatever the ports lose. -/
theorem State.feedTrip_feed_self (c : FeedCause) (on : (s.feed f).state = .inrush ∨ (s.feed f).state = .active) :
    (s.feedTrip f c).feed f = { (s.feed f).tripped c s.aon with cause := c } := by
  obtain ⟨t, told, e⟩ := s.feedTrip_eq c on
  rw [e, State.noFeed_feed, State.feedEvt_feed, State.modFeed_feed_self, told.feed, s.tripped_feed, s.opened_feed_self]

theorem State.feedTrip_feed_other (f : FeedId) (c : FeedCause) : (s.feedTrip f c).feed f.other = s.feed f.other := by
  by_cases on : (s.feed f).state = .inrush ∨ (s.feed f).state = .active
  · obtain ⟨t, told, e⟩ := s.feedTrip_eq c on
    rw [e, State.noFeed_feed, State.feedEvt_feed, State.modFeed_feed_other, told.feed, s.tripped_feed, s.opened_feed_other]
  · obtain ⟨inrush, active⟩ := not_or.mp on
    unfold State.feedTrip
    simp [inrush, active]

/-- An ACTIVE feed whose trip has a STANDBY feed to hand over to starts the changeover, with PG low (R201, R209). -/
theorem State.feedTrip_changeover (active : (s.feed f).state = .active) (hands : s.handsOver f c = true) :
    (s.feedTrip f c).board.changeover = some (f.other, c) ∧ (s.feedTrip f c).board.pg = false := by
  obtain ⟨t, told, e⟩ := s.feedTrip_eq c (.inr active)
  have seated : c ≠ .unseated := by
    rintro rfl
    simp [State.handsOver] at hands
  rw [e, State.noFeed_of_fed (.inr (by simp [told.board, State.tripped, hands]))]
  simp [told.board, State.tripped, hands, State.opened, seated]

/-! ### What trips first (R209) -/

/-- A protection that shows a voltage outside its limits leaves that voltage measured. -/
def State.measured (f : FeedId) (s : State) (x : FeedTripping) : State :=
  match x with
  | .overvolt mv | .undervolt mv => if s.feedShows f x then s.modFeed f fun q => { q with mv := mv } else s
  | _ => s

theorem State.measured_eq (f : FeedId) (s : State) (x : FeedTripping) :
    ∃ mv, s.measured f x = s.modFeed f fun q => { q with mv := mv } := by
  have kept : ∃ mv, s = s.modFeed f fun q => { q with mv := mv } := ⟨(s.feed f).mv, by cases f <;> rfl⟩
  cases x with
  | overvolt | undervolt =>
    unfold State.measured
    dsimp only
    split
    exacts [⟨_, rfl⟩, kept]
  | fast | breaker | reverse => exact kept

theorem State.foldl_measured (f : FeedId) (l : List FeedTripping) (s : State) :
    ∃ mv, l.foldl (State.measured f) s = s.modFeed f fun q => { q with mv := mv } := by
  induction l generalizing s with
  | nil => exact ⟨(s.feed f).mv, by cases f <;> rfl⟩
  | cons x l ih =>
    obtain ⟨m, e⟩ := s.measured_eq f x
    obtain ⟨mv, e'⟩ := ih (s.modFeed f fun q => { q with mv := m })
    exact ⟨mv, by rw [List.foldl_cons, e, e']; cases f <;> rfl⟩

/-- The feed trips once, for the first of the causes that show; the voltages shown are measured. -/
theorem State.feedTripTick_eq {xs : List FeedTripping} (first : s.feedCause f xs = some c) :
    ∃ mv, s.feedTripTick f xs = (s.modFeed f fun q => { q with mv := mv }).feedTrip f c := by
  obtain ⟨mv, e⟩ := State.foldl_measured f xs s
  have tick : s.feedTripTick f xs = (xs.foldl (State.measured f) s).feedTrip f c := by
    unfold State.feedTripTick
    rw [first]
    rfl
  exact ⟨mv, by rw [tick, e]⟩

/-- One protection that shows trips the feed for its own cause. -/
theorem State.feedCause_singleton {x : FeedTripping} (shows : s.feedShows f x = true) : s.feedCause f [x] = some x.cause := by
  unfold State.feedCause
  cases x <;> simp [FeedTripping.cause, shows]

/-- OVERVOLT comes first, whatever else shows in the tick (R209). -/
theorem State.feedCause_overvolt {mv : Nat} (shows : s.feedShows f (.overvolt mv) = true) (l : List FeedTripping) :
    s.feedCause f (.overvolt mv :: l) = some .overvolt :=
  List.find?_cons_of_pos (by simp [FeedTripping.cause, shows])

end Sys2Proof.Machine
end

section
/-! SUPPORT. Seating, window, insertion, selection, inrush, changeover and retry of the feeds, command by command (R188–R209). -/
namespace Sys2Proof.Machine

variable {s : State}

/-! ### Seating and window (R188–R190) -/

/-- Seating qualifies the feeds; in DEEP it is recorded as a wake source. -/
theorem execSeatQualified_leaves (s : State) : ∃ a b w,
    exec .seatQualified s = .next { s with board := { s.board with seated := true }, feedA := a, feedB := b, pwr := w } := by
  let seat := s.modBoard fun b => { b with seated := true }
  have run : exec .seatQualified s = .next (State.wakeReq (if s.feedUp then (seat.feedQualify .fda).feedQualify .fdb else seat) 4) := rfl
  have qualified : ∃ a b, (if s.feedUp then (seat.feedQualify .fda).feedQualify .fdb else seat) = { seat with feedA := a, feedB := b } := by
    obtain ⟨a, b, qa⟩ := seat.feedQualify_feeds .fda
    obtain ⟨a', b', qb⟩ := State.feedQualify_feeds { seat with feedA := a, feedB := b } .fdb
    split
    · exact ⟨a', b', by rw [qa, qb]⟩
    · exact ⟨_, _, rfl⟩
  obtain ⟨a, b, e⟩ := qualified
  obtain ⟨w, wakes⟩ := State.wakeReq_pwr (k := 4) (by decide) { seat with feedA := a, feedB := b }
  exact ⟨a, b, w, by rw [run, e, wakes]; rfl⟩

/-- While the other feed is connected, a voltage of a feed that is not ACTIVE qualifies that feed alone. -/
theorem execFeedWindowChange_fda (mv : Nat) (up : s.feedUp = true) (rest : s.feedA.state ≠ .active) (other : s.feedB.state = .active) :
    exec (.feedWindowChange .fda mv) s = .next { s with feedA := Feed.qualify { s.feedA with mv := mv } s.board.seated s.aon } := by
  have run : exec (.feedWindowChange .fda mv) s = .next ((s.modFeed .fda fun q => { q with mv := mv }).feedQualify .fda) :=
    if_neg (by simp [rest, up])
  rw [run, State.feedQualify_of_busy (by simp [FeedId.other, other, FeedState.busy])]
  rfl

/-! ### The insertion delay (R190, R191) -/

/-- A feed whose insertion delay has ended reaches STANDBY. -/
def Feed.inserted (q : Feed) : Feed := if q.state == .insertDelay then { q with state := .standby } else q

theorem Feed.inserted_of_insertDelay {q : Feed} (waits : q.state = .insertDelay) : q.inserted = { q with state := .standby } :=
  if_pos (by simp [waits])

/-- The feeds whose insertion delays have ended, before one is selected. -/
theorem execInsertDelayExpiry_runs {f : FeedId} (both : Bool) (up : s.feedUp = true) (waits : (s.feed f).state = .insertDelay)
    (settled : s.feedSettled f = true) :
    ∃ t, State.ToHost ((if both && s.feedSettled f.other then (s.modFeed f Feed.inserted).modFeed f.other Feed.inserted
        else s.modFeed f Feed.inserted).modBoard fun b =>
          { b with returnRun := b.returnRun || (f == .fda && s.feedB.state == .active && s.feedA.use.ret != 0) }) t ∧
      exec (.insertDelayExpiry f both) s = .next t.feedSelect := by
  have run : exec (.insertDelayExpiry f both) s = _ := if_pos (by simp [waits, settled, up])
  refine ⟨_, ?_, run⟩
  by_cases e : (both && s.feedSettled f.other) = true
  · rw [if_pos e, if_pos e]
    cases f <;> exact (State.ToHost.feedWaits ..).trans (State.ToHost.feedWaits ..)
  · rw [if_neg e, if_neg e]
    exact State.ToHost.feedWaits ..

/-- FDA in STANDBY is connected where nothing keeps it (R191, R198). -/
theorem State.feedSelect_fda (up : s.feedUp = true) (still : s.board.changeover = none) (safe : s.ref.safe = false)
    (waits : s.feedA.state = .standby) (other : s.feedB.state = .standby) : s.feedSelect = s.toInrush .fda := by
  unfold State.feedSelect
  simp [up, still, safe, waits, other, State.feedStuck, FeedState.busy]

theorem execInsertDelayExpiry_unsettled (f : FeedId) (both : Bool) (early : s.feedSettled f = false) :
    exec (.insertDelayExpiry f both) s = .next s := if_neg (by simp [early])

/-- While FDB is ACTIVE, FDA waits in STANDBY for RETURN_DELAY (R191, R207). -/
theorem insertDelayExpiry_waits (up : s.feedUp = true) (waits : s.feedA.state = .insertDelay) (settled : s.feedSettled .fda = true)
    (other : s.feedB.state = .active) (returns : s.feedA.use.ret ≠ 0) :
    ∃ u, exec (.insertDelayExpiry .fda false) s = .next u ∧ u.feedA = { s.feedA with state := .standby } ∧ u.feedB = s.feedB ∧
      u.board.returnRun = true ∧ u.ports = s.ports := by
  obtain ⟨t, told, run⟩ := execInsertDelayExpiry_runs (f := .fda) false up waits settled
  rw [if_neg (by simp)] at told
  rw [State.feedSelect_of_busy .fdb (by simp [told.feedB, other, FeedState.busy])] at run
  refine ⟨t, run, told.feedA.trans ?_, told.feedB, ?_, told.ports⟩
  · exact Feed.inserted_of_insertDelay waits
  · simp [told.board, other, returns]

/-- With FDB in STANDBY, FDA is connected as its delay ends (R191). -/
theorem insertDelayExpiry_connects (up : s.feedUp = true) (waits : s.feedA.state = .insertDelay) (settled : s.feedSettled .fda = true)
    (other : s.feedB.state = .standby) (still : s.board.changeover = none) (safe : s.ref.safe = false) :
    ∃ u, exec (.insertDelayExpiry .fda false) s = .next u ∧ u.feedA.state = .inrush ∧ u.feedA.gate = true ∧ u.feedB = s.feedB := by
  obtain ⟨t, told, run⟩ := execInsertDelayExpiry_runs (f := .fda) false up waits settled
  rw [if_neg (by simp)] at told
  rw [State.feedSelect_fda ((State.feedUp_of_pwr told.pwr).trans up) (by simp [told.board, still]) (by simp [told.ref, safe])
    (by simp [told.feedA, Feed.inserted_of_insertDelay waits]) (by simp [told.feedB, other])] at run
  exact ⟨_, run, rfl, rfl, told.feedB⟩

/-- Feeds whose delays end together reach STANDBY together, and FDA is connected (R190, R191). -/
theorem insertDelayExpiry_both (up : s.feedUp = true) (waits : s.feedA.state = .insertDelay) (waits' : s.feedB.state = .insertDelay)
    (settled : s.feedSettled .fda = true) (settled' : s.feedSettled .fdb = true) (still : s.board.changeover = none)
    (safe : s.ref.safe = false) :
    ∃ u, exec (.insertDelayExpiry .fdb true) s = .next u ∧ u.feedA.state = .inrush ∧ u.feedA.gate = true ∧
      u.feedB = { s.feedB with state := .standby } := by
  obtain ⟨t, told, run⟩ := execInsertDelayExpiry_runs (f := .fdb) true up waits' settled'
  rw [if_pos (by simp [FeedId.other, settled])] at told
  have feedA : t.feedA = { s.feedA with state := .standby } := told.feedA.trans (Feed.inserted_of_insertDelay waits)
  have feedB : t.feedB = { s.feedB with state := .standby } := told.feedB.trans (Feed.inserted_of_insertDelay waits')
  rw [State.feedSelect_fda ((State.feedUp_of_pwr told.pwr).trans up) (by simp [told.board, still]) (by simp [told.ref, safe])
    (by rw [feedA]) (by rw [feedB])] at run
  exact ⟨_, run, rfl, rfl, feedB⟩

/-! ### The return to FDA (R191, R207) -/

/-- What lets FDA, in STANDBY, take over from FDB. -/
theorem priorityReturn_due (up : s.feedUp = true) (active : s.feedB.state = .active) (waits : s.feedA.state = .standby)
    (still : s.board.changeover = none) (safe : s.ref.safe = false) (returns : s.feedA.use.ret ≠ 0) :
    (s.feedUp && s.feedB.state == .active && s.feedA.state == .standby && s.board.changeover.isNone && ! s.ref.safe && ! s.feedStuck
      && s.feedA.use.ret != 0) = true := by
  simp [up, active, waits, still, safe, returns, State.feedStuck]

theorem priorityReturn_opens (up : s.feedUp = true) (active : s.feedB.state = .active) (waits : s.feedA.state = .standby)
    (still : s.board.changeover = none) (safe : s.ref.safe = false) (returns : s.feedA.use.ret ≠ 0) :
    exec (.priorityReturn []) s = .next ((s.modFeed .fdb fun q => { q.open .standby with cause := .priorityReturn }).modBoard fun b =>
      { b with changeover := some (.fda, .priorityReturn), returnRun := false }) :=
  (if_pos (priorityReturn_due up active waits still safe returns)).trans (if_neg (by simp [State.feedCause]))

/-- A trip of FDB in the same tick decides the changeover's cause (R209). -/
theorem priorityReturn_trips {x : FeedTripping} (up : s.feedUp = true) (active : s.feedB.state = .active) (waits : s.feedA.state = .standby)
    (still : s.board.changeover = none) (safe : s.ref.safe = false) (returns : s.feedA.use.ret ≠ 0) (shows : s.feedShows .fdb x = true) :
    ∃ u, exec (.priorityReturn [x]) s = .next u ∧ u.feedB.state = .opening ∧ u.feedB.cause = x.cause ∧
      u.board.changeover = some (.fda, x.cause) := by
  have first := State.feedCause_singleton shows
  obtain ⟨mv, tick⟩ := State.feedTripTick_eq first
  have run : exec (.priorityReturn [x]) s = .next (s.feedTripTick .fdb [x]) :=
    (if_pos (priorityReturn_due up active waits still safe returns)).trans (if_pos (by rw [first]; rfl))
  have feed := State.feedTrip_feed_self (s := s.modFeed .fdb fun q => { q with mv := mv }) (f := .fdb) x.cause (.inr (by simp [active]))
  refine ⟨_, run, ?_⟩
  rw [tick]
  refine ⟨(congrArg Feed.state feed).trans (by simp), congrArg Feed.cause feed, ?_⟩
  refine (State.feedTrip_changeover (by simp [active]) ?_).1
  cases x <;> simp [State.handsOver, active, FeedId.other, waits, safe, FeedTripping.cause]

/-! ### Inrush and changeover (R192, R197, R209) -/

/-- A feed that has closed is ACTIVE; a changeover to it ends, and it is told with FEED_CHANGE. -/
theorem execInrushComplete_runs {f : FeedId} {vgs mv vbusc : Nat} (up : s.feedUp = true) (closes : (s.feed f).state = .inrush)
    (met : inrushMet vgs mv vbusc = true) :
    ∃ c t, State.ToHost (State.feedEvt
        ((s.modFeed f fun q => { q with state := .active, fb1 := false, activeRun := true, mv := mv }).modBoard fun b =>
          { b with vbusc := vbusc, changeover := none, returnRun := f == .fdb && s.feedA.state == .standby && s.feedA.use.ret != 0 }) f c) t ∧
      exec (.inrushComplete f vgs mv vbusc) s = .next t :=
  ⟨_, _, (State.ToHost.feedWaits _ _).trans (.finish _ _ _ _ _), if_pos (by simp [up, closes, met])⟩

theorem inrushComplete_activates {vgs mv vbusc : Nat} (up : s.feedUp = true) (closes : s.feedA.state = .inrush)
    (met : inrushMet vgs mv vbusc = true) :
    ∃ u, exec (.inrushComplete .fda vgs mv vbusc) s = .next u ∧ u.feedA.state = .active ∧ u.feedA.gate = s.feedA.gate ∧
      u.board.changeover = none ∧ u.feedB = s.feedB := by
  obtain ⟨c, t, told, run⟩ := execInrushComplete_runs (f := .fda) up closes met
  have feedA : t.feedA = _ := (told.feed .fda).trans (State.feedEvt_feed _ .fda .fda c)
  have feedB : t.feedB = _ := (told.feed .fdb).trans (State.feedEvt_feed _ .fda .fdb c)
  exact ⟨t, run, by rw [feedA]; rfl, by rw [feedA]; rfl, by simp [told.board], feedB⟩

/-- A feed whose bank is confirmed off goes where its opening sends it, its accumulators cleared (R193, R197). -/
def Feed.confirmedOff (q : Feed) : Feed :=
  { q with offOk := true, acc := List.replicate 8 0, fb1 := false, state := if q.enabled then q.after else .disabled }

/-- Off confirmation completes what waits for it; the feed is then qualified, and the ports may have lost every feed. -/
theorem execOffConfirmed_runs {f : FeedId} {vgs : Nat} {ma : Int} (up : s.feedUp = true) (opens : (s.feed f).state = .opening)
    (shut : (s.feed f).gate = false) (off : (s.feed f).isOff vgs ma = true) :
    ∃ t, State.ToHost (s.modFeed f Feed.confirmedOff) t ∧ exec (.offConfirmed f vgs ma) s = .next (t.feedQualify f).noFeed :=
  ⟨_, (State.ToHost.ite (.refl _) (.finish _ _ _ _ _)).trans (.feedWaits _ _),
    (if_neg (by simp [shut, up])).trans ((if_pos (by simp [opens])).trans (if_neg (by simp [off])))⟩

/-- Confirmed off, a feed that retries backs off. -/
theorem offConfirmed_backoff {vgs : Nat} {ma : Int} (up : s.feedUp = true) (opens : s.feedA.state = .opening) (shut : s.feedA.gate = false)
    (enabled : s.feedA.enabled = true) (after : s.feedA.after = .backoff) (ready : s.feedA.ready = true) (other : s.feedB.state = .active)
    (off : s.feedA.isOff vgs ma = true) :
    ∃ u, exec (.offConfirmed .fda vgs ma) s = .next u ∧ u.feedA.state = .backoff ∧ u.feedA.offOk = true ∧
      u.feedA.acc = List.replicate 8 0 ∧ u.feedB = s.feedB := by
  obtain ⟨t, told, run⟩ := execOffConfirmed_runs (f := .fda) up opens shut off
  have feedA : t.feedA = s.feedA.confirmedOff := told.feedA
  have feedB : t.feedB = s.feedB := told.feedB
  have backoff : t.feedA.state = .backoff := by simp [feedA, Feed.confirmedOff, enabled, after]
  rw [State.feedQualify_of_busy (by simp [FeedId.other, feedB, other, FeedState.busy]),
    State.noFeed_of_fed (.inl (State.activeFeed_isSome (f := .fdb) (by simp [feedB, other])))] at run
  obtain ⟨w, a, st, d, kept⟩ := t.feedA.qualify_eq t.board.seated t.aon
  refine ⟨_, run, Feed.qualify_state_of_backoff backoff (by rw [feedA]; exact ready) _ _, ?_, ?_, feedB⟩
  · rw [State.modFeed_fda_feedA, kept, feedA]
    rfl
  · rw [State.modFeed_fda_feedA, kept, feedA]
    rfl

theorem offConfirmed_waits {vgs : Nat} {ma : Int} (opens : s.feedA.state = .opening) (on : s.feedA.isOff vgs ma = false) :
    exec (.offConfirmed .fda vgs ma) s = .next s := by
  change execOffConfirmed .fda vgs ma s = _
  unfold execOffConfirmed
  simp [ok, opens, on]

/-- The incoming feed of a changeover is connected once the outgoing one has been off for the dead time (R197). -/
theorem deadTimeEnd_connects {c : FeedCause} (up : s.feedUp = true) (runs : s.board.changeover = some (.fdb, c)) (off : s.feedA.offOk = true)
    (out : s.feedA.state = .backoff) (seated : s.board.seated = true) (waits : s.feedB.state = .standby) :
    exec .deadTimeEnd s = .next (s.toInrush .fdb) := by
  change execDeadTimeEnd s = _
  unfold execDeadTimeEnd
  rw [runs]
  simp [ok, FeedId.other, up, off, out, seated, waits]

/-! ### Retry (R202, R203) -/

/-- A feed whose attempt is due waits in STANDBY while the other one is ACTIVE. -/
theorem feedRetryDue_waits {d : Nat} (up : s.feedUp = true) (backoff : s.feedA.state = .backoff) (safe : s.ref.safe = false)
    (other : s.feedB.state = .active) (due : s.feedA.due = some d) (past : d ≤ s.aon) (settled : s.feedSettled .fda = true)
    (win : s.feedA.inWin = true) (seated : s.board.seated = true) :
    ∃ u, exec (.feedRetryDue .fda) s = .next u ∧ u.feedA.state = .standby ∧ u.feedA.due = none ∧
      u.feedA.retryCnt = s.feedA.retryCnt ∧ u.feedB = s.feedB := by
  have waits : exec (.feedRetryDue .fda) s = .next (State.feedWaits
      ((s.modFeed .fda fun q => { q with due := none }).modFeed .fda fun q => { q with state := .standby }) .fda) := by
    change execFeedRetryDue .fda s = _
    unfold execFeedRetryDue
    simp [ok, backoff, due, past, safe, up, settled, win, seated, State.activeFeed_isSome (f := .fdb) other]
  obtain ⟨r, l, e⟩ := State.ToHost.feedWaits
    ((s.modFeed .fda fun q => { q with due := none }).modFeed .fda fun q => { q with state := .standby }) .fda
  exact ⟨_, waits, by rw [e]; exact ⟨rfl, rfl, rfl, rfl⟩⟩

theorem feedRetryDue_early {f : FeedId} {d : Nat} (due : (s.feed f).due = some d) (early : s.aon < d) :
    exec (.feedRetryDue f) s = .next s := if_neg (by simp [due, early])

theorem feedRetryClear_active {f : FeedId} (up : s.feedUp = true) (active : (s.feed f).state = .active) (run : (s.feed f).activeRun = true) :
    exec (.feedRetryClear f) s = .next (s.modFeed f fun q => { q with retryCnt := 0, activeRun := false }) :=
  if_pos (by simp [up, active, run])

theorem feedReseatHoldExpiry_unseated (unseated : s.board.seated = false) :
    exec .feedReseatHoldExpiry s = .next ((s.modFeed .fda Feed.clearRetry).modFeed .fdb Feed.clearRetry) := if_neg (by simp [unseated])

end Sys2Proof.Machine
end

section
/-! SUPPORT. How a feed is qualified, selected, connected and retried, as the specification states it (R188–R193, R197, R202, R203, R209). -/
namespace Sys2Proof.Machine

/-- Settles O22, one clause of a command after the other. -/
theorem feedsQualifyAndConnect : Obligations.FeedsQualifyAndConnect := by
  unfold Obligations.FeedsQualifyAndConnect
  refine ⟨fun s still active => ?_, fun mv s up waits ready seated other low high => ?_, fun mv s up waits ready other out => ?_,
    fun mv s active => if_pos (by simp [active]), fun s up waits settled other returns => insertDelayExpiry_waits up waits settled other returns,
    fun s up waits settled other still safe => insertDelayExpiry_connects up waits settled other still safe,
    fun s up waits waits' settled settled' still safe => insertDelayExpiry_both up waits waits' settled settled' still safe,
    fun both s early => execInsertDelayExpiry_unsettled .fda both early, fun s up active waits still safe returns => ?_,
    fun mv s up active waits still safe returns shows => ?_, fun vgs mv vbusc s up closes drive low high => ?_,
    fun vgs ma s up opens shut enabled after ready other off => offConfirmed_backoff up opens shut enabled after ready other off,
    fun vgs ma s opens on => offConfirmed_waits opens on, fun s c up runs off out seated waits => ?_,
    fun d s up backoff safe other due past settled win seated => feedRetryDue_waits up backoff safe other due past settled win seated,
    fun d s due early => feedRetryDue_early (f := .fda) due early, fun s up active run => feedRetryClear_active (f := .fda) up active run,
    fun s unseated => ?_⟩
  · obtain ⟨a, b, w, run⟩ := execSeatQualified_leaves s
    exact ⟨_, run, rfl, rfl, rfl, rfl⟩
  · refine ⟨_, execFeedWindowChange_fda mv up (by simp [waits]) other, ?_, rfl, rfl, rfl⟩
    rw [seated]
    exact Feed.qualify_of_seen (q := { s.feedA with mv := mv }) waits ready ((Feed.inWindow_iff _ _).mpr ⟨low, high⟩) _
  · refine ⟨_, execFeedWindowChange_fda mv up (by simp [waits]) other, ?_⟩
    have outside : s.feedA.inWindow mv = false := by
      rw [Bool.eq_false_iff, Ne, Feed.inWindow_iff]
      omega
    exact Feed.qualify_of_out (q := { s.feedA with mv := mv }) (.inr (.inr waits)) ready outside _ _
  · exact ⟨_, priorityReturn_opens up active waits still safe returns, rfl, rfl, rfl, rfl, rfl, rfl⟩
  · exact priorityReturn_trips up active waits still safe returns (by simp [State.feedShows, shows])
  · exact inrushComplete_activates up closes (by simp [inrushMet, drive, low, high])
  · exact ⟨_, deadTimeEnd_connects up runs off out seated waits, rfl, rfl, rfl, rfl, rfl⟩
  · exact ⟨_, feedReseatHoldExpiry_unseated unseated, rfl, rfl, rfl, rfl, rfl, rfl, rfl⟩

end Sys2Proof.Machine
end

section
/-! SUPPORT. The breaker tick and power good of a feed (R193, R200, R201, R209). -/
namespace Sys2Proof.Machine

variable {s : State} {f : FeedId}

/-! ### Settings taken up (R209, R366) -/

/-- The qualification of a feed on its way in or out connects none. -/
theorem State.feedQualify_of_busy_self (busy : (s.feed f).state.busy = true) :
    s.feedQualify f = s.modFeed f fun q => q.qualify s.board.seated s.aon := by
  unfold State.feedQualify
  exact State.feedSelect_of_busy f (by rw [State.modFeed_feed_self, Feed.qualify_state_of_busy busy]; exact busy)

/-- A feed on its way in or out takes up its settings; its state and its accumulators stay. -/
theorem State.feedTakeUp_of_busy (busy : (s.feed f).state.busy = true) :
    ∃ w a d, s.feedTakeUp f = s.modFeed f fun q => { q with use := s.feedSet f, inWin := w, qualAt := a, due := d } := by
  unfold State.feedTakeUp
  split
  · next same =>
    have used : (s.feed f).use = s.feedSet f := by simpa using same
    refine ⟨(s.feed f).inWin, (s.feed f).qualAt, (s.feed f).due, ?_⟩
    rw [← used]
    cases f <;> rfl
  · have qualified := Feed.qualify_state_of_busy (q := { s.feed f with use := s.feedSet f }) busy s.board.seated s.aon
    obtain ⟨w, a, st, d, e⟩ := Feed.qualify_eq { s.feed f with use := s.feedSet f } s.board.seated s.aon
    have stays : st = (s.feed f).state := by rw [e] at qualified; exact qualified
    refine ⟨w, a, d, ?_⟩
    rw [State.feedQualify_of_busy_self (by rw [State.modFeed_feed_self]; exact busy)]
    subst stays
    cases f
    · exact congrArg (fun q => { s with feedA := q }) e
    · exact congrArg (fun q => { s with feedB := q }) e

/-! ### The measurements of a tick -/

/-- A tick of a connected feed: its measurements, its accumulators on the set it runs on, and the energy it delivers (R193, R208). -/
def Feed.ticked (q : Feed) (curve : List (Nat × Nat)) (mv : Nat) (ma : Int) : Feed :=
  { q with mv := mv, ma := ma, acc := accTick curve (q.use.rated * 250) ma q.acc,
           energy := (q.energy + (q.energyRem + mv * ma.toNat) / 20000000) % 2 ^ 64,
           energyRem := (q.energyRem + mv * ma.toNat) % 20000000 }

/-- A tick of the ACTIVE feed on the bus: VBUSC, the voltages that V_FEED is the mean of, and the power measured (R229, R235). -/
def Board.ticked (b : Board) (mv vb : Nat) (ma : Int) : Board :=
  Board.powerTick { b with vbusc := vb, vSum := b.vSum + mv, vN := b.vN + 1 } (vb * ma.toNat)

/-- What a tick measures leaves PG, and what stands with it, to be judged at its end. -/
theorem Board.ticked_eq (b : Board) (mv vb : Nat) (ma : Int) : ∃ v n x k p hi lo, b.ticked mv vb ma =
    { b with vbusc := vb, vSum := v, vN := n, feedSum := x, feedN := k, feedP := p, feedHi := hi, feedLo := lo } := by
  unfold Board.ticked Board.powerTick
  dsimp only
  split <;> exact ⟨_, _, _, _, _, _, _, rfl⟩

@[simp] theorem Board.ticked_vbusc (b : Board) (mv vb : Nat) (ma : Int) : (b.ticked mv vb ma).vbusc = vb := by
  obtain ⟨_, _, _, _, _, _, _, e⟩ := b.ticked_eq mv vb ma
  rw [e]
@[simp] theorem Board.ticked_pg (b : Board) (mv vb : Nat) (ma : Int) : (b.ticked mv vb ma).pg = b.pg := by
  obtain ⟨_, _, _, _, _, _, _, e⟩ := b.ticked_eq mv vb ma
  rw [e]
@[simp] theorem Board.ticked_pgHold (b : Board) (mv vb : Nat) (ma : Int) : (b.ticked mv vb ma).pgHold = b.pgHold := by
  obtain ⟨_, _, _, _, _, _, _, e⟩ := b.ticked_eq mv vb ma
  rw [e]
@[simp] theorem Board.ticked_pgOut (b : Board) (mv vb : Nat) (ma : Int) : (b.ticked mv vb ma).pgOut = b.pgOut := by
  obtain ⟨_, _, _, _, _, _, _, e⟩ := b.ticked_eq mv vb ma
  rw [e]
@[simp] theorem Board.ticked_suspended (b : Board) (mv vb : Nat) (ma : Int) : (b.ticked mv vb ma).suspended = b.suspended := by
  obtain ⟨_, _, _, _, _, _, _, e⟩ := b.ticked_eq mv vb ma
  rw [e]

/-- A tick of FDA, ACTIVE with no changeover, ends with PG judged by what it has measured. -/
theorem execFeedBreakerTick_active {mv vb : Nat} {ma : Int} (up : s.feedUp = true) (still : s.board.changeover = none)
    (active : s.feedA.state = .active) :
    ∃ t, (∃ w a d, t = { s with feedA := { s.feedA with use := s.feedSet .fda, inWin := w, qualAt := a, due := d } }) ∧
      exec (.feedBreakerTick .fda mv ma vb) s = .next (State.pgTick
        { t with feedA := t.feedA.ticked (t.feedCurve .fda) mv ma, board := t.board.ticked mv vb ma } .fda t.feedA.acc) := by
  obtain ⟨w, a, d, takeUp⟩ := State.feedTakeUp_of_busy (s := s) (f := .fda) (by simp [active, FeedState.busy])
  refine ⟨_, ⟨w, a, d, rfl⟩, ?_⟩
  have bus : State.busFeed (s.modFeed .fda fun q => { q with use := s.feedSet .fda, inWin := w, qualAt := a, due := d }) = some .fda := by
    simp [State.busFeed, still, State.activeFeed, active]
  change execFeedBreakerTick .fda mv ma vb s = _
  unfold execFeedBreakerTick
  rw [if_pos up, takeUp]
  have on : (State.feed (s.modFeed .fda fun q => { q with use := s.feedSet .fda, inWin := w, qualAt := a, due := d }) .fda).state = .active :=
    active
  simp only [up, bus, on, beq_self_eq_true, Bool.not_true, Bool.or_true, Bool.false_eq_true, if_true, if_false, Option.getD_some]
  rfl

/-! ### Power good (R200, R201) -/

/-- A current within RATED raises no accumulator of the default set (R193). -/
theorem accTick_feedFB0 {rated : Nat} {ma : Int} (within : ma ≤ (rated : Nat)) :
    accTick feedFB0 rated ma (List.replicate 8 0) = List.replicate 8 0 := by
  have below (k : Nat) (above : 16 ≤ k) : ¬ ma * 16 > (k * rated : Nat) := by
    have := Nat.mul_le_mul_right rated above
    omega
  have steps : ∀ e ∈ (List.replicate 8 0).zip feedFB0, (if ma * 16 > (e.2.1 * rated : Nat) then e.1 + 8 else e.1 - 1) = 0 := by
    have low : ∀ e ∈ (List.replicate 8 0).zip feedFB0, e.1 = 0 ∧ 16 ≤ e.2.1 := by decide
    intro e mem
    rw [if_neg (below _ (low e mem).2), (low e mem).1]
  exact (List.map_congr_left steps).trans rfl

/-- PG rises while the ACTIVE feed's bus is in its window and no accumulator runs; with the ports not suspended nothing else follows. -/
theorem State.pgTick_rises {before : List Nat} (low : s.board.pg = false) (active : (s.feed f).state = .active)
    (win : (s.feed f).inWindow s.board.vbusc = true)
    (small : (((s.feed f).acc.zip (s.feedCurve f)).all fun e => decide (e.1 ≤ e.2.2)) = true)
    (quiet : ((before.zip (s.feed f).acc).any fun e => e.1 == 0 && e.2 != 0) = false) (granted : s.board.suspended = false) :
    ∃ n, s.pgTick f before = s.modBoard fun b => { b with pg := true, pgHold := 20, pgOut := n, regrantPg := true } := by
  unfold State.pgTick
  simp only [low, active, win, small, quiet, beq_self_eq_true, Bool.and_true, Bool.not_false, if_true, Bool.false_eq_true, if_false]
  exact ⟨_, if_neg (by simp [granted])⟩

/-- Once high PG holds for 1 ms (R201). -/
theorem State.pgTick_holds (before : List Nat) (high : s.board.pg = true) (hold : s.board.pgHold ≠ 0) :
    ∃ n, s.pgTick f before = s.modBoard fun b => { b with pg := true, pgHold := b.pgHold - 1, pgOut := n } := by
  have held : (s.board.pgHold != 0) = true := by simpa using hold
  unfold State.pgTick
  simp only [high, held, Bool.true_or, if_true, Bool.not_true, Bool.and_false, Bool.false_eq_true, if_false]
  exact ⟨_, rfl⟩

/-- PG falls as the bus has been out of range for two ticks (R201). -/
theorem State.pgTick_falls (before : List Nat) (high : s.board.pg = true) (hold : s.board.pgHold = 0) (twice : 1 ≤ s.board.pgOut)
    (out : s.board.vbusc < (s.feed f).use.uvt * 100) : (s.pgTick f before).board.pg = false := by
  have count : min 2 (s.board.pgOut + 1) = 2 := by omega
  unfold State.pgTick
  simp [high, hold, out, count]

/-- With the bus in its window, the accumulators at rest and the current within RATED, the tick raises PG for 1 ms. -/
theorem feedBreakerTick_raises {mv vb : Nat} {ma : Int} (up : s.feedUp = true) (still : s.board.changeover = none)
    (active : s.feedA.state = .active) (low : s.board.pg = false) (above : s.feedA.uvq * 100 ≤ vb) (below : vb + 1000 ≤ s.feedA.ov * 100)
    (rest : s.feedA.acc = List.replicate 8 0) (within : ma ≤ (s.feedA.rated * 250 : Nat)) (second : s.feedA.fb1 = false)
    (default : s.cfg.fdaCurve = false) (granted : s.board.suspended = false) :
    ∃ u, exec (.feedBreakerTick .fda mv ma vb) s = .next u ∧ u.board.pg = true ∧ u.board.pgHold = 20 ∧ u.board.vbusc = vb ∧
      u.feedA.acc = List.replicate 8 0 ∧ u.feedA.mv = mv ∧ u.feedA.ma = ma ∧ u.feedA.state = .active ∧ u.feedB = s.feedB ∧
      u.ports = s.ports := by
  obtain ⟨t, ⟨w, a, d, ht⟩, run⟩ := execFeedBreakerTick_active (mv := mv) (vb := vb) (ma := ma) up still active
  have curve : t.feedCurve .fda = feedFB0 := by simp [ht, State.feedCurve, second, State.feedSet, default]
  have acc : (t.feedA.ticked (t.feedCurve .fda) mv ma).acc = List.replicate 8 0 := by
    rw [curve]
    refine Eq.trans ?_ (accTick_feedFB0 within)
    simp [Feed.ticked, ht, rest, State.feedSet]
  have curve' : State.feedCurve { t with feedA := t.feedA.ticked (t.feedCurve .fda) mv ma, board := t.board.ticked mv vb ma } .fda = feedFB0 :=
    curve
  obtain ⟨n, rises⟩ := State.pgTick_rises (f := .fda) (before := t.feedA.acc)
    (s := { t with feedA := t.feedA.ticked (t.feedCurve .fda) mv ma, board := t.board.ticked mv vb ma })
    (by simp [ht, low]) (by simp [Feed.ticked, ht, active])
    ((Feed.inWindow_iff _ _).mpr (by simp [Feed.ticked, ht, State.feedSet, above, below]))
    (by rw [curve', State.feed_fda, acc]; decide) (by rw [State.feed_fda, acc, ht]; simp only [rest]; decide) (by simp [ht, granted])
  rw [rises] at run
  exact ⟨_, run, rfl, rfl, by simp, acc, rfl, rfl, by simp [Feed.ticked, ht, active], by simp [ht], by simp [ht]⟩

/-- While PG holds, the tick leaves it high. -/
theorem feedBreakerTick_holds {mv vb : Nat} {ma : Int} (up : s.feedUp = true) (still : s.board.changeover = none)
    (active : s.feedA.state = .active) (high : s.board.pg = true) (hold : s.board.pgHold ≠ 0) :
    ∃ u, exec (.feedBreakerTick .fda mv ma vb) s = .next u ∧ u.board.pg = true ∧ u.board.pgHold = s.board.pgHold - 1 := by
  obtain ⟨t, ⟨w, a, d, ht⟩, run⟩ := execFeedBreakerTick_active (mv := mv) (vb := vb) (ma := ma) up still active
  obtain ⟨n, holds⟩ := State.pgTick_holds (f := .fda) t.feedA.acc
    (s := { t with feedA := t.feedA.ticked (t.feedCurve .fda) mv ma, board := t.board.ticked mv vb ma })
    (by simp [ht, high]) (by simp [ht, hold])
  rw [holds] at run
  exact ⟨_, run, rfl, by simp [ht]⟩

/-- The second tick of a bus out of range ends PG. -/
theorem feedBreakerTick_drops {mv vb : Nat} {ma : Int} (up : s.feedUp = true) (still : s.board.changeover = none)
    (active : s.feedA.state = .active) (high : s.board.pg = true) (hold : s.board.pgHold = 0) (twice : 1 ≤ s.board.pgOut)
    (out : vb < s.feedA.uvt * 100) : ∃ u, exec (.feedBreakerTick .fda mv ma vb) s = .next u ∧ u.board.pg = false := by
  obtain ⟨t, ⟨w, a, d, ht⟩, run⟩ := execFeedBreakerTick_active (mv := mv) (vb := vb) (ma := ma) up still active
  exact ⟨_, run, State.pgTick_falls t.feedA.acc (by simp [ht, high]) (by simp [ht, hold]) (by simp [ht, twice])
    (by simp [Feed.ticked, ht, State.feedSet, out])⟩

/-- In DEEP no accumulator counts, and a current within RATED/32 requests no wake (R204). -/
theorem feedBreakerTick_deep {f : FeedId} {mv vb : Nat} {ma : Int} (low : s.feedUp = false)
    (within : ma * 32 ≤ ((s.feed f).use.rated * 250 : Nat)) : exec (.feedBreakerTick f mv ma vb) s = .next s := by
  change execFeedBreakerTick f mv ma vb s = _
  unfold execFeedBreakerTick
  rw [show (if s.feedUp then s.feedTakeUp f else s) = s from if_neg (by simp [low])]
  exact (if_pos (by simp [low])).trans (congrArg Host.Outcome.next (if_neg (by omega)))

end Sys2Proof.Machine
end

section
/-! SUPPORT. What ends a feed's connection, command by command, and a bank that stays closed (R194, R198, R204, R209, R377). -/
namespace Sys2Proof.Machine

variable {s : State} {f : FeedId} {c : FeedCause}

/-! ### The protections -/

/-- The feed that a tick of its protections has tripped. -/
theorem State.feedTripTick_feed {xs : List FeedTripping} (first : s.feedCause f xs = some c) (active : (s.feed f).state = .active) :
    ∃ mv, (s.feedTripTick f xs).feed f = { Feed.tripped { s.feed f with mv := mv } c s.aon with cause := c } := by
  obtain ⟨mv, tick⟩ := State.feedTripTick_eq first
  refine ⟨mv, ?_⟩
  rw [tick, State.feedTrip_feed_self c (.inr (by rw [State.modFeed_feed_self]; exact active)), State.modFeed_feed_self, State.modFeed_aon]

/-- A protection of the feed keeper that shows trips the feed, and in DEEP requests a wake (R194, R204). -/
theorem State.feedGuard_trips {x : FeedTripping} {xs : List FeedTripping} (shows : s.feedShows f x = true)
    (first : s.feedCause f (x :: xs) = some c) (active : (s.feed f).state = .active) :
    ∃ mv w, s.feedGuard f x xs = .next { s.feedTripTick f (x :: xs) with pwr := w } ∧
      (s.feedTripTick f (x :: xs)).feed f = { Feed.tripped { s.feed f with mv := mv } c s.aon with cause := c } := by
  obtain ⟨mv, feed⟩ := State.feedTripTick_feed first active
  obtain ⟨w, wakes⟩ := State.wakeReq_pwr (k := 3) (by decide) (s.feedTripTick f (x :: xs))
  exact ⟨mv, w, (if_pos shows).trans (congrArg Host.Outcome.next wakes), feed⟩

/-- A fast trip of FDA hands over to FDB in STANDBY, and the retry schedule advances (R194, R202). -/
theorem feedFastTrip_changesOver {mv : Nat} (active : s.feedA.state = .active) (waits : s.feedB.state = .standby) (safe : s.ref.safe = false)
    (high : s.feedA.use.ftmv < mv) :
    ∃ u, exec (.feedFastTrip .fda mv []) s = .next u ∧ u.feedA.state = .opening ∧ u.feedA.gate = false ∧ u.feedA.after = .backoff ∧
      u.feedA.retryCnt = min 255 (s.feedA.retryCnt + 1) ∧ u.feedA.cause = .fast ∧ u.board.pg = false ∧
      u.board.changeover = some (.fdb, .fast) ∧ u.feedB = s.feedB := by
  have shows : s.feedShows .fda (.fast mv) = true := by simp [State.feedShows, high]
  have first := State.feedCause_singleton shows
  obtain ⟨m, w, run, feedA⟩ := State.feedGuard_trips (f := .fda) shows first active
  obtain ⟨m', tick⟩ := State.feedTripTick_eq first
  have feedB : (s.feedTripTick .fda [.fast mv]).feedB = s.feedB := by
    rw [tick]
    exact State.feedTrip_feed_other .fda _
  obtain ⟨changes, low⟩ := State.feedTrip_changeover (s := s.modFeed .fda fun q => { q with mv := m' }) (f := .fda) (c := .fast)
    (by simp [active]) (by simp [State.handsOver, active, FeedId.other, waits, safe])
  refine ⟨_, run, congrArg Feed.state feedA, congrArg Feed.gate feedA, congrArg Feed.after feedA, congrArg Feed.retryCnt feedA,
    congrArg Feed.cause feedA, ?_, ?_, feedB⟩
  · rw [tick]
    exact low
  · rw [tick]
    exact changes

/-! ### The release of SEAT_N (R189, R194, R201) -/

/-- With the bank of the one ACTIVE feed pulled down the ports are suspended, the board's seat left alone. -/
theorem State.feedTrip_unseated (active : s.feedA.state = .active) (idle : s.feedB.state ≠ .active) (still : s.board.changeover = none) :
    (s.feedTrip .fda .unseated).board.suspended = true ∧ (s.feedTrip .fda .unseated).board.changeover = none ∧
      (s.feedTrip .fda .unseated).board.seated = s.board.seated ∧ (s.board.pg = false → (s.feedTrip .fda .unseated).board.pg = false) := by
  obtain ⟨t, told, e⟩ := State.feedTrip_eq (s := s) (f := .fda) .unseated (.inr active)
  have alone : s.tripped .fda .unseated = s.opened .fda .unseated := if_neg (by simp [State.handsOver])
  have board : t.board = (s.opened .fda .unseated).board := by rw [told.board, alone]
  have opening : (t.feedEvt .fda .unseated).feedA.state = .opening := by
    rw [show (t.feedEvt .fda .unseated).feedA = _ from t.feedEvt_feed .fda .fda .unseated, State.modFeed_feed_self, told.feed, alone,
      State.opened_feed_self]
    rfl
  have other : (t.feedEvt .fda .unseated).feedB = s.feedB := by
    rw [show (t.feedEvt .fda .unseated).feedB = _ from t.feedEvt_feed .fda .fdb .unseated]
    exact told.feedB.trans (by rw [alone]; rfl)
  have none_active : (t.feedEvt .fda .unseated).activeFeed = none := by simp [State.activeFeed, opening, other, idle]
  have same : (t.feedEvt .fda .unseated).board.changeover = none := by simp [board, State.opened, still]
  rw [e]
  exact ⟨State.noFeed_suspends none_active same, by simp [board, State.opened, still], by simp [board, State.opened],
    fun low => State.noFeed_pg (by simp [board, State.opened, low])⟩

/-- A feed that is not seated is not in STANDBY. -/
theorem Feed.qualify_unseated {q : Feed} (waits : q.state = .standby) (now : Nat) : (q.qualify false now).state ≠ .standby := by
  unfold Feed.qualify
  simp only [waits, Bool.and_false, Bool.not_false, if_true]
  repeat' split
  all_goals simp

/-- While FDA is on its way out, both feeds' qualification connects none. -/
theorem State.feedQualify_both (busy : s.feedA.state.busy = true) : (s.feedQualify .fda).feedQualify .fdb =
    (s.modFeed .fda fun q => q.qualify s.board.seated s.aon).modFeed .fdb fun q => q.qualify s.board.seated s.aon := by
  rw [State.feedQualify_of_busy_self (f := .fda) busy]
  refine State.feedQualify_of_busy (f := .fdb) (s := s.modFeed .fda fun q => q.qualify s.board.seated s.aon) ?_
  exact (congrArg FeedState.busy (Feed.qualify_state_of_busy busy _ _)).trans busy

/-- The board as the release of SEAT_N leaves it with no changeover in progress. -/
def State.unseated (s : State) : State :=
  s.modBoard fun b => { b with seated := false, pg := b.pg && b.pgHold != 0, changeover := none, returnRun := false }

/-- With no changeover in progress the release of SEAT_N trips both feeds and qualifies them. -/
theorem execSeatReleased_still (still : s.board.changeover = none) : ∃ w t,
    State.ToHost (((((s.unseated.feedTrip .fda .unseated).feedTrip .fdb .unseated).feedQualify .fda).feedQualify .fdb).noFeed) t ∧
      exec .seatReleased s = .next { t with pwr := w } := by
  have run : ∃ t,
      State.ToHost (((((s.unseated.feedTrip .fda .unseated).feedTrip .fdb .unseated).feedQualify .fda).feedQualify .fdb).noFeed) t ∧
        exec .seatReleased s = .next (t.wakeReq 4) := by
    refine ⟨_, .finish _ (fun w => w.what == .feedOff .fda || w.what == .feedOff .fdb) .ok 0 [], ?_⟩
    change execSeatReleased s = _
    unfold execSeatReleased
    rw [still]
    rfl
  obtain ⟨t, told, run⟩ := run
  obtain ⟨w, wakes⟩ := State.wakeReq_pwr (k := 4) (by decide) t
  exact ⟨w, t, told, run.trans (congrArg Host.Outcome.next wakes)⟩

/-- Both banks are open, the feed that was ACTIVE for want of the seat, and the ports are suspended. -/
theorem seatReleased_opens (active : s.feedA.state = .active) (waits : s.feedB.state = .standby) (still : s.board.changeover = none)
    (held : s.board.pgHold = 0) :
    ∃ u, exec .seatReleased s = .next u ∧ u.board.seated = false ∧ u.board.pg = false ∧ u.board.changeover = none ∧
      u.feedA.state = .opening ∧ u.feedA.gate = false ∧ u.feedA.cause = .unseated ∧ u.feedB.state ≠ .standby ∧
      u.board.suspended = true := by
  obtain ⟨w, u, told, run⟩ := execSeatReleased_still still
  obtain ⟨suspended, same, seat, low⟩ := State.feedTrip_unseated (s := s.unseated) active (by simp [State.unseated, waits]) rfl
  have feedA : (s.unseated.feedTrip .fda .unseated).feedA = { s.feedA.tripped .unseated s.aon with cause := .unseated } :=
    State.feedTrip_feed_self (f := .fda) .unseated (.inr active)
  have feedB : (s.unseated.feedTrip .fda .unseated).feedB = s.feedB := State.feedTrip_feed_other .fda .unseated
  generalize s.unseated.feedTrip .fda .unseated = t at told suspended same seat low feedA feedB
  have busy : t.feedA.state.busy = true := by simp [feedA, FeedState.busy]
  rw [show t.feedTrip .fdb .unseated = t from if_pos (by simp [feedB, waits]), State.feedQualify_both busy] at told
  have endA : u.feedA = t.feedA.qualify t.board.seated t.aon := (told.feed .fda).trans (State.noFeed_feed _ _)
  have endB : u.feedB = t.feedB.qualify t.board.seated t.aon := (told.feed .fdb).trans (State.noFeed_feed _ _)
  obtain ⟨_, _, _, _, kept⟩ := t.feedA.qualify_eq t.board.seated t.aon
  refine ⟨_, run, ?_, ?_, ?_, ?_, ?_, ?_, ?_, ?_⟩
  · simp [told.board, seat, State.unseated]
  · exact (congrArg Board.pg told.board).trans (State.noFeed_pg (by simp [low (by simp [State.unseated, held])]))
  · simp [told.board, same]
  · exact (congrArg Feed.state endA).trans ((Feed.qualify_state_of_busy busy _ _).trans (by simp [feedA]))
  · rw [show State.feedA { u with pwr := w } = _ from endA, Feed.qualify_gate, feedA]
    rfl
  · rw [show State.feedA { u with pwr := w } = _ from endA, kept, feedA]
  · rw [show State.feedB { u with pwr := w } = _ from endB, seat, feedB]
    exact Feed.qualify_unseated waits _
  · exact (congrArg Board.suspended told.board).trans (State.noFeed_stays_suspended (by simp [suspended]))

/-! ### A stuck bank (R198, R377, R383) -/

namespace State.StaysAwake

variable {t : State} {p : PortId}

theorem foldl {α : Type} {g : State → α → State} {l : List α} (h : StaysAwake s t) (hg : ∀ t a, StaysAwake s t → StaysAwake s (g t a)) :
    StaysAwake s (l.foldl g t) := by
  induction l generalizing t with
  | nil => exact h
  | cons a l ih => exact ih (hg t a h)

theorem send {m : TxMsg} (h : StaysAwake s t) : StaysAwake s (t.send p m) := either h (either h.upd h.upd)

theorem feedEvt {c : FeedCause} (h : StaysAwake s t) : StaysAwake s (t.feedEvt f c) :=
  foldl (upd (postEvt (h.upd (t.modFeed_pwr f _)))) fun _ _ k => either k.send k

theorem startTable {n : Nat} {r : Post} (h : StaysAwake s t) : StaysAwake s (t.startTable p n r) := h.calAbort.upd

theorem post {r : Post} (h : StaysAwake s t) : StaysAwake s (t.post p r) :=
  either h (either h.sigSend (either h.abandonTable.startTable (either h.sigSend (either h.upd h.startTable))))

theorem disconnectPort (h : StaysAwake s t) : StaysAwake s (t.disconnectPort p) :=
  post (upd (upd (pdStop (rallyEnd (endContract h)))) (State.finish_pwr _ _ _ _ _))

theorem noFeed (h : StaysAwake s t) : StaysAwake s t.noFeed :=
  either h (postEvt (foldl h.upd fun _ _ k => either k.disconnectPort (either k.upd k)))

end State.StaysAwake

theorem State.refRecord_told (s : State) (n : Nat) (k : Option TileId) (p : Option PortId) :
    ∃ r l, s.refRecord n k p = { s with ref := r, link := l } := by
  unfold State.refRecord
  dsimp only
  split
  · obtain ⟨a, b, e⟩ := State.raise_host (s.modRef _) s.ref.vector
    exact ⟨_, _, e⟩
  · exact ⟨_, _, rfl⟩

@[simp] theorem State.refRecord_feed (s : State) (n : Nat) (k : Option TileId) (p : Option PortId) (f : FeedId) :
    (s.refRecord n k p).feed f = s.feed f := by
  obtain ⟨r, l, e⟩ := s.refRecord_told n k p
  rw [e]
  cases f <;> rfl

@[simp] theorem State.refRecord_board (s : State) (n : Nat) (k : Option TileId) (p : Option PortId) :
    (s.refRecord n k p).board = s.board := by
  obtain ⟨r, l, e⟩ := s.refRecord_told n k p
  rw [e]

/-- Loss of every feed leaves what the referee has recorded. -/
theorem State.noFeed_fault (s : State) : s.noFeed.ref.fault = s.ref.fault := by
  obtain ⟨e, -⟩ | ⟨_, _, _, _, _, _, ⟨b, c, e⟩, _⟩ := s.noFeed_cases
  · rw [e]
  · rw [e]
    rfl

/-- A stuck bank holds FAULT_N low (R377). -/
theorem State.faultLow_of_stuckBank (awake : s.pwr.dev ≠ .deep) (off : (s.feed f).state = .disabled) (stuck : (s.feed f).cause = .stuckBank) :
    s.faultLow = true := by
  unfold State.faultLow
  rw [if_neg (by simpa using awake)]
  cases f <;> simp_all

/-- The feed as STUCK_BANK leaves it, the changeover abandoned. -/
def State.bankStuck (s : State) (f : FeedId) : State :=
  (s.modFeed f fun q => { q with state := .disabled, enabled := false, due := none }).modBoard fun b => { b with changeover := none }

/-- A bank that is not confirmed off in time is disabled, told and recorded. -/
theorem execStuckBank_runs (up : s.feedUp = true) (opens : (s.feed f).state = .opening) (on : (s.feed f).offOk = false) :
    ∃ t, State.ToHost (((s.bankStuck f).feedEvt f .stuckBank).refRecord 0x0C none none).noFeed t ∧ exec (.stuckBank f) s = .next t :=
  ⟨_, .finish _ _ _ _ _, if_pos (by simp [up, opens, on])⟩

theorem stuckBank_disables (up : s.feedUp = true) (opens : s.feedA.state = .opening) (on : s.feedA.offOk = false) :
    ∃ u, exec (.stuckBank .fda) s = .next u ∧ u.feedA.state = .disabled ∧ u.feedA.cause = .stuckBank ∧
      u.board.changeover = none ∧ u.ref.fault.getLsbD 0x0C = true ∧ u.faultLow = true := by
  obtain ⟨u, told, run⟩ := execStuckBank_runs (f := .fda) up opens on
  have awake : State.StaysAwake s u := by
    have off : State.StaysAwake s (s.bankStuck .fda) := (State.StaysAwake.refl s).upd
    exact (off.feedEvt.upd (State.refRecord_pwr _ _ _ _)).noFeed.upd told.pwr
  have feedA : u.feedA = { s.feedA with state := .disabled, enabled := false, due := none, cause := .stuckBank } := by
    rw [show u.feedA = _ from told.feed .fda, State.noFeed_feed, State.refRecord_feed, State.feedEvt_feed]
    rfl
  have state : u.feedA.state = .disabled := by rw [feedA]
  have cause : u.feedA.cause = .stuckBank := by rw [feedA]
  refine ⟨u, run, state, cause, ?_, ?_, State.faultLow_of_stuckBank (f := .fda) (awake.awake (State.awake_of_feedUp up)) state cause⟩
  · rw [told.board, State.noFeed_changeover, State.refRecord_board, State.feedEvt_board]
    rfl
  · rw [told.ref, State.noFeed_fault, State.refRecord_fault, getLsbD_setBit]
    rfl

end Sys2Proof.Machine
end

section
/-! SUPPORT. What ends the connection of a feed, as the specification states it (R193, R194, R196, R198, R200–R202, R204, R209). -/
namespace Sys2Proof.Machine

/-- Settles O23: the ticks that judge PG, then the trips by their causes, the release of SEAT_N and a stuck bank. -/
theorem feedsTripAndOpen : Obligations.FeedsTripAndOpen := by
  unfold Obligations.FeedsTripAndOpen
  refine ⟨fun mv vb ma s up still active low above below rest within second default granted =>
      feedBreakerTick_raises up still active low above below rest within second default granted,
    fun mv vb ma s up still active high hold => feedBreakerTick_holds up still active high hold,
    fun mv vb ma s up still active high hold twice out => feedBreakerTick_drops up still active high hold twice out,
    fun mv vb ma s low within => feedBreakerTick_deep (f := .fda) low within,
    fun mv s active waits safe high => feedFastTrip_changesOver active waits safe high, fun mv s low => ?_, fun s up active full => ?_,
    fun ma s active high => ?_, fun s up closes => ?_, fun mv l s active high => ?_, fun mv s up active low => ?_,
    fun s active waits still held => seatReleased_opens active waits still held, fun s up opens on => stuckBank_disables up opens on⟩
  · have first : s.feedShows .fda (.fast mv) = false := decide_eq_false (Nat.not_lt.mpr low)
    exact if_neg (by simp [first])
  · obtain ⟨m, feed⟩ := State.feedTripTick_feed (f := .fda)
      (State.feedCause_singleton (x := .breaker) (by simp [State.feedShows, up, full])) active
    exact ⟨_, rfl, congrArg Feed.state feed, congrArg Feed.gate feed, congrArg Feed.cause feed, congrArg Feed.due feed⟩
  · have shows : s.feedShows .fda (.reverse ma) = true := by simp [State.feedShows, high]
    obtain ⟨m, w, run, feed⟩ := State.feedGuard_trips (f := .fda) shows (State.feedCause_singleton shows) active
    exact ⟨_, run, congrArg Feed.state feed, congrArg Feed.gate feed, congrArg Feed.cause feed, congrArg Feed.after feed⟩
  · have feed := State.feedTrip_feed_self (f := .fda) .inrushTimeout (.inl closes)
    exact ⟨_, if_pos (by simp [up, closes]), congrArg Feed.state feed, congrArg Feed.gate feed, congrArg Feed.cause feed,
      congrArg Feed.after feed⟩
  · have shows : s.feedShows .fda (.overvolt mv) = true := by simp [State.feedShows, high]
    obtain ⟨m, w, run, feed⟩ := State.feedGuard_trips (f := .fda) shows (State.feedCause_overvolt shows l) active
    exact ⟨_, run, congrArg Feed.state feed, congrArg Feed.gate feed, congrArg Feed.cause feed, congrArg Feed.after feed,
      (congrArg Feed.retryCnt feed).trans rfl⟩
  · obtain ⟨m, feed⟩ := State.feedTripTick_feed (f := .fda)
      (State.feedCause_singleton (x := .undervolt mv) (by simp [State.feedShows, up, low])) active
    exact ⟨_, rfl, congrArg Feed.state feed, congrArg Feed.gate feed, congrArg Feed.cause feed, congrArg Feed.after feed⟩

end Sys2Proof.Machine
end

section
/-! SUPPORT. How a descriptor starts and completes: what it leaves fetched, its completion, and what neither touches (R328, R331, R338, R351). -/
namespace Sys2Proof.Machine

variable {s t u : State} {d : Desc} {op : Nat}

/-! ### The start (R328, R331) -/

/-- A descriptor that starts has left the fetched ones, and one of a session keeps the host session open (R351). -/
def State.begun (s : State) (d : Desc) : State := (s.dropFetched d).sessionUse d

theorem State.begun_eq (s : State) (d : Desc) :
    ∃ a c, s.begun d = { s with link := { s.link with fetched := s.link.fetched.erase d, fetchAt := a, sessAt := c } } := by
  unfold State.begun State.sessionUse
  split <;> exact ⟨_, _, rfl⟩

/-- A descriptor that passes the checks has its effect on the state it has begun in. -/
theorem State.startDesc_of_starts (starts : s.starts d op) {sel : Bool} (row : sel = true) (g : State → State) :
    s.startDesc d op sel g = g (s.begun d) := by
  obtain ⟨opn, next, checked, live⟩ := starts
  obtain ⟨a, c, e⟩ := s.begun_eq d
  have check : (s.begun d).descCheck d = none := by
    rw [e]
    exact checked
  have begun : s.startDesc d op sel g = _ := if_pos (by simp [opn, next])
  refine begun.trans ?_
  change (match (s.begun d).descCheck d with
    | some (c, det, data) => (s.begun d).cplDesc d op c det data
    | none => _) = _
  rw [check]
  refine (if_neg ?_).trans (if_pos row)
  cases port : d.portId with
  | none => exact Bool.false_ne_true
  | some p =>
    have live' : (s.begun d).portFenced p = false := by
      rw [e]
      exact live p port
    exact Bool.eq_false_iff.mp live'

@[simp] theorem State.begun_ports (s : State) (d : Desc) : (s.begun d).ports = s.ports := by
  obtain ⟨a, c, e⟩ := s.begun_eq d
  rw [e]
@[simp] theorem State.begun_feedA (s : State) (d : Desc) : (s.begun d).feedA = s.feedA := by
  obtain ⟨a, c, e⟩ := s.begun_eq d
  rw [e]
@[simp] theorem State.begun_feedB (s : State) (d : Desc) : (s.begun d).feedB = s.feedB := by
  obtain ⟨a, c, e⟩ := s.begun_eq d
  rw [e]
@[simp] theorem State.begun_board (s : State) (d : Desc) : (s.begun d).board = s.board := by
  obtain ⟨a, c, e⟩ := s.begun_eq d
  rw [e]
@[simp] theorem State.begun_ref (s : State) (d : Desc) : (s.begun d).ref = s.ref := by
  obtain ⟨a, c, e⟩ := s.begun_eq d
  rw [e]
@[simp] theorem State.begun_svc (s : State) (d : Desc) : (s.begun d).svc = s.svc := by
  obtain ⟨a, c, e⟩ := s.begun_eq d
  rw [e]
@[simp] theorem State.begun_aon (s : State) (d : Desc) : (s.begun d).aon = s.aon := by
  obtain ⟨a, c, e⟩ := s.begun_eq d
  rw [e]

/-! ### The completion (R338) -/

theorem cplRing_lt (n : Nat) : cplRing n < 14 := by
  unfold cplRing
  split <;> decide

theorem State.drained_out (s : State) (n k : Nat) : ((s.drained n).ring k).out = (s.ring k).out := by
  unfold State.drained
  split
  · by_cases real : n < 14
    · rw [s.modRing_ring real]
      split
      · next e => rw [e]
      · rfl
    · unfold State.modRing
      rw [dif_neg real]
  · rfl

/-- A completion is the last entry of its ring, where that is enabled and the host link not fenced (R322, R350). -/
theorem State.complete_completes (s : State) (c : Cpl) (irq : Bool) : s.completes (s.complete c irq) c := by
  intro live enabled
  refine ⟨(s.ring (cplRing c.ring)).phase, ?_⟩
  unfold State.complete
  rw [if_neg (by simp [live, enabled]), State.drained_out, State.ringWrite_out (cplRing_lt _)]

/-- What a descriptor leaves as it completes, from any state in which its effect has left the rings and the fences alone. -/
theorem State.cplDesc_endsWith (opn : d.opn = op) (rings : t.rings = s.rings) (power : t.pwr = s.pwr)
    (fetched : t.link.fetched = s.link.fetched.erase d) (code : CplCode) (detail : Nat) (data : List Byte) :
    s.endsWith (t.cplDesc d op code detail data) d code detail data := by
  have own : BitVec.ofNat 8 op = d.op := by rw [← opn]; exact BitVec.ofNat_toNat 8 d.op
  refine ⟨fun live enabled => ?_, ?_⟩
  · unfold State.cplDesc
    rw [own]
    obtain ⟨ph, out⟩ := t.complete_completes (d.cplOf code detail data) d.irq (by unfold State.hostFenced State.domFenced; rw [power]; exact live)
      (by unfold State.ring; rw [rings]; exact enabled)
    refine ⟨ph, out.trans ?_⟩
    unfold State.ring
    rw [rings]
  · obtain ⟨r, a, b, e⟩ := t.complete_host _ d.irq
    exact (congrArg (fun u : State => u.link.fetched) e).trans fetched

end Sys2Proof.Machine
end

section
/-! SUPPORT. Sessions and unlocking over PCIe, descriptor by descriptor (R351, R445–R447). -/
namespace Sys2Proof.Machine

variable {s t u : State} {d : Desc} {op : Nat}

/-! ### A descriptor's own effect -/

/-- From `s` to `t` a descriptor's own effect has left the rings, the fences, the fetched descriptors, and what no completion touches; that
it does is found by unfolding it. -/
structure State.OwnEffect (s t : State) : Prop where
  rings : t.rings = s.rings := by rfl
  pwr : t.pwr = s.pwr := by rfl
  fetched : t.link.fetched = s.link.fetched := by rfl
  ports : t.ports = s.ports := by rfl
  tiles : t.tiles = s.tiles := by rfl
  feedA : t.feedA = s.feedA := by rfl
  feedB : t.feedB = s.feedB := by rfl
  board : t.board = s.board := by rfl
  hud : t.hud = s.hud := by rfl
  cfg : t.cfg = s.cfg := by rfl
  fuse : t.fuse = s.fuse := by rfl
  code : t.cores.code = s.cores.code := by rfl

theorem State.OwnEffect.sameBut (h : State.OwnEffect s t) : s.sameBut t [] :=
  ⟨fun p _ => State.port_of_ports h.ports p, h.tiles, h.feedA, h.feedB, h.board, h.hud, h.cfg, h.fuse, h.code⟩

/-- A descriptor completes from where its own effect has left the machine. -/
theorem State.OwnEffect.completes (h : State.OwnEffect (s.begun d) t) (opn : d.opn = op) (code : CplCode) (detail : Nat) (data : List Byte) :
    s.endsWith (t.cplDesc d op code detail data) d code detail data ∧ s.sameBut (t.cplDesc d op code detail data) [] := by
  obtain ⟨a, c, begun⟩ := s.begun_eq d
  rw [begun] at h
  obtain ⟨r, k, e⟩ := State.ToHost.complete t (d.cplOf code detail data) d.irq
  have own : t.cplDesc d op code detail data = { t with rings := r, link := k } := by
    rw [← e, State.cplDesc, ← opn]
    unfold Desc.cplOf Desc.opn
    rw [BitVec.ofNat_toNat, BitVec.setWidth_eq]
  refine ⟨State.cplDesc_endsWith (s := s) opn h.rings h.pwr h.fetched code detail data, ?_⟩
  rw [own]
  exact ⟨fun p _ => State.port_of_ports h.ports p, h.tiles, h.feedA, h.feedB, h.board, h.hud, h.cfg, h.fuse, h.code⟩

theorem State.OwnEffect.hostClose (s : State) : State.OwnEffect s s.hostClose := by
  unfold State.hostClose
  dsimp only
  split <;> exact {}

/-- A closed session has neither level nor unlock. -/
theorem State.hostClose_link (s : State) :
    s.hostClose.link = { s.link with sess := 0, level := .none, sessReq := .none, unlocked := false, challenge := 0#128 } := by
  unfold State.hostClose
  dsimp only
  split <;> rfl

@[simp] theorem State.hostClose_svc (s : State) : s.hostClose.svc = s.svc := by
  unfold State.hostClose
  dsimp only
  split <;> rfl

theorem State.cplDesc_link (t : State) (d : Desc) (op : Nat) (code : CplCode) (detail : Nat) (data : List Byte) :
    ∃ a b, (t.cplDesc d op code detail data).link = { t.link with raised := a, pba := b } := by
  obtain ⟨r, a, b, e⟩ := t.complete_host _ d.irq
  exact ⟨a, b, congrArg State.link e⟩

@[simp] theorem State.cplDesc_svc (t : State) (d : Desc) (op : Nat) (code : CplCode) (detail : Nat) (data : List Byte) :
    (t.cplDesc d op code detail data).svc = t.svc :=
  (State.cplDesc_frame (P := fun _ => False) t d op code detail data).safety.2.1

/-! ### What a session descriptor finds -/

@[simp] theorem State.begun_sess (s : State) (d : Desc) : (s.begun d).link.sess = s.link.sess := by
  obtain ⟨a, c, e⟩ := s.begun_eq d
  rw [e]
@[simp] theorem State.begun_nextSess (s : State) (d : Desc) : (s.begun d).link.nextSess = s.link.nextSess := by
  obtain ⟨a, c, e⟩ := s.begun_eq d
  rw [e]
@[simp] theorem State.begun_sessReq (s : State) (d : Desc) : (s.begun d).link.sessReq = s.link.sessReq := by
  obtain ⟨a, c, e⟩ := s.begun_eq d
  rw [e]
@[simp] theorem State.begun_level (s : State) (d : Desc) : (s.begun d).link.level = s.link.level := by
  obtain ⟨a, c, e⟩ := s.begun_eq d
  rw [e]
@[simp] theorem State.begun_unlocked (s : State) (d : Desc) : (s.begun d).link.unlocked = s.link.unlocked := by
  obtain ⟨a, c, e⟩ := s.begun_eq d
  rw [e]
@[simp] theorem State.begun_challenge (s : State) (d : Desc) : (s.begun d).link.challenge = s.link.challenge := by
  obtain ⟨a, c, e⟩ := s.begun_eq d
  rw [e]
@[simp] theorem State.begun_openAt (s : State) (d : Desc) : (s.begun d).link.openAt = s.link.openAt := by
  obtain ⟨a, c, e⟩ := s.begun_eq d
  rw [e]
@[simp] theorem State.begun_unitKey (s : State) (d : Desc) : (s.begun d).unitKey = s.unitKey := by
  obtain ⟨a, c, e⟩ := s.begun_eq d
  rw [e]
  rfl
@[simp] theorem State.begun_lockSecs (s : State) (d : Desc) : (s.begun d).lockSecs = s.lockSecs := by
  obtain ⟨a, c, e⟩ := s.begun_eq d
  rw [e]
  rfl

/-! ### Opening (R351, R434, R445, R447) -/

/-- A session of a level opened, its challenge out: four free words are drawn, and keys that wait take effect (R445, R448). -/
def State.sessionOpened (s : State) (l : Level) (c : BitVec 128) : State :=
  State.modLink { s.takeKeys with freeCtr := s.freeCtr + 4 } fun k =>
    { k with sess := s.link.nextSess, nextSess := nextSession s.link.nextSess, sessReq := l, level := .none, unlocked := false,
             challenge := c, openAt := s.aon }

theorem execSessionOpen_opens {uk : List Byte} {l : Level} (starts : s.starts d 0x60) (closed : s.link.sess = 0) (key : s.unitKey = some uk)
    (level : levelOf (d.byte 8) = some l) (free : s.lockSecs = 0) (noDma : d.fld 16 8 = 0) : ∃ c,
    exec (.sessionOpen d) s = .next (((s.begun d).sessionOpened l c).cplDesc d 0x60 .ok (s.begun d).link.nextSess (chalBytes c)) := by
  have run : exec (.sessionOpen d) s = .next _ := congrArg Host.Outcome.next (State.startDesc_of_starts starts rfl _)
  obtain ⟨c, challenge⟩ : ∃ c, (s.begun d).takeKeys.newChallenge = (c, { (s.begun d).takeKeys with freeCtr := (s.begun d).freeCtr + 4 }) :=
    ⟨_, rfl⟩
  simp only [State.begun_sess, closed, State.begun_unitKey, key, level, State.begun_lockSecs, free, noDma, challenge, bne_self_eq_false,
    Bool.false_eq_true, if_false, beq_self_eq_true, if_true] at run
  exact ⟨c, run⟩

theorem sessionOpen_opens {uk : List Byte} {l : Level} (starts : s.starts d 0x60) (closed : s.link.sess = 0) (key : s.unitKey = some uk)
    (level : levelOf (d.byte 8) = some l) (free : s.lockSecs = 0) (noDma : d.fld 16 8 = 0) :
    ∃ u, exec (.sessionOpen d) s = .next u ∧ u.link.sess = s.link.nextSess ∧ u.link.sessReq = l ∧ u.link.level = .none ∧
      u.link.unlocked = false ∧ u.link.openAt = s.aon ∧ s.endsWith u d .ok s.link.nextSess (chalBytes u.link.challenge) ∧
      s.sameBut u [] := by
  obtain ⟨c, run⟩ := execSessionOpen_opens starts closed key level free noDma
  obtain ⟨a, b, link⟩ := ((s.begun d).sessionOpened l c).cplDesc_link d 0x60 .ok (s.begun d).link.nextSess (chalBytes c)
  have own : State.OwnEffect (s.begun d) ((s.begun d).sessionOpened l c) := {}
  obtain ⟨ends, same⟩ := own.completes starts.1 .ok (s.begun d).link.nextSess (chalBytes c)
  refine ⟨_, run, ?_⟩
  rw [link, ← s.begun_nextSess d, ← s.begun_aon d]
  exact ⟨rfl, rfl, rfl, rfl, rfl, ends, same⟩

theorem sessionOpen_busy (starts : s.starts d 0x60) (held : s.link.sess ≠ 0) :
    exec (.sessionOpen d) s = .next ((s.begun d).cplDesc d 0x60 .busy 0 []) :=
  congrArg Host.Outcome.next ((State.startDesc_of_starts starts rfl _).trans (if_pos (by simp [held])))

/-- While the lockout runs no session opens (R447). -/
theorem sessionOpen_lockedOut {uk : List Byte} {l : Level} (starts : s.starts d 0x60) (closed : s.link.sess = 0)
    (key : s.unitKey = some uk) (level : levelOf (d.byte 8) = some l) (locked : s.lockSecs ≠ 0) :
    exec (.sessionOpen d) s = .next ((s.begun d).cplDesc d 0x60 .notPermitted 4 (bytesLE 2 s.lockSecs)) := by
  have run : exec (.sessionOpen d) s = .next _ := congrArg Host.Outcome.next (State.startDesc_of_starts starts rfl _)
  have waits : (s.lockSecs != 0) = true := by simpa using locked
  simp only [State.begun_sess, closed, State.begun_unitKey, key, level, State.begun_lockSecs, waits, bne_self_eq_false,
    Bool.false_eq_true, if_false, if_true] at run
  exact run

/-! ### Proving (R351, R446) -/

/-- A proof of VIEW in time gives the level, and the lockout is over. -/
theorem sessionProve_proves {uk : List Byte} (starts : s.starts d 0x61) (held : s.link.sess ≠ 0) (own : d.byte 8 = s.link.sess)
    (inTime : s.aon - s.link.openAt ≤ 60 * 32768) (view : s.link.sessReq = .view) (key : s.unitKey = some uk)
    (proof : (List.range 32).map (fun i => BitVec.ofNat 8 (d.byte (32 + i))) =
      hmac (s.levelKey uk .view) (chalBytes s.link.challenge ++ [Level.view.byte, BitVec.ofNat 8 s.link.sess])) :
    exec (.sessionProve d) s =
      .next (((s.begun d).lockClear.modLink fun l => { l with level := l.sessReq }).cplDesc d 0x61 .ok 0 []) := by
  have known : (s.begun d).levelKey uk .view = s.levelKey uk .view := by unfold State.levelKey; simp
  have ok : (s.begun d).proofOk .view s.link.challenge s.link.sess
      ((List.range 32).map fun i => BitVec.ofNat 8 (d.byte (32 + i))) = true := by
    unfold State.proofOk
    rw [State.begun_unitKey, key]
    dsimp only
    rw [known, proof]
    simp
  have run : exec (.sessionProve d) s = .next _ := congrArg Host.Outcome.next (State.startDesc_of_starts starts rfl _)
  refine run.trans (congrArg Host.Outcome.next ?_)
  refine (if_neg (by simp [held, own])).trans ((if_neg ?_).trans (if_neg (by simp [view])))
  simp [ok, view, secCycles]
  omega

/-- Without UNITKEY no proof holds: the session closes and the count of R447 advances. -/
theorem sessionProve_fails (starts : s.starts d 0x61) (held : s.link.sess ≠ 0) (own : d.byte 8 = s.link.sess) (key : s.unitKey = none) :
    exec (.sessionProve d) s = .next ((s.begun d).hostClose.proofFailed.cplDesc d 0x61 .notPermitted 6 []) := by
  have run : exec (.sessionProve d) s = .next _ := congrArg Host.Outcome.next (State.startDesc_of_starts starts rfl _)
  refine run.trans (congrArg Host.Outcome.next ?_)
  exact (if_neg (by simp [held, own])).trans (if_pos (by simp [State.proofOk, key]))

/-! ### Closing and unlocking (R351) -/

theorem sessionClose_closes (starts : s.starts d 0x62) (held : s.link.sess ≠ 0) (own : d.byte 8 = s.link.sess) :
    exec (.sessionClose d) s = .next ((s.begun d).hostClose.cplDesc d 0x62 .ok 0 []) :=
  congrArg Host.Outcome.next ((State.startDesc_of_starts starts rfl _).trans
    ((if_neg (by simp [held])).trans (if_neg (by simp [own]))))

theorem sessionClose_none (starts : s.starts d 0x62) (closed : s.link.sess = 0) :
    exec (.sessionClose d) s = .next ((s.begun d).cplDesc d 0x62 .notPermitted 1 []) :=
  congrArg Host.Outcome.next ((State.startDesc_of_starts starts rfl _).trans (if_pos (by simp [closed])))

/-- A session of level TECH unlocks and relocks. -/
theorem State.hostUnlock_tech (tech : s.link.level.isTech = true) (on : Bool) :
    (s.begun d).hostUnlock d on = ((s.begun d).modLink fun l => { l with unlocked := on }).cplDesc d 0x63 .ok 0 [] :=
  if_neg (by simp [tech])

theorem expertUnlock_unlocks (starts : s.starts d 0x63) (tech : s.link.level.isTech = true) (one : d.byte 8 = 1) :
    exec (.expertUnlock d) s = .next (((s.begun d).modLink fun l => { l with unlocked := true }).cplDesc d 0x63 .ok 0 []) :=
  congrArg Host.Outcome.next ((State.startDesc_of_starts starts (by simp [one]) _).trans (State.hostUnlock_tech tech true))

theorem expertRelock_relocks (starts : s.starts d 0x63) (tech : s.link.level.isTech = true) (zero : d.byte 8 = 0) :
    exec (.expertRelock d) s = .next (((s.begun d).modLink fun l => { l with unlocked := false }).cplDesc d 0x63 .ok 0 []) :=
  congrArg Host.Outcome.next ((State.startDesc_of_starts starts (by simp [zero]) _).trans (State.hostUnlock_tech tech false))

/-- A session of level VIEW may not unlock. -/
theorem expertUnlock_refused (starts : s.starts d 0x63) (view : s.link.level = .view) (held : s.link.sess ≠ 0) (one : d.byte 8 = 1) :
    exec (.expertUnlock d) s = .next ((s.begun d).cplDesc d 0x63 .notPermitted 2 []) := by
  have reason : (s.begun d).hostReason = .level := by simp [State.hostReason, view, held, Level.isTech]
  have refused : (s.begun d).hostUnlock d true = (s.begun d).cplNo d 0x63 (s.begun d).hostReason := if_pos (by simp [view, Level.isTech])
  rw [reason] at refused
  exact congrArg Host.Outcome.next ((State.startDesc_of_starts starts (by simp [one]) _).trans refused)

theorem hostSessionTimeout_early (early : s.aon - s.link.sessAt < secCycles 900) : exec .hostSessionTimeout s = .next s :=
  if_pos (by simp [early])

theorem hostSessionTimeout_closes (held : s.link.sess ≠ 0) (late : secCycles 900 ≤ s.aon - s.link.sessAt) :
    exec .hostSessionTimeout s = .next s.hostClose := if_neg (by simp [held, late])

end Sys2Proof.Machine
end

section
/-! SUPPORT. The control of a feed over PCIe, descriptor by descriptor (R198, R205–R207). -/
namespace Sys2Proof.Machine

variable {s : State} {d : Desc}

/-! ### ENABLE (R198, R205, R207) -/

/-- An enabled feed out of its window waits for it. -/
theorem Feed.qualify_of_enabled {q : Feed} (off : q.state = .disabled) (ready : q.ready = true) (stuck : q.cause ≠ .stuckBank)
    (out : q.inWindow q.mv = false) (seated : Bool) (now : Nat) :
    q.qualify seated now = { q with state := .waitWindow, inWin := false, qualAt := none } := by
  unfold Feed.ready at ready
  simp [Feed.qualify, off, out, stuck, Feed.ready, ready]

theorem State.feedWaits_of_rest {f : FeedId} (standby : (s.feed f).state ≠ .standby) (active : (s.feed f).state ≠ .active) :
    s.feedWaits f = s := if_neg (by simp [standby, active])

/-- An accepted ENABLE waits for its feed, which is qualified at once. -/
theorem execFeedEnable_accepts (starts : s.starts d 0x70) (fda : d.byte 8 = 0) (enable : d.byte 9 = 1) (safe : s.ref.safe = false)
    (rated : s.feedA.rated ≠ 0) (shunt : s.feedA.shunt ≠ 0) (free : s.feedA.cause ≠ .stuckBank) :
    exec (.feedEnable d) s = .next (State.feedWaits (State.feedQualify
      (((s.begun d).modFeed .fda fun q => { q with enabled := true }).wait d 0x70 none (.feedReady .fda)) .fda) .fda) := by
  have run : exec (.feedEnable d) s = .next _ := congrArg Host.Outcome.next (State.startDesc_of_starts starts (by simp [enable]) _)
  refine run.trans (congrArg Host.Outcome.next ?_)
  have f : feedOf (d.byte 8) = .fda := by simp [feedOf, fda]
  dsimp only
  rw [f]
  refine (if_neg (by simp [safe])).trans ((if_neg (by simp [rated, shunt])).trans ((if_neg (by simp [free])).trans ?_))
  simp [free]

theorem feedEnable_waits (starts : s.starts d 0x70) (fda : d.byte 8 = 0) (enable : d.byte 9 = 1) (safe : s.ref.safe = false)
    (rated : s.feedA.rated ≠ 0) (shunt : s.feedA.shunt ≠ 0) (used : s.feedA.use.rated ≠ 0) (measured : s.feedA.use.shunt ≠ 0)
    (off : s.feedA.state = .disabled) (free : s.feedA.cause ≠ .stuckBank) (out : s.feedA.inWindow s.feedA.mv = false)
    (other : s.feedB.state = .active) :
    ∃ u, exec (.feedEnable d) s = .next u ∧
      u.feedA = { s.feedA with enabled := true, state := .waitWindow, inWin := false, qualAt := none } ∧ u.feedB = s.feedB ∧
      (∃ w ∈ u.link.waiting, w.tag = d.tag ∧ w.what = .feedReady .fda) ∧ u.ports = s.ports := by
  have run := execFeedEnable_accepts starts fda enable safe rated shunt free
  obtain ⟨t, ht⟩ : ∃ t, t = ((s.begun d).modFeed .fda fun q => { q with enabled := true }).wait d 0x70 none (.feedReady .fda) := ⟨_, rfl⟩
  have feedA : t.feedA = { s.feedA with enabled := true } := by simp [ht, State.wait]
  have feedB : t.feedB = s.feedB := by simp [ht, State.wait]
  have qualified : t.feedA.qualify t.board.seated t.aon =
      { s.feedA with enabled := true, state := .waitWindow, inWin := false, qualAt := none } := by
    rw [feedA]
    exact Feed.qualify_of_enabled (q := { s.feedA with enabled := true }) off (by simp [Feed.ready, used, measured]) free out _ _
  rw [← ht, State.feedQualify_of_busy (f := .fda) (by simp [FeedId.other, feedB, other, FeedState.busy]),
    State.feedWaits_of_rest (by simp [qualified]) (by simp [qualified])] at run
  refine ⟨_, run, qualified, feedB, ⟨State.waitingOf ((s.begun d).modFeed .fda fun q => { q with enabled := true }) d 0x70 none (.feedReady .fda),
    ?_, rfl, rfl⟩, ?_⟩
  · simp [ht, State.wait]
  · simp [ht, State.wait]

theorem feedEnable_blocked (starts : s.starts d 0x70) (enable : d.byte 9 = 1) (safe : s.ref.safe = true) :
    exec (.feedEnable d) s = .next ((s.begun d).cplDesc d 0x70 .safetyBlock 0 []) :=
  congrArg Host.Outcome.next ((State.startDesc_of_starts starts (by simp [enable]) _).trans (if_pos (by simp [safe])))

/-! ### DISABLE (R206, R207, R209) -/

/-- The ACTIVE feed's DISABLE changes over to the other one, in STANDBY, and waits for the first to be off. -/
theorem feedDisable_changesOver (starts : s.starts d 0x70) (fda : d.byte 8 = 0) (disable : d.byte 9 = 2) (safe : s.ref.safe = false)
    (still : s.board.changeover = none) (active : s.feedA.state = .active) (waits : s.feedB.state = .standby) (free : s.feedStuck = false) :
    exec (.feedDisable d) s = .next (State.wait
      (((s.begun d).modFeed .fda fun q => { (q.open .disabled) with enabled := false, due := none, cause := .hostDisable }).modBoard fun b =>
        { b with changeover := some (.fdb, .hostDisable), returnRun := false }) d 0x70 none (.feedOff .fda)) := by
  have run : exec (.feedDisable d) s = .next _ := congrArg Host.Outcome.next (State.startDesc_of_starts starts (by simp [disable]) _)
  have f : feedOf (d.byte 8) = .fda := by simp [feedOf, fda]
  have loose : (s.begun d).feedStuck = false := by
    unfold State.feedStuck at free ⊢
    rw [State.begun_feedA, State.begun_feedB]
    exact free
  refine run.trans (congrArg Host.Outcome.next ?_)
  dsimp only
  rw [f]
  refine (if_neg (by simp [safe, still])).trans ((if_neg (by simp [still])).trans ?_)
  simp only [State.feed_fda, State.begun_feedA, active]
  exact if_pos (by simp [FeedId.other, waits, loose])

/-- The ACTIVE feed stays while the other one could not take over. -/
theorem feedDisable_blocked (starts : s.starts d 0x70) (fda : d.byte 8 = 0) (disable : d.byte 9 = 2)
    (still : s.board.changeover = none) (active : s.feedA.state = .active) (alone : s.feedB.state ≠ .standby) :
    exec (.feedDisable d) s = .next ((s.begun d).cplDesc d 0x70 .safetyBlock 0 []) := by
  have run : exec (.feedDisable d) s = .next _ := congrArg Host.Outcome.next (State.startDesc_of_starts starts (by simp [disable]) _)
  have f : feedOf (d.byte 8) = .fda := by simp [feedOf, fda]
  refine run.trans (congrArg Host.Outcome.next ?_)
  dsimp only
  rw [f]
  split
  · rfl
  · refine (if_neg (by simp [still])).trans ?_
    simp only [State.feed_fda, State.begun_feedA, active]
    exact if_neg (by simp [FeedId.other, alone])

/-! ### CLEAR_RETRY (R205) -/

/-- Qualification sets no due time. -/
theorem Feed.qualify_due {q : Feed} (never : q.due = none) (seated : Bool) (now : Nat) : (q.qualify seated now).due = none := by
  unfold Feed.qualify
  dsimp only
  repeat' split
  all_goals simp [never]

theorem execFeedClearRetry_runs (starts : s.starts d 0x70) (fda : d.byte 8 = 0) (clear : d.byte 9 = 3) :
    exec (.feedClearRetry d) s = .next ((((s.begun d).modFeed .fda Feed.clearRetry).feedQualify .fda).cplOk d 0x70) := by
  have f : feedOf (d.byte 8) = .fda := by simp [feedOf, fda]
  have run : exec (.feedClearRetry d) s = .next _ := congrArg Host.Outcome.next (State.startDesc_of_starts starts (by simp [clear]) _)
  rw [f] at run
  exact run

theorem feedClearRetry_clears (starts : s.starts d 0x70) (fda : d.byte 8 = 0) (clear : d.byte 9 = 3) (other : s.feedB.state = .active) :
    ∃ u, exec (.feedClearRetry d) s = .next u ∧ u.feedA.retryCnt = 0 ∧ u.feedA.due = none ∧ u.feedB = s.feedB ∧ u.ports = s.ports := by
  have run := execFeedClearRetry_runs starts fda clear
  rw [State.feedQualify_of_busy (by simp [FeedId.other, other, FeedState.busy])] at run
  obtain ⟨t, ht⟩ : ∃ t, t = State.modFeed ((s.begun d).modFeed .fda Feed.clearRetry) .fda fun q =>
      q.qualify ((s.begun d).modFeed .fda Feed.clearRetry).board.seated ((s.begun d).modFeed .fda Feed.clearRetry).aon := ⟨_, rfl⟩
  rw [← ht] at run
  have frame := State.cplOk_frame (P := fun _ => False) t d 0x70
  have cleared : t.feedA = s.feedA.clearRetry.qualify s.board.seated s.aon := by simp [ht]
  obtain ⟨_, _, _, _, kept⟩ := s.feedA.clearRetry.qualify_eq s.board.seated s.aon
  refine ⟨_, run, ?_, ?_, ?_, ?_⟩
  · rw [frame.feeds.1, cleared, kept]
    rfl
  · rw [frame.feeds.1, cleared]
    exact Feed.qualify_due rfl _ _
  · rw [frame.feeds.2, ht]
    simp
  · rw [frame.ports, ht]
    simp

end Sys2Proof.Machine
end

section
/-! SUPPORT. Sessions, unlocking and the control of a feed over PCIe, as the specification states them (R198, R205–R207, R351, R445–R448). -/
namespace Sys2Proof.Machine

/-- A descriptor that has no effect of its own completes from where it has begun. -/
theorem State.begun_completes {s : State} {d : Desc} {op : Nat} (opn : d.opn = op) (code : CplCode) (detail : Nat) (data : List Byte) :
    s.endsWith ((s.begun d).cplDesc d op code detail data) d code detail data ∧
      s.sameBut ((s.begun d).cplDesc d op code detail data) [] :=
  State.OwnEffect.completes (t := s.begun d) {} opn code detail data

/-- Settles O40, one descriptor after the other. -/
theorem sessionsAndFeedControl : Obligations.SessionsAndFeedControl := by
  unfold Obligations.SessionsAndFeedControl
  refine ⟨fun d s uk l starts closed key level free noDma => sessionOpen_opens starts closed key level free noDma,
    fun d s starts held => ?_, fun d s uk l starts closed key level locked => ?_,
    fun d s uk starts held own inTime view key proof => ?_, fun d s starts held own key => ?_, fun d s starts held own => ?_,
    fun d s starts closed => ?_, fun d s starts tech one => ?_, fun d s starts tech zero => ?_, fun d s starts view held one => ?_,
    fun s early => hostSessionTimeout_early early, fun s held late => ?_,
    fun d s starts fda enable safe rated shunt used measured off free out other =>
      feedEnable_waits starts fda enable safe rated shunt used measured off free out other,
    fun d s starts _ enable safe => ?_, fun d s starts fda disable safe still active waits free => ?_,
    fun d s starts fda disable still active alone => ?_,
    fun d s starts fda clear _ other => feedClearRetry_clears starts fda clear other⟩
  · obtain ⟨ends, same⟩ := State.begun_completes (s := s) starts.1 .busy 0 []
    obtain ⟨a, b, link⟩ := (s.begun d).cplDesc_link d 0x60 .busy 0 []
    exact ⟨_, sessionOpen_busy starts held, ends, by rw [link]; exact s.begun_sess d, same⟩
  · obtain ⟨ends, same⟩ := State.begun_completes (s := s) starts.1 .notPermitted 4 (bytesLE 2 s.lockSecs)
    obtain ⟨a, b, link⟩ := (s.begun d).cplDesc_link d 0x60 .notPermitted 4 (bytesLE 2 s.lockSecs)
    exact ⟨_, sessionOpen_lockedOut starts closed key level locked, ends, by rw [link]; exact (s.begun_sess d).trans closed, same⟩
  · obtain ⟨ends, same⟩ := State.OwnEffect.completes (s := s) (d := d)
      (t := (s.begun d).lockClear.modLink fun l => { l with level := l.sessReq }) {} starts.1 .ok 0 []
    obtain ⟨a, b, link⟩ := State.cplDesc_link ((s.begun d).lockClear.modLink fun l => { l with level := l.sessReq }) d 0x61 .ok 0 []
    refine ⟨_, sessionProve_proves starts held own inTime view key proof, ?_, ?_, ends, same⟩
    · rw [link]
      exact (s.begun_sessReq d).trans view
    · rw [State.cplDesc_svc]
      rfl
  · have own' : State.OwnEffect (s.begun d) (s.begun d).hostClose.proofFailed := { State.OwnEffect.hostClose (s.begun d) with }
    obtain ⟨ends, same⟩ := own'.completes starts.1 .notPermitted 6 []
    obtain ⟨a, b, link⟩ := (s.begun d).hostClose.proofFailed.cplDesc_link d 0x61 .notPermitted 6 []
    have closed : (s.begun d).hostClose.proofFailed.link = (s.begun d).hostClose.link := rfl
    refine ⟨_, sessionProve_fails starts held own key, ?_, ?_, ?_, ends, same⟩
    · rw [link, closed, State.hostClose_link]
    · rw [link, closed, State.hostClose_link]
    · simp [State.proofFailed]
  · obtain ⟨ends, same⟩ := (State.OwnEffect.hostClose (s.begun d)).completes starts.1 .ok 0 []
    obtain ⟨a, b, link⟩ := (s.begun d).hostClose.cplDesc_link d 0x62 .ok 0 []
    refine ⟨_, sessionClose_closes starts held own, ?_, ?_, ?_, ends, same⟩
    all_goals rw [link, State.hostClose_link]
  · exact ⟨_, sessionClose_none starts closed, State.begun_completes starts.1 .notPermitted 1 []⟩
  · obtain ⟨ends, same⟩ := State.OwnEffect.completes (s := s) (d := d) (t := (s.begun d).modLink fun l => { l with unlocked := true }) {}
      starts.1 .ok 0 []
    obtain ⟨a, b, link⟩ := State.cplDesc_link ((s.begun d).modLink fun l => { l with unlocked := true }) d 0x63 .ok 0 []
    exact ⟨_, expertUnlock_unlocks starts tech one, by rw [link]; rfl, ends, same⟩
  · obtain ⟨ends, same⟩ := State.OwnEffect.completes (s := s) (d := d) (t := (s.begun d).modLink fun l => { l with unlocked := false }) {}
      starts.1 .ok 0 []
    obtain ⟨a, b, link⟩ := State.cplDesc_link ((s.begun d).modLink fun l => { l with unlocked := false }) d 0x63 .ok 0 []
    exact ⟨_, expertRelock_relocks starts tech zero, by rw [link]; rfl, ends, same⟩
  · obtain ⟨ends, same⟩ := State.begun_completes (s := s) starts.1 .notPermitted 2 []
    obtain ⟨a, b, link⟩ := (s.begun d).cplDesc_link d 0x63 .notPermitted 2 []
    exact ⟨_, expertUnlock_refused starts view held one, by rw [link]; exact s.begun_unlocked d, ends, same⟩
  · refine ⟨_, hostSessionTimeout_closes held late, ?_, ?_, ?_, (State.OwnEffect.hostClose s).sameBut⟩
    all_goals rw [State.hostClose_link]
  · exact ⟨_, feedEnable_blocked starts enable safe, State.begun_completes starts.1 .safetyBlock 0 []⟩
  · refine ⟨_, feedDisable_changesOver starts fda disable safe still active waits free, rfl, rfl, rfl, s.begun_feedB d, rfl,
      ⟨_, List.mem_append_right _ (List.mem_singleton_self _), rfl, rfl⟩, s.begun_ports d⟩
  · exact ⟨_, feedDisable_blocked starts fda disable still active alone, State.begun_completes starts.1 .safetyBlock 0 []⟩

end Sys2Proof.Machine
end

section
/-! SUPPORT. Samples, telemetry and captures: what each command comes to (R243, R245–R251, R347, R348). -/
namespace Sys2Proof.Machine

variable {s t u : State} {p : PortId}

/-! ### The lane that carries a port (R245, R255) -/

/-- A pair of codes is read by the coefficients and the front end of the lane that carries the port. -/
theorem State.readPair_of_lane {k : Coef} {n : Nat} (coef : s.laneCoef p = k) (front : s.frontEnd p = n) (i v : Nat) :
    s.readPair p (i, v) = (k.gi * ((i : Int) - k.zi : Int) * (1 / (16 * (5 / 1000))), k.gv * ((v : Int) - k.zv : Int) * Config.dividerRatio n) := by
  unfold State.readPair ampFactor
  rw [coef, front]

theorem State.laneHolds_of_off (off : (s.tile (tileOf p)).laneOn = false) : s.laneHolds p = false := by
  unfold State.laneHolds
  simp [off]

/-! ### A sample (R246) -/

/-- A share of the allocation, in the units of the sample. -/
theorem hiRun_bound (alloc : Nat) (mw : Int) : mw * 100 ≥ alloc * 250 * 95 ↔ ((alloc * 250 * 95 : Nat) : Int) ≤ mw * 100 := by
  push_cast
  exact Iff.rfl

/-! ### What completions leave of a device ring (R324, R338) -/

/-- What a ring has taken: its entries and the device index. -/
def Ring.taken (r : Ring) : List (Bool × OutEntry) × BitVec 16 := (r.out, r.devIdx)

theorem State.drained_taken (s : State) (n k : Nat) : ((s.drained n).ring k).taken = (s.ring k).taken := by
  unfold State.drained
  split
  · by_cases real : n < 14
    · rw [s.modRing_ring real]
      split
      · next e => rw [e]; rfl
      · rfl
    · unfold State.modRing
      rw [dif_neg real]
  · rfl

theorem State.ringWrite_ring_ne {n k : Nat} (real : n < 14) (other : n ≠ k) (s : State) (e : OutEntry) (now : Bool) :
    (s.ringWrite n e now).ring k = s.ring k := by
  have raise (t : State) (v : Nat) : (t.raise v).ring k = t.ring k := congrArg (fun l => l[k]?.getD ringReset) (t.raise_rings v)
  unfold State.ringWrite
  dsimp only
  rw [apply_ite (fun t : State => t.ring k), raise, ite_self, s.modRing_ring real, if_neg other]

/-- A ring takes an entry behind those it holds, and its device index moves on (R324, R325). -/
theorem State.ringWrite_taken {n : Nat} (real : n < 14) (s : State) (e : OutEntry) (now : Bool) :
    ((s.ringWrite n e now).ring n).taken = ((s.ring n).out ++ [((s.ring n).phase, e)], (s.ring n).devIdx + 1#16) := by
  have raise (t : State) (v : Nat) : (t.raise v).ring n = t.ring n := congrArg (fun l => l[n]?.getD ringReset) (t.raise_rings v)
  unfold State.ringWrite
  dsimp only
  rw [apply_ite (fun t : State => t.ring n), raise, ite_self, s.modRing_ring real, if_pos rfl]
  exact (apply_ite Ring.taken _ _ _).trans (ite_self _)

/-- A completion goes to a CPL ring; every other ring has taken what it had (R322, R338). -/
theorem State.complete_taken {k : Nat} (other : ∀ n, cplRing n ≠ k) (s : State) (c : Cpl) (irq : Bool) :
    ((s.complete c irq).ring k).taken = (s.ring k).taken := by
  unfold State.complete
  rw [State.drained_taken]
  split
  · rfl
  · rw [State.ringWrite_ring_ne (cplRing_lt _) (other _)]

theorem State.finish_taken {k : Nat} (other : ∀ n, cplRing n ≠ k) (s : State) (f : Waiting → Bool) (code : CplCode) (detail : Nat)
    (data : List Byte) : ((s.finish f code detail data).ring k).taken = (s.ring k).taken := by
  unfold State.finish
  refine foldl_keeps (fun s : State => (s.ring k).taken) _ (fun s w => ?_) _ _
  split <;> exact State.complete_taken other _ _ _

theorem State.finishPort_taken {k : Nat} (other : ∀ n, cplRing n ≠ k) (s : State) (p : PortId) (w : WaitFor) (code : CplCode)
    (data : List Byte) : ((s.finishPort p w code data).ring k).taken = (s.ring k).taken := s.finish_taken other _ _ _ _

theorem cplRing_ne {k : Nat} (two : k ≠ 2) (three : k ≠ 3) (n : Nat) : cplRing n ≠ k := by
  unfold cplRing
  split
  · exact Ne.symm three
  · exact Ne.symm two

/-! ### Descriptors that wait (R332) -/

@[simp] theorem State.complete_waiting (s : State) (c : Cpl) (irq : Bool) : (s.complete c irq).link.waiting = s.link.waiting := by
  obtain ⟨r, a, b, e⟩ := s.complete_host c irq
  rw [e]

/-- Those that `f` selects wait no longer. -/
theorem State.finish_waiting (s : State) (f : Waiting → Bool) (code : CplCode) (detail : Nat) (data : List Byte) :
    (s.finish f code detail data).link.waiting = s.link.waiting.filter fun w => ! f w := by
  unfold State.finish
  refine (foldl_keeps (fun s : State => s.link.waiting) _ (fun s w => ?_) _ _).trans rfl
  split <;> exact State.complete_waiting _ _ _

theorem Waiting.next_what (w : Waiting) (p : PortId) : (w.next p).what = w.what := by
  unfold Waiting.next
  split
  · split <;> rfl
  · rfl

/-- Of what waits for one port alone, nothing waits for it once that has happened. -/
theorem State.finishPort_ended {k : WaitFor} (single : ∀ w ∈ s.link.waiting, w.what = k → w.also = []) (code : CplCode) (data : List Byte) :
    ∀ w ∈ (s.finishPort p k code data).link.waiting, w.port = some p → w.what ≠ k := by
  intro w mem own kind
  unfold State.finishPort at mem
  simp only [State.modLink_link, State.finish_waiting, List.mem_map, List.mem_filter] at mem
  obtain ⟨x, ⟨waits, left⟩, rfl⟩ := mem
  have same : x.what = k := by
    split at kind
    · rwa [Waiting.next_what] at kind
    · exact kind
  have alone := single x waits same
  have other : x.port ≠ some p := by simpa [same, alone] using left
  refine other ?_
  have next : x.next p = { x with also := x.also.filter (· != p) } := if_neg (by simpa using other)
  rw [if_pos (by simp [same]), next] at own
  exact own

/-! ### A telemetry record goes out (R347) -/

theorem State.tlmPut_room {k : Nat} {r : TlmRec} (on : (s.ring (5 + k)).enable = true) (room : (s.ring (5 + k)).room = true)
    (empty : s.link.tlmBuf = []) : s.tlmPut k r = s.ringWrite (5 + k) (.tlm r) false := by
  unfold State.tlmPut
  simp [on, room, empty]

theorem State.ringWrite_waiting (s : State) (n : Nat) (e : OutEntry) (now : Bool) : (s.ringWrite n e now).link.waiting = s.link.waiting := by
  obtain ⟨r, a, b, h⟩ := s.ringWrite_host n e now
  rw [h]

theorem State.tlmPut_waiting (s : State) (k : Nat) (r : TlmRec) : (s.tlmPut k r).link.waiting = s.link.waiting := by
  have unpoison (t : State) (m lo n : Nat) : (t.unpoison m lo n).link = t.link := by
    unfold State.unpoison
    split <;> rfl
  unfold State.tlmPut
  dsimp only
  split
  · rfl
  · split
    · exact State.ringWrite_waiting _ _ _ _
    · split
      · rw [unpoison]
        rfl
      · rfl

/-- What becomes of a record says nothing of its port but whether the next one carries GAP. -/
theorem State.tlmPut_keeps {α : Type} {part : Port → α}
    (gap : ∀ q b, part { q with smp := { q.smp with tlmGap := b } } = part q := by exact fun _ _ => rfl) (s : State) (k : Nat) (r : TlmRec) :
    State.Keeps part s (s.tlmPut k r) := by
  have lost : State.Keeps part s (s.tlmLost r.port) := State.Keeps.modPort (t := s.modLink _) (.refl part s) fun q => gap q true
  unfold State.tlmPut
  exact .either lost (.either ((State.Keeps.refl part s).frame (State.ringWrite_frame _ _ _ _))
    (.either ((State.Keeps.refl part s).frame ((State.modLink_frame _ _).trans (State.unpoison_frame _ _ _ _))) lost))

/-- What a port's measurement keeps once a record is formed: a rate or ring that waited is in force (R248). -/
def Smp.recorded (m : Smp) : Smp :=
  { m with tlmGap := false, laneMoved := false, tlmRate := (m.tlmNext.map Prod.fst).getD m.tlmRate,
           tlmRing := (m.tlmNext.map Prod.snd).getD m.tlmRing, tlmNext := none }

/-- A record of the port is formed (R248). -/
def State.recorded (s : State) (p : PortId) : State := s.modPort p fun q => { q with smp := q.smp.recorded }

/-- A record's words (R248). -/
def State.tlmRecord (s : State) (p : PortId) (lanes : BitVec 16) (peak : Int) (time : Nat) (l : List (Nat × Int)) : TlmRec :=
  ⟨p, (s.port p).smp.tlmGap, s.link.decim, (s.port p).smp.tlmRate, s.laneFlags p lanes, satInt 16 (peak / 5), time,
    l.map fun e => (min 4095 (e.1 / 20), satInt 12 (e.2 / 5))⟩

/-- The record goes out, and a TLM_CONFIG that waited for it completes (R248, R332, R347). -/
theorem execTelemetryRecord_forms {l : List (Nat × Int)} (full : l.length = 16) (rate : (s.port p).smp.tlmRate ≠ 0)
    (live : s.portFenced p = false) (lanes : BitVec 16) (peak : Int) (time : Nat) : exec (.telemetryRecord p lanes peak time l) s =
    .next (((s.recorded p).tlmPut (s.port p).smp.tlmRing (s.tlmRecord p lanes peak time l)).finishPort p .tlm .ok []) := if_neg (by simp [full, rate, live])

/-- A record whose ring has room goes out at once (R347). -/
theorem telemetryRecord_written {l : List (Nat × Int)} (full : l.length = 16) (rate : (s.port p).smp.tlmRate ≠ 0)
    (live : s.portFenced p = false) (ring : (s.port p).smp.tlmRing = 0) (on : (s.ring 5).enable = true) (room : (s.ring 5).room = true)
    (empty : s.link.tlmBuf = []) (lanes : BitVec 16) (peak : Int) (time : Nat) :
    ∃ u, exec (.telemetryRecord p lanes peak time l) s = .next u ∧ (u.ring 5).taken =
        ((s.ring 5).out ++ [((s.ring 5).phase, .tlm (s.tlmRecord p lanes peak time l))], (s.ring 5).devIdx + 1#16) ∧
      u.port p = { s.port p with smp := (s.port p).smp.recorded } := by
  have run := execTelemetryRecord_forms full rate live lanes peak time
  rw [ring, State.tlmPut_room (s := s.recorded p) (k := 0) on room empty] at run
  refine ⟨_, run, ?_, ?_⟩
  · rw [State.finishPort_taken (cplRing_ne (by decide) (by decide)), State.ringWrite_taken (by decide)]
    rfl
  · rw [(State.finishPort_frame (P := fun _ => False) _ p .tlm .ok []).others p id,
      (State.ringWrite_frame (P := fun _ => False) _ _ _ _).others p id, State.recorded, State.modPort_port_self]

/-- What a record leaves of its port. -/
theorem telemetryRecord_port {α : Type} {part : Port → α}
    (gap : ∀ q b, part { q with smp := { q.smp with tlmGap := b } } = part q := by exact fun _ _ => rfl) (s : State) (p : PortId) (k : Nat)
    (r : TlmRec) : part ((((s.recorded p).tlmPut k r).finishPort p .tlm .ok []).port p) =
      part { s.port p with smp := (s.port p).smp.recorded } := by
  rw [(State.finishPort_frame (P := fun _ => False) _ p .tlm .ok []).others p id, State.tlmPut_keeps gap _ _ _ p, State.recorded, State.modPort_port_self]

/-! ### Captures (R249–R252, R348) -/

/-- A capture of any length has records. -/
theorem captureRecs_ne_nil {c : Capture} {l : List Int} {n : Nat} (long : l.length = 2 ^ (n + 10)) (trig : Nat) (gaps : List Nat) (time : Nat) :
    captureRecs c l trig gaps time ≠ [] := by
  have some : 0 < (l.length + 23) / 24 := by
    have := Nat.one_le_two_pow (n := n + 10)
    omega
  unfold captureRecs
  simp only [ne_eq, List.map_eq_nil_iff, List.range_eq_nil]
  omega

/-- Records stay while the CAP ring has no room. -/
theorem State.capDrain_full {c : Capture} {k : TileId} (cap : (s.tile k).cap = some c) (full : (s.ring 13).room = false) (left : c.left ≠ []) :
    s.capDrain k = s := by
  have still (l : List CapRec) : l.foldl (fun s r =>
      if (s.ring 13).room then
        (s.ringWrite 13 (.cap r) false).modTile k fun q =>
          { q with cap := q.cap.map fun c => { c with left := c.left.drop 1, written := c.written + 1 } }
      else s) s = s := by
    induction l with
    | nil => rfl
    | cons r l ih =>
      rw [List.foldl_cons, if_neg (by simp [full])]
      exact ih
  unfold State.capDrain
  rw [cap]
  dsimp only
  rw [still, cap]
  simp [left]

/-- A reading beyond the threshold of its trigger sets an armed capture running (R249, R250). -/
theorem captureTrigger_runs {k : TileId} {c : Capture} {mv : Nat} {ma : Int} (cap : (s.tile k).cap = some c) (armed : c.phase = .armed)
    (beyond : c.trigger = .vbAbove ∧ c.thresh * 20 < mv ∨ c.trigger = .vbBelow ∧ mv < c.thresh * 20 ∨
      c.trigger = .ibAbove ∧ (c.thresh * 5 : Nat) < ma) :
    exec (.captureTrigger k mv ma) s = .next (s.modTile k fun q => { q with cap := some { c with phase := .running } }) := by
  have met : c.met mv ma = true := by
    unfold Capture.met
    obtain ⟨kind, past⟩ | ⟨kind, past⟩ | ⟨kind, past⟩ := beyond
    all_goals simpa [kind] using past
  refine congrArg Host.Outcome.next (State.modTile_congr s k ?_)
  simp [cap, armed, met]

/-- The readings of a running capture are cut into records, which stay while the CAP ring is disabled (R250, R348). -/
theorem captureReadingsDone_writes {k : TileId} {c : Capture} {l : List Int} {gaps : List Nat} (cap : (s.tile k).cap = some c)
    (running : c.phase = .running) (long : l.length = 2 ^ (c.len + 10)) (fits : c.gapsFit gaps = true) (shut : (s.ring 13).enable = false)
    (held time : Nat) : exec (.captureReadingsDone k l held gaps time) s = .next (s.modTile k fun q =>
      { q with cap := some { c with phase := .writing, left := captureRecs c l (c.trigAt held) gaps time } }) := by
  have run : exec (.captureReadingsDone k l held gaps time) s = match (s.tile k).cap with | some c => _ | none => _ := rfl
  rw [cap] at run
  refine (run.trans (if_pos (by simp [running, long, fits]))).trans (congrArg Host.Outcome.next ?_)
  exact State.capDrain_full (by rw [State.modTile_tile_self]) (by simp [Ring.room, shut]) (captureRecs_ne_nil long _ _ _)

/-! ### Converter faults (R243) -/

theorem State.driftEvt_frame {P : PortId → Prop} (s : State) (p : PortId) (c : DriftCause) (o : DriftOutcome) (dv di : Int) :
    State.Frame P s (s.driftEvt p c o dv di) := .ite (.refl P s) (s.postEvt_frame _ _)

/-- A converter whose faults of every port are told, before the referee records them. -/
def State.adcTold (s : State) (k : TileId) (b : Bool) : State :=
  (portsOf k).foldl (fun s p => if (s.port p).smp.limited then s else s.driftEvt p .adcFault .none (s.port p).smp.dv (s.port p).smp.di)
    (s.modTile k fun r => if b then { r with adcFaultB := true } else { r with adcFaultA := true })

theorem State.adcTold_frame {P : PortId → Prop} (s : State) (k : TileId) (b : Bool) :
    State.Frame P (s.modTile k fun r => if b then { r with adcFaultB := true } else { r with adcFaultA := true }) (s.adcTold k b) :=
  State.Frame.foldl _ (fun s _ => .ite (.refl P s) (s.driftEvt_frame _ _ _ _ _)) _ _

/-- A fault of the converters is told, recorded, and ends a capture (R243, R251). -/
theorem execAdcFault_declared {k : TileId} {b : Bool} {l : List (Nat × Bool × Nat)} (a : (s.tile k).adcFaultA = false)
    (b' : (s.tile k).adcFaultB = false) (all : l.length = 16) (off : ∀ f ∈ l, adcOff k b f = true) :
    ∃ u, exec (.adcFault k b l) s = .next u ∧ State.Frame (fun _ => False) ((s.adcTold k b).refRecord 0x10 (some k) none) u := by
  have fails : l.all (adcOff k b) = true := List.all_eq_true.mpr off
  have run : exec (.adcFault k b l) s = _ := if_neg (by simp [a, b', all, fails])
  change _ = (match (s.tile k).cap with
    | some c => if _ then _ else ok ((s.adcTold k b).refRecord 0x10 (some k) none)
    | none => ok ((s.adcTold k b).refRecord 0x10 (some k) none)) at run
  rw [run]
  split
  · split
    · exact ⟨_, rfl, (State.modTile_frame _ _ _ ⟨_, _, _, rfl⟩).trans (State.finish_frame _ _ _ _ _)⟩
    · exact ⟨_, rfl, .refl _ _⟩
  · exact ⟨_, rfl, .refl _ _⟩

theorem adcFault_declared {k : TileId} {b : Bool} {l : List (Nat × Bool × Nat)} (a : (s.tile k).adcFaultA = false)
    (b' : (s.tile k).adcFaultB = false) (all : l.length = 16) (off : ∀ f ∈ l, adcOff k b f = true) :
    ∃ u, exec (.adcFault k b l) s = .next u ∧ (u.tile k).adcFaultA = (!b) ∧ (u.tile k).adcFaultB = b ∧
      u.ref.fault.getLsbD 0x10 = true ∧ u.ports = s.ports := by
  obtain ⟨u, run, frame⟩ := execAdcFault_declared a b' all off
  have told := s.adcTold_frame (P := fun _ => False) k b
  obtain ⟨_, _, _, tile⟩ := frame.tiles k
  obtain ⟨_, _, _, tile'⟩ := told.tiles k
  obtain ⟨_, _, ref⟩ := frame.referee
  rw [State.tile_of_tiles (State.refRecord_tiles ..), tile', State.modTile_tile_self] at tile
  refine ⟨u, run, ?_, ?_, ?_, frame.ports.trans ((State.refRecord_ports ..).trans told.ports)⟩
  · rw [tile]
    cases b <;> simp [a]
  · rw [tile]
    cases b <;> simp [b']
  · rw [ref, State.refRecord_fault, getLsbD_setBit]
    rfl

/-! ### Snapshots (R252–R254) -/

/-- What a snapshot takes of a port whose tile was live (R253). -/
def Port.snapTaken (q : Port) (v : Nat × Int) (lane : Bool) : Port :=
  { q with smp := { q.smp with snapMv := min v.1 0xFFFF, snapMa := satInt 15 v.2, snapLane := lane } }

/-- The ports of the tiles that are not missing take their values. -/
def State.snapPorts (s : State) (miss : BitVec 8) (vals : List (Nat × Int)) : State :=
  allPorts.foldl (fun s p => if miss.getLsbD (tileOf p).val then s
    else s.modPort p fun q => q.snapTaken ((vals[p.val]?).getD (0, 0)) (s.meas.latchLanes.getLsbD p.val)) s

theorem State.snapPort_frame (miss : BitVec 8) (vals : List (Nat × Int)) (s : State) (p : PortId) : State.Frame (· = p) s
    (if miss.getLsbD (tileOf p).val then s
    else s.modPort p fun q => q.snapTaken ((vals[p.val]?).getD (0, 0)) (s.meas.latchLanes.getLsbD p.val)) :=
  .ite (.refl _ s) (s.modPort_frame p _ id)

theorem State.snapPorts_port (s : State) (miss : BitVec 8) (vals : List (Nat × Int)) (p : PortId) :
    (s.snapPorts miss vals).port p = if miss.getLsbD (tileOf p).val then s.port p
      else (s.port p).snapTaken ((vals[p.val]?).getD (0, 0)) (s.meas.latchLanes.getLsbD p.val) := by
  obtain ⟨v, k, e⟩ := State.Frame.foldl_at (State.snapPort_frame miss vals) (List.nodup_finRange 192) (List.mem_finRange p) s
  refine e.trans ?_
  have own : v.port p = s.port p := k.others p (by simp)
  obtain ⟨-, -, -, meas⟩ := k.board
  split
  · exact own
  · rw [State.modPort_port_self, own, meas]

theorem State.snapPorts_meas (s : State) (miss : BitVec 8) (vals : List (Nat × Int)) : (s.snapPorts miss vals).meas = s.meas :=
  (State.Frame.foldl_mem (State.snapPort_frame miss vals) allPorts s).board.2.2.2

/-- The snapshot is written: the ports have their values, and it has its number and time (R252–R254). -/
def State.snapWritten (s : State) (vals : List (Nat × Int)) : State :=
  let u := s.snapPorts (s.meas.latchMissing ||| s.fencedTiles) vals
  { u with meas := { u.meas with snapBusy := false, snapSeq := s.meas.snapSeq + 1#16, snapMissing := s.meas.latchMissing ||| s.fencedTiles,
                                 snapTime := u.meas.latchTime } }

theorem State.snapWritten_meas (s : State) (vals : List (Nat × Int)) : (s.snapWritten vals).meas =
    { s.meas with snapBusy := false, snapSeq := s.meas.snapSeq + 1#16, snapMissing := s.meas.latchMissing ||| s.fencedTiles,
                  snapTime := s.meas.latchTime } := by
  unfold State.snapWritten
  dsimp only
  rw [State.snapPorts_meas]

theorem execSnapshotWritten_writes (busy : s.meas.snapBusy = true) (vals : List (Nat × Int)) :
    ∃ u, exec (.snapshotWritten vals) s = .next u ∧ State.Frame (fun _ => False) (s.snapWritten vals) u :=
  ⟨_, if_neg (by simp [busy]), State.finish_frame (s.snapWritten vals) _ _ _ _⟩

theorem satInt_15 {i : Int} (lo : -16384 ≤ i) (hi : i ≤ 16383) : satInt 15 i = i := by
  have bounds : satInt 15 i = max (-16384) (min i 16383) := by norm_num [satInt]
  omega

end Sys2Proof.Machine
end

section
/-! SUPPORT. Samples, telemetry, captures and snapshots, as the specification states them (R243, R245–R254). -/
namespace Sys2Proof.Machine

/-- Settles O28, command by command. -/
theorem samplesCapturesSnapshots : Obligations.SamplesCapturesSnapshots := by
  unfold Obligations.SamplesCapturesSnapshots
  refine ⟨fun p codes vc s codes_ne live => ?_, fun p codes vc s codes_ne live => ?_, fun p codes vc s codes_ne fenced => ?_, fun p vc s => rfl,
    fun p k i v s holds coef => ?_, fun p k i v s off coef => ?_, fun p lanes pk time l s full rate live ring on room empty _ _ _ => ?_,
    fun p lanes pk time r g l s full rate live next single => ?_, fun s low => if_pos low, fun s high => if_neg (Nat.not_lt.mpr high),
    fun t c mv ma s cap armed beyond => captureTrigger_runs cap armed beyond,
    fun t c r held time g s cap running long fits shut => ⟨_, captureReadingsDone_writes cap running long fits shut held time, ?_, rfl, rfl⟩,
    fun t b l s a b' all off => adcFault_declared a b' all off, fun t b l s short => if_pos (by simp [short]), fun vals s busy => ?_⟩
  · refine ⟨_, (if_neg (by simpa using codes_ne)).trans (if_neg (by simp [live])), ?_⟩
    simp only [State.modPath_eq, State.modPort_modPort, State.modPort_port_self, State.modPort_link, State.modPort_cores, true_and, and_true]
    exact fun q other => State.modPort_port_ne _ _ other.symm
  · refine ⟨_, (if_neg (by simpa using codes_ne)).trans (if_neg (by simp [live])), ?_⟩
    simp only [State.modPath_eq, State.modPort_modPort, State.modPort_port_self, hiRun_bound, decide_eq_true_eq, true_and]
  · exact (if_neg (by simpa using codes_ne)).trans (if_pos fenced)
  · exact State.readPair_of_lane (by simp [State.laneCoef, holds, coef]) (by simp [State.frontEnd, holds]) i v
  · have main := State.laneHolds_of_off off
    exact State.readPair_of_lane (by simp [State.laneCoef, main, coef]) (by simp [State.frontEnd, main]) i v
  · obtain ⟨u, run, taken, port⟩ := telemetryRecord_written full rate live ring on room empty lanes pk time
    exact ⟨u, run, congrArg Prod.fst taken, congrArg Prod.snd taken, by rw [port]; rfl, by rw [port]⟩
  · refine ⟨_, execTelemetryRecord_forms full rate live lanes pk time,
      (telemetryRecord_port (part := fun q => q.smp.tlmRate) (fun _ _ => rfl) ..).trans ?_,
      (telemetryRecord_port (part := fun q => q.smp.tlmRing) (fun _ _ => rfl) ..).trans ?_,
      telemetryRecord_port (part := fun q => q.smp.tlmNext) (fun _ _ => rfl) ..,
      State.finishPort_ended (by rw [State.tlmPut_waiting]; exact single) _ _⟩
    all_goals simp [Smp.recorded, next]
  · rw [State.modTile_tile_self]
  · obtain ⟨u, run, frame⟩ := execSnapshotWritten_writes busy vals
    obtain ⟨-, -, -, meas⟩ := frame.board
    have port (p : PortId) := (frame.others p id).trans (s.snapPorts_port (s.meas.latchMissing ||| s.fencedTiles) vals p)
    refine ⟨u, run, ?_, ?_, ?_, ?_, fun p mv ma taken given mvFits lo hi => ?_, fun p missing => ?_⟩
    · rw [meas, State.snapWritten_meas]
    · rw [meas, State.snapWritten_meas]
    · rw [meas, State.snapWritten_meas]
    · rw [meas, State.snapWritten_meas]
    · have live : ¬ (s.meas.latchMissing ||| s.fencedTiles).getLsbD (tileOf p).val = true := Bool.eq_false_iff.mp taken
      rw [port, if_neg live, given]
      exact ⟨by simp [Port.snapTaken]; omega, by simp [Port.snapTaken, satInt_15 lo hi], rfl⟩
    · rw [port]
      exact if_pos missing

end Sys2Proof.Machine
end

section
/-! SUPPORT. What only the host is told leaves everything else of the machine, and what a queued event leaves of the tiles (R302, R338, R341). -/
namespace Sys2Proof.Machine

variable {s t u : State} {p : PortId}

namespace State.ToHost

theorem tiles (h : ToHost s u) : u.tiles = s.tiles := by obtain ⟨_, _, rfl⟩ := h; rfl
theorem cfg (h : ToHost s u) : u.cfg = s.cfg := by obtain ⟨_, _, rfl⟩ := h; rfl
theorem hud (h : ToHost s u) : u.hud = s.hud := by obtain ⟨_, _, rfl⟩ := h; rfl
theorem meas (h : ToHost s u) : u.meas = s.meas := by obtain ⟨_, _, rfl⟩ := h; rfl
theorem rtc (h : ToHost s u) : u.rtc = s.rtc := by obtain ⟨_, _, rfl⟩ := h; rfl
theorem fuse (h : ToHost s u) : u.fuse = s.fuse := by obtain ⟨_, _, rfl⟩ := h; rfl
theorem cores (h : ToHost s u) : u.cores = s.cores := by obtain ⟨_, _, rfl⟩ := h; rfl
theorem port (h : ToHost s u) (q : PortId) : u.port q = s.port q := State.port_of_ports h.ports q
theorem tile (h : ToHost s u) (k : TileId) : u.tile k = s.tile k := State.tile_of_tiles h.tiles k

theorem modRing (s : State) (n : Nat) (f : Ring → Ring) : ToHost s (s.modRing n f) := by
  obtain ⟨r, h⟩ := s.modRing_host n f
  exact ⟨r, _, h⟩

theorem raise (s : State) (v : Nat) : ToHost s (s.raise v) := .ite (refl s) (.ite (modLink s _) (modLink s _))

theorem ringWrite (s : State) (n : Nat) (e : OutEntry) (now : Bool) : ToHost s (s.ringWrite n e now) :=
  .ite ((modRing s n _).trans (raise _ _)) (modRing s n _)

theorem writeEvt (s : State) (e : Evt) : ToHost s (s.writeEvt e) := (modLink s _).trans (ringWrite _ _ _ _)

theorem holdEvt (s : State) (e : Evt) : ToHost s (s.holdEvt e) := .ite (modLink s _) (modLink s _)

/-- An event shows in its ring, the backlog and the summary alone (R341–R344). -/
theorem postEvt (s : State) (o : Option PortId) (b : EvtBody) : ToHost s (s.postEvt o b) :=
  .ite (refl s) (.ite (.ite (writeEvt s _) (holdEvt s _)) (.ite (modLink s _) (.ite (writeEvt s _) (holdEvt s _))))

theorem drainBacklog (s : State) (n : Nat) : ToHost s (s.drainBacklog n) := by
  induction n generalizing s with
  | zero => exact refl s
  | succ n ih =>
    unfold State.drainBacklog
    split
    · exact .ite (((modLink s _).trans (writeEvt _ _)).trans (ih _)) (refl s)
    · exact .ite ((modLink s _).trans (writeEvt _ _)) (refl s)

theorem driftEvt (s : State) (p : PortId) (c : DriftCause) (o : DriftOutcome) (dv di : Int) : ToHost s (s.driftEvt p c o dv di) :=
  .ite (refl s) (postEvt s _ _)

theorem cplDesc (s : State) (d : Desc) (op : Nat) (code : CplCode) (detail : Nat) (data : List Byte) :
    ToHost s (s.cplDesc d op code detail data) := complete s _ _

theorem cplOk (s : State) (d : Desc) (op : Nat) : ToHost s (s.cplOk d op) := complete s _ _

end State.ToHost

/-! ### Queued events (R302, R303) -/

@[simp] theorem State.unpoison_tiles (s : State) (mem lo n : Nat) : (s.unpoison mem lo n).tiles = s.tiles := by
  unfold State.unpoison
  split <;> rfl

@[simp] theorem State.arrive_tiles (s : State) : s.arrive.tiles = s.tiles := by
  unfold State.arrive State.toRun
  split <;> rfl

@[simp] theorem State.queueFault_tiles (s : State) (p : PortId) (n : Nat) (d : Word) : (s.queueFault p n d).tiles = s.tiles := by
  have enqueue (e : QEv) : (s.enqueue p e).tiles = s.tiles :=
    (foldl_keeps State.tiles _ (fun s _ => s.unpoison_tiles _ _ _) _ _).trans (State.unpoison_tiles _ _ _ _)
  unfold State.queueFault
  refine (State.arrive_tiles _).trans ?_
  split
  · rfl
  · split
    · exact enqueue _
    · rfl

@[simp] theorem State.queueEv_tiles (s : State) (p : PortId) (e : QEv) : (s.queueEv p e).tiles = s.tiles :=
  State.queueEv_keeps State.tiles (fun _ _ _ => rfl) (fun _ _ => rfl) (fun _ _ => rfl) (fun _ _ => rfl) s p e

end Sys2Proof.Machine
end

section
/-! SUPPORT. A substitute lane that carries no port stays so, and a limited port limited, whatever a new offer leads to (R257, R263, R264). -/
namespace Sys2Proof.Machine

variable {s t u : State} {p : PortId} {k : TileId}

/-- From `s` to `u` the tile's substitute lane has taken over no port, and no port has had its limit lifted. -/
structure State.LaneKept (k : TileId) (s u : State) : Prop where
  lane : (s.tile k).laneOn = false → (u.tile k).laneOn = false
  limited : ∀ q, (s.port q).smp.limited = true → (u.port q).smp.limited = true

namespace State.LaneKept

theorem refl (k : TileId) (s : State) : LaneKept k s s := ⟨id, fun _ => id⟩

theorem trans (h : LaneKept k s t) (j : LaneKept k t u) : LaneKept k s u := ⟨j.lane ∘ h.lane, fun q => j.limited q ∘ h.limited q⟩

theorem either {c : Prop} [Decidable c] (h : LaneKept k s t) (j : LaneKept k s u) : LaneKept k s (if c then t else u) := by
  split <;> assumption

/-- What leaves the tiles and, of the ports, the limit as they are. -/
theorem same (h : LaneKept k s t) (tiles : u.tiles = t.tiles) (keeps : State.Keeps (fun q => q.smp.limited) t u) : LaneKept k s u :=
  h.trans ⟨fun off => by rw [State.tile_of_tiles tiles]; exact off, fun q on => (keeps q).trans on⟩

theorem host (h : LaneKept k s t) (told : State.ToHost t u) : LaneKept k s u := h.same told.tiles fun q => by rw [told.port q]

/-- An update of a port that lifts no limit, which is found by unfolding it. -/
theorem modPort {f : Port → Port} (h : LaneKept k s t) (hf : ∀ q, (f q).smp.limited = q.smp.limited := by exact fun _ => rfl) :
    LaneKept k s (t.modPort p f) := h.same rfl ((State.Keeps.refl _ t).modPort hf)

theorem queueEv {e : QEv} (h : LaneKept k s t) : LaneKept k s (t.queueEv p e) :=
  h.same (t.queueEv_tiles p e) ((State.Keeps.refl _ t).queueEv fun _ _ => rfl)

theorem queueFault {n : Nat} {d : Word} (h : LaneKept k s t) : LaneKept k s (t.queueFault p n d) :=
  h.same (t.queueFault_tiles p n d) ((State.Keeps.refl _ t).queueFault fun _ _ => rfl)

theorem sigSend {g : Signal} (h : LaneKept k s t) : LaneKept k s (t.sigSend p g) := by
  unfold State.sigSend
  exact queueEv h.modPort

theorem abandonTable (h : LaneKept k s t) : LaneKept k s (t.abandonTable p) := either (sigSend h.modPort) h.modPort

/-! ### A table starts (R167, R168, R257) -/

theorem modTile {j : TileId} {f : Tile → Tile} (h : LaneKept k s t) (hf : ∀ q, q.laneOn = false → (f q).laneOn = false) :
    LaneKept k s (t.modTile j f) :=
  h.trans ⟨fun off => by
    rw [State.modTile_tile]
    split
    · next e => rw [e]; exact hf _ off
    · exact off, fun _ => id⟩

theorem calAbort (h : LaneKept k s t) : LaneKept k s (t.calAbort p) := either (modPort (h.modTile fun _ _ => rfl)) h

theorem startTable {n : Nat} {r : Post} (h : LaneKept k s t) : LaneKept k s (t.startTable p n r) := by
  have fired : LaneKept k s ((t.calAbort p).capFire p .tableStart) := h.calAbort.modTile fun _ off => off
  unfold State.startTable
  exact modPort fired.modPort

theorem post {r : Post} (h : LaneKept k s t) : LaneKept k s (t.post p r) :=
  either h (either h.sigSend (either h.abandonTable.startTable (either h.sigSend (either h.modPort h.startTable))))

/-! ### A Hard_Reset or ERROR_RECOVERY (R117, R131) -/

theorem endContract {c : LostCause} (h : LaneKept k s t) : LaneKept k s (t.endContract p c) :=
  either h.modPort (either (modPort h.modPort) (host h.modPort (.postEvt _ _ _)))

theorem rallyEnd {b : Bool} (h : LaneKept k s t) : LaneKept k s (t.rallyEnd p b) :=
  either (host h.modPort (.postEvt _ _ _)) h.modPort

theorem reportHold (h : LaneKept k s t) : LaneKept k s (t.reportHold p) := by
  unfold State.reportHold
  dsimp only
  split
  · exact either h (queueEv h.modPort)
  · exact h

theorem pdStop (h : LaneKept k s t) : LaneKept k s (t.pdStop p) := either (queueEv h.reportHold.modPort) h.reportHold.modPort

theorem errorRecovery {c : LostCause} (h : LaneKept k s t) : LaneKept k s (t.errorRecovery p c) := by
  have ended : LaneKept k s ((((t.endContract p c).rallyEnd p true).pdStop p).abortDescs p fun j => j == .cable) :=
    host (pdStop (rallyEnd (endContract h))) (.finish _ _ _ _ _)
  unfold State.errorRecovery
  exact post (modPort ended.modPort)

theorem hardResetDone {c : LostCause} (h : LaneKept k s t) : LaneKept k s (t.hardResetDone p c) :=
  post (modPort (rallyEnd (endContract h.reportHold)))

theorem hardResetSent {c : LostCause} {keep : Bool} (h : LaneKept k s t) : LaneKept k s (t.hardResetSent p c keep) := by
  unfold State.hardResetSent
  exact modPort (hardResetDone (modPort (host h (.finish _ _ _ _ _))))

theorem hardReset {c : LostCause} {keep : Bool} (h : LaneKept k s t) : LaneKept k s (t.hardReset p c keep) := by
  unfold State.hardReset
  exact either h.errorRecovery h.hardResetSent

/-! ### A new offer (R97, R102) -/

theorem send {m : TxMsg} (h : LaneKept k s t) : LaneKept k s (t.send p m) := either h (either h.modPort h.modPort)

theorem sendOffer {epr reply : Bool} (h : LaneKept k s t) : LaneKept k s (t.sendOffer p epr reply) :=
  either h.modPort (either h.hardReset (either h.modPort (either h.modPort (send (modPort h.modPort)))))

theorem offerChange (h : LaneKept k s t) : LaneKept k s (t.offerChange p) := either h (either (sendOffer h.modPort) h.modPort)

/-! ### The limit itself (R263, R264) -/

theorem eprLeave (h : LaneKept k s t) : LaneKept k s (t.eprLeave p) := by
  unfold State.eprLeave
  exact h.modPort

theorem limitTold {c : DriftCause} {dv di : Int} {b : Bool} (h : LaneKept k s t) : LaneKept k s
    (((if b then t.driftEvt p c .limited dv di else (t.driftEvt p c .limited dv di).queueFault p 7 1#32).eprLeave p).offerChange p) := by
  have told : LaneKept k s (t.driftEvt p c .limited dv di) := h.host (.driftEvt _ _ _ _ _ _)
  have queued := either (c := b = true) told (told.queueFault (p := p) (n := 7) (d := 1#32))
  exact offerChange (eprLeave queued)

end State.LaneKept

/-- A port that is limited (R264). -/
def State.limitSet (s : State) (p : PortId) : State := s.modPort p fun q => { q with smp := { q.smp with limited := true } }

/-- A port limited to vSafe5V is so from then on, and its tile's lane takes over no port. -/
theorem State.laneLimit_limits (k : TileId) (s : State) (p : PortId) (c : DriftCause) (dv di : Int) :
    ((s.laneLimit p c dv di).port p).smp.limited = true ∧ State.LaneKept k s (s.laneLimit p c dv di) := by
  have set : State.LaneKept k s (s.limitSet p) := ⟨id, fun q on => by
    unfold State.limitSet
    rw [State.modPort_port]
    split
    · rfl
    · exact on⟩
  have own : ((s.limitSet p).port p).smp.limited = true := congrArg (fun q : Port => q.smp.limited) (State.modPort_port_self s p _)
  unfold State.laneLimit
  split
  · next already => exact ⟨already, .refl k s⟩
  · have told : State.LaneKept k (s.limitSet p) _ := (State.LaneKept.refl k (s.limitSet p)).limitTold (p := p) (c := c) (dv := dv) (di := di)
      (b := s.portFenced p)
    exact ⟨told.limited p own, set.trans told⟩

theorem State.offerChange_frame (s : State) (p : PortId) : State.Frame (· = p) s (s.offerChange p) :=
  .ite (.refl _ s) ((s.modPol_frame p _).trans (.ite (State.sendOffer_frame _ p _ _) (.refl _ _)))

theorem State.laneLimit_frame (s : State) (p : PortId) (c : DriftCause) (dv di : Int) : State.Frame (· = p) s (s.laneLimit p c dv di) := by
  have told : State.Frame (· = p) s ((s.limitSet p).driftEvt p c .limited dv di) := (s.modPort_frame p _ id).trans (State.driftEvt_frame _ p c _ _ _)
  have left : State.Frame (· = p) s (State.eprLeave (if s.portFenced p then (s.limitSet p).driftEvt p c .limited dv di
      else ((s.limitSet p).driftEvt p c .limited dv di).queueFault p 7 1#32) p) :=
    (State.Frame.ite told (told.trans (State.queueFault_frame _ p _ _))).trans (State.modPol_frame _ p _)
  exact .ite (.refl _ s) (left.trans (State.offerChange_frame _ p))

/-- Ports that are limited one after the other are all limited in the end. -/
theorem State.foldl_laneLimit_limits (k : TileId) (c : DriftCause) (l : List PortId) (s : State) :
    let u := l.foldl (fun s p => s.laneLimit p c (s.port p).smp.dv (s.port p).smp.di) s
    State.LaneKept k s u ∧ ∀ p ∈ l, (u.port p).smp.limited = true := by
  induction l generalizing s with
  | nil => exact ⟨.refl k s, nofun⟩
  | cons a l ih =>
    obtain ⟨own, kept⟩ := s.laneLimit_limits k a c (s.port a).smp.dv (s.port a).smp.di
    obtain ⟨rest, all⟩ := ih (s.laneLimit a c (s.port a).smp.dv (s.port a).smp.di)
    refine ⟨kept.trans rest, fun p mem => ?_⟩
    rcases List.mem_cons.mp mem with e | mem
    · subst e
      exact rest.limited p own
    · exact all p mem

end Sys2Proof.Machine
end

section
/-! SUPPORT. The slot of a substitute lane: what each of its commands comes to (R255–R265). -/
namespace Sys2Proof.Machine

variable {s : State} {t : TileId} {p : PortId}

theorem State.modTile_modTile (s : State) (t : TileId) (f g : Tile → Tile) : (s.modTile t f).modTile t g = s.modTile t fun q => g (f q) := by
  simp [State.modTile, State.tile]

theorem satInt_12 {i : Int} (small : i.natAbs ≤ 2047) : satInt 12 i = i := by
  have bounds : satInt 12 i = max (-2048) (min i 2047) := by norm_num [satInt]
  omega

theorem satInt_16 {i : Int} (lo : -32768 ≤ i) (hi : i ≤ 32767) : satInt 16 i = i := by
  have bounds : satInt 16 i = max (-32768) (min i 32767) := by norm_num [satInt]
  omega

/-! ### The slot begins and drift is judged (R255, R256, R262) -/

theorem State.driftEnd_of_none (none : (s.tile t).drift = none) : s.driftEnd t = s := by
  unfold State.driftEnd
  dsimp only
  rw [none]

theorem not_exceeds {d : Int} {bound : Nat} (small : d.natAbs ≤ bound) (reading permille : Nat) : exceeds d reading permille bound = false := by
  simp [exceeds, small]

theorem exceeds_of {d : Int} {reading permille bound : Nat} (big : bound < d.natAbs) (share : reading * permille < d.natAbs * 1000) :
    exceeds d reading permille bound = true := by
  simp [exceeds, big, share]

/-- Drift of the due port: of its voltage, else of its current, in 1 % and 50 mV or 50 mA (R262). -/
def State.slotDrift (s : State) (t : TileId) (dv di : Int) (mv : Nat) (ma : Int) : Option DriftCause :=
  if (s.port (lanePortOf t (s.tile t).slot)).smp.limited then none
  else if exceeds dv mv 10 50 then some .vbus
  else if exceeds di ma.natAbs 10 50 then some .current else none

/-- The slot once drift is judged (R262). -/
def State.slotJudged (s : State) (t : TileId) (dv di : Int) (mv : Nat) (ma : Int) : State :=
  (s.modTile t fun q => { q with drift := s.slotDrift t dv di mv ma, slotDv := dv, slotDi := di }).modPort (lanePortOf t (s.tile t).slot)
    fun q => { q with smp := { q.smp with dv := satInt 12 dv, di := satInt 12 di } }

theorem State.slotJudged_tile (s : State) (t : TileId) (dv di : Int) (mv : Nat) (ma : Int) : (s.slotJudged t dv di mv ma).tile t =
    { s.tile t with drift := s.slotDrift t dv di mv ma, slotDv := dv, slotDi := di } :=
  (State.modPort_tile ..).trans (State.modTile_tile_self ..)

theorem State.handover_tile (s : State) (t : TileId) (l : Nat) :
    (s.handover t l).tile t = { s.tile t with lanePort := l, laneOn := true, phase := .cal } :=
  (State.modPort_tile ..).trans (State.modTile_tile_self ..)

/-- The due port is quiet: the lane carries it (R255, R256). -/
theorem execQuietTest_quiet {dv di : Int} {mv : Nat} {ma : Int} {fr : BitVec 24} (ok : (s.tile t).subFault = false)
    (compare : (s.tile t).phase = .compare) (off : (s.tile t).laneOn = false)
    (quiet : (s.port (lanePortOf t (s.tile t).slot)).quiet (fr.getLsbD (localIdx (lanePortOf t (s.tile t).slot))) = true) :
    execQuietTest t dv di mv ma fr s = .next ((s.slotJudged t dv di mv ma).handover t (s.tile t).slot) :=
  (if_neg (by simp [ok, compare, off])).trans (if_pos quiet)

/-- Whatever port the lane goes to, if any, the drift that was judged stands (R256, R262). -/
theorem execQuietTest_drift (dv di : Int) (mv : Nat) (ma : Int) (fr : BitVec 24) (ok : (s.tile t).subFault = false)
    (compare : (s.tile t).phase = .compare) (off : (s.tile t).laneOn = false) :
    ∃ u, execQuietTest t dv di mv ma fr s = .next u ∧ (u.tile t).drift = s.slotDrift t dv di mv ma ∧ (u.tile t).slotDv = dv := by
  have judged := s.slotJudged_tile t dv di mv ma
  have given (v : State) (l : Nat) (h : v.tile t = (s.slotJudged t dv di mv ma).tile t) :
      ((v.handover t l).tile t).drift = s.slotDrift t dv di mv ma ∧ ((v.handover t l).tile t).slotDv = dv := by
    rw [v.handover_tile, h, judged]
    exact ⟨rfl, rfl⟩
  unfold execQuietTest
  dsimp only
  rw [if_neg (by simp [ok, compare, off])]
  split
  · exact ⟨_, rfl, given (s.slotJudged t dv di mv ma) _ rfl⟩
  · split
    · exact ⟨_, rfl, given ((s.slotJudged t dv di mv ma).modPort _ _) _ (State.modPort_tile ..)⟩
    · exact ⟨_, rfl, congrArg Tile.drift judged, congrArg Tile.slotDv judged⟩

/-! ### Calibration of a main lane (R258) -/

/-- The lane's coefficients, and those of the factory where none are set, judged by six codes (R258). -/
def State.calJudged (s : State) (t : TileId) (vz vl vh iz il ih : Nat) : Coef × Bool :=
  calCoef ((s.port (lanePortOf t (s.tile t).lanePort)).smp.coef.getD (Config.factoryCoef (lanePortOf t (s.tile t).lanePort).val)) vz vl vh iz il ih

/-- The main lane with the coefficients that were judged (R255, R258). -/
def State.reconnected (s : State) (t : TileId) (k : Coef × Bool) : State :=
  (s.modTile t fun q => { q with phase := .verify, calFail := ! k.2 }).modPort (lanePortOf t (s.tile t).lanePort)
    fun r => { r with smp := { r.smp with coef := some k.1 } }

theorem State.reconnected_parts (s : State) (t : TileId) (k : Coef × Bool) :
    ((s.reconnected t k).tile t).phase = .verify ∧ ((s.reconnected t k).tile t).calFail = ! k.2 ∧
      ((s.reconnected t k).port (lanePortOf t (s.tile t).lanePort)).smp.coef = some k.1 := by
  unfold State.reconnected
  rw [State.modPort_tile, State.modTile_tile_self, State.modPort_port_self]
  exact ⟨rfl, rfl, rfl⟩

/-- The coefficients act, and at most an event says that a channel failed (R258, R263). -/
theorem execCalReconnect_judges {vz vl vh iz il ih : Nat} (cal : (s.tile t).phase = .cal) (on : (s.tile t).laneOn = true) :
    ∃ u, execCalReconnect t vz vl vh iz il ih s = .next u ∧ State.ToHost (s.reconnected t (s.calJudged t vz vl vh iz il ih)) u ∧
      ((s.calJudged t vz vl vh iz il ih).2 = true → u.link = s.link) := by
  unfold execCalReconnect
  dsimp only
  rw [if_neg (by simp [cal, on])]
  split
  · exact ⟨_, rfl, .refl _, fun _ => rfl⟩
  · next told =>
    refine ⟨_, rfl, .driftEvt _ _ _ _ _ _, fun pass => absurd ?_ told⟩
    simp [show (calCoef _ vz vl vh iz il ih).2 = true from pass]

theorem execCalReconnect_parts {vz vl vh iz il ih : Nat} {k : Coef × Bool} (cal : (s.tile t).phase = .cal) (on : (s.tile t).laneOn = true)
    (judged : s.calJudged t vz vl vh iz il ih = k) :
    ∃ u, execCalReconnect t vz vl vh iz il ih s = .next u ∧ (u.tile t).phase = .verify ∧ (u.tile t).calFail = (! k.2) ∧
      (u.port (lanePortOf t (s.tile t).lanePort)).smp.coef = some k.1 ∧ (k.2 = true → u.link = s.link) := by
  obtain ⟨u, run, told, link⟩ := execCalReconnect_judges (vz := vz) (vl := vl) (vh := vh) (iz := iz) (il := il) (ih := ih) cal on
  obtain ⟨phase, fail, coef⟩ := s.reconnected_parts t k
  rw [judged] at told link
  exact ⟨u, run, by rw [told.tile t, phase], by rw [told.tile t, fail], by rw [told.port, coef], link⟩

theorem calCoef_of {old : Coef} {vz vl vh iz il ih : Nat} {gv gi : Option Rat} (v : calGain refV vz vl vh = gv) (i : calGain refI iz il ih = gi) :
    calCoef old vz vl vh iz il ih =
      (⟨gv.getD old.gv, if gv.isSome then vz else old.zv, gi.getD old.gi, if gi.isSome then iz else old.zi⟩, gv.isSome && gi.isSome) := by
  unfold calCoef
  rw [v, i]
  cases gv <;> cases gi <;> rfl

/-- A lane with no coefficients of its own stands on those of the factory. -/
theorem State.calJudged_of {c : Coef} {vz vl vh iz il ih : Nat} {gv gi : Option Rat} (stored : (s.port (lanePortOf t (s.tile t).lanePort)).smp.coef = some c)
    (v : calGain refV vz vl vh = gv) (i : calGain refI iz il ih = gi) : s.calJudged t vz vl vh iz il ih =
      (⟨gv.getD c.gv, if gv.isSome then vz else c.zv, gi.getD c.gi, if gi.isSome then iz else c.zi⟩, gv.isSome && gi.isSome) := by
  unfold State.calJudged
  rw [stored]
  exact calCoef_of v i

/-! ### VERIFY and the hand-back (R258, R264) -/

/-- The main lane carries the port again. -/
def State.handedBack (s : State) (t : TileId) : State :=
  (s.modTile t fun q => { q with phase := .self, laneOn := false }).modPort (lanePortOf t (s.tile t).lanePort) fun r =>
    { r with smp := { r.smp with laneMoved := r.smp.laneMoved || (s.tile t).laneOn } }

/-- VERIFY has passed: the calibration stands, when no channel failed (R258). -/
def State.verified (s : State) (t : TileId) : State :=
  ((s.handedBack t).modTile t fun q => { q with calOk := ! q.calFail }).modPort (lanePortOf t (s.tile t).lanePort) fun r =>
    { r with smp := { r.smp with calPend := false, verified := some s.aon } }

/-- VERIFY has failed: the lane has its previous coefficients (R258). -/
def State.verifyFailed (s : State) (t : TileId) : State :=
  (s.handedBack t).modPort (lanePortOf t (s.tile t).lanePort) fun r => { r with smp := { r.smp with calPend := false, coef := r.smp.coefOld } }

theorem execVerifyHandback_passes {dv di : Int} {mv : Nat} {ma : Int} (verify : (s.tile t).phase = .verify)
    (v : dv.natAbs ≤ 25) (i : di.natAbs ≤ 25) (free : (s.port (lanePortOf t (s.tile t).lanePort)).smp.limited = false) :
    execVerifyHandback t dv di mv ma s = .next (s.verified t) := by
  unfold execVerifyHandback
  dsimp only
  rw [if_neg (c := ((s.tile t).phase != .verify) = true) (by simp [verify]), not_exceeds v, not_exceeds i, free]
  rfl

theorem execVerifyHandback_fails {dv : Int} {mv : Nat} (verify : (s.tile t).phase = .verify) (big : 25 < dv.natAbs)
    (share : mv * 5 < dv.natAbs * 1000) (di ma : Int) :
    ∃ u, execVerifyHandback t dv di mv ma s = .next u ∧ State.ToHost (s.verifyFailed t) u := by
  unfold execVerifyHandback
  dsimp only
  rw [if_neg (c := ((s.tile t).phase != .verify) = true) (by simp [verify]),
    if_neg (c := (! exceeds dv mv 5 25 && ! exceeds di ma.natAbs 10 25) = true) (by simp [exceeds_of big share])]
  split
  · exact ⟨_, rfl, .refl _⟩
  · exact ⟨_, rfl, .driftEvt _ _ _ _ _ _⟩

/-! ### The lane's own calibration (R258, R259) -/

/-- The second failure in a row of the lane's own calibration. -/
theorem execSublaneSelfCal_second {vz vl vh iz il ih : Nat} (drift : (s.tile t).drift = none) (up : (s.tile t).subFault = false)
    (fails : (s.tile t).subFails = 1) (fail : calGain refV vz vl vh = none ∨ calGain refI iz il ih = none) :
    ∃ f : Tile → Tile, execSublaneSelfCal t vz vl vh iz il ih s = .next ((s.modTile t f).subFaultDown t) := by
  have failed : (calCoef ((s.tile t).subCoef.getD (Config.factoryCoef (192 + t.val))) vz vl vh iz il ih).2 = false := by
    rw [calCoef_of rfl rfl]
    rcases fail with none | none <;> simp [none]
  unfold execSublaneSelfCal
  dsimp only
  rw [if_neg (by simp [failed, fails]), State.driftEnd_of_none drift, if_neg (by simp [failed]), if_neg (by simp [up]), if_neg (by simp [fails])]
  exact ⟨_, rfl⟩

/-- SUB_FAULT: the lane carries no port, its rotation begins at L00 and every port of the tile is limited (R259, R263). -/
theorem State.subFaultDown_parts (s : State) (t : TileId) :
    ((s.subFaultDown t).tile t).subFault = true ∧ ((s.subFaultDown t).tile t).slotNext = 0 ∧ ((s.subFaultDown t).tile t).laneOn = false ∧
      (s.subFaultDown t).ref.fault.getLsbD 0x0F = true ∧ ∀ p ∈ portsOf t, ((s.subFaultDown t).port p).smp.limited = true := by
  unfold State.subFaultDown
  dsimp only
  generalize (if (s.tile t).laneOn then _ else s : State) = back
  have down := back.modTile_tile_self t fun q => { q with subFails := 2, subFault := true, laneOn := false, phase := .self, slotNext := 0 }
  generalize back.modTile t _ = v at down ⊢
  obtain ⟨kept, limited⟩ := State.foldl_laneLimit_limits t .subFault (portsOf t) v
  have frame := State.Frame.foldl (P := fun _ => True) _
    (fun (s : State) p => (s.laneLimit_frame p .subFault (s.port p).smp.dv (s.port p).smp.di).mono fun _ _ => trivial) (portsOf t) v
  obtain ⟨_, _, _, same⟩ := frame.tiles t
  rw [State.tile_of_tiles (State.refRecord_tiles _ _ _ _), State.refRecord_fault]
  refine ⟨?_, ?_, kept.lane ?_, by rw [getLsbD_setBit]; rfl, fun p mem => ?_⟩
  · rw [same, down]
  · rw [same, down]
  · rw [down]
  · rw [State.port_of_ports (State.refRecord_ports _ _ _ _)]
    exact limited p mem

/-! ### Thresholds read back (R59, R60, R260) -/

theorem State.dacGood_of {n tol d v : Nat} (nominal : s.dacNominal p d = some (n, tol)) (lo : n ≤ v + tol) (hi : v ≤ n + tol) :
    s.dacGood p d v = true := by
  unfold State.dacGood
  rw [nominal]
  simp [lo, hi]

theorem execDacReadback_first {d : Fin 12} {v : Nat} (bad : s.dacGood p d.val v = false)
    (first : (s.port p).smp.dacFails.find? (fun e => e.1 == d.val) = none) :
    execDacReadback p d v false s = .next (s.modPort p fun q => { q with smp :=
      { q.smp with dacFails := q.smp.dacFails.filter (fun e => e.1 != d.val) ++ [(d.val, 1)] } }) := by
  unfold execDacReadback
  dsimp only
  rw [if_neg (by simp), if_neg (by simp [bad]), first]
  rfl

theorem execDacReadback_second {d : Fin 12} {v : Nat} (path : 6 ≤ d.val) (bad : s.dacGood p d.val v = false)
    (first : (s.port p).smp.dacFails.find? (fun e => e.1 == d.val) = some (d.val, 1)) (lock : (s.port p).retry.lock ≠ .dacFault) :
    execDacReadback p d v false s = .next (s.dacLock p d.val) := by
  unfold execDacReadback
  dsimp only
  rw [if_neg (by simp), if_neg (by simp [bad]), first, if_neg (by simp), if_neg (by omega), if_neg (by simp [lock])]
  rfl

/-- A port with a faulty threshold, made safe and locked out, before it is told (R260, R513). -/
def State.dacLocked (s : State) (p : PortId) : State :=
  (((s.portSafe p).endContract p .lockout).attachEnds p).modPort p fun q =>
    { q with cc := { q.cc with state := .lockedOut, rp := .off, rpHold := false, filt := [], latched := none },
             retry := { q.retry with lock := .dacFault, due := none, probing := false },
             smp := { q.smp with dacRetest := false, dacTest := false, dacFails := [] } }

theorem State.dacLock_eq (s : State) (p : PortId) (i : Nat) : s.dacLock p i =
    (((s.dacLocked p).postEvt (some p) (.lockout .dacFault i)).queueFault p 4 3#32).refRecord 0x0E (some (tileOf p)) (some p) := rfl

theorem State.dacLocked_port (s : State) (p : PortId) :
    ((s.dacLocked p).port p).cc.state = .lockedOut ∧ ((s.dacLocked p).port p).cc.rp = .off ∧
      ((s.dacLocked p).port p).retry.lock = .dacFault ∧ ((s.dacLocked p).port p).path.gate = false := by
  have ended : (((s.portSafe p).endContract p .lockout).port p).path.isOff := by
    rw [State.endContract_path]
    exact s.portSafe_off p
  obtain ⟨gate, -⟩ := State.attachEnds_off ended
  unfold State.dacLocked
  rw [State.modPort_port_self]
  dsimp only
  exact ⟨rfl, rfl, rfl, gate⟩

/-- What is told of a faulty threshold changes of each port its event queue alone (R260, R302). -/
theorem State.dacLock_keeps (s : State) (p : PortId) (i : Nat) {α : Type} {part : Port → α}
    (sc : ∀ q c, part { q with sc := c } = part q := by exact fun _ _ => rfl) : State.Keeps part (s.dacLocked p) (s.dacLock p i) := by
  rw [State.dacLock_eq]
  exact State.Keeps.trans (((State.Keeps.refl part _).frame (State.postEvt_frame _ _ _)).queueFault sc)
    fun q => congrArg part (State.port_of_ports (State.refRecord_ports _ _ _ _) q)

/-- A threshold that fails again locks the port out, its path made safe, and is recorded by the referee (R260, R383). -/
theorem State.dacLock_port (s : State) (p : PortId) (i : Nat) :
    ((s.dacLock p i).port p).cc.state = .lockedOut ∧ ((s.dacLock p i).port p).cc.rp = .off ∧
      ((s.dacLock p i).port p).retry.lock = .dacFault ∧ ((s.dacLock p i).port p).path.gate = false := by
  have cc : ((s.dacLock p i).port p).cc = ((s.dacLocked p).port p).cc := s.dacLock_keeps p i (part := (·.cc)) (fun _ _ => rfl) p
  have retry : ((s.dacLock p i).port p).retry = ((s.dacLocked p).port p).retry := s.dacLock_keeps p i (part := (·.retry)) (fun _ _ => rfl) p
  have path : ((s.dacLock p i).port p).path = ((s.dacLocked p).port p).path := s.dacLock_keeps p i (part := (·.path)) (fun _ _ => rfl) p
  rw [cc, retry, path]
  exact s.dacLocked_port p

theorem State.dacLock_recorded (s : State) (p : PortId) (i : Nat) : (s.dacLock p i).ref.fault.getLsbD 0x0E = true := by
  rw [State.dacLock_eq, State.refRecord_fault, getLsbD_setBit]
  rfl

end Sys2Proof.Machine
end

section
namespace Sys2Proof.Machine

/-- Settles O29: the branch that each command takes, its slot's state by the updates of its tile and port, and what is told leaving them. -/
theorem substituteLaneSlot : Obligations.SubstituteLaneSlot := by
  unfold Obligations.SubstituteLaneSlot
  refine ⟨fun t l s up next free => ?_, fun t dv di mv ma s up compare off free v i quiet => ?_, fun t dv di mv ma fr s up compare off free big share => ?_,
    fun t vz vl vh iz il ih gv gi s cal on v i => ?_, fun t l s other => if_pos (by rcases other with h | h <;> simp [h]),
    fun t vz vl vh iz il ih c s cal on v i stored => ?_, fun t vz vl vh iz il ih c gv s cal on v i stored => ?_,
    fun t dv di mv ma s verify pass v i free => ?_, fun t dv di mv ma s verify _ big share => ?_, fun t vz vl vh iz il ih gv gi s drift free v i => ?_,
    fun t vz vl vh iz il ih s drift up fails fail => ?_, fun p s pend due => ?_, fun p s early => if_neg (by simp [early]), fun p d v s => rfl,
    fun p d v n tol s test nominal lo hi => ?_, fun p d v s path bad first lock => ?_, fun p d v s bad first => ?_,
    fun t r vt x s fence small temp lo hi => ?_, fun t r vt s fence => if_pos fence, fun t s out fault fence run => ?_,
    fun t s fault out fence run => ?_⟩
  · refine ⟨_, if_neg (by simp [up, next, free]), ?_⟩
    rw [State.modPort_tile, State.modTile_tile_self]
    exact ⟨rfl, rfl, rfl, rfl, rfl, rfl, fun none => (congrArg State.link (State.driftEnd_of_none none) :)⟩
  · have none : s.slotDrift t dv di mv ma = none := by
      unfold State.slotDrift
      rw [free, not_exceeds v, not_exceeds i]
      rfl
    refine ⟨_, execQuietTest_quiet up compare off (by simpa using quiet), ?_⟩
    rw [State.handover_tile, State.slotJudged_tile, none]
    refine ⟨rfl, rfl, rfl, rfl, ?_⟩
    unfold State.handover State.slotJudged
    simp [satInt_12 (i := dv) (by omega), satInt_12 (i := di) (by omega)]
  · obtain ⟨u, ran, drift, slot⟩ := execQuietTest_drift (s := s) (t := t) dv di mv ma fr up compare off
    refine ⟨u, ran, drift.trans ?_, slot⟩
    unfold State.slotDrift
    rw [free, exceeds_of big share]
    rfl
  · have judged : s.calJudged t vz vl vh iz il ih = (⟨gv, vz, gi, iz⟩, true) := calCoef_of v i
    obtain ⟨u, ran, phase, fail, coef, link⟩ := execCalReconnect_parts cal on judged
    exact ⟨u, ran, phase, coef, fail, link rfl⟩
  · obtain ⟨u, ran, phase, fail, coef, -⟩ := execCalReconnect_parts cal on (State.calJudged_of stored v i)
    exact ⟨u, ran, phase, fail, coef⟩
  · obtain ⟨u, ran, phase, fail, coef, -⟩ := execCalReconnect_parts cal on (State.calJudged_of stored v i)
    exact ⟨u, ran, phase, fail, coef⟩
  · refine ⟨_, execVerifyHandback_passes verify v i free, ?_⟩
    unfold State.verified State.handedBack
    simp [pass]
  · obtain ⟨u, ran, told⟩ := execVerifyHandback_fails (s := s) verify big share di ma
    refine ⟨u, ran, ?_⟩
    rw [told.tile, told.port]
    unfold State.verifyFailed State.handedBack
    simp
  · have judged := calCoef_of (old := (s.tile t).subCoef.getD (Config.factoryCoef (192 + t.val))) v i
    unfold exec execSublaneSelfCal
    dsimp only
    rw [judged, State.driftEnd_of_none drift, if_neg (by simp [free])]
    exact congrArg Host.Outcome.next (s.modTile_modTile t _ _)
  · obtain ⟨f, ran⟩ := execSublaneSelfCal_second drift up fails fail
    obtain ⟨fault, next, lane, recorded, limited⟩ := (s.modTile t f).subFaultDown_parts t
    exact ⟨_, ran, fault, next, lane, recorded, fun l => limited _ (portAt_mem t l)⟩
  · refine ⟨_, if_pos (by simp [pend, due]), ?_⟩
    rw [State.modTile_port, State.modPort_port_self, State.modTile_tile_self, State.modPort_tile]
    exact ⟨rfl, rfl, rfl⟩
  · have good := State.dacGood_of nominal lo hi
    refine (if_pos good).trans (congrArg Host.Outcome.next (State.modPort_congr ?_))
    simp [test]
  · obtain ⟨state, rp, cause, gate⟩ := s.dacLock_port p d.val
    exact ⟨_, execDacReadback_second path bad first lock, state, rp, cause, gate, s.dacLock_recorded p d.val⟩
  · refine ⟨_, execDacReadback_first bad first, ?_⟩
    rw [State.modPort_port_self]
    exact ⟨by simp, rfl, rfl⟩
  · refine (if_neg (by simp [fence])).trans (congrArg Host.Outcome.next (State.modTile_congr s t ?_))
    rw [temp]
    have inside : (decide (x < -880) || decide (x > 2400)) = false := by simp [lo, hi]
    simp only [inside, Option.getD_some, satInt_16 (i := x) (by omega) (by omega), Nat.min_eq_left small]
    cases (s.tile t).ntcOut <;> rfl
  · have told := State.ToHost.foldl (fun (s : State) p =>
      .postEvt s (some p) (.thermalDerate .ntcFault 2 (temp16 (s.port p).sb.temp) (s.port p).sb.floor)) (portsOf t)
      (s.modTile t fun q => { q with ntcFault := true })
    refine ⟨_, if_pos (by simp [out, fault, fence, run]), ?_, told.ports⟩
    rw [told.tile, State.modTile_tile_self]
  · have told := State.ToHost.foldl (fun (s : State) p =>
      .postEvt s (some p) (.thermalDerate .model (s.port p).sb.row (temp16 (s.port p).sb.temp) (capOf s p (s.port p).sb.row))) (portsOf t)
      (s.modTile t fun q => { q with ntcFault := false })
    refine ⟨_, if_pos (by simp [out, fault, fence, run]), ?_, told.ports⟩
    rw [told.tile, State.modTile_tile_self]

end Sys2Proof.Machine
end

section
/-! SUPPORT. The descriptors that stage, check, arm, load, set and read: what each comes to once it has begun (R239, R252, R254, R332, R333,
R352, R358, R360, R363, R372). -/
namespace Sys2Proof.Machine

variable {s t u : State} {d : Desc} {op : Nat}

/-! ### The start and the completion -/

theorem State.begun_told (s : State) (d : Desc) : State.ToHost s (s.begun d) := by
  obtain ⟨a, c, e⟩ := s.begun_eq d
  exact ⟨_, _, e⟩

/-- What of a descriptor's start is in the link, and that it has left the fetched ones. -/
theorem State.begun_link (s : State) (d : Desc) :
    (s.begun d).rings = s.rings ∧ (s.begun d).link.fetched = s.link.fetched.erase d ∧ (s.begun d).link.waiting = s.link.waiting ∧
      (s.begun d).link.pages = s.link.pages := by
  obtain ⟨a, c, e⟩ := s.begun_eq d
  rw [e]
  exact ⟨rfl, rfl, rfl, rfl⟩

/-- A descriptor completes from where its effect has left rings, fences and the fetched ones as they were when it had begun. -/
theorem State.begun_ends (opn : d.opn = op) (code : CplCode) (detail : Nat) (data : List Byte) (rings : t.rings = (s.begun d).rings := by rfl)
    (power : t.pwr = (s.begun d).pwr := by rfl) (fetched : t.link.fetched = (s.begun d).link.fetched := by rfl) :
    s.endsWith (t.cplDesc d op code detail data) d code detail data := by
  obtain ⟨hrings, hfetched, -⟩ := s.begun_link d
  exact State.cplDesc_endsWith opn (rings.trans hrings) (power.trans (s.begun_told d).pwr) (fetched.trans hfetched) code detail data

/-- What rests on the waiting descriptor that comes last. -/
theorem waits_last {l : List Waiting} {w : Waiting} {g : BitVec 16} {k : WaitFor} (tag : w.tag = g) (what : w.what = k) :
    ∃ x ∈ l ++ [w], x.tag = g ∧ x.what = k := ⟨w, List.mem_append_right _ (List.mem_singleton_self _), tag, what⟩

/-! ### Fields of a descriptor (R7, R330) -/

theorem valLE_lt (l : List Byte) : valLE l < 256 ^ l.length := by
  induction l with
  | nil => decide
  | cons b l ih =>
    have step : valLE (b :: l) = b.toNat + 256 * valLE l := rfl
    have := b.isLt
    rw [step, List.length_cons, pow_succ]
    omega

theorem Desc.fld_lt (d : Desc) (off n : Nat) : d.fld off n < 256 ^ n := by
  have := valLE_lt ((List.range n).map fun k => BitVec.ofNat 8 (d.byte (off + k)))
  rwa [List.length_map, List.length_range] at this

theorem Desc.byte_lt (d : Desc) (off : Nat) : d.byte off < 256 := BitVec.isLt _

/-- The low byte of a word is the field that lies in it. -/
theorem packWord_lowByte (a b c e : Nat) (small : e < 256) :
    packWord [(a, 30, 2), (b, 20, 10), (c, 10, 10), (e, 0, 8)] &&& 0xFF#32 = BitVec.ofNat 32 e := by
  have low (n : Nat) : n &&& 255 = n % 256 := Nat.and_two_pow_sub_one_eq_mod n 8
  refine BitVec.eq_of_toNat_eq ?_
  simp only [packWord, List.foldl_cons, List.foldl_nil, BitVec.toNat_and, BitVec.toNat_ofNat, Nat.reducePow, Nat.reduceMod, low]
  omega

/-! ### Staging (R355–R358) -/

/-- The fields of a register that a mask names take the value staged. -/
theorem masked_write (old m v : Word) : ((old &&& ~~~ m) ||| (v &&& m)) &&& m = v &&& m := by
  ext i
  simp only [BitVec.getElem_and, BitVec.getElem_or, BitVec.getElem_not]
  cases m[i] <;> simp

/-- The entry of a register is found, whatever stands in the list. -/
theorem insertStaged_find (l : List Staged) (e : Staged) : (insertStaged l e).find? (fun x => x.offset == e.offset) = some e := by
  induction l with
  | nil => simp [insertStaged]
  | cons x r ih =>
    unfold insertStaged
    split
    · simp
    · split
      · simp
      · next ne =>
        exact (List.find?_cons_of_neg (p := fun x : Staged => x.offset == e.offset) fun same => ne (beq_iff_eq.mpr (beq_iff_eq.mp same).symm)).trans ih

theorem insertCurve_mem (l : List (Nat × List (Nat × Nat))) (e : Nat × List (Nat × Nat)) : e ∈ insertCurve l e := by
  induction l with
  | nil => exact List.mem_singleton_self e
  | cons x r ih =>
    unfold insertCurve
    split
    · exact List.mem_cons_self
    · split
      · exact List.mem_cons_self
      · exact List.mem_cons_of_mem _ ih

theorem insertPage_mem (l : List (Nat × BitVec 64)) (n : Nat) (a : BitVec 64) : (n, a) ∈ insertPage l n a := by
  induction l with
  | nil => exact List.mem_singleton_self _
  | cons x r ih =>
    unfold insertPage
    split
    · exact List.mem_cons_self
    · split
      · exact List.mem_cons_self
      · exact List.mem_cons_of_mem _ ih

/-- A huddle that is not sealed is STAGED once it is touched (R357). -/
theorem State.hudTouch_state (unsealed : s.sealed = false) : s.hudTouch.hud.state = .staged := by
  unfold State.sealed at unsealed
  unfold State.hudTouch State.modHud
  cases state : s.hud.state <;> simp_all [HuddleState.sealed]

theorem State.stageMask_unsealed (unsealed : s.sealed = false) (off : Nat) {mask : Word} (fields : mask ≠ 0#32) (v : Word) :
    s.stageMask off mask v =
      (s.modHud fun h => { h with staged := insertStaged h.staged ⟨off, (s.stagedOr off &&& ~~~ mask) ||| (v &&& mask)⟩ }).hudTouch := by
  unfold State.stageMask
  simp [fields, unsealed]

theorem State.stagedOr_of_find {off : Nat} {e : Staged} (found : s.hud.staged.find? (fun x => x.offset == off) = some e) :
    s.stagedOr off = e.value := by
  unfold State.stagedOr
  rw [found]

/-- The fields that a mask names are staged; of the machine the staging alone changes (R355). -/
theorem State.stageMask_stages (unsealed : s.sealed = false) (off : Nat) {mask : Word} (fields : mask ≠ 0#32) (v : Word) :
    ∃ h, s.stageMask off mask v = { s with hud := h } ∧ h.state = .staged ∧ (s.stageMask off mask v).stagedOr off &&& mask = v &&& mask := by
  rw [State.stageMask_unsealed unsealed off fields v]
  refine ⟨_, rfl, State.hudTouch_state unsealed, ?_⟩
  rw [State.stagedOr_of_find (insertStaged_find s.hud.staged ⟨off, (s.stagedOr off &&& ~~~ mask) ||| (v &&& mask)⟩)]
  exact masked_write _ _ _

/-! ### Checking and arming (R360, R363, R372) -/

theorem State.checkMsgs_none (none : s.hud.newMsgs = []) (l : List TileId) : s.checkMsgs l = (s, .none) := by
  induction l with
  | nil => rfl
  | cons t l ih =>
    unfold State.checkMsgs
    rw [if_pos (by simp [none])]
    exact ih

/-- A huddle that holds nothing passes the check (R360). -/
theorem State.hudCheck_nothing (staged : s.hud.staged = []) (curves : s.hud.curves = []) (steps : s.hud.newSteps = [])
    (msgs : s.hud.newMsgs = []) :
    s.hudCheck = (s.modHud fun h => { h with state := if h.state == .staged then .checked else h.state }, none) := by
  have all : s.checkAll = (s, none) := by
    unfold State.checkAll
    rw [steps]
    dsimp only [State.checkSteps]
    rw [State.checkMsgs_none msgs]
    simp [State.checkCurves, State.checkRegs, State.checkFits, staged, curves]
  unfold State.hudCheck
  rw [all]

/-- From `s` to `u` the tiles alone have changed. -/
def State.TilesOnly (s u : State) : Prop := ∃ l, u = { s with tiles := l }

theorem State.TilesOnly.foldl {α : Type} {f : State → α → State} (h : ∀ s a, State.TilesOnly s (f s a)) (l : List α) (s : State) :
    State.TilesOnly s (l.foldl f s) := by
  induction l generalizing s with
  | nil => exact ⟨_, rfl⟩
  | cons a l ih =>
    obtain ⟨x, first⟩ := h s a
    obtain ⟨y, rest⟩ := ih (f s a)
    refine ⟨y, rest.trans ?_⟩
    rw [first]

theorem State.TilesOnly.modTile (s : State) (k : TileId) (f : Tile → Tile) : State.TilesOnly s (s.modTile k f) := ⟨_, rfl⟩

theorem State.TilesOnly.unless {c : Bool} (h : State.TilesOnly s u) : State.TilesOnly s (if c then s else u) := by
  split
  · exact ⟨_, rfl⟩
  · exact h

/-- Among updates of distinct tiles each finds its tile as it was; a tile that `skip` names stays. -/
theorem State.foldl_modTile_tile (skip : TileId → Bool) (f : Tile → Tile) {l : List TileId} (distinct : l.Nodup) (s : State) (k : TileId) :
    (l.foldl (fun s t => if skip t then s else s.modTile t f) s).tile k = if k ∈ l ∧ skip k = false then f (s.tile k) else s.tile k := by
  induction l generalizing s with
  | nil => simp
  | cons a l ih =>
    obtain ⟨new, distinct⟩ := List.nodup_cons.mp distinct
    rw [List.foldl_cons, ih distinct]
    by_cases own : a = k
    · subst own
      cases skipped : skip a <;> simp [new]
    · have other : k ≠ a := fun e => own e.symm
      have kept : (if skip a then s else s.modTile a f).tile k = s.tile k := by
        split
        · rfl
        · rw [State.modTile_tile, if_neg own]
      simp [kept, other]

theorem State.modLink_congr {f g : Link → Link} (h : f s.link = g s.link) : s.modLink f = s.modLink g := by
  unfold State.modLink
  rw [h]

theorem State.modLink_same {f : Link → Link} (h : f s.link = s.link) : s.modLink f = s := by
  unfold State.modLink
  rw [h]

/-- No descriptor waits: none completes. -/
theorem State.finish_none (none : s.link.waiting = []) (f : Waiting → Bool) (code : CplCode) (detail : Nat) (data : List Byte) :
    s.finish f code detail data = s := by
  have same : s.modLink (fun l => { l with waiting := l.waiting.filter fun w => ! f w }) = s := State.modLink_same (by
    rw [none, List.filter_nil, ← none])
  unfold State.finish
  dsimp only
  rw [none]
  exact same

/-- A discard before the commit point empties the huddle; nothing waits for it (R372). -/
theorem State.hudDiscard_empties (uncommitted : s.hud.state ≠ .committed) (svc : s.hud.svcSeq = none) (idle : s.link.waiting = []) :
    s.hudDiscard = s.modHud fun h => { h.unarm with state := .empty, staged := [], curves := [] } := by
  unfold State.hudDiscard
  rw [if_neg (by simpa using uncommitted), svc]
  exact State.finish_none (s := s.modHud fun h => { h.unarm with state := .empty, staged := [], curves := [] }) idle _ _ _ _

/-! ### Tables (R170, R333) -/

/-- A chain that has ended takes effect and completes, or completes BUSY. -/
theorem State.tableLoad_of {n o : Nat} {c : Chain} (loads : s.link.loads = [c]) (ring : c.ring = n) (row : c.op.toNat = o) (f : State → Chain → State) :
    s.tableLoad n o f = if c.busy then (s.modLink fun l => { l with loads := [] }).cplChain c .busy []
      else (f (s.modLink fun l => { l with loads := [] }) c).cplChain c .ok [] := by
  have left : s.modLink (fun l => { l with loads := l.loads.erase c }) = s.modLink fun l => { l with loads := [] } :=
    State.modLink_congr (by simp [loads])
  unfold State.tableLoad
  rw [loads, List.find?_cons_of_pos (by simp [ring, row])]
  dsimp only
  rw [left]

theorem State.cplChain_told (s : State) (c : Chain) (code : CplCode) (data : List Byte) : State.ToHost s (s.cplChain c code data) :=
  .complete s _ _

theorem State.cplChain_loads (s : State) (c : Chain) (code : CplCode) (data : List Byte) : (s.cplChain c code data).link.loads = s.link.loads := by
  obtain ⟨r, a, b, e⟩ : ∃ r a b, s.cplChain c code data = { s with rings := r, link := { s.link with raised := a, pba := b } } :=
    s.complete_host _ c.irq
  rw [e]

/-! ### Parameters (R352) -/

/-- A parameter that is set to another value than its default is kept. -/
theorem State.setParam_paramOv {n : Nat} {w : Word} (events : n ≠ 0xA006) (none : s.cfg.params = []) (differs : paramDefault n ≠ some w.toNat) :
    (s.setParam n w).paramOv n = some w := by
  have kept : (s.setParam n w).cfg.params = [(n, w)] := by
    unfold State.setParam
    simp [events, differs, none, insertParam]
  unfold State.paramOv
  rw [kept]
  simp

theorem State.demandRose_tiles (s : State) (p : PortId) (n : Nat) : (s.demandRose p n).tiles = s.tiles := by
  unfold State.demandRose
  split <;> rfl

/-- What a parameter that is set leads to: demands that rise above what they were, PARAM_CHANGE to every port and events that had waited (R228, R343, R352). -/
def State.paramTold (s was : State) (n : Nat) : State :=
  (allPorts.foldl (fun s p => s.queueHk p 6 (BitVec.ofNat 32 n)) (allPorts.foldl (fun a p => a.demandRose p (was.demandOf p)) s)).drainBacklog 66

theorem State.paramTold_frame (s was : State) (n : Nat) : State.Frame (fun _ => True) s (s.paramTold was n) :=
  ((State.Frame.foldl _ (fun a p => (a.demandRose_frame p _).mono fun _ _ => trivial) _ s).trans
    (State.Frame.foldl _ (fun s p => (s.queueHk_frame p _ _).mono fun _ _ => trivial) _ _)).trans (State.drainBacklog_frame _ _)

theorem State.paramTold_tiles (s was : State) (n : Nat) : (s.paramTold was n).tiles = s.tiles :=
  (State.ToHost.drainBacklog _ _).tiles.trans ((foldl_keeps State.tiles _ (fun s p => s.queueEv_tiles p _) _ _).trans
    (foldl_keeps State.tiles _ (fun s p => s.demandRose_tiles p _) _ _))

/-! ### Host pages (R312, R332) -/

theorem valLE_bytesLE_one {n : Nat} (small : n < 256) : valLE (bytesLE 1 n) = n := by
  simpa [valLE, bytesLE, List.range_succ] using small

theorem valLE_bytesLE_two {n : Nat} (small : n < 65536) : valLE (bytesLE 2 n) = n := by
  simp [valLE, bytesLE, List.range_succ]
  omega

/-- A page is withdrawn, and no descriptor waits. -/
def State.pageGone (s : State) (x : Nat) : State := s.modLink fun l => { l with pages := l.pages.filter (fun e => e.1 != x), waiting := [] }

/-- A withdrawal that alone waits, while no port transfers, takes its pages out and completes (R332). -/
theorem State.pagesDue_alone {w : Waiting} {x : Nat} (still : ∀ p : Fin 192, (s.port p).sc.deep = false) (alone : s.link.waiting = [w])
    (what : w.what = .pages) (plain : w.code = .ok) (data : w.data = bytesLE 2 x ++ bytesLE 1 1) (small : x < 65536) :
    s.pagesDue = (s.pageGone x).complete (w.cpl .ok 0 []) w.irq := by
  have lo : valLE (w.data.take 2) = x := by
    rw [data, List.take_left' (bytesLE_length 2 x)]
    exact valLE_bytesLE_two small
  have n : valLE (w.data.drop 2) = 1 := by
    rw [data, List.drop_left' (bytesLE_length 2 x)]
    exact valLE_bytesLE_one (by decide)
  have gone (y : Nat) : (! decide (x ≤ y) || ! decide (y ≤ x)) = (y != x) := by
    rw [Bool.eq_iff_iff]
    simp only [Bool.or_eq_true, Bool.not_eq_true', decide_eq_false_iff_not, bne_iff_ne, ne_eq]
    omega
  unfold State.pagesDue State.finish State.pageGone
  simp [still, alone, what, plain, lo, n, gone, State.modLink]

end Sys2Proof.Machine
end

section
/-! SUPPORT. The staging, checking, arming and loading descriptors, command by command (R239, R252, R254, R333, R352, R358–R363, R372). -/
namespace Sys2Proof.Machine

variable {s : State} {d : Desc}

theorem State.begun_sealed (s : State) (d : Desc) : (s.begun d).sealed = s.sealed := by
  unfold State.sealed
  rw [(s.begun_told d).hud]

theorem State.begun_portFenced (s : State) (d : Desc) (p : PortId) : (s.begun d).portFenced p = s.portFenced p := by
  unfold State.portFenced State.tileFenced State.domFenced
  rw [(s.begun_told d).pwr]

/-! ### Staging (R239, R358) -/

theorem budgetStage_stages (starts : s.starts d 0x20) (unsealed : s.sealed = false) (budget : d.byte 16 = 1) :
    exec (.budgetStage d) s =
      .next (((s.begun d).stageMask 0x1000 0xFFFFF#32 (BitVec.ofNat 32 (d.fld 8 4))).wait d 0x20 none .staged) := by
  refine congrArg Host.Outcome.next ((State.startDesc_of_starts starts rfl _).trans ((if_neg ?_).trans ?_))
  · rw [State.begun_sealed, unsealed]
    exact Bool.false_ne_true
  · rw [budget]
    rfl

theorem budgetStage_sealed (starts : s.starts d 0x20) (shut : s.sealed = true) :
    exec (.budgetStage d) s = .next ((s.begun d).cplDesc d 0x20 .busy 0 []) :=
  congrArg Host.Outcome.next ((State.startDesc_of_starts starts rfl _).trans (if_pos ((s.begun_sealed d).trans shut)))

theorem State.eachPort_one {p : PortId} (live : s.portFenced p = false) (f : State → PortId → State × CplCode) (done : (f s p).2 = .ok) :
    s.eachPort [p] f = ((f s p).1, []) := by
  unfold State.eachPort
  simp [live, done]

/-- Byte 9 alone is staged, as bits 7 to 0 (R239). -/
theorem classStage_stages {p : Fin 192} (starts : s.starts d 0x21) (port : d.portId = some p) (unsealed : s.sealed = false) (row : d.byte 14 = 2) :
    ∃ v, v &&& 0xFF#32 = BitVec.ofNat 32 (d.byte 9) ∧
      exec (.classStage d) s = .next (((s.begun d).stageMask (ppOff p.val 0x44) 0xFF#32 v).wait d 0x21 none .staged) := by
  have live : (s.begun d).portFenced p = false := (s.begun_portFenced d p).trans (starts.2.2.2 p port)
  have target : (s.begun d).targets d false = [p] := by
    unfold State.targets
    rw [port]
  refine ⟨packWord [(d.byte 8, 30, 2), (min 1023 (d.fld 12 2), 20, 10), (min 1023 (d.fld 10 2), 10, 10), (d.byte 9, 0, 8)],
    packWord_lowByte _ _ _ _ (d.byte_lt 9), congrArg Host.Outcome.next ((State.startDesc_of_starts starts rfl _).trans ((if_neg ?_).trans ?_))⟩
  · rw [State.begun_sealed, unsealed]
    exact Bool.false_ne_true
  · dsimp only
    rw [target, State.eachPort_one live _ rfl, row]
    rfl

/-! ### The huddle (R360, R363, R372) -/

theorem huddleCheck_passes (starts : s.starts d 0x22) (staged : s.hud.staged = []) (curves : s.hud.curves = []) (steps : s.hud.newSteps = [])
    (msgs : s.hud.newMsgs = []) : exec (.huddleCheck d) s =
      .next (((s.begun d).modHud fun h => { h with state := if h.state == .staged then .checked else h.state }).cplOk d 0x22) := by
  have hud := (s.begun_told d).hud
  refine congrArg Host.Outcome.next ((State.startDesc_of_starts starts rfl _).trans ?_)
  rw [State.hudCheck_nothing (s := s.begun d) (by rw [hud, staged]) (by rw [hud, curves]) (by rw [hud, steps]) (by rw [hud, msgs])]

/-- A checked or an empty huddle arms at once (R363). -/
theorem kickoffArm_boundary (starts : s.starts d 0x23) (boundary : d.byte 8 = 0) (ready : s.hud.state = .empty ∨ s.hud.state = .checked) :
    exec (.kickoffArm d) s = .next (((s.begun d).hudArm .nextBoundary 0 (some d.tag) none).wait d 0x23 none .kickoff) := by
  have hud := (s.begun_told d).hud
  have unsealed : (s.begun d).sealed = false := by
    unfold State.sealed
    rw [hud]
    rcases ready with state | state <;> rw [state] <;> rfl
  have unstaged : ((s.begun d).hud.state == .staged) = false := by
    rw [hud]
    rcases ready with state | state <;> rw [state] <;> rfl
  refine congrArg Host.Outcome.next ((State.startDesc_of_starts starts rfl _).trans ?_)
  dsimp only
  rw [boundary, unsealed, unstaged]
  rfl

theorem kickoffArm_sealed (starts : s.starts d 0x23) (untimed : d.byte 8 ≠ 1) (shut : s.sealed = true) :
    exec (.kickoffArm d) s = .next ((s.begun d).cplDesc d 0x23 .busy 0 []) :=
  congrArg Host.Outcome.next ((State.startDesc_of_starts starts rfl _).trans
    ((if_neg (by simp [untimed])).trans (if_pos ((s.begun_sealed d).trans shut))))

theorem kickoffArm_late (starts : s.starts d 0x23) (timed : d.byte 8 = 1) (late : s.armTimeBad (d.fld 16 8) = true) :
    exec (.kickoffArm d) s = .next ((s.begun d).cplDesc d 0x23 .badField 0 (bytesLE 2 16)) := by
  have same : (s.begun d).armTimeBad (d.fld 16 8) = s.armTimeBad (d.fld 16 8) := by
    obtain ⟨a, c, e⟩ := s.begun_eq d
    rw [e]
    rfl
  exact congrArg Host.Outcome.next ((State.startDesc_of_starts starts rfl _).trans (if_pos (by simp [timed, same, late])))

/-- Arming for the next boundary seals the huddle; of the rest of the machine only tiles change (R363, R364). -/
theorem State.hudArm_boundary (s : State) (tag : Option (BitVec 16)) : ∃ l, s.hudArm .nextBoundary 0 tag none =
    { s with tiles := l, hud := { s.hud with state := .armed, source := some .nextBoundary, ready := false, dueAt := 0, armTag := tag, svcSeq := none } } := by
  obtain ⟨l, shadows⟩ := State.TilesOnly.foldl (fun s t => .modTile s t fun q => { q with shadow := false }) allTiles s
  refine ⟨l, ?_⟩
  unfold State.hudArm
  rw [if_neg (by decide)]
  dsimp only
  rw [shadows]
  rfl

theorem huddleDiscard_empties (starts : s.starts d 0x24) (free : s.hud.state ≠ .committed) (svc : s.hud.svcSeq = none) (none : s.link.waiting = []) :
    exec (.huddleDiscard d) s =
      .next (((s.begun d).modHud fun h => { h.unarm with state := .empty, staged := [], curves := [] }).cplOk d 0x24) := by
  have hud := (s.begun_told d).hud
  obtain ⟨-, -, waiting, -⟩ := s.begun_link d
  refine congrArg Host.Outcome.next ((State.startDesc_of_starts starts rfl _).trans ?_)
  dsimp only
  rw [State.hudDiscard_empties (s := s.begun d) (by rw [hud]; exact free) (by rw [hud, svc]) (waiting.trans none)]

/-! ### Snapshots (R252, R254) -/

theorem snapshot_now (starts : s.starts d 0x30) (idle : s.meas.snapBusy = false) (unarmed : s.meas.snapArmed = false) (now : d.byte 8 = 0) :
    exec (.snapshot d) s = .next ((s.begun d).snapLatch.wait d 0x30 none .snapshot) := by
  have meas := (s.begun_told d).meas
  exact congrArg Host.Outcome.next ((State.startDesc_of_starts starts rfl _).trans
    ((if_neg (by simp [meas, idle, unarmed])).trans (by rw [now]; rfl)))

theorem snapshot_atKickoff (starts : s.starts d 0x30) (idle : s.meas.snapBusy = false) (unarmed : s.meas.snapArmed = false) (later : d.byte 8 = 1) :
    exec (.snapshot d) s =
      .next (State.wait { s.begun d with meas := { (s.begun d).meas with snapArmed := true } } d 0x30 none .snapshot) := by
  have meas := (s.begun_told d).meas
  exact congrArg Host.Outcome.next ((State.startDesc_of_starts starts rfl _).trans
    ((if_neg (by simp [meas, idle, unarmed])).trans (by rw [later]; rfl)))

theorem snapshot_busy (starts : s.starts d 0x30) (busy : s.meas.snapBusy = true) :
    exec (.snapshot d) s = .next ((s.begun d).cplDesc d 0x30 .busy 0 []) := by
  have meas := (s.begun_told d).meas
  exact congrArg Host.Outcome.next ((State.startDesc_of_starts starts rfl _).trans (if_pos (by simp [meas, busy])))

/-- What a latch leaves for the snapshot to be written (R252, R253). -/
def State.latched (s : State) : Meas :=
  { s.meas with
    snapBusy := true, snapArmed := false, latchTime := s.rtc, latchMissing := s.fencedTiles,
    latchLanes := allPorts.foldl (fun m p => setBit m p.val (s.laneCarries p)) 0#192 }

/-- The samples latch, and the captures of the tiles that are not fenced are interrupted (R252, R253). -/
theorem State.snapLatch_parts (s : State) : ∃ l, s.snapLatch = { s with tiles := l, meas := s.latched } ∧
    ∀ t : Fin 8, s.snapLatch.tile t = if s.tileFenced t then s.tile t else { s.tile t with cap := (s.tile t).cap.map Capture.snapped } := by
  obtain ⟨l, latched⟩ := State.TilesOnly.foldl (fun a t => State.TilesOnly.unless (c := s.tileFenced t)
    (.modTile a t fun q => { q with cap := q.cap.map Capture.snapped })) allTiles s
  refine ⟨l, congrArg (fun u : State => { u with meas := s.latched }) latched, fun t => ?_⟩
  refine (State.foldl_modTile_tile s.tileFenced (fun q => { q with cap := q.cap.map Capture.snapped }) (List.nodup_finRange 8) s t).trans ?_
  cases fenced : s.tileFenced t <;> simp

/-! ### Table loads (R170, R333) -/

/-- The steps of a chain are in the table's place, to be checked (R170). -/
def State.stepsLoaded (s : State) (c : Chain) : State :=
  ((s.modCfg fun g => { g with stRam := setAt g.stRam (c.target - 16) ⟨c.entries, c.crc, false⟩ }).modHud fun h =>
      { h with newSteps := (List.range 32).filter fun k => k == c.target || h.newSteps.contains k }).hudTouch

/-- The entries of a chain are in the message tables of the tiles it names, to be checked (R82). -/
def State.msgsLoaded (s : State) (c : Chain) : State :=
  (((allTiles.filter fun t => c.target.testBit t.val).foldl
      (fun s t => s.modTile t fun q => { q with mtRam := c.entries, mtCrc := c.crc, mtValid := false }) s).modHud fun h =>
    { h with newMsgs := (List.range 8).filter fun k => c.target.testBit k || h.newMsgs.contains k }).hudTouch

theorem stepTableLoad_loads {n : Fin 14} {c : Chain} (loads : s.link.loads = [c]) (ring : c.ring = n.val) (row : c.op = 0x40#8)
    (free : c.busy = false) :
    exec (.stepTableLoad n) s = .next (((s.modLink fun l => { l with loads := [] }).stepsLoaded c).cplChain c .ok []) :=
  congrArg Host.Outcome.next ((State.tableLoad_of loads ring (by rw [row]; rfl) _).trans (if_neg (by simp [free])))

theorem stepTableLoad_busy {n : Fin 14} {c : Chain} (loads : s.link.loads = [c]) (ring : c.ring = n.val) (row : c.op = 0x40#8)
    (busy : c.busy = true) : exec (.stepTableLoad n) s = .next ((s.modLink fun l => { l with loads := [] }).cplChain c .busy []) :=
  congrArg Host.Outcome.next ((State.tableLoad_of loads ring (by rw [row]; rfl) _).trans (if_pos busy))

theorem msgTableLoad_loads {n : Fin 14} {c : Chain} (loads : s.link.loads = [c]) (ring : c.ring = n.val) (row : c.op = 0x42#8)
    (free : c.busy = false) :
    exec (.msgTableLoad n) s = .next (((s.modLink fun l => { l with loads := [] }).msgsLoaded c).cplChain c .ok []) :=
  congrArg Host.Outcome.next ((State.tableLoad_of loads ring (by rw [row]; rfl) _).trans (if_neg (by simp [free])))

/-- A table of messages goes to the tiles of the mask, and to no other (R82). -/
theorem State.msgsLoaded_parts (s : State) (c : Chain) : ∃ l h, s.msgsLoaded c = { s with tiles := l, hud := h } ∧
    h.newMsgs = ((List.range 8).filter fun k => c.target.testBit k || s.hud.newMsgs.contains k) ∧
    ∀ t : Fin 8, (s.msgsLoaded c).tile t = if c.target.testBit t.val then { s.tile t with mtRam := c.entries, mtCrc := c.crc, mtValid := false }
      else s.tile t := by
  obtain ⟨l, filled⟩ := State.TilesOnly.foldl (fun s t => .modTile s t fun q => { q with mtRam := c.entries, mtCrc := c.crc, mtValid := false })
    (allTiles.filter fun t => c.target.testBit t.val) s
  refine ⟨l, _, (congrArg (fun u : State => (u.modHud _).hudTouch) filled).trans rfl, ?_, fun t => ?_⟩
  · rfl
  · refine (State.foldl_modTile_tile (fun _ => false) (fun q => { q with mtRam := c.entries, mtCrc := c.crc, mtValid := false })
      ((List.nodup_finRange 8).filter _) s t).trans ?_
    simp

/-! ### Curves, parameters, pages and the time (R175, R332, R352) -/

theorem breakerCurveStage_stages (starts : s.starts d 0x41) (unsealed : s.sealed = false) : exec (.breakerCurveStage d) s =
    .next (((s.begun d).stageCurve (d.byte 8) ((List.range 8).map fun k => (d.byte (16 + 4 * k), d.fld (18 + 4 * k) 2))).cplOk d 0x41) :=
  congrArg Host.Outcome.next ((State.startDesc_of_starts starts rfl _).trans (if_neg (by simp [State.begun_sealed, unsealed])))

theorem paramSet_sets (starts : s.starts d 0x50) : exec (.paramSet d) s =
    .next ((((s.begun d).setParam (d.fld 8 2) (BitVec.ofNat 32 (d.fld 12 4))).paramTold (s.begun d) (d.fld 8 2)).cplOk d 0x50) := by
  refine congrArg Host.Outcome.next ((State.startDesc_of_starts starts rfl _).trans ?_)
  unfold State.paramTold
  rfl

theorem paramGet_gets (starts : s.starts d 0x51) (own : d.fld 8 2 ≠ 0x8001) :
    exec (.paramGet d) s = .next ((s.begun d).cplDesc d 0x51 .ok 0 (bytesLE 4 (s.param (d.fld 8 2)))) := by
  have same : (s.begun d).param (d.fld 8 2) = s.param (d.fld 8 2) := by
    unfold State.param State.paramOv
    rw [(s.begun_told d).cfg]
  refine congrArg Host.Outcome.next ((State.startDesc_of_starts starts rfl _).trans ?_)
  dsimp only
  rw [if_neg (by simpa using own), same]

theorem hostPagesBind_binds (starts : s.starts d 0x53) (bind : d.byte 8 = 1) (one : d.byte 12 = 1) : exec (.hostPagesBind d) s =
    .next (((s.begun d).modLink fun l => { l with pages := insertPage s.link.pages (d.fld 10 2) (BitVec.ofNat 64 (d.fld 16 8)) }).cplOk d 0x53) := by
  obtain ⟨-, -, -, pages⟩ := s.begun_link d
  refine congrArg Host.Outcome.next ((State.startDesc_of_starts starts (by simp [bind]) _).trans ?_)
  dsimp only
  rw [one, pages]
  rfl

/-- While no port transfers, a withdrawal of one page is carried out at once (R332). -/
theorem hostPagesWithdraw_withdraws (starts : s.starts d 0x53) (withdraw : d.byte 8 = 2) (one : d.byte 12 = 1) (idle : s.link.waiting = [])
    (still : ∀ p : Fin 192, (s.port p).sc.deep = false) :
    exec (.hostPagesWithdraw d) s = .next (((s.begun d).pageGone (d.fld 10 2)).cplDesc d 0x53 .ok 0 []) := by
  obtain ⟨-, -, waiting, -⟩ := s.begun_link d
  have alone := State.pagesDue_alone (x := d.fld 10 2)
    (s := (s.begun d).modLink fun k => { k with waiting := k.waiting ++
      [{ ((s.begun d).waitingOf d 0x53 none .pages) with data := bytesLE 2 (d.fld 10 2) ++ bytesLE 1 (d.byte 12) }] })
    (fun p => (congrArg (fun q : Port => q.sc.deep) ((s.begun_told d).port p)).trans (still p))
    (by rw [State.modLink_link, waiting, idle]; exact List.nil_append _) rfl rfl (by rw [one]) (d.fld_lt 10 2)
  exact congrArg Host.Outcome.next ((State.startDesc_of_starts starts (by simp [withdraw]) _).trans alone)

theorem rtcSet_sets (starts : s.starts d 0x71) (free : s.upd.armed ≠ some .atTime) :
    exec (.rtcSet d) s = .next (State.cplOk { s.begun d with rtc := d.fld 8 8 % 2 ^ 63 } d 0x71) := by
  obtain ⟨a, c, e⟩ := s.begun_eq d
  exact congrArg Host.Outcome.next ((State.startDesc_of_starts starts rfl _).trans (if_neg (by simp [e, free])))

theorem rtcSet_busy (starts : s.starts d 0x71) (armed : s.upd.armed = some .atTime) :
    exec (.rtcSet d) s = .next ((s.begun d).cplDesc d 0x71 .busy 0 []) := by
  obtain ⟨a, c, e⟩ := s.begun_eq d
  exact congrArg Host.Outcome.next ((State.startDesc_of_starts starts rfl _).trans (if_pos (by simp [e, armed])))

end Sys2Proof.Machine
end

section
namespace Sys2Proof.Machine

/-- Settles O39, one descriptor after the other. -/
theorem deviceDescriptors : Obligations.DeviceDescriptors := by
  unfold Obligations.DeviceDescriptors
  refine ⟨fun d s starts unsealed budget => ?_, fun d s starts shut => ⟨_, budgetStage_sealed starts shut, State.begun_completes starts.1 .busy 0 []⟩,
    fun d p s starts port unsealed row => ?_, fun d s starts state staged curves steps msgs => ?_, fun d s starts state staged curves steps msgs => ?_,
    fun d s starts boundary ready => ?_,
    fun d s starts untimed shut => ⟨_, kickoffArm_sealed starts untimed shut, State.begun_completes starts.1 .busy 0 []⟩,
    fun d s starts timed late => ⟨_, kickoffArm_late starts timed late, State.begun_completes starts.1 .badField 0 _⟩,
    fun d s starts free svc idle => ?_, fun d s starts idle unarmed now => ?_, fun d s starts idle unarmed later => ?_, fun d s starts busy => ?_,
    fun n c s loads ring row free lo hi len => ?_, fun n c s loads ring row busy => ?_, fun n c t s loads ring row free hit => ?_,
    fun d s starts unsealed => ?_, fun d s starts events _ empty => ?_,
    fun d s starts own => ⟨_, paramGet_gets starts own, State.begun_completes starts.1 .ok 0 _⟩, fun d s starts bind one => ?_,
    fun d s starts withdraw one idle still => ?_, fun d s starts free => ?_, fun d s starts armed => ?_⟩
  · have told := s.begun_told d
    obtain ⟨h, staging, state, field⟩ := State.stageMask_stages (s := s.begun d) ((s.begun_sealed d).trans unsealed) 0x1000 (mask := 0xFFFFF#32)
      (by decide) (BitVec.ofNat 32 (d.fld 8 4))
    refine ⟨_, budgetStage_stages starts unsealed budget, field, ?_⟩
    rw [staging]
    exact ⟨told.cfg, told.ports, state, waits_last rfl rfl⟩
  · have told := s.begun_told d
    obtain ⟨v, low, run⟩ := classStage_stages starts port unsealed row
    obtain ⟨h, staging, -, field⟩ := State.stageMask_stages (s := s.begun d) ((s.begun_sealed d).trans unsealed) (ppOff p.val 0x44)
      (mask := 0xFF#32) (by decide) v
    refine ⟨_, run, field.trans low, ?_⟩
    rw [staging]
    exact ⟨told.ports, told.cfg, waits_last rfl rfl⟩
  · have hud := (s.begun_told d).hud
    have same : ((s.begun d).modHud fun h => { h with state := if h.state == .staged then .checked else h.state }).hud = (s.begun d).hud := by
      rw [State.modHud_hud, hud, state]
      exact congrArg (fun x : HuddleState => { s.hud with state := x }) state.symm
    have own : State.OwnEffect (s.begun d) ((s.begun d).modHud fun h => { h with state := if h.state == .staged then .checked else h.state }) :=
      { hud := same }
    exact ⟨_, huddleCheck_passes starts staged curves steps msgs, own.completes starts.1 .ok 0 []⟩
  · have told := s.begun_told d
    have done := State.ToHost.cplOk ((s.begun d).modHud fun h => { h with state := if h.state == .staged then .checked else h.state }) d 0x22
    refine ⟨_, huddleCheck_passes starts staged curves steps msgs, done.hud.trans ?_, State.begun_ends starts.1 .ok 0 [], done.cfg.trans told.cfg⟩
    rw [State.modHud_hud, told.hud, state]
    rfl
  · have told := s.begun_told d
    obtain ⟨l, armed⟩ := (s.begun d).hudArm_boundary (some d.tag)
    refine ⟨_, kickoffArm_boundary starts boundary ready, ?_⟩
    rw [armed]
    exact ⟨rfl, rfl, rfl, (congrArg Huddle.staged told.hud :), rfl, told.ports, told.cfg, waits_last rfl rfl⟩
  · have told := s.begun_told d
    have done := State.ToHost.cplOk ((s.begun d).modHud fun h => { h.unarm with state := .empty, staged := [], curves := [] }) d 0x24
    refine ⟨_, huddleDiscard_empties starts free svc idle, ?_, ?_, ?_, ?_, State.begun_ends starts.1 .ok 0 [], done.cfg.trans told.cfg,
      done.ports.trans told.ports⟩
    all_goals exact (congrArg _ done.hud).trans rfl
  · have told := s.begun_told d
    obtain ⟨l, latch, tiles⟩ := (s.begun d).snapLatch_parts
    have fences (t : TileId) : (s.begun d).tileFenced t = s.tileFenced t := by
      unfold State.tileFenced State.domFenced
      rw [told.pwr]
    have missing : (s.begun d).fencedTiles = s.fencedTiles := by
      unfold State.fencedTiles
      simp only [fences]
    refine ⟨_, snapshot_now starts idle unarmed now, ?_, ?_, ?_, ?_, ?_, ?_, ?_, fun t => (tiles t).trans (by rw [fences, told.tile])⟩
    all_goals rw [latch]
    · rfl
    · exact (s.begun_told d).rtc
    · exact missing
    · exact waits_last rfl rfl
    · exact told.ports
    · exact told.hud
    · exact told.cfg
  · obtain ⟨a, c, begun⟩ := s.begun_eq d
    refine ⟨_, snapshot_atKickoff starts idle unarmed later, ?_⟩
    rw [begun]
    exact ⟨rfl, fun _ _ => rfl, rfl, rfl, rfl, rfl, rfl, rfl, rfl, rfl⟩
  · obtain ⟨ends, same⟩ := State.begun_completes (s := s) starts.1 .busy 0 []
    exact ⟨_, snapshot_busy starts busy, ends, (State.ToHost.cplDesc _ _ _ _ _ _).meas.trans (s.begun_told d).meas, same⟩
  · have done := ((s.modLink fun l => { l with loads := [] }).stepsLoaded c).cplChain_told c .ok []
    refine ⟨_, stepTableLoad_loads loads ring row free, ?_, State.cplChain_loads _ _ _ _, ?_, done.ports, done.tiles⟩
    · have place : c.target - 16 < s.cfg.stRam.length := by omega
      rw [done.cfg]
      exact List.getElem?_set_self place
    · rw [done.hud]
      exact List.mem_filter.mpr ⟨List.mem_range.mpr hi, by simp⟩
  · have done := (s.modLink fun l => { l with loads := [] }).cplChain_told c .busy []
    obtain ⟨r, k, e⟩ := done
    refine ⟨_, stepTableLoad_busy loads ring row busy, State.cplChain_loads _ _ _ _, ?_⟩
    rw [e]
    exact ⟨fun _ _ => rfl, rfl, rfl, rfl, rfl, rfl, rfl, rfl, rfl⟩
  · obtain ⟨l, h, filled, msgs, tiles⟩ := (s.modLink fun l => { l with loads := [] }).msgsLoaded_parts c
    have done := ((s.modLink fun l => { l with loads := [] }).msgsLoaded c).cplChain_told c .ok []
    have ports := congrArg State.ports filled
    have cfg := congrArg State.cfg filled
    have tile := (done.tile t).trans ((tiles t).trans (if_pos hit))
    refine ⟨_, msgTableLoad_loads loads ring row free, congrArg Tile.mtRam tile, congrArg Tile.mtCrc tile, congrArg Tile.mtValid tile, ?_,
      fun q miss => (done.tile q).trans ((tiles q).trans (if_neg (by simp [miss]))), done.ports.trans ports,
      done.cfg.trans cfg⟩
    rw [done.hud, filled]
    dsimp only
    rw [msgs]
    exact List.mem_filter.mpr ⟨List.mem_range.mpr t.isLt, by simp [hit]⟩
  · have told := s.begun_told d
    have done := State.ToHost.cplOk ((s.begun d).stageCurve (d.byte 8) ((List.range 8).map fun k => (d.byte (16 + 4 * k), d.fld (18 + 4 * k) 2)))
      d 0x41
    refine ⟨_, breakerCurveStage_stages starts unsealed, ?_, ?_, State.begun_ends starts.1 .ok 0 [], done.cfg.trans told.cfg, done.ports.trans told.ports⟩
    · rw [done.hud]
      exact insertCurve_mem _ _
    · exact (congrArg Huddle.staged done.hud).trans (congrArg Huddle.staged told.hud :)
  · have told := s.begun_told d
    have frame := State.paramTold_frame ((s.begun d).setParam (d.fld 8 2) (BitVec.ofNat 32 (d.fld 12 4))) (s.begun d) (d.fld 8 2)
    have done := State.ToHost.cplOk (((s.begun d).setParam (d.fld 8 2) (BitVec.ofNat 32 (d.fld 12 4))).paramTold (s.begun d) (d.fld 8 2))
      d 0x50
    obtain ⟨cfg, board, -, -⟩ := frame.board
    have cfg := done.cfg.trans cfg
    refine ⟨_, paramSet_sets starts, fun differs => ?_, ?_, ?_, ?_, ?_⟩
    · have word : (BitVec.ofNat 32 (d.fld 12 4)).toNat = d.fld 12 4 := Nat.mod_eq_of_lt (d.fld_lt 12 4)
      unfold State.paramOv
      rw [cfg]
      exact State.setParam_paramOv events ((congrArg Cfg.params told.cfg).trans empty) (by rwa [word])
    · exact (congrArg Cfg.stRam cfg).trans (congrArg Cfg.stRam told.cfg :)
    · exact (congrArg Cfg.budget cfg).trans (congrArg Cfg.budget told.cfg :)
    · exact done.tiles.trans ((State.paramTold_tiles _ _ _).trans told.tiles)
    · exact done.board.trans (board.trans told.board)
  · have own : State.OwnEffect (s.begun d)
        ((s.begun d).modLink fun l => { l with pages := insertPage s.link.pages (d.fld 10 2) (BitVec.ofNat 64 (d.fld 16 8)) }) := {}
    obtain ⟨ends, same⟩ := own.completes starts.1 .ok 0 []
    obtain ⟨a, b, link⟩ := State.cplDesc_link _ d 0x53 .ok 0 []
    refine ⟨_, hostPagesBind_binds starts bind one, ?_, ends, same⟩
    rw [State.cplOk, link]
    exact insertPage_mem _ _ _
  · have own : State.OwnEffect (s.begun d) ((s.begun d).pageGone (d.fld 10 2)) := {}
    obtain ⟨ends, same⟩ := own.completes starts.1 .ok 0 []
    obtain ⟨-, -, -, pages⟩ := s.begun_link d
    obtain ⟨a, b, link⟩ := ((s.begun d).pageGone (d.fld 10 2)).cplDesc_link d 0x53 .ok 0 []
    have left : (((s.begun d).pageGone (d.fld 10 2)).cplDesc d 0x53 .ok 0 []).link.pages = s.link.pages.filter fun e => e.1 != d.fld 10 2 := by
      rw [link, ← pages]
      rfl
    refine ⟨_, hostPagesWithdraw_withdraws starts withdraw one idle still, fun e mem => ?_, fun e mem other => ?_, ends, same⟩
    · rw [left] at mem
      simpa using (List.mem_filter.mp mem).2
    · rw [left]
      exact List.mem_filter.mpr ⟨mem, by simpa using other⟩
  · have own : State.OwnEffect (s.begun d) { s.begun d with rtc := d.fld 8 8 % 2 ^ 63 } := {}
    obtain ⟨ends, same⟩ := own.completes starts.1 .ok 0 []
    obtain ⟨rtc, aon, -, -⟩ := (State.cplDesc_frame (P := fun _ => False) { s.begun d with rtc := d.fld 8 8 % 2 ^ 63 } d 0x71 .ok 0 []).clock
    exact ⟨_, rtcSet_sets starts free, rtc, aon.trans (s.begun_aon d), ends, same⟩
  · obtain ⟨ends, same⟩ := State.begun_completes (s := s) starts.1 .busy 0 []
    obtain ⟨rtc, -, -, -⟩ := (State.cplDesc_frame (P := fun _ => False) (s.begun d) d 0x71 .busy 0 []).clock
    exact ⟨_, rtcSet_busy starts armed, rtc.trans (s.begun_told d).rtc, ends, same⟩

end Sys2Proof.Machine
end
